-- ==== Sys2Proof/Word.lean ====
section
/-! DEFINITION. The plainest types of the model: bytes, register words and the index ranges of the module's units (R1, R16,
R19, R20, R405, R417). Everything a test could show wrong stands in the files of `Machine/`. -/

namespace Sys2Proof

/-- One byte of a structure or of a memory (R10: multi-byte structures are little-endian). -/
abbrev Byte := BitVec 8
/-- A 32-bit register word (R350). -/
abbrev Word := BitVec 32
/-- Field die FDn, n = 0 to 7. -/
abbrev DieIx := Fin 8
/-- A region: 72 * die + g, g = 8 * r + c (R20, R68). -/
abbrev RegionIx := Fin 576
/-- A tile: 1152 * die + 36 * column + physical row (R143). -/
abbrev TileIx := Fin 9216
/-- A link port P0 to P35. -/
abbrev PortIx := Fin 36
/-- A Rim die RM0 to RM5 (R19). -/
abbrev RimIx := Fin 6
/-- An HBM4 stack HS0 to HS7. -/
abbrev StackIx := Fin 8
/-- A tier-2 channel, 8 to each of TC0 and TC1 (R21). -/
abbrev ChannelIx := Fin 16
/-- A tier-2 controller. -/
abbrev TcIx := Fin 2
/-- A mailbox (R417). -/
abbrev MbxIx := Fin 32
/-- A host queue pair (R354). -/
abbrev QueueIx := Fin 64
/-- A host command's identifier (R358). -/
abbrev Cid := BitVec 16

/-- The agents that can write a register or a mailbox (R405). -/
inductive Agent where
  | host | mc0 | mc1 | mc2 | mc3 | security | ethernet | i3c
deriving DecidableEq, Repr

/-- The LO registers of the HBM_ and TTM_ blocks whose read latches a HI register (R277). -/
inductive TierLo where
  | t1Limit
  | t1UeAddr (stack : StackIx)
  | t2Limit
  | t2UeAddr (controller : TcIx)
deriving DecidableEq, Repr

/-- A mirrored table entry whose two copies are not both clean and equal (R327): the Rim, the table (0 slot, 1 item, 2 peal,
3 route, 4 via), the index, the port of a slot entry, and how the copies stand: 0 a single-bit error in one, 1 one uncorrectable and
the other clean, 2 both clean and different, 3 both uncorrectable. -/
structure TableFind where
  rim : RimIx
  table : Fin 5
  index : BitVec 16
  port : PortIx
  result : Fin 4
deriving DecidableEq, Repr

/-- What the environment gives a DMA_WRITE: the bytes host memory returns; a read of host memory that fails, its address and the
units read before it; the units, by their number in the request, whose write to a scratchpad meets a port-A write of the unit, and
whether the last of them meets one in its retry as well (R243). -/
structure DmaIn where
  data : List Byte
  fail : Option (BitVec 64 × Nat)
  meets : List Nat
  again : Bool
deriving DecidableEq, Repr

/-- What the environment gives an access that reads a tier: the units at which it corrects an error and at which it cannot
(R261, R267). -/
structure TierIn where
  ce : List Nat
  ue : List Nat
deriving DecidableEq, Repr

/-- The two ends of CONTEXT_REQUEST (R336): a local agent (numbered as R329 does) sends a packet of `flits` + 1 flits with `len` + 1
bytes of `data` in each (R283, R329: the route field, len_m1 with it, is the same in every flit), whose pair may ask for an order
context, with the via index that the generator of R333 draws; or the home Rim takes a request that has arrived. -/
inductive ContextSide where
  | send (agent : Fin 11) (dest : BitVec 16) (vc : Fin 8) (flits : Fin 4) (len : Fin 240) (data : Vector Byte 960) (via : Fin 16)
  | arrived
deriving DecidableEq, Repr

/-- A bit of a scratchpad unit's stored copy turns, or two of one word do (R244). -/
structure Upset where
  tile : TileIx
  unit' : BitVec 15
  double : Bool
deriving DecidableEq, Repr

/-- A memory access of an agent inside the module, a read or a write of one unit (R240, R249, R256, R264): the DMA of the security
block or of firmware on the non-secure channels to a scratchpad, or firmware's to a tier. -/
inductive InnerAccess where
  | spad (security : Bool) (tile : TileIx) (unit' : BitVec 15) (data : Option (Vector Byte 32))
  | tier (tier2 : Bool) (unit' : BitVec 35) (data : Option (Vector Byte 32))
deriving DecidableEq, Repr

/-- What the environment gives a machine beat: the local tile cycles that each region's clock has made in the beat that ends (R55:
a droop stretches them), scratchpad bits that turned, table entries whose copies no longer stand clean and equal (R327), errors that
the packages of each tier-2 controller reported (R267), and what agents inside the module did to the memories. -/
structure BeatIn where
  cycles : Vector (BitVec 7) 576
  upsets : List Upset
  tables : List TableFind
  ecs : Vector (BitVec 8) 2
  inner : List InnerAccess
deriving DecidableEq, Repr

/-- What the environment gives a downbeat (R47, R68, R70, R272): for each region its average current of the measure just ended in
25 mA steps; the dies whose forecast row is late; for each memory controller (HS0 to HS7, TC0, TC1) its busy time in 1/256; for
each port the beat fraction at which its time word leaves; and whether dies that came back have reloaded their beat copies
(R44). -/
structure DownIn where
  current : Vector (BitVec 16) 576
  lateRows : List DieIx
  busy : Vector (BitVec 8) 10
  frac : Vector (BitVec 16) 36
  reloaded : Bool
deriving DecidableEq, Repr

/-- What the security block finds of a firmware image (R408): signature, CRC and security version; and its version. -/
structure ImageCheck where
  signed : Bool
  crc : Bool
  security : BitVec 16
  version : Word
deriving DecidableEq, Repr

/-- What the environment gives a boot: the straps (R28), the checks of images 0 and 1, and the milliseconds it took. -/
structure BootIn where
  straps : BitVec 16
  image0 : ImageCheck
  image1 : ImageCheck
  ms : BitVec 16
deriving DecidableEq, Repr

end Sys2Proof
end

