-- ==== Sys2Proof/Syntax.lean ====
section
/-! DEFINITION. The commands: one constructor for each row of the opcode table, in its order, with the row's mnemonic, its rule and
the operands it needs. What an operand of the environment means stands at the command's meaning in `Machine/`. -/

namespace Sys2Proof

/-- A command. -/
inductive Instr where
  /-- COLD_RESET (R433). -/
  | coldReset
  /-- UNDERVOLTAGE (R32). -/
  | undervoltage
  /-- PERST_ASSERT (R24). -/
  | perstAssert
  /-- PERST_RELEASE (R30). -/
  | perstRelease
  /-- PACKAGE_RESET (R436). -/
  | packageReset
  /-- HUB_READY (R29). -/
  | hubReady (b : BootIn)
  /-- ATTENTION (R24). -/
  | attention
  /-- TAMPER (R428). -/
  | tamper
  /-- WIPE (R429). -/
  | wipe
  /-- THERMAL_WARNING (R38). -/
  | thermalWarning (cls : Fin 7) (temp : BitVec 8)
  /-- THERMAL_TRIP (R38). -/
  | thermalTrip (cls : Fin 7) (unitNo : Fin 16) (sensor : Fin 128) (temp : BitVec 8)
  /-- POWER_STAGE_OFF (R38). -/
  | powerStageOff
  /-- REF_LOST (R46). -/
  | refLost
  /-- PMBUS_POLL (R416). -/
  | pmbusPoll (vin : BitVec 8) (iin : BitVec 8) (temp : BitVec 8) (fault : Bool)
  /-- DOWNBEAT (R6). -/
  | downbeat (x : DownIn)
  /-- REGION_CLOCK_RESTART (R64). -/
  | regionClockRestart (r : RegionIx)
  /-- TIME_WORD (R48). -/
  | timeWord (p : PortIx) (frac : BitVec 16)
  /-- HOLDOVER (R49). -/
  | holdover
  /-- BEAT_CTRL_WRITE (R73). -/
  | beatCtrlWrite (a : Agent) (v : Word)
  /-- LIMIT_LOCK (R73). -/
  | limitLock (a : Agent)
  /-- BEAT_COUNT_LO_READ (R74). -/
  | beatCountLoRead (a : Agent) (frac : BitVec 16)
  /-- FSET_WRITE (R63). -/
  | fsetWrite (r : RegionIx) (v : Word)
  /-- PLAN_LOAD (R85). -/
  | planLoad (q : QueueIx) (cid : Cid)
  /-- PLAN_ARM (R84). -/
  | planArm (q : QueueIx) (cid : Cid)
  /-- START_BEAT (R84). -/
  | startBeat
  /-- STOP_AT_MEASURE (R103). -/
  | stopAtMeasure (q : QueueIx) (cid : Cid)
  /-- PLAN_UNLOAD (R86). -/
  | planUnload (q : QueueIx) (cid : Cid)
  /-- PLAN_STATUS (R362). -/
  | planStatus (q : QueueIx) (cid : Cid)
  /-- STATS_CLEAR (R109). -/
  | statsClear (v : Word)
  /-- PLN_LO_READ (R110). -/
  | plnLoRead (a : Agent) (which : Fin 3)
  /-- REGION_CHECK (R88). -/
  | regionCheck (ps : Word)
  /-- DUE_BEAT_CHECK (R94). -/
  | dueBeatCheck
  /-- SECOND_CHECK (R94). -/
  | secondCheck
  /-- TOLL (R97). -/
  | toll (r : RimIx)
  /-- HUB_TOLL_RECEIVE (R98). -/
  | hubTollReceive
  /-- SEEN_ENTRY_RETIRE (R97). -/
  | seenEntryRetire (r : RimIx)
  /-- FINISH (R107). -/
  | finish (p : PortIx)
  /-- STOP_DRAIN_COMPLETE (R105). -/
  | stopDrainComplete
  /-- STOP_DRAIN_TIMEOUT (R105). -/
  | stopDrainTimeout
  /-- NOP (R209). -/
  | nop (t : TileIx) (e : Nat)
  /-- HALT (R210). -/
  | halt (t : TileIx) (e : Nat)
  /-- VOICE (R216). -/
  | voice (t : TileIx) (e : Nat)
  /-- VOICE_LOAD_COMPLETE (R118). -/
  | voiceLoadComplete (t : TileIx) (e : Nat)
  /-- SEED (R212). -/
  | seed (t : TileIx) (e : Nat)
  /-- CANARY (R213). -/
  | canary (t : TileIx) (e : Nat)
  /-- SETC (R211). -/
  | setc (t : TileIx) (e : Nat)
  /-- SETC_S (R211). -/
  | setcS (t : TileIx) (e : Nat)
  /-- ROLL (R215). -/
  | roll (t : TileIx) (e : Nat)
  /-- WAIT_BEAT (R214). -/
  | waitBeat (t : TileIx) (e : Nat)
  /-- WAIT_BEAT_RELEASE (R214). -/
  | waitBeatRelease (t : TileIx) (e : Nat)
  /-- PUSH (R217). -/
  | push (t : TileIx) (e : Nat)
  /-- PULL (R218). -/
  | pull (t : TileIx) (e : Nat)
  /-- SET_FLAG (R219). -/
  | setFlag (t : TileIx) (e : Nat)
  /-- WAIT_FLAG (R220). -/
  | waitFlag (t : TileIx) (e : Nat)
  /-- CLR_FLAG (R221). -/
  | clrFlag (t : TileIx) (e : Nat)
  /-- MMA (R225). -/
  | mma (t : TileIx) (e : Nat)
  /-- MMA_COMPLETE (R120). -/
  | mmaComplete (t : TileIx) (e : Nat)
  /-- MMA_PLANE (R222). -/
  | mmaPlane (t : TileIx) (e : Nat)
  /-- MMA_PLANE_COMPLETE (R199). -/
  | mmaPlaneComplete (t : TileIx) (e : Nat)
  /-- VRUN (R228). -/
  | vrun (t : TileIx) (e : Nat)
  /-- VRUN_COMPLETE (R229). -/
  | vrunComplete (t : TileIx) (e : Nat)
  /-- LOAD_T1 (R235). -/
  | loadT1 (t : TileIx) (e : Nat)
  /-- STORE_T1 (R235). -/
  | storeT1 (t : TileIx) (e : Nat)
  /-- GATHER_T1 (R235). -/
  | gatherT1 (t : TileIx) (e : Nat)
  /-- FENCE_T1 (R239). -/
  | fenceT1 (t : TileIx) (e : Nat)
  /-- LOAD_T2 (R238). -/
  | loadT2 (t : TileIx) (e : Nat)
  /-- STORE_T2 (R238). -/
  | storeT2 (t : TileIx) (e : Nat)
  /-- GATHER_T2 (R238). -/
  | gatherT2 (t : TileIx) (e : Nat)
  /-- SCATTER_T2 (R238). -/
  | scatterT2 (t : TileIx) (e : Nat)
  /-- FENCE_T2 (R239). -/
  | fenceT2 (t : TileIx) (e : Nat)
  /-- TIER_ACCESS_COMPLETE (R235). -/
  | tierAccessComplete (t : TileIx) (k : Nat) (e : Nat) (late : Nat) (ce : List Nat) (ue : List Nat)
  /-- T1_ACCESS_TIMEOUT (R260). -/
  | t1AccessTimeout (t : TileIx) (k : Nat)
  /-- QUEUE_WORD_ARRIVAL (R126). -/
  | queueWordArrival (t : TileIx) (q : Fin 6) (e : Nat)
  /-- FLAG_SET_ARRIVAL (R136). -/
  | flagSetArrival (t : TileIx) (q : Fin 6) (e : Nat)
  /-- QUEUE_WAIT_BOUND (R194). -/
  | queueWaitBound (t : TileIx) (e : Nat)
  /-- FLAG_WAIT_BOUND (R194). -/
  | flagWaitBound (t : TileIx) (e : Nat)
  /-- SEQUENCER_PARITY (R204). -/
  | sequencerParity (t : TileIx) (struct : Word)
  /-- DATAPATH_PARITY (R204). -/
  | datapathParity (t : TileIx) (vector : Bool) (struct : Word)
  /-- CROSSING_OVERFLOW (R62). -/
  | crossingOverflow (r : RegionIx)
  /-- TILE_HALT_CLEAR (R141). -/
  | tileHaltClear (t : TileIx)
  /-- FORCE_HALT (R145). -/
  | forceHalt (t : TileIx)
  /-- TIL_HALT_BEAT_LO_READ (R144). -/
  | tilHaltBeatLoRead (a : Agent) (t : TileIx)
  /-- BACKGROUND_TEST_STEP (R245). -/
  | backgroundTestStep (t : TileIx) (b : Fin 8) (found : Fin 3)
  /-- PATROL_SCRUB (R263). -/
  | patrolScrub (st : StackIx) (unitNo : Nat) (found : Fin 3)
  /-- T1_STACK_FAIL (R273). -/
  | t1StackFail (st : StackIx)
  /-- T2_CHANNEL_FAIL (R273). -/
  | t2ChannelFail (c : ChannelIx)
  /-- FLD_SPAD_SECURE_WRITE (R248). -/
  | fldSpadSecureWrite (a : Agent) (d : DieIx) (v : Word)
  /-- PLAN_LIMIT_LO_WRITE (R277). -/
  | planLimitLoWrite (tier2 : Bool) (v : Word)
  /-- PLAN_LIMIT_HI_WRITE (R255). -/
  | planLimitHiWrite (tier2 : Bool) (v : Word)
  /-- HBM_TTM_LO_READ (R277). -/
  | hbmTtmLoRead (a : Agent) (r : TierLo)
  /-- LINK_DETECT (R289). -/
  | linkDetect (p : PortIx)
  /-- IDENTIFY_BLOCK (R291). -/
  | identifyBlock (p : PortIx) (b : Vector Byte 64)
  /-- EQUALIZE_DONE (R292). -/
  | equalizeDone (p : PortIx) (ok : Bool)
  /-- LANE_CHECK_DONE (R289). -/
  | laneCheckDone (p : PortIx) (mask : BitVec 8)
  /-- FEC_ALIGN_DONE (R289). -/
  | fecAlignDone (p : PortIx)
  /-- FLIT_SYNC_DONE (R290). -/
  | flitSyncDone (p : PortIx)
  /-- TRAINING_TIMEOUT (R293). -/
  | trainingTimeout (p : PortIx)
  /-- IDLE_HOLD_EXPIRY (R293). -/
  | idleHoldExpiry (p : PortIx)
  /-- FLIT_RX (R298). -/
  | flitRx (p : PortIx) (b : Vector Byte 256) (cw : Fin 3)
  /-- FLIT_TIME (R307). -/
  | flitTime (p : PortIx) (ft : Fin 512)
  /-- REPEAT_SEND (R288). -/
  | repeatSend (p : PortIx)
  /-- NAK (R300). -/
  | nak (p : PortIx)
  /-- SNAK (R302). -/
  | snak (p : PortIx)
  /-- CREDIT (R308). -/
  | credit (p : PortIx)
  /-- CREDIT_QUERY (R308). -/
  | creditQuery (p : PortIx)
  /-- CREDIT_SEND (R308). -/
  | creditSend (p : PortIx)
  /-- CREDIT_TIMEOUT (R308). -/
  | creditTimeout (p : PortIx) (v : Fin 8)
  /-- RESET_REQ (R296). -/
  | resetReq (p : PortIx)
  /-- REPLAY_TIMEOUT (R300). -/
  | replayTimeout (p : PortIx)
  /-- GAP_TIMEOUT (R303). -/
  | gapTimeout (p : PortIx)
  /-- LOCK_LOSS (R294). -/
  | lockLoss (p : PortIx)
  /-- LINK_BROKEN (R314). -/
  | linkBroken (p : PortIx)
  /-- LNK_CTRL_RESET (R295). -/
  | lnkCtrlReset (p : PortIx) (v : Word)
  /-- LNK_CTRL_ENABLE (R297). -/
  | lnkCtrlEnable (p : PortIx) (v : Word)
  /-- CFG_LOCK (R316). -/
  | cfgLock (p : PortIx) (v : Word)
  /-- LNK_CFG_WRITE (R316). -/
  | lnkCfgWrite (p : PortIx) (v : Word)
  /-- LNK_TIMER_WRITE (R316). -/
  | lnkTimerWrite (p : PortIx) (v : Word)
  /-- LNK_PEER_LO_READ (R315). -/
  | lnkPeerLoRead (a : Agent) (p : PortIx)
  /-- TILE_WORD_TO_FLIT (R477). -/
  | tileWordToFlit (t : TileIx) (low : Bool)
  /-- TABLE_SCRUB (R328). -/
  | tableScrub (r : RimIx)
  /-- CONTEXT_REQUEST (R336). -/
  | contextRequest (c : ContextSide)
  /-- GRANT (R336). -/
  | grant
  /-- GRANT_SEND (R337). -/
  | grantSend (source : BitVec 16) (vc : Fin 8)
  /-- ORDER_RESTORATION (R338). -/
  | orderRestoration
  /-- RELEASE (R339). -/
  | release
  /-- IDLE_RELEASE (R339). -/
  | idleRelease (dest : BitVec 16) (vc : Fin 8)
  /-- ABORT (R334). -/
  | abort
  /-- ESCAPE (R332). -/
  | escape (vc : Fin 8)
  /-- RTE_FENCE_WRITE (R340). -/
  | rteFenceWrite (a : Agent) (hi : Bool) (v : Word)
  /-- RTE_TBL_ADDR_WRITE (R347). -/
  | rteTblAddrWrite (a : Agent) (v : Word)
  /-- RTE_TBL_DATA_HI_WRITE (R347). -/
  | rteTblDataHiWrite (a : Agent) (v : Word)
  /-- CONGESTION_SAMPLE (R344). -/
  | congestionSample (stalls : Vector (BitVec 16) 10)
  /-- INTERFACE_ENABLE (R352). -/
  | interfaceEnable
  /-- INTERFACE_DISABLE (R353). -/
  | interfaceDisable
  /-- SQ_DOORBELL (R355). -/
  | sqDoorbell (q : QueueIx) (v : Word)
  /-- CQ_DOORBELL (R355). -/
  | cqDoorbell (q : QueueIx) (v : Word)
  /-- EVENT_RING_DOORBELL (R377). -/
  | eventRingDoorbell (v : Word)
  /-- COMMAND_FETCH (R356). -/
  | commandFetch (q : QueueIx) (slots : Vector Byte 128) (heads : Vector (Fin 4) 64)
  /-- NOP_COMMAND (R362). -/
  | nopCommand (q : QueueIx) (cid : Cid)
  /-- IDENTIFY (R365). -/
  | identify (q : QueueIx) (cid : Cid)
  /-- FEATURE_GET (R362). -/
  | featureGet (q : QueueIx) (cid : Cid)
  /-- QUEUE_CREATE (R363). -/
  | queueCreate (q : QueueIx) (cid : Cid)
  /-- QUEUE_DELETE (R363). -/
  | queueDelete (q : QueueIx) (cid : Cid)
  /-- DMA_WRITE (R367). -/
  | dmaWrite (q : QueueIx) (cid : Cid) (e : DmaIn)
  /-- DMA_READ (R367). -/
  | dmaRead (q : QueueIx) (cid : Cid) (e : TierIn)
  /-- DMA_COMPLETE (R369). -/
  | dmaComplete (q : QueueIx) (cid : Cid)
  /-- FENCE (R368). -/
  | fence (q : QueueIx) (cid : Cid)
  /-- INGEST_PUSH (R375). -/
  | ingestPush (q : QueueIx) (cid : Cid) (data : List Byte) (hostFail : Option (BitVec 64))
  /-- INGEST_WINDOW_CLOSE (R374). -/
  | ingestWindowClose (stream : Fin 16) (part : List Byte)
  /-- PORT_STATUS (R362). -/
  | portStatus (q : QueueIx) (cid : Cid)
  /-- PORT_RESET (R363). -/
  | portReset (q : QueueIx) (cid : Cid)
  /-- PORT_ENABLE (R363). -/
  | portEnable (q : QueueIx) (cid : Cid)
  /-- SLOT_WRITE (R387). -/
  | slotWrite (q : QueueIx) (cid : Cid)
  /-- SLOT_CLEAR (R387). -/
  | slotClear (q : QueueIx) (cid : Cid)
  /-- SLOT_READ (R400). -/
  | slotRead (q : QueueIx) (cid : Cid)
  /-- HEADS_GATE (R387). -/
  | headsGate (q : QueueIx) (cid : Cid)
  /-- TEL_READ (R469). -/
  | telRead (q : QueueIx) (cid : Cid)
  /-- FAULT_STATUS (R362). -/
  | faultStatus (q : QueueIx) (cid : Cid)
  /-- FAULT_CLEAR (R363). -/
  | faultClear (q : QueueIx) (cid : Cid)
  /-- DUMP_READ (R456). -/
  | dumpRead (q : QueueIx) (cid : Cid) (e : TierIn)
  /-- HALT_CLEAR (R363). -/
  | haltClear (q : QueueIx) (cid : Cid)
  /-- RESET_FIELD (R364). -/
  | resetField (q : QueueIx) (cid : Cid)
  /-- RESET_PACKAGE (R364). -/
  | resetPackage (q : QueueIx) (cid : Cid)
  /-- LC_QUERY (R362). -/
  | lcQuery (q : QueueIx) (cid : Cid)
  /-- LC_REQUEST (R426). -/
  | lcRequest (q : QueueIx) (cid : Cid)
  /-- LC_FUSE_PROGRAM (R427). -/
  | lcFuseProgram
  /-- BAR2_ACCESS (R371). -/
  | bar2Access (off : BitVec 36) (last : Fin 4096) (write : Bool) (data : Vector Byte 4096) (e : TierIn)
  /-- BAR0_INVALID_ACCESS (R350). -/
  | bar0InvalidAccess (write : Bool)
  /-- RESERVED_OFFSET_ACCESS (R472). -/
  | reservedOffsetAccess (write : Bool)
  /-- HST_LO_READ (R381). -/
  | hstLoRead (a : Agent) (which : Fin 3)
  /-- PCIE_LINK_DOWN (R378). -/
  | pcieLinkDown
  /-- WALK_COMPLETE (R395). -/
  | walkComplete
  /-- VERIFY_BEAT (R391). -/
  | verifyBeat (k : Fin 64) (beats : BitVec 16)
  /-- SERVING_RESULT_LOST (R391). -/
  | servingResultLost (k : Fin 64)
  /-- SERVING_BUILD_LATE (R392). -/
  | servingBuildLate (k : Fin 64)
  /-- SRV_OUT_HEAD_WRITE (R403). -/
  | srvOutHeadWrite (v : Word)
  /-- MAILBOX_LOCK_READ (R419). -/
  | mailboxLockRead (a : Agent) (m : MbxIx)
  /-- MAILBOX_LOCK_WRITE (R419). -/
  | mailboxLockWrite (a : Agent) (m : MbxIx) (v : Word)
  /-- MAILBOX_DOORBELL (R420). -/
  | mailboxDoorbell (a : Agent) (m : MbxIx) (v : Word)
  /-- MAILBOX_RESPONSE (R420). -/
  | mailboxResponse (m : MbxIx)
  /-- FW_UPDATE_WRITE (R422). -/
  | fwUpdateWrite (m : MbxIx) (off : Word) (data : List Byte)
  /-- FW_UPDATE_COMMIT (R410). -/
  | fwUpdateCommit (m : MbxIx) (x : ImageCheck)
  /-- CFG_BLOCK_READ (R422). -/
  | cfgBlockRead (m : MbxIx) (id : BitVec 16)
  /-- CFG_BLOCK_WRITE (R414). -/
  | cfgBlockWrite (m : MbxIx) (id : BitVec 16) (version : BitVec 16) (body : List Byte) (done : Fin 4)
  /-- FENCE_SERVICE (R422). -/
  | fenceService (m : MbxIx) (mask : BitVec 36) (toSet : Bool)
  /-- HEALTH (R468). -/
  | health (m : MbxIx)
  /-- LIFE_CYCLE (R425). -/
  | lifeCycle (m : MbxIx)
  /-- SECURE_STORE_WRITE (R422). -/
  | secureStoreWrite (m : MbxIx) (off : Word) (data : List Byte)
  /-- SECURE_STORE_READ (R422). -/
  | secureStoreRead (m : MbxIx) (off : Word) (n : Word)
  /-- FATAL_ENTRY (R446). -/
  | fatalEntry (places : List Nat)
  /-- FATAL_REPORT (R449). -/
  | fatalReport
  /-- REPORT_REPEAT (R449). -/
  | reportRepeat
  /-- FLASH_SUMMARY (R457). -/
  | flashSummary
  /-- DUMP_WRITE (R452). -/
  | dumpWrite
  /-- FIELD_RESET (R435). -/
  | fieldReset (a : Agent) (v : Word)
  /-- FIELD_RESET_COMPLETE (R435). -/
  | fieldResetComplete
  /-- HUSH_ENTRY (R442). -/
  | hushEntry (a : Agent) (v : Word)
  /-- TIERS_SELF_REFRESH (R442). -/
  | tiersSelfRefresh
  /-- RELAY_ENTRY (R443). -/
  | relayEntry (a : Agent) (v : Word)
  /-- RETURN_TO_ACTIVE (R442). -/
  | returnToActive (a : Agent) (v : Word)
  /-- FLT_FATAL_BEAT_LO_READ (R459). -/
  | fltFatalBeatLoRead (a : Agent)
  /-- MODULE_RECORD (R463). -/
  | moduleRecord
  /-- AGEING_READING (R465). -/
  | ageingReading (xs : Vector (BitVec 16 × BitVec 16) 576)
  /-- RC_READ (R12). -/
  | rcRead (a : Agent) (bar4 : Bool) (off : BitVec 26)
  /-- REGISTER_WRITE (R12). -/
  | registerWrite (a : Agent) (bar4 : Bool) (off : BitVec 26) (v : Word)
  /-- MACHINE_BEAT (R6). -/
  | machineBeat (x : BeatIn)
  /-- REFCLK_POD_RETURN (R46). -/
  | refclkPodReturn
  /-- TAMPER_DEASSERT (R428). -/
  | tamperDeassert
  /-- LANE_LOCK_LOST (R294). -/
  | laneLockLost (p : PortIx) (lane : Fin 8)
  /-- LANE_LOCK_REGAINED (R294). -/
  | laneLockRegained (p : PortIx) (lane : Fin 8)
  /-- EYE_MARGIN_UPDATE (R316). -/
  | eyeMarginUpdate (p : PortIx) (margin : BitVec 8) (lane : Fin 8)
  /-- MAILBOX_BUFFER_WRITE (R420). -/
  | mailboxBufferWrite (a : Agent) (m : MbxIx) (k : Fin 1008) (v : Word)
deriving DecidableEq, Repr

end Sys2Proof
end

