-- ==== Sys2Proof/Decode.lean ====
section
/-! DEFINITION. Commands spelt by words. No row of the opcode table has bits, so no word spells a command. -/

namespace Sys2Proof

/-- The command that a word of the table's bits spells: none, whatever the word. -/
def decodeTableWord (nbits w : Nat) : Option Instr :=
  match nbits, w with
  | _, _ => none

end Sys2Proof
end

