-- ==== Sys2Proof/Machine/Crc.lean ====
section
/-! DEFINITION. The CRC-32 of R284: polynomial 0x04C1_1DB7, initial value all ones, bits reflected on input and output,
final complement. -/

namespace Sys2Proof.Machine

/-- Eight steps of the reflected shift register, polynomial 0xEDB8_8320. -/
def crcByte (c : BitVec 32) : Nat → BitVec 32
  | 0 => c
  | n + 1 => crcByte (if c.getLsbD 0 then (c >>> 1) ^^^ 0xEDB88320#32 else c >>> 1) n

/-- The register after a run of bytes. -/
def crcRun (c : BitVec 32) : List Byte → BitVec 32
  | [] => c
  | b :: bs => crcRun (crcByte (c ^^^ b.setWidth 32) 8) bs

/-- CRC-32 of a run of bytes. -/
def crc32 (bs : List Byte) : Nat := (~~~ (crcRun 0xFFFFFFFF#32 bs)).toNat

/-- Does a structure end in the CRC-32 of the bytes before it? -/
def crcOk (bs : List Byte) : Bool := crc32 (bs.take (bs.length - 4)) == leAt bs (bs.length - 4) 4

/-- A structure with its CRC-32 put behind it. -/
def withCrc (bs : List Byte) : List Byte := bs ++ toLE 4 (crc32 bs)

end Sys2Proof.Machine
end

