-- ==== Sys2Proof/Machine/Field.lean ====
section
/-! DEFINITION. The register map of the manual as names: one constructor per register FIELD of the register
tables (R72, R109, R143, R174, R274, R276, R278, R315, R346, R380, R402, R431, R432, R458, R470) and one per register. -/

namespace Sys2Proof.Machine

/-- The Access codes of R12. -/
inductive Access where | RW | RO | WO | W1C | W1S | RC | RWS | RWL
deriving DecidableEq, Repr

/-- The sets of events that occur in the Survives column of R13; the letters are those of that rule. -/
inductive Keep where | none | flhy | lh | fhy | lhy | pflhy | hy
deriving DecidableEq, Repr

/-- The events of R13: C, P, F, L, H, Y. -/
inductive Ev where | cold | package | field | link | hush | relay
deriving DecidableEq, Repr

/-- Where a register is held (R471, R276, R315): it decides who can reach it while dies are off (R472). -/
inductive Held where | hub | rim | field | tc
deriving DecidableEq, Repr

/-- Every register of BAR0 and of the mailbox pages of BAR4, under the manual's own names. -/
inductive Reg where
  | BEAT_CTRL | BEAT_STATUS | BEAT_COUNT_LO | BEAT_COUNT_HI | BEAT_FRAC | BEAT_PARENT_OFFSET
  | BEAT_SKEW_LIMIT | BEAT_DERATE | BEAT_PORT_DELAY | BEAT_PORT_SKEW | BEAT_REG_FSET | BEAT_REG_CYC
  | BEAT_REG_SHORT | BEAT_REG_FCST | PLN_CTRL | PLN_STATUS | PLN_LOAD_STATUS | PLN_EPOCH
  | PLN_CFG | PLN_DOMAIN | PLN_START_LO | PLN_START_HI | PLN_BEAT_LO | PLN_BEAT_HI
  | PLN_STOP_LO | PLN_STOP_HI | PLN_REST_TOTAL | PLN_NEXT_REST | PLN_TOLL_ORIG | PLN_TOLL_RX
  | PLN_LAST | PLN_REST_LIST | PLN_LAST_TOLL0 | PLN_LAST_TOLL1 | PLN_LAST_TOLL2 | PLN_LAST_TOLL3
  | PLN_DIE_LATE | TIL_CTRL | TIL_STATUS | TIL_HALT_REASON | TIL_HALT_PC | TIL_HALT_DETAIL
  | TIL_HALT_BEAT_LO | TIL_HALT_BEAT_HI | TIL_TOKEN | TIL_QUEUE_OCC | TIL_QUEUE_DROP | TIL_WAIT_STAT
  | TIL_FLAGS | TIL_SAT_COUNT | TIL_NAN_COUNT | TIL_NARROW_STATUS | TIL_SEED | TIL_CANARY_CFG
  | TIL_CANARY_CHECKED | TIL_CANARY_DIVERGED | TIL_CANARY_WORST | FLD_SPAD_TEST | FLD_SPAD_ERR | FLD_SPAD_FAIL
  | FLD_SPAD_SECURE | FLD_DMA_STAT | HBM_PLAN_LIMIT_LO | HBM_PLAN_LIMIT_HI | HBM_STATUS | HBM_CTRL
  | HBM_ECC_CE | HBM_ECC_UE | HBM_UE_ADDR_LO | HBM_UE_ADDR_HI | HBM_OCC | HBM_OCC_MAX
  | TTM_PLAN_LIMIT_LO | TTM_PLAN_LIMIT_HI | TTM_STATUS | TTM_ECC | TTM_UE_ADDR_LO | TTM_UE_ADDR_HI
  | TTM_ITEMS | TTM_ITEMS_MAX | TTM_LATE | TTM_OCC | TTM_OCC_MAX | LNK_SERIAL_LO
  | LNK_SERIAL_HI | LNK_CTRL | LNK_CFG | LNK_TIMER | LNK_GIVE | LNK_STATUS
  | LNK_TRAIN | LNK_PEER_LO | LNK_PEER_HI | LNK_PEER_INFO | LNK_WINDOW | LNK_FEC
  | LNK_REPLAY | LNK_CREDIT | LNK_DOWN | LNK_EYE | RTE_CTRL | RTE_STATUS
  | RTE_EPOCH | RTE_PLAN | RTE_FENCE_LO | RTE_FENCE_HI | RTE_DYN_CFG | RTE_ORDER_CFG
  | RTE_SAMPLE_CFG | RTE_MIRROR | RTE_TOLL_SEEN | RTE_TBL_ADDR | RTE_TBL_DATA_LO | RTE_TBL_DATA_HI
  | RTE_ORDER | RTE_PORT_DROP | RTE_PORT_MISS | RTE_PORT_VC0 | HST_VERSION | HST_CTRL
  | HST_STATUS | HST_FEAT_SUP | HST_FEAT_REQ | HST_FEAT_EN | HST_AQ_SQ_LO | HST_AQ_SQ_HI
  | HST_AQ_CQ_LO | HST_AQ_CQ_HI | HST_AQ_CFG | HST_BAR2_BASE | HST_EVT_BASE_LO | HST_EVT_BASE_HI
  | HST_EVT_CFG | HST_ERR | HST_INGEST_ACC | HST_INGEST_DROP | HST_INGEST_WIN | SRV_CTRL
  | SRV_STATUS | SRV_OUT_HEAD | SRV_OUT_TAIL | SRV_OUT_DROP | SRV_WALK_START | SRV_WALK_DONE
  | SRV_WALK_ERR | SRV_DRAFTED | SRV_ACCEPTED | SRV_EVENTS | SRV_BUILD | MGT_STATUS
  | MGT_BOOT | MGT_CFG_STATUS | MGT_FW_VERSION | MGT_PMBUS | MGT_ERR | MGT_MBX_CFG
  | MGT_MBX_LOCK | MGT_MBX_DOORBELL | MGT_MBX_STATUS | SEC_CTRL | SEC_STATUS | SEC_LC
  | SEC_LC_NONCE | SEC_TAMPER | FLT_CTRL | FLT_STATUS | FLT_FATAL | FLT_FATAL_DETAIL
  | FLT_FATAL_BEAT_LO | FLT_FATAL_BEAT_HI | FLT_FATAL_PLAN | FLT_DUMP | FLT_WARN | FLT_WARN_MASK
  | FLT_RESETS | FLT_LAST_RESET | FLT_REPORT | TEL_CTRL | TEL_STATUS | TEL_CONG_COUNT
  | TEL_CONG_LOST | TEL_MOD_COUNT | TEL_MOD_LOST | TEL_AGE_CFG | TEL_LIFE_HOURS | TEL_LIFE_LOW
  | TEL_LIFE_HIGH | TEL_LIFE_CAUSE | TEL_HW_HALTS | TEL_AGE
deriving DecidableEq, Repr

/-- Every field of every register table, REGISTER_field. Reserved fields have no constructor: they read 0 (R11). -/
inductive RegField where
  | BEAT_CTRL_time_root | BEAT_CTRL_parent_port | BEAT_CTRL_parent_valid | BEAT_CTRL_limit_lock
  | BEAT_STATUS_state | BEAT_STATUS_ref_present | BEAT_STATUS_ref_lost | BEAT_STATUS_skew_warn
  | BEAT_STATUS_ctrl_reject | BEAT_STATUS_parent_lost | BEAT_STATUS_depth | BEAT_COUNT_LO_count_lo
  | BEAT_COUNT_HI_count_hi | BEAT_FRAC_frac | BEAT_PARENT_OFFSET_parent_offset | BEAT_SKEW_LIMIT_warn_ps
  | BEAT_SKEW_LIMIT_fatal_ps | BEAT_DERATE_derate_n | BEAT_PORT_DELAY_delay_ps | BEAT_PORT_SKEW_offset_ps
  | BEAT_PORT_SKEW_max_abs_ps | BEAT_REG_FSET_fset_code | BEAT_REG_FSET_fmax_code | BEAT_REG_FSET_fset_reject
  | BEAT_REG_CYC_last_cycles | BEAT_REG_CYC_min_cycles | BEAT_REG_SHORT_short_measures | BEAT_REG_FCST_armed_code
  | BEAT_REG_FCST_measured_code | BEAT_REG_FCST_over_tol | BEAT_REG_FCST_late_rows | PLN_CTRL_finish_words
  | PLN_CTRL_stats_clear | PLN_STATUS_state | PLN_STATUS_arm_missed | PLN_STATUS_stop_drop
  | PLN_STATUS_rest_pending | PLN_LOAD_STATUS_code | PLN_LOAD_STATUS_detail | PLN_EPOCH_epoch
  | PLN_EPOCH_last_epoch | PLN_CFG_toll_reach | PLN_CFG_grace_q | PLN_CFG_region_rest
  | PLN_CFG_item_rest | PLN_DOMAIN_domain_modules | PLN_DOMAIN_k_required | PLN_START_LO_start_beat
  | PLN_START_HI_start_beat | PLN_BEAT_LO_plan_beat | PLN_BEAT_HI_plan_beat | PLN_STOP_LO_stop_lo
  | PLN_STOP_HI_stop_hi | PLN_STOP_HI_stop_valid | PLN_REST_TOTAL_rest_measures | PLN_NEXT_REST_measure_lo
  | PLN_NEXT_REST_rest_len | PLN_REST_LIST_entries | PLN_REST_LIST_max_entries | PLN_TOLL_ORIG_region_late
  | PLN_TOLL_ORIG_item_late | PLN_TOLL_ORIG_link | PLN_TOLL_ORIG_stop | PLN_TOLL_RX_received
  | PLN_TOLL_RX_foreign | PLN_TOLL_RX_merged | PLN_LAST_last_measures | PLN_LAST_TOLL0_beat_lo
  | PLN_LAST_TOLL1_beat_hi | PLN_LAST_TOLL2_origin_id | PLN_LAST_TOLL2_toll_id | PLN_LAST_TOLL3_epoch
  | PLN_LAST_TOLL3_rest_d | PLN_LAST_TOLL3_cause | PLN_LAST_TOLL3_hops | PLN_DIE_LATE_late_measures
  | PLN_DIE_LATE_last_region | TIL_CTRL_halt_clear | TIL_CTRL_force_halt | TIL_CTRL_halt_event_en
  | TIL_STATUS_state | TIL_STATUS_clear_reject | TIL_STATUS_row_good | TIL_STATUS_voice_id
  | TIL_HALT_REASON_reason | TIL_HALT_REASON_unit | TIL_HALT_REASON_valid | TIL_HALT_PC_pc
  | TIL_HALT_DETAIL_detail | TIL_HALT_BEAT_LO_beat_lo | TIL_HALT_BEAT_HI_beat_hi | TIL_TOKEN_board
  | TIL_QUEUE_OCC_occupancy | TIL_QUEUE_DROP_dropped | TIL_WAIT_STAT_longest_wait | TIL_WAIT_STAT_long_waits
  | TIL_FLAGS_flags | TIL_SAT_COUNT_sat_count | TIL_NAN_COUNT_nan_count | TIL_NAN_COUNT_acc_overflow
  | TIL_NARROW_STATUS_sat_seen | TIL_NARROW_STATUS_nan_seen | TIL_NARROW_STATUS_acc_ovf_seen | TIL_NARROW_STATUS_canary_div_seen
  | TIL_NARROW_STATUS_canary_rate_bad | TIL_SEED_seed | TIL_CANARY_CFG_threshold_t | TIL_CANARY_CFG_canary_event_en
  | TIL_CANARY_CHECKED_canary_checked | TIL_CANARY_DIVERGED_canary_diverged | TIL_CANARY_WORST_worst_div | TIL_CANARY_WORST_worst_format
  | FLD_SPAD_TEST_test_en | FLD_SPAD_TEST_passes | FLD_SPAD_ERR_ce_count | FLD_SPAD_ERR_ue_count
  | FLD_SPAD_ERR_test_fail | FLD_SPAD_FAIL_column | FLD_SPAD_FAIL_row | FLD_SPAD_FAIL_unit
  | FLD_SPAD_FAIL_kind | FLD_SPAD_FAIL_valid | FLD_SPAD_SECURE_base_blk | FLD_SPAD_SECURE_size_blk
  | FLD_SPAD_SECURE_open | FLD_SPAD_SECURE_wipe_busy | FLD_SPAD_SECURE_cfg_reject | FLD_SPAD_SECURE_nonsec_denied
  | FLD_DMA_STAT_conflict_retries | FLD_DMA_STAT_conflict_fail | FLD_DMA_STAT_secure_denied | HBM_PLAN_LIMIT_LO_limit_lo
  | HBM_PLAN_LIMIT_HI_limit_hi | HBM_STATUS_limit_reject | HBM_STATUS_plan_area_drops | HBM_CTRL_scrub_hours
  | HBM_ECC_CE_ce_count | HBM_ECC_UE_ue_count | HBM_UE_ADDR_LO_addr_lo | HBM_UE_ADDR_HI_addr_hi
  | HBM_UE_ADDR_HI_valid | HBM_OCC_plan_units | HBM_OCC_busy_q | HBM_OCC_other_k
  | HBM_OCC_MAX_plan_units_max | HBM_OCC_MAX_busy_q_max | TTM_PLAN_LIMIT_LO_limit_lo | TTM_PLAN_LIMIT_HI_limit_hi
  | TTM_STATUS_limit_reject | TTM_ECC_link_ce | TTM_ECC_link_ue | TTM_ECC_ecs_count
  | TTM_UE_ADDR_LO_addr_lo | TTM_UE_ADDR_HI_addr_hi | TTM_UE_ADDR_HI_valid | TTM_ITEMS_outstanding
  | TTM_ITEMS_MAX_outstanding_max | TTM_LATE_late_items | TTM_LATE_late_measures | TTM_OCC_plan_units
  | TTM_OCC_busy_q | TTM_OCC_other_k | TTM_OCC_MAX_plan_units_max | TTM_OCC_MAX_busy_q_max
  | LNK_SERIAL_LO_serial_lo | LNK_SERIAL_HI_serial_hi | LNK_CTRL_enable | LNK_CTRL_reset
  | LNK_CTRL_auto_retrain | LNK_CTRL_cfg_lock | LNK_CFG_gen_max | LNK_CFG_max_width
  | LNK_CFG_min_width | LNK_CFG_mode | LNK_CFG_vc_count | LNK_CFG_retx_mode
  | LNK_TIMER_replay_to | LNK_TIMER_replay_limit | LNK_TIMER_lock_loss | LNK_TIMER_credit_to
  | LNK_GIVE_give_beats | LNK_GIVE_in_plan | LNK_STATUS_state | LNK_STATUS_gen
  | LNK_STATUS_width | LNK_STATUS_mode | LNK_STATUS_vc_count | LNK_STATUS_leader
  | LNK_STATUS_selective | LNK_STATUS_reset_reject | LNK_STATUS_lanes | LNK_TRAIN_fail_code
  | LNK_TRAIN_attempts | LNK_TRAIN_ups | LNK_TRAIN_tlk2_fallback | LNK_PEER_LO_peer_serial_lo
  | LNK_PEER_HI_peer_serial_hi | LNK_PEER_INFO_peer_id | LNK_PEER_INFO_peer_port | LNK_WINDOW_outstanding
  | LNK_WINDOW_outstanding_max | LNK_WINDOW_hold_max | LNK_FEC_cw_corrected | LNK_FEC_cw_uncorrectable
  | LNK_REPLAY_bad_flits | LNK_REPLAY_goback_passes | LNK_REPLAY_sel_fallbacks | LNK_CREDIT_credit_stalls
  | LNK_CREDIT_vc_drops | LNK_CREDIT_dup_flits | LNK_CREDIT_bad_ctrl | LNK_DOWN_down_count
  | LNK_DOWN_last_cause | LNK_DOWN_broken_seen | LNK_DOWN_flits_lost | LNK_EYE_margin
  | LNK_EYE_worst_lane | LNK_EYE_margin_min | RTE_CTRL_scrub_en | RTE_CTRL_fence_event_en
  | RTE_STATUS_fence_denied | RTE_STATUS_tbl_reject | RTE_STATUS_copy_repaired | RTE_STATUS_ce_count
  | RTE_EPOCH_epoch | RTE_PLAN_rstate | RTE_PLAN_forwarding_only | RTE_FENCE_LO_fence_lo
  | RTE_FENCE_HI_fence_hi | RTE_DYN_CFG_policy | RTE_DYN_CFG_esc_q | RTE_ORDER_CFG_idle_us
  | RTE_ORDER_CFG_retry_us | RTE_SAMPLE_CFG_period_measures | RTE_SAMPLE_CFG_enable | RTE_MIRROR_rim
  | RTE_MIRROR_table | RTE_MIRROR_index | RTE_MIRROR_port | RTE_MIRROR_both_ue
  | RTE_MIRROR_valid | RTE_TOLL_SEEN_entries | RTE_TOLL_SEEN_entries_max | RTE_TBL_ADDR_table
  | RTE_TBL_ADDR_index | RTE_TBL_DATA_LO_data_lo | RTE_TBL_DATA_HI_data_hi | RTE_ORDER_contexts
  | RTE_ORDER_pairs | RTE_ORDER_denials | RTE_ORDER_order_lost | RTE_PORT_DROP_fence_drops
  | RTE_PORT_DROP_epoch_drops | RTE_PORT_MISS_unknown_item | RTE_PORT_MISS_unslotted | RTE_PORT_MISS_aborts
  | RTE_PORT_MISS_bad_dest | RTE_PORT_VC0_late_sends | RTE_PORT_VC0_vc0_sent | HST_VERSION_version
  | HST_VERSION_max_pairs | HST_CTRL_enable | HST_STATUS_hub_ready | HST_STATUS_running
  | HST_STATUS_neg_fail | HST_STATUS_pcie_down_seen | HST_STATUS_neg_bit | HST_FEAT_SUP_sup
  | HST_FEAT_REQ_req | HST_FEAT_EN_en | HST_AQ_SQ_LO_sq_base | HST_AQ_SQ_HI_sq_base
  | HST_AQ_CQ_LO_cq_base | HST_AQ_CQ_HI_cq_base | HST_AQ_CFG_n | HST_AQ_CFG_vector
  | HST_BAR2_BASE_base_gib | HST_EVT_BASE_LO_evt_base | HST_EVT_BASE_HI_evt_base | HST_EVT_CFG_entries
  | HST_EVT_CFG_vector | HST_ERR_bad_doorbell | HST_ERR_bad_access | HST_ERR_cmd_errors
  | HST_ERR_events_lost | HST_INGEST_ACC_accepted | HST_INGEST_DROP_drop_full | HST_INGEST_DROP_drop_size
  | HST_INGEST_DROP_drop_state | HST_INGEST_DROP_drop_late | HST_INGEST_WIN_windows | HST_INGEST_WIN_empty
  | SRV_CTRL_zero_gate_n | SRV_STATUS_layout | SRV_STATUS_slots | SRV_STATUS_groups
  | SRV_STATUS_heads | SRV_OUT_HEAD_head | SRV_OUT_TAIL_tail | SRV_OUT_DROP_drops
  | SRV_WALK_START_started | SRV_WALK_DONE_completed | SRV_WALK_ERR_walk_errors | SRV_WALK_ERR_limit_hits
  | SRV_DRAFTED_drafted | SRV_ACCEPTED_accepted | SRV_EVENTS_superseded | SRV_EVENTS_adapter_lost
  | SRV_EVENTS_auto_gates | SRV_BUILD_last_beats | SRV_BUILD_max_beats | MGT_STATUS_safe
  | MGT_STATUS_rom_recovery | MGT_STATUS_host_denied | MGT_BOOT_image | MGT_BOOT_preferred
  | MGT_BOOT_fallback | MGT_BOOT_update_pending | MGT_BOOT_boot_ms | MGT_FW_VERSION_version
  | MGT_CFG_STATUS_refused_id | MGT_CFG_STATUS_refused_count | MGT_CFG_STATUS_repaired | MGT_PMBUS_vin_q
  | MGT_PMBUS_iin_q | MGT_PMBUS_stage_temp | MGT_PMBUS_stage_fault | MGT_PMBUS_vin_low
  | MGT_ERR_lock_denied | MGT_ERR_db_ignored | MGT_ERR_lc_denied | MGT_ERR_access_denied
  | MGT_MBX_CFG_vector | MGT_MBX_CFG_irq_en | MGT_MBX_LOCK_lock | MGT_MBX_DOORBELL_length
  | MGT_MBX_STATUS_owner | MGT_MBX_STATUS_busy | MGT_MBX_STATUS_done | MGT_MBX_STATUS_lock_denied
  | MGT_MBX_STATUS_db_ignored | MGT_MBX_STATUS_server | MGT_MBX_STATUS_seq | SEC_CTRL_wipe
  | SEC_STATUS_wipe_busy | SEC_STATUS_nonsec_denied | SEC_STATUS_last_cause | SEC_STATUS_wipe_count
  | SEC_LC_state | SEC_LC_busy | SEC_LC_last_denied | SEC_LC_NONCE_nonce
  | SEC_TAMPER_level | SEC_TAMPER_seen | SEC_TAMPER_count | FLT_CTRL_pwr_target
  | FLT_CTRL_field_reset | FLT_CTRL_report_en | FLT_STATUS_pwr_state | FLT_STATUS_pwr_reject
  | FLT_STATUS_reset_reject | FLT_STATUS_alert0 | FLT_STATUS_alert1 | FLT_FATAL_reason
  | FLT_FATAL_later_count | FLT_FATAL_active | FLT_FATAL_DETAIL_detail | FLT_FATAL_BEAT_LO_beat_lo
  | FLT_FATAL_BEAT_HI_beat_hi | FLT_FATAL_PLAN_plan_state | FLT_FATAL_PLAN_epoch | FLT_DUMP_valid
  | FLT_DUMP_busy | FLT_DUMP_summary_only | FLT_DUMP_field_absent | FLT_DUMP_pending
  | FLT_DUMP_length | FLT_WARN_pending | FLT_WARN_MASK_mask | FLT_RESETS_field_resets
  | FLT_RESETS_package_resets | FLT_RESETS_relay_entries | FLT_LAST_RESET_cause | FLT_REPORT_sent
  | FLT_REPORT_last_seq | TEL_CTRL_period_measures | TEL_CTRL_collect_en | TEL_CTRL_stream_en
  | TEL_CTRL_stream_div | TEL_STATUS_offline_read | TEL_STATUS_ring_lost | TEL_STATUS_limit_reached
  | TEL_CONG_COUNT_written | TEL_CONG_LOST_lost | TEL_MOD_COUNT_written | TEL_MOD_LOST_lost
  | TEL_AGE_CFG_limit_q | TEL_AGE_CFG_period_h | TEL_AGE_CFG_min_points | TEL_LIFE_HOURS_hours
  | TEL_LIFE_LOW_low | TEL_LIFE_HIGH_high | TEL_LIFE_CAUSE_status | TEL_LIFE_CAUSE_code
  | TEL_LIFE_CAUSE_detail | TEL_HW_HALTS_count | TEL_HW_HALTS_last_die | TEL_AGE_d
  | TEL_AGE_valid
deriving DecidableEq, Repr

end Sys2Proof.Machine
end

