-- ==== Sys2Proof/Machine/RegMap.lean ====
section
/-! DEFINITION. The register tables themselves: bits, access, reset and Survives of every field (R10 to R14), and the
BAR0 and BAR4 offsets of every register (R471 and the layout rule of each block). -/

namespace Sys2Proof.Machine

/-- One row of a register table. -/
structure FInfo where
  reg : Reg
  lo : Nat
  width : Nat
  acc : Access
  keep : Keep
  reset : Nat
deriving DecidableEq, Repr

/-- The row of each field. A reset value the table gives in words (fused, random, by index) stands as 0 here and is
supplied by `State.dflt`. -/
def RegField.info : RegField → FInfo
  | .BEAT_CTRL_time_root => ⟨.BEAT_CTRL, 0, 1, .RW, .flhy, 0⟩
  | .BEAT_CTRL_parent_port => ⟨.BEAT_CTRL, 1, 6, .RW, .flhy, 0⟩
  | .BEAT_CTRL_parent_valid => ⟨.BEAT_CTRL, 7, 1, .RW, .flhy, 0⟩
  | .BEAT_CTRL_limit_lock => ⟨.BEAT_CTRL, 16, 1, .W1S, .flhy, 0⟩
  | .BEAT_STATUS_state => ⟨.BEAT_STATUS, 0, 2, .RO, .flhy, 0⟩
  | .BEAT_STATUS_ref_present => ⟨.BEAT_STATUS, 2, 1, .RO, .none, 0⟩
  | .BEAT_STATUS_ref_lost => ⟨.BEAT_STATUS, 3, 1, .W1C, .flhy, 0⟩
  | .BEAT_STATUS_skew_warn => ⟨.BEAT_STATUS, 4, 1, .W1C, .flhy, 0⟩
  | .BEAT_STATUS_ctrl_reject => ⟨.BEAT_STATUS, 5, 1, .W1C, .flhy, 0⟩
  | .BEAT_STATUS_parent_lost => ⟨.BEAT_STATUS, 6, 1, .W1C, .flhy, 0⟩
  | .BEAT_STATUS_depth => ⟨.BEAT_STATUS, 7, 4, .RO, .flhy, 15⟩
  | .BEAT_COUNT_LO_count_lo => ⟨.BEAT_COUNT_LO, 0, 32, .RO, .flhy, 0⟩
  | .BEAT_COUNT_HI_count_hi => ⟨.BEAT_COUNT_HI, 0, 32, .RO, .flhy, 0⟩
  | .BEAT_FRAC_frac => ⟨.BEAT_FRAC, 0, 16, .RO, .flhy, 0⟩
  | .BEAT_PARENT_OFFSET_parent_offset => ⟨.BEAT_PARENT_OFFSET, 0, 32, .RO, .none, 0⟩
  | .BEAT_SKEW_LIMIT_warn_ps => ⟨.BEAT_SKEW_LIMIT, 0, 16, .RWL, .flhy, 0xfa0⟩
  | .BEAT_SKEW_LIMIT_fatal_ps => ⟨.BEAT_SKEW_LIMIT, 16, 16, .RWL, .flhy, 0x1f40⟩
  | .BEAT_DERATE_derate_n => ⟨.BEAT_DERATE, 0, 3, .RO, .lh, 4⟩
  | .BEAT_PORT_DELAY_delay_ps => ⟨.BEAT_PORT_DELAY, 0, 32, .RO, .hy, 0⟩
  | .BEAT_PORT_SKEW_offset_ps => ⟨.BEAT_PORT_SKEW, 0, 16, .RO, .hy, 0⟩
  | .BEAT_PORT_SKEW_max_abs_ps => ⟨.BEAT_PORT_SKEW, 16, 16, .RC, .hy, 0⟩
  | .BEAT_REG_FSET_fset_code => ⟨.BEAT_REG_FSET, 0, 7, .RW, .lh, 0⟩
  | .BEAT_REG_FSET_fmax_code => ⟨.BEAT_REG_FSET, 8, 7, .RO, .none, 0⟩
  | .BEAT_REG_FSET_fset_reject => ⟨.BEAT_REG_FSET, 16, 1, .W1C, .lh, 0⟩
  | .BEAT_REG_CYC_last_cycles => ⟨.BEAT_REG_CYC, 0, 11, .RO, .lh, 0⟩
  | .BEAT_REG_CYC_min_cycles => ⟨.BEAT_REG_CYC, 16, 11, .RC, .lh, 0x7ff⟩
  | .BEAT_REG_SHORT_short_measures => ⟨.BEAT_REG_SHORT, 0, 32, .RC, .lh, 0⟩
  | .BEAT_REG_FCST_armed_code => ⟨.BEAT_REG_FCST, 0, 8, .RO, .lh, 255⟩
  | .BEAT_REG_FCST_measured_code => ⟨.BEAT_REG_FCST, 8, 8, .RO, .lh, 0⟩
  | .BEAT_REG_FCST_over_tol => ⟨.BEAT_REG_FCST, 16, 8, .RC, .lh, 0⟩
  | .BEAT_REG_FCST_late_rows => ⟨.BEAT_REG_FCST, 24, 8, .RC, .lh, 0⟩
  | .PLN_CTRL_finish_words => ⟨.PLN_CTRL, 0, 1, .RW, .flhy, 1⟩
  | .PLN_CTRL_stats_clear => ⟨.PLN_CTRL, 1, 1, .WO, .none, 0⟩
  | .PLN_STATUS_state => ⟨.PLN_STATUS, 0, 3, .RO, .lh, 0⟩
  | .PLN_STATUS_arm_missed => ⟨.PLN_STATUS, 3, 1, .W1C, .lh, 0⟩
  | .PLN_STATUS_stop_drop => ⟨.PLN_STATUS, 4, 1, .W1C, .lh, 0⟩
  | .PLN_STATUS_rest_pending => ⟨.PLN_STATUS, 5, 1, .RO, .lh, 0⟩
  | .PLN_LOAD_STATUS_code => ⟨.PLN_LOAD_STATUS, 0, 8, .RO, .flhy, 0⟩
  | .PLN_LOAD_STATUS_detail => ⟨.PLN_LOAD_STATUS, 16, 16, .RO, .flhy, 0⟩
  | .PLN_EPOCH_epoch => ⟨.PLN_EPOCH, 0, 16, .RO, .lh, 0⟩
  | .PLN_EPOCH_last_epoch => ⟨.PLN_EPOCH, 16, 16, .RO, .flhy, 0⟩
  | .PLN_CFG_toll_reach => ⟨.PLN_CFG, 0, 13, .RO, .lh, 256⟩
  | .PLN_CFG_grace_q => ⟨.PLN_CFG, 13, 6, .RO, .lh, 8⟩
  | .PLN_CFG_region_rest => ⟨.PLN_CFG, 19, 4, .RO, .lh, 1⟩
  | .PLN_CFG_item_rest => ⟨.PLN_CFG, 23, 4, .RO, .lh, 2⟩
  | .PLN_DOMAIN_domain_modules => ⟨.PLN_DOMAIN, 0, 15, .RO, .lh, 0⟩
  | .PLN_DOMAIN_k_required => ⟨.PLN_DOMAIN, 16, 13, .RO, .lh, 0⟩
  | .PLN_START_LO_start_beat => ⟨.PLN_START_LO, 0, 32, .RO, .lh, 0⟩
  | .PLN_START_HI_start_beat => ⟨.PLN_START_HI, 0, 32, .RO, .lh, 0⟩
  | .PLN_BEAT_LO_plan_beat => ⟨.PLN_BEAT_LO, 0, 32, .RO, .lh, 0⟩
  | .PLN_BEAT_HI_plan_beat => ⟨.PLN_BEAT_HI, 0, 32, .RO, .lh, 0⟩
  | .PLN_STOP_LO_stop_lo => ⟨.PLN_STOP_LO, 0, 32, .RO, .lh, 0⟩
  | .PLN_STOP_HI_stop_hi => ⟨.PLN_STOP_HI, 0, 31, .RO, .lh, 0⟩
  | .PLN_STOP_HI_stop_valid => ⟨.PLN_STOP_HI, 31, 1, .RO, .lh, 0⟩
  | .PLN_REST_TOTAL_rest_measures => ⟨.PLN_REST_TOTAL, 0, 32, .RO, .lh, 0⟩
  | .PLN_NEXT_REST_measure_lo => ⟨.PLN_NEXT_REST, 0, 28, .RO, .lh, 0⟩
  | .PLN_NEXT_REST_rest_len => ⟨.PLN_NEXT_REST, 28, 4, .RO, .lh, 0⟩
  | .PLN_REST_LIST_entries => ⟨.PLN_REST_LIST, 0, 7, .RO, .lh, 0⟩
  | .PLN_REST_LIST_max_entries => ⟨.PLN_REST_LIST, 8, 7, .RC, .lh, 0⟩
  | .PLN_TOLL_ORIG_region_late => ⟨.PLN_TOLL_ORIG, 0, 8, .RC, .flhy, 0⟩
  | .PLN_TOLL_ORIG_item_late => ⟨.PLN_TOLL_ORIG, 8, 8, .RC, .flhy, 0⟩
  | .PLN_TOLL_ORIG_link => ⟨.PLN_TOLL_ORIG, 16, 8, .RC, .flhy, 0⟩
  | .PLN_TOLL_ORIG_stop => ⟨.PLN_TOLL_ORIG, 24, 8, .RC, .flhy, 0⟩
  | .PLN_TOLL_RX_received => ⟨.PLN_TOLL_RX, 0, 16, .RC, .flhy, 0⟩
  | .PLN_TOLL_RX_foreign => ⟨.PLN_TOLL_RX, 16, 8, .RC, .flhy, 0⟩
  | .PLN_TOLL_RX_merged => ⟨.PLN_TOLL_RX, 24, 8, .RC, .flhy, 0⟩
  | .PLN_LAST_last_measures => ⟨.PLN_LAST, 0, 32, .RC, .flhy, 0⟩
  | .PLN_LAST_TOLL0_beat_lo => ⟨.PLN_LAST_TOLL0, 0, 32, .RO, .flhy, 0⟩
  | .PLN_LAST_TOLL1_beat_hi => ⟨.PLN_LAST_TOLL1, 0, 32, .RO, .flhy, 0⟩
  | .PLN_LAST_TOLL2_origin_id => ⟨.PLN_LAST_TOLL2, 0, 16, .RO, .flhy, 0⟩
  | .PLN_LAST_TOLL2_toll_id => ⟨.PLN_LAST_TOLL2, 16, 16, .RO, .flhy, 0⟩
  | .PLN_LAST_TOLL3_epoch => ⟨.PLN_LAST_TOLL3, 0, 16, .RO, .flhy, 0⟩
  | .PLN_LAST_TOLL3_rest_d => ⟨.PLN_LAST_TOLL3, 16, 4, .RO, .flhy, 0⟩
  | .PLN_LAST_TOLL3_cause => ⟨.PLN_LAST_TOLL3, 20, 4, .RO, .flhy, 0⟩
  | .PLN_LAST_TOLL3_hops => ⟨.PLN_LAST_TOLL3, 24, 8, .RO, .flhy, 0⟩
  | .PLN_DIE_LATE_late_measures => ⟨.PLN_DIE_LATE, 0, 16, .RC, .flhy, 0⟩
  | .PLN_DIE_LATE_last_region => ⟨.PLN_DIE_LATE, 16, 7, .RO, .flhy, 127⟩
  | .TIL_CTRL_halt_clear => ⟨.TIL_CTRL, 0, 1, .WO, .none, 0⟩
  | .TIL_CTRL_force_halt => ⟨.TIL_CTRL, 1, 1, .WO, .none, 0⟩
  | .TIL_CTRL_halt_event_en => ⟨.TIL_CTRL, 2, 1, .RW, .lh, 1⟩
  | .TIL_STATUS_state => ⟨.TIL_STATUS, 0, 3, .RO, .lh, 0⟩
  | .TIL_STATUS_clear_reject => ⟨.TIL_STATUS, 3, 1, .W1C, .lh, 0⟩
  | .TIL_STATUS_row_good => ⟨.TIL_STATUS, 4, 1, .RO, .none, 0⟩
  | .TIL_STATUS_voice_id => ⟨.TIL_STATUS, 16, 16, .RO, .lh, 0xffff⟩
  | .TIL_HALT_REASON_reason => ⟨.TIL_HALT_REASON, 0, 8, .RO, .lh, 0⟩
  | .TIL_HALT_REASON_unit => ⟨.TIL_HALT_REASON, 8, 3, .RO, .lh, 0⟩
  | .TIL_HALT_REASON_valid => ⟨.TIL_HALT_REASON, 16, 1, .RO, .lh, 0⟩
  | .TIL_HALT_PC_pc => ⟨.TIL_HALT_PC, 0, 17, .RO, .lh, 0⟩
  | .TIL_HALT_DETAIL_detail => ⟨.TIL_HALT_DETAIL, 0, 32, .RO, .lh, 0⟩
  | .TIL_HALT_BEAT_LO_beat_lo => ⟨.TIL_HALT_BEAT_LO, 0, 32, .RO, .lh, 0⟩
  | .TIL_HALT_BEAT_HI_beat_hi => ⟨.TIL_HALT_BEAT_HI, 0, 32, .RO, .lh, 0⟩
  | .TIL_TOKEN_board => ⟨.TIL_TOKEN, 1, 15, .RO, .lh, 0⟩
  | .TIL_QUEUE_OCC_occupancy => ⟨.TIL_QUEUE_OCC, 0, 30, .RO, .lh, 0⟩
  | .TIL_QUEUE_DROP_dropped => ⟨.TIL_QUEUE_DROP, 0, 32, .RC, .lh, 0⟩
  | .TIL_WAIT_STAT_longest_wait => ⟨.TIL_WAIT_STAT, 0, 16, .RC, .lh, 0⟩
  | .TIL_WAIT_STAT_long_waits => ⟨.TIL_WAIT_STAT, 16, 16, .RC, .lh, 0⟩
  | .TIL_FLAGS_flags => ⟨.TIL_FLAGS, 0, 32, .RO, .lh, 0⟩
  | .TIL_SAT_COUNT_sat_count => ⟨.TIL_SAT_COUNT, 0, 32, .RC, .lh, 0⟩
  | .TIL_NAN_COUNT_nan_count => ⟨.TIL_NAN_COUNT, 0, 16, .RC, .lh, 0⟩
  | .TIL_NAN_COUNT_acc_overflow => ⟨.TIL_NAN_COUNT, 16, 16, .RC, .lh, 0⟩
  | .TIL_NARROW_STATUS_sat_seen => ⟨.TIL_NARROW_STATUS, 0, 1, .W1C, .lh, 0⟩
  | .TIL_NARROW_STATUS_nan_seen => ⟨.TIL_NARROW_STATUS, 1, 1, .W1C, .lh, 0⟩
  | .TIL_NARROW_STATUS_acc_ovf_seen => ⟨.TIL_NARROW_STATUS, 2, 1, .W1C, .lh, 0⟩
  | .TIL_NARROW_STATUS_canary_div_seen => ⟨.TIL_NARROW_STATUS, 3, 1, .W1C, .lh, 0⟩
  | .TIL_NARROW_STATUS_canary_rate_bad => ⟨.TIL_NARROW_STATUS, 4, 1, .W1C, .lh, 0⟩
  | .TIL_SEED_seed => ⟨.TIL_SEED, 0, 32, .RO, .lh, 0⟩
  | .TIL_CANARY_CFG_threshold_t => ⟨.TIL_CANARY_CFG, 0, 4, .RW, .lh, 1⟩
  | .TIL_CANARY_CFG_canary_event_en => ⟨.TIL_CANARY_CFG, 4, 1, .RW, .lh, 0⟩
  | .TIL_CANARY_CHECKED_canary_checked => ⟨.TIL_CANARY_CHECKED, 0, 32, .RC, .lh, 0⟩
  | .TIL_CANARY_DIVERGED_canary_diverged => ⟨.TIL_CANARY_DIVERGED, 0, 32, .RC, .lh, 0⟩
  | .TIL_CANARY_WORST_worst_div => ⟨.TIL_CANARY_WORST, 0, 16, .RC, .lh, 0⟩
  | .TIL_CANARY_WORST_worst_format => ⟨.TIL_CANARY_WORST, 16, 4, .RO, .lh, 0⟩
  | .FLD_SPAD_TEST_test_en => ⟨.FLD_SPAD_TEST, 0, 1, .RW, .lh, 1⟩
  | .FLD_SPAD_TEST_passes => ⟨.FLD_SPAD_TEST, 16, 16, .RC, .lh, 0⟩
  | .FLD_SPAD_ERR_ce_count => ⟨.FLD_SPAD_ERR, 0, 16, .RC, .lh, 0⟩
  | .FLD_SPAD_ERR_ue_count => ⟨.FLD_SPAD_ERR, 16, 8, .RC, .lh, 0⟩
  | .FLD_SPAD_ERR_test_fail => ⟨.FLD_SPAD_ERR, 24, 8, .RC, .lh, 0⟩
  | .FLD_SPAD_FAIL_column => ⟨.FLD_SPAD_FAIL, 0, 5, .RO, .lh, 0⟩
  | .FLD_SPAD_FAIL_row => ⟨.FLD_SPAD_FAIL, 5, 6, .RO, .lh, 0⟩
  | .FLD_SPAD_FAIL_unit => ⟨.FLD_SPAD_FAIL, 11, 15, .RO, .lh, 0⟩
  | .FLD_SPAD_FAIL_kind => ⟨.FLD_SPAD_FAIL, 26, 1, .RO, .lh, 0⟩
  | .FLD_SPAD_FAIL_valid => ⟨.FLD_SPAD_FAIL, 27, 1, .W1C, .lh, 0⟩
  | .FLD_SPAD_SECURE_base_blk => ⟨.FLD_SPAD_SECURE, 0, 7, .RW, .lh, 0⟩
  | .FLD_SPAD_SECURE_size_blk => ⟨.FLD_SPAD_SECURE, 7, 5, .RW, .lh, 0⟩
  | .FLD_SPAD_SECURE_open => ⟨.FLD_SPAD_SECURE, 12, 1, .RW, .lh, 0⟩
  | .FLD_SPAD_SECURE_wipe_busy => ⟨.FLD_SPAD_SECURE, 13, 1, .RO, .none, 0⟩
  | .FLD_SPAD_SECURE_cfg_reject => ⟨.FLD_SPAD_SECURE, 14, 1, .W1C, .lh, 0⟩
  | .FLD_SPAD_SECURE_nonsec_denied => ⟨.FLD_SPAD_SECURE, 15, 1, .W1C, .lh, 0⟩
  | .FLD_DMA_STAT_conflict_retries => ⟨.FLD_DMA_STAT, 0, 16, .RC, .lh, 0⟩
  | .FLD_DMA_STAT_conflict_fail => ⟨.FLD_DMA_STAT, 16, 8, .RC, .lh, 0⟩
  | .FLD_DMA_STAT_secure_denied => ⟨.FLD_DMA_STAT, 24, 8, .RC, .lh, 0⟩
  | .HBM_PLAN_LIMIT_LO_limit_lo => ⟨.HBM_PLAN_LIMIT_LO, 0, 32, .RW, .flhy, 0xe6000000⟩
  | .HBM_PLAN_LIMIT_HI_limit_hi => ⟨.HBM_PLAN_LIMIT_HI, 0, 3, .RW, .flhy, 4⟩
  | .HBM_STATUS_limit_reject => ⟨.HBM_STATUS, 0, 1, .W1C, .flhy, 0⟩
  | .HBM_STATUS_plan_area_drops => ⟨.HBM_STATUS, 16, 16, .RC, .flhy, 0⟩
  | .HBM_CTRL_scrub_hours => ⟨.HBM_CTRL, 0, 8, .RW, .lh, 24⟩
  | .HBM_ECC_CE_ce_count => ⟨.HBM_ECC_CE, 0, 32, .RC, .lh, 0⟩
  | .HBM_ECC_UE_ue_count => ⟨.HBM_ECC_UE, 0, 16, .RC, .lh, 0⟩
  | .HBM_UE_ADDR_LO_addr_lo => ⟨.HBM_UE_ADDR_LO, 0, 32, .RO, .lh, 0⟩
  | .HBM_UE_ADDR_HI_addr_hi => ⟨.HBM_UE_ADDR_HI, 0, 3, .RO, .lh, 0⟩
  | .HBM_UE_ADDR_HI_valid => ⟨.HBM_UE_ADDR_HI, 31, 1, .W1C, .lh, 0⟩
  | .HBM_OCC_plan_units => ⟨.HBM_OCC, 0, 16, .RO, .lh, 0⟩
  | .HBM_OCC_busy_q => ⟨.HBM_OCC, 16, 8, .RO, .lh, 0⟩
  | .HBM_OCC_other_k => ⟨.HBM_OCC, 24, 8, .RO, .lh, 0⟩
  | .HBM_OCC_MAX_plan_units_max => ⟨.HBM_OCC_MAX, 0, 16, .RC, .lh, 0⟩
  | .HBM_OCC_MAX_busy_q_max => ⟨.HBM_OCC_MAX, 16, 8, .RC, .lh, 0⟩
  | .TTM_PLAN_LIMIT_LO_limit_lo => ⟨.TTM_PLAN_LIMIT_LO, 0, 32, .RW, .flhy, 0⟩
  | .TTM_PLAN_LIMIT_HI_limit_hi => ⟨.TTM_PLAN_LIMIT_HI, 0, 4, .RW, .flhy, 8⟩
  | .TTM_STATUS_limit_reject => ⟨.TTM_STATUS, 0, 1, .W1C, .flhy, 0⟩
  | .TTM_ECC_link_ce => ⟨.TTM_ECC, 0, 16, .RC, .lhy, 0⟩
  | .TTM_ECC_link_ue => ⟨.TTM_ECC, 16, 8, .RC, .lhy, 0⟩
  | .TTM_ECC_ecs_count => ⟨.TTM_ECC, 24, 8, .RC, .lhy, 0⟩
  | .TTM_UE_ADDR_LO_addr_lo => ⟨.TTM_UE_ADDR_LO, 0, 32, .RO, .lhy, 0⟩
  | .TTM_UE_ADDR_HI_addr_hi => ⟨.TTM_UE_ADDR_HI, 0, 3, .RO, .lhy, 0⟩
  | .TTM_UE_ADDR_HI_valid => ⟨.TTM_UE_ADDR_HI, 31, 1, .W1C, .lhy, 0⟩
  | .TTM_ITEMS_outstanding => ⟨.TTM_ITEMS, 0, 18, .RO, .lhy, 0⟩
  | .TTM_ITEMS_MAX_outstanding_max => ⟨.TTM_ITEMS_MAX, 0, 18, .RC, .lhy, 0⟩
  | .TTM_LATE_late_items => ⟨.TTM_LATE, 0, 16, .RC, .lhy, 0⟩
  | .TTM_LATE_late_measures => ⟨.TTM_LATE, 16, 16, .RC, .lhy, 0⟩
  | .TTM_OCC_plan_units => ⟨.TTM_OCC, 0, 16, .RO, .lhy, 0⟩
  | .TTM_OCC_busy_q => ⟨.TTM_OCC, 16, 8, .RO, .lhy, 0⟩
  | .TTM_OCC_other_k => ⟨.TTM_OCC, 24, 8, .RO, .lhy, 0⟩
  | .TTM_OCC_MAX_plan_units_max => ⟨.TTM_OCC_MAX, 0, 16, .RC, .lhy, 0⟩
  | .TTM_OCC_MAX_busy_q_max => ⟨.TTM_OCC_MAX, 16, 8, .RC, .lhy, 0⟩
  | .LNK_SERIAL_LO_serial_lo => ⟨.LNK_SERIAL_LO, 0, 32, .RO, .none, 0⟩
  | .LNK_SERIAL_HI_serial_hi => ⟨.LNK_SERIAL_HI, 0, 32, .RO, .none, 0⟩
  | .LNK_CTRL_enable => ⟨.LNK_CTRL, 0, 1, .RW, .flhy, 1⟩
  | .LNK_CTRL_reset => ⟨.LNK_CTRL, 1, 1, .WO, .none, 0⟩
  | .LNK_CTRL_auto_retrain => ⟨.LNK_CTRL, 2, 1, .RW, .flhy, 1⟩
  | .LNK_CTRL_cfg_lock => ⟨.LNK_CTRL, 3, 1, .W1S, .flhy, 0⟩
  | .LNK_CFG_gen_max => ⟨.LNK_CFG, 0, 1, .RWL, .flhy, 1⟩
  | .LNK_CFG_max_width => ⟨.LNK_CFG, 1, 2, .RWL, .flhy, 2⟩
  | .LNK_CFG_min_width => ⟨.LNK_CFG, 3, 2, .RWL, .flhy, 0⟩
  | .LNK_CFG_mode => ⟨.LNK_CFG, 5, 1, .RWL, .flhy, 1⟩
  | .LNK_CFG_vc_count => ⟨.LNK_CFG, 6, 4, .RWL, .flhy, 8⟩
  | .LNK_CFG_retx_mode => ⟨.LNK_CFG, 10, 2, .RWL, .flhy, 2⟩
  | .LNK_TIMER_replay_to => ⟨.LNK_TIMER, 0, 8, .RWL, .flhy, 10⟩
  | .LNK_TIMER_replay_limit => ⟨.LNK_TIMER, 8, 8, .RWL, .flhy, 8⟩
  | .LNK_TIMER_lock_loss => ⟨.LNK_TIMER, 16, 8, .RWL, .flhy, 10⟩
  | .LNK_TIMER_credit_to => ⟨.LNK_TIMER, 24, 8, .RWL, .flhy, 10⟩
  | .LNK_GIVE_give_beats => ⟨.LNK_GIVE, 0, 6, .RO, .lh, 4⟩
  | .LNK_GIVE_in_plan => ⟨.LNK_GIVE, 6, 1, .RO, .lh, 0⟩
  | .LNK_STATUS_state => ⟨.LNK_STATUS, 0, 4, .RO, .fhy, 0⟩
  | .LNK_STATUS_gen => ⟨.LNK_STATUS, 4, 1, .RO, .fhy, 0⟩
  | .LNK_STATUS_width => ⟨.LNK_STATUS, 5, 2, .RO, .fhy, 3⟩
  | .LNK_STATUS_mode => ⟨.LNK_STATUS, 7, 1, .RO, .fhy, 1⟩
  | .LNK_STATUS_vc_count => ⟨.LNK_STATUS, 8, 4, .RO, .fhy, 0⟩
  | .LNK_STATUS_leader => ⟨.LNK_STATUS, 12, 1, .RO, .fhy, 0⟩
  | .LNK_STATUS_selective => ⟨.LNK_STATUS, 13, 1, .RO, .fhy, 0⟩
  | .LNK_STATUS_reset_reject => ⟨.LNK_STATUS, 14, 1, .W1C, .flhy, 0⟩
  | .LNK_STATUS_lanes => ⟨.LNK_STATUS, 16, 8, .RO, .fhy, 0⟩
  | .LNK_TRAIN_fail_code => ⟨.LNK_TRAIN, 0, 8, .RO, .flhy, 0⟩
  | .LNK_TRAIN_attempts => ⟨.LNK_TRAIN, 8, 8, .RC, .flhy, 0⟩
  | .LNK_TRAIN_ups => ⟨.LNK_TRAIN, 16, 8, .RC, .flhy, 0⟩
  | .LNK_TRAIN_tlk2_fallback => ⟨.LNK_TRAIN, 24, 1, .RO, .fhy, 0⟩
  | .LNK_PEER_LO_peer_serial_lo => ⟨.LNK_PEER_LO, 0, 32, .RO, .fhy, 0⟩
  | .LNK_PEER_HI_peer_serial_hi => ⟨.LNK_PEER_HI, 0, 32, .RO, .fhy, 0⟩
  | .LNK_PEER_INFO_peer_id => ⟨.LNK_PEER_INFO, 0, 16, .RO, .fhy, 0xffff⟩
  | .LNK_PEER_INFO_peer_port => ⟨.LNK_PEER_INFO, 16, 6, .RO, .fhy, 63⟩
  | .LNK_WINDOW_outstanding => ⟨.LNK_WINDOW, 0, 11, .RO, .fhy, 0⟩
  | .LNK_WINDOW_outstanding_max => ⟨.LNK_WINDOW, 11, 11, .RC, .fhy, 0⟩
  | .LNK_WINDOW_hold_max => ⟨.LNK_WINDOW, 22, 10, .RC, .fhy, 0⟩
  | .LNK_FEC_cw_corrected => ⟨.LNK_FEC, 0, 16, .RC, .flhy, 0⟩
  | .LNK_FEC_cw_uncorrectable => ⟨.LNK_FEC, 16, 16, .RC, .flhy, 0⟩
  | .LNK_REPLAY_bad_flits => ⟨.LNK_REPLAY, 0, 16, .RC, .flhy, 0⟩
  | .LNK_REPLAY_goback_passes => ⟨.LNK_REPLAY, 16, 8, .RC, .flhy, 0⟩
  | .LNK_REPLAY_sel_fallbacks => ⟨.LNK_REPLAY, 24, 8, .RC, .flhy, 0⟩
  | .LNK_CREDIT_credit_stalls => ⟨.LNK_CREDIT, 0, 8, .RC, .flhy, 0⟩
  | .LNK_CREDIT_vc_drops => ⟨.LNK_CREDIT, 8, 8, .RC, .flhy, 0⟩
  | .LNK_CREDIT_dup_flits => ⟨.LNK_CREDIT, 16, 8, .RC, .flhy, 0⟩
  | .LNK_CREDIT_bad_ctrl => ⟨.LNK_CREDIT, 24, 8, .RC, .flhy, 0⟩
  | .LNK_DOWN_down_count => ⟨.LNK_DOWN, 0, 8, .RC, .flhy, 0⟩
  | .LNK_DOWN_last_cause => ⟨.LNK_DOWN, 8, 4, .RO, .flhy, 0⟩
  | .LNK_DOWN_broken_seen => ⟨.LNK_DOWN, 12, 1, .W1C, .flhy, 0⟩
  | .LNK_DOWN_flits_lost => ⟨.LNK_DOWN, 16, 16, .RC, .flhy, 0⟩
  | .LNK_EYE_margin => ⟨.LNK_EYE, 0, 8, .RO, .fhy, 0⟩
  | .LNK_EYE_worst_lane => ⟨.LNK_EYE, 8, 3, .RO, .fhy, 0⟩
  | .LNK_EYE_margin_min => ⟨.LNK_EYE, 11, 8, .RC, .fhy, 255⟩
  | .RTE_CTRL_scrub_en => ⟨.RTE_CTRL, 0, 1, .RW, .flhy, 1⟩
  | .RTE_CTRL_fence_event_en => ⟨.RTE_CTRL, 1, 1, .RW, .flhy, 1⟩
  | .RTE_STATUS_fence_denied => ⟨.RTE_STATUS, 0, 1, .W1C, .flhy, 0⟩
  | .RTE_STATUS_tbl_reject => ⟨.RTE_STATUS, 1, 1, .W1C, .flhy, 0⟩
  | .RTE_STATUS_copy_repaired => ⟨.RTE_STATUS, 2, 1, .W1C, .flhy, 0⟩
  | .RTE_STATUS_ce_count => ⟨.RTE_STATUS, 16, 16, .RC, .flhy, 0⟩
  | .RTE_EPOCH_epoch => ⟨.RTE_EPOCH, 0, 16, .RO, .flhy, 0⟩
  | .RTE_PLAN_rstate => ⟨.RTE_PLAN, 0, 3, .RO, .flhy, 0⟩
  | .RTE_PLAN_forwarding_only => ⟨.RTE_PLAN, 3, 1, .RO, .flhy, 0⟩
  | .RTE_FENCE_LO_fence_lo => ⟨.RTE_FENCE_LO, 0, 32, .RW, .flhy, 0xffffffff⟩
  | .RTE_FENCE_HI_fence_hi => ⟨.RTE_FENCE_HI, 0, 4, .RW, .flhy, 15⟩
  | .RTE_DYN_CFG_policy => ⟨.RTE_DYN_CFG, 0, 14, .RW, .flhy, 0⟩
  | .RTE_DYN_CFG_esc_q => ⟨.RTE_DYN_CFG, 14, 8, .RW, .flhy, 20⟩
  | .RTE_ORDER_CFG_idle_us => ⟨.RTE_ORDER_CFG, 0, 10, .RW, .flhy, 100⟩
  | .RTE_ORDER_CFG_retry_us => ⟨.RTE_ORDER_CFG, 10, 10, .RW, .flhy, 100⟩
  | .RTE_SAMPLE_CFG_period_measures => ⟨.RTE_SAMPLE_CFG, 0, 16, .RW, .flhy, 0x61b⟩
  | .RTE_SAMPLE_CFG_enable => ⟨.RTE_SAMPLE_CFG, 16, 1, .RW, .flhy, 1⟩
  | .RTE_MIRROR_rim => ⟨.RTE_MIRROR, 0, 3, .RO, .flhy, 0⟩
  | .RTE_MIRROR_table => ⟨.RTE_MIRROR, 3, 3, .RO, .flhy, 0⟩
  | .RTE_MIRROR_index => ⟨.RTE_MIRROR, 6, 16, .RO, .flhy, 0⟩
  | .RTE_MIRROR_port => ⟨.RTE_MIRROR, 22, 6, .RO, .flhy, 63⟩
  | .RTE_MIRROR_both_ue => ⟨.RTE_MIRROR, 28, 1, .RO, .flhy, 0⟩
  | .RTE_MIRROR_valid => ⟨.RTE_MIRROR, 31, 1, .W1C, .flhy, 0⟩
  | .RTE_TOLL_SEEN_entries => ⟨.RTE_TOLL_SEEN, 0, 10, .RO, .flhy, 0⟩
  | .RTE_TOLL_SEEN_entries_max => ⟨.RTE_TOLL_SEEN, 10, 10, .RC, .flhy, 0⟩
  | .RTE_TBL_ADDR_table => ⟨.RTE_TBL_ADDR, 0, 3, .RW, .none, 3⟩
  | .RTE_TBL_ADDR_index => ⟨.RTE_TBL_ADDR, 3, 9, .RW, .none, 0⟩
  | .RTE_TBL_DATA_LO_data_lo => ⟨.RTE_TBL_DATA_LO, 0, 32, .RW, .none, 0⟩
  | .RTE_TBL_DATA_HI_data_hi => ⟨.RTE_TBL_DATA_HI, 0, 32, .RW, .none, 0⟩
  | .RTE_ORDER_contexts => ⟨.RTE_ORDER, 0, 11, .RO, .flhy, 0⟩
  | .RTE_ORDER_pairs => ⟨.RTE_ORDER, 11, 11, .RO, .flhy, 0⟩
  | .RTE_ORDER_denials => ⟨.RTE_ORDER, 22, 5, .RC, .flhy, 0⟩
  | .RTE_ORDER_order_lost => ⟨.RTE_ORDER, 27, 5, .RC, .flhy, 0⟩
  | .RTE_PORT_DROP_fence_drops => ⟨.RTE_PORT_DROP, 0, 16, .RC, .flhy, 0⟩
  | .RTE_PORT_DROP_epoch_drops => ⟨.RTE_PORT_DROP, 16, 16, .RC, .flhy, 0⟩
  | .RTE_PORT_MISS_unknown_item => ⟨.RTE_PORT_MISS, 0, 12, .RC, .flhy, 0⟩
  | .RTE_PORT_MISS_unslotted => ⟨.RTE_PORT_MISS, 12, 8, .RC, .flhy, 0⟩
  | .RTE_PORT_MISS_aborts => ⟨.RTE_PORT_MISS, 20, 6, .RC, .flhy, 0⟩
  | .RTE_PORT_MISS_bad_dest => ⟨.RTE_PORT_MISS, 26, 6, .RC, .flhy, 0⟩
  | .RTE_PORT_VC0_late_sends => ⟨.RTE_PORT_VC0, 0, 16, .RC, .flhy, 0⟩
  | .RTE_PORT_VC0_vc0_sent => ⟨.RTE_PORT_VC0, 16, 16, .RC, .flhy, 0⟩
  | .HST_VERSION_version => ⟨.HST_VERSION, 0, 16, .RO, .none, 256⟩
  | .HST_VERSION_max_pairs => ⟨.HST_VERSION, 16, 16, .RO, .none, 64⟩
  | .HST_CTRL_enable => ⟨.HST_CTRL, 0, 1, .RW, .flhy, 0⟩
  | .HST_STATUS_hub_ready => ⟨.HST_STATUS, 0, 1, .RO, .flhy, 0⟩
  | .HST_STATUS_running => ⟨.HST_STATUS, 1, 1, .RO, .flhy, 0⟩
  | .HST_STATUS_neg_fail => ⟨.HST_STATUS, 2, 1, .W1C, .flhy, 0⟩
  | .HST_STATUS_pcie_down_seen => ⟨.HST_STATUS, 3, 1, .W1C, .flhy, 0⟩
  | .HST_STATUS_neg_bit => ⟨.HST_STATUS, 8, 8, .RO, .flhy, 0⟩
  | .HST_FEAT_SUP_sup => ⟨.HST_FEAT_SUP, 0, 32, .RO, .none, 0⟩
  | .HST_FEAT_REQ_req => ⟨.HST_FEAT_REQ, 0, 32, .RW, .flhy, 0⟩
  | .HST_FEAT_EN_en => ⟨.HST_FEAT_EN, 0, 32, .RO, .flhy, 0⟩
  | .HST_AQ_SQ_LO_sq_base => ⟨.HST_AQ_SQ_LO, 0, 32, .RW, .flhy, 0⟩
  | .HST_AQ_SQ_HI_sq_base => ⟨.HST_AQ_SQ_HI, 0, 32, .RW, .flhy, 0⟩
  | .HST_AQ_CQ_LO_cq_base => ⟨.HST_AQ_CQ_LO, 0, 32, .RW, .flhy, 0⟩
  | .HST_AQ_CQ_HI_cq_base => ⟨.HST_AQ_CQ_HI, 0, 32, .RW, .flhy, 0⟩
  | .HST_AQ_CFG_n => ⟨.HST_AQ_CFG, 0, 13, .RW, .flhy, 0⟩
  | .HST_AQ_CFG_vector => ⟨.HST_AQ_CFG, 13, 6, .RW, .flhy, 0⟩
  | .HST_BAR2_BASE_base_gib => ⟨.HST_BAR2_BASE, 0, 10, .RW, .flhy, 0⟩
  | .HST_EVT_BASE_LO_evt_base => ⟨.HST_EVT_BASE_LO, 0, 32, .RW, .flhy, 0⟩
  | .HST_EVT_BASE_HI_evt_base => ⟨.HST_EVT_BASE_HI, 0, 32, .RW, .flhy, 0⟩
  | .HST_EVT_CFG_entries => ⟨.HST_EVT_CFG, 0, 16, .RW, .flhy, 0⟩
  | .HST_EVT_CFG_vector => ⟨.HST_EVT_CFG, 16, 6, .RW, .flhy, 0⟩
  | .HST_ERR_bad_doorbell => ⟨.HST_ERR, 0, 8, .RC, .flhy, 0⟩
  | .HST_ERR_bad_access => ⟨.HST_ERR, 8, 8, .RC, .flhy, 0⟩
  | .HST_ERR_cmd_errors => ⟨.HST_ERR, 16, 8, .RC, .flhy, 0⟩
  | .HST_ERR_events_lost => ⟨.HST_ERR, 24, 8, .RC, .flhy, 0⟩
  | .HST_INGEST_ACC_accepted => ⟨.HST_INGEST_ACC, 0, 32, .RC, .flhy, 0⟩
  | .HST_INGEST_DROP_drop_full => ⟨.HST_INGEST_DROP, 0, 8, .RC, .flhy, 0⟩
  | .HST_INGEST_DROP_drop_size => ⟨.HST_INGEST_DROP, 8, 8, .RC, .flhy, 0⟩
  | .HST_INGEST_DROP_drop_state => ⟨.HST_INGEST_DROP, 16, 8, .RC, .flhy, 0⟩
  | .HST_INGEST_DROP_drop_late => ⟨.HST_INGEST_DROP, 24, 8, .RC, .flhy, 0⟩
  | .HST_INGEST_WIN_windows => ⟨.HST_INGEST_WIN, 0, 24, .RC, .flhy, 0⟩
  | .HST_INGEST_WIN_empty => ⟨.HST_INGEST_WIN, 24, 8, .RC, .flhy, 0⟩
  | .SRV_CTRL_zero_gate_n => ⟨.SRV_CTRL, 0, 8, .RW, .flhy, 0⟩
  | .SRV_STATUS_layout => ⟨.SRV_STATUS, 0, 1, .RO, .lh, 0⟩
  | .SRV_STATUS_slots => ⟨.SRV_STATUS, 1, 11, .RO, .lh, 0⟩
  | .SRV_STATUS_groups => ⟨.SRV_STATUS, 12, 7, .RO, .lh, 0⟩
  | .SRV_STATUS_heads => ⟨.SRV_STATUS, 19, 3, .RO, .lh, 0⟩
  | .SRV_OUT_HEAD_head => ⟨.SRV_OUT_HEAD, 0, 32, .RW, .lh, 0⟩
  | .SRV_OUT_TAIL_tail => ⟨.SRV_OUT_TAIL, 0, 32, .RO, .lh, 0⟩
  | .SRV_OUT_DROP_drops => ⟨.SRV_OUT_DROP, 0, 32, .RC, .lh, 0⟩
  | .SRV_WALK_START_started => ⟨.SRV_WALK_START, 0, 32, .RO, .lh, 0⟩
  | .SRV_WALK_DONE_completed => ⟨.SRV_WALK_DONE, 0, 32, .RO, .lh, 0⟩
  | .SRV_WALK_ERR_walk_errors => ⟨.SRV_WALK_ERR, 0, 16, .RC, .lh, 0⟩
  | .SRV_WALK_ERR_limit_hits => ⟨.SRV_WALK_ERR, 16, 16, .RC, .lh, 0⟩
  | .SRV_DRAFTED_drafted => ⟨.SRV_DRAFTED, 0, 32, .RC, .lh, 0⟩
  | .SRV_ACCEPTED_accepted => ⟨.SRV_ACCEPTED, 0, 32, .RC, .lh, 0⟩
  | .SRV_EVENTS_superseded => ⟨.SRV_EVENTS, 0, 12, .RC, .lh, 0⟩
  | .SRV_EVENTS_adapter_lost => ⟨.SRV_EVENTS, 12, 8, .RC, .lh, 0⟩
  | .SRV_EVENTS_auto_gates => ⟨.SRV_EVENTS, 20, 12, .RC, .lh, 0⟩
  | .SRV_BUILD_last_beats => ⟨.SRV_BUILD, 0, 16, .RO, .lh, 0⟩
  | .SRV_BUILD_max_beats => ⟨.SRV_BUILD, 16, 16, .RC, .lh, 0⟩
  | .MGT_STATUS_safe => ⟨.MGT_STATUS, 0, 1, .RO, .flhy, 0⟩
  | .MGT_STATUS_rom_recovery => ⟨.MGT_STATUS, 1, 1, .RO, .flhy, 0⟩
  | .MGT_STATUS_host_denied => ⟨.MGT_STATUS, 2, 1, .W1C, .flhy, 0⟩
  | .MGT_BOOT_image => ⟨.MGT_BOOT, 0, 1, .RO, .flhy, 0⟩
  | .MGT_BOOT_preferred => ⟨.MGT_BOOT, 1, 1, .RO, .flhy, 0⟩
  | .MGT_BOOT_fallback => ⟨.MGT_BOOT, 2, 1, .RO, .flhy, 0⟩
  | .MGT_BOOT_update_pending => ⟨.MGT_BOOT, 3, 1, .RO, .flhy, 0⟩
  | .MGT_BOOT_boot_ms => ⟨.MGT_BOOT, 16, 16, .RO, .flhy, 0⟩
  | .MGT_FW_VERSION_version => ⟨.MGT_FW_VERSION, 0, 32, .RO, .flhy, 0⟩
  | .MGT_CFG_STATUS_refused_id => ⟨.MGT_CFG_STATUS, 0, 16, .RO, .flhy, 0xffff⟩
  | .MGT_CFG_STATUS_refused_count => ⟨.MGT_CFG_STATUS, 16, 8, .RO, .flhy, 0⟩
  | .MGT_CFG_STATUS_repaired => ⟨.MGT_CFG_STATUS, 24, 8, .RC, .flhy, 0⟩
  | .MGT_PMBUS_vin_q => ⟨.MGT_PMBUS, 0, 8, .RO, .flhy, 0⟩
  | .MGT_PMBUS_iin_q => ⟨.MGT_PMBUS, 8, 8, .RO, .flhy, 0⟩
  | .MGT_PMBUS_stage_temp => ⟨.MGT_PMBUS, 16, 8, .RO, .flhy, 0⟩
  | .MGT_PMBUS_stage_fault => ⟨.MGT_PMBUS, 24, 1, .W1C, .flhy, 0⟩
  | .MGT_PMBUS_vin_low => ⟨.MGT_PMBUS, 25, 1, .W1C, .flhy, 0⟩
  | .MGT_ERR_lock_denied => ⟨.MGT_ERR, 0, 8, .RC, .flhy, 0⟩
  | .MGT_ERR_db_ignored => ⟨.MGT_ERR, 8, 8, .RC, .flhy, 0⟩
  | .MGT_ERR_lc_denied => ⟨.MGT_ERR, 16, 8, .RC, .flhy, 0⟩
  | .MGT_ERR_access_denied => ⟨.MGT_ERR, 24, 8, .RC, .flhy, 0⟩
  | .MGT_MBX_CFG_vector => ⟨.MGT_MBX_CFG, 0, 6, .RW, .flhy, 0⟩
  | .MGT_MBX_CFG_irq_en => ⟨.MGT_MBX_CFG, 6, 1, .RW, .flhy, 0⟩
  | .MGT_MBX_LOCK_lock => ⟨.MGT_MBX_LOCK, 0, 8, .RW, .flhy, 0⟩
  | .MGT_MBX_DOORBELL_length => ⟨.MGT_MBX_DOORBELL, 0, 11, .WO, .none, 0⟩
  | .MGT_MBX_STATUS_owner => ⟨.MGT_MBX_STATUS, 0, 8, .RO, .flhy, 0⟩
  | .MGT_MBX_STATUS_busy => ⟨.MGT_MBX_STATUS, 8, 1, .RO, .flhy, 0⟩
  | .MGT_MBX_STATUS_done => ⟨.MGT_MBX_STATUS, 9, 1, .RO, .flhy, 0⟩
  | .MGT_MBX_STATUS_lock_denied => ⟨.MGT_MBX_STATUS, 10, 1, .W1C, .flhy, 0⟩
  | .MGT_MBX_STATUS_db_ignored => ⟨.MGT_MBX_STATUS, 11, 1, .W1C, .flhy, 0⟩
  | .MGT_MBX_STATUS_server => ⟨.MGT_MBX_STATUS, 16, 8, .RO, .none, 0⟩
  | .MGT_MBX_STATUS_seq => ⟨.MGT_MBX_STATUS, 24, 8, .RO, .flhy, 0⟩
  | .SEC_CTRL_wipe => ⟨.SEC_CTRL, 0, 1, .WO, .none, 0⟩
  | .SEC_STATUS_wipe_busy => ⟨.SEC_STATUS, 0, 1, .RO, .none, 0⟩
  | .SEC_STATUS_nonsec_denied => ⟨.SEC_STATUS, 1, 1, .W1C, .flhy, 0⟩
  | .SEC_STATUS_last_cause => ⟨.SEC_STATUS, 8, 2, .RO, .flhy, 0⟩
  | .SEC_STATUS_wipe_count => ⟨.SEC_STATUS, 16, 16, .RC, .flhy, 0⟩
  | .SEC_LC_state => ⟨.SEC_LC, 0, 3, .RO, .none, 0⟩
  | .SEC_LC_busy => ⟨.SEC_LC, 3, 1, .RO, .none, 0⟩
  | .SEC_LC_last_denied => ⟨.SEC_LC, 8, 8, .RO, .flhy, 0⟩
  | .SEC_LC_NONCE_nonce => ⟨.SEC_LC_NONCE, 0, 32, .RO, .none, 0⟩
  | .SEC_TAMPER_level => ⟨.SEC_TAMPER, 0, 1, .RO, .none, 0⟩
  | .SEC_TAMPER_seen => ⟨.SEC_TAMPER, 1, 1, .W1C, .flhy, 0⟩
  | .SEC_TAMPER_count => ⟨.SEC_TAMPER, 8, 8, .RC, .flhy, 0⟩
  | .FLT_CTRL_pwr_target => ⟨.FLT_CTRL, 0, 2, .WO, .none, 0⟩
  | .FLT_CTRL_field_reset => ⟨.FLT_CTRL, 2, 1, .WO, .none, 0⟩
  | .FLT_CTRL_report_en => ⟨.FLT_CTRL, 3, 1, .RW, .flhy, 1⟩
  | .FLT_STATUS_pwr_state => ⟨.FLT_STATUS, 0, 2, .RO, .none, 0⟩
  | .FLT_STATUS_pwr_reject => ⟨.FLT_STATUS, 2, 1, .W1C, .flhy, 0⟩
  | .FLT_STATUS_reset_reject => ⟨.FLT_STATUS, 3, 1, .W1C, .flhy, 0⟩
  | .FLT_STATUS_alert0 => ⟨.FLT_STATUS, 4, 1, .RO, .flhy, 0⟩
  | .FLT_STATUS_alert1 => ⟨.FLT_STATUS, 5, 1, .RO, .none, 0⟩
  | .FLT_FATAL_reason => ⟨.FLT_FATAL, 0, 16, .RO, .flhy, 0⟩
  | .FLT_FATAL_later_count => ⟨.FLT_FATAL, 16, 8, .RO, .flhy, 0⟩
  | .FLT_FATAL_active => ⟨.FLT_FATAL, 24, 1, .RO, .flhy, 0⟩
  | .FLT_FATAL_DETAIL_detail => ⟨.FLT_FATAL_DETAIL, 0, 32, .RO, .flhy, 0⟩
  | .FLT_FATAL_BEAT_LO_beat_lo => ⟨.FLT_FATAL_BEAT_LO, 0, 32, .RO, .flhy, 0⟩
  | .FLT_FATAL_BEAT_HI_beat_hi => ⟨.FLT_FATAL_BEAT_HI, 0, 32, .RO, .flhy, 0⟩
  | .FLT_FATAL_PLAN_plan_state => ⟨.FLT_FATAL_PLAN, 0, 3, .RO, .flhy, 0⟩
  | .FLT_FATAL_PLAN_epoch => ⟨.FLT_FATAL_PLAN, 16, 16, .RO, .flhy, 0⟩
  | .FLT_DUMP_valid => ⟨.FLT_DUMP, 0, 1, .RO, .flhy, 0⟩
  | .FLT_DUMP_busy => ⟨.FLT_DUMP, 1, 1, .RO, .none, 0⟩
  | .FLT_DUMP_summary_only => ⟨.FLT_DUMP, 2, 1, .RO, .flhy, 0⟩
  | .FLT_DUMP_field_absent => ⟨.FLT_DUMP, 3, 1, .RO, .flhy, 0⟩
  | .FLT_DUMP_pending => ⟨.FLT_DUMP, 4, 1, .RO, .flhy, 0⟩
  | .FLT_DUMP_length => ⟨.FLT_DUMP, 16, 13, .RO, .flhy, 0⟩
  | .FLT_WARN_pending => ⟨.FLT_WARN, 0, 12, .W1C, .flhy, 0⟩
  | .FLT_WARN_MASK_mask => ⟨.FLT_WARN_MASK, 0, 12, .RW, .flhy, 0⟩
  | .FLT_RESETS_field_resets => ⟨.FLT_RESETS, 0, 16, .RC, .pflhy, 0⟩
  | .FLT_RESETS_package_resets => ⟨.FLT_RESETS, 16, 8, .RC, .pflhy, 0⟩
  | .FLT_RESETS_relay_entries => ⟨.FLT_RESETS, 24, 8, .RC, .pflhy, 0⟩
  | .FLT_LAST_RESET_cause => ⟨.FLT_LAST_RESET, 0, 4, .RO, .pflhy, 0⟩
  | .FLT_REPORT_sent => ⟨.FLT_REPORT, 0, 16, .RC, .flhy, 0⟩
  | .FLT_REPORT_last_seq => ⟨.FLT_REPORT, 16, 16, .RO, .flhy, 0⟩
  | .TEL_CTRL_period_measures => ⟨.TEL_CTRL, 0, 16, .RW, .flhy, 0x61b⟩
  | .TEL_CTRL_collect_en => ⟨.TEL_CTRL, 16, 1, .RW, .flhy, 1⟩
  | .TEL_CTRL_stream_en => ⟨.TEL_CTRL, 17, 1, .RW, .flhy, 0⟩
  | .TEL_CTRL_stream_div => ⟨.TEL_CTRL, 18, 14, .RW, .flhy, 0x3e8⟩
  | .TEL_STATUS_offline_read => ⟨.TEL_STATUS, 0, 1, .W1C, .flhy, 0⟩
  | .TEL_STATUS_ring_lost => ⟨.TEL_STATUS, 1, 1, .W1C, .flhy, 0⟩
  | .TEL_STATUS_limit_reached => ⟨.TEL_STATUS, 2, 1, .W1C, .flhy, 0⟩
  | .TEL_CONG_COUNT_written => ⟨.TEL_CONG_COUNT, 0, 32, .RO, .flhy, 0⟩
  | .TEL_CONG_LOST_lost => ⟨.TEL_CONG_LOST, 0, 32, .RC, .flhy, 0⟩
  | .TEL_MOD_COUNT_written => ⟨.TEL_MOD_COUNT, 0, 32, .RO, .flhy, 0⟩
  | .TEL_MOD_LOST_lost => ⟨.TEL_MOD_LOST, 0, 32, .RC, .flhy, 0⟩
  | .TEL_AGE_CFG_limit_q => ⟨.TEL_AGE_CFG, 0, 16, .RW, .flhy, 0x7ae⟩
  | .TEL_AGE_CFG_period_h => ⟨.TEL_AGE_CFG, 16, 8, .RW, .flhy, 1⟩
  | .TEL_AGE_CFG_min_points => ⟨.TEL_AGE_CFG, 24, 8, .RW, .flhy, 24⟩
  | .TEL_LIFE_HOURS_hours => ⟨.TEL_LIFE_HOURS, 0, 32, .RO, .flhy, 0xffffffff⟩
  | .TEL_LIFE_LOW_low => ⟨.TEL_LIFE_LOW, 0, 32, .RO, .flhy, 0xffffffff⟩
  | .TEL_LIFE_HIGH_high => ⟨.TEL_LIFE_HIGH, 0, 32, .RO, .flhy, 0xffffffff⟩
  | .TEL_LIFE_CAUSE_status => ⟨.TEL_LIFE_CAUSE, 0, 2, .RO, .flhy, 0⟩
  | .TEL_LIFE_CAUSE_code => ⟨.TEL_LIFE_CAUSE, 8, 8, .RO, .flhy, 0⟩
  | .TEL_LIFE_CAUSE_detail => ⟨.TEL_LIFE_CAUSE, 16, 16, .RO, .flhy, 0⟩
  | .TEL_HW_HALTS_count => ⟨.TEL_HW_HALTS, 0, 16, .RC, .flhy, 0⟩
  | .TEL_HW_HALTS_last_die => ⟨.TEL_HW_HALTS, 16, 3, .RO, .flhy, 0⟩
  | .TEL_AGE_d => ⟨.TEL_AGE, 0, 16, .RO, .flhy, 0⟩
  | .TEL_AGE_valid => ⟨.TEL_AGE, 16, 1, .RO, .flhy, 0⟩

def RegField.width (f : RegField) : Nat := f.info.width
def RegField.lo (f : RegField) : Nat := f.info.lo
def RegField.access (f : RegField) : Access := f.info.acc

/-- R13: does a field with this Survives entry keep its value across the event? -/
def Keep.survives : Keep → Ev → Bool
  | .none, _ => false
  | .flhy, e => decide (e = .field) || decide (e = .link) || decide (e = .hush) || decide (e = .relay)
  | .lh, e => decide (e = .link) || decide (e = .hush)
  | .fhy, e => decide (e = .field) || decide (e = .hush) || decide (e = .relay)
  | .lhy, e => decide (e = .link) || decide (e = .hush) || decide (e = .relay)
  | .pflhy, e => decide (e = .package) || decide (e = .field) || decide (e = .link) || decide (e = .hush) || decide (e = .relay)
  | .hy, e => decide (e = .hush) || decide (e = .relay)

def RegField.survives (f : RegField) (e : Ev) : Bool := f.info.keep.survives e

/-- The fields of each register, in the order of its table. -/
def Reg.fields : Reg → List RegField
  | .BEAT_CTRL => [.BEAT_CTRL_time_root, .BEAT_CTRL_parent_port, .BEAT_CTRL_parent_valid, .BEAT_CTRL_limit_lock]
  | .BEAT_STATUS => [.BEAT_STATUS_state, .BEAT_STATUS_ref_present, .BEAT_STATUS_ref_lost, .BEAT_STATUS_skew_warn, .BEAT_STATUS_ctrl_reject, .BEAT_STATUS_parent_lost, .BEAT_STATUS_depth]
  | .BEAT_COUNT_LO => [.BEAT_COUNT_LO_count_lo]
  | .BEAT_COUNT_HI => [.BEAT_COUNT_HI_count_hi]
  | .BEAT_FRAC => [.BEAT_FRAC_frac]
  | .BEAT_PARENT_OFFSET => [.BEAT_PARENT_OFFSET_parent_offset]
  | .BEAT_SKEW_LIMIT => [.BEAT_SKEW_LIMIT_warn_ps, .BEAT_SKEW_LIMIT_fatal_ps]
  | .BEAT_DERATE => [.BEAT_DERATE_derate_n]
  | .BEAT_PORT_DELAY => [.BEAT_PORT_DELAY_delay_ps]
  | .BEAT_PORT_SKEW => [.BEAT_PORT_SKEW_offset_ps, .BEAT_PORT_SKEW_max_abs_ps]
  | .BEAT_REG_FSET => [.BEAT_REG_FSET_fset_code, .BEAT_REG_FSET_fmax_code, .BEAT_REG_FSET_fset_reject]
  | .BEAT_REG_CYC => [.BEAT_REG_CYC_last_cycles, .BEAT_REG_CYC_min_cycles]
  | .BEAT_REG_SHORT => [.BEAT_REG_SHORT_short_measures]
  | .BEAT_REG_FCST => [.BEAT_REG_FCST_armed_code, .BEAT_REG_FCST_measured_code, .BEAT_REG_FCST_over_tol, .BEAT_REG_FCST_late_rows]
  | .PLN_CTRL => [.PLN_CTRL_finish_words, .PLN_CTRL_stats_clear]
  | .PLN_STATUS => [.PLN_STATUS_state, .PLN_STATUS_arm_missed, .PLN_STATUS_stop_drop, .PLN_STATUS_rest_pending]
  | .PLN_LOAD_STATUS => [.PLN_LOAD_STATUS_code, .PLN_LOAD_STATUS_detail]
  | .PLN_EPOCH => [.PLN_EPOCH_epoch, .PLN_EPOCH_last_epoch]
  | .PLN_CFG => [.PLN_CFG_toll_reach, .PLN_CFG_grace_q, .PLN_CFG_region_rest, .PLN_CFG_item_rest]
  | .PLN_DOMAIN => [.PLN_DOMAIN_domain_modules, .PLN_DOMAIN_k_required]
  | .PLN_START_LO => [.PLN_START_LO_start_beat]
  | .PLN_START_HI => [.PLN_START_HI_start_beat]
  | .PLN_BEAT_LO => [.PLN_BEAT_LO_plan_beat]
  | .PLN_BEAT_HI => [.PLN_BEAT_HI_plan_beat]
  | .PLN_STOP_LO => [.PLN_STOP_LO_stop_lo]
  | .PLN_STOP_HI => [.PLN_STOP_HI_stop_hi, .PLN_STOP_HI_stop_valid]
  | .PLN_REST_TOTAL => [.PLN_REST_TOTAL_rest_measures]
  | .PLN_NEXT_REST => [.PLN_NEXT_REST_measure_lo, .PLN_NEXT_REST_rest_len]
  | .PLN_TOLL_ORIG => [.PLN_TOLL_ORIG_region_late, .PLN_TOLL_ORIG_item_late, .PLN_TOLL_ORIG_link, .PLN_TOLL_ORIG_stop]
  | .PLN_TOLL_RX => [.PLN_TOLL_RX_received, .PLN_TOLL_RX_foreign, .PLN_TOLL_RX_merged]
  | .PLN_LAST => [.PLN_LAST_last_measures]
  | .PLN_REST_LIST => [.PLN_REST_LIST_entries, .PLN_REST_LIST_max_entries]
  | .PLN_LAST_TOLL0 => [.PLN_LAST_TOLL0_beat_lo]
  | .PLN_LAST_TOLL1 => [.PLN_LAST_TOLL1_beat_hi]
  | .PLN_LAST_TOLL2 => [.PLN_LAST_TOLL2_origin_id, .PLN_LAST_TOLL2_toll_id]
  | .PLN_LAST_TOLL3 => [.PLN_LAST_TOLL3_epoch, .PLN_LAST_TOLL3_rest_d, .PLN_LAST_TOLL3_cause, .PLN_LAST_TOLL3_hops]
  | .PLN_DIE_LATE => [.PLN_DIE_LATE_late_measures, .PLN_DIE_LATE_last_region]
  | .TIL_CTRL => [.TIL_CTRL_halt_clear, .TIL_CTRL_force_halt, .TIL_CTRL_halt_event_en]
  | .TIL_STATUS => [.TIL_STATUS_state, .TIL_STATUS_clear_reject, .TIL_STATUS_row_good, .TIL_STATUS_voice_id]
  | .TIL_HALT_REASON => [.TIL_HALT_REASON_reason, .TIL_HALT_REASON_unit, .TIL_HALT_REASON_valid]
  | .TIL_HALT_PC => [.TIL_HALT_PC_pc]
  | .TIL_HALT_DETAIL => [.TIL_HALT_DETAIL_detail]
  | .TIL_HALT_BEAT_LO => [.TIL_HALT_BEAT_LO_beat_lo]
  | .TIL_HALT_BEAT_HI => [.TIL_HALT_BEAT_HI_beat_hi]
  | .TIL_TOKEN => [.TIL_TOKEN_board]
  | .TIL_QUEUE_OCC => [.TIL_QUEUE_OCC_occupancy]
  | .TIL_QUEUE_DROP => [.TIL_QUEUE_DROP_dropped]
  | .TIL_WAIT_STAT => [.TIL_WAIT_STAT_longest_wait, .TIL_WAIT_STAT_long_waits]
  | .TIL_FLAGS => [.TIL_FLAGS_flags]
  | .TIL_SAT_COUNT => [.TIL_SAT_COUNT_sat_count]
  | .TIL_NAN_COUNT => [.TIL_NAN_COUNT_nan_count, .TIL_NAN_COUNT_acc_overflow]
  | .TIL_NARROW_STATUS => [.TIL_NARROW_STATUS_sat_seen, .TIL_NARROW_STATUS_nan_seen, .TIL_NARROW_STATUS_acc_ovf_seen, .TIL_NARROW_STATUS_canary_div_seen, .TIL_NARROW_STATUS_canary_rate_bad]
  | .TIL_SEED => [.TIL_SEED_seed]
  | .TIL_CANARY_CFG => [.TIL_CANARY_CFG_threshold_t, .TIL_CANARY_CFG_canary_event_en]
  | .TIL_CANARY_CHECKED => [.TIL_CANARY_CHECKED_canary_checked]
  | .TIL_CANARY_DIVERGED => [.TIL_CANARY_DIVERGED_canary_diverged]
  | .TIL_CANARY_WORST => [.TIL_CANARY_WORST_worst_div, .TIL_CANARY_WORST_worst_format]
  | .FLD_SPAD_TEST => [.FLD_SPAD_TEST_test_en, .FLD_SPAD_TEST_passes]
  | .FLD_SPAD_ERR => [.FLD_SPAD_ERR_ce_count, .FLD_SPAD_ERR_ue_count, .FLD_SPAD_ERR_test_fail]
  | .FLD_SPAD_FAIL => [.FLD_SPAD_FAIL_column, .FLD_SPAD_FAIL_row, .FLD_SPAD_FAIL_unit, .FLD_SPAD_FAIL_kind, .FLD_SPAD_FAIL_valid]
  | .FLD_SPAD_SECURE => [.FLD_SPAD_SECURE_base_blk, .FLD_SPAD_SECURE_size_blk, .FLD_SPAD_SECURE_open, .FLD_SPAD_SECURE_wipe_busy, .FLD_SPAD_SECURE_cfg_reject, .FLD_SPAD_SECURE_nonsec_denied]
  | .FLD_DMA_STAT => [.FLD_DMA_STAT_conflict_retries, .FLD_DMA_STAT_conflict_fail, .FLD_DMA_STAT_secure_denied]
  | .HBM_PLAN_LIMIT_LO => [.HBM_PLAN_LIMIT_LO_limit_lo]
  | .HBM_PLAN_LIMIT_HI => [.HBM_PLAN_LIMIT_HI_limit_hi]
  | .HBM_STATUS => [.HBM_STATUS_limit_reject, .HBM_STATUS_plan_area_drops]
  | .HBM_CTRL => [.HBM_CTRL_scrub_hours]
  | .HBM_ECC_CE => [.HBM_ECC_CE_ce_count]
  | .HBM_ECC_UE => [.HBM_ECC_UE_ue_count]
  | .HBM_UE_ADDR_LO => [.HBM_UE_ADDR_LO_addr_lo]
  | .HBM_UE_ADDR_HI => [.HBM_UE_ADDR_HI_addr_hi, .HBM_UE_ADDR_HI_valid]
  | .HBM_OCC => [.HBM_OCC_plan_units, .HBM_OCC_busy_q, .HBM_OCC_other_k]
  | .HBM_OCC_MAX => [.HBM_OCC_MAX_plan_units_max, .HBM_OCC_MAX_busy_q_max]
  | .TTM_PLAN_LIMIT_LO => [.TTM_PLAN_LIMIT_LO_limit_lo]
  | .TTM_PLAN_LIMIT_HI => [.TTM_PLAN_LIMIT_HI_limit_hi]
  | .TTM_STATUS => [.TTM_STATUS_limit_reject]
  | .TTM_ECC => [.TTM_ECC_link_ce, .TTM_ECC_link_ue, .TTM_ECC_ecs_count]
  | .TTM_UE_ADDR_LO => [.TTM_UE_ADDR_LO_addr_lo]
  | .TTM_UE_ADDR_HI => [.TTM_UE_ADDR_HI_addr_hi, .TTM_UE_ADDR_HI_valid]
  | .TTM_ITEMS => [.TTM_ITEMS_outstanding]
  | .TTM_ITEMS_MAX => [.TTM_ITEMS_MAX_outstanding_max]
  | .TTM_LATE => [.TTM_LATE_late_items, .TTM_LATE_late_measures]
  | .TTM_OCC => [.TTM_OCC_plan_units, .TTM_OCC_busy_q, .TTM_OCC_other_k]
  | .TTM_OCC_MAX => [.TTM_OCC_MAX_plan_units_max, .TTM_OCC_MAX_busy_q_max]
  | .LNK_SERIAL_LO => [.LNK_SERIAL_LO_serial_lo]
  | .LNK_SERIAL_HI => [.LNK_SERIAL_HI_serial_hi]
  | .LNK_CTRL => [.LNK_CTRL_enable, .LNK_CTRL_reset, .LNK_CTRL_auto_retrain, .LNK_CTRL_cfg_lock]
  | .LNK_CFG => [.LNK_CFG_gen_max, .LNK_CFG_max_width, .LNK_CFG_min_width, .LNK_CFG_mode, .LNK_CFG_vc_count, .LNK_CFG_retx_mode]
  | .LNK_TIMER => [.LNK_TIMER_replay_to, .LNK_TIMER_replay_limit, .LNK_TIMER_lock_loss, .LNK_TIMER_credit_to]
  | .LNK_GIVE => [.LNK_GIVE_give_beats, .LNK_GIVE_in_plan]
  | .LNK_STATUS => [.LNK_STATUS_state, .LNK_STATUS_gen, .LNK_STATUS_width, .LNK_STATUS_mode, .LNK_STATUS_vc_count, .LNK_STATUS_leader, .LNK_STATUS_selective, .LNK_STATUS_reset_reject, .LNK_STATUS_lanes]
  | .LNK_TRAIN => [.LNK_TRAIN_fail_code, .LNK_TRAIN_attempts, .LNK_TRAIN_ups, .LNK_TRAIN_tlk2_fallback]
  | .LNK_PEER_LO => [.LNK_PEER_LO_peer_serial_lo]
  | .LNK_PEER_HI => [.LNK_PEER_HI_peer_serial_hi]
  | .LNK_PEER_INFO => [.LNK_PEER_INFO_peer_id, .LNK_PEER_INFO_peer_port]
  | .LNK_WINDOW => [.LNK_WINDOW_outstanding, .LNK_WINDOW_outstanding_max, .LNK_WINDOW_hold_max]
  | .LNK_FEC => [.LNK_FEC_cw_corrected, .LNK_FEC_cw_uncorrectable]
  | .LNK_REPLAY => [.LNK_REPLAY_bad_flits, .LNK_REPLAY_goback_passes, .LNK_REPLAY_sel_fallbacks]
  | .LNK_CREDIT => [.LNK_CREDIT_credit_stalls, .LNK_CREDIT_vc_drops, .LNK_CREDIT_dup_flits, .LNK_CREDIT_bad_ctrl]
  | .LNK_DOWN => [.LNK_DOWN_down_count, .LNK_DOWN_last_cause, .LNK_DOWN_broken_seen, .LNK_DOWN_flits_lost]
  | .LNK_EYE => [.LNK_EYE_margin, .LNK_EYE_worst_lane, .LNK_EYE_margin_min]
  | .RTE_CTRL => [.RTE_CTRL_scrub_en, .RTE_CTRL_fence_event_en]
  | .RTE_STATUS => [.RTE_STATUS_fence_denied, .RTE_STATUS_tbl_reject, .RTE_STATUS_copy_repaired, .RTE_STATUS_ce_count]
  | .RTE_EPOCH => [.RTE_EPOCH_epoch]
  | .RTE_PLAN => [.RTE_PLAN_rstate, .RTE_PLAN_forwarding_only]
  | .RTE_FENCE_LO => [.RTE_FENCE_LO_fence_lo]
  | .RTE_FENCE_HI => [.RTE_FENCE_HI_fence_hi]
  | .RTE_DYN_CFG => [.RTE_DYN_CFG_policy, .RTE_DYN_CFG_esc_q]
  | .RTE_ORDER_CFG => [.RTE_ORDER_CFG_idle_us, .RTE_ORDER_CFG_retry_us]
  | .RTE_SAMPLE_CFG => [.RTE_SAMPLE_CFG_period_measures, .RTE_SAMPLE_CFG_enable]
  | .RTE_MIRROR => [.RTE_MIRROR_rim, .RTE_MIRROR_table, .RTE_MIRROR_index, .RTE_MIRROR_port, .RTE_MIRROR_both_ue, .RTE_MIRROR_valid]
  | .RTE_TOLL_SEEN => [.RTE_TOLL_SEEN_entries, .RTE_TOLL_SEEN_entries_max]
  | .RTE_TBL_ADDR => [.RTE_TBL_ADDR_table, .RTE_TBL_ADDR_index]
  | .RTE_TBL_DATA_LO => [.RTE_TBL_DATA_LO_data_lo]
  | .RTE_TBL_DATA_HI => [.RTE_TBL_DATA_HI_data_hi]
  | .RTE_ORDER => [.RTE_ORDER_contexts, .RTE_ORDER_pairs, .RTE_ORDER_denials, .RTE_ORDER_order_lost]
  | .RTE_PORT_DROP => [.RTE_PORT_DROP_fence_drops, .RTE_PORT_DROP_epoch_drops]
  | .RTE_PORT_MISS => [.RTE_PORT_MISS_unknown_item, .RTE_PORT_MISS_unslotted, .RTE_PORT_MISS_aborts, .RTE_PORT_MISS_bad_dest]
  | .RTE_PORT_VC0 => [.RTE_PORT_VC0_late_sends, .RTE_PORT_VC0_vc0_sent]
  | .HST_VERSION => [.HST_VERSION_version, .HST_VERSION_max_pairs]
  | .HST_CTRL => [.HST_CTRL_enable]
  | .HST_STATUS => [.HST_STATUS_hub_ready, .HST_STATUS_running, .HST_STATUS_neg_fail, .HST_STATUS_pcie_down_seen, .HST_STATUS_neg_bit]
  | .HST_FEAT_SUP => [.HST_FEAT_SUP_sup]
  | .HST_FEAT_REQ => [.HST_FEAT_REQ_req]
  | .HST_FEAT_EN => [.HST_FEAT_EN_en]
  | .HST_AQ_SQ_LO => [.HST_AQ_SQ_LO_sq_base]
  | .HST_AQ_SQ_HI => [.HST_AQ_SQ_HI_sq_base]
  | .HST_AQ_CQ_LO => [.HST_AQ_CQ_LO_cq_base]
  | .HST_AQ_CQ_HI => [.HST_AQ_CQ_HI_cq_base]
  | .HST_AQ_CFG => [.HST_AQ_CFG_n, .HST_AQ_CFG_vector]
  | .HST_BAR2_BASE => [.HST_BAR2_BASE_base_gib]
  | .HST_EVT_BASE_LO => [.HST_EVT_BASE_LO_evt_base]
  | .HST_EVT_BASE_HI => [.HST_EVT_BASE_HI_evt_base]
  | .HST_EVT_CFG => [.HST_EVT_CFG_entries, .HST_EVT_CFG_vector]
  | .HST_ERR => [.HST_ERR_bad_doorbell, .HST_ERR_bad_access, .HST_ERR_cmd_errors, .HST_ERR_events_lost]
  | .HST_INGEST_ACC => [.HST_INGEST_ACC_accepted]
  | .HST_INGEST_DROP => [.HST_INGEST_DROP_drop_full, .HST_INGEST_DROP_drop_size, .HST_INGEST_DROP_drop_state, .HST_INGEST_DROP_drop_late]
  | .HST_INGEST_WIN => [.HST_INGEST_WIN_windows, .HST_INGEST_WIN_empty]
  | .SRV_CTRL => [.SRV_CTRL_zero_gate_n]
  | .SRV_STATUS => [.SRV_STATUS_layout, .SRV_STATUS_slots, .SRV_STATUS_groups, .SRV_STATUS_heads]
  | .SRV_OUT_HEAD => [.SRV_OUT_HEAD_head]
  | .SRV_OUT_TAIL => [.SRV_OUT_TAIL_tail]
  | .SRV_OUT_DROP => [.SRV_OUT_DROP_drops]
  | .SRV_WALK_START => [.SRV_WALK_START_started]
  | .SRV_WALK_DONE => [.SRV_WALK_DONE_completed]
  | .SRV_WALK_ERR => [.SRV_WALK_ERR_walk_errors, .SRV_WALK_ERR_limit_hits]
  | .SRV_DRAFTED => [.SRV_DRAFTED_drafted]
  | .SRV_ACCEPTED => [.SRV_ACCEPTED_accepted]
  | .SRV_EVENTS => [.SRV_EVENTS_superseded, .SRV_EVENTS_adapter_lost, .SRV_EVENTS_auto_gates]
  | .SRV_BUILD => [.SRV_BUILD_last_beats, .SRV_BUILD_max_beats]
  | .MGT_STATUS => [.MGT_STATUS_safe, .MGT_STATUS_rom_recovery, .MGT_STATUS_host_denied]
  | .MGT_BOOT => [.MGT_BOOT_image, .MGT_BOOT_preferred, .MGT_BOOT_fallback, .MGT_BOOT_update_pending, .MGT_BOOT_boot_ms]
  | .MGT_CFG_STATUS => [.MGT_CFG_STATUS_refused_id, .MGT_CFG_STATUS_refused_count, .MGT_CFG_STATUS_repaired]
  | .MGT_FW_VERSION => [.MGT_FW_VERSION_version]
  | .MGT_PMBUS => [.MGT_PMBUS_vin_q, .MGT_PMBUS_iin_q, .MGT_PMBUS_stage_temp, .MGT_PMBUS_stage_fault, .MGT_PMBUS_vin_low]
  | .MGT_ERR => [.MGT_ERR_lock_denied, .MGT_ERR_db_ignored, .MGT_ERR_lc_denied, .MGT_ERR_access_denied]
  | .MGT_MBX_CFG => [.MGT_MBX_CFG_vector, .MGT_MBX_CFG_irq_en]
  | .MGT_MBX_LOCK => [.MGT_MBX_LOCK_lock]
  | .MGT_MBX_DOORBELL => [.MGT_MBX_DOORBELL_length]
  | .MGT_MBX_STATUS => [.MGT_MBX_STATUS_owner, .MGT_MBX_STATUS_busy, .MGT_MBX_STATUS_done, .MGT_MBX_STATUS_lock_denied, .MGT_MBX_STATUS_db_ignored, .MGT_MBX_STATUS_server, .MGT_MBX_STATUS_seq]
  | .SEC_CTRL => [.SEC_CTRL_wipe]
  | .SEC_STATUS => [.SEC_STATUS_wipe_busy, .SEC_STATUS_nonsec_denied, .SEC_STATUS_last_cause, .SEC_STATUS_wipe_count]
  | .SEC_LC => [.SEC_LC_state, .SEC_LC_busy, .SEC_LC_last_denied]
  | .SEC_LC_NONCE => [.SEC_LC_NONCE_nonce]
  | .SEC_TAMPER => [.SEC_TAMPER_level, .SEC_TAMPER_seen, .SEC_TAMPER_count]
  | .FLT_CTRL => [.FLT_CTRL_pwr_target, .FLT_CTRL_field_reset, .FLT_CTRL_report_en]
  | .FLT_STATUS => [.FLT_STATUS_pwr_state, .FLT_STATUS_pwr_reject, .FLT_STATUS_reset_reject, .FLT_STATUS_alert0, .FLT_STATUS_alert1]
  | .FLT_FATAL => [.FLT_FATAL_reason, .FLT_FATAL_later_count, .FLT_FATAL_active]
  | .FLT_FATAL_DETAIL => [.FLT_FATAL_DETAIL_detail]
  | .FLT_FATAL_BEAT_LO => [.FLT_FATAL_BEAT_LO_beat_lo]
  | .FLT_FATAL_BEAT_HI => [.FLT_FATAL_BEAT_HI_beat_hi]
  | .FLT_FATAL_PLAN => [.FLT_FATAL_PLAN_plan_state, .FLT_FATAL_PLAN_epoch]
  | .FLT_DUMP => [.FLT_DUMP_valid, .FLT_DUMP_busy, .FLT_DUMP_summary_only, .FLT_DUMP_field_absent, .FLT_DUMP_pending, .FLT_DUMP_length]
  | .FLT_WARN => [.FLT_WARN_pending]
  | .FLT_WARN_MASK => [.FLT_WARN_MASK_mask]
  | .FLT_RESETS => [.FLT_RESETS_field_resets, .FLT_RESETS_package_resets, .FLT_RESETS_relay_entries]
  | .FLT_LAST_RESET => [.FLT_LAST_RESET_cause]
  | .FLT_REPORT => [.FLT_REPORT_sent, .FLT_REPORT_last_seq]
  | .TEL_CTRL => [.TEL_CTRL_period_measures, .TEL_CTRL_collect_en, .TEL_CTRL_stream_en, .TEL_CTRL_stream_div]
  | .TEL_STATUS => [.TEL_STATUS_offline_read, .TEL_STATUS_ring_lost, .TEL_STATUS_limit_reached]
  | .TEL_CONG_COUNT => [.TEL_CONG_COUNT_written]
  | .TEL_CONG_LOST => [.TEL_CONG_LOST_lost]
  | .TEL_MOD_COUNT => [.TEL_MOD_COUNT_written]
  | .TEL_MOD_LOST => [.TEL_MOD_LOST_lost]
  | .TEL_AGE_CFG => [.TEL_AGE_CFG_limit_q, .TEL_AGE_CFG_period_h, .TEL_AGE_CFG_min_points]
  | .TEL_LIFE_HOURS => [.TEL_LIFE_HOURS_hours]
  | .TEL_LIFE_LOW => [.TEL_LIFE_LOW_low]
  | .TEL_LIFE_HIGH => [.TEL_LIFE_HIGH_high]
  | .TEL_LIFE_CAUSE => [.TEL_LIFE_CAUSE_status, .TEL_LIFE_CAUSE_code, .TEL_LIFE_CAUSE_detail]
  | .TEL_HW_HALTS => [.TEL_HW_HALTS_count, .TEL_HW_HALTS_last_die]
  | .TEL_AGE => [.TEL_AGE_d, .TEL_AGE_valid]

/-- Address of a register: which BAR, the offset of index 0, and up to three (stride, count) dimensions. -/
structure RInfo where
  bar : Nat
  base : Nat
  dims : List (Nat × Nat)
  held : Held
deriving DecidableEq, Repr

def Reg.info : Reg → RInfo
  | .BEAT_CTRL => ⟨0, 0x70000, [], .hub⟩
  | .BEAT_STATUS => ⟨0, 0x70004, [], .hub⟩
  | .BEAT_COUNT_LO => ⟨0, 0x70008, [], .hub⟩
  | .BEAT_COUNT_HI => ⟨0, 0x7000C, [], .hub⟩
  | .BEAT_FRAC => ⟨0, 0x70010, [], .hub⟩
  | .BEAT_PARENT_OFFSET => ⟨0, 0x70014, [], .hub⟩
  | .BEAT_SKEW_LIMIT => ⟨0, 0x70018, [], .hub⟩
  | .BEAT_DERATE => ⟨0, 0x7001C, [], .hub⟩
  | .BEAT_PORT_DELAY => ⟨0, 0x70100, [(0x8, 36)], .hub⟩
  | .BEAT_PORT_SKEW => ⟨0, 0x70104, [(0x8, 36)], .hub⟩
  | .BEAT_REG_FSET => ⟨0, 0x71000, [(0x800, 8), (0x10, 72)], .field⟩
  | .BEAT_REG_CYC => ⟨0, 0x71004, [(0x800, 8), (0x10, 72)], .field⟩
  | .BEAT_REG_SHORT => ⟨0, 0x71008, [(0x800, 8), (0x10, 72)], .field⟩
  | .BEAT_REG_FCST => ⟨0, 0x7100C, [(0x800, 8), (0x10, 72)], .field⟩
  | .PLN_CTRL => ⟨0, 0x50000, [], .hub⟩
  | .PLN_STATUS => ⟨0, 0x50004, [], .hub⟩
  | .PLN_LOAD_STATUS => ⟨0, 0x50008, [], .hub⟩
  | .PLN_EPOCH => ⟨0, 0x5000C, [], .hub⟩
  | .PLN_CFG => ⟨0, 0x50010, [], .hub⟩
  | .PLN_DOMAIN => ⟨0, 0x50014, [], .hub⟩
  | .PLN_START_LO => ⟨0, 0x50018, [], .hub⟩
  | .PLN_START_HI => ⟨0, 0x5001C, [], .hub⟩
  | .PLN_BEAT_LO => ⟨0, 0x50020, [], .hub⟩
  | .PLN_BEAT_HI => ⟨0, 0x50024, [], .hub⟩
  | .PLN_STOP_LO => ⟨0, 0x50028, [], .hub⟩
  | .PLN_STOP_HI => ⟨0, 0x5002C, [], .hub⟩
  | .PLN_REST_TOTAL => ⟨0, 0x50030, [], .hub⟩
  | .PLN_NEXT_REST => ⟨0, 0x50034, [], .hub⟩
  | .PLN_TOLL_ORIG => ⟨0, 0x50038, [], .hub⟩
  | .PLN_TOLL_RX => ⟨0, 0x5003C, [], .hub⟩
  | .PLN_LAST => ⟨0, 0x50040, [], .hub⟩
  | .PLN_REST_LIST => ⟨0, 0x50044, [], .hub⟩
  | .PLN_LAST_TOLL0 => ⟨0, 0x50050, [], .hub⟩
  | .PLN_LAST_TOLL1 => ⟨0, 0x50054, [], .hub⟩
  | .PLN_LAST_TOLL2 => ⟨0, 0x50058, [], .hub⟩
  | .PLN_LAST_TOLL3 => ⟨0, 0x5005C, [], .hub⟩
  | .PLN_DIE_LATE => ⟨0, 0x50100, [(0x4, 8)], .hub⟩
  | .TIL_CTRL => ⟨0, 0x200000, [(0x40000, 8), (0x80, 1152)], .field⟩
  | .TIL_STATUS => ⟨0, 0x200004, [(0x40000, 8), (0x80, 1152)], .field⟩
  | .TIL_HALT_REASON => ⟨0, 0x200008, [(0x40000, 8), (0x80, 1152)], .field⟩
  | .TIL_HALT_PC => ⟨0, 0x20000C, [(0x40000, 8), (0x80, 1152)], .field⟩
  | .TIL_HALT_DETAIL => ⟨0, 0x200010, [(0x40000, 8), (0x80, 1152)], .field⟩
  | .TIL_HALT_BEAT_LO => ⟨0, 0x200014, [(0x40000, 8), (0x80, 1152)], .field⟩
  | .TIL_HALT_BEAT_HI => ⟨0, 0x200018, [(0x40000, 8), (0x80, 1152)], .field⟩
  | .TIL_TOKEN => ⟨0, 0x20001C, [(0x40000, 8), (0x80, 1152)], .field⟩
  | .TIL_QUEUE_OCC => ⟨0, 0x200020, [(0x40000, 8), (0x80, 1152)], .field⟩
  | .TIL_QUEUE_DROP => ⟨0, 0x200024, [(0x40000, 8), (0x80, 1152)], .field⟩
  | .TIL_WAIT_STAT => ⟨0, 0x200028, [(0x40000, 8), (0x80, 1152)], .field⟩
  | .TIL_FLAGS => ⟨0, 0x200040, [(0x40000, 8), (0x80, 1152), (0x4, 8)], .field⟩
  | .TIL_SAT_COUNT => ⟨0, 0x200060, [(0x40000, 8), (0x80, 1152)], .field⟩
  | .TIL_NAN_COUNT => ⟨0, 0x200064, [(0x40000, 8), (0x80, 1152)], .field⟩
  | .TIL_NARROW_STATUS => ⟨0, 0x200068, [(0x40000, 8), (0x80, 1152)], .field⟩
  | .TIL_SEED => ⟨0, 0x20006C, [(0x40000, 8), (0x80, 1152)], .field⟩
  | .TIL_CANARY_CFG => ⟨0, 0x200070, [(0x40000, 8), (0x80, 1152)], .field⟩
  | .TIL_CANARY_CHECKED => ⟨0, 0x200074, [(0x40000, 8), (0x80, 1152)], .field⟩
  | .TIL_CANARY_DIVERGED => ⟨0, 0x200078, [(0x40000, 8), (0x80, 1152)], .field⟩
  | .TIL_CANARY_WORST => ⟨0, 0x20007C, [(0x40000, 8), (0x80, 1152)], .field⟩
  | .FLD_SPAD_TEST => ⟨0, 0xC0000, [(0x100, 8)], .field⟩
  | .FLD_SPAD_ERR => ⟨0, 0xC0004, [(0x100, 8)], .field⟩
  | .FLD_SPAD_FAIL => ⟨0, 0xC0008, [(0x100, 8)], .field⟩
  | .FLD_SPAD_SECURE => ⟨0, 0xC000C, [(0x100, 8)], .field⟩
  | .FLD_DMA_STAT => ⟨0, 0xC0010, [(0x100, 8)], .field⟩
  | .HBM_PLAN_LIMIT_LO => ⟨0, 0x80000, [], .hub⟩
  | .HBM_PLAN_LIMIT_HI => ⟨0, 0x80004, [], .hub⟩
  | .HBM_STATUS => ⟨0, 0x80008, [], .hub⟩
  | .HBM_CTRL => ⟨0, 0x80100, [(0x40, 8)], .field⟩
  | .HBM_ECC_CE => ⟨0, 0x80104, [(0x40, 8)], .field⟩
  | .HBM_ECC_UE => ⟨0, 0x80108, [(0x40, 8)], .field⟩
  | .HBM_UE_ADDR_LO => ⟨0, 0x8010C, [(0x40, 8)], .field⟩
  | .HBM_UE_ADDR_HI => ⟨0, 0x80110, [(0x40, 8)], .field⟩
  | .HBM_OCC => ⟨0, 0x80114, [(0x40, 8)], .field⟩
  | .HBM_OCC_MAX => ⟨0, 0x80118, [(0x40, 8)], .field⟩
  | .TTM_PLAN_LIMIT_LO => ⟨0, 0x90000, [], .hub⟩
  | .TTM_PLAN_LIMIT_HI => ⟨0, 0x90004, [], .hub⟩
  | .TTM_STATUS => ⟨0, 0x90008, [], .hub⟩
  | .TTM_ECC => ⟨0, 0x90100, [(0x40, 2)], .tc⟩
  | .TTM_UE_ADDR_LO => ⟨0, 0x90104, [(0x40, 2)], .tc⟩
  | .TTM_UE_ADDR_HI => ⟨0, 0x90108, [(0x40, 2)], .tc⟩
  | .TTM_ITEMS => ⟨0, 0x9010C, [(0x40, 2)], .tc⟩
  | .TTM_ITEMS_MAX => ⟨0, 0x90110, [(0x40, 2)], .tc⟩
  | .TTM_LATE => ⟨0, 0x90114, [(0x40, 2)], .tc⟩
  | .TTM_OCC => ⟨0, 0x90118, [(0x40, 2)], .tc⟩
  | .TTM_OCC_MAX => ⟨0, 0x9011C, [(0x40, 2)], .tc⟩
  | .LNK_SERIAL_LO => ⟨0, 0xA0000, [], .hub⟩
  | .LNK_SERIAL_HI => ⟨0, 0xA0004, [], .hub⟩
  | .LNK_CTRL => ⟨0, 0xA1000, [(0x100, 36)], .rim⟩
  | .LNK_CFG => ⟨0, 0xA1004, [(0x100, 36)], .rim⟩
  | .LNK_TIMER => ⟨0, 0xA1008, [(0x100, 36)], .rim⟩
  | .LNK_GIVE => ⟨0, 0xA100C, [(0x100, 36)], .rim⟩
  | .LNK_STATUS => ⟨0, 0xA1010, [(0x100, 36)], .rim⟩
  | .LNK_TRAIN => ⟨0, 0xA1014, [(0x100, 36)], .rim⟩
  | .LNK_PEER_LO => ⟨0, 0xA1018, [(0x100, 36)], .rim⟩
  | .LNK_PEER_HI => ⟨0, 0xA101C, [(0x100, 36)], .rim⟩
  | .LNK_PEER_INFO => ⟨0, 0xA1020, [(0x100, 36)], .rim⟩
  | .LNK_WINDOW => ⟨0, 0xA1024, [(0x100, 36)], .rim⟩
  | .LNK_FEC => ⟨0, 0xA1028, [(0x100, 36)], .rim⟩
  | .LNK_REPLAY => ⟨0, 0xA102C, [(0x100, 36)], .rim⟩
  | .LNK_CREDIT => ⟨0, 0xA1030, [(0x100, 36)], .rim⟩
  | .LNK_DOWN => ⟨0, 0xA1034, [(0x100, 36)], .rim⟩
  | .LNK_EYE => ⟨0, 0xA1038, [(0x100, 36)], .rim⟩
  | .RTE_CTRL => ⟨0, 0xB0000, [], .rim⟩
  | .RTE_STATUS => ⟨0, 0xB0004, [], .rim⟩
  | .RTE_EPOCH => ⟨0, 0xB0008, [], .rim⟩
  | .RTE_PLAN => ⟨0, 0xB000C, [], .rim⟩
  | .RTE_FENCE_LO => ⟨0, 0xB0010, [], .rim⟩
  | .RTE_FENCE_HI => ⟨0, 0xB0014, [], .rim⟩
  | .RTE_DYN_CFG => ⟨0, 0xB0018, [], .rim⟩
  | .RTE_ORDER_CFG => ⟨0, 0xB001C, [], .rim⟩
  | .RTE_SAMPLE_CFG => ⟨0, 0xB0020, [], .rim⟩
  | .RTE_MIRROR => ⟨0, 0xB0024, [], .rim⟩
  | .RTE_TOLL_SEEN => ⟨0, 0xB0028, [], .rim⟩
  | .RTE_TBL_ADDR => ⟨0, 0xB002C, [], .rim⟩
  | .RTE_TBL_DATA_LO => ⟨0, 0xB0030, [], .rim⟩
  | .RTE_TBL_DATA_HI => ⟨0, 0xB0034, [], .rim⟩
  | .RTE_ORDER => ⟨0, 0xB0100, [(0x10, 6)], .rim⟩
  | .RTE_PORT_DROP => ⟨0, 0xB0400, [(0x10, 36)], .rim⟩
  | .RTE_PORT_MISS => ⟨0, 0xB0404, [(0x10, 36)], .rim⟩
  | .RTE_PORT_VC0 => ⟨0, 0xB0408, [(0x10, 36)], .rim⟩
  | .HST_VERSION => ⟨0, 0x0, [], .hub⟩
  | .HST_CTRL => ⟨0, 0x4, [], .hub⟩
  | .HST_STATUS => ⟨0, 0x8, [], .hub⟩
  | .HST_FEAT_SUP => ⟨0, 0x10, [(0x4, 4)], .hub⟩
  | .HST_FEAT_REQ => ⟨0, 0x20, [(0x4, 4)], .hub⟩
  | .HST_FEAT_EN => ⟨0, 0x30, [(0x4, 4)], .hub⟩
  | .HST_AQ_SQ_LO => ⟨0, 0x40, [], .hub⟩
  | .HST_AQ_SQ_HI => ⟨0, 0x44, [], .hub⟩
  | .HST_AQ_CQ_LO => ⟨0, 0x48, [], .hub⟩
  | .HST_AQ_CQ_HI => ⟨0, 0x4C, [], .hub⟩
  | .HST_AQ_CFG => ⟨0, 0x50, [], .hub⟩
  | .HST_BAR2_BASE => ⟨0, 0x58, [], .hub⟩
  | .HST_EVT_BASE_LO => ⟨0, 0x60, [], .hub⟩
  | .HST_EVT_BASE_HI => ⟨0, 0x64, [], .hub⟩
  | .HST_EVT_CFG => ⟨0, 0x68, [], .hub⟩
  | .HST_ERR => ⟨0, 0x70, [], .hub⟩
  | .HST_INGEST_ACC => ⟨0, 0x100, [(0x10, 16)], .hub⟩
  | .HST_INGEST_DROP => ⟨0, 0x104, [(0x10, 16)], .hub⟩
  | .HST_INGEST_WIN => ⟨0, 0x108, [(0x10, 16)], .hub⟩
  | .SRV_CTRL => ⟨0, 0x60000, [], .hub⟩
  | .SRV_STATUS => ⟨0, 0x60004, [], .hub⟩
  | .SRV_OUT_HEAD => ⟨0, 0x60008, [], .hub⟩
  | .SRV_OUT_TAIL => ⟨0, 0x6000C, [], .hub⟩
  | .SRV_OUT_DROP => ⟨0, 0x60010, [], .hub⟩
  | .SRV_WALK_START => ⟨0, 0x60014, [], .hub⟩
  | .SRV_WALK_DONE => ⟨0, 0x60018, [], .hub⟩
  | .SRV_WALK_ERR => ⟨0, 0x6001C, [], .hub⟩
  | .SRV_DRAFTED => ⟨0, 0x60020, [], .hub⟩
  | .SRV_ACCEPTED => ⟨0, 0x60024, [], .hub⟩
  | .SRV_EVENTS => ⟨0, 0x60028, [], .hub⟩
  | .SRV_BUILD => ⟨0, 0x6002C, [], .hub⟩
  | .MGT_STATUS => ⟨0, 0x10000, [], .hub⟩
  | .MGT_BOOT => ⟨0, 0x10004, [], .hub⟩
  | .MGT_CFG_STATUS => ⟨0, 0x10008, [], .hub⟩
  | .MGT_FW_VERSION => ⟨0, 0x1000C, [], .hub⟩
  | .MGT_PMBUS => ⟨0, 0x10010, [], .hub⟩
  | .MGT_ERR => ⟨0, 0x10014, [], .hub⟩
  | .MGT_MBX_CFG => ⟨0, 0x10100, [(0x4, 32)], .hub⟩
  | .MGT_MBX_LOCK => ⟨4, 0x1000, [(0x1000, 32)], .hub⟩
  | .MGT_MBX_DOORBELL => ⟨4, 0x1004, [(0x1000, 32)], .hub⟩
  | .MGT_MBX_STATUS => ⟨4, 0x1008, [(0x1000, 32)], .hub⟩
  | .SEC_CTRL => ⟨0, 0x20000, [], .hub⟩
  | .SEC_STATUS => ⟨0, 0x20004, [], .hub⟩
  | .SEC_LC => ⟨0, 0x20008, [], .hub⟩
  | .SEC_LC_NONCE => ⟨0, 0x2000C, [], .hub⟩
  | .SEC_TAMPER => ⟨0, 0x20010, [], .hub⟩
  | .FLT_CTRL => ⟨0, 0x30000, [], .hub⟩
  | .FLT_STATUS => ⟨0, 0x30004, [], .hub⟩
  | .FLT_FATAL => ⟨0, 0x30008, [], .hub⟩
  | .FLT_FATAL_DETAIL => ⟨0, 0x3000C, [], .hub⟩
  | .FLT_FATAL_BEAT_LO => ⟨0, 0x30010, [], .hub⟩
  | .FLT_FATAL_BEAT_HI => ⟨0, 0x30014, [], .hub⟩
  | .FLT_FATAL_PLAN => ⟨0, 0x30018, [], .hub⟩
  | .FLT_DUMP => ⟨0, 0x3001C, [], .hub⟩
  | .FLT_WARN => ⟨0, 0x30020, [], .hub⟩
  | .FLT_WARN_MASK => ⟨0, 0x30024, [], .hub⟩
  | .FLT_RESETS => ⟨0, 0x30028, [], .hub⟩
  | .FLT_LAST_RESET => ⟨0, 0x3002C, [], .hub⟩
  | .FLT_REPORT => ⟨0, 0x30030, [], .hub⟩
  | .TEL_CTRL => ⟨0, 0x40000, [], .hub⟩
  | .TEL_STATUS => ⟨0, 0x40004, [], .hub⟩
  | .TEL_CONG_COUNT => ⟨0, 0x40008, [], .hub⟩
  | .TEL_CONG_LOST => ⟨0, 0x4000C, [], .hub⟩
  | .TEL_MOD_COUNT => ⟨0, 0x40010, [], .hub⟩
  | .TEL_MOD_LOST => ⟨0, 0x40014, [], .hub⟩
  | .TEL_AGE_CFG => ⟨0, 0x40018, [], .hub⟩
  | .TEL_LIFE_HOURS => ⟨0, 0x4001C, [], .hub⟩
  | .TEL_LIFE_LOW => ⟨0, 0x40020, [], .hub⟩
  | .TEL_LIFE_HIGH => ⟨0, 0x40024, [], .hub⟩
  | .TEL_LIFE_CAUSE => ⟨0, 0x40028, [], .hub⟩
  | .TEL_HW_HALTS => ⟨0, 0x4002C, [], .hub⟩
  | .TEL_AGE => ⟨0, 0x41000, [(0x200, 8), (0x4, 72)], .hub⟩

def regList0 : List Reg := [
  .BEAT_CTRL, .BEAT_STATUS, .BEAT_COUNT_LO, .BEAT_COUNT_HI, .BEAT_FRAC, .BEAT_PARENT_OFFSET, .BEAT_SKEW_LIMIT, .BEAT_DERATE,
  .BEAT_PORT_DELAY, .BEAT_PORT_SKEW, .BEAT_REG_FSET, .BEAT_REG_CYC, .BEAT_REG_SHORT, .BEAT_REG_FCST, .PLN_CTRL, .PLN_STATUS,
  .PLN_LOAD_STATUS, .PLN_EPOCH, .PLN_CFG, .PLN_DOMAIN, .PLN_START_LO, .PLN_START_HI, .PLN_BEAT_LO, .PLN_BEAT_HI,
  .PLN_STOP_LO, .PLN_STOP_HI, .PLN_REST_TOTAL, .PLN_NEXT_REST, .PLN_TOLL_ORIG, .PLN_TOLL_RX, .PLN_LAST, .PLN_REST_LIST,
  .PLN_LAST_TOLL0, .PLN_LAST_TOLL1, .PLN_LAST_TOLL2, .PLN_LAST_TOLL3, .PLN_DIE_LATE, .TIL_CTRL, .TIL_STATUS, .TIL_HALT_REASON]
def regList1 : List Reg := [
  .TIL_HALT_PC, .TIL_HALT_DETAIL, .TIL_HALT_BEAT_LO, .TIL_HALT_BEAT_HI, .TIL_TOKEN, .TIL_QUEUE_OCC, .TIL_QUEUE_DROP, .TIL_WAIT_STAT,
  .TIL_FLAGS, .TIL_SAT_COUNT, .TIL_NAN_COUNT, .TIL_NARROW_STATUS, .TIL_SEED, .TIL_CANARY_CFG, .TIL_CANARY_CHECKED, .TIL_CANARY_DIVERGED,
  .TIL_CANARY_WORST, .FLD_SPAD_TEST, .FLD_SPAD_ERR, .FLD_SPAD_FAIL, .FLD_SPAD_SECURE, .FLD_DMA_STAT, .HBM_PLAN_LIMIT_LO, .HBM_PLAN_LIMIT_HI,
  .HBM_STATUS, .HBM_CTRL, .HBM_ECC_CE, .HBM_ECC_UE, .HBM_UE_ADDR_LO, .HBM_UE_ADDR_HI, .HBM_OCC, .HBM_OCC_MAX,
  .TTM_PLAN_LIMIT_LO, .TTM_PLAN_LIMIT_HI, .TTM_STATUS, .TTM_ECC, .TTM_UE_ADDR_LO, .TTM_UE_ADDR_HI, .TTM_ITEMS, .TTM_ITEMS_MAX]
def regList2 : List Reg := [
  .TTM_LATE, .TTM_OCC, .TTM_OCC_MAX, .LNK_SERIAL_LO, .LNK_SERIAL_HI, .LNK_CTRL, .LNK_CFG, .LNK_TIMER,
  .LNK_GIVE, .LNK_STATUS, .LNK_TRAIN, .LNK_PEER_LO, .LNK_PEER_HI, .LNK_PEER_INFO, .LNK_WINDOW, .LNK_FEC,
  .LNK_REPLAY, .LNK_CREDIT, .LNK_DOWN, .LNK_EYE, .RTE_CTRL, .RTE_STATUS, .RTE_EPOCH, .RTE_PLAN,
  .RTE_FENCE_LO, .RTE_FENCE_HI, .RTE_DYN_CFG, .RTE_ORDER_CFG, .RTE_SAMPLE_CFG, .RTE_MIRROR, .RTE_TOLL_SEEN, .RTE_TBL_ADDR,
  .RTE_TBL_DATA_LO, .RTE_TBL_DATA_HI, .RTE_ORDER, .RTE_PORT_DROP, .RTE_PORT_MISS, .RTE_PORT_VC0, .HST_VERSION, .HST_CTRL]
def regList3 : List Reg := [
  .HST_STATUS, .HST_FEAT_SUP, .HST_FEAT_REQ, .HST_FEAT_EN, .HST_AQ_SQ_LO, .HST_AQ_SQ_HI, .HST_AQ_CQ_LO, .HST_AQ_CQ_HI,
  .HST_AQ_CFG, .HST_BAR2_BASE, .HST_EVT_BASE_LO, .HST_EVT_BASE_HI, .HST_EVT_CFG, .HST_ERR, .HST_INGEST_ACC, .HST_INGEST_DROP,
  .HST_INGEST_WIN, .SRV_CTRL, .SRV_STATUS, .SRV_OUT_HEAD, .SRV_OUT_TAIL, .SRV_OUT_DROP, .SRV_WALK_START, .SRV_WALK_DONE,
  .SRV_WALK_ERR, .SRV_DRAFTED, .SRV_ACCEPTED, .SRV_EVENTS, .SRV_BUILD, .MGT_STATUS, .MGT_BOOT, .MGT_CFG_STATUS,
  .MGT_FW_VERSION, .MGT_PMBUS, .MGT_ERR, .MGT_MBX_CFG, .MGT_MBX_LOCK, .MGT_MBX_DOORBELL, .MGT_MBX_STATUS, .SEC_CTRL]
def regList4 : List Reg := [
  .SEC_STATUS, .SEC_LC, .SEC_LC_NONCE, .SEC_TAMPER, .FLT_CTRL, .FLT_STATUS, .FLT_FATAL, .FLT_FATAL_DETAIL,
  .FLT_FATAL_BEAT_LO, .FLT_FATAL_BEAT_HI, .FLT_FATAL_PLAN, .FLT_DUMP, .FLT_WARN, .FLT_WARN_MASK, .FLT_RESETS, .FLT_LAST_RESET,
  .FLT_REPORT, .TEL_CTRL, .TEL_STATUS, .TEL_CONG_COUNT, .TEL_CONG_LOST, .TEL_MOD_COUNT, .TEL_MOD_LOST, .TEL_AGE_CFG,
  .TEL_LIFE_HOURS, .TEL_LIFE_LOW, .TEL_LIFE_HIGH, .TEL_LIFE_CAUSE, .TEL_HW_HALTS, .TEL_AGE]
/-- All registers. -/
def regList : List Reg := regList0 ++ regList1 ++ regList2 ++ regList3 ++ regList4

/-- The flat index that a list of (stride, count) dimensions gives an offset from index 0, if it is one of the
register's offsets: the outermost dimension varies slowest, as (d, g) and (d, c, r) do in the layout rules. -/
def dimIndex : List (Nat × Nat) → Nat → Option Nat
  | [], off => if off = 0 then some 0 else none
  | (stride, count) :: rest, off =>
    let k := off / stride
    if k < count then
      (dimIndex rest (off % stride)).map (fun j => k * (rest.map Prod.snd).prod + j)
    else none

/-- The offset of index `i` under a list of dimensions. -/
def dimOffset : List (Nat × Nat) → Nat → Nat
  | [], _ => 0
  | (stride, _) :: rest, i =>
    let inner := (rest.map Prod.snd).prod
    stride * (i / inner) + dimOffset rest (i % inner)

/-- How many instances of a register there are. -/
def Reg.count (r : Reg) : Nat := (r.info.dims.map Prod.snd).prod

/-- BAR0 (or BAR4) offset of instance `i` of a register. -/
def Reg.offset (r : Reg) (i : Nat) : Nat := r.info.base + dimOffset r.info.dims i

def Reg.at? (r : Reg) (bar off : Nat) : Option (Reg × Nat) :=
  if r.info.bar = bar ∧ r.info.base ≤ off then (dimIndex r.info.dims (off - r.info.base)).map (fun i => (r, i)) else none

/-- The register that an offset of a BAR names, with its index; none for a reserved offset (R472). -/
def regAt (bar off : Nat) : Option (Reg × Nat) := regList.findSome? (fun r => r.at? bar off)

end Sys2Proof.Machine
end

