-- ==== Sys2Proof/Machine/Codes.lean ====
section
/-! DEFINITION. The manual's code tables as names: fatal reasons (R445), warning sources (R458), link-down causes (R294),
halt reasons (R204), completion codes (R361), load codes (R85), plan, power and link states. -/

namespace Sys2Proof.Machine

/-- Fatal reasons (R445). -/
inductive Fatal where
  | refLost | timeSkew | crossingOverflow | freqAboveRating | lateToll | itemLost | restListFull | tollTableFull
  | stopDrainTimeout | tollInvalid | tileHalt | t1AccessTimeout | t1StackFail | t2ChannelFail | linkDown
  | tableMirrorMismatch | tableUncorrectable | servingResultLost | servingBuildLate | thermalTrip
deriving DecidableEq, Repr

/-- The 16-bit code of a fatal reason (R445). -/
def Fatal.code : Fatal → Nat
  | .refLost => 0x0101 | .timeSkew => 0x0102 | .crossingOverflow => 0x0103 | .freqAboveRating => 0x0104
  | .lateToll => 0x0201 | .itemLost => 0x0202 | .restListFull => 0x0203 | .tollTableFull => 0x0204
  | .stopDrainTimeout => 0x0205 | .tollInvalid => 0x0206 | .tileHalt => 0x0301 | .t1AccessTimeout => 0x0401
  | .t1StackFail => 0x0402 | .t2ChannelFail => 0x0403 | .linkDown => 0x0501 | .tableMirrorMismatch => 0x0601
  | .tableUncorrectable => 0x0602 | .servingResultLost => 0x0701 | .servingBuildLate => 0x0702 | .thermalTrip => 0x0801

/-- Warning sources: the bit of FLT_WARN (R458). -/
inductive Warn where
  | thermal | timeSkewWarn | spadTestFail | t1Ue | t2Ue | fenceDrop | powerStage | tamper | cfgSafe | pcieDown
  | tileHaltIdle | healthLimit
deriving DecidableEq, Repr

def Warn.bit : Warn → Nat
  | .thermal => 0 | .timeSkewWarn => 1 | .spadTestFail => 2 | .t1Ue => 3 | .t2Ue => 4 | .fenceDrop => 5
  | .powerStage => 6 | .tamper => 7 | .cfgSafe => 8 | .pcieDown => 9 | .tileHaltIdle => 10 | .healthLimit => 11

/-- Link-down causes (R294). -/
inductive Down where | lockLoss | replayLimit | protocol | broken | localReset | peerReset | disabled
deriving DecidableEq, Repr

def Down.code : Down → Nat
  | .lockLoss => 1 | .replayLimit => 2 | .protocol => 3 | .broken => 4 | .localReset => 5 | .peerReset => 6 | .disabled => 7

/-- Plan states (R83). -/
inductive PlanState where | idle | loaded | armed | running | resting | stopping | stopped | faulted
deriving DecidableEq, Repr

def PlanState.code : PlanState → Nat
  | .idle => 0 | .loaded => 1 | .armed => 2 | .running => 3 | .resting => 4 | .stopping => 5 | .stopped => 6 | .faulted => 7

def PlanState.ofCode (n : Nat) : PlanState :=
  match n with
  | 0 => .idle | 1 => .loaded | 2 => .armed | 3 => .running | 4 => .resting | 5 => .stopping | 6 => .stopped | _ => .faulted

/-- Power states (R440, FLT_STATUS.pwr_state). -/
inductive Power where | active | hush | relay | fieldReset
deriving DecidableEq, Repr

def Power.code : Power → Nat | .active => 0 | .hush => 1 | .relay => 2 | .fieldReset => 3
def Power.ofCode (n : Nat) : Power := match n with | 0 => .active | 1 => .hush | 2 => .relay | _ => .fieldReset

/-- Training states of a port (R289). -/
inductive Train where | disabled | detect | identify | equalize | laneCheck | fecAlign | flitSync | active | down
deriving DecidableEq, Repr

def Train.code : Train → Nat
  | .disabled => 0 | .detect => 1 | .identify => 2 | .equalize => 3 | .laneCheck => 4 | .fecAlign => 5 | .flitSync => 6
  | .active => 7 | .down => 8

def Train.ofCode (n : Nat) : Train :=
  match n with
  | 0 => .disabled | 1 => .detect | 2 => .identify | 3 => .equalize | 4 => .laneCheck | 5 => .fecAlign | 6 => .flitSync
  | 7 => .active | _ => .down

/-- Time states (R49). -/
inductive TimeState where | free | acquire | locked | holdover
deriving DecidableEq, Repr

def TimeState.code : TimeState → Nat | .free => 0 | .acquire => 1 | .locked => 2 | .holdover => 3
def TimeState.ofCode (n : Nat) : TimeState := match n with | 0 => .free | 1 => .acquire | 2 => .locked | _ => .holdover

/-- Halt reasons (R204). -/
inductive Halt where
  | opcodeUndefined | extCount | pcRange | microopInvalid | voiceInvalid | expectContext | programHalt | spadRange
  | accRowRange | tableAbsent | queueAbsent | routeInvalid | sizeZeroExpect | sizeMismatch | voiceAlign | microRange
  | spadPortConflict | portABusy | spadSecure | spadUncorrectable | rollOverMax | rollDescriptor | rollDepth
  | flagWaitBound | flagSetTwice | boundZero | queueWaitBound | tokenAbsent | tokenMismatch | tokenEarly | tokenDouble
  | queueBusy | formatReserved | formatContext | voiceModeMismatch | blockAlign | outlierDuplicate | ternCodeInvalid
  | accRowMismatch | frameSize | voiceBusy | unitBusy | latencyHazard | t1Range | t2Range | t1Uncorrectable
  | t2Uncorrectable | dueBeatInvalid | accessLimit | forcedHalt | sequencerParity | datapathParity
deriving DecidableEq, Repr

/-- The code and the unit of a halt reason (R204). The unit of the reasons that two units detect stands as the MAC
array's; the record takes the detecting unit. -/
def Halt.codeUnit : Halt → Nat × Nat
  | .opcodeUndefined => (0x01, 0) | .extCount => (0x02, 0) | .pcRange => (0x03, 0) | .microopInvalid => (0x04, 2)
  | .voiceInvalid => (0x05, 0) | .expectContext => (0x06, 5) | .programHalt => (0x0F, 0) | .spadRange => (0x10, 6)
  | .accRowRange => (0x11, 1) | .tableAbsent => (0x12, 2) | .queueAbsent => (0x13, 3) | .routeInvalid => (0x14, 3)
  | .sizeZeroExpect => (0x15, 5) | .sizeMismatch => (0x16, 6) | .voiceAlign => (0x17, 0) | .microRange => (0x18, 2)
  | .spadPortConflict => (0x20, 6) | .portABusy => (0x21, 6) | .spadSecure => (0x22, 6) | .spadUncorrectable => (0x23, 6)
  | .rollOverMax => (0x30, 0) | .rollDescriptor => (0x31, 0) | .rollDepth => (0x32, 0) | .flagWaitBound => (0x33, 4)
  | .flagSetTwice => (0x34, 4) | .boundZero => (0x35, 0) | .queueWaitBound => (0x40, 3) | .tokenAbsent => (0x41, 5)
  | .tokenMismatch => (0x42, 5) | .tokenEarly => (0x43, 5) | .tokenDouble => (0x44, 5) | .queueBusy => (0x45, 3)
  | .formatReserved => (0x50, 0) | .formatContext => (0x51, 0) | .voiceModeMismatch => (0x52, 1) | .blockAlign => (0x53, 1)
  | .outlierDuplicate => (0x54, 1) | .ternCodeInvalid => (0x55, 1) | .accRowMismatch => (0x56, 1) | .frameSize => (0x57, 3)
  | .voiceBusy => (0x60, 0) | .unitBusy => (0x61, 1) | .latencyHazard => (0x62, 0) | .t1Range => (0x70, 6)
  | .t2Range => (0x71, 6) | .t1Uncorrectable => (0x72, 6) | .t2Uncorrectable => (0x73, 6) | .dueBeatInvalid => (0x74, 6)
  | .accessLimit => (0x75, 6) | .forcedHalt => (0xF0, 7) | .sequencerParity => (0xF1, 0) | .datapathParity => (0xF2, 1)

def Halt.code (h : Halt) : Nat := h.codeUnit.1
def Halt.unit (h : Halt) : Nat := h.codeUnit.2

/-- Completion codes (R361). -/
inductive Cc where
  | success | opcodeInvalid | formatInvalid | paramInvalid | featureDisabled | adminOnly | state | aborted | hostAccess
  | addressRange | powerState | spadWriteConflict | spadReadUncorrectable | spadSecureDenied | tierUncorrectable
  | areaProtected | planRefused | stopRefused | servingRefused | portRejected | dumpAbsent | dumpBusy | lcDenied
  | ingestDropped | internal
deriving DecidableEq, Repr

def Cc.code : Cc → Nat
  | .success => 0x00 | .opcodeInvalid => 0x01 | .formatInvalid => 0x02 | .paramInvalid => 0x03 | .featureDisabled => 0x04
  | .adminOnly => 0x05 | .state => 0x06 | .aborted => 0x07 | .hostAccess => 0x08 | .addressRange => 0x09
  | .powerState => 0x0A | .spadWriteConflict => 0x10 | .spadReadUncorrectable => 0x11 | .spadSecureDenied => 0x12
  | .tierUncorrectable => 0x13 | .areaProtected => 0x14 | .planRefused => 0x20 | .stopRefused => 0x21
  | .servingRefused => 0x22 | .portRejected => 0x30 | .dumpAbsent => 0x31 | .dumpBusy => 0x32 | .lcDenied => 0x33
  | .ingestDropped => 0x40 | .internal => 0xFF

/-- Device load codes (R85). -/
inductive LoadCode where
  | ok | imageCrc | imageFormat | gradeMismatch | deviceId | epochInvalid | planPresent | derateInvalid | paramRange
  | imageTooLarge | timeNotLocked | portNotReady | startTooSoon
deriving DecidableEq, Repr

def LoadCode.code : LoadCode → Nat
  | .ok => 0 | .imageCrc => 1 | .imageFormat => 2 | .gradeMismatch => 3 | .deviceId => 4 | .epochInvalid => 5
  | .planPresent => 6 | .derateInvalid => 7 | .paramRange => 8 | .imageTooLarge => 9 | .timeNotLocked => 0xA
  | .portNotReady => 0xB | .startTooSoon => 0xC

/-- The number of an agent (R405). -/
def agentNumber : Agent → Nat
  | .host => 0x01 | .mc0 => 0x10 | .mc1 => 0x11 | .mc2 => 0x12 | .mc3 => 0x13 | .security => 0x20 | .ethernet => 0x30
  | .i3c => 0x40

/-- The agents of the management plane (R405): all but the host. -/
def isManagement (a : Agent) : Bool := a ≠ .host
/-- The secure channel set (R405). -/
def isSecure (a : Agent) : Bool := a = .mc0 || a = .security

end Sys2Proof.Machine
end

