-- ==== Sys2Proof/Config.lean ====
section
/-! DEFINITION. What the manual leaves free: opaque constants with no body, so that no proof can see a value (R438's
"Undefined", R429's random nonce), and what one implementation fixes. -/

namespace Sys2Proof.Config

/-- The byte that a memory cell whose contents the manual leaves undefined holds: by the number of the event that left
it undefined, and the cell's key (R438; log entry 3). -/
opaque undefByte : Nat → Nat → Byte

/-- The detail of a warning for which the manual gives none: by the source's bit and the number of the draw (R376, R449;
log entry 6). -/
opaque warnDetail : Nat → Nat → BitVec 16

/-- A 32-bit value drawn at random by the hardware, by the number of the draw (R426; log entry 4). -/
opaque random32 : Nat → BitVec 32

/-- HMAC-SHA-384 of a message under a key: 48 bytes (R425). The manual names the function and gives no computation of it
(log entry 5). -/
opaque hmacSha384 : List Byte → List Byte → Vector Byte 48

/-- The boot ROM's version, which the manual does not give (R365; log entry 31). -/
opaque romVersion : BitVec 32

/-- Vendor ID and revision ID of the PCIe function: Aggerex's number and the silicon's stepping, given nowhere (R348; log entry 41). -/
opaque pciVendor : BitVec 16
opaque pciRevision : BitVec 8

/-- The Relaxed Ordering Enable bit of the PCIe Device Control register, which the host sets over the link and no command of the table
writes (R369; log entry 41). -/
opaque relaxedOrdering : Bool

/-- Copy A of an entry of the route or via table, by table and index, whose two copies do not agree or cannot be corrected: R327 does
not say which copy is wrong or what it holds (DESIGN CHOICE, log entry 45). -/
opaque badCopy : Nat → Nat → BitVec 43

/-- The slowdown of a region whose reference oscillator counted nothing, or whose time-zero ratio is 0, from the other count and the
ratio: R465's quotient has no value there (DESIGN CHOICE, log entry 46). -/
opaque noSlowdown : Nat → Nat → BitVec 16

/-- The fault-manager addresses and the UDP port that a body of configuration block 0x0001 gives (R412, R449): its layout is
not given (log entry 33). -/
opaque faultManagers : List Byte → List Nat
opaque reportPort : List Byte → Nat

/-- The initial LNK_CFG and LNK_TIMER words that a body of block 0x0004 gives a port (R412): its layout is not given (log
entry 33). -/
opaque linkCfg : List Byte → Nat → BitVec 32
opaque linkTimer : List Byte → Nat → BitVec 32

/-- The last 1 MiB of management-core log (R454), by the number of the event that reads it; its contents are not given (log
entry 34). -/
opaque firmwareLog : Nat → Nat → Byte

/-- How a slowdown that is no whole number of 1/65,536 is rounded, by numerator and denominator; the manual does not say (R465; log
entry 36). -/
opaque roundUp : Nat → Nat → Bool

/-- Hours, low and high (0, 1, 2) of a fit whose readings are too few for a slope or its standard error, by contributor and item
(R466; log entry 37). -/
opaque noFit : Nat → Nat → BitVec 32

/-- Status above OK of a mailbox request that a service refuses for a reason to which the manual gives none, less 1: 0 a commit of
an image that fails, 1 a life-cycle request refused, 2 a fence that may not be lifted (R421, R422; log entry 38). -/
opaque refusedStatus : Nat → Fin 4

/-- The body of a CFG_BLOCK read's response, from the block in force and the copies' blocks of its ID (R422): its layout is not
given (log entry 39). -/
opaque cfgAnswer : List Byte → List (List Byte) → List Byte

end Sys2Proof.Config
end

