-- ==== Sys2Proof/Machine/Store.lean ====
section
/-! DEFINITION. Sparse data by key, in one canonical form: keys strictly rising and no entry equal to what an
unlisted key reads as. Register values, memories and tables are all held so. -/

namespace Sys2Proof.Machine

/-- A sparse table: pairs of key and value. -/
abbrev Table (α : Type) := List (Nat × α)

/-- The entry at a key. -/
def Table.find? {α : Type} : Table α → Nat → Option α
  | [], _ => none
  | (k, v) :: t, i => if k = i then some v else Table.find? t i

/-- The value at a key, `d` where nothing is listed. -/
def Table.get {α : Type} (d : α) (t : Table α) (i : Nat) : α := (t.find? i).getD d

/-- The table without its entry at a key. -/
def Table.erase {α : Type} : Table α → Nat → Table α
  | [], _ => []
  | (k, v) :: t, i => if k = i then Table.erase t i else (k, v) :: Table.erase t i

/-- The table with an entry put at its place among rising keys. -/
def Table.put {α : Type} : Table α → Nat → α → Table α
  | [], i, x => [(i, x)]
  | (k, v) :: t, i, x =>
    if k < i then (k, v) :: Table.put t i x
    else if k = i then (i, x) :: t
    else (i, x) :: (k, v) :: t

/-- Write a value, keeping the canonical form: the value an unlisted key reads as removes the entry. -/
def Table.set {α : Type} [DecidableEq α] (d : α) (t : Table α) (i : Nat) (x : α) : Table α :=
  if x = d then t.erase i else t.put i x

/-- The canonical form, as a decidable proposition. -/
def Table.Canon {α : Type} [DecidableEq α] (d : Nat → α) : Table α → Bool
  | [] => true
  | [(k, v)] => decide (v ≠ d k)
  | (k, v) :: (k', v') :: t => decide (v ≠ d k) && decide (k < k') && Table.Canon d ((k', v') :: t)

/-- The keys of a table's entries. -/
def Table.keys {α : Type} (t : Table α) : List Nat := t.map Prod.fst

/-- Keep the entries whose key passes a test. -/
def Table.keep {α : Type} (p : Nat → Bool) (t : Table α) : Table α := t.filter (fun e => p e.1)

/-- A range of a memory whose unlisted bytes hold what an event left there: zeros (0) or undefined contents, under the
event's number (R438). -/
structure Fill where
  lo : Nat
  hi : Nat
  event : Nat
deriving DecidableEq, Repr

/-- A byte memory: the listed cells, and what unlisted ranges hold. A range no fill names holds zeros (DESIGN CHOICE, log
entry 2). -/
structure Memory where
  cells : List Host.Cell
  fills : List Fill
deriving DecidableEq, Repr

/-- A memory with nothing listed. -/
def Memory.empty : Memory := ⟨[], []⟩

def Fill.covers (f : Fill) (a : Nat) : Bool := decide (f.lo ≤ a) && decide (a < f.hi)

/-- What an unlisted byte holds, by the fills of a memory, the newest first. -/
def blankOf (fs : List Fill) (a : Nat) : Byte :=
  match fs.find? (fun f => f.covers a) with
  | none => 0
  | some f => if f.event = 0 then 0 else Config.undefByte f.event a

/-- What an unlisted address reads as. -/
def Memory.blank (m : Memory) (a : Nat) : Byte := blankOf m.fills a

/-- One byte of a memory. -/
def Memory.read (m : Memory) (a : Nat) : Byte := Table.get (m.blank a) m.cells a

/-- A memory with one byte written. -/
def Memory.write (m : Memory) (a : Nat) (b : Byte) : Memory := { m with cells := Table.set (m.blank a) m.cells a b }

/-- `n` bytes from an address. -/
def Memory.readBytes (m : Memory) (a : Nat) : Nat → List Byte
  | 0 => []
  | n + 1 => Memory.read m a :: Memory.readBytes m (a + 1) n

/-- A memory with a run of bytes written. -/
def Memory.writeBytes (m : Memory) (a : Nat) : List Byte → Memory
  | [] => m
  | b :: bs => Memory.writeBytes (Memory.write m a b) (a + 1) bs

/-- A memory whose bytes from `lo` up to `hi` all take what a fill gives. -/
def Memory.fill (m : Memory) (f : Fill) : Memory :=
  { cells := Table.keep (fun a => !f.covers a) m.cells
    fills := f :: m.fills.filter (fun g => !(decide (f.lo ≤ g.lo) && decide (g.hi ≤ f.hi))) }

/-- A memory with the bytes from `lo` up to `hi` made 0. -/
def Memory.zero (m : Memory) (lo hi : Nat) : Memory :=
  if m.fills.isEmpty then { m with cells := Table.keep (fun a => !(Fill.mk lo hi 0).covers a) m.cells }
  else m.fill ⟨lo, hi, 0⟩

/-- The canonical form of a memory: addresses strictly rising, no listed byte equal to what the address would read
unlisted. -/
def Memory.wf (m : Memory) : Bool := Table.Canon m.blank m.cells

end Sys2Proof.Machine
end

