-- ==== Sys2Proof/Machine/HostState.lean ====
section
/-! DEFINITION. State of the host interface that is not a register field (R354 to R378). -/

namespace Sys2Proof.Machine

/-- A queue pair (R354, R357). Ring bases are host addresses. -/
structure Queue where
  sqBase : Nat
  cqBase : Nat
  n : Nat
  vector : Nat
  sqHead : Nat
  sqTail : Nat
  cqHead : Nat
  cqTail : Nat
  /-- Phase bit of the next entry. -/
  phase : Bool
  /-- Entries reserved for commands fetched and not yet completed (R356). -/
  reserved : Nat
  /-- Entries written and not yet consumed. -/
  waiting : Nat
  /-- A QUEUE_DELETE of the pair has stopped its fetching; it has completed so many commands with ABORTED (R363). -/
  deleting : Option Nat
deriving DecidableEq, Repr

/-- A command fetched and not yet completed: its queue, the packet, the SQ head after its fetch, and whether its effect has
begun. -/
structure Fetched where
  q : Nat
  cid : Nat
  packet : List Byte
  sqHead : Nat
  started : Bool
  /-- It writes no completion: the interface was closed while it ran (R353). -/
  mute : Bool
  /-- Code and result it will complete with, once known. -/
  done : Option (Nat × Nat)
  /-- Ingest window it was assigned to at its fetch (R375). -/
  window : Nat
deriving DecidableEq, Repr

/-- The open ingest window of a stream of the plan (R373 to R375). -/
structure Ingest where
  stream : Nat
  /-- Its number k. -/
  window : Nat
  /-- Payload units of whole pushes. -/
  used : Nat
  dropped : Bool
deriving DecidableEq, Repr

/-- The host interface. -/
structure HostIf where
  queues : Table Queue
  fetched : List Fetched
  /-- Queue served last among 1-63 (R356). -/
  lastQ : Nat
  /-- Event records written and consumed since the ring was set (R377). -/
  evtRead : Nat
  evtWritten : Nat
  evtSeq : Nat
  /-- Records not written since the ring became full (R377). -/
  evtLost : Nat
  ingest : List Ingest
deriving DecidableEq, Repr

end Sys2Proof.Machine
end

