-- ==== Sys2Proof/Machine/TimeState.lean ====
section
/-! DEFINITION. State of the time base, the region clocks, the plan engine and the tolls that is not a register field
(R42 to R48, R64, R75 to R107). -/

namespace Sys2Proof.Machine

/-- A time word last received on a port, echoed in the next word sent there (R47): its tx_beat and tx_frac, and the
instant of its receipt in 1/2048 ps of the counter, moved with every step of the counter so that time since then stays what has
passed. -/
structure Echo where
  txBeat : Nat
  txFrac : Nat
  rx : Int
deriving DecidableEq, Repr

/-- A region clock stopped to retune (R64): the code it restarts with and the tick of the stop. -/
structure RegionStop where
  region : Nat
  code : Nat
  at' : Nat
  /-- Forecast code the regulator takes at the restart (R69). -/
  forecast : Nat
deriving DecidableEq, Repr

/-- The time base (R42 to R50). Offsets are in units of 1/2048 ps, which hold every value of R48 exactly. -/
structure TimeBase where
  /-- 64-bit machine beat counter. -/
  beat : Nat
  /-- 16-bit fraction, as it stood when the counter was last moved. -/
  frac : Nat
  /-- Beats that have passed since reset, whatever steps the counter made: the base of every timer. -/
  tick : Nat
  /-- Those of them that lie outside rest measures (R194). -/
  counted : Nat
  /-- Offset still to be slewed away (R50). -/
  slewLeft : Int
  /-- Part of it taken in the current measure. -/
  slewNow : Int
  /-- Consecutive measures with a good valid parent word, while ACQUIRE (R49). -/
  goodRun : Nat
  /-- A valid parent word within 1,000 ps came in this measure. -/
  goodNow : Bool
  /-- Tick of the last valid parent word. -/
  lastParent : Option Nat
  /-- Depth the parent's last valid word gave. -/
  parentDepth : Nat
  /-- Counter runs from the standby oscillator (R46). -/
  standby : Bool
  /-- Echoes, by port. -/
  echo : Table Echo
  /-- Machine beat whose downbeat actions have been taken. -/
  lastDown : Option Nat
  /-- Tick at which the Field dies and tier-2 controllers came back, until they have reloaded their beat copies from the hub; the
copies that are present show the hub's value (R43, R44). -/
  reload : Option Nat
  /-- Codes that the plan engine has handed to regions for their next change measure (R64, R66). -/
  handed : Table Nat
  /-- Regions whose clock is stopped. -/
  stops : List RegionStop
  /-- Forecast codes the regulators apply, by region, where not 0xFF (R67 to R69). -/
  applied : Table Nat
  /-- Local tile cycles that a region's clock has made while the tiles are clocked, by region: the first cycle of the present beat
(R55). -/
  clock : Table Nat
  /-- Those it has made since the last downbeat (R57). -/
  cycles : Table Nat
deriving DecidableEq, Repr

/-- A due-beat entry (R92). -/
structure DueEntry where
  due : Nat
  consume : Nat
  tag : Nat
  restD : Nat
  port : Nat
  flits : Nat
  source : Nat
deriving DecidableEq, Repr

/-- A frequency-plan entry (R79). -/
structure FreqEntry where
  die : Nat
  measure : Nat
  region : Nat
  code : Nat
deriving DecidableEq, Repr

/-- An ingest entry (R373). -/
structure StreamEntry where
  stream : Nat
  phase : Nat
  slots : Nat
  period : Nat
  first : Nat
  ring : Nat
  slotUnits : Nat
deriving DecidableEq, Repr

/-- A group entry of the serving layout (R382). -/
structure GroupEntry where
  firstSlot : Nat
  slots : Nat
  inOff : Nat
  verOff : Nat
  firstMeasure : Nat
  area : Nat
deriving DecidableEq, Repr

/-- The serving layout (R382). -/
structure Layout where
  slots : Nat
  heads : Nat
  stepMeasures : Nat
  outRing : Nat
  ringRecords : Nat
  aCap : Nat
  mapUnits : Nat
  mapArea : Nat
  adapterDir : Nat
  adapterCount : Nat
  walkLimit : Nat
  groups : List GroupEntry
deriving DecidableEq, Repr

/-- A plan as PLAN_LOAD took it from its image (R75 to R79, R92, R474). -/
structure Plan where
  epoch : Nat
  prologue : Nat
  body : Nat
  repeats : Nat
  hash : Nat
  derateN : Nat
  /-- Device ID of the in-domain neighbour of each port, 0xFFFF for none; none where the image carries no such section, and
  LNK_GIVE.in_plan decides (R474). -/
  neighbours : Option (List Nat)
  /-- Tier-1 byte at which a die's forecast rows begin: they are read from the plan area as they are needed (R256). -/
  forecast : Table Nat
  freq : List FreqEntry
  due : List DueEntry
  ingest : List StreamEntry
  serving : Option Layout
  /-- First unit of tier 1 the image starts at, and its length in bytes. -/
  start : Nat
  length : Nat
deriving DecidableEq, Repr

/-- A rest-list entry (R98): rest measures from machine beat `i` for `d` measures. -/
structure RestEntry where
  i : Nat
  d : Nat
deriving DecidableEq, Repr

/-- A toll word's payload (R95). -/
structure Toll where
  beatB : Nat
  origin : Nat
  tollId : Nat
  epoch : Nat
  restD : Nat
  cause : Nat
  hops : Nat
  stopMeasure : Nat
  detail : Nat
deriving DecidableEq, Repr

/-- An entry of a Rim's seen table (R97), with the machine beat at which it retires. -/
structure Seen where
  origin : Nat
  tollId : Nat
  epoch : Nat
  retire : Nat
deriving DecidableEq, Repr

/-- A finish word received, or the own margin of a measure (R106, R107). -/
structure Margin where
  measure : Nat
  port : Nat
  margin : Int
deriving DecidableEq, Repr

/-- A region that tolled, until the rest its toll inserted has ended (R88). -/
structure LateRegion where
  region : Nat
  until' : Nat
deriving DecidableEq, Repr

/-- The hub's plan engine (R83 to R107). -/
structure PlanEngine where
  plan : Option Plan
  /-- Current plan beat (R7). -/
  beat : Nat
  /-- The hub's rest list. -/
  rests : List RestEntry
  /-- The number of the next toll. -/
  tollId : Nat
  /-- Insertion measures and lengths of the tolls originated (R96). -/
  originated : List RestEntry
  lateRegions : List LateRegion
  /-- The pending S of PLN_STOP, of which the registers show bits [62:0] (R103). -/
  stop : Option Nat
  /-- Arrival scoreboard: VC0 flits counted, by port * 2^20 + tag. -/
  arrived : Table Nat
  /-- Items a first check found missing, for which the second check is due: index of the due entry and plan beat. -/
  lastDue : Option Nat
  lastSecond : Option Nat
  lastRegion : Option Nat
  own : List Margin
  finish : List Margin
  /-- Tick of the stop downbeat. -/
  stopTick : Option Nat
deriving DecidableEq, Repr

end Sys2Proof.Machine
end

