-- ==== Sys2Proof/Machine/LinkState.lean ====
section
/-! DEFINITION. State of a link port and of the router that is not a register field (R279 to R347). -/

namespace Sys2Proof.Machine

/-- A DATA flit (R282, R283): everything of it but the fields the sender fills in at each sending. -/
structure Flit where
  seq : Nat
  vc : Nat
  last : Bool
  route : Nat
  payload : List Byte
deriving DecidableEq, Repr

/-- A control word (R286): its type, the copy bit, bytes 2-7 and bytes 8-39. -/
structure Ctrl where
  typ : Nat
  copy : Bool
  short : List Byte
  body : List Byte
deriving DecidableEq, Repr

/-- A repeated word whose second copy is still to go, with the tick of the first (R288). -/
structure Repeat where
  word : Ctrl
  at' : Nat
deriving DecidableEq, Repr

/-- A flit in the VC0 transmit hold (R323): the plan measure and slot it waits for and the tick it came. -/
structure HeldFlit where
  flit : Flit
  measure : Nat
  slot : Nat
  since : Nat
deriving DecidableEq, Repr

/-- A gap of selective mode (R302) with the tick of its SNAK. -/
structure Gap where
  first : Nat
  count : Nat
  at' : Nat
deriving DecidableEq, Repr

/-- A flit waiting on a dynamic VC of an output port, with the tick since when. -/
structure DynFlit where
  flit : Flit
  first : Bool
  /-- The packet it belongs to: flits of other packets on the VC wait behind it (R334). -/
  packet : Nat
  /-- Input port whose buffer it takes until it is sent; none for a packet of this module. -/
  input : Option Nat
  /-- The Rim it comes from. -/
  rim : Nat
  since : Nat
deriving DecidableEq, Repr

/-- What a received identify block said (R290). -/
structure Ident where
  serial : Nat
  device : Nat
  port : Nat
  gens : Nat
  widths : Nat
  mode : Nat
  vcs : Nat
deriving DecidableEq, Repr

/-- A dynamic packet in progress on an input VC (R334), or whole: its VC, route field and payloads. -/
structure Packet where
  vc : Nat
  route : Nat
  payloads : List (List Byte)
  /-- Output it was given: a port, 36 for this module, 37 for dropped at the fence of its input, 38 for dropped otherwise, 39 while
  it waits for a choice of port, 64 + q for dropped at the fence of port q. -/
  out : Nat
  /-- Its number (R334). -/
  number : Nat
deriving DecidableEq, Repr

/-- Counts of the congestion sample of R344. -/
structure Sample where
  vc0 : Nat
  dyn : Nat
  idle : Nat
  times : Nat
  stalled : Nat
  holdMax : Nat
  adaptOff : Nat
  escapes : Nat
  wentDown : Bool
deriving DecidableEq, Repr

/-- One link port. -/
structure LinkPort where
  /-- Tick at which the training state was entered. -/
  entered : Nat
  /-- The next entry into DETECT waits the 10 ms idle hold of a failed training. -/
  failed : Bool
  /-- SERIAL_EQUAL keeps the port DOWN until its next reset (R291). -/
  stuck : Bool
  /-- LNK_CFG as it stood at IDENTIFY (R316). -/
  cfgGen : Nat
  cfgMax : Nat
  cfgMin : Nat
  cfgMode : Nat
  cfgVcs : Nat
  cfgRetx : Nat
  peer : Option Ident
  /-- Own and peer pass masks of LANE_CHECK. -/
  ownMask : Option Nat
  peerMask : Option Nat
  /-- The TLK-2 repetition of R292 has been used. -/
  fellBack : Bool
  urgent : List Ctrl
  normal : List Ctrl
  repeats : List Repeat
  rxCtrl : List Ctrl
  /-- The port goes down for this cause once RESET_REQ and its repeat have gone (R295). -/
  closing : Option Down
  /-- Data bits taken of the codeword under reception, whether the decoder gave that codeword up (R281), and the good flits
  received in a row in FLIT_SYNC (R289). -/
  rxBits : Nat
  rxBad : Bool
  rxGood : Nat
  /-- Sender. -/
  nxt : Nat
  una : Nat
  kept : List Flit
  pass : Option Nat
  resend : List Nat
  passes : Nat
  passUna : Option Nat
  unaAt : Nat
  capAt : Option Nat
  hold : List HeldFlit
  /-- The transmit hold overflowed (R314). -/
  overflow : Bool
  dyn : List DynFlit
  /-- Packet that holds each dynamic VC of the output (R334). -/
  owner : Table Nat
  rr : Nat
  sent : Table Nat
  peerFreed : Table Nat
  zeroAt : Table Nat
  /-- Receiver. -/
  exp : Nat
  accepted : Bool
  nakOpen : Bool
  reorder : List Flit
  gaps : List Gap
  fallback : Option Nat
  modeDelay : Nat
  freed : Table Nat
  freedSent : Table Nat
  freedAt : Option Nat
  rxPackets : List Packet
  /-- Lanes out of lock, with the tick since when (R294). -/
  lockLost : Table Nat
  /-- Mirror fault: the port sends no VC0 flit (R327). -/
  vc0Stopped : Bool
  /-- Machine measure of the last fence-drop event (R326). -/
  dropMeasure : Option Nat
  /-- Occurrences of each (tag, flit index) already given a slot, and the next flit index of tile words (R323, R477). -/
  slotUse : Table Nat
  wordIndex : Table Nat
  sample : Sample
deriving DecidableEq, Repr

/-- A port record of the slot-table section (R320). -/
structure PortRec where
  port : Nat
  gen : Nat
  width : Nat
  give : Nat
deriving DecidableEq, Repr

/-- A slot entry of a port (R320). -/
structure SlotEntry where
  port : Nat
  measure : Nat
  slot : Nat
  count : Nat
  tag : Nat
  first : Nat
deriving DecidableEq, Repr

/-- An item entry (R320): peal 0xFFFF for none, a local route in the format of R115, and the mask of the Rims that hold it
(R321). -/
structure ItemEntry where
  tag : Nat
  peal : Nat
  route : Nat
  rims : Nat
deriving DecidableEq, Repr

/-- A source pair entry (R335 to R339). -/
structure Pair where
  dest : Nat
  vc : Nat
  ord : Bool
  next : Nat
  base : Nat
  window : Nat
  lastReq : Option Nat
  lastSent : Nat
deriving DecidableEq, Repr

/-- A destination context (R336 to R339). -/
structure Context where
  source : Nat
  vc : Nat
  exp : Nat
  window : Nat
  held : List Packet
  /-- Packets delivered since the last GRANT, and the tick of the oldest of them. -/
  uncovered : Nat
  since : Nat
deriving DecidableEq, Repr

/-- A toll word at a Rim, waiting to be taken (R97): the Rim, and whether this module's hub originated it. -/
structure TollIn where
  rim : Nat
  own : Bool
  toll : Toll
deriving DecidableEq, Repr

/-- A packet for an agent that does not run: its input port and VC, its payloads, and the flits whose credit it holds
(R435, R440). -/
structure Parked where
  port : Nat
  vc : Nat
  agent : Nat
  payloads : List (List Byte)
  flits : Nat
deriving DecidableEq, Repr

/-- The router (R317 to R347). Each Rim holds its tables in two copies; `flaws` says where a Rim's copies of an entry are not both
clean and equal (R327). -/
structure Router where
  flaws : List TableFind
  ports : List PortRec
  slots : List SlotEntry
  items : List ItemEntry
  /-- Peal number and port mask. -/
  peals : Table Nat
  routes : Table Nat
  vias : Table Nat
  /-- The Rims' rest list and plan, which outlive a field reset and Relay (R343). -/
  rests : List RestEntry
  plan : Option (Nat × Nat)
  planBeat : Nat
  /-- Start beat of an armed plan. -/
  start : Option Nat
  reach : Nat
  stopS : Option Nat
  stopTick : Option Nat
  repeats : Nat
  seen : Table (List Seen)
  tollIn : List TollIn
  hubTolls : List Toll
  pairs : List Pair
  contexts : List Context
  /-- Whole packets for this module, waiting at their home Rim: the input port and the packet. -/
  arrivals : List (Nat × Packet)
  /-- Packets of local agents stalled by a full window (R337). -/
  stalled : List Packet
  /-- Flits of adaptive packets that wait for a choice of port, oldest first (R332). -/
  adaptive : List DynFlit
  bridges : Table Sample
  /-- Machine beat of the last congestion sample (R344). -/
  sampleAt : Option Nat
  /-- Numbers given to packets so far. -/
  packets : Nat
  /-- Flits of packets for this module whose credit is not yet freed: by 8 * port + VC (R440). -/
  kept : Table Nat
  /-- Packets held for agents that do not run (R435, R440). -/
  parked : List Parked
deriving DecidableEq, Repr

end Sys2Proof.Machine
end

