-- ==== Sys2Proof/Machine/MgmtState.lean ====
section
/-! DEFINITION. State of the management plane, the fatal path, the power states and telemetry that is not a register field
(R404 to R469). -/

namespace Sys2Proof.Machine

/-- A copy of the image directory (R407). -/
structure Directory where
  seq : Nat
  preferred : Nat
  /-- It passes its CRC. -/
  valid : Bool
deriving DecidableEq, Repr

/-- A configuration block in a copy (R411), with the CRC its header carries. -/
structure CfgBlock where
  id : Nat
  version : Nat
  body : List Byte
  crc : Nat
deriving DecidableEq, Repr

/-- The status and the body that a service has for a request, until its response is written (R421). -/
structure Answer where
  status : Nat
  body : List Byte
deriving DecidableEq, Repr

/-- A life-cycle transition in progress (R427): its target, and who is to be told: a host command, or a mailbox. -/
structure Transition where
  target : Nat
  cmd : Option (Nat × Nat)
  mailbox : Nat
deriving DecidableEq, Repr

/-- The management plane. -/
structure Mgmt where
  /-- The two firmware images: key 2^25 * image + offset (R407). -/
  images : Memory
  /-- The two directory copies. -/
  dirs : List Directory
  /-- Configuration copies A, B and C: their blocks in order. -/
  copies : List (List CfgBlock)
  /-- Fault summary log, newest first (R457). -/
  summaries : List (List Byte)
  /-- The 256 KiB secure scratch of the security block (R404, R438). -/
  secure : Memory
  /-- Mailbox pages: key 4096 * m + page offset (R417). -/
  boxes : Memory
  /-- Length of the request with the server, by mailbox (R420). -/
  lengths : Table Nat
  /-- Answers of services that have run, by mailbox. -/
  answers : Table Answer
  /-- Mailboxes released when their server completes (R419). -/
  releases : List Nat
  transition : Option Transition
deriving DecidableEq, Repr

/-- The fatal path after a fatal entry (R446 to R457). -/
structure FaultPath where
  /-- The first 16 later reasons, in order. -/
  later : List Nat
  /-- Plan beat at the entry. -/
  planBeat : Nat
  /-- The entry is a thermal trip. -/
  thermal : Bool
  /-- The Field dies, and the tier-2 controllers, were off or in reset at the entry. -/
  fieldOff : Bool
  tcOff : Bool
  /-- The first report is still to be sent; the flash summary is still to be written; the dump is still to be written. -/
  reportDue : Bool
  summaryDue : Bool
  dumpDue : Bool
  /-- The dump header of the entry has been written. -/
  headerWritten : Bool
  /-- The FATAL report as first sent, how often it has been sent, and the tick of the last sending. -/
  report : Option (List Byte)
  sendings : Nat
  sentAt : Nat
  /-- The hub or HS0 is not below its own trip point: the dump is not written (R38). -/
  tooHot : Bool
deriving DecidableEq, Repr

/-- A package reset asked for: its cause (FLT_LAST_RESET) and the tick it starts at. -/
structure PkgReset where
  cause : Nat
  due : Nat
deriving DecidableEq, Repr

/-- Power requests and field resets under way (R435 to R443). -/
structure PowerCtl where
  /-- The state whose entry is under way: 1 Hush, 2 Relay. -/
  entry : Option Nat
  /-- A Relay exit is under way. -/
  restarting : Bool
  /-- An accepted field reset waits for the dump (R435). -/
  waiting : Bool
  /-- A field reset has been asked for, and is counted when the restart ends. -/
  asked : Bool

deriving DecidableEq, Repr

/-- A reading of the health history (R466): hours since reset, and a value for each contributor and item, by
1024 * code + item. -/
structure Reading where
  hour : Nat
  values : Table Int
deriving DecidableEq, Repr

/-- The collector and the health history. -/
structure Telemetry where
  /-- Accumulators as they stood at the last module record, and at the last health reading. -/
  snap : Table Nat
  ageSnap : Table Nat
  /-- Smallest finish margin of the period in ps, where there is one. -/
  minMargin : Option Int
  rested : Bool
  lowPower : Bool
  /-- Largest busy_q of the period: 0 to 7 the stacks, 8 and 9 the tier-2 controllers. -/
  busy : Table Nat
  portStall : Nat
  chainStall : Nat
  /-- Tick of the downbeat at which the last period ended. -/
  ended : Option Nat
  /-- The latest module record. -/
  latest : List Byte
  /-- Newest first, at most 168. -/
  readings : List Reading
  /-- Tick of the last package or cold reset. -/
  since : Nat
deriving DecidableEq, Repr

end Sys2Proof.Machine
end

