-- ==== Sys2Proof/Machine/ServeState.lean ====
section
/-! DEFINITION. State of the serving engines that is not a register field (R382 to R403). -/

namespace Sys2Proof.Machine

/-- A slot of the slot table (R385 to R400). -/
structure ServeSlot where
  /-- The 64-byte slot record in force. -/
  record : List Byte
  /-- State of R386: 0 EMPTY, 1 PENDING, 2 PREFILL, 3 DECODE, 4 DONE. -/
  state : Nat
  gen : Nat
  gated : Bool
  walkError : Bool
  adapterLost : Bool
  /-- Its walk is complete. -/
  walked : Bool
  /-- Adapter buffer at the last build. -/
  buffer : Nat
  fed : Nat
  pos : Nat
  generated : Nat
  prefixLen : Nat
  steps : Nat
  drafted : Nat
  accepted : Nat
  zeroRun : Nat
  /-- Nodes its walk read. -/
  reads : Nat
  /-- seq of its last output record. -/
  outSeq : Nat
  last : Nat
  drafts : List Nat
deriving DecidableEq, Repr

/-- The hub's own copy of an input record it wrote (R390). -/
structure InRecord where
  live : Bool
  gen : Nat
  prefill : Bool
  buffer : Nat
  n : Nat
  pos : Nat
  prefixLen : Nat
  toks : List Nat
deriving DecidableEq, Repr

/-- A walk started and not yet complete (R394): its slot and the slot's gen. -/
structure Walk where
  slot : Nat
  gen : Nat
deriving DecidableEq, Repr

/-- A serving command accepted and waiting for the next plan downbeat (R387): the host command's queue and identifier, none
for a gate that firmware stages (R398). -/
structure Staged where
  cmd : Option (Nat × Nat)
  slot : Nat
  /-- 0 SLOT_WRITE, 1 SLOT_CLEAR, 2 gate, 3 ungate. -/
  kind : Nat
  record : List Byte
deriving DecidableEq, Repr

/-- The serving engines. -/
structure Serving where
  slots : Table ServeSlot
  staged : List Staged
  walks : List Walk
  /-- By group: the step whose results are verified next. -/
  step : Table Nat
  /-- By slot: the input record of that step. -/
  inputs : Table InRecord
deriving DecidableEq, Repr

end Sys2Proof.Machine
end

