-- ==== Sys2Proof/Machine/Flags.lean ====
section
/-! DEFINITION. Number formats, rounding, saturation, block conversions, the stochastic lanes and the canary's comparison
(chapter 05). Decoded values are exact: a sign, a magnitude and a power of two. -/

namespace Sys2Proof.Machine

/-! ### Values -/

/-- An exact value: a NaN, an infinity, or (-1)^neg * mag * 2^exp. A zero keeps its sign (R156). -/
inductive Val where
  | nan
  | inf (neg : Bool)
  | fin (neg : Bool) (mag : Nat) (exp : Int)
deriving DecidableEq, Repr

def Val.zero : Val := .fin false 0 0

def Val.isNan : Val → Bool | .nan => true | _ => false
def Val.isInf : Val → Bool | .inf _ => true | _ => false
def Val.isZero : Val → Bool | .fin _ m _ => m == 0 | _ => false

def Val.neg : Val → Val | .nan => .nan | .inf n => .inf !n | .fin n m e => .fin (!n) m e
def Val.abs : Val → Val | .nan => .nan | .inf _ => .inf false | .fin _ m e => .fin false m e

/-- Times a power of two. -/
def Val.scale (k : Int) : Val → Val | .nan => .nan | .inf n => .inf n | .fin n m e => .fin n m (e + k)

/-- The exact product; infinity times 0 is a NaN. -/
def Val.mul : Val → Val → Val
  | .nan, _ => .nan
  | _, .nan => .nan
  | .inf a, .inf b => .inf (a != b)
  | .inf a, .fin b m _ => if m = 0 then .nan else .inf (a != b)
  | .fin a m _, .inf b => if m = 0 then .nan else .inf (a != b)
  | .fin a m e, .fin b n f => .fin (a != b) (m * n) (e + f)

/-- A finite value's integer at exponent `e0`, at or below its own. -/
def atExp (e0 : Int) (neg : Bool) (m : Nat) (e : Int) : Int :=
  let v : Int := ((m * 2 ^ (e - e0).toNat : Nat) : Int)
  if neg then -v else v

/-- A value from an integer times a power of two; an exact zero is positive. -/
def ofDyadic (v : Int) (e : Int) : Val := .fin (decide (v < 0)) v.natAbs e

/-- The exact sum; opposite infinities give a NaN, and the sum of two zeros is negative only if both are (IEEE 754). -/
def Val.add : Val → Val → Val
  | .nan, _ => .nan
  | _, .nan => .nan
  | .inf a, .inf b => if a = b then .inf a else .nan
  | .inf a, _ => .inf a
  | _, .inf b => .inf b
  | .fin a m e, .fin b n f =>
    if m = 0 ∧ n = 0 then .fin (a && b) 0 0
    else
      let e0 := min e f
      ofDyadic (atExp e0 a m e + atExp e0 b n f) e0

/-- Strict order of two values that are not NaNs; the zeros are equal. -/
def Val.lt : Val → Val → Bool
  | .nan, _ => false
  | _, .nan => false
  | .inf a, .inf b => a && !b
  | .inf a, _ => a
  | _, .inf b => !b
  | .fin a m e, .fin b n f =>
    let e0 := min e f
    decide (atExp e0 a m e < atExp e0 b n f)

/-! ### Formats -/

/-- The formats of R146. -/
inductive Fmt where | fp32 | bf16 | fp16 | e4m3 | e5m2 | e3m2 | e2m3 | mxfp4 | mxint8 | split4 | tern | w2 | b3
deriving DecidableEq, Repr

def Fmt.ofCode (c : Nat) : Option Fmt :=
  match c with
  | 0 => some .fp32 | 1 => some .bf16 | 2 => some .fp16 | 3 => some .e4m3 | 4 => some .e5m2 | 5 => some .e3m2
  | 6 => some .e2m3 | 7 => some .mxfp4 | 8 => some .mxint8 | 9 => some .split4 | 10 => some .tern | 11 => some .w2
  | 12 => some .b3 | _ => none

def Fmt.code : Fmt → Nat
  | .fp32 => 0 | .bf16 => 1 | .fp16 => 2 | .e4m3 => 3 | .e5m2 => 4 | .e3m2 => 5 | .e2m3 => 6 | .mxfp4 => 7 | .mxint8 => 8
  | .split4 => 9 | .tern => 10 | .w2 => 11 | .b3 => 12

/-- Bits of one element; 8 for a TERN byte of five weights (R146, R151). -/
def Fmt.width : Fmt → Nat
  | .fp32 => 32 | .bf16 => 16 | .fp16 => 16 | .e4m3 => 8 | .e5m2 => 8 | .e3m2 => 6 | .e2m3 => 6 | .mxfp4 => 4
  | .mxint8 => 8 | .split4 => 4 | .tern => 8 | .w2 => 2 | .b3 => 3

/-- Elements to a scale: 32, or 64 for TERN and W2; 0 for the formats without one (R150). -/
def Fmt.block : Fmt → Nat | .fp32 => 0 | .bf16 => 0 | .fp16 => 0 | .tern => 64 | .w2 => 64 | _ => 32

/-- Exponent bits, mantissa bits and bias of a floating-point element (R147); MXFP4 and SPLIT4 are E2M1. -/
def Fmt.float : Fmt → Option (Nat × Nat × Nat)
  | .fp32 => some (8, 23, 127) | .bf16 => some (8, 7, 127) | .fp16 => some (5, 10, 15) | .e4m3 => some (4, 3, 7)
  | .e5m2 => some (5, 2, 15) | .e3m2 => some (3, 2, 3) | .e2m3 => some (2, 3, 1) | .mxfp4 => some (2, 1, 1)
  | .split4 => some (2, 1, 1) | .b3 => some (1, 1, 1) | _ => none

/-- All-ones exponents are infinities and NaNs. -/
def Fmt.ieee : Fmt → Bool | .fp32 => true | .bf16 => true | .fp16 => true | .e5m2 => true | _ => false

/-- Largest finite magnitude (R147, R148). -/
def Fmt.maxfin : Fmt → Nat × Int
  | .fp32 => (2 ^ 24 - 1, 104) | .bf16 => (2 ^ 8 - 1, 120) | .fp16 => (2047, 5) | .e4m3 => (7, 6) | .e5m2 => (7, 13)
  | .e3m2 => (7, 2) | .e2m3 => (15, -1) | .mxfp4 => (3, 1) | .split4 => (3, 1) | .b3 => (3, -1) | .mxint8 => (127, -6)
  | .tern => (1, 0) | .w2 => (2, 0)

/-- Decode one element, without its scale (R147, R148). -/
def Fmt.decode (f : Fmt) (c : Nat) : Val :=
  match f.float with
  | some (eb, mb, bias) =>
    let neg := bit c (eb + mb)
    let e := bits c (eb + mb - 1) mb
    let m := c % 2 ^ mb
    if f.ieee && e == 2 ^ eb - 1 then (if m = 0 then .inf neg else .nan)
    else if f = .e4m3 && e == 15 && m == 7 then .nan
    else if e = 0 then .fin neg m (1 - (bias : Int) - mb)
    else .fin neg (2 ^ mb + m) ((e : Int) - bias - mb)
  | none =>
    match f with
    | .mxint8 => ofDyadic (toSigned 8 c) (-6)
    | .w2 => ofDyadic (toSigned 2 c) 0
    | _ => ofDyadic ((c : Int) - 1) 0

/-- The default quiet NaN of a format (R149). -/
def Fmt.qnan : Fmt → Nat
  | .fp32 => 0x7FC00000 | .bf16 => 0x7FC0 | .fp16 => 0x7E00 | .e4m3 => 0x7F | .e5m2 => 0x7E | _ => 0

/-- Encode a value that the format represents exactly (or a NaN or an infinity of a format that has one). -/
def Fmt.encode (f : Fmt) (v : Val) : Nat :=
  match f.float with
  | some (eb, mb, bias) =>
    let sgn (n : Bool) : Nat := ofBool n * 2 ^ (eb + mb)
    match v with
    | .nan => f.qnan
    | .inf n => sgn n + (2 ^ eb - 1) * 2 ^ mb
    | .fin n 0 _ => sgn n
    | .fin n m e =>
      let top := (Nat.log2 m : Int) + e
      if top < 1 - (bias : Int) then
        let q := 1 - (bias : Int) - mb
        sgn n + (if e ≥ q then m * 2 ^ (e - q).toNat else m / 2 ^ (q - e).toNat)
      else
        let q := top - mb
        let sig := if e ≥ q then m * 2 ^ (e - q).toNat else m / 2 ^ (q - e).toNat
        sgn n + (top + bias).toNat * 2 ^ mb + (sig - 2 ^ mb)
  | none =>
    match v with
    | .fin n m e =>
      let sig := if e ≥ -6 then m * 2 ^ (e + 6).toNat else m / 2 ^ (-6 - e).toNat
      ofSigned 8 (if n then -(sig : Int) else sig)
    | _ => 0

/-! ### Rounding and saturation (R156) -/

/-- Exponent of the quantum of a format at magnitude mag * 2^e. -/
def Fmt.quantumExp (f : Fmt) (mag : Nat) (e : Int) : Int :=
  match f.float with
  | none => if f = .mxint8 then -6 else 0
  | some (_, mb, bias) =>
    if mag = 0 then 1 - (bias : Int) - mb else max ((Nat.log2 mag : Int) + e) (1 - (bias : Int)) - mb

/-- mag * 2^e in units of 2^q: the whole part, and the fraction as a numerator over a power of two. -/
def splitAt (mag : Nat) (e q : Int) : Nat × Nat × Nat :=
  if e ≥ q then (mag * 2 ^ (e - q).toNat, 0, 1)
  else (mag / 2 ^ (q - e).toNat, mag % 2 ^ (q - e).toNat, 2 ^ (q - e).toNat)

/-- Nearest, ties to even; FP32 overflows to infinity. -/
def roundNe (f : Fmt) : Val → Val
  | .fin n m e =>
    let q := f.quantumExp m e
    let (w, r, d) := splitAt m e q
    let w := if 2 * r > d ∨ (2 * r = d ∧ w % 2 = 1) then w + 1 else w
    if f = .fp32 && (Val.lt (.fin false f.maxfin.1 f.maxfin.2) (.fin false w q)) then .inf n else .fin n w q
  | v => v

/-- Stochastic rounding with 16 random bits. -/
def roundSr (f : Fmt) (r : Nat) : Val → Val
  | .fin n m e =>
    let q := f.quantumExp m e
    let (w, x, d) := splitAt m e q
    .fin n (if x * 65536 / d + r ≥ 65536 then w + 1 else w) q
  | v => v

/-- Clamp a finite value to the format's range; whether it clamped. -/
def satTo (f : Fmt) : Val → Val × Bool
  | .fin n m e =>
    let mx : Val := .fin false f.maxfin.1 f.maxfin.2
    if Val.lt mx (.fin false m e) then (.fin n f.maxfin.1 f.maxfin.2, true) else (.fin n m e, false)
  | v => (v, false)

/-! ### The stochastic lanes (R157) -/

/-- One step of a lane: the bit that leaves, and the new state. -/
def lfsrStep (x : BitVec 32) : Bool × BitVec 32 :=
  (x.getLsbD 0, if x.getLsbD 0 then (x >>> 1) ^^^ 0x80200003#32 else x >>> 1)

/-- `n` steps; the bits that leave, the first as bit 0. -/
def laneBits : Nat → BitVec 32 → Nat × BitVec 32
  | 0, x => (0, x)
  | n + 1, x =>
    let (b, y) := lfsrStep x
    let (r, z) := laneBits n y
    (ofBool b + 2 * r, z)

/-- Sixteen random bits of a lane. -/
def laneRand (x : BitVec 32) : Nat × BitVec 32 := laneBits 16 x

/-- The lanes that a seed gives. -/
def seedLanes (seed : Nat) : List (BitVec 32) :=
  (List.range 64).map (fun j =>
    let x := BitVec.ofNat 32 seed ^^^ BitVec.ofNat 32 (j * 0x9E3779B9)
    if x = 0 then 1 else x)

/-! ### Conversions (R160 to R163) -/

/-- What a conversion carries through its elements: the lanes and the count of clamped elements. -/
structure Conv where
  lanes : List (BitVec 32)
  sats : Nat
deriving DecidableEq, Repr

/-- Round one value in lane `j` by the voice's rounding (R156, R158) and clamp it. -/
def convOne (sr : Bool) (f : Fmt) (j : Nat) (v : Val) (c : Conv) : Val × Conv :=
  let x := c.lanes.getD j 1
  let (r, y) := laneRand x
  let v' := if sr then roundSr f r v else roundNe f v
  let lanes := if sr then c.lanes.set j y else c.lanes
  let (w, clamped) := satTo f v'
  (w, ⟨lanes, c.sats + ofBool clamped⟩)

/-- FP32 to BF16 or FP16 (R160). -/
def convWide (sr : Bool) (f : Fmt) (j : Nat) (v : Val) (c : Conv) : Nat × Conv :=
  match v with
  | .fin _ _ _ => let (w, c) := convOne sr f j v c; (f.encode w, c)
  | v => (f.encode v, c)

/-- Smallest integer se with amax ≤ maxfin * 2^se, held between -127 and 127; -127 for amax = 0 (R161). -/
def blockExp (f : Fmt) (amax : Val) : Int :=
  match amax with
  | .fin _ 0 _ => -127
  | .fin _ m e =>
    let g := (Nat.log2 m : Int) + e - ((Nat.log2 f.maxfin.1 : Int) + f.maxfin.2)
    let fits (k : Int) : Bool := !Val.lt (.fin false f.maxfin.1 (f.maxfin.2 + k)) (.fin false m e)
    clampInt (-127) 127 (if fits (g - 1) then g - 1 else if fits g then g else g + 1)
  | _ => -127

/-- The largest finite magnitude of a list. -/
def amaxOf (xs : List Val) : Val :=
  xs.foldl (fun a x => match x with | .fin _ m e => if Val.lt a (.fin false m e) then .fin false m e else a | _ => a) .zero

/-- The value an element is rounded from: an infinity stands at twice the range, so that it clamps (R161). -/
def forced (f : Fmt) (se : Int) (x : Val) : Val :=
  match x with
  | .inf n => .fin n f.maxfin.1 (f.maxfin.2 + 1)
  | v => v.scale (-se)

/-- A block of elements rounded in lanes `j0` on. -/
def convBlock (sr : Bool) (f : Fmt) (se : Int) : Nat → List Val → Conv → List Val × Conv
  | _, [], c => ([], c)
  | j, x :: xs, c =>
    let (v, c) := convOne sr f j (forced f se x) c
    let (vs, c) := convBlock sr f se (j + 1) xs c
    (v :: vs, c)

/-- A converted block: scale byte, element codes, side entry, and what they decode to. -/
structure Block where
  scale : Nat
  codes : List Nat
  side : Nat
  vals : List Val
deriving DecidableEq, Repr

/-- A block that holds a NaN. -/
def nanBlock (n : Nat) : Block := ⟨0xFF, List.replicate n 0, 0, List.replicate n .nan⟩

/-- to_mx of R161, in lanes `j0` to `j0 + 31`. -/
def toMx (sr : Bool) (f : Fmt) (j0 : Nat) (xs : List Val) (c : Conv) : Block × Conv :=
  if xs.any Val.isNan then (nanBlock xs.length, c)
  else
    let se := blockExp f (amaxOf xs)
    let (vs, c) := convBlock sr f se j0 xs c
    (⟨(se + 127).toNat, vs.map f.encode, 0, vs.map (Val.scale se)⟩, c)

/-- The index of the largest magnitude among those not taken; the lowest index among equals (R162). -/
def argmax (xs : List Val) (skip : Option Nat) : Nat :=
  let idx := (List.range xs.length).filter (fun i => some i ≠ skip)
  match idx with
  | [] => 0
  | i :: is => is.foldl (fun b k => if Val.lt ((xs.getD b .zero).abs) ((xs.getD k .zero).abs) then k else b) i

/-- to_split4 of R162. The elements that stay are rounded first, in order, then the two outliers, each in the lane of its
position. -/
def toSplit4 (sr : Bool) (j0 : Nat) (xs : List Val) (c : Conv) : Block × Conv :=
  if xs.any Val.isNan then (nanBlock xs.length, c)
  else
    let o0 := argmax xs none
    let o1 := argmax xs (some o0)
    let v0 := !(xs.getD o0 .zero).isZero
    let v1 := !(xs.getD o1 .zero).isZero
    let out (i : Nat) : Bool := (i == o0 && v0) || (i == o1 && v1)
    let idx := List.range xs.length
    let rest := (idx.filter (fun i => !out i)).map (fun i => xs.getD i .zero)
    let outs := (idx.filter out).map (fun i => xs.getD i .zero)
    let se := min 127 (max (blockExp .mxfp4 (amaxOf rest)) (blockExp .e4m3 (amaxOf outs)))
    let step (acc : List Val × Conv) (i : Nat) : List Val × Conv :=
      if out i then (acc.1 ++ [.zero], acc.2)
      else let (v, c) := convOne sr .mxfp4 (j0 + i) (forced .mxfp4 se (xs.getD i .zero)) acc.2; (acc.1 ++ [v], c)
    let (vs, c) := idx.foldl step ([], c)
    let one (o : Nat) (v : Bool) (c : Conv) : Val × Conv :=
      if v then convOne sr .e4m3 (j0 + o) (forced .e4m3 se (xs.getD o .zero)) c else (.zero, c)
    let (w0, c) := one o0 v0 c
    let (w1, c) := one o1 v1 c
    let side := (if v0 then Fmt.e4m3.encode w0 else 0) + 2 ^ 8 * (if v1 then Fmt.e4m3.encode w1 else 0)
      + 2 ^ 16 * (if v0 then o0 else 0) + 2 ^ 21 * (if v1 then o1 else 0) + 2 ^ 26 * ofBool v0 + 2 ^ 27 * ofBool v1
    let vals := idx.map (fun i => (if i == o0 && v0 then w0 else if i == o1 && v1 then w1 else vs.getD i .zero).scale se)
    (⟨(se + 127).toNat, vs.map Fmt.mxfp4.encode, side, vals⟩, c)

/-! ### The canary (R170) -/

/-- |a - b| of two finite values. -/
def Val.dist (a b : Val) : Val := (a.add b.neg).abs

/-- div of R170: a numerator and a denominator, or infinite. -/
def canaryDiv (y z : Block) : Option (Val × Val) :=
  if (y.scale = 0xFF) ≠ (z.scale = 0xFF) then none
  else if y.scale = 0xFF then some (.zero, .fin false 1 0)
  else
    let zmax := amaxOf z.vals
    if zmax.isZero then (if y.vals.all Val.isZero then some (.zero, .fin false 1 0) else none)
    else some (amaxOf ((y.vals.zip z.vals).map (fun p => p.1.dist p.2)), zmax)

/-- div > 2^-t (R170). -/
def canaryDiverged (t : Nat) : Option (Val × Val) → Bool
  | none => true
  | some (n, d) => Val.lt (d.scale (-(t : Int))) n

/-- floor(div * 4096), saturating at 0xFFFF (R174). -/
def canaryWorst : Option (Val × Val) → Nat
  | none => 0xFFFF
  | some (.fin _ m e, .fin _ n f) =>
    let e0 := min (e + 12) f
    min 0xFFFF ((m * 2 ^ (e + 12 - e0).toNat) / (n * 2 ^ (f - e0).toNat))
  | some _ => 0xFFFF

/-! ### Arrays of elements (R151) -/

/-- Element `n` of an element array held in bytes; TERN and W2 count weights. -/
def elemAt (f : Fmt) (read : Nat → Byte) (n : Nat) : Nat :=
  let le (off k : Nat) : Nat := ofLE ((List.range k).map (fun i => read (off + i)))
  match f with
  | .fp32 => le (4 * n) 4
  | .bf16 => le (2 * n) 2
  | .fp16 => le (2 * n) 2
  | .e4m3 => le n 1
  | .e5m2 => le n 1
  | .mxint8 => le n 1
  | .e3m2 => le (3 * (n / 4)) 3 / 2 ^ (6 * (n % 4)) % 64
  | .e2m3 => le (3 * (n / 4)) 3 / 2 ^ (6 * (n % 4)) % 64
  | .mxfp4 => le (n / 2) 1 / 2 ^ (4 * (n % 2)) % 16
  | .split4 => le (n / 2) 1 / 2 ^ (4 * (n % 2)) % 16
  | .b3 => le (12 * (n / 32)) 12 / 2 ^ (3 * (n % 32)) % 8
  | .w2 => le (n / 4) 1 / 2 ^ (2 * (n % 4)) % 4
  | .tern => le (n / 5) 1 / 3 ^ (n % 5) % 3

/-- Bytes of the element array of `n` elements. -/
def elemBytes (f : Fmt) (n : Nat) : Nat := if f = .tern then ceilDiv n 5 else ceilDiv (n * f.width) 8

/-- Elements packed into bytes, little-endian fields (every format but TERN, which is never produced). -/
def packElems (f : Fmt) (codes : List Nat) : List Byte :=
  let w := f.width
  toLE (ceilDiv (codes.length * w) 8) (codes.foldr (fun c acc => c % 2 ^ w + 2 ^ w * acc) 0)

/-- An element with its block scale; a scale of 0xFF makes it a NaN (R150). -/
def scaled (v : Val) (s : Nat) : Val := if s = 0xFF then .nan else v.scale ((s : Int) - 127)

/-- B3 code to E2M1 code (R163). -/
def b3ToMxfp4 (c : Nat) : Nat := 8 * (c / 4 % 2) + c % 4

/-- A side entry's fields (R153). -/
structure Side where
  val0 : Nat
  val1 : Nat
  idx0 : Nat
  idx1 : Nat
  v0 : Bool
  v1 : Bool
deriving DecidableEq, Repr

def sideOf (w : Nat) : Side := ⟨bits w 7 0, bits w 15 8, bits w 20 16, bits w 25 21, bit w 26, bit w 27⟩

/-- Both outliers at one position (R153). -/
def Side.duplicate (x : Side) : Bool := x.v0 && x.v1 && x.idx0 == x.idx1

/-- Element `i` of a SPLIT4 block through its side entry, without the scale (R165). -/
def splitElem (x : Side) (i code : Nat) : Val :=
  if x.v0 && i == x.idx0 then Fmt.e4m3.decode x.val0
  else if x.v1 && i == x.idx1 then Fmt.e4m3.decode x.val1
  else Fmt.mxfp4.decode code

/-! ### FP32 arithmetic -/

/-- The value of an FP32 word. -/
def fp (w : Nat) : Val := Fmt.fp32.decode w
/-- A value rounded to nearest and encoded as FP32. -/
def toFp (v : Val) : Nat := Fmt.fp32.encode (roundNe .fp32 v)
/-- The default quiet NaN. -/
def qnan32 : Nat := 0x7FC00000

/-- floor of a finite value. -/
def Val.floor : Val → Int
  | .fin n m e =>
    let v : Int := if n then -(m : Int) else m
    if e ≥ 0 then v * 2 ^ e.toNat else v / ((2 ^ (-e).toNat : Nat) : Int)
  | _ => 0

/-- Function-table evaluation (R123): `a` and `b` give the table's entries as FP32 words. -/
def tableEval (lo invw : Nat) (a b : Nat → Nat) (x : Nat) : Nat :=
  if (fp x).isNan then qnan32
  else
    let t := roundNe .fp32 (((fp x).add (fp lo).neg).mul (fp invw))
    if t.isNan then qnan32
    else
      let low : Val := .fin true 1048576 0
      let high : Val := .fin false 1048832 0
      let t := if Val.lt t low then low else t
      let t := if Val.lt high t then high else t
      let i := (clampInt 0 255 t.floor).toNat
      let u := t.add (.fin true i 0)
      toFp ((fp (a i)).add ((fp (b i)).mul u))

/-! ### INT48 accumulation (R167, R168) -/

/-- Clamp to ±(2^47 - 1); whether it clamped. -/
def sat48 (v : Int) : Int × Bool :=
  if v > 2 ^ 47 - 1 then (2 ^ 47 - 1, true) else if v < -(2 ^ 47 - 1) then (-(2 ^ 47 - 1), true) else (v, false)

/-- A partial sum moved from exponent f to the row exponent (R167). -/
def alignPart (p : Int) (sh : Int) : Int := if sh ≥ 0 then p * 2 ^ sh.toNat else roundDivNe p (2 ^ (-sh).toNat)

end Sys2Proof.Machine
end

