-- ==== Sys2Proof/Machine/TileState.lean ====
section
/-! DEFINITION. The state of one tile that is neither a register field nor scratchpad (R111 to R137, R195 to R201), and what
lies on the paths between tiles (R126, R129). -/

namespace Sys2Proof.Machine

/-- A tile's program as plan load placed it (R175, R177). -/
structure Prog where
  prologue : Nat
  prologueWords : Nat
  body : Nat
  bodyWords : Nat
  repeats : Nat
deriving DecidableEq, Repr

/-- A running ROLL (R196, R215): its body, the iterations still to begin, the present iteration's start, the padding. -/
structure Loop where
  bs : Nat
  be : Nat
  left : Nat
  start : Nat
  iter : Nat
  pad : Nat
deriving DecidableEq, Repr

/-- A count register's new value that becomes readable in a later cycle (R199, R211). -/
structure CountWrite where
  reg : Nat
  value : Nat
  cycle : Nat
deriving DecidableEq, Repr

/-- A post that applies in a later cycle, with the instruction's program address (R132, R199); `core` says that a unit gives it
whose clock gating stops (R137). -/
structure Post where
  token : Nat
  cycle : Nat
  pc : Nat
  core : Bool
deriving DecidableEq, Repr

/-- A halt condition: code, unit, program address, detail (R203, R204). -/
structure Cond where
  code : Nat
  unit' : Nat
  pc : Nat
  detail : Nat
deriving DecidableEq, Repr

/-- A stall's beginning: counted beats and beats at its machine beat (R194). -/
structure Stall where
  counted : Nat
  beat : Nat
deriving DecidableEq, Repr

/-- What a blocked sequencer waits for. -/
inductive Wait where
  /-- WAIT.BEAT: the plan beat. -/
  | beat (target : Nat)
  /-- WAIT.FLAG. -/
  | flag (f : Nat) (clear : Bool) (bound : Nat)
  /-- FENCE of a tier. -/
  | fence (tier : Nat)
deriving DecidableEq, Repr

/-- A blocked sequencer: the wait, the instruction's post and address, its stall. -/
structure Blocked where
  wait : Wait
  post : Nat
  pc : Nat
  stall : Stall
deriving DecidableEq, Repr

/-- Where a queue's words go: an in queue of a tile, or a link port with an item tag (R115). -/
inductive Dest where
  | tile (t q : Nat)
  | link (port tag : Nat)
deriving DecidableEq, Repr

/-- What travels on a queue: a 512-bit word with its tag, or a flag set (R131, R135). -/
inductive Item where
  | word (bytes : List Byte) (tag : Nat) (dest : Dest)
  | flag (f : Nat) (dest : Dest)
deriving DecidableEq, Repr

/-- An out queue: its out stage, and what lies behind it in bypasses and the crossing FIFO (R126). -/
structure OutQueue where
  stage : List Item
  mid : List Item
deriving DecidableEq, Repr

/-- A received word and its tag. -/
structure RxWord where
  bytes : List Byte
  tag : Nat
deriving DecidableEq, Repr

/-- An item on the die network, for which room is reserved at the destination, its source, 16 * tile + queue (R129), and its place
among all items that have entered (R135). -/
structure DnItem where
  src : Nat
  seq : Nat
  item : Item
deriving DecidableEq, Repr

/-- A PUSH in flight (R217). -/
structure PushOp where
  q : Nat
  units : List Nat
  next : Nat
  dest : Dest
  bound : Nat
  post : Nat
  pc : Nat
  stall : Option Stall
deriving DecidableEq, Repr

/-- A PULL in flight (R218). -/
structure PullOp where
  q : Nat
  units : List Nat
  index : Nat
  next : Nat
  bound : Nat
  expect : Nat
  post : Nat
  pc : Nat
  stall : Option Stall
deriving DecidableEq, Repr

/-- A PULL's port-B write, which lands in a later cycle (R218). -/
structure BWrite where
  unit' : Nat
  bytes : List Byte
  cycle : Nat
  pc : Nat
deriving DecidableEq, Repr

/-- A weight plane (R222 to R224): its format, the mode it was loaded under, its depth D and k0, its decoded elements by
column, and each column's scale byte. -/
structure Plane where
  fmt : Nat
  mode : Nat
  depth : Nat
  k0 : Nat
  elems : List (List Val)
  scales : List Nat
deriving DecidableEq, Repr

/-- A plane load in flight: the units still to read and those read, in order (R222). -/
structure PlaneLoad where
  plane : Nat
  fmt : Nat
  mode : Nat
  depth : Nat
  k0 : Nat
  elemBase : Nat
  scaleBase : Nat
  sideBase : Nat
  /-- Units of the element array, the scale array and the side array that are read. -/
  elemUnits : Nat
  scaleUnits : Nat
  units : List Nat
  got : List (List Byte)
  next : Nat
  post : Nat
  pc : Nat
deriving DecidableEq, Repr

/-- An accumulator row (R166): INT48 or FP32, its exponent and poison mask, 32 entries (FP32 words as numbers). -/
structure AccRow where
  int48 : Bool
  x : Int
  poison : Nat
  vals : List Int
deriving DecidableEq, Repr

/-- An element of a stream: its value, its block's scale byte, its code. -/
structure Elem where
  val : Val
  scale : Nat
  code : Nat
deriving DecidableEq, Repr

/-- A framed stream being read (R154): words of the frame taken so far, how many of the frame's elements they have given, and
the elements not yet used. -/
structure InStream where
  words : List (List Byte)
  given : Nat
  elems : List Elem
  taken : Nat
deriving DecidableEq, Repr

/-- An MMA in flight (R224 to R227). -/
structure MmaOp where
  next : Nat
  row : Nat
  rows : Nat
  accBase : Nat
  init : Bool
  plane : Nat
  mode : Nat
  afmt : Nat
  x : Int
  /-- In queue, frame_n and bound of a queue source. -/
  queue : Option (Nat × Nat × Nat)
  elems : List Nat
  scales : List Nat
  stream : InStream
  expect : Nat
  post : Nat
  pc : Nat
  stall : Option Stall
deriving DecidableEq, Repr

/-- An MMA whose rows have entered, until its results are visible (R120). -/
structure MmaResult where
  lo : Nat
  hi : Nat
  cycle : Nat
  post : Nat
  pc : Nat
deriving DecidableEq, Repr

/-- A VRUN in flight (R228 to R234). -/
structure VrunOp where
  start : Nat
  count : Nat
  passes : Nat
  bound : Nat
  expect : Nat
  post : Nat
  pc : Nat
  pass : Nat
  micro : Nat
  next : Nat
  /-- Cycles the present micro-op has run. -/
  run : Nat
  /-- Words the present micro-op still has to send, once computed. -/
  outWords : Option (List RxWord)
  /-- Streams read, by queue. -/
  streams : Table InStream
  /-- Blocks of an unfinished output frame, by `frameKey`. -/
  frames : Table (List (Nat × List Nat × Nat))
  /-- Writes that become visible at the result cycle (R229). -/
  spadW : Table (List Byte)
  accW : Table AccRow
  stall : Option Stall
deriving DecidableEq, Repr

/-- A VRUN whose micro-ops have run, until its result cycle. -/
structure VrunResult where
  cycle : Nat
  spadW : Table (List Byte)
  accW : Table AccRow
  /-- Vector registers it writes and accumulator rows it uses. -/
  vregs : List Nat
  rows : Nat
  post : Nat
  pc : Nat
deriving DecidableEq, Repr

/-- A voice load in flight (R116, R216). -/
structure VoiceLoad where
  image : Nat
  issue : Nat
  got : List Byte
  post : Nat
  pc : Nat
deriving DecidableEq, Repr

/-- An outstanding tier access (R235 to R239). -/
structure TierAccess where
  tier : Nat
  /-- A STORE or SCATTER. -/
  store : Bool
  /-- Tier unit addresses, in the order they move. -/
  taddrs : List Nat
  /-- Scratchpad units, one for each. -/
  units : List Nat
  /-- The source's bytes at issue, unit by unit (R236: a source is read at some cycle between issue and completion). -/
  early : List (List Byte)
  /-- Due plan beat, tier 2. -/
  due : Nat
  /-- The second check is next. -/
  late : Bool
  /-- The second check is past: no item of the scoreboard any more (R266). -/
  retired : Bool
  /-- Tick of the issue. -/
  tick : Nat
  post : Nat
  pc : Nat
  /-- What the read of an index meets after the rows before it have moved (R190). -/
  stop : Option Cond
  /-- Once the tier has answered a LOAD or GATHER: the units still to be written in scratchpad (R235, R236). -/
  landing : Option (List (Nat × List Byte))
deriving DecidableEq, Repr

/-- A flag set of the present cycle: the flag, its source under R136, the instruction's address or the next one's. -/
structure FlagSet where
  f : Nat
  source : Nat
  pc : Nat
deriving DecidableEq, Repr

/-- A step of a bank's background test (R245): its unit, the shadow register, the idle cycles it still needs, and what the march
will find (0 nothing, 1 a cell that leaves an error corrected on read, 2 one that leaves an uncorrectable error). -/
structure TestStep where
  unit' : Nat
  shadow : List Byte
  left : Nat
  found : Nat
deriving DecidableEq, Repr

/-- A tile. -/
structure Tile where
  /-- Placed program, and whether it runs. -/
  prog : Option Prog
  running : Bool
  finished : Bool
  /-- Plan beat from which the program counts as ended (R87): the next downbeat's after its last pass. -/
  endedBy : Option Nat
  halted : Bool
  /-- First local tile cycle not yet run. -/
  now : Nat
  /-- Earliest cycle in which the next instruction issues. -/
  nextIssue : Nat
  pc : Nat
  inBody : Bool
  passes : Nat
  /-- Measure counter tm (R177). -/
  tm : Nat
  /-- Largest target of a WAIT.BEAT the tile has come to: its end-of-measure points (R87). -/
  reached : Nat
  loops : List Loop
  creg : List Nat
  cpend : List CountWrite
  /-- Token board, bit t for token t. -/
  board : Nat
  /-- The 256 flags. -/
  flags : Nat
  /-- Sets and clears of flags made in the present cycle: they apply at its end (R136). -/
  sets : List FlagSet
  clears : List Nat
  posts : List Post
  block : Option Blocked
  /-- Stalled on a token. -/
  tokenStall : Bool
  /-- Voice in force: its image; none: mac_mode OFF (R116). -/
  voice : Option (List Byte)
  voiceLoad : Option VoiceLoad
  planes : List (Option Plane)
  planeLoad : Option PlaneLoad
  acc : Table AccRow
  vregs : Table (List Nat)
  mma : Option MmaOp
  mmaResults : List MmaResult
  vrun : Option VrunOp
  vrunResults : List VrunResult
  push : List PushOp
  pull : List PullOp
  bwrites : List BWrite
  out : Table OutQueue
  rx : Table (List RxWord)
  accesses : List TierAccess
  /-- Stochastic lanes, canary phase and a staged seed with its cycle (R157, R212). -/
  lanes : List (BitVec 32)
  phase : Nat
  seed : Option (Nat × Nat)
  /-- Canary: pending request's first cycle, blocks numbered, measure of the last canary event (R169, R171, R213). -/
  canaryFrom : Option Nat
  canaryN : Nat
  canaryMeasure : Option Nat
  /-- The largest div since the last read, exact: none before a block, `some none` for infinity (R170, R174). -/
  worst : Option (Option (Val × Val))
  /-- A bank of port A claimed by SETC.S in a cycle: cycle and bank. -/
  claim : Option (Nat × Nat)
  /-- Steps of the background test under way, by bank. -/
  tests : Table TestStep
deriving DecidableEq, Repr

end Sys2Proof.Machine
end

