-- ==== Sys2Proof/Machine/Reset.lean ====
section
/-! DEFINITION. The parts of the state as a cold reset leaves them (R433, R438). -/

namespace Sys2Proof.Machine

/-- The time base after reset: counter 0, FREE, no correction (R44, R49). -/
def TimeBase.reset : TimeBase :=
  { beat := 0, frac := 0, tick := 0, counted := 0, slewLeft := 0, slewNow := 0, goodRun := 0, goodNow := false
    lastParent := none, parentDepth := 15, standby := false, echo := [], lastDown := none, reload := none, handed := [], stops := []
    applied := [], clock := [], cycles := [] }

/-- No plan. The first toll number is 0 (DESIGN CHOICE, log entry 7). -/
def PlanEngine.reset : PlanEngine :=
  { plan := none, beat := 0, rests := [], tollId := 0, originated := [], lateRegions := [], stop := none
    arrived := [], lastDue := none, lastSecond := none, lastRegion := none, own := [], finish := [], stopTick := none }

def Sample.reset : Sample :=
  { vc0 := 0, dyn := 0, idle := 0, times := 0, stalled := 0, holdMax := 0, adaptOff := 0, escapes := 0, wentDown := false }

/-- A port with nothing sent or received: the counters of R290. -/
def LinkPort.reset : LinkPort :=
  { entered := 0, failed := false, stuck := false, cfgGen := 1, cfgMax := 2, cfgMin := 0, cfgMode := 1, cfgVcs := 8, cfgRetx := 2, peer := none, ownMask := none
    peerMask := none, fellBack := false, urgent := [], normal := [], repeats := [], rxCtrl := [], closing := none, rxBits := 0
    rxBad := false, rxGood := 0, nxt := 0, una := 0
    kept := [], pass := none, resend := [], passes := 0, passUna := none, unaAt := 0, capAt := none, hold := [], overflow := false, dyn := []
    owner := [], rr := 0, sent := [], peerFreed := [], zeroAt := [], exp := 0, accepted := false, nakOpen := false, reorder := []
    gaps := [], fallback := none, modeDelay := 0, freed := [], freedSent := [], freedAt := none, rxPackets := []
    lockLost := [], vc0Stopped := false, dropMeasure := none, slotUse := [], wordIndex := [], sample := Sample.reset }

def Router.reset : Router :=
  { flaws := [], ports := [], slots := [], items := [], peals := [], routes := [], vias := [], rests := [], plan := none, planBeat := 0
    start := none, reach := 256, stopS := none, stopTick := none, repeats := 0, seen := [], tollIn := [], hubTolls := [], pairs := []
    contexts := [], arrivals := [], stalled := [], adaptive := [], bridges := [], sampleAt := none, packets := 0
    kept := [], parked := [] }

def HostIf.reset : HostIf :=
  { queues := [], fetched := [], lastQ := 0, evtRead := 0, evtWritten := 0, evtSeq := 0, evtLost := 0, ingest := [] }

/-- An empty slot (R386, R400). -/
def ServeSlot.reset : ServeSlot :=
  { record := List.replicate 64 0, state := 0, gen := 0, gated := false, walkError := false, adapterLost := false
    walked := false, buffer := 0, fed := 0, pos := 0, generated := 0, prefixLen := 0, steps := 0, drafted := 0, accepted := 0
    zeroRun := 0, reads := 0, outSeq := 0, last := 0, drafts := [] }

/-- No serving state (R389). -/
def Serving.reset : Serving := { slots := [], staged := [], walks := [], step := [], inputs := [] }

/-- Flash as the factory leaves it, as far as the model says: empty images, one valid directory copy that prefers image 0, no
configuration blocks, no summaries (DESIGN CHOICE, log entry 1). -/
def Mgmt.reset : Mgmt :=
  { images := Memory.empty, dirs := [⟨1, 0, true⟩, ⟨0, 0, true⟩], copies := [[], [], []], summaries := []
    secure := Memory.empty, boxes := Memory.empty, lengths := [], answers := [], releases := [], transition := none }

def FaultPath.reset : FaultPath :=
  { later := [], planBeat := 0, thermal := false, fieldOff := false, tcOff := false, reportDue := false, summaryDue := false
    dumpDue := false, headerWritten := false, report := none, sendings := 0, sentAt := 0, tooHot := false }

def PowerCtl.reset : PowerCtl := { entry := none, restarting := false, waiting := false, asked := false }

def Telemetry.reset : Telemetry :=
  { snap := [], ageSnap := [], minMargin := none, rested := false, lowPower := false, busy := []
    portStall := 0, chainStall := 0, ended := none, latest := zeros 128, readings := [], since := 0 }

/-- A tile idle, with no voice, no tokens, flags or words, and all its registers 0 (R141, R159, R166, R211, R224). -/
def Tile.reset : Tile :=
  { prog := none, running := false, finished := false, endedBy := none, halted := false, now := 0, nextIssue := 0, pc := 0
    inBody := false, passes := 0, tm := 0, reached := 0, loops := [], creg := List.replicate 16 0, cpend := [], board := 0, flags := 0
    sets := [], clears := [], posts := [], block := none, tokenStall := false, voice := none, voiceLoad := none
    planes := [none, none], planeLoad := none, acc := [], vregs := [], mma := none, mmaResults := [], vrun := none
    vrunResults := [], push := [], pull := [], bwrites := [], out := [], rx := [], accesses := [], lanes := seedLanes 0
    phase := 0, seed := none, canaryFrom := none, canaryN := 0, canaryMeasure := none, worst := none, claim := none, tests := [] }

end Sys2Proof.Machine
end

