-- ==== Sys2Proof/Machine/State.lean ====
section
/-! DEFINITION. The machine's state as plain data, its faults and refusals, and the machine right after reset. -/

namespace Sys2Proof.Machine

/-- Why a step stops: it never does. The manual gives every command an effect, and the module has no fault that ends it. -/
inductive Fault where
deriving DecidableEq, Repr

/-- Why a command is rejected. -/
inductive Refusal where
  /-- The command has no meaning in this model yet. Raised by Dispatch.lean alone. Safe. -/
  | notModelled (mnemonic : String)
deriving DecidableEq, Repr

/-- What the module puts out during one command. -/
inductive Output where
  /-- A write to host memory over PCIe, with its relaxed-ordering attribute (R369). -/
  | hostWrite (addr : Nat) (bytes : List Byte) (relaxed : Bool)
  /-- An MSI-X message. -/
  | msix (vector : Nat)
  /-- Data a register or window read returns. -/
  | readData (value : Nat)
  /-- Poisoned data of a unit (R262): on its way to a host address or as the answer to a read. -/
  | poisoned (addr : Nat)
  /-- Unsupported Request (R350). -/
  | unsupported
  /-- A flit on a link port. -/
  | flit (port : Nat) (bytes : List Byte)
  /-- A training block on a link port. -/
  | block (port : Nat) (bytes : List Byte)
  /-- A UDP datagram on management Ethernet: address, port, bytes. -/
  | datagram (address : Nat) (port : Nat) (bytes : List Byte)
  /-- An event to firmware on the management cores: its rule, and its data. -/
  | firmware (rule : Nat) (data : Nat)
  /-- A dynamic packet delivered to an agent of this module (R329): the agent and the flits' payloads. -/
  | packet (agent : Nat) (payloads : List (List Byte))
  /-- A response in a mailbox. -/
  | mailbox (m : Nat) (bytes : List Byte)
deriving DecidableEq, Repr

/-- A fatal condition on its way to the hub (R446): reason and detail. -/
structure Raised where
  reason : Fatal
  detail : Nat
deriving DecidableEq, Repr

/-- What is fused into the part (R1, R2, R23, R438). -/
structure Fused where
  serial : Nat
  /-- Grade B. -/
  gradeB : Bool
  /-- Bad rows, as 36 * die + row. -/
  badRows : List Nat
  /-- Rated maximum codes of regions, where below 80 (R54). -/
  fmax : Table Nat
  /-- Time-zero ratios of the regions' oscillators in units of 2^-32, where not 1 (R465). -/
  ratio : Table Nat
  /-- Life-cycle state, code of R423: programming its fuses is the one change of a fused value. -/
  lifeCycle : Nat
  /-- The transition key that the security block holds (R425). -/
  key : List Byte
  /-- Lowest security version an image may have (R408). -/
  minSecurity : Nat
deriving DecidableEq, Repr

/-- The machine. -/
structure State where
  /-- Commands waiting, first in first out. -/
  pending : List Instr
  /-- What the last command put out. -/
  out : List Output
  /-- The power stage is on (R25). -/
  powered : Bool
  /-- A thermal trip switched the stage off; only a cold reset restarts (R38). -/
  tripped : Bool
  /-- Tick of a thermal trip whose switch-off is due. -/
  tripTick : Option Nat
  /-- Level of PERST#: true is high. -/
  perst : Bool
  /-- PCIe is trained (R26, R30). -/
  pcie : Bool
  /-- A package reset that has been asked for and has not yet begun. -/
  pkgReset : Option PkgReset
  /-- Tick of hub ready. -/
  readyTick : Option Nat
  /-- Device ID sampled from the straps (R28). -/
  deviceId : Nat
  fused : Fused
  /-- Register fields that hold another value than their reset value: key 512 * index + field. -/
  regs : Table Nat
  /-- HI values latched by LO reads, per agent, under `latchKey` (R472). -/
  latches : Table (Option Nat)
  /-- Hidden accumulators, keyed as the registers: what each counter has counted since its reset. The collector's are these
  less what its last read found (R460). -/
  accum : Table Nat
  /-- Free values drawn so far (the model's own counter). -/
  free : Nat
  /-- Fatal conditions on their way to the hub, in the order they were raised. -/
  raised : List Raised
  time : TimeBase
  plan : PlanEngine
  ports : Table LinkPort
  router : Router
  host : HostIf
  serving : Serving
  /-- Configuration blocks in force, by number (R412). -/
  cfg : Table (List Byte)
  /-- Sequence number of the last new report (R449). -/
  reportSeq : Nat
  mgmt : Mgmt
  fault : FaultPath
  pwr : PowerCtl
  tel : Telemetry
  tiles : Table Tile
  /-- Scratchpads: key 2^20 * tile + byte. -/
  spad : Memory
  /-- Scratchpad units whose stored copy holds an error: key 2^15 * tile + unit; 1 corrected on read, 2 uncorrectable
  (R244). -/
  spadErr : Table Nat
  /-- Words and flag sets on the die network for which room is reserved: key 2 * tile + dn queue (R129). -/
  dn : Table (List DnItem)
  /-- Items that have entered it. -/
  dnSeq : Nat
  /-- Out queues that wait for room there, in order: 16 * tile + queue. -/
  dnWait : Table (List Nat)
  /-- Units that each bank's background test has finished: key 8 * tile + bank (R246). -/
  testPos : Table Nat
  /-- Tier 1 and tier 2, by byte of the module's address space (R253, R264). -/
  tier1 : Memory
  tier2 : Memory
  /-- Poisoned tier-1 units (R261). -/
  poison : Table Nat
  /-- LIMIT_LO writes that wait for their LIMIT_HI write (R277). -/
  t1Lo : Option Nat
  t2Lo : Option Nat
  /-- Units moved in the present machine measure: key 2 * unit + 0 for the plan, 1 for other agents; units 0 to 7 the
  stacks, 8 and 9 the tier-2 controllers (R272). -/
  moved : Table Nat
  /-- Tier-2 items late in the present machine measure, by controller (TTM_LATE). -/
  lateNow : Table Nat
deriving DecidableEq, Repr

/-- The machine right after reset. Where the manual gives no reset value, log entry 1 names it. -/
def State.reset : State :=
  { pending := [], out := [], powered := true, tripped := false, tripTick := none, perst := false, pcie := false
    pkgReset := none, readyTick := none, deviceId := 0xFFFF
    fused := { serial := 0, gradeB := false, badRows := [], fmax := [], ratio := [], lifeCycle := 1, key := [], minSecurity := 0 }
    regs := [], latches := [], accum := [], free := 0, raised := [], time := TimeBase.reset, plan := PlanEngine.reset
    ports := [], router := Router.reset, host := HostIf.reset, serving := Serving.reset, cfg := [], reportSeq := 0
    mgmt := Mgmt.reset, fault := FaultPath.reset, pwr := PowerCtl.reset, tel := Telemetry.reset
    tiles := [], spad := Memory.empty, spadErr := [], dn := [], dnSeq := 0, dnWait := [], testPos := [], tier1 := Memory.empty
    tier2 := Memory.empty, poison := [], t1Lo := none, t2Lo := none, moved := [], lateNow := [] }

end Sys2Proof.Machine
end

