-- ==== Sys2Proof/Machine/Ops.lean ====
section
/-! DEFINITION. The named operations every command's meaning is written over: register fields, ports, outputs, events,
warnings, the fatal path's first step, and what a reset event keeps. -/

namespace Sys2Proof.Machine

/-! ### Register fields -/

/-- The key of a register field's instance. -/
def regKey (f : RegField) (i : Nat) : Nat := 512 * i + f.ctorIdx

/-- Is physical row `row` of die `d` good (R2, R80)? -/
def Fused.rowGood (x : Fused) (d row : Nat) : Bool := !(x.badRows.contains (36 * d + row))

/-- A region's rated maximum code (R54). -/
def Fused.fmaxOf (x : Fused) (r : Nat) : Nat := Table.get 80 x.fmax r

/-- The server of a mailbox (R417). -/
def mailboxServer (m : Nat) : Nat := if m = 28 ∨ m = 29 then 0x10 else 0x11

/-- What a field holds after reset: the table's Reset column, the fused value, or the value the column gives in words. -/
def defaultOf (x : Fused) (f : RegField) (i : Nat) : Nat :=
  match f with
  | .BEAT_REG_FSET_fset_code => min 64 (x.fmaxOf i)
  | .BEAT_REG_FSET_fmax_code => x.fmaxOf i
  | .TIL_STATUS_row_good => ofBool (x.rowGood (i / 1152) (i % 36))
  | .LNK_SERIAL_LO_serial_lo => x.serial % 2 ^ 32
  | .LNK_SERIAL_HI_serial_hi => x.serial / 2 ^ 32 % 2 ^ 32
  | .HST_FEAT_SUP_sup => if i = 0 then 0x3FFFFF else 0
  | .MGT_MBX_STATUS_server => mailboxServer i
  | .SEC_LC_state => x.lifeCycle
  | .SEC_LC_NONCE_nonce => (Config.random32 0).toNat
  | f => f.info.reset

/-- A register field's value. -/
def State.get (s : State) (f : RegField) (i : Nat) : Nat := Table.get (defaultOf s.fused f i) s.regs (regKey f i)

/-- A register field set to a value, cut to its width. -/
def State.set (s : State) (f : RegField) (i v : Nat) : State :=
  { s with regs := Table.set (defaultOf s.fused f i) s.regs (regKey f i) (v % 2 ^ f.width) }

/-- A counting field raised by `n`, saturating, with its hidden accumulator (R460). -/
def State.bump (s : State) (f : RegField) (i n : Nat) : State :=
  { s.set f i (min (s.get f i + n) (2 ^ f.width - 1)) with
    accum := Table.set 0 s.accum (regKey f i) (Table.get 0 s.accum (regKey f i) + n) }

/-- A field that keeps a largest value. -/
def State.peak (s : State) (f : RegField) (i v : Nat) : State := s.set f i (max (s.get f i) (min v (2 ^ f.width - 1)))

/-- A field set back to its reset value. -/
def State.clear (s : State) (f : RegField) (i : Nat) : State := s.set f i (defaultOf s.fused f i)

/-- Several fields of one index cleared. -/
def State.clearAll (s : State) (fs : List RegField) (i : Nat) : State := fs.foldl (fun s f => s.clear f i) s

/-- Fields that follow a current condition of the hub (R438's last class): no field reset and no stay in a power state
changes what they show. -/
def liveField : RegField → Bool
  | .BEAT_STATUS_ref_present | .BEAT_PARENT_OFFSET_parent_offset | .FLD_SPAD_SECURE_wipe_busy | .SEC_STATUS_wipe_busy
  | .SEC_LC_busy | .SEC_LC_NONCE_nonce | .SEC_TAMPER_level | .FLT_STATUS_pwr_state | .FLT_DUMP_busy | .HST_FEAT_SUP_sup => true
  | _ => false

/-- The registers as an event of R13 leaves them: only the fields that survive it keep another value than Reset, and live
fields show what they showed. -/
def regsAfter (e : Ev) (regs : Table Nat) : Table Nat :=
  Table.keep (fun k => (RegField.ofNat (k % 512)).survives e
    || (liveField (RegField.ofNat (k % 512)) && decide (e ≠ .cold) && decide (e ≠ .package))) regs

/-- The register of a latch key, by its place among the registers. -/
def latchReg (k : Nat) : Reg := (regList.find? (fun r => r.ctorIdx == k / 256 % 512)).getD .PLN_STOP_HI

/-- Latches that pass a test of register and index survive an event only with every field of their register (R13). -/
def latchesAfter (e : Ev) (p : Reg → Nat → Bool) (t : Table (Option Nat)) : Table (Option Nat) :=
  Table.keep (fun k => !p (latchReg k) (k / 256 / 512) || (latchReg k).fields.all (fun f => f.survives e)) t

/-- The fields that pass a test of field and index as an event leaves them: the others keep their values. -/
def regsAfterFor (e : Ev) (p : RegField → Nat → Bool) (regs : Table Nat) : Table Nat :=
  Table.keep (fun k => (RegField.ofNat (k % 512)).survives e || !p (RegField.ofNat (k % 512)) (k / 512)) regs

/-- The registers and their latches as an event leaves them. -/
def State.afterEvent (s : State) (e : Ev) : State :=
  { s with regs := regsAfter e s.regs, latches := latchesAfter e (fun _ _ => true) s.latches }

/-! ### States held in registers -/

def State.planState (s : State) : PlanState := PlanState.ofCode (s.get .PLN_STATUS_state 0)
def State.power (s : State) : Power := Power.ofCode (s.get .FLT_STATUS_pwr_state 0)
def State.timeState (s : State) : TimeState := TimeState.ofCode (s.get .BEAT_STATUS_state 0)
def State.train (s : State) (p : Nat) : Train := Train.ofCode (s.get .LNK_STATUS_state p)
/-- Hub ready (R29). -/
def State.hubUp (s : State) : Bool := s.powered && s.get .HST_STATUS_hub_ready 0 == 1
/-- An agent's access reaches the hub: the host's over PCIe, any other's once the hub is ready (R30, R405, R415). -/
def State.agentUp (s : State) (a : Agent) : Bool := s.hubUp && (a ≠ .host || s.pcie)
/-- The tiers serve commands that have not yet started: Active, and no entry into Hush or Relay under way (R442). -/
def State.tiersServe (s : State) : Bool := s.powered && s.power = .active && s.pwr.entry.isNone
/-- The Field dies run: not off and not in reset (R434, R440). -/
def State.fieldUp (s : State) : Bool := s.powered && (s.power = .active || s.power = .hush)
/-- The tile clocks run (R440: in Hush tiles are gated). -/
def State.tilesUp (s : State) : Bool := s.powered && s.power = .active
/-- A plan is loaded on the module: its state is not IDLE (R83). -/
def State.planLoaded (s : State) : Bool := s.planState ≠ .idle
/-- A fatal entry is active (R446). -/
def State.fatalActive (s : State) : Bool := s.get .FLT_FATAL_active 0 == 1

/-- A register read that reached a die which is off or in reset (R472). -/
def State.offlineRead (s : State) : State :=
  { s.set .TEL_STATUS_offline_read 0 1 with out := s.out ++ [.readData 0xFFFFFFFF] }

/-- Is feature bit `b` enabled (R351)? -/
def State.feature (s : State) (b : Nat) : Bool := bit (s.get .HST_FEAT_EN_en (b / 32)) (b % 32)

/-- Is port `p` fenced (R340)? -/
def State.fenced (s : State) (p : Nat) : Bool :=
  if p < 32 then bit (s.get .RTE_FENCE_LO_fence_lo 0) p else bit (s.get .RTE_FENCE_HI_fence_hi 0) (p - 32)

/-- ALERT1# (R27, R459): some pending warning source is not masked; released until hub ready. -/
def State.alert1 (s : State) : Bool :=
  s.hubUp && (List.range 12).any (fun b => bit (s.get .FLT_WARN_pending 0) b && !bit (s.get .FLT_WARN_MASK_mask 0) b)

/-! ### Ports, outputs, time -/

def State.port (s : State) (p : Nat) : LinkPort := Table.get LinkPort.reset s.ports p
def State.setPort (s : State) (p : Nat) (x : LinkPort) : State := { s with ports := Table.set LinkPort.reset s.ports p x }

def State.emit (s : State) (o : Output) : State := { s with out := s.out ++ [o] }
def State.emitAll (s : State) (os : List Output) : State := { s with out := s.out ++ os }

/-- An MSI-X message, unless one of that vector is pending (R357, R377): one is from its sending until the next command finds it gone
(DESIGN CHOICE, log entry 40: the rule does not say when a message stops being pending). -/
def State.sendMsix (s : State) (vector : Nat) : State := if s.out.contains (.msix vector) then s else s.emit (.msix vector)

/-- The next free value's number, and the state that has drawn it. -/
def State.draw (s : State) : Nat × State := (s.free + 1, { s with free := s.free + 1 })

/-- The key of an agent's latch of a HI register. -/
def latchKey (a : Agent) (r : Reg) (i : Nat) : Nat := 256 * (512 * i + r.ctorIdx) + agentNumber a

/-- A LO read latches its HI register for the agent that reads (R74, R472). -/
def State.latch (s : State) (a : Agent) (r : Reg) (i v : Nat) : State :=
  { s with latches := Table.set none s.latches (latchKey a r i) (some v) }

/-- The value an agent's LO read latched, if one is held (DESIGN CHOICE, log entry 10: no rule says how long a latch is held; it
goes with a write of its register and with every event that the register's fields do not survive). -/
def State.latched (s : State) (a : Agent) (r : Reg) (i : Nat) : Option Nat := Table.get none s.latches (latchKey a r i)

/-- A register written: its latches show nothing older (R12: a read returns the value). -/
def State.unlatch (s : State) (r : Reg) (i : Nat) : State :=
  { s with latches := Table.keep (fun k => k / 256 ≠ 512 * i + r.ctorIdx) s.latches }

/-- Time in units of 1/2048 ps of a beat and a fraction (R48: exact). -/
def timeUnits (b f : Nat) : Int := (b : Int) * (40000 * 2048) + (f : Int) * 1250

/-- A downbeat of the machine beat (R6). -/
def isDownbeat (b : Nat) : Bool := b % 16 == 0

/-- Does a beat lie in a rest measure of a rest list (R98)? -/
def isRest (rests : List RestEntry) (b : Nat) : Bool :=
  rests.any (fun e => decide (e.i ≤ b) && decide (b < e.i + 16 * e.d))

/-- The smaller of two plan measures at which a plan stops (R103). -/
def smallerStop (s : Option Nat) (n : Nat) : Option Nat :=
  match s with
  | none => some n
  | some m => some (min m n)

/-- The plan measure at whose downbeat the plan stops, if one is set: the smallest S, or the end of the body's repeats (R78,
R103). -/
def State.stopMeasure (s : State) : Option Nat :=
  match s.plan.plan with
  | none => none
  | some x => if x.repeats = 0 then s.plan.stop else smallerStop s.plan.stop (x.prologue + x.repeats * x.body)

/-- The present machine beat executes a plan beat: it lies in no rest, and before the stop downbeat (R7, R101, R104). -/
def State.beatExecutes (s : State) : Bool :=
  (s.planState = .running || s.planState = .resting) && !isRest s.plan.rests s.time.beat
    && (match s.stopMeasure with | none => true | some m => decide (s.plan.beat < 16 * m))

/-- Plan beat `p` has begun to execute. The counter shows a beat not yet begun during rest and from the stop downbeat on
(R214). -/
def State.beatBegun (s : State) (p : Nat) : Bool := decide (p < s.plan.beat) || (p == s.plan.beat && s.beatExecutes)

/-- First plan beat of the measure after the one under way. -/
def State.nextMeasureBeat (s : State) : Nat :=
  if s.beatExecutes then 16 * (s.plan.beat / 16 + 1) else 16 * ceilDiv s.plan.beat 16

/-- Apply a function to the state once for each number of a list. -/
def State.each (s : State) (ns : List Nat) (f : State → Nat → State) : State := ns.foldl f s

/-! ### Events, warnings and reports -/

/-- A report datagram of 64 bytes (R449). -/
def State.reportBytes (s : State) (typ seq code detail planBeat planState : Nat) (beat : Nat) : List Byte :=
  withCrc (toLE 4 0x4D464B42 ++ toLE 2 1 ++ toLE 1 typ ++ zeros 1 ++ toLE 4 seq ++ toLE 2 s.deviceId
    ++ toLE 2 (if s.get .PLN_EPOCH_epoch 0 = 0 then s.get .RTE_EPOCH_epoch 0 else s.get .PLN_EPOCH_epoch 0)
    ++ toLE 8 s.fused.serial ++ toLE 8 beat ++ toLE 2 code ++ zeros 2 ++ toLE 4 detail ++ toLE 8 planBeat
    ++ toLE 1 planState ++ toLE 1 (s.get .FLT_STATUS_pwr_state 0) ++ toLE 1 (s.fused.lifeCycle)
    ++ toLE 1 (s.get .FLT_DUMP_valid 0 + 2 * s.get .FLT_STATUS_alert0 0 + 4 * s.get .MGT_STATUS_safe 0) ++ zeros 8)

/-- Configuration block 0x0001 in force: none where the copies hold none (R411, R412). -/
def State.netBlock (s : State) : List Byte := Table.get [] s.cfg 1

/-- A report sent to every fault-manager address while report_en is 1 (R449). How block 0x0001 spells its addresses and its
port the manual does not give: Config holds both (log entry 33). -/
def State.sendReport (s : State) (bytes : List Byte) : State :=
  if s.get .FLT_CTRL_report_en 0 = 1 then
    let addrs := Config.faultManagers s.netBlock
    (s.emitAll (addrs.map (fun a => Output.datagram a (Config.reportPort s.netBlock) bytes))).bump .FLT_REPORT_sent 0 addrs.length
  else s

/-- A new report takes the next sequence number (R449). -/
def State.newReport (s : State) (typ code detail planBeat planState : Nat) : State :=
  let seq := (s.reportSeq + 1) % 2 ^ 32
  if s.get .FLT_CTRL_report_en 0 = 1 then
    (({ s with reportSeq := seq }).set .FLT_REPORT_last_seq 0 seq).sendReport
      (s.reportBytes typ seq code detail planBeat planState s.time.beat)
  else s

/-- One 32-byte event record put into the ring, with the ring's MSI-X vector (R376, R377). -/
def State.writeEvent (s : State) (typ : Nat) (body : List Byte) : State :=
  let n := s.get .HST_EVT_CFG_entries 0
  let base := s.get .HST_EVT_BASE_LO_evt_base 0 + 2 ^ 32 * s.get .HST_EVT_BASE_HI_evt_base 0
  let rec' := toLE 1 typ ++ zeros 3 ++ toLE 4 s.host.evtSeq ++ toLE 8 s.time.beat ++ padTo 16 body
  { (s.emit (.hostWrite (base + 32 * (s.host.evtWritten % n)) rec' false)).sendMsix (s.get .HST_EVT_CFG_vector 0) with
    host := { s.host with evtWritten := s.host.evtWritten + 1, evtSeq := s.host.evtSeq + 1 } }

/-- The event ring's size is a power of two from 64 to 32,768 (R377, R380); any other is no ring. -/
def State.evtRing (s : State) : Bool :=
  let n := s.get .HST_EVT_CFG_entries 0
  isPow2 n && decide (64 ≤ n) && decide (n ≤ 32768)

/-- Room in the event ring. -/
def State.evtRoom (s : State) : Bool := decide (s.host.evtWritten - s.host.evtRead < s.get .HST_EVT_CFG_entries 0)

/-- The EVENTS_LOST record that goes first once room has returned (R377). -/
def State.flushLost (s : State) : State :=
  if s.host.evtLost ≠ 0 && s.evtRoom then
    let n := s.host.evtLost
    ({ s with host := { s.host with evtLost := 0 } }).writeEvent 8 (toLE 4 n)
  else s

/-- An event of R376: a record while EVENT_RING is enabled and the ring has room, a count of lost records otherwise. -/
def State.event (s : State) (typ : Nat) (body : List Byte) : State :=
  if s.feature 16 && s.evtRing then
    let s := s.flushLost
    if s.evtRoom then s.writeEvent typ body
    else { s.bump .HST_ERR_events_lost 0 1 with
           host := { s.host with evtLost := s.host.evtLost + 1, evtSeq := s.host.evtSeq + 1 } }
  else s

/-- A warning source becomes pending (R444, R449, R459): the first time its bit goes from 0 to 1 it writes one WARNING
event and one WARNING report. -/
def State.warnWith (s : State) (w : Warn) (detail : Nat) : State :=
  let p := s.get .FLT_WARN_pending 0
  if bit p w.bit then s
  else
    ((s.set .FLT_WARN_pending 0 (p + 2 ^ w.bit)).event 4 (toLE 2 w.bit ++ toLE 2 detail)).newReport
      2 w.bit detail 0 (s.get .PLN_STATUS_state 0)

/-- A warning whose detail the manual does not give: a free value stands for it (log entry 6). -/
def State.warn (s : State) (w : Warn) : State := s.draw.2.warnWith w (Config.warnDetail w.bit s.draw.1).toNat

/-- A fatal condition starts on its way to the hub (R446): FATAL_ENTRY takes it there. -/
def State.raiseFatal (s : State) (r : Fatal) (detail : Nat) : State :=
  { s with raised := s.raised ++ [⟨r, detail % 2 ^ 32⟩] }

/-- A change of the hub's plan state, with its PLAN_STATE event (R83, R376). -/
def State.setPlanState (s : State) (p : PlanState) : State :=
  if s.planState = p then s
  else (s.set .PLN_STATUS_state 0 p.code).event 2
    (toLE 1 p.code ++ toLE 1 (s.get .PLN_STATUS_state 0) ++ toLE 2 (s.get .PLN_EPOCH_epoch 0))

/-! ### Rights and mailbox locks (R406, R419) -/

/-- A host write to a field that only the management plane may write (R406). -/
def State.hostDenied (s : State) : State := (s.set .MGT_STATUS_host_denied 0 1).bump .MGT_ERR_access_denied 0 1

/-- Mailbox `m` is free again; a release clears done (R419, R420). -/
def State.freeLock (s : State) (m : Nat) : State := (s.set .MGT_MBX_STATUS_owner m 0).set .MGT_MBX_STATUS_done m 0

/-- A release: at once, or when the server completes where a request is with it (R419). -/
def State.releaseLock (s : State) (m : Nat) : State :=
  if s.get .MGT_MBX_STATUS_busy m = 1 then
    { s with mgmt := { s.mgmt with releases := if s.mgmt.releases.contains m then s.mgmt.releases else s.mgmt.releases ++ [m] } }
  else s.freeLock m

/-! ### The shape of a meaning -/

/-- What every meaning does first: the outputs of the command before are gone. -/
def State.begin (s : State) : State := { s with out := [] }

/-- A command that happens only under a condition: where it does not hold, the event does not occur and nothing changes
(log entry 8). -/
def occurs (guard : Bool) (f : State → State) (s : State) : Host.Outcome State Fault Refusal :=
  if guard then .next (f s.begin) else .next s.begin

end Sys2Proof.Machine
end

