-- ==== Sys2Proof/Machine/MemOps.lean ====
section
/-! DEFINITION. Shared operations of tier 1 and tier 2: where an address lies (R253, R264), the range opened to plans (R255,
R264), units, poison and the counts of uncorrectable errors (R261, R262, R267, R272). -/

namespace Sys2Proof.Machine

/-- First unit address of tier 1 that names no memory (R253). -/
def t1Units : Nat := 0x500000000
/-- Units of tier 2. -/
def t2Units : Nat := 0x800000000
/-- The plan area, hub area and dump area of tier 1 (R254). -/
def planAreaBase : Nat := 0x4E6000000
def planAreaTop : Nat := 0x4FDFFFFFF
def hubAreaBase : Nat := 0x4FE000000
def dumpAreaBase : Nat := 0x4FF800000

/-- The stack of a tier-1 unit address (R253). -/
def t1Stack (a : Nat) : Nat := 7 - a / 0xA0000000
/-- The controller of a tier-2 unit address (R264). -/
def t2Controller (a : Nat) : Nat := a / 8 % 16 / 8

/-- The range of a tier opened to plans. -/
def State.planLimit (s : State) (tier : Nat) : Nat :=
  if tier = 1 then s.get .HBM_PLAN_LIMIT_LO_limit_lo 0 + 2 ^ 32 * s.get .HBM_PLAN_LIMIT_HI_limit_hi 0
  else s.get .TTM_PLAN_LIMIT_LO_limit_lo 0 + 2 ^ 32 * s.get .TTM_PLAN_LIMIT_HI_limit_hi 0

def State.tierUnit (s : State) (tier a : Nat) : List Byte :=
  if tier = 1 then s.tier1.readBytes (32 * a) 32 else s.tier2.readBytes (32 * a) 32

/-- A whole unit written to a tier: in tier 1 it clears the unit's poison (R262). -/
def State.putTier (s : State) (tier a : Nat) (b : List Byte) : State :=
  if tier = 1 then { s with tier1 := s.tier1.writeBytes (32 * a) b, poison := s.poison.erase a }
  else { s with tier2 := s.tier2.writeBytes (32 * a) b }

def State.poisoned (s : State) (a : Nat) : Bool := (s.poison.find? a).isSome

/-- Units moved, for the plan (0) or other agents (1) (R272). -/
def State.countMoved (s : State) (tier kind a : Nat) : State :=
  let u := if tier = 1 then t1Stack a else 8 + t2Controller a
  { s with moved := Table.set 0 s.moved (2 * u + kind) (Table.get 0 s.moved (2 * u + kind) + 1) }

/-- A run of units of one controller moved. -/
def State.countRun (s : State) (tier kind a n : Nat) : State :=
  let k := 2 * (if tier = 1 then t1Stack a else 8 + t2Controller a) + kind
  { s with moved := Table.set 0 s.moved k (Table.get 0 s.moved k + n) }

/-- An uncorrectable error at a tier-1 unit: marked poisoned and counted if it was not, its address recorded, firmware
warned (R261, R262). -/
def State.t1Error (s : State) (a : Nat) : State :=
  let k := t1Stack a
  let s := if s.poisoned a then s
    else { s.bump .HBM_ECC_UE_ue_count k 1 with poison := Table.set 0 s.poison a 1 }
  (((s.set .HBM_UE_ADDR_LO_addr_lo k a).set .HBM_UE_ADDR_HI_addr_hi k (a / 2 ^ 32)).set .HBM_UE_ADDR_HI_valid k 1).warn .t1Ue

/-- An uncorrectable link error on a tier-2 read (R267). -/
def State.t2Error (s : State) (a : Nat) : State :=
  let k := t2Controller a
  ((((s.bump .TTM_ECC_link_ue k 1).set .TTM_UE_ADDR_LO_addr_lo k a).set .TTM_UE_ADDR_HI_addr_hi k (a / 2 ^ 32)).set
    .TTM_UE_ADDR_HI_valid k 1).warn .t2Ue

/-- A corrected error (R261, R267). -/
def State.tierCe (s : State) (tier a : Nat) : State :=
  if tier = 1 then s.bump .HBM_ECC_CE_ce_count (t1Stack a) 1 else s.bump .TTM_ECC_link_ce (t2Controller a) 1

/-- A read of a unit that the environment says was corrected (`ce`) or not correctable (`ue`), or that is poisoned: whether
it is bad, and what is counted. -/
def State.tierRead (s : State) (tier a : Nat) (ce ue : Bool) : Bool × State :=
  if tier = 1 then
    if ue || s.poisoned a then (true, s.t1Error a) else (false, if ce then s.tierCe 1 a else s)
  else if ue then (true, s.t2Error a) else (false, if ce then s.tierCe 2 a else s)

/-- Is a unit in the range opened to plans? -/
def State.inPlanRange (s : State) (tier a : Nat) : Bool := decide (a < s.planLimit tier)

end Sys2Proof.Machine
end

