-- ==== Sys2Proof/Machine/Operands.lean ====
section
/-! DEFINITION. Every operand form of a tile program (chapter 06): the instruction word, the operand-extension words, the
micro-ops of a voice, the voice descriptor and its routes, and the addresses a descriptor generates. -/

namespace Sys2Proof.Machine

/-! ### The instruction word (R179, R183) -/

/-- Fields common to every instruction word. -/
def opcodeOf (w : Nat) : Nat := bits w 7 0
def extOf (w : Nat) : Nat := bits w 9 8
def waitOf (w : Nat) : Nat := bits w 13 10
def postOf (w : Nat) : Nat := bits w 17 14
def expectOf (w : Nat) : Nat := bits w 21 18

/-- The opcodes of the sequencer (R182). -/
def opcodes : List Nat :=
  [0x00, 0x01, 0x02, 0x03, 0x04, 0x05, 0x06, 0x08, 0x09, 0x10, 0x11, 0x18, 0x19, 0x1A, 0x20, 0x21, 0x28, 0x30, 0x31, 0x32,
   0x33, 0x34, 0x35, 0x36, 0x37, 0x38]

/-- Extension words an instruction requires (R182, R189). -/
def extNeeded (w : Nat) : Nat :=
  match opcodeOf w with
  | 0x08 => 1
  | 0x10 => 1
  | 0x11 => 1
  | 0x20 => if bit w 54 then 1 else if bits w 43 40 = 1 ∨ bits w 43 40 = 2 then 1 else 2
  | 0x21 => 1
  | 0x30 => 2
  | 0x31 => 2
  | 0x32 => 3
  | 0x34 => 2
  | 0x35 => 2
  | 0x36 => 3
  | 0x37 => 3
  | _ => 0

/-- Where a non-zero expect is valid, as far as the word says (R181). -/
def expectValid (w : Nat) : Bool :=
  opcodeOf w == 0x11 || (opcodeOf w == 0x20 && bit w 54) || opcodeOf w == 0x28

/-! ### Scratchpad descriptors (R185, R186) -/

/-- A scratchpad descriptor. -/
structure Desc where
  base : Nat
  count : Nat
  stride : Int
  run : Nat
  ring : Nat
deriving DecidableEq, Repr

def descOf (w : Nat) : Desc := ⟨bits w 14 0, bits w 31 16, toSigned 16 (bits w 47 32), bits w 52 48 + 1, bits w 63 54⟩

/-- Unit `i` of a descriptor's pattern, exact. -/
def Desc.unitAt (d : Desc) (i : Nat) : Int :=
  let off : Int := ((i / d.run : Nat) : Int) * d.stride + ((i % d.run : Nat) : Int)
  if d.ring = 0 then (d.base : Int) + off else (d.base : Int) + off % ((32 * d.ring : Nat) : Int)

/-- Is unit `i` outside the scratchpad, or odd where queue words are named? -/
def Desc.badAt (d : Desc) (queueWords : Bool) (i : Nat) : Bool :=
  decide (d.unitAt i < 0) || decide (d.unitAt i > 0x7FFF) || (queueWords && decide (d.unitAt i % 2 = 1))

/-- The detail of the SPAD_RANGE halt that a descriptor causes, if it does (R186). -/
def Desc.fault? (d : Desc) (queueWords : Bool) : Option Nat :=
  if d.ring ≠ 0 ∧ d.base + 32 * d.ring - 1 > 0x7FFF then some 0xFFFF
  else (List.range d.count).find? (fun i => d.badAt queueWords i)

/-- The units a descriptor generates (R186). -/
def Desc.units (d : Desc) : List Nat := (List.range d.count).map (fun i => (d.unitAt i).toNat)

/-! ### Other extension words (R188) -/

structure Bases where
  elem : Nat
  scale : Nat
  side : Nat
deriving DecidableEq, Repr
def basesOf (w : Nat) : Bases := ⟨bits w 14 0, bits w 29 15, bits w 44 30⟩

/-- A queue control word: bound, frame_n, route. -/
structure QCtl where
  bound : Nat
  frameN : Nat
  route : Nat
deriving DecidableEq, Repr
def qctlOf (w : Nat) : QCtl := ⟨bits w 13 0, bits w 20 14, bits w 24 21⟩

/-- A tier descriptor: address and count of units. -/
structure TierDesc where
  taddr : Nat
  tcount : Nat
deriving DecidableEq, Repr
def tierOf (w : Nat) : TierDesc := ⟨bits w 34 0, bits w 50 35⟩

/-- An index list: first unit and rows. -/
structure IndexDesc where
  ibase : Nat
  rows : Nat
deriving DecidableEq, Repr
def indexOf (w : Nat) : IndexDesc := ⟨bits w 14 0, bits w 30 15⟩

/-! ### Micro-ops (R191, R192, R228, R233) -/

/-- A micro-op: its instruction word's fields and its extension word. -/
structure Micro where
  opcode : Nat
  ext : Nat
  dst : Nat
  a : Nat
  b : Nat
  c : Nat
  fmt : Nat
  table : Nat
  word : Nat
deriving DecidableEq, Repr

def microOf (w x : Nat) : Micro :=
  ⟨bits w 7 0, bits w 9 8, bits w 27 22, bits w 33 28, bits w 39 34, bits w 45 40, bits w 49 46, bits w 51 50, x⟩

/-- Sources a micro-op's lane result names; none for an unlisted opcode (R233). -/
def microSources (opcode : Nat) : Option Nat :=
  match opcode with
  | 0x80 => some 1 | 0x81 => some 2 | 0x82 => some 2 | 0x83 => some 2 | 0x84 => some 3 | 0x85 => some 2 | 0x86 => some 2
  | 0x87 => some 1 | 0x88 => some 3 | 0x90 => some 1 | 0x98 => some 1 | 0xA0 => some 1 | 0xA1 => some 1 | 0xA2 => some 1
  | _ => none

/-- Latency of a micro-op's class (R122, R233). -/
def microLatency (opcode : Nat) : Nat :=
  if opcode = 0x90 then 6 else if 0xA0 ≤ opcode ∧ opcode ≤ 0xA2 then 8 else 4

/-- The selectors of the sources it uses, in order. -/
def Micro.sources (m : Micro) : List Nat := [m.a, m.b, m.c].take ((microSources m.opcode).getD 0)

def isSpadSel (s : Nat) : Bool := s == 0x11
def isQueueSel (s : Nat) : Bool := decide (0x12 ≤ s) && decide (s ≤ 0x17)

/-- The distinct scratchpad and queue operands it names: 0x11, or a queue selector. -/
def Micro.operands (m : Micro) : List Nat :=
  ((m.sources ++ [m.dst]).filter (fun s => isSpadSel s || isQueueSel s)).eraseDups

/-- MICROOP_INVALID (R192, R228). -/
def Micro.invalid (m : Micro) : Bool :=
  (microSources m.opcode).isNone || m.ext ≠ 1 || (m.sources ++ [m.dst]).any (fun s => decide (s ≥ 0x1A))
    || m.dst == 0x18 || m.dst == 0x19 || decide (m.operands.length > 1)

/-- The format its scratchpad or queue source is unpacked from, and the one such a destination is written in (R232). -/
def Micro.srcFmt (m : Micro) : Nat := if m.opcode = 0x98 then 0 else m.fmt
def Micro.dstFmt (m : Micro) : Nat := if m.opcode = 0x98 then m.fmt else 0

/-- Is its fmt field in use (R192, R232)? -/
def Micro.usesFmt (m : Micro) : Bool :=
  m.opcode == 0x98 || m.sources.any (fun s => isSpadSel s || isQueueSel s)

/-- Blocked formats: those with a scale (R150). -/
def blockedCode (c : Nat) : Bool := decide (3 ≤ c) && decide (c ≤ 12)

/-- Its format halt, as a code and its detail (R192, R232, R234). -/
def Micro.formatHalt (m : Micro) : Option Nat :=
  if !m.usesFmt then none
  else if m.fmt ≥ 13 then some 0x50
  else if m.fmt = 10 ∨ m.fmt = 11 then some 0x51
  else if m.opcode = 0x98 && blockedCode m.fmt && decide (m.dst ≤ 0x10) then some 0x51
  else none

/-- Units of scratchpad one pass of a format moves (R231). -/
def unitsPerPass (fmt : Nat) : Nat := match fmt with | 0 => 8 | 9 => 6 | _ => 4

/-- The in queue and the out queue it uses. -/
def Micro.inQueue (m : Micro) : Option Nat := (m.sources.find? isQueueSel).map (· - 0x12)
def Micro.outQueue (m : Micro) : Option Nat := if isQueueSel m.dst then some (m.dst - 0x12) else none
def Micro.readsSpad (m : Micro) : Bool := m.sources.any isSpadSel
def Micro.writesSpad (m : Micro) : Bool := isSpadSel m.dst
def Micro.usesAcc (m : Micro) : Bool := (m.sources ++ [m.dst]).any (· == 0x10)

/-! ### Voices (R113 to R115) -/

def voiceMode (v : List Byte) : Nat := leAt v 2 1
def voiceRound (v : List Byte) : Bool := leAt v 3 1 % 2 == 1
def voiceMicroLen (v : List Byte) : Nat := leAt v 4 1
def voiceTables (v : List Byte) : Nat := leAt v 5 1
def voiceCanary (v : List Byte) : Nat := leAt v 6 1
def voiceId (v : List Byte) : Nat := leAt v 0 2
/-- Micro-op `i` of a voice image. -/
def voiceMicro (v : List Byte) (i : Nat) : Micro := microOf (leAt v (256 + 16 * i) 8) (leAt v (264 + 16 * i) 8)
/-- Function table `j`: lo, inv_w and the entries a[i], b[i]. -/
def voiceLo (v : List Byte) (j : Nat) : Nat := leAt v (8 + 8 * j) 4
def voiceInvW (v : List Byte) (j : Nat) : Nat := leAt v (12 + 8 * j) 4
def voiceTableA (v : List Byte) (j i : Nat) : Nat := leAt v (2048 * (j + 1) + 8 * i) 4
def voiceTableB (v : List Byte) (j i : Nat) : Nat := leAt v (2048 * (j + 1) + 8 * i + 4) 4

/-- The descriptor byte of the lowest-numbered bad field (R118). -/
def voiceBad (v : List Byte) : Option Nat :=
  if voiceId v = 0xFFFF then some 0 else if voiceMode v > 8 then some 2 else if voiceMicroLen v > 112 then some 4
  else if voiceTables v > 3 then some 5 else none

/-- A route entry (R115). -/
structure RouteEntry where
  kind : Nat
  die : Nat
  column : Nat
  row : Nat
  destQueue : Nat
  port : Nat
  tag : Nat
deriving DecidableEq, Repr

def routeOf (w : Nat) : RouteEntry :=
  ⟨bits w 1 0, bits w 4 2, bits w 9 5, bits w 15 10, bits w 16 16, bits w 22 17, bits w 42 23⟩

/-- Route entry `i` of the voice in force; without a voice every entry is unused. -/
def voiceRoute (v : Option (List Byte)) (i : Nat) : RouteEntry :=
  match v with
  | none => routeOf 0
  | some v => routeOf (leAt v (32 + 8 * i) 8)

/-! ### MAC modes (R119, R222, R225) -/

/-- Plane depth dd of a mode. -/
def modeDepth (m : Nat) : Nat :=
  match m with | 1 => 32 | 2 => 32 | 3 => 64 | 4 => 64 | 5 => 16 | 6 => 16 | 7 => 16 | 8 => 8 | _ => 0

/-- Weight formats a mode accepts. -/
def modeWeights (m : Nat) : List Nat :=
  match m with | 1 => [7] | 2 => [9] | 3 => [10] | 4 => [11] | 5 => [3, 4] | 6 => [8] | 7 => [5, 6] | 8 => [1, 2] | _ => []

/-- Activation formats a mode accepts with a weight format. -/
def modeActs (m wfmt : Nat) : List Nat :=
  match m with
  | 1 => [7] | 2 => [7] | 3 => [7] | 4 => [7] | 5 => [3, 4] | 6 => [8] | 7 => [5, 6] | 8 => [wfmt] | _ => []

/-- Does a mode accumulate in INT48? -/
def modeInt (m : Nat) : Bool := m == 3 || m == 4 || m == 6

/-- Elements to a scale that a weight operand's depth is a multiple of (R152, R222). -/
def depthMultiple (wfmt : Nat) : Nat := if wfmt = 10 ∨ wfmt = 11 then 64 else if wfmt = 1 ∨ wfmt = 2 then 1 else 32

/-! ### Framed streams (R154) -/

/-- 64-byte words of a frame of `n` blocks: scale words, side words, element words. -/
def frameWords (f : Fmt) (n : Nat) : Nat × Nat × Nat :=
  if f.block = 0 then (0, 0, 1)
  else (1, if f = .split4 then ceilDiv (4 * n) 64 else 0, ceilDiv (elemBytes f (f.block * n)) 64)

/-- The elements that a frame of `n` blocks decodes to, each with its scale and its code; FP formats carry no scale (127). -/
def frameElems (f : Fmt) (n : Nat) (ws : List (List Byte)) : List Elem :=
  let (sw, dw, _) := frameWords f n
  let scales := (ws.take sw).flatten
  let sides := ((ws.drop sw).take dw).flatten
  let elems := (ws.drop (sw + dw)).flatten
  let read (i : Nat) : Byte := elems.getD i 0
  if f.block = 0 then
    (List.range (512 / f.width)).map (fun i => ⟨f.decode (elemAt f read i), 127, elemAt f read i⟩)
  else
    (List.range (f.block * n)).map (fun i =>
      let b := i / f.block
      let c := elemAt f read i
      let v := if f = .split4 then splitElem (sideOf (leAt sides (4 * b) 4)) (i % 32) c else f.decode c
      ⟨v, leAt scales b 1, c⟩)

/-- Elements of a frame that its first `k` words give (R227): none before its scale and side words have come. -/
def frameGiven (f : Fmt) (n k : Nat) : Nat :=
  let (a, b, _) := frameWords f n
  if f.block = 0 then (if k = 0 then 0 else 512 / f.width)
  else if k ≤ a + b then 0 else min (f.block * n) ((k - a - b) * 512 / f.width)

/-- Does a frame of SPLIT4 blocks hold a side entry with a duplicate index (R153)? -/
def frameDuplicate (f : Fmt) (n : Nat) (ws : List (List Byte)) : Option Nat :=
  if f = .split4 then
    let sides := ((ws.drop 1).take (ceilDiv (4 * n) 64)).flatten
    (List.range n).find? (fun b => (sideOf (leAt sides (4 * b) 4)).duplicate)
  else none

end Sys2Proof.Machine
end

