-- ==== Sys2Proof/Machine/TileOps.lean ====
section
/-! DEFINITION. Shared operations of the tiles: the grid (R20, R80, R124), halts (R138 to R140), tokens (R132), scratchpad
accesses (R207, R244), queue paths (R126 to R130, R135), and the sequencer's program address (R177, R196). -/

namespace Sys2Proof.Machine

def State.tile (s : State) (t : Nat) : Tile := Table.get Tile.reset s.tiles t
def State.setTile (s : State) (t : Nat) (x : Tile) : State := { s with tiles := Table.set Tile.reset s.tiles t x }
def State.modTile (s : State) (t : Nat) (f : Tile → Tile) : State := s.setTile t (f (s.tile t))

/-! ### The grid -/

def tileDie (t : Nat) : Nat := t / 1152
def tileCol (t : Nat) : Nat := t % 1152 / 36
def tileRow (t : Nat) : Nat := t % 36
def tileAt (d c r : Nat) : Nat := 1152 * d + 36 * c + r
/-- The region of a tile: 72 * die + g (R20, R68). -/
def tileRegion (t : Nat) : Nat := 72 * tileDie t + 8 * (tileRow t / 4) + tileCol t / 4

/-- Virtual rows of a die (R2, R80). -/
def State.virtualRows (s : State) : Nat := if s.fused.gradeB then 34 else 35

/-- Good physical rows of a die, ascending. -/
def State.goodRows (s : State) (d : Nat) : List Nat := (List.range 36).filter (fun r => s.fused.rowGood d r)

/-- The virtual row of a physical row, none for a bad or spare row (R80). -/
def State.virtualRow (s : State) (d row : Nat) : Option Nat :=
  if s.fused.rowGood d row then
    let v := ((List.range row).filter (fun r => s.fused.rowGood d r)).length
    if v < s.virtualRows then some v else none
  else none

/-- A tile of a good row that is no spare. -/
def State.tileUsed (s : State) (t : Nat) : Bool := (s.virtualRow (tileDie t) (tileRow t)).isSome

/-- The physical row of a virtual row. -/
def State.physRow (s : State) (d v : Nat) : Option Nat := (s.goodRows d)[v]?

/-- The neighbour tile of a queue direction 0 to 3 (R124); none where the queue is absent. -/
def State.neighbour (s : State) (t q : Nat) : Option Nat :=
  match s.virtualRow (tileDie t) (tileRow t) with
  | none => none
  | some v =>
    let d := tileDie t
    let c := tileCol t
    let at' (v : Nat) : Option Nat := if v < s.virtualRows then (s.physRow d v).map (fun r => tileAt d c r) else none
    match q with
    | 0 => if v = 0 then none else at' (v - 1)
    | 1 => if c = 31 then none else some (tileAt d (c + 1) (tileRow t))
    | 2 => at' (v + 1)
    | 3 => if c = 0 then none else some (tileAt d (c - 1) (tileRow t))
    | _ => none

/-- Is a queue absent (R124)? -/
def State.queueAbsent (s : State) (t q : Nat) : Bool :=
  decide (q ≥ 6) || (decide (q < 4) && (s.neighbour t q).isNone)

/-- The queue on which a neighbour receives what leaves queue `q`. -/
def opposite (q : Nat) : Nat := match q with | 0 => 2 | 1 => 3 | 2 => 0 | _ => 1

/-- Words that the path behind an out stage holds: a word for each bypass, and 80 across a region boundary (R126). -/
def State.midRoom (s : State) (t q : Nat) : Nat :=
  if q ≥ 4 then 80
  else match s.neighbour t q with
    | none => 0
    | some n =>
      let gap := if q = 0 ∨ q = 2 then max (tileRow t) (tileRow n) - min (tileRow t) (tileRow n) - 1 else 0
      gap + (if tileRegion t = tileRegion n then 0 else 80)

/-! ### Halts (R138 to R140, R203, R204) -/

def cond (h : Halt) (pc detail : Nat) : Cond := ⟨h.code, h.unit, pc, detail % 2 ^ 32⟩
/-- The same, recorded for the vector unit. -/
def cond2 (h : Halt) (pc detail : Nat) : Cond := ⟨h.code, 2, pc, detail % 2 ^ 32⟩

/-- A condition if a test holds. -/
def check (b : Bool) (c : Cond) : List Cond := if b then [c] else []

/-- The condition with the lowest code (R203). -/
def lowest : List Cond → Option Cond
  | [] => none
  | c :: cs => some (cs.foldl (fun a b => if b.code < a.code then b else a) c)

/-- Is the plan in a state in which a tile halt is fatal (R140)? -/
def State.planExecutes (s : State) : Bool :=
  s.planState = .running || s.planState = .resting || s.planState = .stopping

/-! ### Scratchpad (R207, R244, R245, R248, R249) -/

/-- The step of the background test under way on a unit (R245). -/
def State.testOn (s : State) (t u : Nat) : Option TestStep :=
  match (s.tile t).tests.find? (u / 4096) with
  | some st => if st.unit' = u then some st else none
  | none => none

/-- A unit's bytes: from the shadow register while its test step runs. -/
def State.spadUnit (s : State) (t u : Nat) : List Byte :=
  match s.testOn t u with
  | some st => st.shadow
  | none => s.spad.readBytes (2 ^ 20 * t + 32 * u) 32

/-- The 8-byte word at a program address. -/
def State.spadWord (s : State) (t pc : Nat) : Nat := leAt (s.spadUnit t (pc / 4)) (8 * (pc % 4)) 8

/-- A unit written whole: its stored error is gone (R244). A unit under test is written in the shadow register. -/
def State.putUnit (s : State) (t u : Nat) (bytes : List Byte) : State :=
  match s.testOn t u with
  | some st => { s.modTile t (fun x => { x with tests := x.tests.put (u / 4096) { st with shadow := bytes } }) with
      spadErr := s.spadErr.erase (2 ^ 15 * t + u) }
  | none => { s with spad := s.spad.writeBytes (2 ^ 20 * t + 32 * u) bytes, spadErr := s.spadErr.erase (2 ^ 15 * t + u) }

/-- Units under test put back where a whole range of scratchpad is about to be written (R245); `refillTests` takes them out again. -/
def State.flushTests (s : State) : State :=
  s.tiles.foldl (fun s e => e.2.tests.foldl (fun s k => { s with spad := s.spad.writeBytes (2 ^ 20 * e.1 + 32 * k.2.unit') k.2.shadow }) s) s

def State.refillTests (s : State) : State :=
  { s with tiles := s.tiles.map (fun (e : Nat × Tile) => (e.1, { e.2 with
      tests := e.2.tests.map (fun k => (k.1, { k.2 with shadow := s.spad.readBytes (2 ^ 20 * e.1 + 32 * k.2.unit') 32 })) })) }

/-- What a VRUN has written by its halt stands (log entry 20). -/
def commitWrites (t : Nat) (spadW : Table (List Byte)) (s : State) : State :=
  spadW.foldl (fun s e => s.putUnit t e.1 e.2) s

/-- Does a unit lie in the die's secure window (R248)? -/
def State.inWindow (s : State) (d u : Nat) : Bool :=
  let base := 256 * s.get .FLD_SPAD_SECURE_base_blk d
  decide (base ≤ u) && decide (u < base + 256 * s.get .FLD_SPAD_SECURE_size_blk d)

/-- The first unit of a list in the closed secure window (R207, R249). -/
def State.secureHit (s : State) (t : Nat) (us : List Nat) : Option Nat :=
  if s.get .FLD_SPAD_SECURE_open (tileDie t) = 1 then none else us.find? (fun u => s.inWindow (tileDie t) u)

def State.secureConds (s : State) (t pc : Nat) (us : List Nat) : List Cond :=
  match s.secureHit t us with | none => [] | some u => [cond .spadSecure pc u]

/-- What a read of a unit counts and records by the unit's stored error; true for an uncorrectable one (R244). -/
def State.eccRead (s : State) (t u : Nat) : Bool × State :=
  let d := tileDie t
  match s.spadErr.find? (2 ^ 15 * t + u) with
  | none => (false, s)
  | some 1 => (false, s.bump .FLD_SPAD_ERR_ce_count d 1)
  | some _ =>
    (true, (((((s.bump .FLD_SPAD_ERR_ue_count d 1).set .FLD_SPAD_FAIL_column d (tileCol t)).set .FLD_SPAD_FAIL_row d
      (tileRow t)).set .FLD_SPAD_FAIL_unit d u).set .FLD_SPAD_FAIL_kind d 1).set .FLD_SPAD_FAIL_valid d 1)

/-! ### What a halt does (R138 to R140) -/

def Table.over {α : Type} [DecidableEq α] (d : α) (new old : Table α) : Table α :=
  new.foldl (fun acc e => Table.set d acc e.1 e.2) old

def AccRow.reset : AccRow := ⟨false, 0, 0, List.replicate 32 0⟩

/-- The tile's units stop: nothing in flight but tier accesses, which will post no token. -/
def Tile.stopUnits (x : Tile) : Tile :=
  { x with block := none, tokenStall := false, voiceLoad := none, planeLoad := none, mma := none, mmaResults := [], vrun := none
           vrunResults := [], push := [], pull := [], bwrites := [], posts := [], claim := none, cpend := []
           accesses := x.accesses.map (fun a => { a with post := 0, stop := none }) }

/-- The units of tile `t` stop; what VRUNs have written stands. -/
def State.stopTile (s : State) (t : Nat) : State :=
  let x := s.tile t
  let ws := x.vrunResults.map (fun r => r.spadW) ++ (x.vrun.map (fun v => v.spadW)).toList
  (ws.foldl (fun s w => commitWrites t w s) s).modTile t Tile.stopUnits

/-- The halt record (R139, R203). -/
def State.recordHalt (s : State) (t : Nat) (c : Cond) : State :=
  let s := (((s.set .TIL_HALT_REASON_reason t c.code).set .TIL_HALT_REASON_unit t c.unit').set
    .TIL_HALT_REASON_valid t 1).set .TIL_HALT_PC_pc t c.pc
  ((s.set .TIL_HALT_DETAIL_detail t c.detail).set .TIL_HALT_BEAT_LO_beat_lo t s.time.beat).set
    .TIL_HALT_BEAT_HI_beat_hi t (s.time.beat / 2 ^ 32)

/-- A tile halts: the first halt is recorded, and firmware or the fatal path learns of it (R138 to R140, R445). -/
def State.haltTile (s : State) (t : Nat) (c : Cond) : State :=
  if (s.tile t).halted then s
  else
    let s := (s.stopTile t).modTile t (fun x => { x with halted := true })
    let s := s.recordHalt t c
    let s := if c.code ≥ 0xF0 then (s.bump .TEL_HW_HALTS_count 0 1).set .TEL_HW_HALTS_last_die 0 (tileDie t) else s
    if s.planExecutes then
      s.raiseFatal .tileHalt (tileDie t + 2 ^ 3 * tileCol t + 2 ^ 8 * tileRow t + 2 ^ 16 * c.code)
    else if s.get .TIL_CTRL_halt_event_en t = 1 then s.warn .tileHaltIdle
    else s

/-! ### Stalls and wait statistics (R194) -/

def State.nowStall (s : State) : Stall := ⟨s.time.counted, s.time.tick⟩

/-- A wait has ended: its length in beats goes into TIL_WAIT_STAT. -/
def State.waitEnded (s : State) (t : Nat) (st : Stall) : State :=
  let n := s.time.tick - st.beat
  let s := s.peak .TIL_WAIT_STAT_longest_wait t n
  if n > 16 then s.bump .TIL_WAIT_STAT_long_waits t 1 else s

/-- Has a bound expired (R194)? -/
def State.expired (s : State) (st : Stall) (bound : Nat) : Bool := decide (s.time.counted ≥ st.counted + bound)

/-! ### Queue paths -/

def Item.isWord : Item → Bool | .word _ _ _ => true | .flag _ _ => false
def Item.dest : Item → Dest | .word _ _ d => d | .flag _ d => d
def wordCount (l : List Item) : Nat := (l.filter Item.isWord).length

def Tile.outQ (x : Tile) (q : Nat) : OutQueue := Table.get ⟨[], []⟩ x.out q
def Tile.setOut (x : Tile) (q : Nat) (o : OutQueue) : Tile := { x with out := Table.set ⟨[], []⟩ x.out q o }
def Tile.rxQ (x : Tile) (q : Nat) : List RxWord := Table.get [] x.rx q
def Tile.setRx (x : Tile) (q : Nat) (l : List RxWord) : Tile := { x with rx := Table.set [] x.rx q l }

/-- Items move from the out stage to the room behind it, in order; flag sets take none of the room. -/
def settle (room : Nat) : List Item → List Item → OutQueue
  | [], mid => ⟨[], mid⟩
  | i :: rest, mid =>
    if i.isWord && decide (wordCount mid ≥ room) then ⟨i :: rest, mid⟩ else settle room rest (mid ++ [i])

/-- The die network's destination list of an item, if it goes to a tile: key 2 * tile + dn queue. -/
def dnKey : Dest → Option Nat
  | .tile t q => some (2 * t + (q - 4))
  | .link _ _ => none

/-- Room at a destination: its crossing FIFO's 80 entries and its receive buffer's 16 words (R129). -/
def State.dnRoom (s : State) (k : Nat) : Bool :=
  decide (wordCount ((Table.get [] s.dn k).map DnItem.item) + ((s.tile (k / 2)).rxQ (4 + k % 2)).length < 96)

/-- The front items of an out queue towards the die network go where room is reserved, in order; a word without room
waits, and its queue is noted among the waiters (R129). Words for a link stay for their Rim. -/
def State.dnAdvance (s : State) (src : Nat) : List Item → List Item × State
  | [] => ([], s)
  | i :: rest =>
    match dnKey i.dest with
    | none => (i :: rest, s)
    | some k =>
      if i.isWord && !s.dnRoom k then
        let w := Table.get [] s.dnWait k
        (i :: rest, if w.contains src then s else { s with dnWait := Table.set [] s.dnWait k (w ++ [src]) })
      else
        State.dnAdvance { s with dn := Table.set [] s.dn k (Table.get [] s.dn k ++ [⟨src, s.dnSeq, i⟩]), dnSeq := s.dnSeq + 1 } src rest

/-- An out queue moves on: out stage to the room behind it, and towards the die network (R126, R129). A halted tile's out
stage stays (R138). -/
def State.moveOut (s : State) (t q : Nat) : State :=
  let x := s.tile t
  let go (s : State) : State :=
    let o := (s.tile t).outQ q
    let o := if (s.tile t).halted then o else settle (s.midRoom t q) o.stage o.mid
    s.modTile t (fun x => x.setOut q o)
  if q < 4 then go s
  else
    let s := go s
    let (mid, s) := s.dnAdvance (16 * t + q) ((s.tile t).outQ q).mid
    let s := s.modTile t (fun x => x.setOut q ⟨(x.outQ q).stage, mid⟩)
    if x.halted then s else
      let s := go s
      let (mid, s) := s.dnAdvance (16 * t + q) ((s.tile t).outQ q).mid
      s.modTile t (fun x => x.setOut q ⟨(x.outQ q).stage, mid⟩)

/-- Out queues that wait for room at a destination of the die network get it, in order of reservation (R129). -/
def State.dnWake (s : State) (k : Nat) : State :=
  match Table.get [] s.dnWait k with
  | [] => s
  | src :: rest =>
    if s.dnRoom k then ({ s with dnWait := Table.set [] s.dnWait k rest }).moveOut (src / 16) (src % 16) else s

/-- Is the path of an out queue full (R126, R129)? -/
def State.pathFull (s : State) (t q : Nat) : Bool :=
  let o := (s.tile t).outQ q
  let stage := wordCount o.stage
  if q ≥ 4 then decide (stage ≥ 2) && decide (wordCount o.mid ≥ 80)
  else
    match s.neighbour t q with
    | none => true
    | some n =>
      decide (((s.tile n).rxQ (opposite q)).length + wordCount o.mid + stage ≥ 16 + s.midRoom t q + 2)

/-- Something enters an out queue (R126). -/
def State.send (s : State) (t q : Nat) (i : Item) : State :=
  (s.modTile t (fun x => x.setOut q ⟨(x.outQ q).stage ++ [i], (x.outQ q).mid⟩)).moveOut t q

/-- ROUTE_INVALID (R130). -/
def State.routeBad (s : State) (t : Nat) (r : RouteEntry) (forFlag : Bool) : Bool :=
  r.kind == 0 || (r.kind == 2 && r.die == tileDie t)
    || ((r.kind == 1 || r.kind == 2) &&
        (decide (r.row > 35) || (s.virtualRow (if r.kind = 1 then tileDie t else r.die) r.row).isNone))
    || (r.kind == 3 && (decide (r.port > 35) || forFlag))

/-- Where a route entry leads. -/
def routeDest (t : Nat) (r : RouteEntry) : Dest :=
  if r.kind = 3 then .link r.port r.tag
  else .tile (tileAt (if r.kind = 1 then tileDie t else r.die) r.column r.row) (4 + r.destQueue)

/-- Where a push or a flag set on queue `q` goes: the neighbour, or a route entry's destination. -/
def State.destOf (s : State) (t q route : Nat) : Dest :=
  if q < 4 then .tile ((s.neighbour t q).getD 0) (opposite q) else routeDest t (voiceRoute (s.tile t).voice route)

def State.routeConds (s : State) (t q route pc : Nat) (forFlag : Bool) : List Cond :=
  let r := voiceRoute (s.tile t).voice route
  check (decide (q = 4 ∨ q = 5) && s.routeBad t r forFlag) (cond .routeInvalid pc (route + 2 ^ 8 * r.kind))

/-! ### Tokens (R132, R133) -/

/-- A token posted; posting one that is set halts with TOKEN_DOUBLE. -/
def Tile.postNow (x : Tile) (token pc : Nat) : Tile × List Cond :=
  if token = 0 then (x, [])
  else if bit x.board token then (x, [cond .tokenDouble pc token])
  else ({ x with board := x.board + 2 ^ token }, [])

/-- Will an operation in flight set a token on the board (R132)? -/
def Tile.willPost (x : Tile) (tok : Nat) (vrunLocal : VrunOp → Bool) : Bool :=
  x.posts.any (fun p => p.token == tok) || x.accesses.any (fun a => a.post == tok)
    || x.pull.any (fun p => p.post == tok)
    || (match x.mma with | none => false | some m => m.post == tok)
    || (match x.planeLoad with | none => false | some p => p.post == tok)
    || (match x.voiceLoad with | none => false | some p => p.post == tok)
    || (match x.vrun with | none => false | some v => v.post == tok && vrunLocal v)

/-! ### The program address (R177, R180, R196, R215) -/

/-- End of the prologue or of the body (R206's prog_end). -/
def Tile.progEnd (x : Tile) : Nat :=
  match x.prog with
  | none => 0
  | some p => if x.inBody then p.body + p.bodyWords else p.prologue + p.prologueWords

/-- region_end of R206. -/
def Tile.regionEnd (x : Tile) : Nat := match x.loops with | [] => x.progEnd | l :: _ => l.be

/-- What follows an instruction's words under the running ROLLs: the program address, the earliest next issue, the loops.
`t` is the cycle after the last word issued, `next` the earliest next issue without the loops. -/
def rollOn : List Loop → Nat → Nat → Nat → Nat × Nat × List Loop
  | [], pc, _, next => (pc, next, [])
  | l :: ls, pc, t, next =>
    if pc = l.be then
      let t' := max (l.start + l.iter) t
      if l.left > 1 then (l.bs, max t' next, { l with left := l.left - 1, start := t' } :: ls)
      else rollOn ls l.be (t' + l.pad) (max (t' + l.pad) next)
    else (pc, next, l :: ls)

/-- The address at the end of a prologue or body goes on under R177. -/
def Tile.regionOn (x : Tile) : Tile :=
  match x.prog with
  | none => x
  | some p =>
    if x.pc ≠ x.progEnd ∨ x.loops ≠ [] then x
    else if x.inBody then
      let n := x.passes + 1
      if p.repeats = 0 ∨ n < p.repeats then { x with pc := p.body, passes := n } else { x with passes := n, finished := true }
    else { x with pc := p.body, inBody := true }

/-- The sequencer goes past an instruction: to `pc`, with `t` and `next` as for `rollOn`. -/
def Tile.goOn (x : Tile) (pc t next : Nat) : Tile :=
  let (pc', next', loops) := rollOn x.loops pc t next
  ({ x with pc := pc', nextIssue := next', loops := loops }).regionOn

/-- The address of the next instruction to issue: past a blocked one (R203). -/
def Tile.nextPc (x : Tile) : Nat :=
  match x.block with
  | none => x.pc
  | some b => (x.goOn (b.pc + 1) 0 0).pc

/-- A blocking instruction is released in cycle `r`: it posts then, and the next instruction issues a cycle later (R181,
R199). -/
def Tile.release (x : Tile) (b : Blocked) (r : Nat) : Tile :=
  ({ x with block := none, posts := if b.post = 0 then x.posts else x.posts ++ [Post.mk b.post r b.pc false] }).goOn
    (b.pc + 1) (r + 1) (r + 1)

end Sys2Proof.Machine
end

