-- ==== Sys2Proof/Machine/Engine.lean ====
section
/-! DEFINITION. What a tile's units do in one local tile cycle: queue engines (R217, R218), voice load (R216), MAC array
(R164 to R167, R222 to R227), vector unit (R228 to R234) and canary (R169 to R171), posts (R199); and the passing of a
tile's cycles up to a given one. -/

namespace Sys2Proof.Machine

/-- A cycle under way: the state, the conditions met, banks claimed on port A, units written through port A, banks claimed on
port B. -/
structure Cycle where
  s : State
  conds : List Cond
  banks : List Nat
  aWrites : List Nat
  banksB : List Nat
deriving DecidableEq, Repr

def Cycle.mod (x : Cycle) (t : Nat) (f : Tile → Tile) : Cycle := { x with s := x.s.modTile t f }
def Cycle.add (x : Cycle) (cs : List Cond) : Cycle := { x with conds := x.conds ++ cs }

/-- One claim on port A of a unit's bank (R202, R207). -/
def Cycle.claim (x : Cycle) (pc u : Nat) : Cycle :=
  let b := u / 4096
  if x.banks.contains b then x.add [cond .portABusy pc b] else { x with banks := b :: x.banks }

/-- A read of a unit with its check bits (R244): port 0 is A, 1 is B. -/
def Cycle.ecc (x : Cycle) (t port pc u : Nat) : Cycle :=
  let (bad, s) := x.s.eccRead t u
  ({ x with s := s }).add (check bad (cond .spadUncorrectable pc (u + 2 ^ 16 * port)))

def Cycle.readA (x : Cycle) (t pc u : Nat) : List Byte × Cycle := (x.s.spadUnit t u, (x.claim pc u).ecc t 0 pc u)
/-- A queue engine's claim on port B, before which every other user of the port gives way (R241). -/
def Cycle.claimB (x : Cycle) (u : Nat) : Cycle := { x with banksB := u / 4096 :: x.banksB }
def Cycle.readB (x : Cycle) (t pc u : Nat) : List Byte × Cycle := (x.s.spadUnit t u, (x.claimB u).ecc t 1 pc u)

/-- Units read through port A, in order. -/
def Cycle.readAs (x : Cycle) (t pc : Nat) : List Nat → List (Nat × List Byte) × Cycle
  | [] => ([], x)
  | u :: us =>
    let (b, x) := x.readA t pc u
    let (bs, x) := x.readAs t pc us
    ((u, b) :: bs, x)

/-! ### PUSH (R217) and PULL (R218) -/

/-- A stall that has just begun is dated to the present machine beat (R194). -/
def beginStall (s : State) (st : Option Stall) : Option Stall := some (st.getD s.nowStall)

/-- One cycle of a PUSH; none when its last word has gone. -/
def pushCycle (t c : Nat) (x : Cycle) (p : PushOp) : Cycle × Option PushOp :=
  match p.units with
  | [] => (x, none)
  | u :: us =>
    if c < p.next then (x, some p)
    else if x.s.pathFull t p.q then (x, some { p with stall := beginStall x.s p.stall })
    else
      let (b0, x) := x.readB t p.pc u
      let (b1, x) := x.readB t p.pc (u + 1)
      let s := match p.stall with | none => x.s | some st => x.s.waitEnded t st
      let tag := if us.isEmpty then p.post else 0
      ({ x with s := s.send t p.q (.word (b0 ++ b1) tag p.dest) },
       if us.isEmpty then none else some { p with units := us, next := c + 1, stall := none })

/-- The tag rules of R132 for a word taken by an operation that expects a token on its last word. -/
def tagConds (expect pc tag index : Nat) (last : Bool) : List Cond :=
  if expect = 0 then []
  else if last then
    (if tag = 0 then [cond .tokenAbsent pc expect]
     else if tag ≠ expect then [cond .tokenMismatch pc (expect + 2 ^ 4 * tag)] else [])
  else check (tag ≠ 0) (cond .tokenEarly pc (tag + 2 ^ 16 * index))

/-- A word taken from an in queue's receive buffer: on a die-network queue that makes room for the next reservation (R129). -/
def Cycle.take (x : Cycle) (t q : Nat) : Option (RxWord × Cycle) :=
  match (x.s.tile t).rxQ q with
  | [] => none
  | w :: ws =>
    let x := x.mod t (fun y => y.setRx q ws)
    some (w, if q < 4 then x else { x with s := x.s.dnWake (2 * t + (q - 4)) })

/-- One cycle of a PULL. -/
def pullCycle (t c : Nat) (x : Cycle) (p : PullOp) : Cycle × Option PullOp :=
  match p.units[p.index]? with
  | none => (x, none)
  | some u =>
    if c < p.next then (x, some p)
    else
      match x.take t p.q with
      | none => (x, some { p with stall := beginStall x.s p.stall })
      | some (w, x) =>
        let last := p.index + 1 == p.units.length
        let x := x.add (tagConds p.expect p.pc w.tag p.index last)
        let x := match p.stall with | none => x | some st => { x with s := x.s.waitEnded t st }
        let x := x.mod t (fun y => { y with
          bwrites := y.bwrites ++ [⟨u, w.bytes.take 32, c + 1, p.pc⟩, ⟨u + 1, w.bytes.drop 32, c + 1, p.pc⟩]
          posts := if last && p.post != 0 then y.posts ++ [⟨p.post, c + 2, p.pc, false⟩] else y.posts })
        (x, if last then none else some { p with index := p.index + 1, next := c + 1, stall := none })

/-- Every queue engine of one kind runs a cycle. -/
def runOps {α : Type} (f : Cycle → α → Cycle × Option α) : List α → Cycle → List α × Cycle
  | [], x => ([], x)
  | o :: os, x =>
    let (x, r) := f x o
    let (rs, x) := runOps f os x
    (r.toList ++ rs, x)

/-- A unit written through port B; one that meets a port-A write of its unit is discarded and halts (R202, R236). -/
def Cycle.writeB (x : Cycle) (t pc u : Nat) (bytes : List Byte) : Cycle :=
  let x := x.claimB u
  if x.aWrites.contains u then x.add [cond .spadPortConflict pc u] else { x with s := x.s.putUnit t u bytes }

/-- PULLs' writes that land in this cycle. -/
def bwriteCycle (t c : Nat) (x : Cycle) : Cycle :=
  let due := (x.s.tile t).bwrites.filter (fun w => decide (w.cycle ≤ c))
  let x := x.mod t (fun y => { y with bwrites := y.bwrites.filter (fun w => decide (w.cycle > c)) })
  due.foldl (fun x w => x.writeB t w.pc w.unit' w.bytes) x

/-! ### The access engine's writes (R235, R236, R239, R241) -/

/-- Units of an access written in this cycle, one for each bank whose port B is free; the others stay. -/
def landUnits (t pc : Nat) : List (Nat × List Byte) → Cycle → List (Nat × List Byte) × Cycle
  | [], x => ([], x)
  | w :: ws, x =>
    if x.banksB.contains (w.1 / 4096) then
      let (left, x) := landUnits t pc ws x
      (w :: left, x)
    else landUnits t pc ws (x.writeB t pc w.1 w.2)

/-- An access whose units are on their way into scratchpad writes those it can. -/
def landAccess (t : Nat) (x : Cycle) (a : TierAccess) : Cycle × Option TierAccess :=
  match a.landing with
  | none => (x, some a)
  | some ws =>
    let (left, x) := landUnits t a.pc ws x
    (x, some { a with landing := some left })

/-- Is a STORE or SCATTER of a tier outstanding? -/
def Tile.storesOut (x : Tile) (tier : Nat) : Bool := x.accesses.any (fun a => a.store && a.tier == tier)

/-- A fence whose last covered access has completed is released (R239). -/
def Tile.fenceRelease (x : Tile) (e : Nat) : Tile :=
  match x.block with
  | some b =>
    match b.wait with
    | .fence tier => if x.storesOut tier || x.halted then x else x.release b e
    | _ => x
  | none => x

/-- Accesses with nothing left to write are complete in cycle `c`: they post, and a fence they were the last to hold is
released. -/
def Tile.completeAccesses (x : Tile) (c : Nat) : Tile :=
  let ended := x.accesses.filter (fun a => a.landing == some [])
  if ended.isEmpty then x
  else
    ({ x with
      accesses := x.accesses.filter (fun a => a.landing != some [])
      posts := x.posts ++ (ended.filter (fun (a : TierAccess) => a.post ≠ 0)).map (fun (a : TierAccess) => Post.mk a.post c a.pc false) }).fenceRelease c

/-! ### Voice load (R116, R118, R216) -/

def voiceCycle (t c : Nat) (x : Cycle) : Cycle :=
  match (x.s.tile t).voiceLoad with
  | none => x
  | some v =>
    let n := v.got.length / 32
    if c < v.issue + n ∨ n ≥ 256 then x
    else
      let (b, x) := x.readA t v.pc (v.image + n)
      let img := v.got ++ b
      x.mod t (fun y => { y with voiceLoad := some { v with got := img } })

/-- At 256 cycles after its issue a voice load ends: a bad descriptor halts, a good voice is in force (R118, R216). -/
def voiceStart (t c : Nat) (x : Cycle) : Cycle :=
  match (x.s.tile t).voiceLoad with
  | none => x
  | some v =>
    if c < v.issue + 256 then x
    else
      match voiceBad v.got with
      | some byte => x.add [cond .voiceInvalid v.pc byte]
      | none =>
        let x := x.mod t (fun y => { y with
          voice := some v.got, voiceLoad := none, canaryN := 0, canaryFrom := none
          posts := if v.post ≠ 0 then y.posts ++ [⟨v.post, v.issue + 256, v.pc, false⟩] else y.posts })
        if voiceCanary v.got > 9 then { x with s := x.s.set .TIL_NARROW_STATUS_canary_rate_bad t 1 } else x

/-! ### Weight planes (R151, R152, R165, R222, R223) -/

/-- Byte interval of column `j`'s elements in the element array. -/
def planeBytes (f : Fmt) (d k0 dd j : Nat) : Nat × Nat :=
  let n := j * d + k0
  if f = .tern then (n / 5, (n + dd - 1) / 5) else (n * f.width / 8, ((n + dd) * f.width + 7) / 8 - 1)

/-- Block of column `j` in the scale or side array. -/
def planeBlock (f : Fmt) (d k0 j : Nat) : Nat := (j * d + k0) / (if f.block = 0 then 1 else f.block)

/-- A number put at its place in an ascending list without repeats. -/
def insertUnit (u : Nat) : List Nat → List Nat
  | [] => [u]
  | v :: vs => if u < v then u :: v :: vs else if u = v then v :: vs else v :: insertUnit u vs

/-- Distinct units, ascending. -/
def sortedUnits (us : List Nat) : List Nat := us.foldl (fun l u => insertUnit u l) []

/-- Units of the element, scale and side arrays that a plane load reads, each ascending. -/
def planeUnits (f : Fmt) (d k0 dd : Nat) (b : Bases) : List Nat × List Nat × List Nat :=
  let cols := List.range 32
  let elems := sortedUnits (cols.flatMap (fun j =>
    let (lo, hi) := planeBytes f d k0 dd j
    (List.range (hi / 32 + 1 - lo / 32)).map (fun i => b.elem + lo / 32 + i)))
  let scales := if f.block = 0 then [] else sortedUnits (cols.map (fun j => b.scale + planeBlock f d k0 j / 32))
  let sides := if f = .split4 then sortedUnits (cols.map (fun j => b.side + 4 * planeBlock f d k0 j / 32)) else []
  (elems, scales, sides)

/-- A byte of an array whose units were read. -/
def arrayByte (units : List (Nat × List Byte)) (base i : Nat) : Byte :=
  match units.find? (fun e => e.1 = base + i / 32) with
  | none => 0
  | some e => e.2.getD (i % 32) 0

/-- The plane that a load's units decode to. -/
def decodePlane (f : Fmt) (p : PlaneLoad) : Plane :=
  let dd := modeDepth p.mode
  let got := p.units.zip p.got
  let elems := got.take p.elemUnits
  let scales := (got.drop p.elemUnits).take p.scaleUnits
  let sides := got.drop (p.elemUnits + p.scaleUnits)
  let col (j : Nat) : List Val := (List.range dd).map (fun k =>
    let n := j * p.depth + p.k0 + k
    let c := elemAt f (arrayByte elems p.elemBase) n
    if f = .split4 then
      splitElem (sideOf (ofLE ((List.range 4).map (fun i => arrayByte sides p.sideBase (4 * (n / 32) + i))))) (n % 32) c
    else f.decode c)
  { fmt := p.fmt, mode := p.mode, depth := p.depth, k0 := p.k0, elems := (List.range 32).map col
    scales := (List.range 32).map (fun j =>
      if f.block = 0 then 127 else (arrayByte scales p.scaleBase (planeBlock f p.depth p.k0 j)).toNat) }

/-- What a unit just read shows wrong: a TERN byte above 242, or a side entry with a duplicate index (R153, R155). -/
def planeFault (f : Fmt) (p : PlaneLoad) (i u : Nat) (b : List Byte) : List Cond :=
  let dd := modeDepth p.mode
  if f = .tern ∧ i < p.elemUnits then
    let bad := (List.range 32).find? (fun k =>
      let off := 32 * (u - p.elemBase) + k
      decide ((b.getD k 0).toNat > 242) && (List.range 32).any (fun j =>
        let (lo, hi) := planeBytes f p.depth p.k0 dd j
        decide (lo ≤ off) && decide (off ≤ hi)))
    match bad with | none => [] | some k => [cond .ternCodeInvalid p.pc (u + 2 ^ 16 * k)]
  else if f = .split4 ∧ i ≥ p.elemUnits + p.scaleUnits then
    check ((List.range 32).any (fun j =>
      let off := 4 * planeBlock f p.depth p.k0 j
      p.sideBase + off / 32 == u && (sideOf (leAt b (off % 32) 4)).duplicate)) (cond .outlierDuplicate p.pc u)
  else []

def planeCycle (t c : Nat) (x : Cycle) : Cycle :=
  match (x.s.tile t).planeLoad with
  | none => x
  | some p =>
    let f := (Fmt.ofCode p.fmt).getD .mxfp4
    let i := p.got.length
    match p.units[i]? with
    | none => if c + 1 ≥ p.next then x.mod t (fun y => { y with planeLoad := none }) else x
    | some u =>
      if c < p.next then x
      else
        let (b, x) := x.readA t p.pc u
        let p := { p with got := p.got ++ [b], next := c + 1 }
        let fault := planeFault f p i u b
        let x := x.add fault
        if i + 1 < p.units.length then x.mod t (fun y => { y with planeLoad := some p })
        else
          x.mod t (fun y => { y with
            planes := if fault.isEmpty then y.planes.set p.plane (some (decodePlane f p)) else y.planes
            planeLoad := some { p with next := c + 5 }
            posts := if p.post ≠ 0 then y.posts ++ [⟨p.post, c + 5, p.pc, true⟩] else y.posts })

/-! ### The MAC array (R164 to R168, R226, R227) -/

def countOverflow (t n : Nat) (s : State) : State :=
  if n = 0 then s else (s.bump .TIL_NAN_COUNT_acc_overflow t n).set .TIL_NARROW_STATUS_acc_ovf_seen t 1

/-- The exact sum of one row's products in a column (R164). -/
def fpDot (sw : Nat) (ws : List Val) (acts : List (Val × Nat)) : Val :=
  (ws.zip acts).foldl (fun acc p => acc.add ((scaled p.1 sw).mul (scaled p.2.1 p.2.2))) .zero

/-- One rounding into an FP32 entry; whether it overflowed (R164). -/
def fpAdd (old : Int) (v : Val) : Int × Nat :=
  let sum := (fp old.toNat).add v
  let r := roundNe .fp32 sum
  ((Fmt.fp32.encode r : Int), ofBool (r.isInf && !sum.isInf))

/-- A decoded element as the integer of R167, at exponent `e`. -/
def asInt (e : Int) : Val → Int
  | .fin n m k => atExp e n m k
  | _ => 0

/-- One block's contribution to an INT48 entry and its poison (R167). -/
def intBlock (mode : Nat) (x : Int) (sw sa : Nat) (ws : List Val) (acts : List Val) : Int × Bool :=
  let we : Int := if mode = 6 then -6 else 0
  let ae : Int := if mode = 6 then -6 else -1
  let c : Int := if mode = 6 then -12 else -1
  let p := (ws.zip acts).foldl (fun acc q => acc + asInt we q.1 * asInt ae q.2) 0
  (alignPart p ((sa : Int) - 127 + ((sw : Int) - 127) + c - x), sa == 0xFF || sw == 0xFF)

/-- Consecutive pieces of a list. -/
def chunks {α : Type} (n : Nat) (k : Nat) (l : List α) : List (List α) := (List.range k).map (fun i => (l.drop (n * i)).take n)

/-- One INT48 entry after a row's products: value, poison, clamps. -/
def intAdd (mode : Nat) (x : Int) (sw : Nat) (old : Int) (ws : List Val) (acts : List (Val × Nat)) : Int × Bool × Nat :=
  let k := ceilDiv acts.length 32
  let parts := ((chunks 32 k ws).zip (chunks 32 k acts)).map (fun q =>
    intBlock mode x sw ((q.2.head?.map Prod.snd).getD 127) q.1 (q.2.map Prod.fst))
  let (v, cl) := sat48 (old + parts.foldl (fun a q => a + q.1) 0)
  (v, parts.any Prod.snd, ofBool cl)

/-- A row's products added into an accumulator row: the row and the overflows counted. -/
def addRow (pl : Plane) (init : Bool) (mode : Nat) (x : Int) (acts : List (Val × Nat)) (row : AccRow) : AccRow × Nat :=
  let isInt := modeInt mode
  let row := if init then ⟨isInt, if isInt then x else 0, 0, List.replicate 32 0⟩ else row
  let cols := ((row.vals.zip pl.elems).zip pl.scales).map (fun q =>
    if isInt then
      let (v, p, o) := intAdd mode row.x q.2 q.1.1 q.1.2 acts
      (v, p, o)
    else
      let (v, o) := fpAdd q.1.1 (fpDot q.2 q.1.2 acts)
      (v, false, o))
  let pois := ((List.range 32).zip cols).foldl (fun a q => if q.2.2.1 && !bit a q.1 then a + 2 ^ q.1 else a) row.poison
  ({ row with poison := pois, vals := cols.map Prod.fst }, cols.foldl (fun a q => a + q.2.2) 0)

/-- Elements to a word of a stream without frames. -/
def perWord (f : Fmt) : Nat := 512 / f.width

/-- Words that `total` elements of a stream take, the last frame whole (R154; log entry 22). -/
def streamWords (f : Fmt) (n total : Nat) : Nat :=
  if f.block = 0 then ceilDiv total (perWord f)
  else let (a, b, c) := frameWords f n; ceilDiv total (f.block * n) * (a + b + c)

/-- A stream not begun. -/
def InStream.none' : InStream := { words := [], given := 0, elems := [], taken := 0 }

/-- A word fed to a framed stream: it gives the elements that lie whole in the words come so far (R227). -/
def InStream.feed (f : Fmt) (n : Nat) (w : List Byte) (st : InStream) : InStream :=
  let ws := st.words ++ [w]
  let (a, b, c) := frameWords f n
  let total := a + b + c
  let given := frameGiven f n ws.length
  let new := ((frameElems f n (ws ++ List.replicate (total - ws.length) (zeros 64))).take given).drop st.given
  if ws.length < total then { words := ws, given := given, elems := st.elems ++ new, taken := st.taken + 1 }
  else { words := [], given := 0, elems := st.elems ++ new, taken := st.taken + 1 }

/-- Row `k`'s stream bytes in scratchpad: units of elements and of scales by their index (R226). -/
def rowIndices (f : Fmt) (d k0 dd k : Nat) : List Nat × List Nat :=
  let n := k * d + k0
  let lo := n * f.width / 8 / 32
  let hi := (((n + dd) * f.width + 7) / 8 - 1) / 32
  let sl := n / 32 / 32
  let sh := (n + dd - 1) / 32 / 32
  ((List.range (hi + 1 - lo)).map (· + lo), if f.block = 0 then [] else (List.range (sh + 1 - sl)).map (· + sl))

/-- Row `k`'s activations from the units read: element `i` of a stream lies in unit `i` of the pattern. -/
def rowActs (f : Fmt) (d k0 dd k : Nat) (elem scale : Nat → Byte) : List (Val × Nat) :=
  (List.range dd).map (fun i =>
    let n := k * d + k0 + i
    (f.decode (elemAt f elem n), if f.block = 0 then 127 else (scale (n / 32)).toNat))

/-- A row enters the array: it is added into its accumulator row. -/
def enterRow (t : Nat) (m : MmaOp) (pl : Plane) (acts : List (Val × Nat)) (x : Cycle) : Cycle :=
  let r := m.accBase + m.row
  let (row, o) := addRow pl m.init m.mode m.x acts (Table.get AccRow.reset (x.s.tile t).acc r)
  let x := x.mod t (fun y => { y with acc := Table.set AccRow.reset y.acc r row })
  { x with s := countOverflow t o x.s }

/-- The MMA after a cycle in which it has nothing left: its results are visible 11 cycles after its last row (R120). -/
def mmaDone (t c : Nat) (m : MmaOp) (x : Cycle) : Cycle :=
  x.mod t (fun y => { y with
    mma := none
    mmaResults := y.mmaResults ++ [⟨m.accBase, m.accBase + m.rows - 1, c + 11, m.post, m.pc⟩]
    posts := if m.post ≠ 0 then y.posts ++ [⟨m.post, c + 11, m.pc, true⟩] else y.posts })

/-- A row of an MMA whose rows come from scratchpad. -/
def mmaRow (t c : Nat) (m : MmaOp) (pl : Plane) (x : Cycle) : Cycle :=
  let f := (Fmt.ofCode m.afmt).getD .mxfp4
  let dd := modeDepth m.mode
  let (iu, si) := rowIndices f pl.depth pl.k0 dd m.row
  let (got, x) := x.readAs t m.pc
    (iu.map (fun i => m.elems.getD i 0) ++ si.map (fun i => m.scales.getD i 0)).eraseDups
  let at' (units : List Nat) (b : Nat) : Byte := arrayByte got (units.getD (b / 32) 0) (b % 32)
  let x := enterRow t m pl (rowActs f pl.depth pl.k0 dd m.row (at' m.elems) (at' m.scales)) x
  if m.row + 1 = m.rows then mmaDone t c m x
  else x.mod t (fun y => { y with mma := some { m with row := m.row + 1, next := c + 1 } })

/-- A word of the in queue that feeds an MMA is taken, where there is one and it needs more. -/
def mmaFeed (t q n total : Nat) (m : MmaOp) (x : Cycle) : Bool × MmaOp × Cycle :=
  if m.stream.taken < total then
    match x.take t q with
    | none => (false, m, x)
    | some (w, x) =>
      let x := x.add (tagConds m.expect m.pc w.tag m.stream.taken (m.stream.taken + 1 == total))
      let x := match m.stall with | none => x | some st => { x with s := x.s.waitEnded t st }
      (true, { m with stream := m.stream.feed ((Fmt.ofCode m.afmt).getD .mxfp4) n w.bytes, stall := none }, x)
  else (false, m, x)

/-- A row of an MMA whose rows come from an in queue enters the array, where its elements have come. -/
def mmaEnter (t : Nat) (m : MmaOp) (pl : Plane) (x : Cycle) : Bool × MmaOp × Cycle :=
  let dd := modeDepth m.mode
  if decide (m.row < m.rows) && decide (m.stream.elems.length ≥ dd) then
    (true, { m with row := m.row + 1, stream := { m.stream with elems := m.stream.elems.drop dd } },
      enterRow t m pl ((m.stream.elems.take dd).map (fun e => (e.val, e.scale))) x)
  else (false, m, x)

/-- A cycle of an MMA whose rows come from an in queue. -/
def mmaStream (t c q n : Nat) (m : MmaOp) (pl : Plane) (x : Cycle) : Cycle :=
  let total := streamWords ((Fmt.ofCode m.afmt).getD .mxfp4) n (m.rows * modeDepth m.mode)
  let fed := mmaFeed t q n total m x
  let ent := mmaEnter t fed.2.1 pl fed.2.2
  let m := ent.2.1
  let x := ent.2.2
  if m.row = m.rows ∧ m.stream.taken ≥ total then mmaDone t c m x
  else
    let m := if ent.1 || fed.1 then m else { m with stall := beginStall x.s m.stall }
    x.mod t (fun y => { y with mma := some { m with next := c + 1 } })

def mmaCycle (t c : Nat) (x : Cycle) : Cycle :=
  match (x.s.tile t).mma with
  | none => x
  | some m =>
    if c < m.next then x
    else
      match ((x.s.tile t).planes[m.plane]?).join with
      | none => x
      | some pl =>
        match m.queue with
        | none => mmaRow t c m pl x
        | some (q, n, _) => mmaStream t c q n m pl x

/-! ### The vector unit (R230 to R234) -/

/-- A lane's value, exact, and its FP32 bits. -/
structure Lane where
  val : Val
  bits : Nat
deriving DecidableEq, Repr

def laneOf (b : Nat) : Lane := ⟨fp b, b⟩
def laneOfVal (v : Val) : Lane := ⟨v, toFp v⟩

/-- VMAX and VMIN (R233): +0 counts above -0. -/
def pick (larger : Bool) (a b : Lane) : Lane :=
  if a.val.isNan || b.val.isNan then laneOf qnan32
  else
    let negZ (v : Val) : Bool := match v with | .fin n 0 _ => n | _ => false
    let below (u v : Lane) : Bool := Val.lt u.val v.val || (u.val.isZero && v.val.isZero && negZ u.val && !negZ v.val)
    if larger then (if below a b then b else a) else (if below b a then b else a)

/-- A value rounded into an FP32 lane. -/
def rounded (v : Val) : Nat := toFp v

/-- The lane result of a micro-op that works lane by lane (R233). -/
def laneResult (v : List Byte) (m : Micro) (a b c : Lane) : Nat :=
  match m.opcode with
  | 0x80 => a.bits
  | 0x81 => rounded (a.val.add b.val)
  | 0x82 => rounded (a.val.add b.val.neg)
  | 0x83 => rounded (a.val.mul b.val)
  | 0x84 => rounded ((a.val.mul b.val).add c.val)
  | 0x85 => rounded (pick true a b).val
  | 0x86 => rounded (pick false a b).val
  | 0x87 => a.bits % 2 ^ 31
  | 0x88 => if c.val.isZero then b.bits else a.bits
  | 0x90 => tableEval (voiceLo v m.table) (voiceInvW v m.table) (voiceTableA v m.table) (voiceTableB v m.table) a.bits
  | _ => a.bits

/-- The results of a micro-op other than VCVT in the 64 lanes (R233). -/
def lanesResult (v : List Byte) (m : Micro) (as bs cs : List Lane) : List Nat :=
  match m.opcode with
  | 0xA0 => List.replicate 64 (rounded (as.foldl (fun s l => s.add l.val) .zero))
  | 0xA1 => List.replicate 64 (rounded ((as.drop 1).foldl (pick true) (as.headD (laneOf 0))).val)
  | 0xA2 => List.replicate 64 (rounded ((as.drop 1).foldl (pick false) (as.headD (laneOf 0))).val)
  | _ => (List.range 64).map (fun l =>
      laneResult v m (as.getD l (laneOf 0)) (bs.getD l (laneOf 0)) (cs.getD l (laneOf 0)))

/-- An accumulator row read as FP32 words: entries and overflows (R168). -/
def accRead (row : AccRow) : List Nat × Nat :=
  let es := ((List.range 32).zip row.vals).map (fun q =>
    if !row.int48 then (q.2.toNat, 0)
    else if bit row.poison q.1 then (qnan32, 0)
    else
      let r := roundNe .fp32 (ofDyadic q.2 row.x)
      (Fmt.fp32.encode r, ofBool r.isInf))
  (es.map Prod.fst, es.foldl (fun a e => a + e.2) 0)

/-- 64 values of a format from the bytes of one pass (R231). -/
def unpackPass (f : Fmt) (bytes : List Byte) : List Lane :=
  if f = .fp32 then (List.range 64).map (fun i => laneOf (leAt bytes (4 * i) 4))
  else if f.block = 0 then (List.range 64).map (fun i => laneOfVal (f.decode (leAt bytes (2 * i) 2)))
  else (frameElems f 2 (chunks 64 (bytes.length / 64) bytes)).map (fun e => laneOfVal (scaled e.val e.scale))

/-- The words of one frame of blocks: scale word, side words, element words (R154). -/
def frameBytes (f : Fmt) (blocks : List (Nat × List Nat × Nat)) : List (List Byte) :=
  let (_, dw, ew) := frameWords f blocks.length
  let side := padTo (64 * dw) ((blocks.map (fun b => toLE 4 b.2.2)).flatten)
  let elems := padTo (64 * ew) (packElems f ((blocks.map (fun b => b.2.1)).flatten))
  padTo 64 (blocks.map (fun b => BitVec.ofNat 8 b.1)) :: (chunks 64 dw side ++ chunks 64 ew elems)

/-- A padding block (R231). -/
def paddingBlock (f : Fmt) : Nat × List Nat × Nat := (0, List.replicate f.block 0, 0)

/-- Formats whose blocks the canary samples (R169). -/
def sampledFmt (f : Fmt) : Bool := f = .mxfp4 || f = .split4 || f = .e3m2 || f = .e2m3 || f = .b3

/-- Is a div the largest since the last read (R174)? It is compared exactly; none is infinity. -/
def worse (d : Option (Val × Val)) : Option (Option (Val × Val)) → Bool
  | none => true
  | some none => false
  | some (some o) => match d with | none => true | some n => Val.lt (o.1.mul n.2) (n.1.mul o.2)

/-- The canary looks at an output block made in cycle `c` (R169 to R171, R213). -/
def canaryBlock (t c : Nat) (f : Fmt) (xs : List Val) (b : Block) (s : State) : State :=
  let x := s.tile t
  let rate := (x.voice.map voiceCanary).getD 0
  let byRate := decide (1 ≤ rate) && decide (rate ≤ 9) && (x.canaryN + x.phase) % 2 ^ (rate + 3) == 0
  let asked := match x.canaryFrom with | none => false | some e => decide (e ≤ c)
  let s := s.setTile t { x with canaryN := x.canaryN + 1, canaryFrom := if asked then none else x.canaryFrom }
  if !(byRate || asked) then s
  else
    let (z, _) := toMx false .e4m3 0 xs ⟨[], 0⟩
    let d := canaryDiv b z
    let w := canaryWorst d
    let s := s.bump .TIL_CANARY_CHECKED_canary_checked t 1
    let s := if worse d (s.tile t).worst then
        ((s.set .TIL_CANARY_WORST_worst_div t w).set .TIL_CANARY_WORST_worst_format t f.code).modTile t
          (fun x => { x with worst := some d })
      else s
    if canaryDiverged (s.get .TIL_CANARY_CFG_threshold_t t) d then
      let s := (s.bump .TIL_CANARY_DIVERGED_canary_diverged t 1).set .TIL_NARROW_STATUS_canary_div_seen t 1
      let m := s.time.beat / 16
      if s.get .TIL_CANARY_CFG_canary_event_en t = 1 ∧ (s.tile t).canaryMeasure ≠ some m then
        (s.modTile t (fun x => { x with canaryMeasure := some m })).emit (.firmware 171 t)
      else s
    else s

/-- What conversions count (R156, R161, R172). -/
def countConv (t sats nans : Nat) (s : State) : State :=
  let s := if sats = 0 then s else (s.bump .TIL_SAT_COUNT_sat_count t sats).set .TIL_NARROW_STATUS_sat_seen t 1
  if nans = 0 then s else (s.bump .TIL_NAN_COUNT_nan_count t nans).set .TIL_NARROW_STATUS_nan_seen t 1

/-- VCVT to FP32, BF16 or FP16: element codes (R160, R234). -/
def vcvtPlain (t : Nat) (f : Fmt) (as : List Lane) (s : State) : List Nat × State :=
  if f = .fp32 then (as.map (fun l => if l.val.isNan then qnan32 else l.bits), s)
  else
    let x := s.tile t
    let sr := (x.voice.map voiceRound).getD false
    let step (acc : List Nat × Conv) (p : Nat × Lane) : List Nat × Conv :=
      let (e, c) := convWide sr f p.1 p.2.val acc.2
      (acc.1 ++ [e], c)
    let (codes, c) := ((List.range 64).zip as).foldl step ([], ⟨x.lanes, 0⟩)
    (codes, countConv t c.sats 0 (s.setTile t { x with lanes := c.lanes }))

/-- VCVT of one 32-lane half to a block (R161, R162, R234), with its counters and the canary. -/
def vcvtBlock (t c : Nat) (f : Fmt) (j0 : Nat) (as : List Lane) (s : State) : Block × State :=
  let x := s.tile t
  let sr := (x.voice.map voiceRound).getD false
  let xs := as.map Lane.val
  let (b, k) := if f = .split4 then toSplit4 sr j0 xs ⟨x.lanes, 0⟩ else toMx sr f j0 xs ⟨x.lanes, 0⟩
  let s := countConv t k.sats (ofBool (b.scale == 0xFF)) (s.setTile t { x with lanes := k.lanes })
  (b, if sampledFmt f then canaryBlock t c f xs b s else s)

/-- The 64 lanes of a source that is no queue, and the cycle after its read (R230, R231). -/
def sourceLanes (t : Nat) (v : VrunOp) (m : Micro) (sel : Nat) (x : Cycle) : List Lane × Cycle :=
  let y := x.s.tile t
  if sel < 16 then ((Table.get (List.replicate 64 0) y.vregs sel).map laneOf, x)
  else if sel = 0x10 then
    let row (r : Nat) : AccRow := Table.get AccRow.reset (Table.over AccRow.reset v.accW y.acc) r
    let (a, o1) := accRead (row (2 * v.pass))
    let (b, o2) := accRead (row (2 * v.pass + 1))
    ((a ++ b).map laneOf, { x with s := countOverflow t (o1 + o2) x.s })
  else if sel = 0x11 then
    let f := (Fmt.ofCode m.srcFmt).getD .fp32
    let u := unitsPerPass m.srcFmt
    let us := (((descOf m.word).units).drop (u * v.pass)).take u
    let (got, x) := x.readAs t v.pc us
    let bytes := (got.map (fun e => (v.spadW.find? e.1).getD e.2)).flatten
    let dup := if f = .split4 then frameDuplicate f 2 (chunks 64 (bytes.length / 64) bytes) else none
    (unpackPass f bytes, x.add (match dup with | none => [] | some _ => [cond2 .outlierDuplicate v.pc (us.getD 2 0)]))
  else if sel = 0x18 then (List.replicate 64 (laneOf 0), x)
  else ((List.range 64).map (fun l => laneOfVal (.fin false l 0)), x)

/-- Bytes written to scratchpad in a pass: claimed on port A, and visible at the result cycle (R229, R231). -/
def writePass (t : Nat) (v : VrunOp) (m : Micro) (bytes : List Byte) (x : Cycle) : VrunOp × Cycle :=
  let u := unitsPerPass m.dstFmt
  let us := (((descOf m.word).units).drop (u * v.pass)).take u
  let x := us.foldl (fun x w => { x.claim v.pc w with aWrites := w :: x.aWrites }) x
  let spadW := (us.zip (chunks 32 u bytes)).foldl (fun a e => Table.put a e.1 e.2) v.spadW
  ({ v with spadW := spadW }, { x with s := { x.s with spadErr := us.foldl (fun a w => a.erase (2 ^ 15 * t + w)) x.s.spadErr } })

/-- 64 FP32 words written into a register or the accumulator (R230). -/
def writeLanes (t : Nat) (v : VrunOp) (m : Micro) (ws : List Nat) (x : Cycle) : VrunOp × Cycle :=
  if m.dst < 16 then (v, x.mod t (fun y => { y with vregs := Table.set (List.replicate 64 0) y.vregs m.dst ws }))
  else
    let row (i : Nat) : AccRow := ⟨false, 0, 0, ((ws.drop (32 * i)).take 32).map Int.ofNat⟩
    ({ v with accW := Table.put (Table.put v.accW (2 * v.pass) (row 0)) (2 * v.pass + 1) (row 1) }, x)

/-- Words with a tag on the last of them. -/
def tagLast (tag : Nat) (ws : List (List Byte)) : List RxWord :=
  (List.range ws.length).map (fun i => ⟨ws.getD i [], if i + 1 = ws.length then tag else 0⟩)

/-- Is the present micro-op, in the present pass, the last of its VRUN that writes its out queue? -/
def lastWriter (img : List Byte) (v : VrunOp) (q : Nat) : Bool :=
  v.pass + 1 == v.passes &&
    !((List.range v.count).any (fun i => decide (v.start + i > v.micro) && (voiceMicro img (v.start + i)).outQueue == some q))

/-- The stream of blocks that a micro-op writes: its out queue, format and frame length (R231). -/
def frameKey (m : Micro) : Nat := 2 ^ 16 * (m.outQueue.getD 6) + 2 ^ 8 * m.dstFmt + (qctlOf m.word).frameN

/-- Is the present micro-op, in the present pass, the last of its VRUN that writes such a stream? -/
def lastFrame (img : List Byte) (v : VrunOp) (key : Nat) : Bool :=
  v.pass + 1 == v.passes &&
    !((List.range v.count).any (fun i => decide (v.start + i > v.micro) &&
      (voiceMicro img (v.start + i)).outQueue.isSome && frameKey (voiceMicro img (v.start + i)) == key))

/-- The micro-op's result goes to its destination: registers, scratchpad, or words for an out queue. -/
def finishMicro (t c : Nat) (img : List Byte) (v : VrunOp) (m : Micro) (as bs cs : List Lane) (x : Cycle) :
    VrunOp × Cycle :=
  let f := (Fmt.ofCode m.dstFmt).getD .fp32
  let tag := match m.outQueue with | none => 0 | some q => if lastWriter img v q then v.post else 0
  let done (v : VrunOp) (ws : List (List Byte)) : VrunOp := { v with outWords := some (tagLast tag ws) }
  if f.block = 0 then
    let (codes, x) := if m.opcode = 0x98 then
        let (cs, s) := vcvtPlain t f as x.s
        (cs, { x with s := s })
      else (lanesResult img m as bs cs, x)
    if m.dst ≤ 0x10 then
      let (v, x) := writeLanes t v m (codes.map (fun e => if f = .fp32 then e else toFp (f.decode e))) x
      (done v [], x)
    else
      let bytes := (codes.map (fun e => toLE (f.width / 8) e)).flatten
      if m.writesSpad then let (v, x) := writePass t v m bytes x; (done v [], x)
      else (done v (chunks 64 (bytes.length / 64) bytes), x)
  else
    let (b0, s) := vcvtBlock t c f 0 (as.take 32) x.s
    let (b1, s) := vcvtBlock t c f 32 (as.drop 32) s
    let x := { x with s := s }
    let blocks := [(b0.scale, b0.codes, b0.side), (b1.scale, b1.codes, b1.side)]
    if m.writesSpad then let (v, x) := writePass t v m (frameBytes f blocks).flatten x; (done v [], x)
    else
      let n := (qctlOf m.word).frameN
      let key := frameKey m
      let held := Table.get [] v.frames key ++ blocks
      let last := lastFrame img v key
      let held := if last then held ++ List.replicate ((n - held.length % n) % n) (paddingBlock f) else held
      let full := held.length / n
      ({ done v ((chunks n full held).map (frameBytes f)).flatten with
         frames := Table.set [] v.frames key (held.drop (n * full)) }, x)

/-- Elements of queue `q` that the whole VRUN takes, as words (R227 for the reading of a last frame). -/
def vrunWords (img : List Byte) (v : VrunOp) (q : Nat) : Nat :=
  let ms := ((List.range v.count).map (fun i => voiceMicro img (v.start + i))).filter (fun m => m.inQueue == some q)
  match ms with
  | [] => 0
  | m :: _ => streamWords ((Fmt.ofCode m.srcFmt).getD .fp32) (qctlOf m.word).frameN (64 * v.passes * ms.length)

/-- Does the present micro-op make the VRUN's last use of an in queue? -/
def lastReader (img : List Byte) (v : VrunOp) (q : Nat) : Bool :=
  v.pass + 1 == v.passes &&
    !((List.range v.count).any (fun i => decide (v.start + i > v.micro) && (voiceMicro img (v.start + i)).inQueue == some q))

/-- The slowest class latency of a range (R199). -/
def rangeLatency (img : List Byte) (start count : Nat) : Nat :=
  (List.range count).foldl (fun a i => max a (microLatency (voiceMicro img (start + i)).opcode)) 4

def rangeMicros (img : List Byte) (start count : Nat) : List Micro := (List.range count).map (fun i => voiceMicro img (start + i))

/-- Does a range write an out queue? Its post then goes as a tag (R229). -/
def rangeWritesQueue (img : List Byte) (start count : Nat) : Bool :=
  (rangeMicros img start count).any (fun m => m.outQueue.isSome)

/-- Accumulator rows a VRUN uses: 0 up to this. -/
def rangeRows (img : List Byte) (start count passes : Nat) : Nat :=
  if (rangeMicros img start count).any Micro.usesAcc then 2 * passes else 0

/-- The VRUN goes on to its next micro-op, or has run its last (R199). -/
def nextMicro (t c : Nat) (img : List Byte) (v : VrunOp) (x : Cycle) : Cycle :=
  let v := { v with outWords := none, run := 0, next := c + 1, stall := none }
  if v.micro + 1 < v.start + v.count then x.mod t (fun y => { y with vrun := some { v with micro := v.micro + 1 } })
  else if v.pass + 1 < v.passes then
    x.mod t (fun y => { y with vrun := some { v with micro := v.start, pass := v.pass + 1 } })
  else
    let r := c + 1 + rangeLatency img v.start v.count
    let tagged := rangeWritesQueue img v.start v.count
    let vr := ((rangeMicros img v.start v.count).filter (fun m => decide (m.dst < 16))).map Micro.dst
    x.mod t (fun y => { y with
      vrun := none
      vrunResults := y.vrunResults ++
        [⟨r, v.spadW, v.accW, vr, rangeRows img v.start v.count v.passes, v.post, v.pc⟩]
      posts := if v.post ≠ 0 && !tagged then y.posts ++ [⟨v.post, r, v.pc, true⟩] else y.posts })

/-- Up to `n` words leave for an out queue; those that stay. -/
def sendWords (t q : Nat) (dest : Dest) : Nat → List RxWord → Cycle → List RxWord × Cycle
  | 0, ws, x => (ws, x)
  | _ + 1, [], x => ([], x)
  | n + 1, w :: ws, x =>
    if x.s.pathFull t q then (w :: ws, x)
    else sendWords t q dest n ws { x with s := x.s.send t q (.word w.bytes w.tag dest) }

/-- The present micro-op's words leave; the VRUN stalls while none can. -/
def sendCycle (t c : Nat) (img : List Byte) (v : VrunOp) (m : Micro) (ws : List RxWord) (allow : Nat) (x : Cycle) : Cycle :=
  match m.outQueue with
  | none => nextMicro t c img v x
  | some q =>
    let route := (qctlOf m.word).route
    let bad := if ws.isEmpty then [] else x.s.routeConds t q route v.pc false
    let x := x.add bad
    let (left, x) := if bad.isEmpty then sendWords t q (x.s.destOf t q route) allow ws x else (ws, x)
    let x := match v.stall with
      | none => x
      | some st => if left.length < ws.length then { x with s := x.s.waitEnded t st } else x
    if left.isEmpty then nextMicro t c img v x
    else
      let stall := if left.length < ws.length then none else beginStall x.s v.stall
      x.mod t (fun y => { y with vrun := some { v with outWords := some left, run := v.run + 1, next := c + 1, stall := stall } })

/-- Does a micro-op's stream hold what the present pass needs? -/
def streamReady (img : List Byte) (v : VrunOp) (q : Nat) (st : InStream) : Bool :=
  decide (st.elems.length ≥ 64) && (!lastReader img v q || decide (st.taken ≥ vrunWords img v q))

/-- One word of an in queue for the present micro-op, if it still needs one: none on a stall. -/
def streamCycle (t : Nat) (img : List Byte) (v : VrunOp) (m : Micro) (q : Nat) (x : Cycle) : Option (VrunOp × Cycle) :=
  let st := Table.get InStream.none' v.streams q
  if streamReady img v q st then some (v, x)
  else
    match x.take t q with
    | none => none
    | some (w, x) =>
      let total := vrunWords img v q
      let x := x.add (tagConds v.expect v.pc w.tag st.taken (st.taken + 1 == total))
      let x := match v.stall with | none => x | some s => { x with s := x.s.waitEnded t s }
      let f := (Fmt.ofCode m.srcFmt).getD .fp32
      let n := (qctlOf m.word).frameN
      let k := st.words.length
      let dup := if f = .split4 ∧ 1 ≤ k ∧ k < 1 + (frameWords f n).2.1
        then frameDuplicate f (min n (16 * k)) (st.words ++ [w.bytes]) else none
      let x := x.add (match dup with | none => [] | some _ => [cond2 .outlierDuplicate v.pc 0])
      some ({ v with streams := Table.set InStream.none' v.streams q (st.feed f n w.bytes), stall := none }, x)

/-- One source operand of a micro-op: unused, 64 elements of the in queue, or another source. -/
def microSource (t : Nat) (v : VrunOp) (m : Micro) (queued : List Lane) (sel : Nat) (used : Bool) (x : Cycle) :
    List Lane × Cycle :=
  if !used then ([], x) else if isQueueSel sel then (queued, x) else sourceLanes t v m sel x

/-- The three sources of a micro-op; several spad operands are one read. -/
def microLanes (t : Nat) (v : VrunOp) (m : Micro) (queued : List Lane) (x : Cycle) :
    (List Lane × List Lane × List Lane) × Cycle :=
  let n := (microSources m.opcode).getD 0
  let (as, x) := microSource t v m queued m.a (decide (n ≥ 1)) x
  let (bs, x) := microSource t v m queued m.b (decide (n ≥ 2) && !(isSpadSel m.b && isSpadSel m.a)) x
  let bs := if n ≥ 2 ∧ isSpadSel m.b ∧ isSpadSel m.a then as else bs
  let (cs, x) := microSource t v m queued m.c (decide (n ≥ 3) && !(isSpadSel m.c && (isSpadSel m.a || isSpadSel m.b))) x
  let cs := if n ≥ 3 ∧ isSpadSel m.c ∧ isSpadSel m.a then as
    else if n ≥ 3 ∧ isSpadSel m.c ∧ isSpadSel m.b then bs else cs
  ((as, bs, cs), x)

/-- A micro-op runs its pass and its out words leave. -/
def runMicro (t c : Nat) (img : List Byte) (v : VrunOp) (m : Micro) (x : Cycle) : Cycle :=
  let queued : List Lane := match m.inQueue with
    | none => []
    | some q => ((Table.get InStream.none' v.streams q).elems.take 64).map
        (fun e => if m.srcFmt = 0 then laneOf e.code else laneOfVal (scaled e.val e.scale))
  let v := match m.inQueue with
    | none => v
    | some q =>
      let st := Table.get InStream.none' v.streams q
      { v with streams := Table.set InStream.none' v.streams q { st with elems := st.elems.drop 64 } }
  let l := microLanes t v m queued x
  let r := finishMicro t c img v m l.1.1 l.1.2.1 l.1.2.2 l.2
  sendCycle t c img r.1 m (r.1.outWords.getD []) (r.1.run + 1) r.2

/-- A micro-op whose in queue has given its elements runs; one whose has not waits a cycle. -/
def readyMicro (t c : Nat) (img : List Byte) (v : VrunOp) (m : Micro) (x : Cycle) : Cycle :=
  let ready := match m.inQueue with
    | none => true
    | some q => streamReady img v q (Table.get InStream.none' v.streams q)
  if ready then runMicro t c img v m x
  else x.mod t (fun y => { y with vrun := some { v with run := v.run + 1, next := c + 1 } })

/-- A micro-op's in queue gives a word where the micro-op needs one; where none has come, the VRUN stalls. -/
def feedMicro (t c : Nat) (img : List Byte) (v : VrunOp) (m : Micro) (x : Cycle) : Cycle :=
  match m.inQueue with
  | none => readyMicro t c img v m x
  | some q =>
    match streamCycle t img v m q x with
    | none => x.mod t (fun y => { y with vrun := some { v with run := v.run + 1, stall := beginStall x.s v.stall } })
    | some (v, x) => readyMicro t c img v m x

def vrunCycle (t c : Nat) (x : Cycle) : Cycle :=
  match (x.s.tile t).vrun, (x.s.tile t).voice with
  | some v, some img =>
    if c < v.next then x
    else
      match v.outWords with
      | some ws => sendCycle t c img v (voiceMicro img v.micro) ws 1 x
      | none => feedMicro t c img v (voiceMicro img v.micro) x
  | _, _ => x

/-! ### Bounds (R194) and gating (R137) -/

/-- Stalled queue operations whose bound has expired (R194), with R204's detail. -/
def State.expiredQueues (s : State) (t : Nat) : List Cond :=
  let x := s.tile t
  let late (st : Option Stall) (bound q dir pc : Nat) : List Cond :=
    match st with
    | none => []
    | some st => check (s.expired st bound) (cond .queueWaitBound pc (q + 8 * dir + 2 ^ 16 * bound))
  (x.push.flatMap (fun p => late p.stall p.bound p.q 0 p.pc))
    ++ (x.pull.flatMap (fun p => late p.stall p.bound p.q 1 p.pc))
    ++ (match x.mma with
        | some m => (match m.queue with | some (q, _, b) => late m.stall b q 1 m.pc | none => [])
        | none => [])
    ++ (match x.vrun, x.voice with
        | some v, some img =>
          let m := voiceMicro img v.micro
          (match v.outWords, m.outQueue with
           | some _, some q => late v.stall v.bound q 0 v.pc
           | _, _ => (match m.inQueue with | some q => late v.stall v.bound q 1 v.pc | none => []))
        | _, _ => [])

/-- A flag wait whose bound has expired (R134, R194). -/
def State.expiredFlag (s : State) (t : Nat) : List Cond :=
  match (s.tile t).block with
  | none => []
  | some b =>
    match b.wait with
    | .flag f _ bound => check (s.expired b.stall bound) (cond .flagWaitBound b.pc (f + 2 ^ 16 * bound))
    | _ => []

/-- Is the tile at its end-of-measure point, or its program ended, so that its sequencer, MAC array and vector unit are gated (R89,
R137, R177, R214)? Not before a voice load is complete (R117). -/
def State.gated (s : State) (t : Nat) : Bool :=
  let x := s.tile t
  x.voiceLoad.isNone && (x.finished ||
    (match x.block with
     | some b => (match b.wait with | .beat target => decide (target ≥ s.nextMeasureBeat) | _ => false)
     | none => false))

/-- A cycle passes in which the sequencer, the MAC array and the vector unit are gated: everything they still have to do comes a
cycle later (R199). -/
def Tile.hold (x : Tile) : Tile :=
  { x with
    mma := x.mma.map (fun m => { m with next := m.next + 1 })
    mmaResults := x.mmaResults.map (fun r => { r with cycle := r.cycle + 1 })
    vrun := x.vrun.map (fun v => { v with next := v.next + 1 })
    vrunResults := x.vrunResults.map (fun r => { r with cycle := r.cycle + 1 })
    planeLoad := x.planeLoad.map (fun p => { p with next := p.next + 1 })
    cpend := x.cpend.map (fun w => { w with cycle := w.cycle + 1 })
    posts := x.posts.map (fun p => if p.core then { p with cycle := p.cycle + 1 } else p) }

/-! ### A cycle, and the passing of cycles -/

/-- A sequencer that waits is released in the first cycle that begins with what it waits for: the plan beat (R214), or its flag,
which it may clear in that cycle (R136, R220). -/
def State.releaseAt (s : State) (t c : Nat) : State :=
  let x := s.tile t
  match x.block with
  | none => s
  | some b =>
    match b.wait with
    | .beat target => if s.beatBegun target then s.setTile t (x.release b c) else s
    | .flag f clear bound =>
      if bit x.flags f && !s.expired b.stall bound then
        (s.waitEnded t b.stall).setTile t (({ x with clears := if clear then f :: x.clears else x.clears }).release b c)
      else s
    | .fence _ => s

/-- What applies at a cycle's beginning in units that are not gated: count registers (R211), a staged seed (R212), results of VRUNs
(R229) and MMAs, a loaded voice. -/
def coreStart (t c : Nat) (x : Cycle) : Cycle :=
  let x := voiceStart t c x
  let y := x.s.tile t
  let creg := (y.cpend.filter (fun w => decide (w.cycle ≤ c))).foldl (fun l w => l.set w.reg w.value) y.creg
  let ripe := y.vrunResults.filter (fun r => decide (r.cycle ≤ c))
  let acc := ripe.foldl (fun a r => Table.over AccRow.reset r.accW a) y.acc
  let s := ripe.foldl (fun s (r : VrunResult) => commitWrites t r.spadW s) x.s
  let s := s.modTile t (fun y => { y with
    creg := creg, cpend := y.cpend.filter (fun w => decide (w.cycle > c)), acc := acc
    vrunResults := y.vrunResults.filter (fun r => decide (r.cycle > c))
    mmaResults := y.mmaResults.filter (fun r => decide (r.cycle > c)) })
  match y.seed with
  | none => { x with s := s }
  | some (sd, e) =>
    if c ≥ e ∧ y.vrun.isNone then
      { x with s := (s.modTile t (fun y => { y with lanes := seedLanes sd, phase := sd % 4096, seed := none })).set .TIL_SEED_seed t sd }
    else { x with s := s }

/-- The beginning of a cycle: bounds that have expired, a release, and what the clocked units show from now on. -/
def cycleStart (t c : Nat) (x : Cycle) : Cycle :=
  let x := x.add (x.s.expiredQueues t ++ x.s.expiredFlag t)
  let x := { x with s := x.s.releaseAt t c }
  if x.s.gated t then x else coreStart t c x

/-- Posts that apply in a cycle (R132, R133). -/
def cyclePosts (t c : Nat) (x : Cycle) : Cycle :=
  let due := (x.s.tile t).posts.filter (fun p => decide (p.cycle ≤ c))
  let x := x.mod t (fun y => { y with posts := y.posts.filter (fun p => decide (p.cycle > c)) })
  due.foldl (fun x p =>
    let (y, cs) := (x.s.tile t).postNow p.token p.pc
    { x with s := x.s.setTile t y, conds := x.conds ++ cs }) x

/-- A set that finds its flag at 1 after the cycle's clears, or that is not the cycle's only one, halts the tile: the record names
the lowest source (R136, R219). -/
def Tile.setTwice (x : Tile) (k : FlagSet) : List Cond :=
  let mine := x.sets.filter (fun r => r.f == k.f)
  let low := mine.foldl (fun a r => if r.source < a.source then r else a) k
  check ((bit x.flags k.f && !x.clears.contains k.f) || decide (mine.length ≥ 2))
    (cond .flagSetTwice (if low.source = 6 then low.pc else x.nextPc) (k.f + 2 ^ 8 * low.source))

/-- The cycle's clears of flags apply, then its sets (R136). -/
def Tile.settleFlags (x : Tile) : Tile :=
  let cleared := x.clears.foldl (fun fl f => if bit fl f then fl - 2 ^ f else fl) x.flags
  { x with flags := x.sets.foldl (fun fl k => if bit fl k.f then fl else fl + 2 ^ k.f) cleared, sets := [], clears := [] }

def flagsCycle (t : Nat) (x : Cycle) : Cycle :=
  let y := x.s.tile t
  (x.add (y.sets.flatMap y.setTwice)).mod t Tile.settleFlags

/-! ### Background test (R245 to R247) -/

/-- Walks that every bank of a tile has finished (R246). -/
def State.testPasses (s : State) (t : Nat) : Nat :=
  (List.range 8).foldl (fun a b => min a (Table.get 0 s.testPos (8 * t + b) / 4096)) (Table.get 0 s.testPos (8 * t) / 4096)

/-- A test step ends: the shadow register is written back, and what the march found is recorded and stays in the unit. -/
def State.endTest (s : State) (t b : Nat) (st : TestStep) : State :=
  let d := tileDie t
  let k := 2 ^ 15 * t + st.unit'
  let before := s.testPasses t
  let s := s.modTile t (fun x => { x with tests := x.tests.erase b })
  let s := { s with
    spad := s.spad.writeBytes (2 ^ 20 * t + 32 * st.unit') st.shadow
    spadErr := if st.found = 0 then s.spadErr else s.spadErr.put k st.found
    testPos := Table.set 0 s.testPos (8 * t + b) (Table.get 0 s.testPos (8 * t + b) + 1) }
  let s := if s.testPasses t > before then s.bump .FLD_SPAD_TEST_passes d 1 else s
  if st.found = 0 then s
  else
    ((((((s.set .FLD_SPAD_FAIL_column d (tileCol t)).set .FLD_SPAD_FAIL_row d (tileRow t)).set .FLD_SPAD_FAIL_unit d st.unit').set
      .FLD_SPAD_FAIL_kind d 0).set .FLD_SPAD_FAIL_valid d 1).bump .FLD_SPAD_ERR_test_fail d 1).warn .spadTestFail

/-- A cycle in which neither port claims a bank brings its test step on; the twelfth ends it. -/
def testCycle (t : Nat) (x : Cycle) : Cycle :=
  (x.s.tile t).tests.foldl (fun x e =>
    if x.banks.contains e.1 || x.banksB.contains e.1 then x
    else if e.2.left ≤ 1 then { x with s := x.s.endTest t e.1 e.2 }
    else x.mod t (fun y => { y with tests := y.tests.put e.1 { e.2 with left := e.2.left - 1 } })) x

/-! ### The units of a tile -/

/-- The units that gating stops run one cycle, or are held. -/
def coreCycle (t c : Nat) (x : Cycle) : Cycle :=
  if x.s.gated t then x.mod t Tile.hold
  else vrunCycle t c (planeCycle t c (mmaCycle t c (voiceCycle t c x)))

/-- The units of a tile run one cycle (R137: the queues, the flags and the token board are clocked while the tile is gated). -/
def unitsCycle (t c : Nat) (x : Cycle) : Cycle :=
  let p := runOps (pushCycle t c) (x.s.tile t).push x
  let x := bwriteCycle t c (coreCycle t c (p.2.mod t (fun y => { y with push := p.1 })))
  let a := runOps (landAccess t) (x.s.tile t).accesses x
  let x := a.2.mod t (fun y => { y with accesses := a.1 })
  let x := x.add ((x.s.tile t).accesses.flatMap (fun a => if a.landing == some [] then a.stop.toList else []))
  let x := x.mod t (fun y => y.completeAccesses c)
  let p := runOps (pullCycle t c) (x.s.tile t).pull x
  let x := p.2.mod t (fun y => { y with pull := p.1 })
  let x := testCycle t (flagsCycle t (cyclePosts t c x))
  x.mod t (fun y => { y with
    now := c + 1, claim := none
    endedBy := if y.finished then some (y.endedBy.getD x.s.nextMeasureBeat) else none })

/-- The condition with the lowest code halts the tile (R203). -/
def haltLowest (t : Nat) (x : Cycle) : State :=
  match lowest x.conds with
  | none => x.s
  | some k => x.s.haltTile t k

/-- A cycle before anything has happened in it, but what its instruction claims. -/
def Cycle.begin (s : State) (t : Nat) (conds : List Cond) : Cycle :=
  let x := s.tile t
  { s := s, conds := conds, aWrites := [], banksB := []
    banks := match x.claim with | some (e, b) => if e = x.now then [b] else [] | none => [] }

/-- One local tile cycle of tile `t`, with the conditions its issue has met: the units run, and the condition with the
lowest code halts the tile (R203). -/
def tileCycle (s : State) (t : Nat) (conds : List Cond) : State :=
  let c := (s.tile t).now
  haltLowest t (unitsCycle t c (cycleStart t c (Cycle.begin s t conds)))

/-- Nothing of the tile moves by itself. -/
def Tile.quiet (x : Tile) : Bool :=
  x.cpend.isEmpty && x.posts.isEmpty && x.voiceLoad.isNone && x.planeLoad.isNone && x.mma.isNone && x.mmaResults.isEmpty
    && x.vrun.isNone && x.vrunResults.isEmpty && x.push.isEmpty && x.pull.isEmpty && x.bwrites.isEmpty && x.seed.isNone
    && x.claim.isNone && x.sets.isEmpty && x.clears.isEmpty && x.tests.isEmpty && x.block.isNone
    && x.accesses.all (fun a => a.landing.isNone) && !(x.finished && x.endedBy.isNone)

/-- `n` cycles of a tile pass. -/
def runCycles (t : Nat) : Nat → State → State
  | 0, s => s
  | n + 1, s =>
    if (s.tile t).quiet then s.modTile t (fun x => { x with now := x.now + (n + 1) })
    else runCycles t n (tileCycle s t [])

/-- The first cycle of a tile's region in the present machine beat. -/
def State.clockOf (s : State) (t : Nat) : Nat := Table.get 0 s.time.clock (tileRegion t)

/-- First local tile cycle of tile `t` that can still take an event. -/
def State.nowOf (s : State) (t : Nat) : Nat := max (s.tile t).now (s.clockOf t)

/-- The cycles before cycle `c` pass; a tile in which nothing moves has let the region's clock run on. -/
def State.runTo (s : State) (t c : Nat) : State :=
  let now := s.nowOf t
  runCycles t (c - now) (s.modTile t (fun x => { x with now := now }))

/-- Cycle `c` begins: those before it have passed, and what is visible from it on is. -/
def State.enterCycle (s : State) (t c : Nat) : State :=
  let s := s.runTo t c
  (cycleStart t c (Cycle.begin s t [])).s

/-- The clocks of a tile's region run: the Field dies are up, and the region is not stopped to retune (R64, R440). -/
def State.tileClocked (s : State) (t : Nat) : Bool :=
  s.tilesUp && !(s.time.stops.any (fun x => x.region == tileRegion t))

/-- An event of cycle `e` of a tile finds the tile clocked, and the cycle not passed (R64; log entry 23). -/
def State.tileEvent (s : State) (t e : Nat) : Bool := s.tileClocked t && decide (s.nowOf t ≤ e)

end Sys2Proof.Machine
end

