-- ==== Sys2Proof/Machine/Sequencer.lean ====
section
/-! DEFINITION. Issue (R179 to R181, R198, R206) and the sequencer's own instructions: NOP, HALT, SEED, CANARY, SETC, SETC.S,
ROLL, WAIT.BEAT and the flag instructions (R209 to R215, R219 to R221). -/

namespace Sys2Proof.Machine

/-- An instruction at its issue: the state with its wait token taken, its tile and cycle, its address and words. -/
structure Issue where
  s : State
  t : Nat
  e : Nat
  pc : Nat
  w : Nat
  exts : List Nat
deriving DecidableEq, Repr

def Issue.x (i : Issue) : Tile := i.s.tile i.t
def Issue.ext (i : Issue) (k : Nat) : Nat := i.exts.getD k 0
def Issue.len (i : Issue) : Nat := 1 + i.exts.length

/-- The decode checks, in order: the first that fails (R206). -/
def decodeConds (x : Tile) (pc w : Nat) : List Cond :=
  if !(opcodes.contains (opcodeOf w)) then [cond .opcodeUndefined pc (opcodeOf w)]
  else if extOf w ≠ extNeeded w then [cond .extCount pc (extOf w + 2 ^ 8 * extNeeded w)]
  else if pc + extOf w ≥ x.regionEnd then [cond .pcRange pc x.regionEnd]
  else if expectOf w ≠ 0 ∧ !expectValid w ∧ opcodeOf w ≠ 1 then [cond .expectContext pc (expectOf w)]
  else []

/-- May the tile issue in cycle `e`? -/
def State.canIssue (s : State) (t e : Nat) : Bool :=
  let x := s.tile t
  x.running && !x.finished && !x.halted && x.block.isNone && decide (x.nextIssue ≤ e)

/-- Does a VRUN in flight post to the board? -/
def Tile.vrunLocal (x : Tile) (v : VrunOp) : Bool :=
  match x.voice with | none => true | some img => !rangeWritesQueue img v.start v.count

/-- What the wait token does (R132): taken, a stall, or a halt. -/
inductive Waited where
  | go (x : Tile)
  | stall
  | halt (c : Cond)
deriving DecidableEq, Repr

def tokenWait (x : Tile) (pc w : Nat) : Waited :=
  let tok := waitOf w
  if tok = 0 ∨ opcodeOf w = 1 then .go x
  else if bit x.board tok then .go { x with board := x.board - 2 ^ tok }
  else if x.willPost tok x.vrunLocal then .stall
  else .halt (cond .tokenAbsent pc tok)

/-- The instruction with opcode `op` issues on tile `t` in cycle `e`, if it stands at the program address and the sequencer
may issue: decode, token wait, then its own checks and effect (`body`). An undefined opcode halts whichever instruction's
command comes (R182, R206). Cycles before `e` pass first, and what is visible from `e` on is; a cycle that has passed does not
come again (log entry 23). -/
def issueAt (t e op : Nat) (body : Issue → List Cond × State) (s : State) : Host.Outcome State Fault Refusal :=
  let s := s.begin
  if !s.tileEvent t e then .next s
  else
    let s := s.enterCycle t e
    let x := s.tile t
    let pc := x.pc
    let w := s.spadWord t pc
    if !s.canIssue t e || (opcodes.contains (opcodeOf w) && opcodeOf w != op) then .next s
    else
      match decodeConds x pc w with
      | c :: cs => .next (tileCycle s t (c :: cs))
      | [] =>
        match tokenWait x pc w with
        | .halt c => .next (tileCycle s t [c])
        | .stall => .next (s.modTile t (fun x => { x with tokenStall := true }))
        | .go y =>
          let i : Issue := ⟨s.setTile t { y with tokenStall := false }, t, e, pc, w, (List.range (extOf w)).map (fun k => s.spadWord t (pc + 1 + k))⟩
          match body i with
          | ([], s') => .next s'
          | (c :: cs, _) => .next (tileCycle s t (c :: cs))

/-- An instruction that completes at issue: its post, and the next instruction `1 + extra` cycles later (R181, R199). -/
def Issue.complete (i : Issue) (s : State) (extra : Nat) : List Cond × State :=
  let (y, cs) := (s.tile i.t).postNow (postOf i.w) i.pc
  (cs, s.setTile i.t (y.goOn (i.pc + i.len) (i.e + 1) (i.e + 1 + extra)))

/-- A background instruction has been given to its unit: the next one issues in the next cycle. -/
def Issue.background (i : Issue) (s : State) : State :=
  s.modTile i.t (fun x => x.goOn (i.pc + i.len) (i.e + 1) (i.e + 1))

/-- A post that applies in a later cycle. -/
def Issue.postAt (i : Issue) (s : State) (cycle : Nat) : State :=
  if postOf i.w = 0 then s else s.modTile i.t (fun x => { x with posts := x.posts ++ [⟨postOf i.w, cycle, i.pc, false⟩] })

/-- NOP (R209): the sequencer issues nothing else for 1 + extra cycles. -/
def execNop (t : TileIx) (e : Nat) (s : State) : Host.Outcome State Fault Refusal :=
  issueAt t e 0x00 (fun i => i.complete i.s (bits i.w 37 22)) s

/-- HALT (R210). -/
def execHalt (t : TileIx) (e : Nat) (s : State) : Host.Outcome State Fault Refusal :=
  issueAt t e 0x01 (fun i => ([cond .programHalt i.pc (bits i.w 29 22)], i.s)) s

/-- SEED (R212): staged; it applies from the next cycle, or from the free cycle of the VRUN in flight. -/
def execSeed (t : TileIx) (e : Nat) (s : State) : Host.Outcome State Fault Refusal :=
  issueAt t e 0x03 (fun i =>
    i.complete (i.s.modTile i.t (fun x => { x with seed := some (bits i.w 53 22, i.e + 1) })) 0) s

/-- CANARY (R213): the first sampled-format block from the next cycle on is sampled. -/
def execCanary (t : TileIx) (e : Nat) (s : State) : Host.Outcome State Fault Refusal :=
  issueAt t e 0x04 (fun i =>
    i.complete (i.s.modTile i.t (fun x => { x with canaryFrom := some (x.canaryFrom.getD (i.e + 1)) })) 0) s

/-- SETC (R211): readable from the next cycle. -/
def execSetc (t : TileIx) (e : Nat) (s : State) : Host.Outcome State Fault Refusal :=
  issueAt t e 0x05 (fun i =>
    i.complete (i.s.modTile i.t (fun x =>
      { x with cpend := x.cpend ++ [⟨bits i.w 25 22, bits i.w 41 26, i.e + 1⟩] })) 0) s

/-- SETC.S (R211): bytes 0 and 1 of a unit read through port A, readable from the third cycle. -/
def execSetcS (t : TileIx) (e : Nat) (s : State) : Host.Outcome State Fault Refusal :=
  issueAt t e 0x06 (fun i =>
    let u := bits i.w 40 26
    let (bad, s) := i.s.eccRead i.t u
    let v := leAt (s.spadUnit i.t u) 0 2
    let (cs, s) := i.complete (s.modTile i.t (fun x =>
      { x with cpend := x.cpend ++ [⟨bits i.w 25 22, v, i.e + 3⟩], claim := some (i.e, u / 4096) })) 0
    (cs ++ i.s.secureConds i.t i.pc [u] ++ check bad (cond .spadUncorrectable i.pc u), s)) s

/-- A count register's value in cycle `e`, and whether a write to it is not yet readable (R199, R201). -/
def Tile.countReg (x : Tile) (r e : Nat) : Nat × Bool :=
  (((x.cpend.filter (fun w => decide (w.reg = r ∧ w.cycle ≤ e))).map CountWrite.value).getLastD (x.creg.getD r 0),
   x.cpend.any (fun w => decide (w.reg = r ∧ w.cycle > e)))

/-- Iterations a ROLL runs: its max, or a count register (R215). -/
def rollCount (i : Issue) : Nat := if bit i.w 38 then (i.x.countReg (bits i.w 42 39) i.e).1 else bits i.w 37 22

/-- First address after a ROLL's body. -/
def rollEnd (i : Issue) : Nat := i.pc + 2 + bits i.w 54 43

/-- What halts a ROLL. -/
def rollConds (i : Issue) : List Cond :=
  let mx := bits i.w 37 22
  let src := bit i.w 38
  let r := bits i.w 42 39
  let be := rollEnd i
  let outer := match i.x.loops with | [] => false | l :: _ => decide (be > l.be)
  check (decide (be > i.x.progEnd)) (cond .pcRange i.pc be)
    ++ check (src && decide (rollCount i > mx)) (cond .rollOverMax i.pc (2 ^ 16 * rollCount i + mx))
    ++ check (bits i.w 54 43 == 0 || i.ext 0 % 2 ^ 16 == 0 || (src && mx == 0) || outer) (cond .rollDescriptor i.pc (i.ext 0))
    ++ check (decide (i.x.loops.length ≥ 4)) (cond .rollDepth i.pc 5)
    ++ check (src && (i.x.countReg r i.e).2) (cond .latencyHazard i.pc r)

/-- ROLL (R195 to R197, R215). -/
def execRoll (t : TileIx) (e : Nat) (s : State) : Host.Outcome State Fault Refusal :=
  issueAt t e 0x08 (fun i =>
    let mx := bits i.w 37 22
    let iter := i.ext 0 % 2 ^ 16
    let bs := i.pc + 2
    let be := rollEnd i
    let n := rollCount i
    let (y, ps) := i.x.postNow (postOf i.w) i.pc
    let s' := if n = 0 then i.s.setTile i.t (y.goOn be (i.e + 1 + mx * iter) (i.e + 1 + mx * iter))
      else i.s.setTile i.t { y with pc := bs, nextIssue := i.e + 1, loops := Loop.mk bs be n (i.e + 1) iter ((mx - n) * iter) :: y.loops }
    (rollConds i ++ ps, s')) s

/-- WAIT.BEAT (R194, R214): released at issue if the plan beat is reached; else the sequencer waits, at its end-of-measure
point if the target lies past the plan measure under way. -/
def execWaitBeat (t : TileIx) (e : Nat) (s : State) : Host.Outcome State Fault Refusal :=
  issueAt t e 0x09 (fun i =>
    let tm := if bit i.w 26 then (i.x.tm + 1) % 2 ^ 60 else i.x.tm
    let target := 16 * tm + bits i.w 25 22
    let s := i.s.modTile i.t (fun x => { x with tm := tm, reached := max x.reached target })
    if s.beatBegun target then i.complete s 0
    else ([], s.modTile i.t (fun x => { x with
      block := some ⟨.beat target, postOf i.w, i.pc, s.nowStall⟩ }))) s

/-- WAIT_BEAT_RELEASE (R194, R214): cycle `e` begins, and a tile whose target the plan beat has reached resumes in it. -/
def execWaitBeatRelease (t : TileIx) (e : Nat) (s : State) : Host.Outcome State Fault Refusal :=
  let s := s.begin
  if s.tileEvent t e then .next (s.enterCycle t e) else .next s

/-- A flag set made in the present cycle: visible from the next (R199). -/
def Tile.setFlag (x : Tile) (f source pc : Nat) : Tile := { x with sets := x.sets ++ [⟨f, source, pc⟩] }

/-- A flag cleared in the present cycle, before its sets (R136). -/
def Tile.clearFlag (x : Tile) (f : Nat) : Tile := { x with clears := f :: x.clears }

/-- SET.FLAG (R134, R135, R219). -/
def execSetFlag (t : TileIx) (e : Nat) (s : State) : Host.Outcome State Fault Refusal :=
  issueAt t e 0x18 (fun i =>
    let f := bits i.w 29 22
    let target := bits i.w 32 30
    let route := bits i.w 36 33
    if target = 6 then
      let x := i.x.setFlag f 6 i.pc
      let (cs, s) := i.complete (i.s.setTile i.t x) 0
      (x.setTwice ⟨f, 6, i.pc⟩ ++ cs, s)
    else
      let absent := target == 7 || i.s.queueAbsent i.t target
      let waiting := ((i.x.outQ target).stage.filter (fun k => !k.isWord)).length
      let cs := check absent (cond .queueAbsent i.pc target)
        ++ (if absent then [] else i.s.routeConds i.t target route i.pc true)
        ++ check (decide (waiting ≥ 16)) (cond .queueBusy i.pc target)
      let (ps, s) := i.complete (i.s.send i.t target (.flag f (i.s.destOf i.t target route))) 0
      (cs ++ ps, s)) s

/-- WAIT.FLAG (R194, R220): released in the first cycle that begins with the flag at 1; a set of this same cycle is seen from
the next (R136). -/
def execWaitFlag (t : TileIx) (e : Nat) (s : State) : Host.Outcome State Fault Refusal :=
  issueAt t e 0x19 (fun i =>
    let f := bits i.w 29 22
    let clear := bit i.w 37
    let bound := bits i.w 51 38
    let zero := check (bound == 0) (cond .boundZero i.pc 0x19)
    if bit i.x.flags f then
      let (cs, s) := i.complete (i.s.setTile i.t (if clear then i.x.clearFlag f else i.x)) 0
      (zero ++ cs, s)
    else
      (zero, i.s.modTile i.t (fun x => { x with block := some ⟨.flag f clear bound, postOf i.w, i.pc, i.s.nowStall⟩ }))) s

/-- CLR.FLAG (R221). -/
def execClrFlag (t : TileIx) (e : Nat) (s : State) : Host.Outcome State Fault Refusal :=
  issueAt t e 0x1A (fun i => i.complete (i.s.modTile i.t (fun x => x.clearFlag (bits i.w 29 22))) 0) s

/-- The voice load's busy conditions (R117): VOICE is refused while a load, an MMA or a vector operation runs. -/
def Tile.voiceRefused (x : Tile) : Bool :=
  x.voiceLoad.isSome || x.mma.isSome || !x.mmaResults.isEmpty || x.vrun.isSome || !x.vrunResults.isEmpty

/-- What halts a VOICE. -/
def voiceConds (i : Issue) : List Cond :=
  let image := bits i.w 36 22
  check (image % 256 ≠ 0) (cond .voiceAlign i.pc image)
    ++ check i.x.voiceRefused (cond .voiceBusy i.pc 0x02)
    ++ (if image % 256 = 0 then i.s.secureConds i.t i.pc ((List.range 256).map (· + image)) else [])

/-- VOICE (R116 to R118, R216): a 256-cycle load; from this cycle the old voice no longer applies. -/
def execVoice (t : TileIx) (e : Nat) (s : State) : Host.Outcome State Fault Refusal :=
  issueAt t e 0x02 (fun i =>
    let image := bits i.w 36 22
    (voiceConds i,
     i.background (i.s.modTile i.t (fun x => { x with
       voice := none, voiceLoad := some ⟨image, i.e, [], postOf i.w, i.pc⟩ })))) s

/-- A command that says what happens in cycle `e` of a tile: the cycles before pass, then, if `due` holds, cycle `e` itself
passes with what it brings. -/
def cycleEvent (t e : Nat) (due : State → Bool) (s : State) : Host.Outcome State Fault Refusal :=
  let s := s.begin
  if !s.tileEvent t e then .next s
  else
    let s := s.runTo t e
    if due s then .next (tileCycle s t []) else .next s

/-- VOICE_LOAD_COMPLETE (R116, R118, R216): 256 cycles after VOICE issued the descriptor has been checked; a good one is in
force and the post applies. -/
def execVoiceLoadComplete (t : TileIx) (e : Nat) (s : State) : Host.Outcome State Fault Refusal :=
  cycleEvent t e (fun s => match (s.tile t).voiceLoad with | some v => decide (v.issue + 256 ≤ e) | none => false) s

end Sys2Proof.Machine
end

