-- ==== Sys2Proof/Machine/Queues.lean ====
section
/-! DEFINITION. Stream queues and flags between tiles (R124 to R136, R194, R217 to R220), parity halts (R204), halt-clear and
force_halt (R141, R142, R145). -/

namespace Sys2Proof.Machine

/-- Is the out engine, or the in engine, of a queue busy (R200)? -/
def Tile.outBusy (x : Tile) (q : Nat) : Bool :=
  x.push.any (fun p => p.q == q) ||
    (match x.vrun, x.voice with
     | some v, some img => (rangeMicros img v.start v.count).any (fun m => m.outQueue == some q)
     | _, _ => false)

def Tile.inBusy (x : Tile) (q : Nat) : Bool :=
  x.pull.any (fun p => p.q == q) ||
    (match x.mma with | some m => (match m.queue with | some (k, _, _) => k == q | none => false) | none => false) ||
    (match x.vrun, x.voice with
     | some v, some img => (rangeMicros img v.start v.count).any (fun m => m.inQueue == some q)
     | _, _ => false)

/-- SPAD_RANGE of a descriptor in extension word `k` (R186, R204). -/
def rangeConds (pc k : Nat) (f : Option Nat) : List Cond :=
  match f with | none => [] | some i => [cond .spadRange pc (i % 2 ^ 16 + 2 ^ 16 * k)]

/-- Units of a list of queue words: each names two. -/
def wordUnits (us : List Nat) : List Nat := us.flatMap (fun u => [u, u + 1])

/-- What halts a PUSH. -/
def pushConds (i : Issue) : List Cond :=
  let q := bits i.w 24 22
  let d := descOf (i.ext 0)
  let absent := i.s.queueAbsent i.t q
  let f := d.fault? true
  check absent (cond .queueAbsent i.pc q)
    ++ (if absent then [] else i.s.routeConds i.t q (bits i.w 28 25) i.pc false)
    ++ check (bits i.w 42 29 == 0) (cond .boundZero i.pc 0x10)
    ++ (if d.count = 0 then []
        else check (i.x.outBusy q) (cond .queueBusy i.pc q) ++ rangeConds i.pc 0 f
          ++ (if f.isNone then i.s.secureConds i.t i.pc (wordUnits d.units) else []))

/-- PUSH (R217). -/
def execPush (t : TileIx) (e : Nat) (s : State) : Host.Outcome State Fault Refusal :=
  issueAt t e 0x10 (fun i =>
    let q := bits i.w 24 22
    let route := bits i.w 28 25
    let bound := bits i.w 42 29
    let d := descOf (i.ext 0)
    if d.count = 0 then (pushConds i, i.background (i.postAt i.s (i.e + 1)))
    else
      (pushConds i,
       i.background (i.s.modTile i.t (fun x => { x with
         push := x.push ++ [⟨q, d.units, i.e, i.s.destOf i.t q route, bound, postOf i.w, i.pc,
           if i.s.pathFull i.t q then some i.s.nowStall else none⟩] })))) s

/-- What halts a PULL. -/
def pullConds (i : Issue) : List Cond :=
  let q := bits i.w 24 22
  let d := descOf (i.ext 0)
  let f := d.fault? true
  check (i.s.queueAbsent i.t q) (cond .queueAbsent i.pc q) ++ check (bits i.w 42 29 == 0) (cond .boundZero i.pc 0x11)
    ++ (if d.count = 0 then check (expectOf i.w ≠ 0) (cond .sizeZeroExpect i.pc (expectOf i.w))
        else check (i.x.inBusy q) (cond .queueBusy i.pc (q + 8)) ++ rangeConds i.pc 0 f
          ++ (if f.isNone then i.s.secureConds i.t i.pc (wordUnits d.units) else []))

/-- PULL (R218). -/
def execPull (t : TileIx) (e : Nat) (s : State) : Host.Outcome State Fault Refusal :=
  issueAt t e 0x11 (fun i =>
    let q := bits i.w 24 22
    let bound := bits i.w 42 29
    let d := descOf (i.ext 0)
    if d.count = 0 then (pullConds i, i.background (i.postAt i.s (i.e + 1)))
    else
      (pullConds i,
       i.background (i.s.modTile i.t (fun x => { x with
         pull := x.pull ++ [⟨q, d.units, 0, i.e, bound, expectOf i.w, postOf i.w, i.pc,
           if (x.rxQ q).isEmpty then some i.s.nowStall else none⟩] })))) s

/-- The first item of a list that passes a test, and the list without it. -/
def takeItem {α : Type} (p : α → Bool) : List α → Option (α × List α)
  | [] => none
  | a :: l => if p a then some (a, l) else (takeItem p l).map (fun r => (r.1, a :: r.2))

/-- The first flag set of a path with no word before it. -/
def firstFlag : List Item → Option (Nat × List Item)
  | [] => none
  | .word _ _ _ :: _ => none
  | .flag f _ :: l => some (f, l)

/-- The first flag set of a destination's list with no word of its own out queue before it, in this list or in `other`, the list of
the same tile's other die-network queue (R135). -/
def firstDnFlag (other : List DnItem) (before : List Nat) : List DnItem → Option (Nat × List DnItem)
  | [] => none
  | ⟨src, n, .word b g d⟩ :: l => (firstDnFlag other (src :: before) l).map (fun r => (r.1, ⟨src, n, .word b g d⟩ :: r.2))
  | ⟨src, n, .flag f d⟩ :: l =>
    if before.contains src || other.any (fun i => i.src == src && i.item.isWord && decide (i.seq < n)) then
      (firstDnFlag other before l).map (fun r => (r.1, ⟨src, n, .flag f d⟩ :: r.2))
    else some (f, l)

/-- A word that has come to the end of its path, taken from it: the word, and the state without it. -/
def State.arriving (s : State) (t q : Nat) : Option (RxWord × State) :=
  if q < 4 then
    match s.neighbour t q with
    | none => none
    | some n =>
      let o := (s.tile n).outQ (opposite q)
      match takeItem Item.isWord o.mid with
      | some (.word b g _, mid) => some (⟨b, g⟩, (s.modTile n (fun x => x.setOut (opposite q) ⟨o.stage, mid⟩)).moveOut n (opposite q))
      | _ =>
        if (s.tile n).halted || s.midRoom n (opposite q) ≠ 0 then none
        else
          match takeItem Item.isWord o.stage with
          | some (.word b g _, st) => some (⟨b, g⟩, (s.modTile n (fun x => x.setOut (opposite q) ⟨st, o.mid⟩)).moveOut n (opposite q))
          | _ => none
  else
    let k := 2 * t + (q - 4)
    match takeItem (fun (d : DnItem) => d.item.isWord) (Table.get [] s.dn k) with
    | some (⟨_, _, .word b g _⟩, l) => some (⟨b, g⟩, ({ s with dn := Table.set [] s.dn k l }).dnWake k)
    | _ => none

/-- The clocks along the path into in queue `q` run: the tile's own, and those of the bypasses on it (R64, R125). -/
def State.pathClocked (s : State) (t q : Nat) : Bool :=
  s.tileClocked t && (if q = 0 ∨ q = 2 then
    match s.neighbour t q with
    | none => false
    | some n =>
      let lo := min (tileRow t) (tileRow n)
      (List.range (max (tileRow t) (tileRow n) - lo - 1)).all (fun i =>
        s.tileClocked (tileAt (tileDie t) (tileCol t) (lo + 1 + i)))
    else true)

/-- QUEUE_WORD_ARRIVAL (R126, R128, R129): the next word on the path of in queue `q` reaches the tile's receive buffer in
cycle `e`, if it has room; a stalled pull finds it there. -/
def execQueueWordArrival (t : TileIx) (q : Fin 6) (e : Nat) (s : State) : Host.Outcome State Fault Refusal :=
  let s := s.begin
  if !s.tileEvent t e || !s.pathClocked t q then .next s
  else
    let s := s.enterCycle t e
    if 16 ≤ ((s.tile t).rxQ q).length then .next s
    else
      match s.arriving t q with
      | none => .next s
      | some (w, s) => .next (s.modTile t (fun x => x.setRx q (x.rxQ q ++ [w])))

/-- A flag set that has come to the end of its path. -/
def State.arrivingFlag (s : State) (t q : Nat) : Option (Nat × State) :=
  if q < 4 then
    match s.neighbour t q with
    | none => none
    | some n =>
      let o := (s.tile n).outQ (opposite q)
      match firstFlag o.mid with
      | some (f, mid) => some (f, (s.modTile n (fun x => x.setOut (opposite q) ⟨o.stage, mid⟩)).moveOut n (opposite q))
      | none =>
        if !o.mid.isEmpty || (s.tile n).halted then none
        else (firstFlag o.stage).map (fun r =>
          (r.1, (s.modTile n (fun x => x.setOut (opposite q) ⟨r.2, o.mid⟩)).moveOut n (opposite q)))
  else
    let k := 2 * t + (q - 4)
    (firstDnFlag (Table.get [] s.dn (2 * t + (1 - (q - 4)))) [] (Table.get [] s.dn k)).map
      (fun r => (r.1, { s with dn := Table.set [] s.dn k r.2 }))

/-- FLAG_SET_ARRIVAL (R135, R136, R219): a set on flag lane `q` reaches the tile in cycle `e`; it applies at the cycle's end. -/
def execFlagSetArrival (t : TileIx) (q : Fin 6) (e : Nat) (s : State) : Host.Outcome State Fault Refusal :=
  let s := s.begin
  if !s.tileEvent t e || !s.pathClocked t q then .next s
  else
    let s := s.enterCycle t e
    match s.arrivingFlag t q with
    | none => .next s
    | some (f, s) => .next (s.modTile t (fun x => x.setFlag f q x.pc))

/-- QUEUE_WAIT_BOUND (R127, R194): in cycle `e` a queue stall has outlasted its bound. -/
def execQueueWaitBound (t : TileIx) (e : Nat) (s : State) : Host.Outcome State Fault Refusal :=
  cycleEvent t e (fun s => !(s.expiredQueues t).isEmpty) s

/-- FLAG_WAIT_BOUND (R134, R194): in cycle `e` a flag wait has outlasted its bound. -/
def execFlagWaitBound (t : TileIx) (e : Nat) (s : State) : Host.Outcome State Fault Refusal :=
  cycleEvent t e (fun s => !(s.expiredFlag t).isEmpty) s

/-- The present cycle of a clocked tile passes with a condition that no instruction raised, weighed with the cycle's others; the
record names the next instruction to issue (R203). A tile whose clock stands halts as it is. -/
def State.haltCycle (s : State) (t : Nat) (c : Nat → Cond) : State :=
  let s := s.enterCycle t (s.nowOf t)
  let k := c (s.tile t).nextPc
  if s.tileClocked t then tileCycle s t [k] else s.haltTile t k

/-- SEQUENCER_PARITY (R203, R204): the record names the next instruction to issue and the failing structure. -/
def execSequencerParity (t : TileIx) (structure' : Word) (s : State) : Host.Outcome State Fault Refusal :=
  occurs s.tilesUp (fun s => s.haltCycle t (fun pc => cond .sequencerParity pc structure'.toNat)) s

/-- DATAPATH_PARITY (R203, R204): unit 1, or 2 for the vector unit. -/
def execDatapathParity (t : TileIx) (vector : Bool) (structure' : Word) (s : State) : Host.Outcome State Fault Refusal :=
  occurs s.tilesUp (fun s => s.haltCycle t (fun pc =>
    { cond .datapathParity pc structure'.toNat with unit' := if vector then 2 else 1 })) s

/-- What a halt-clear leaves of a tile (R141, R159, R213): its placed program, its clock, its lanes, and accesses that will
still write but not post. -/
def Tile.cleared (x : Tile) : Tile :=
  { Tile.reset with
    prog := x.prog, now := x.now, nextIssue := x.now, lanes := x.lanes, phase := x.phase
    canaryMeasure := x.canaryMeasure, worst := x.worst, tests := x.tests
    accesses := x.accesses.map (fun a => { a with post := 0, stop := none })
    out := (x.out.map (fun e => (e.1, { e.2 with stage := [] }))).filter (fun e => !e.2.mid.isEmpty) }

/-- Words a halt-clear discards: those in the receive buffers and in the out stages. -/
def Tile.heldWords (x : Tile) : Nat :=
  x.rx.foldl (fun n e => n + e.2.length) 0 + x.out.foldl (fun n e => n + wordCount e.2.stage) 0

/-- A halt-clear of tile `t` (R141, R142). -/
def State.haltClear (s : State) (t : Nat) : State :=
  let x := s.tile t
  ((s.stopTile t).modTile t Tile.cleared |>.bump .TIL_QUEUE_DROP_dropped t x.heldWords).set .TIL_HALT_REASON_valid t 0

/-- A write of 1 to halt_clear: refused while a plan executes or is armed. -/
def tileHaltClear (t : Nat) (s : State) : State :=
  if s.planState = .idle || s.planState = .loaded || s.planState = .stopped || s.planState = .faulted then s.haltClear t
  else s.set .TIL_STATUS_clear_reject t 1

/-- TILE_HALT_CLEAR (R141). -/
def execTileHaltClear (t : TileIx) (s : State) : Host.Outcome State Fault Refusal := occurs s.fieldUp (tileHaltClear t) s

/-- A write of 1 to force_halt (R145). -/
def forceHalt (t : Nat) (s : State) : State :=
  if s.planState = .idle || s.planState = .loaded || s.planState = .stopped then
    s.haltCycle t (fun pc => cond .forcedHalt pc 0)
  else s.set .TIL_STATUS_clear_reject t 1

/-- FORCE_HALT (R145). -/
def execForceHalt (t : TileIx) (s : State) : Host.Outcome State Fault Refusal := occurs s.fieldUp (forceHalt t) s

/-- TIL_HALT_BEAT_LO_READ (R144): the read answers the low half and latches the high half for the agent. -/
def execTilHaltBeatLoRead (a : Agent) (t : TileIx) (s : State) : Host.Outcome State Fault Refusal :=
  occurs (s.agentUp a) (fun s =>
    if !s.fieldUp then s.offlineRead else (s.latch a .TIL_HALT_BEAT_HI t (s.get .TIL_HALT_BEAT_HI_beat_hi t)).emit
      (.readData (s.get .TIL_HALT_BEAT_LO_beat_lo t))) s

end Sys2Proof.Machine
end

