-- ==== Sys2Proof/Machine/Mac.lean ====
section
/-! DEFINITION. MMA.PLANE and MMA (R119 to R121, R184, R222 to R227) and their completions. -/

namespace Sys2Proof.Machine

/-- Mode of the voice in force; OFF without one (R116). -/
def Tile.mode (x : Tile) : Nat := (x.voice.map voiceMode).getD 0

/-- Formats that no MAC mode takes (R119, R222). -/
def noMacFmt (c : Nat) : Bool := c == 0 || c == 12

/-- MMA.PLANE's format conditions (R184, R222). -/
def planeFmtConds (pc mode wfmt : Nat) (loading : Bool) : List Cond :=
  check (decide (wfmt ≥ 13)) (cond .formatReserved pc wfmt)
    ++ check (noMacFmt wfmt) (cond .formatContext pc wfmt)
    ++ check (!loading && decide (wfmt < 13) && !noMacFmt wfmt && !((modeWeights mode).contains wfmt))
        (cond .voiceModeMismatch pc (mode + 2 ^ 8 * wfmt))

/-- The first column with a unit past the scratchpad, elements first, then scales, then side entries (R223). -/
def planeOut (f : Fmt) (d k0 dd : Nat) (b : Bases) : Option Nat :=
  let cols := List.range 32
  match cols.find? (fun j => decide (b.elem + (planeBytes f d k0 dd j).2 / 32 > 0x7FFF)) with
  | some j => some j
  | none =>
    match (if f.block = 0 then none else cols.find? (fun j => decide (b.scale + planeBlock f d k0 j / 32 > 0x7FFF))) with
    | some j => some j
    | none => if f = .split4 then cols.find? (fun j => decide (b.side + 4 * planeBlock f d k0 j / 32 > 0x7FFF)) else none

/-- Is plane `p` used by an MMA in flight (R224)? -/
def Tile.planeInUse (x : Tile) (p : Nat) : Bool := match x.mma with | some m => m.plane == p | none => false

/-- What halts an MMA.PLANE. -/
def planeConds (i : Issue) : List Cond :=
  let p := bits i.w 22 22
  let wfmt := bits i.w 26 23
  let d := bits i.w 42 27
  let k0 := bits i.w 58 43
  let b := basesOf (i.ext 0)
  let mode := i.x.mode
  let dd := modeDepth mode
  let loading := i.x.voiceLoad.isSome
  let misaligned := d == 0 || d % depthMultiple wfmt != 0 || (dd != 0 && k0 % dd != 0) || decide (k0 + dd > d)
    || (wfmt == 10 && b.elem % 2 == 1)
  let f := (Fmt.ofCode wfmt).getD .mxfp4
  let known := decide (wfmt < 13) && !noMacFmt wfmt && decide (dd > 0)
  let out := if known then planeOut f d k0 dd b else none
  let (ue, us, ux) := if known then planeUnits f d k0 dd b else ([], [], [])
  check loading (cond .voiceBusy i.pc 0x21) ++ planeFmtConds i.pc mode wfmt loading
    ++ check misaligned (cond .blockAlign i.pc (d + 2 ^ 16 * k0))
    ++ check (i.x.planeLoad.isSome || i.x.planeInUse p) (cond .unitBusy i.pc 0x21)
    ++ (match out with | none => [] | some j => [cond .spadRange i.pc j])
    ++ i.s.secureConds i.t i.pc (ue ++ us ++ ux)

/-- The load that an MMA.PLANE starts. -/
def planeLoadOf (i : Issue) : PlaneLoad :=
  let wfmt := bits i.w 26 23
  let d := bits i.w 42 27
  let k0 := bits i.w 58 43
  let b := basesOf (i.ext 0)
  let dd := modeDepth i.x.mode
  let known := decide (wfmt < 13) && !noMacFmt wfmt && decide (dd > 0)
  let (ue, us, ux) := if known then planeUnits ((Fmt.ofCode wfmt).getD .mxfp4) d k0 dd b else ([], [], [])
  ⟨bits i.w 22 22, wfmt, i.x.mode, d, k0, b.elem, b.scale, b.side, ue.length, us.length, ue ++ us ++ ux, [], i.e, postOf i.w, i.pc⟩

/-- MMA.PLANE (R222 to R224). -/
def execMmaPlane (t : TileIx) (e : Nat) (s : State) : Host.Outcome State Fault Refusal :=
  issueAt t e 0x21 (fun i =>
    (planeConds i, i.background (i.s.modTile i.t (fun x => { x with
      planes := x.planes.set (bits i.w 22 22) none, planeLoad := some (planeLoadOf i) })))) s

/-- MMA_PLANE_COMPLETE (R199): 4 cycles after its last unit was read, a plane is usable and its post applies. -/
def execMmaPlaneComplete (t : TileIx) (e : Nat) (s : State) : Host.Outcome State Fault Refusal :=
  let load := (s.tile t).planeLoad.isSome
  cycleEvent t e (fun s => load && (s.tile t).planeLoad.isNone && !(s.tile t).halted) s

/-- The kind and exponent an accumulator row will have after the MMA in flight (R166, R224). -/
def Tile.rowKind (x : Tile) (r : Nat) : Bool × Int :=
  let row := Table.get AccRow.reset x.acc r
  match x.mma with
  | some m =>
    if m.init ∧ m.accBase ≤ r ∧ r < m.accBase + m.rows then
      (modeInt m.mode, if modeInt m.mode then m.x else 0) else (row.int48, row.x)
  | none => (row.int48, row.x)

/-- Does a running VRUN use an accumulator row below `n` (R201)? The lowest such row at or above `lo`. -/
def Tile.vrunRow (x : Tile) (lo hi : Nat) : Option Nat :=
  let n := (x.vrunResults.map VrunResult.rows).foldl max
    (match x.vrun, x.voice with
     | some v, some img => rangeRows img v.start v.count v.passes
     | _, _ => 0)
  if lo < n ∧ lo ≤ hi then some lo else none

/-- The first stream position of an MMA past its descriptors (R226): unit index, and extension word. -/
def rowsOut (f : Fmt) (d k0 dd rows nElem nScale : Nat) : Option (Nat × Nat) :=
  (List.range rows).findSome? (fun k =>
    let (iu, si) := rowIndices f d k0 dd k
    match iu.find? (fun i => decide (i ≥ nElem)) with
    | some i => some (i, 0)
    | none => (si.find? (fun i => decide (i ≥ nScale))).map (fun i => (i, 1)))

/-- The exponent of the rows that an MMA adds to: its x_exp in an INT48 mode (R166, R167). -/
def mmaExp (i : Issue) : Int := if modeInt i.x.mode then toSigned 10 (bits i.w 53 44) else 0

/-- What halts an MMA. -/
def mmaConds (i : Issue) : List Cond :=
  let base := bits i.w 27 22
  let rm1 := bits i.w 33 28
  let rows := rm1 + 1
  let init := bit i.w 34
  let p := bits i.w 35 35
  let wfmt := bits i.w 39 36
  let afmt := bits i.w 43 40
  let src := bit i.w 54
  let q := bits i.w 57 55
  let qc := qctlOf (i.ext 0)
  let mode := i.x.mode
  let dd := modeDepth mode
  let isInt := modeInt mode
  let loading := i.x.voiceLoad.isSome
  let pl := (i.x.planes[p]?).join
  let fits := match pl with
    | some k => k.fmt == wfmt && k.mode == mode && mode != 0 && (modeActs mode wfmt).contains afmt
    | none => false
  let planeLoading := match i.x.planeLoad with | some k => k.plane == p | none => false
  let wantX := mmaExp i
  let mism := if init then none
    else (List.range rows).find? (fun k => decide (base + k ≤ 63 ∧ i.x.rowKind (base + k) ≠ (isInt, wantX)))
  let f := (Fmt.ofCode afmt).getD .mxfp4
  let de := descOf (i.ext 0)
  let ds := descOf (i.ext 1)
  let plain := afmt == 1 || afmt == 2
  let spad := if src then [] else
    rangeConds i.pc 0 (de.fault? false) ++ (if plain then [] else rangeConds i.pc 1 (ds.fault? false))
  let inside := if src || !spad.isEmpty || !fits then []
    else
      (match pl with
       | none => []
       | some k =>
         match rowsOut f k.depth k.k0 dd rows de.count (if plain then 0 else ds.count) with
         | none => []
         | some (u, x) => [cond .spadRange i.pc (u % 2 ^ 16 + 2 ^ 16 * x)])
  let secure := if src || !spad.isEmpty then []
    else i.s.secureConds i.t i.pc (de.units ++ (if plain then [] else ds.units))
  let queue := if !src then [] else
    check (qc.bound == 0) (cond .boundZero i.pc 0x20)
      ++ check (!plain && (qc.frameN == 0 || decide (qc.frameN > 64))) (cond .frameSize i.pc qc.frameN)
      ++ check (i.s.queueAbsent i.t q) (cond .queueAbsent i.pc q)
      ++ check (!(i.s.queueAbsent i.t q) && i.x.inBusy q) (cond .queueBusy i.pc (q + 8))
  check loading (cond .voiceBusy i.pc 0x20)
    ++ check (decide (wfmt ≥ 13)) (cond .formatReserved i.pc wfmt)
    ++ check (decide (afmt ≥ 13)) (cond .formatReserved i.pc afmt)
    ++ check (noMacFmt wfmt) (cond .formatContext i.pc wfmt)
    ++ check (noMacFmt afmt || (src && (mode == 5 || mode == 6 || mode == 7))) (cond .formatContext i.pc afmt)
    ++ check (!loading && !fits) (cond .voiceModeMismatch i.pc (mode + 2 ^ 8 * wfmt + 2 ^ 12 * afmt))
    ++ check (planeLoading || i.x.mma.isSome) (cond .unitBusy i.pc 0x20)
    ++ check (decide (base + rm1 > 63)) (cond .accRowRange i.pc (base + 2 ^ 8 * rm1))
    ++ (match mism with | none => [] | some k => [cond .accRowMismatch i.pc (base + k)])
    ++ (match i.x.vrunRow base (base + rm1) with | none => [] | some r => [cond .latencyHazard i.pc r])
    ++ spad ++ inside ++ secure ++ queue

/-- The MMA that starts. -/
def mmaOf (i : Issue) : MmaOp :=
  let afmt := bits i.w 43 40
  let src := bit i.w 54
  let q := bits i.w 57 55
  let qc := qctlOf (i.ext 0)
  ⟨i.e, 0, bits i.w 33 28 + 1, bits i.w 27 22, bit i.w 34, bits i.w 35 35, i.x.mode, afmt, mmaExp i
    , if src then some (q, qc.frameN, qc.bound) else none, if src then [] else (descOf (i.ext 0)).units
    , if src || (afmt == 1 || afmt == 2) then [] else (descOf (i.ext 1)).units, InStream.none', expectOf i.w, postOf i.w, i.pc
    , if src && (i.x.rxQ q).isEmpty then some i.s.nowStall else none⟩

/-- MMA (R120, R121, R184, R201, R224 to R227). -/
def execMma (t : TileIx) (e : Nat) (s : State) : Host.Outcome State Fault Refusal :=
  issueAt t e 0x20 (fun i => (mmaConds i, i.background (i.s.modTile i.t (fun x => { x with mma := some (mmaOf i) })))) s

/-- MMA_COMPLETE (R120, R199): 11 cycles after its last row entered, an MMA's rows are readable and its post applies. -/
def execMmaComplete (t : TileIx) (e : Nat) (s : State) : Host.Outcome State Fault Refusal :=
  cycleEvent t e (fun s => (s.tile t).mmaResults.any (fun r => r.cycle == e)) s

end Sys2Proof.Machine
end

