-- ==== Sys2Proof/Machine/Vector.lean ====
section
/-! DEFINITION. VRUN (R122, R187, R192, R201, R228 to R234) and its completion. -/

namespace Sys2Proof.Machine

/-- The first micro-op of a range that a test fails on, with its index (R192). -/
def firstMicro (ms : List Micro) (start : Nat) (p : Micro → Bool) : Option (Nat × Micro) :=
  ((List.range ms.length).map (fun k => (start + k, ms.getD k (microOf 0 0)))).find? (fun e => p e.2)

/-- Scratchpad conditions of a micro-op over all passes (R186, R207, R231). -/
def microSpad (s : State) (t pc passes : Nat) (m : Micro) : List Cond :=
  if m.readsSpad || m.writesSpad then
    let d := descOf m.word
    let u := max (if m.readsSpad then unitsPerPass m.srcFmt else 0) (if m.writesSpad then unitsPerPass m.dstFmt else 0)
    match d.fault? false with
    | some i => rangeConds pc 0 (some i)
    | none =>
      check (decide (d.count < u * passes)) (cond .spadRange pc d.count) ++ s.secureConds t pc d.units
  else []

/-- Queue conditions of a micro-op (R124, R188, R200). -/
def microQueue (s : State) (t pc : Nat) (m : Micro) : List Cond :=
  let x := s.tile t
  let qc := qctlOf m.word
  let one (q : Option Nat) (out : Bool) (fmt : Nat) : List Cond :=
    match q with
    | none => []
    | some q =>
      if s.queueAbsent t q then [cond .queueAbsent pc q]
      else check (if out then x.outBusy q else x.inBusy q) (cond .queueBusy pc (q + (if out then 0 else 8)))
        ++ check (qc.frameN == 0 || decide (qc.frameN > 64)) (cond .frameSize pc qc.frameN)
  one m.inQueue false m.srcFmt ++ one m.outQueue true m.dstFmt

/-- Vector registers that results still to come were written to (R229). -/
def Tile.pendingVregs (x : Tile) : List Nat := x.vrunResults.flatMap (fun r => r.vregs)

/-- The lowest accumulator row below `n` that an MMA claims (R201). -/
def Tile.claimedRow (x : Tile) (n : Nat) : Option Nat :=
  let spans := (match x.mma with | some m => [(m.accBase, m.accBase + m.rows - 1)] | none => [])
    ++ x.mmaResults.map (fun r => (r.lo, r.hi))
  (List.range (min n 64)).find? (fun r => spans.any (fun p => decide (p.1 ≤ r ∧ r ≤ p.2)))

/-- Does a VRUN have no pass or no micro-op to run? -/
def vrunEmpty (i : Issue) : Bool := bits i.w 35 29 == 0 || bits i.w 47 36 == 0

/-- The micro-ops of a VRUN's range; none where it passes the end of the microprogram. -/
def vrunMicros (i : Issue) : List Micro :=
  let img := i.x.voice.getD (zeros 8192)
  let start := bits i.w 28 22
  let count := bits i.w 35 29
  if start + count > voiceMicroLen img then [] else rangeMicros img start count

/-- What halts a VRUN whose voice is in force. -/
def vrunChecks (i : Issue) : List Cond :=
  let start := bits i.w 28 22
  let count := bits i.w 35 29
  let passes := bits i.w 47 36
  let bound := bits i.w 61 48
  let img := i.x.voice.getD (zeros 8192)
  let past := decide (start + count > voiceMicroLen img)
  let ms := vrunMicros i
  let ins := (ms.filterMap Micro.inQueue).eraseDups
  let touches := ms.any (fun m => m.inQueue.isSome || m.outQueue.isSome)
  let reads := ms.flatMap Micro.sources
  let n := if ms.any Micro.usesAcc then 2 * passes else 0
  check past (cond .microRange i.pc (start + 2 ^ 8 * count))
    ++ check i.x.vrun.isSome (cond2 .unitBusy i.pc 0x28)
    ++ (match firstMicro ms start Micro.invalid with | none => [] | some (k, _) => [cond .microopInvalid i.pc k])
    ++ (ms.flatMap (fun m => match m.formatHalt with
        | some 0x50 => [cond .formatReserved i.pc m.fmt]
        | some _ => [cond .formatContext i.pc m.fmt]
        | none => []))
    ++ (ms.flatMap (fun m => check (m.opcode == 0x90 && decide (m.table ≥ voiceTables img))
        (cond .tableAbsent i.pc (m.table + 2 ^ 16 * voiceTables img))))
    ++ ms.flatMap (microSpad i.s i.t i.pc passes) ++ ms.flatMap (microQueue i.s i.t i.pc)
    ++ check (decide (n > 64)) (cond .accRowRange i.pc (64 % 64 + 2 ^ 8))
    ++ check (touches && bound == 0) (cond .boundZero i.pc 0x28)
    ++ check (expectOf i.w ≠ 0 && ins.length != 1) (cond .expectContext i.pc (expectOf i.w))
    ++ (match i.x.claimedRow n with | none => [] | some r => [cond .latencyHazard i.pc r])
    ++ (match reads.find? (fun r => i.x.pendingVregs.contains r) with
        | none => [] | some r => [cond .latencyHazard i.pc r])

/-- What halts a VRUN. -/
def vrunConds (i : Issue) : List Cond :=
  if vrunEmpty i then check (expectOf i.w ≠ 0) (cond .sizeZeroExpect i.pc (expectOf i.w))
  else if i.x.voiceLoad.isSome then cond .voiceBusy i.pc 0x28 :: check i.x.vrun.isSome (cond2 .unitBusy i.pc 0x28)
  else vrunChecks i

/-- The VRUN that starts. -/
def vrunOf (i : Issue) : VrunOp :=
  let stalled := match ((vrunMicros i).head?.bind Micro.inQueue) with
    | some q => if (i.x.rxQ q).isEmpty then some i.s.nowStall else none
    | none => none
  let start := bits i.w 28 22
  ⟨start, bits i.w 35 29, bits i.w 47 36, bits i.w 61 48, expectOf i.w, postOf i.w, i.pc, 0, start, i.e, 0, none, [], [], [], []
    , stalled⟩

/-- VRUN (R228, R229). -/
def execVrun (t : TileIx) (e : Nat) (s : State) : Host.Outcome State Fault Refusal :=
  issueAt t e 0x28 (fun i =>
    if vrunEmpty i then (vrunConds i, i.background (i.postAt i.s (i.e + 1)))
    else (vrunConds i, i.background (i.s.modTile i.t (fun x => { x with vrun := some (vrunOf i) })))) s

/-- VRUN_COMPLETE (R199, R229): the result cycle: what the VRUN wrote is visible, and its post applies unless it went as a
tag. -/
def execVrunComplete (t : TileIx) (e : Nat) (s : State) : Host.Outcome State Fault Refusal :=
  cycleEvent t e (fun s => (s.tile t).vrunResults.any (fun r => r.cycle == e)) s

end Sys2Proof.Machine
end

