-- ==== Sys2Proof/Machine/Tier.lean ====
section
/-! DEFINITION. Tier accesses and fences (R190, R235 to R239, R260) and their completion. -/

namespace Sys2Proof.Machine

/-- The index list's entries read through port B: what the reads meet, and the table rows they name, up to the first that
leaves the range opened to plans (R190, R235). -/
def gatherRows (s : State) (t tier pc taddr tcount : Nat) : List Nat → List Nat × List Cond × State
  | [] => ([], [], s)
  | byte :: rest =>
    let u := byte / 32
    let (bad, s) := if byte % 32 = 0 then s.eccRead t u else (false, s)
    if bad then ([], [cond .spadUncorrectable pc (u + 2 ^ 16)], s)
    else
      let x := leAt (s.spadUnit t u) (byte % 32) 4
      let row := taddr + x * tcount
      if row + tcount > s.planLimit tier then
        ([], [cond (if tier = 1 then .t1Range else .t2Range) pc row], s)
      else
        let (rs, cs, s) := gatherRows s t tier pc taddr tcount rest
        (row :: rs, cs, s)

/-- An access begins: it is outstanding, with what its source holds now (R236), and what the read of an index will meet once the
units before it have moved (R190). -/
def startAccess (i : Issue) (tier : Nat) (store : Bool) (taddrs units : List Nat) (dueDelta : Nat) (stop : Option Cond) (s : State) :
    State :=
  let early := if store then units.map (s.spadUnit i.t) else taddrs.map (s.tierUnit tier)
  s.modTile i.t (fun x => { x with accesses := x.accesses ++ [
    { tier := tier, store := store, taddrs := taddrs, units := units, early := early
      due := if tier = 2 then s.plan.beat + dueDelta else 0, late := false, retired := false, tick := s.time.tick
      post := postOf i.w, pc := i.pc, stop := stop, landing := none }] })

/-- Does an access move no unit? -/
def loadEmpty (i : Issue) : Bool := (descOf (i.ext 1)).count == 0 && (tierOf (i.ext 0)).tcount == 0

/-- What halts a LOAD or STORE. -/
def loadConds (tier : Nat) (i : Issue) : List Cond :=
  let td := tierOf (i.ext 0)
  let d := descOf (i.ext 1)
  let lim := i.s.planLimit tier
  let f := d.fault? false
  check (tier == 2 && bits i.w 33 22 == 0) (cond .dueBeatInvalid i.pc (opcodeOf i.w))
    ++ check (decide (d.count ≠ td.tcount)) (cond .sizeMismatch i.pc td.tcount)
    ++ (if loadEmpty i then []
        else check (decide (i.x.accesses.length ≥ 16)) (cond .accessLimit i.pc (opcodeOf i.w))
          ++ check (decide (td.taddr + td.tcount > lim)) (cond (if tier = 1 then .t1Range else .t2Range) i.pc (max td.taddr lim))
          ++ rangeConds i.pc 1 f ++ (if f.isNone then i.s.secureConds i.t i.pc d.units else []))

/-- LOAD and STORE (R190, R235, R237, R238). -/
def loadStore (t e op tier : Nat) (store : Bool) (s : State) : Host.Outcome State Fault Refusal :=
  issueAt t e op (fun i =>
    let td := tierOf (i.ext 0)
    if loadEmpty i then (loadConds tier i, i.background (i.postAt i.s (i.e + 1)))
    else
      (loadConds tier i, i.background (startAccess i tier store ((List.range td.tcount).map (· + td.taddr)) (descOf (i.ext 1)).units
        (bits i.w 33 22) none i.s))) s

/-- Units that a GATHER or SCATTER moves. -/
def gatherCount (i : Issue) : Nat := (indexOf (i.ext 1)).rows * (tierOf (i.ext 0)).tcount

/-- Does it move no unit? -/
def gatherEmpty (i : Issue) : Bool := (descOf (i.ext 2)).count == 0 && gatherCount i == 0

/-- What halts a GATHER or SCATTER before its index list is read. -/
def gatherConds (tier : Nat) (i : Issue) : List Cond :=
  let il := indexOf (i.ext 1)
  let d := descOf (i.ext 2)
  let f := d.fault? false
  let listUnits := (List.range (ceilDiv (4 * il.rows) 32)).map (· + il.ibase)
  let pastEnd := listUnits.any (fun u => decide (u > 0x7FFF))
  check (tier == 2 && bits i.w 33 22 == 0) (cond .dueBeatInvalid i.pc (opcodeOf i.w))
    ++ check (decide (d.count ≠ gatherCount i)) (cond .sizeMismatch i.pc (gatherCount i % 2 ^ 16))
    ++ (if gatherEmpty i then []
        else check (decide (i.x.accesses.length ≥ 16)) (cond .accessLimit i.pc (opcodeOf i.w))
          ++ rangeConds i.pc 2 f ++ check pastEnd (cond .spadRange i.pc ((0x8000 - il.ibase) * 8 % 2 ^ 16 + 2 ^ 16))
          ++ (if f.isNone then i.s.secureConds i.t i.pc (listUnits.filter (fun u => decide (u ≤ 0x7FFF)) ++ d.units) else []))

/-- The table rows that its index list names, read from the scratchpad. -/
def gatherList (tier : Nat) (i : Issue) : List Nat × List Cond × State :=
  let td := tierOf (i.ext 0)
  let il := indexOf (i.ext 1)
  gatherRows i.s i.t tier i.pc td.taddr td.tcount ((List.range il.rows).map (fun k => 32 * il.ibase + 4 * k))

/-- GATHER and SCATTER (R190, R235, R237, R238): rows before one that leaves the range move before the tile halts. -/
def gatherScatter (t e op tier : Nat) (store : Bool) (s : State) : Host.Outcome State Fault Refusal :=
  issueAt t e op (fun i =>
    let td := tierOf (i.ext 0)
    if gatherEmpty i then (gatherConds tier i, i.background (i.postAt i.s (i.e + 1)))
    else
      let (rows, ix, s) := gatherList tier i
      let taddrs := rows.flatMap (fun r => (List.range td.tcount).map (· + r))
      (gatherConds tier i, i.background
        (startAccess i tier store taddrs ((descOf (i.ext 2)).units.take taddrs.length) (bits i.w 33 22) ix.head? s))) s

/-- LOAD.T1. -/
def execLoadT1 (t : TileIx) (e : Nat) (s : State) : Host.Outcome State Fault Refusal := loadStore t e 0x30 1 false s
/-- STORE.T1. -/
def execStoreT1 (t : TileIx) (e : Nat) (s : State) : Host.Outcome State Fault Refusal := loadStore t e 0x31 1 true s
/-- GATHER.T1. -/
def execGatherT1 (t : TileIx) (e : Nat) (s : State) : Host.Outcome State Fault Refusal := gatherScatter t e 0x32 1 false s
/-- LOAD.T2. -/
def execLoadT2 (t : TileIx) (e : Nat) (s : State) : Host.Outcome State Fault Refusal := loadStore t e 0x34 2 false s
/-- STORE.T2. -/
def execStoreT2 (t : TileIx) (e : Nat) (s : State) : Host.Outcome State Fault Refusal := loadStore t e 0x35 2 true s
/-- GATHER.T2. -/
def execGatherT2 (t : TileIx) (e : Nat) (s : State) : Host.Outcome State Fault Refusal := gatherScatter t e 0x36 2 false s
/-- SCATTER.T2. -/
def execScatterT2 (t : TileIx) (e : Nat) (s : State) : Host.Outcome State Fault Refusal := gatherScatter t e 0x37 2 true s

/-- FENCE of a tier (R239): released at issue if no covered access is outstanding. -/
def fence (t e op tier : Nat) (s : State) : Host.Outcome State Fault Refusal :=
  issueAt t e op (fun i =>
    if i.x.storesOut tier then
      ([], i.s.modTile i.t (fun x => { x with block := some ⟨.fence tier, postOf i.w, i.pc, i.s.nowStall⟩ }))
    else i.complete i.s 0) s

/-- FENCE.T1. -/
def execFenceT1 (t : TileIx) (e : Nat) (s : State) : Host.Outcome State Fault Refusal := fence t e 0x33 1 s
/-- FENCE.T2. -/
def execFenceT2 (t : TileIx) (e : Nat) (s : State) : Host.Outcome State Fault Refusal := fence t e 0x38 2 s

/-- One unit of an access, `k`, is read and moves; `late` has bit `k` for a source read at completion rather than at issue (R236);
`ce` and `ue` name the units whose tier read was corrected or not correctable (R261, R267). A unit of a STORE goes into the tier; one
of a LOAD is among those to be written in scratchpad. -/
def moveUnit (t : Nat) (a : TierAccess) (late : Nat) (ce ue : List Nat) (acc : List (Nat × List Byte) × List Cond × State) (k : Nat) :
    List (Nat × List Byte) × List Cond × State :=
  let (ws, cs, s) := acc
  let ta := a.taddrs.getD k 0
  let u := a.units.getD k 0
  let s := s.countMoved a.tier 0 ta
  if a.store then
    let (bad, s) := s.eccRead t u
    if bad then (ws, cs ++ [cond .spadUncorrectable a.pc (u + 2 ^ 16)], s)
    else (ws, cs, s.putTier a.tier ta (if bit late k then s.spadUnit t u else a.early.getD k []))
  else
    let (bad, s) := s.tierRead a.tier ta (ce.contains k) (ue.contains k)
    if bad then (ws, cs ++ [cond (if a.tier = 1 then .t1Uncorrectable else .t2Uncorrectable) a.pc ta], s)
    else (ws ++ [(u, if bit late k then s.tierUnit a.tier ta else a.early.getD k [])], cs, s)

/-- TIER_ACCESS_COMPLETE (R235, R236, R239, R262, R267): the tier has done its part of outstanding access `k` of tile `t` by cycle
`e`. The units of a STORE are in the tier; those of a LOAD are written in scratchpad from cycle `e` on, as port B lets them
(`landAccess`). The cycle in which nothing is left to write completes the access (`Tile.completeAccesses`): its token posts unless the
tile has halted or a unit could not be read, and a fence it was the last to hold is released. -/
def execTierAccessComplete (t : TileIx) (k e late : Nat) (ce ue : List Nat) (s : State) :
    Host.Outcome State Fault Refusal :=
  let s := s.begin
  if !s.tileEvent t e then .next s
  else
    let s := s.enterCycle t e
    match (s.tile t).accesses[k]? with
    | none => .next s
    | some a =>
      if a.landing.isSome then .next s
      else
        let r := (List.range a.taddrs.length).foldl (moveUnit t a late ce ue) ([], [], s)
        let cs := if (s.tile t).halted then [] else r.2.1 ++ a.stop.toList
        .next (r.2.2.modTile t (fun x => { x with
          accesses := x.accesses.set k { a with landing := some r.1, stop := lowest cs, post := if cs.isEmpty then a.post else 0 } }))

/-- T1_ACCESS_TIMEOUT (R260): a tier-1 access incomplete 4,096 beats after its issue; the detail names the stack of its first
unit. -/
def execT1AccessTimeout (t : TileIx) (k : Nat) (s : State) : Host.Outcome State Fault Refusal :=
  let due := match (s.tile t).accesses[k]? with
    | some a => a.tier == 1 && decide (a.tick + 4096 ≤ s.time.tick)
    | none => false
  occurs due (fun s =>
    let a := ((s.tile t).accesses[k]?).bind (fun a => a.taddrs.head?)
    s.raiseFatal .t1AccessTimeout (tileDie t + 2 ^ 3 * tileCol t + 2 ^ 8 * tileRow t + 2 ^ 16 * t1Stack (a.getD 0))) s

end Sys2Proof.Machine
end

