-- ==== Sys2Proof/Machine/Memory.lean ====
section
/-! DEFINITION. The scratchpads' background test and secure window (R245 to R250), patrol scrub (R263), failures of the tiers
(R273), and the plan limits (R255, R264, R277). -/

namespace Sys2Proof.Machine

/-- Does the tile wait for a queue, a flag or a token? -/
def Tile.stalled (x : Tile) : Bool :=
  x.tokenStall || x.push.any (fun p => p.stall.isSome) || x.pull.any (fun p => p.stall.isSome)
    || (match x.mma with | some m => m.stall.isSome | none => false)
    || (match x.vrun with | some v => v.stall.isSome | none => false)
    || (match x.block with | some ⟨.flag _ _ _, _, _, _⟩ => true | _ => false)

/-- TIL_STATUS.state (R137, R138, R145): 0 IDLE, 1 RUN, 2 STALLED, 3 VOICING, 4 GATED, 5 HALTED, 6 UNUSED. -/
def State.tileStatus (s : State) (t : Nat) : Nat :=
  let x := s.tile t
  if !s.tileUsed t then 6
  else if x.halted then 5
  else if s.gated t then 4
  else if !x.running then 0
  else if x.voiceLoad.isSome then 3
  else if x.stalled then 2 else 1

/-- A step of bank `b`'s test starts: its next unit is copied into the shadow register, a single-bit error corrected, and every access
is served from there (R245). `found` is what the march will find. -/
def State.startTest (s : State) (t b found : Nat) : State :=
  let u := 4096 * b + Table.get 0 s.testPos (8 * t + b) % 4096
  let single := s.spadErr.find? (2 ^ 15 * t + u) = some 1
  let s := (s.eccRead t u).2
  let s := if single then { s with spadErr := s.spadErr.erase (2 ^ 15 * t + u) } else s
  s.modTile t (fun x => { x with tests := x.tests.put b ⟨u, s.spadUnit t u, 12, found⟩ })

/-- BACKGROUND_TEST_STEP (R245 to R247): the engine of bank `b` of tile `t` starts a step on its next unit, which ends after 12
cycles in which neither port claims the bank (`testCycle`); `found` says what its march finds: 0 nothing, 1 or 2 a cell that leaves the
unit with an error corrected on read or an uncorrectable one. -/
def execBackgroundTestStep (t : TileIx) (b : Fin 8) (found : Fin 3) (s : State) : Host.Outcome State Fault Refusal :=
  let d := tileDie t
  let st := s.tileStatus t
  occurs (s.tileClocked t && s.get .FLD_SPAD_TEST_test_en d == 1 && (st == 0 || st == 4 || st == 6) && s.power != .hush
      && s.get .FLD_SPAD_SECURE_wipe_busy d == 0 && ((s.tile t).tests.find? b).isNone) (fun s => s.startTest t b found) s

/-- PATROL_SCRUB (R261, R263): scrub reads a unit of a stack; `found` is 0 for no error, 1 for a corrected one, else
uncorrectable. The write-back of a corrected unit changes no data. -/
def execPatrolScrub (st : StackIx) (unit' : Nat) (found : Fin 3) (s : State) : Host.Outcome State Fault Refusal :=
  occurs (s.tilesUp && s.get .HBM_CTRL_scrub_hours st != 0 && decide (unit' < 0xA0000000)) (fun s =>
    let a := (7 - st.val) * 0xA0000000 + unit'
    if found = 0 then s else if found = 1 then s.tierCe 1 a else s.t1Error a) s

/-- T1_STACK_FAIL (R273). -/
def execT1StackFail (st : StackIx) (s : State) : Host.Outcome State Fault Refusal :=
  occurs s.tilesUp (fun s => s.raiseFatal .t1StackFail st) s

/-- T2_CHANNEL_FAIL (R273). -/
def execT2ChannelFail (c : ChannelIx) (s : State) : Host.Outcome State Fault Refusal :=
  occurs s.tilesUp (fun s => s.raiseFatal .t2ChannelFail c) s

/-- Is a window of `size` blocks from block `base` within one bank and at most 16 blocks (R248)? -/
def windowOk (base size : Nat) : Bool :=
  decide (size ≤ 16) && (size == 0 || base / 16 == (base + size - 1) / 16)

/-- The window and the secret store are refused: in Manufacture, Returned and Scrapped, and while TAMPER# is asserted (R422,
R423, R428). -/
def State.secretsRefused (s : State) : Bool :=
  s.fused.lifeCycle == 0 || s.fused.lifeCycle == 3 || s.fused.lifeCycle == 4 || s.get .SEC_TAMPER_level 0 == 1

def fldSpadSecureWrite (a : Agent) (d n : Nat) (s : State) : State :=
  let base := bits n 6 0
  let size := bits n 11 7
  let moves := base ≠ s.get .FLD_SPAD_SECURE_base_blk d ∨ size ≠ s.get .FLD_SPAD_SECURE_size_blk d
  if !isSecure a then (if a = .host then s.hostDenied else s).set .FLD_SPAD_SECURE_nonsec_denied d 1
  else if !windowOk base size ∨ (moves ∧ s.planState ≠ .idle) ∨ (bit n 12 ∧ s.secretsRefused) then
    s.set .FLD_SPAD_SECURE_cfg_reject d 1
  else
    let s := ((s.set .FLD_SPAD_SECURE_base_blk d base).set .FLD_SPAD_SECURE_size_blk d size).set .FLD_SPAD_SECURE_open d
      (bits n 12 12)
    let s := if bit n 14 then s.set .FLD_SPAD_SECURE_cfg_reject d 0 else s
    if bit n 15 then s.set .FLD_SPAD_SECURE_nonsec_denied d 0 else s

/-- FLD_SPAD_SECURE_WRITE (R248, R275, R406): by the secure channel set only. -/
def execFldSpadSecureWrite (a : Agent) (d : DieIx) (v : Word) (s : State) : Host.Outcome State Fault Refusal :=
  occurs s.fieldUp (fldSpadSecureWrite a d v.toNat) s

/-- PLAN_LIMIT_LO_WRITE (R277): staged until the next write of the HI register; tier 2 for `true`. -/
def execPlanLimitLoWrite (tier2 : Bool) (v : Word) (s : State) : Host.Outcome State Fault Refusal :=
  occurs s.hubUp (fun s => if tier2 then { s with t2Lo := some v.toNat } else { s with t1Lo := some v.toNat }) s

/-- PLAN_LIMIT_HI_WRITE (R255, R264, R277): the limit is set in plan state IDLE, up to its largest value; any other write has
no effect and sets limit_reject. -/
def execPlanLimitHiWrite (tier2 : Bool) (v : Word) (s : State) : Host.Outcome State Fault Refusal :=
  occurs s.hubUp (fun s =>
    if tier2 then
      let lo := s.t2Lo.getD (s.get .TTM_PLAN_LIMIT_LO_limit_lo 0)
      let hi := bits v.toNat 3 0
      let s := { s with t2Lo := none }
      if s.planState = .idle ∧ lo + 2 ^ 32 * hi ≤ 0x800000000 then
        ((s.set .TTM_PLAN_LIMIT_LO_limit_lo 0 lo).set .TTM_PLAN_LIMIT_HI_limit_hi 0 hi).unlatch .TTM_PLAN_LIMIT_HI 0
      else s.set .TTM_STATUS_limit_reject 0 1
    else
      let lo := s.t1Lo.getD (s.get .HBM_PLAN_LIMIT_LO_limit_lo 0)
      let hi := bits v.toNat 2 0
      let s := { s with t1Lo := none }
      if s.planState = .idle ∧ lo + 2 ^ 32 * hi ≤ 0x4E6000000 then
        ((s.set .HBM_PLAN_LIMIT_LO_limit_lo 0 lo).set .HBM_PLAN_LIMIT_HI_limit_hi 0 hi).unlatch .HBM_PLAN_LIMIT_HI 0
      else s.set .HBM_STATUS_limit_reject 0 1) s

/-- HBM_TTM_LO_READ (R277): the read answers the LO register and latches its HI register for the agent. -/
def execHbmTtmLoRead (a : Agent) (r : TierLo) (s : State) : Host.Outcome State Fault Refusal :=
  occurs (s.agentUp a) (fun s =>
    match r with
    | .t1Limit => (s.latch a .HBM_PLAN_LIMIT_HI 0 (s.get .HBM_PLAN_LIMIT_HI_limit_hi 0)).emit
        (.readData (s.get .HBM_PLAN_LIMIT_LO_limit_lo 0))
    | .t1UeAddr k => if !s.fieldUp then s.offlineRead else (s.latch a .HBM_UE_ADDR_HI k
        (s.get .HBM_UE_ADDR_HI_addr_hi k + 2 ^ 31 * s.get .HBM_UE_ADDR_HI_valid k)).emit
        (.readData (s.get .HBM_UE_ADDR_LO_addr_lo k))
    | .t2Limit => (s.latch a .TTM_PLAN_LIMIT_HI 0 (s.get .TTM_PLAN_LIMIT_HI_limit_hi 0)).emit
        (.readData (s.get .TTM_PLAN_LIMIT_LO_limit_lo 0))
    | .t2UeAddr k => if s.power = .fieldReset then s.offlineRead else (s.latch a .TTM_UE_ADDR_HI k
        (s.get .TTM_UE_ADDR_HI_addr_hi k + 2 ^ 31 * s.get .TTM_UE_ADDR_HI_valid k)).emit
        (.readData (s.get .TTM_UE_ADDR_LO_addr_lo k))) s

end Sys2Proof.Machine
end

