-- ==== Sys2Proof/Machine/LinkOps.lean ====
section
/-! DEFINITION. Named operations of the link layer (chapter 09): flits as bytes, control words, flit times, the receiver's
mode, go-back passes, link-down. -/

namespace Sys2Proof.Machine

/-- A port changed in place. -/
def State.modPort (s : State) (p : Nat) (f : LinkPort → LinkPort) : State := s.setPort p (f (s.port p))

/-- The training state entered now (R289). -/
def State.enter (s : State) (p : Nat) (t : Train) : State :=
  (s.set .LNK_STATUS_state p t.code).modPort p (fun x => { x with entered := s.time.tick })

/-- Flit time in ps (R279). -/
def flitPs (gen width : Nat) : Nat := 10240 / 2 ^ (gen + width)

/-- Slots of one flit time in a measure (R319). -/
def slotsOf (gen width : Nat) : Nat := 640000 / flitPs gen width

/-! ### Flits and control words (R282, R286, R287) -/

/-- A 256-byte flit from its link word, route field and payload, with its CRC (R282, R284). -/
def flitBytes (link route : Nat) (payload : List Byte) : List Byte :=
  withCrc (toLE 4 link ++ toLE 8 route ++ padTo 240 payload)

/-- The link word (R282). -/
def linkWord (kind seq ack vc : Nat) (last replay : Bool) : Nat :=
  kind + 4 * seq + 2 ^ 14 * ack + 2 ^ 26 * vc + 2 ^ 29 * ofBool last + 2 ^ 30 * ofBool replay

/-- The ack a port sends: the highest number accepted in order, 0xFFF before the first (R282). -/
def LinkPort.ack (x : LinkPort) : Nat := if x.accepted then (x.exp + 4095) % 4096 else 0xFFF

/-- The 40 bytes of a control word (R286). -/
def ctrlBytes (c : Ctrl) : List Byte := toLE 1 c.typ ++ toLE 1 (ofBool c.copy) ++ padTo 6 c.short ++ padTo 32 c.body

/-- A CTRL flit of up to six words. -/
def ctrlFlit (x : LinkPort) (cs : List Ctrl) : List Byte :=
  flitBytes (linkWord 1 x.nxt x.ack 0 false false) 0 (cs.flatMap ctrlBytes)

/-- An IDLE flit. -/
def idleFlit (x : LinkPort) : List Byte := flitBytes (linkWord 2 x.nxt x.ack 0 false false) 0 []

/-- A DATA flit. -/
def dataFlit (x : LinkPort) (f : Flit) (replay : Bool) : List Byte :=
  flitBytes (linkWord 0 f.seq x.ack f.vc f.last replay) f.route f.payload

/-- Types sent in the next flit time (R287). -/
def ctrlUrgent (typ : Nat) : Bool := typ = 1 || typ = 2 || typ = 4 || typ = 5 || typ = 8
/-- Types sent twice (R287). -/
def ctrlRepeated (typ : Nat) : Bool := typ = 2 || typ = 8
/-- Types the table of R287 has. -/
def ctrlKnown (typ : Nat) : Bool := 1 ≤ typ && typ ≤ 8

/-- The control words in a CTRL flit's payload (R286). -/
def parseCtrl (payload : List Byte) : List Ctrl :=
  (List.range 6).map (fun i => ⟨leAt payload (40 * i) 1, bit (leAt payload (40 * i + 1) 1) 0, slice payload (40 * i + 2) 6,
    slice payload (40 * i + 8) 32⟩)

/-- A control word queued on a port that is ACTIVE (R288). -/
def State.sendCtrl (s : State) (p typ : Nat) (short body : List Byte) : State :=
  let c : Ctrl := ⟨typ, false, padTo 6 short, padTo 32 body⟩
  if s.train p = .active then
    s.modPort p (fun x => if ctrlUrgent typ then { x with urgent := x.urgent ++ [c] } else { x with normal := x.normal ++ [c] })
  else s

/-- NAK(exp) (R299). -/
def State.sendNak (s : State) (p : Nat) : State := s.sendCtrl p 4 (toLE 2 (s.port p).exp) []

/-! ### Credits (R308) -/

/-- The receive allotment of a dynamic VC. -/
def State.allotment (s : State) (p : Nat) : Nat :=
  if s.get .LNK_STATUS_mode p = 1 then 384 else 768 / (s.get .LNK_STATUS_vc_count p - 1)

/-- Does the port carry the VC (R306)? -/
def State.carries (s : State) (p vc : Nat) : Bool :=
  if s.get .LNK_STATUS_mode p = 1 then vc = 1 || vc = 2 else decide (vc < s.get .LNK_STATUS_vc_count p)

/-- Credit of a dynamic VC. -/
def State.credit (s : State) (p vc : Nat) : Nat :=
  let x := s.port p
  (s.allotment p + Table.get 0 x.peerFreed vc + 65536 - Table.get 0 x.sent vc) % 65536

/-- A flit of a dynamic VC has left the input buffer of port `p` (R308). -/
def State.freeOne (s : State) (p vc : Nat) : State :=
  s.modPort p (fun x => { x with
    freed := Table.set 0 x.freed vc ((Table.get 0 x.freed vc + 1) % 65536)
    freedAt := if x.freedAt.isNone then some s.time.tick else x.freedAt })

/-- A CREDIT word with every freed count (R287, R308). -/
def State.sendCredit (s : State) (p : Nat) : State :=
  let x := s.port p
  (s.sendCtrl p 6 [] ((List.range 7).flatMap (fun v => toLE 2 (Table.get 0 x.freed (v + 1))))).modPort p
    (fun x => { x with freedSent := x.freed, freedAt := none })

/-! ### The receiver's mode (R303, R304) -/

/-- Selective is possible at delay `d` ps: a round trip fits in the reorder buffer (R304). -/
def selectiveFits (d tau : Nat) : Bool := decide (2 * d + 32000 + 2 * tau ≤ 256 * tau)

/-- The mode of a receiver is chosen (R304). -/
def State.chooseMode (s : State) (p : Nat) : State :=
  let d := s.get .BEAT_PORT_DELAY_delay_ps p
  let tau := flitPs (s.get .LNK_STATUS_gen p) (s.get .LNK_STATUS_width p)
  let sel :=
    match (s.port p).cfgRetx with
    | 0 => 0
    | 1 => 1
    | _ => ofBool (selectiveFits d tau)
  (s.set .LNK_STATUS_selective p sel).modPort p
    (fun x => if sel = 0 then { x with modeDelay := d, reorder := [], gaps := [] } else { x with modeDelay := d })

/-- The mode is chosen again when the port delay has changed by more than 10% (R304). -/
def State.rechoose (s : State) (p : Nat) : State :=
  let d := s.get .BEAT_PORT_DELAY_delay_ps p
  let old := (s.port p).modeDelay
  if s.train p = .active && decide (10 * ((d : Int) - old).natAbs > old) then s.chooseMode p else s

/-- The receiver behaves as selective now (R303). -/
def State.selectiveNow (s : State) (p : Nat) : Bool := s.get .LNK_STATUS_selective p = 1 && (s.port p).fallback.isNone

/-- The highest number a selective receiver knows of: held, or named by a gap; `exp - 1` with nothing held. -/
def LinkPort.top (x : LinkPort) : Nat :=
  let far := (x.reorder.map (fun f => (f.seq + 4096 - x.exp) % 4096)) ++
    (x.gaps.map (fun g => (g.first + g.count - 1 + 4096 - x.exp) % 4096))
  match far with
  | [] => (x.exp + 4095) % 4096
  | d :: ds => (x.exp + ds.foldl max d) % 4096

/-- The highest number a selective receiver holds. -/
def LinkPort.topHeld (x : LinkPort) : Option Nat :=
  match x.reorder.map (fun f => (f.seq + 4096 - x.exp) % 4096) with
  | [] => none
  | d :: ds => some ((x.exp + ds.foldl max d) % 4096)

/-- Fallback to go-back, until exp passes the highest number held (R303). -/
def State.fallBack (s : State) (p : Nat) : State :=
  ((s.bump .LNK_REPLAY_sel_fallbacks p 1).modPort p (fun x =>
    { x with fallback := x.topHeld, reorder := [], gaps := [], nakOpen := true })).sendNak p

/-- A good flit reveals that the numbers from `first` up to `seq` are missing (R302, R303). -/
def State.reveal (s : State) (p first seq : Nat) : State :=
  let n := (seq + 4096 - first) % 4096
  if n = 0 ∨ n ≥ 1024 then s
  else if n > 16 ∨ (s.port p).gaps.length ≥ 4 then s.fallBack p
  else (s.modPort p (fun x => { x with gaps := x.gaps ++ [⟨first, n, s.time.tick⟩] })).sendCtrl p 5
    (toLE 2 first ++ toLE 1 n) []

/-- A gap list with one number arrived: it leaves its gap, which may fall in two. -/
def fillGap (seq : Nat) (gs : List Gap) : List Gap :=
  gs.flatMap (fun g =>
    let d := (seq + 4096 - g.first) % 4096
    if d < g.count then
      (if d = 0 then [] else [⟨g.first, d, g.at'⟩]) ++
      (if d + 1 = g.count then [] else [⟨(seq + 1) % 4096, g.count - d - 1, g.at'⟩])
    else [g])

/-! ### The sender's window (R298, R300) -/

/-- The outstanding count and the tick since when the window cap stands reached. -/
def State.noteWindow (s : State) (p : Nat) : State :=
  let n := (s.port p).kept.length
  ((s.set .LNK_WINDOW_outstanding p n).peak .LNK_WINDOW_outstanding_max p n).modPort p
    (fun x => { x with capAt := if n ≥ 1024 then (if x.capAt.isNone then some s.time.tick else x.capAt) else none })

/-- The first `n` kept flits are released (R298). -/
def State.releaseFlits (s : State) (p n : Nat) : State :=
  if n = 0 then s
  else
    (s.modPort p (fun x =>
      { x with una := (x.una + n) % 4096, kept := x.kept.drop n, unaAt := s.time.tick, passes := 0, passUna := none
               resend := x.resend.filter (fun q => decide (n ≤ (q + 4096 - x.una) % 4096))
               pass := x.pass.bind (fun q =>
                 if x.kept.length ≤ n then none
                 else if (q + 4096 - x.una) % 4096 < n then some ((x.una + n) % 4096) else some q) })).noteWindow p

/-- An ack in [una, nxt) releases every flit up to the number it names; any other is stale (R298). -/
def State.takeAck (s : State) (p ack : Nat) : State :=
  let x := s.port p
  let d := (ack + 4096 - x.una) % 4096
  if d < x.kept.length then s.releaseFlits p (d + 1) else s

/-! ### Link-down (R294 to R297) -/

/-- Is the port in the plan (R297)? -/
def State.inPlan (s : State) (p : Nat) : Bool := s.get .LNK_GIVE_in_plan p = 1

/-- The plan states in which a reset or disable of a port in the plan is refused (R297). -/
def State.planRuns (s : State) : Bool :=
  s.planState = .running || s.planState = .resting || s.planState = .stopping

/-- The register fields of a port that a link reset returns to their Reset values, by the Survives column (R13, R438). -/
def linkField (p : Nat) (f : RegField) (i : Nat) : Bool :=
  match f with
  | .RTE_TBL_ADDR_table | .RTE_TBL_ADDR_index | .RTE_TBL_DATA_LO_data_lo | .RTE_TBL_DATA_HI_data_hi => true
  | .BEAT_PORT_DELAY_delay_ps | .BEAT_PORT_SKEW_offset_ps | .BEAT_PORT_SKEW_max_abs_ps
  | .LNK_STATUS_state | .LNK_STATUS_gen | .LNK_STATUS_width | .LNK_STATUS_mode | .LNK_STATUS_vc_count
  | .LNK_STATUS_leader | .LNK_STATUS_selective | .LNK_STATUS_lanes | .LNK_TRAIN_tlk2_fallback
  | .LNK_PEER_LO_peer_serial_lo | .LNK_PEER_HI_peer_serial_hi | .LNK_PEER_INFO_peer_id | .LNK_PEER_INFO_peer_port
  | .LNK_WINDOW_outstanding | .LNK_WINDOW_outstanding_max | .LNK_WINDOW_hold_max | .LNK_EYE_margin
  | .LNK_EYE_worst_lane | .LNK_EYE_margin_min => i == p
  | _ => false

/-- The flits a port discards at link-down with its replay buffer, its reorder buffer, its transmit hold and what it has collected
of packets for this module (R295). -/
def LinkPort.buffered (x : LinkPort) : Nat :=
  x.kept.length + x.reorder.length + x.hold.length + (x.rxPackets.map (fun k => k.payloads.length)).sum

/-- A port with everything of its last training gone. What waits on its dynamic VCs and the FINISH words it has handed to the
router stay. -/
def LinkPort.downed (x : LinkPort) (tick : Nat) : LinkPort :=
  { LinkPort.reset with entered := tick, dyn := x.dyn, owner := x.owner, rxCtrl := x.rxCtrl.filter (fun c => c.typ = 3)
                        dropMeasure := x.dropMeasure, slotUse := x.slotUse, wordIndex := x.wordIndex, vc0Stopped := x.vc0Stopped
                        rr := x.rr, sample := { x.sample with wentDown := true } }

/-- The route field of the abort flit that ends a packet (R330, R334): kind ABORT, flag and via 0, the rest as it was. -/
def abortRoute (route : Nat) : Nat := route - 2 ^ 32 * bits route 39 32 + 2 ^ 32 * 6

/-- The abort flit that ends packet `n` on an output it holds. -/
def abortOn (vc route n rim tick : Nat) : DynFlit := ⟨⟨0, vc, true, abortRoute route, []⟩, false, n, none, rim, tick⟩

/-- Of an input that goes down, the flits that wait for an output port leave its receive buffers; a packet that holds the output
ends there with an abort flit (R295, R334). `ks` are the packets still in progress from the input. -/
def LinkPort.cutInput (p rim tick : Nat) (ks : List Packet) (q : Nat) (x : LinkPort) : LinkPort :=
  let lost := x.dyn.filter (fun d => d.input = some p)
  let held (vc n : Nat) : Bool := x.owner.find? vc == some n
  let whole := (lost.filter (fun d => d.flit.last && held d.flit.vc d.packet)).map
    (fun d => abortOn d.flit.vc d.flit.route d.packet rim tick)
  let cut := (ks.filter (fun k => k.out == q && held k.vc k.number)).map (fun k => abortOn k.vc k.route k.number rim tick)
  { x with dyn := x.dyn.filter (fun d => d.input ≠ some p) ++ whole ++ cut }

/-- Is a flit one that waits from an input? -/
def DynFlit.fromPort (p : Nat) (d : DynFlit) : Bool := d.input == some p

/-- Dynamic flits of an input that wait for an output. -/
def State.waitingFrom (s : State) (p : Nat) : Nat :=
  (s.router.adaptive.filter (DynFlit.fromPort p)).length
    + ((List.range 36).map (fun q => ((s.port q).dyn.filter (DynFlit.fromPort p)).length)).sum

/-- The flits of packets from an input that are held for an agent that does not run. -/
def State.parkedFrom (s : State) (p : Nat) : Nat := ((s.router.parked.filter (fun k => k.port == p)).map (fun k => k.flits)).sum

/-- What the router holds of an input, whose packets in progress were `ks`, is gone: what waits from it, and what is held for agents
that do not run; a packet in progress for this module ends as an abort flit would end it. -/
def Router.forget (x : Router) (p : Nat) (ks : List Packet) : Router :=
  let ends := (ks.filter (fun k => k.out = 36)).map (fun k => (p, { k with route := abortRoute k.route, payloads := [] }))
  { x with adaptive := x.adaptive.filter (fun d => !d.fromPort p), parked := x.parked.filter (fun k => k.port ≠ p)
           kept := Table.keep (fun k => decide (k / 8 ≠ p)) x.kept, arrivals := x.arrivals ++ ends }

/-- The router after a change of it. -/
def State.modRouter (s : State) (f : Router → Router) : State := { s with router := f s.router }

/-- The router forgets an input that goes down (R295, R334). -/
def State.abortInputs (s : State) (p : Nat) : State :=
  let ks := (s.port p).rxPackets
  (s.each (List.range 36) (fun s q => s.modPort q (LinkPort.cutInput p (p / 6) s.time.tick ks q))).modRouter (fun x => x.forget p ks)

/-- The fields of a trained link, the HI values latched from them, and the word to echo are gone (R438). -/
def State.untrain (s : State) (p : Nat) : State :=
  { s with regs := regsAfterFor .link (linkField p) s.regs
           latches := latchesAfter .link (fun r i => r.fields.any (fun f => linkField p f i)) s.latches
           time := { s.time with echo := s.time.echo.erase p } }

/-- The port stops, for a cause (R295): buffers discarded and counted, the trained fields reset, the LINK_DOWN event, and the
fatal path where a port of a running plan goes down (R297). A port that is not enabled is DISABLED (R289). -/
def State.linkDown (s : State) (p : Nat) (c : Down) : State :=
  let lost := (s.port p).buffered + s.waitingFrom p + s.parkedFrom p
  let s := ((s.abortInputs p).bump .LNK_DOWN_flits_lost p lost).untrain p
  let s := (s.modPort p (fun y => y.downed s.time.tick)).set .LNK_STATUS_state p
    (if s.get .LNK_CTRL_enable p = 0 then Train.disabled.code else Train.down.code)
  let s := (s.set .LNK_DOWN_last_cause p c.code).bump .LNK_DOWN_down_count p 1
  let s := s.event 6 (toLE 1 p ++ toLE 1 c.code)
  if s.inPlan p && (s.planRuns || s.planState = .armed) then s.raiseFatal .linkDown (p + 256 * c.code) else s

/-- The port is to go down for a local cause: RESET_REQ goes out with its repeat, and the port stops when the repeat has gone
(R295). A request that meets another is merged with it (R296). -/
def State.closeLink (s : State) (p : Nat) (c : Down) : State :=
  if (s.port p).closing.isSome then s
  else (s.sendCtrl p 8 (toLE 1 1) []).modPort p (fun x => { x with closing := some c })

/-! ### Urgent control words (R288) -/

/-- The second copies that are due: 80 ns after the first. -/
def LinkPort.due (x : LinkPort) (tick : Nat) : List Repeat := x.repeats.filter (fun r => decide (r.at' + 2 ≤ tick))

/-- The urgent CTRL flit of this flit time: second copies that are due, then urgent words, six in all; the rest wait. -/
def LinkPort.urgentWords (x : LinkPort) (tick : Nat) : List Ctrl :=
  (((x.due tick).map (fun (r : Repeat) => { r.word with copy := true })) ++ x.urgent).take 6

/-- Control words go in one CTRL flit; first copies of repeated types note their time. -/
def State.sendWords (s : State) (p : Nat) (cs : List Ctrl) : State :=
  (s.emit (.flit p (ctrlFlit (s.port p) cs))).modPort p (fun x =>
    { x with repeats := x.repeats ++ (cs.filter (fun c => !c.copy && ctrlRepeated c.typ)).map (fun c => ⟨c, s.time.tick⟩) })

/-- A port that was to go down stops once the repeat of its RESET_REQ has gone (R295). -/
def State.closeIf (s : State) (p : Nat) (cs : List Ctrl) : State :=
  match (s.port p).closing with
  | none => s
  | some c => if cs.any (fun w => w.copy && w.typ = 8) then s.linkDown p c else s

/-- The urgent CTRL flit goes. -/
def State.sendUrgent (s : State) (p : Nat) : State :=
  let x := s.port p
  let due := x.due s.time.tick
  let words := x.urgentWords s.time.tick
  let later := x.repeats.filter (fun r => !decide (r.at' + 2 ≤ s.time.tick))
  ((s.modPort p (fun x => { x with repeats := due.drop 6 ++ later, urgent := x.urgent.drop (6 - due.length) })).sendWords p
    words).closeIf p words

/-! ### Reset, disable, enable -/

/-- Training begins again at DETECT (R289). -/
def State.detect (s : State) (p : Nat) : State :=
  (s.modPort p (fun x => { x with failed := false, stuck := false, fellBack := false, peer := none, ownMask := none
                                  peerMask := none })).enter p .detect

/-- A reset request on a port (R295, R296): from ACTIVE the port is to go down; merged while DOWN or in training, but a port whose
training has failed, or that stays DOWN until its next reset, begins again at DETECT. -/
def State.portReset (s : State) (p : Nat) : State :=
  match s.train p with
  | .active => s.closeLink p .localReset
  | .down =>
    if (s.port p).failed || (s.port p).stuck || s.get .LNK_CTRL_auto_retrain p = 0 then s.detect p else s
  | _ => s

/-- A port is disabled (R294, R297). -/
def State.portDisable (s : State) (p : Nat) : State :=
  let s := s.set .LNK_CTRL_enable p 0
  match s.train p with
  | .active => s.closeLink p .disabled
  | _ => s.enter p .disabled

/-- A port is enabled: from DISABLED to DETECT (R289). -/
def State.portEnable (s : State) (p : Nat) : State :=
  let s := s.set .LNK_CTRL_enable p 1
  if s.train p = .disabled then s.detect p else s

/-- A reset or disable that R297 refuses. -/
def State.portRefused (s : State) (p : Nat) : Bool := s.inPlan p && s.planRuns

/-- A whole write of LNK_CTRL[p] (R315). -/
def State.lnkCtrlWrite (s : State) (p v : Nat) : State :=
  let s := s.set .LNK_CTRL_auto_retrain p (bits v 2 2)
  let s := if bit v 3 then s.set .LNK_CTRL_cfg_lock p 1 else s
  let s :=
    if bit v 0 then (if s.get .LNK_CTRL_enable p = 0 then s.portEnable p else s)
    else if s.get .LNK_CTRL_enable p = 0 then s
    else if s.portRefused p then s.set .LNK_STATUS_reset_reject p 1
    else s.portDisable p
  if bit v 1 then
    (if s.portRefused p then s.set .LNK_STATUS_reset_reject p 1 else s.portReset p)
  else s

/-- A go-back pass begins at the oldest kept flit, or the port goes down after replay_limit passes at one una (R294,
R300). -/
def State.startPass (s : State) (p : Nat) : State :=
  let x := s.port p
  let n := if x.passUna = some x.una then x.passes else 0
  if n ≥ s.get .LNK_TIMER_replay_limit p then s.linkDown p .replayLimit
  else (s.bump .LNK_REPLAY_goback_passes p 1).modPort p (fun x =>
    { x with pass := some x.una, passes := n + 1, passUna := some x.una, unaAt := s.time.tick, resend := [] })

end Sys2Proof.Machine
end

