-- ==== Sys2Proof/Machine/Time.lean ====
section
/-! DEFINITION. The time base and the region clocks (chapter 02): the beat counter, time words, holdover, the time tree,
region frequencies. DOWNBEAT, which acts on every engine, stands in Downbeat.lean. -/

namespace Sys2Proof.Machine

/-! ### Shared by several rows -/

/-- Is port `p` in the plan domain (R474)? -/
def State.inDomain (s : State) (p : Nat) : Bool :=
  match s.plan.plan with
  | none => false
  | some x =>
    match x.neighbours with
    | none => s.get .LNK_GIVE_in_plan p = 1
    | some ns => ns.getD p 0xFFFF ≠ 0xFFFF

/-- The time state and depth set together: the depth is 15 while not LOCKED (R72). -/
def State.setTime (s : State) (t : TimeState) (depth : Nat) : State :=
  (s.set .BEAT_STATUS_state 0 t.code).set .BEAT_STATUS_depth 0 (if t = .locked then min depth 15 else 15)

/-- A control word of a type a port has received and not yet acted on, with the rest of them. -/
def takeCtrl (typ : Nat) : List Ctrl → Option (Ctrl × List Ctrl)
  | [] => none
  | c :: cs => if c.typ = typ then some (c, cs) else (takeCtrl typ cs).map (fun r => (r.1, c :: r.2))

/-! ### A machine beat (R6, R7, R42); MACHINE_BEAT, in which the tiles run on, stands in Beat.lean -/

/-- The plan measure at whose downbeat the router plan stops: the smallest pending S, or the end of its repeats (R78,
R343). -/
def Router.stopMeasure (r : Router) : Option Nat :=
  match r.plan with
  | none => r.stopS
  | some (p, l) => if r.repeats = 0 then r.stopS else smallerStop r.stopS (p + r.repeats * l)

/-- The Rims' plan beat goes on (R343): the router plan runs, in no rest and before its stop. -/
def State.rimExecutes (s : State) : Bool :=
  (s.get .RTE_PLAN_rstate 0 = 3 || s.get .RTE_PLAN_rstate 0 = 4) && !isRest s.router.rests s.time.beat
    && (match s.router.stopMeasure with | none => true | some m => decide (s.router.planBeat < 16 * m))

/-- Rest-list entries whose last rest measure has ended by beat `b` retire (R98). -/
def retireRests (b : Nat) (rests : List RestEntry) : List RestEntry :=
  rests.filter (fun e => decide (b < e.i + 16 * e.d))

def machineBeat (s : State) : State :=
  let b := s.time.beat
  let b' := (b + 1) % 2 ^ 64
  let run := s.beatExecutes
  let rrun := s.rimExecutes
  let s := if s.time.standby then s else s.set .BEAT_STATUS_ref_present 0 1
  { s with
    time := { s.time with beat := b', frac := 0, tick := s.time.tick + 1
                          counted := s.time.counted + ofBool (!isRest s.plan.rests b') }
    plan := { s.plan with beat := s.plan.beat + ofBool run, rests := retireRests b' s.plan.rests }
    router := { s.router with planBeat := s.router.planBeat + ofBool rrun
                              rests := retireRests b' s.router.rests } }

/-! ### REFCLK_POD (R46, R49) -/

def refLost (s : State) : State :=
  let s := ((s.set .BEAT_STATUS_ref_lost 0 1).set .BEAT_STATUS_ref_present 0 0).setTime .holdover 15
  let s := { s with time := { s.time with standby := true, slewLeft := 0, slewNow := 0 } }
  if s.planLoaded then s.raiseFatal .refLost 0 else s

/-- REF_LOST: four edges of REFCLK_POD are missing. -/
def execRefLost (s : State) : Host.Outcome State Fault Refusal := occurs (s.powered && !s.time.standby) refLost s

/-- REFCLK_POD is back: a root is LOCKED; any other module stays in HOLDOVER until its next valid parent word, or is FREE where it
never had one (DESIGN CHOICE, log entry 11: R46 has HOLDOVER last until the return and names no state after it). -/
def refReturn (s : State) : State :=
  let s := { s.set .BEAT_STATUS_ref_present 0 1 with time := { s.time with standby := false } }
  if s.get .BEAT_CTRL_time_root 0 = 1 then s.setTime .locked 0
  else if s.time.lastParent.isNone then s.setTime .free 15 else s

/-- REFCLK_POD_RETURN. -/
def execRefclkPodReturn (s : State) : Host.Outcome State Fault Refusal := occurs (s.powered && s.time.standby) refReturn s

/-! ### TIME_WORD (R47 to R52) -/

/-- What a time word's 32-byte payload says (R47). -/
structure TimeWord where
  txBeat : Nat
  txFrac : Nat
  echoBeat : Nat
  echoFrac : Nat
  state : Nat
  root : Bool
  depth : Nat
  echoValid : Bool
  holdPs : Nat
deriving DecidableEq, Repr

def parseTimeWord (b : List Byte) : TimeWord :=
  let f := leAt b 22 1
  { txBeat := leAt b 0 8, txFrac := leAt b 8 2, echoBeat := leAt b 12 8, echoFrac := leAt b 20 2
    state := bits f 1 0, root := bit f 2, depth := bits f 6 3, echoValid := bit f 7, holdPs := leAt b 24 4 }

/-- Link delay and offset of R48, in 1/2048 ps, exact: every term is a multiple of two units. -/
def delayOffset (w : TimeWord) (rxBeat rxFrac : Nat) : Int × Int :=
  let t1 := timeUnits w.echoBeat w.echoFrac
  let t3 := timeUnits w.txBeat w.txFrac
  let t4 := timeUnits rxBeat rxFrac
  let delay := ((t4 - t1) - (w.holdPs : Int) * 2048) / 2
  (delay, t3 + delay - t4)

/-- A time in 1/2048 ps rounded to whole ps (R48). -/
def toPs (x : Int) : Int := roundDivNe x 2048

/-- The skew check of R52, on an unfenced port in the plan domain. -/
def skewCheck (s : State) (p : Nat) (offset : Int) : State :=
  if s.planLoaded && s.inDomain p && !s.fenced p then
    let a := offset.natAbs
    let s := if a > 2048 * s.get .BEAT_SKEW_LIMIT_warn_ps 0 then (s.set .BEAT_STATUS_skew_warn 0 1).warn .timeSkewWarn else s
    if a > 2048 * s.get .BEAT_SKEW_LIMIT_fatal_ps 0 then
      s.raiseFatal .timeSkew (p + 256 * min (toPs a).toNat 0xFFFFFF)
    else s
  else s

/-- The counter and fraction moved by an offset from the instant `now` (the one step of R49). What has passed since an echoed word
came stays the same (R47). -/
def TimeBase.stepBy (t : TimeBase) (now offset : Int) : TimeBase :=
  let x := now + offset
  let b := (x / 81920000 % (2 ^ 64 : Int)).toNat
  let f := (x % 81920000).toNat / 1250
  { t with beat := b, frac := f, slewLeft := 0, slewNow := 0
           echo := t.echo.map (fun e => (e.1, { e.2 with rx := e.2.rx + (timeUnits b f - now) })) }

/-- What a valid parent word does (R49, R50). -/
def fromParent (s : State) (w : TimeWord) (rxBeat rxFrac : Nat) (offset : Int) : State :=
  let good := decide (offset.natAbs ≤ 1000 * 2048)
  let t := { s.time with lastParent := some s.time.tick, parentDepth := w.depth }
  match s.timeState with
  | .free | .holdover =>
    let t := { t with goodRun := 0, goodNow := good }
    let t := if s.planLoaded then { t with slewLeft := offset } else t.stepBy (timeUnits rxBeat rxFrac) offset
    ({ s with time := t }).setTime .acquire 15
  | .acquire =>
    { s with time := { t with slewLeft := offset, goodNow := t.goodNow || good } }
  | .locked =>
    ({ s with time := { t with slewLeft := offset } }).setTime .locked (w.depth + 1)

/-- Port `p` is the time parent and its word's sender is a root or LOCKED: with echo_valid, a valid parent word (R49). -/
def State.parentWord (s : State) (p : Nat) (w : TimeWord) : Bool :=
  s.get .BEAT_CTRL_parent_valid 0 = 1 && s.get .BEAT_CTRL_parent_port 0 = p && (w.root || w.state = 2)

/-- A time word. A root applies no correction. While REFCLK_POD is lost no word corrects the counter or leads to ACQUIRE (DESIGN
CHOICE, log entry 12: R46 keeps HOLDOVER until REFCLK_POD returns, R49 gives a valid parent word no such limit). -/
def timeWord (p : Nat) (frac : Nat) (c : Ctrl) (rest : List Ctrl) (s : State) : State :=
  let w := parseTimeWord c.body
  let b := s.time.beat
  let s := s.setPort p { s.port p with rxCtrl := rest }
  let s := { s with time := { s.time with echo := s.time.echo.put p ⟨w.txBeat, w.txFrac, timeUnits b frac⟩ } }
  if !w.echoValid then s
  else
    let (delay, offset) := delayOffset w b frac
    let o := clampInt (-32767) 32767 (toPs offset)
    let s := ((s.set .BEAT_PORT_DELAY_delay_ps p (ofSigned 32 (toPs delay))).set .BEAT_PORT_SKEW_offset_ps p (ofSigned 16 o)).peak
      .BEAT_PORT_SKEW_max_abs_ps p o.natAbs
    let parent := s.parentWord p w
    let s := s.rechoose p
    let s := if parent then s.set .BEAT_PARENT_OFFSET_parent_offset 0 (ofSigned 32 (toPs offset)) else s
    let s :=
      if parent && s.get .BEAT_CTRL_time_root 0 = 0 && !s.time.standby then
        fromParent s w b frac offset
      else s
    skewCheck s p offset

/-- TIME_WORD: port `p` takes a received time word, stamped at the current beat and `frac`. -/
def execTimeWord (p : PortIx) (frac : BitVec 16) (s : State) : Host.Outcome State Fault Refusal :=
  match takeCtrl 0x01 (s.port p.val).rxCtrl with
  | none => occurs false id s
  | some (c, rest) => occurs s.hubUp (timeWord p.val frac.toNat c rest) s

/-! ### HOLDOVER (R49) -/

/-- No valid parent word for 4 measures, 64 beats. -/
def parentSilent (s : State) : Bool :=
  match s.time.lastParent with
  | none => false
  | some t => decide (t + 64 ≤ s.time.tick)

def holdover (s : State) : State :=
  let s := (s.set .BEAT_STATUS_parent_lost 0 1).setTime .holdover 15
  { s with time := { s.time with slewLeft := 0, slewNow := 0, goodRun := 0 } }

/-- HOLDOVER: from ACQUIRE or LOCKED, a module that is no root has had no valid parent word for 4 measures. -/
def execHoldover (s : State) : Host.Outcome State Fault Refusal :=
  occurs (s.powered && (s.timeState = .acquire || s.timeState = .locked) && s.get .BEAT_CTRL_time_root 0 = 0
    && parentSilent s) holdover s

/-! ### BEAT_CTRL (R73, R406) -/

/-- The time-tree fields take new values (R73). While REFCLK_POD is lost the state stays HOLDOVER (DESIGN CHOICE, log entry 13: R46
holds HOLDOVER until its return, R73 names LOCKED or FREE; R49 has a root LOCKED only while REFCLK_POD is present). -/
def setTree (root port valid : Nat) (s : State) : State :=
  let s := ((s.set .BEAT_CTRL_time_root 0 root).set .BEAT_CTRL_parent_port 0 port).set .BEAT_CTRL_parent_valid 0 valid
  let s := { s with time := { s.time with slewLeft := 0, slewNow := 0, goodRun := 0, goodNow := false, lastParent := none } }
  if s.time.standby then s.setTime .holdover 15 else if root = 1 then s.setTime .locked 0 else s.setTime .free 15

def beatCtrlWrite (a : Agent) (v : Nat) (s : State) : State :=
  if a = .host then s.hostDenied
  else
    let root := bits v 0 0
    let port := bits v 6 1
    let valid := bits v 7 7
    let s := if bit v 16 then s.set .BEAT_CTRL_limit_lock 0 1 else s
    if s.get .BEAT_CTRL_time_root 0 = root && s.get .BEAT_CTRL_parent_port 0 = port
        && s.get .BEAT_CTRL_parent_valid 0 = valid then s
    else if s.planLoaded then s.set .BEAT_STATUS_ctrl_reject 0 1
    else setTree root port valid s

/-- BEAT_CTRL_WRITE. -/
def execBeatCtrlWrite (a : Agent) (v : Word) (s : State) : Host.Outcome State Fault Refusal :=
  occurs (s.agentUp a) (beatCtrlWrite a v.toNat) s

/-- LIMIT_LOCK: a write of BEAT_CTRL that sets limit_lock and leaves the tree fields at their values. -/
def execLimitLock (a : Agent) (s : State) : Host.Outcome State Fault Refusal :=
  occurs (s.agentUp a) (fun s => if a = .host then s.hostDenied else s.set .BEAT_CTRL_limit_lock 0 1) s

/-- BEAT_COUNT_LO_READ: the low word is returned, and the high word and the fraction at that instant are latched (R74). -/
def beatCountLoRead (a : Agent) (frac : Nat) (s : State) : State :=
  ((s.latch a .BEAT_COUNT_HI 0 (s.time.beat / 2 ^ 32)).latch a .BEAT_FRAC 0 frac).emit (.readData (s.time.beat % 2 ^ 32))

def execBeatCountLoRead (a : Agent) (frac : BitVec 16) (s : State) : Host.Outcome State Fault Refusal :=
  occurs (s.agentUp a) (beatCountLoRead a frac.toNat) s

/-! ### Region frequencies and forecast codes (R54, R63, R64, R66, R67 to R69) -/

/-- Every region's armed_code. -/
def State.armAll (s : State) (code : Nat) : State :=
  if code = 0xFF then { s with regs := Table.keep (fun k => k % 512 ≠ RegField.ctorIdx .BEAT_REG_FCST_armed_code) s.regs }
  else s.each (List.range 576) (fun s r => s.set .BEAT_REG_FCST_armed_code r code)

/-- Every region applies a forecast code, and goes on with it until it is told another (R69). -/
def State.applyAll (s : State) (code : Nat) : State :=
  let s := { s with time := { s.time with applied := if code = 0xFF then [] else (List.range 576).map (fun r => (r, code)) } }
  s.armAll code

/-- The code whose voltage a region's regulator holds: for a rise the one handed to it from the measure before the change on, for a
fall the lower one only after the restart (R64, R66). -/
def State.regulatorCode (s : State) (r : Nat) : Nat :=
  match s.time.stops.find? (fun x => x.region = r) with
  | some x => max x.code (s.get .BEAT_REG_FSET_fset_code r)
  | none => max (Table.get 0 s.time.handed r) (s.get .BEAT_REG_FSET_fset_code r)

def fsetWrite (r v : Nat) (s : State) : State :=
  let code := bits v 6 0
  let s := if bit v 16 then s.set .BEAT_REG_FSET_fset_reject r 0 else s
  if s.planLoaded then
    if code = s.get .BEAT_REG_FSET_fset_code r then s else s.set .BEAT_REG_FSET_fset_reject r 1
  else if code > 80 ∨ code > s.fused.fmaxOf r then s.set .BEAT_REG_FSET_fset_reject r 1
  else s.set .BEAT_REG_FSET_fset_code r code

/-- FSET_WRITE: a write of a region's BEAT_REG_FSET. -/
def execFsetWrite (r : RegionIx) (v : Word) (s : State) : Host.Outcome State Fault Refusal :=
  occurs (s.hubUp && s.fieldUp) (fsetWrite r.val v.toNat) s

/-- The stop of a region whose clock may restart: 2 beats have passed (R64). -/
def restartable (r : Nat) (s : State) : Option RegionStop :=
  s.time.stops.find? (fun x => x.region = r && decide (x.at' + 2 ≤ s.time.tick))

def regionRestart (x : RegionStop) (s : State) : State :=
  { s.set .BEAT_REG_FSET_fset_code x.region x.code with
    time := { s.time with stops := s.time.stops.filter (fun y => y.region ≠ x.region)
                          applied := Table.set 0xFF s.time.applied x.region x.forecast } }

/-- REGION_CLOCK_RESTART. -/
def execRegionClockRestart (r : RegionIx) (s : State) : Host.Outcome State Fault Refusal :=
  match restartable r.val s with
  | none => occurs false id s
  | some x => occurs s.fieldUp (regionRestart x) s

/-! ### CROSSING_OVERFLOW (R62) -/

/-- CROSSING_OVERFLOW: a crossing FIFO of a region finds its pointers faulty. -/
def execCrossingOverflow (r : RegionIx) (s : State) : Host.Outcome State Fault Refusal :=
  occurs s.fieldUp (fun s => s.raiseFatal .crossingOverflow (r.val / 72 + 8 * (r.val % 72))) s

end Sys2Proof.Machine
end

