-- ==== Sys2Proof/Machine/Tolls.lean ====
section
/-! DEFINITION. The toll (R95 to R104): its word, its entry into the rest list, origination, the Rims' forwarding, finish
words, and the registers of the plan engine that have rows of their own. -/

namespace Sys2Proof.Machine

/-- A toll's 32-byte payload (R95). -/
def Toll.bytes (t : Toll) : List Byte :=
  toLE 8 t.beatB ++ toLE 2 t.origin ++ toLE 2 t.tollId ++ toLE 2 t.epoch ++ toLE 1 (t.restD + 16 * t.cause) ++ toLE 1 t.hops
    ++ toLE 8 t.stopMeasure ++ toLE 4 t.detail ++ zeros 4

def parseToll (b : List Byte) : Toll :=
  { beatB := leAt b 0 8, origin := leAt b 8 2, tollId := leAt b 10 2, epoch := leAt b 12 2, restD := leAt b 14 1 % 16
    cause := leAt b 14 1 / 16, hops := leAt b 15 1, stopMeasure := leAt b 16 8, detail := leAt b 24 4 }

/-- Malformed tolls (R99). -/
def Toll.malformed (t : Toll) : Bool :=
  decide (t.cause > 4) || (decide (t.cause ≠ 4) && decide (t.restD = 0)) || (decide (t.cause = 4) && decide (t.restD ≠ 0))

/-- The insertion measure's first beat (R98). -/
def insertionBeat (b k : Nat) : Nat := 16 * ((b + k) / 16)

/-- The rest list with an entry put in, by rising start: with an equal start the larger D wins (R98). -/
def putRest (i d : Nat) : List RestEntry → List RestEntry
  | [] => [⟨i, d⟩]
  | e :: es =>
    if e.i < i then e :: putRest i d es
    else if e.i = i then ⟨i, max e.d d⟩ :: es
    else ⟨i, d⟩ :: e :: es

/-- The rest list is full for an entry that starts at `i` (R98). -/
def restFull (i : Nat) (rs : List RestEntry) : Bool := decide (rs.length ≥ 64) && !rs.any (fun e => e.i == i)

/-- Rests, by rising start, passed on the way from a beat: `cur` is the end of the last rest counted. -/
def passRests : List RestEntry → Nat → Nat → Nat
  | [], _, t => t
  | e :: es, cur, t =>
    let a := max e.i cur
    let z := e.i + 16 * e.d
    if a ≤ t ∧ a < z then passRests es z (t + (z - a)) else passRests es (max cur z) t

/-- The machine beat at which plan beat `p` executes, as the rest list stands: `b` is the present machine beat and `pb` the
present plan beat (R7, R103). For a plan beat already past it is the present beat. -/
def executionBeat (rs : List RestEntry) (b pb p : Nat) : Nat := passRests rs b (b + (p - pb))

/-- The pending S and its registers (R103, R109). -/
def State.setStop (s : State) (n : Nat) : State :=
  (({ s with plan := { s.plan with stop := some n } }.set .PLN_STOP_LO_stop_lo 0 n).set .PLN_STOP_HI_stop_hi 0 (n / 2 ^ 32)).set .PLN_STOP_HI_stop_valid 0 1

/-- An entry of the Rims' rest list (R98, R343). -/
def State.rimRest (s : State) (i d : Nat) : State :=
  { s with router := { s.router with rests := putRest i d s.router.rests } }

/-- An entry of every list. A read of max_entries clears it, and it shows 0 until the next entry comes, whatever is still pending
(DESIGN CHOICE, log entry 15: R109 says "most entries since the last read" and not whether those already there count again). -/
def State.hubRest (s : State) (i d : Nat) : State :=
  let rs := putRest i d s.plan.rests
  (({ s with plan := { s.plan with rests := rs } }).rimRest i d).peak .PLN_REST_LIST_max_entries 0 rs.length

/-- The detail of LATE_TOLL and TOLL_INVALID (R445). -/
def Toll.detailWord (t : Toll) : Nat := t.origin + 2 ^ 16 * t.tollId

/-- PLN_LAST_TOLL, the counters and the TOLL event of an own-epoch toll the hub enters (R98, R376). -/
def State.noteToll (s : State) (t : Toll) : State :=
  let s := ((s.bump .PLN_TOLL_RX_received 0 1).set .PLN_LAST_TOLL0_beat_lo 0 t.beatB).set .PLN_LAST_TOLL1_beat_hi 0
    (t.beatB / 2 ^ 32)
  let s := (s.set .PLN_LAST_TOLL2_origin_id 0 t.origin).set .PLN_LAST_TOLL2_toll_id 0 t.tollId
  let s := (((s.set .PLN_LAST_TOLL3_epoch 0 t.epoch).set .PLN_LAST_TOLL3_rest_d 0 t.restD).set .PLN_LAST_TOLL3_cause 0
    t.cause).set .PLN_LAST_TOLL3_hops 0 t.hops
  if s.feature 17 then
    s.event 1 (toLE 8 t.beatB ++ toLE 2 t.origin ++ toLE 1 (t.restD + 16 * t.cause) ++ toLE 1 t.hops ++ toLE 2 t.tollId)
  else s

/-- The hub acts on own-epoch tolls: it is RUNNING or RESTING with no fatal entry (R98, R104, R446). -/
def State.hubActs (s : State) : Bool := (s.planState = .running || s.planState = .resting) && !s.fatalActive

/-- RM0 acts in the hub's place (R343). -/
def State.rimActs (s : State) : Bool :=
  s.get .RTE_PLAN_forwarding_only 0 = 1 && (s.get .RTE_PLAN_rstate 0 = 3 || s.get .RTE_PLAN_rstate 0 = 4) && !s.fatalActive

/-- The hub receives an own-epoch toll (R98 to R100, R103). -/
def State.hubToll (s : State) (t : Toll) : State :=
  let k := s.get .PLN_CFG_toll_reach 0
  if t.malformed then s.raiseFatal .tollInvalid t.detailWord
  else
    let i := if t.cause = 4 then executionBeat s.plan.rests s.time.beat s.plan.beat (16 * t.stopMeasure)
      else insertionBeat t.beatB k
    if s.time.beat + 1 ≥ i then s.raiseFatal .lateToll t.detailWord
    else
      let s := s.noteToll t
      if t.cause = 4 then
        let s := s.setStop ((smallerStop s.plan.stop t.stopMeasure).getD 0)
        { s with router := { s.router with stopS := smallerStop s.router.stopS t.stopMeasure } }
      else
        let s := if isRest s.plan.rests i then s.bump .PLN_TOLL_RX_merged 0 1 else s
        if restFull i s.plan.rests then s.raiseFatal .restListFull 0 else s.hubRest i t.restD

/-- RM0 receives one while forwarding-only (R343). -/
def State.rimToll (s : State) (t : Toll) : State :=
  if t.malformed then s.raiseFatal .tollInvalid t.detailWord
  else
    let i := if t.cause = 4 then executionBeat s.router.rests s.time.beat s.router.planBeat (16 * t.stopMeasure)
      else insertionBeat t.beatB s.router.reach
    if s.time.beat + 1 ≥ i then s.raiseFatal .lateToll t.detailWord
    else if t.cause = 4 then { s with router := { s.router with stopS := smallerStop s.router.stopS t.stopMeasure } }
    else if restFull i s.router.rests then s.raiseFatal .restListFull 0
    else s.rimRest i t.restD

/-- The counter of PLN_TOLL_ORIG for a cause. -/
def origCounter (cause : Nat) : RegField :=
  match cause with
  | 0 => .PLN_TOLL_ORIG_region_late | 1 => .PLN_TOLL_ORIG_item_late | 2 => .PLN_TOLL_ORIG_item_late
  | 3 => .PLN_TOLL_ORIG_link | _ => .PLN_TOLL_ORIG_stop

/-- A toll originated whatever came before: it gets the next number, goes to RM0, and counts as received (R96). -/
def State.sendToll (s : State) (cause b d stop detail : Nat) : State :=
  let t : Toll := { beatB := b, origin := s.deviceId, tollId := s.plan.tollId, epoch := s.get .PLN_EPOCH_epoch 0, restD := d
                    cause := cause, hops := 0, stopMeasure := stop, detail := detail % 2 ^ 32 }
  let s := s.bump (origCounter cause) 0 1
  ({ s with plan := { s.plan with tollId := (s.plan.tollId + 1) % 2 ^ 16 }
            router := { s.router with tollIn := s.router.tollIn ++ [TollIn.mk 0 true t] } }).hubToll t

/-- Lateness of length `d` seen at machine beat `b` (R96): a toll unless one with the same insertion measure and no smaller
D has been originated. -/
def State.originateToll (s : State) (cause b d detail : Nat) : State :=
  let i := insertionBeat b (s.get .PLN_CFG_toll_reach 0)
  if !s.hubActs then s
  else if decide (cause ≠ 3) && s.plan.originated.any (fun e => e.i == i && decide (d ≤ e.d)) then s
  else
    ({ s with plan := { s.plan with originated := putRest i d (s.plan.originated.filter (fun e => decide (s.time.beat < e.i))) } }
      ).sendToll cause b d 0 detail

/-! ### TOLL (R97) -/

def State.seenOf (s : State) (r : Nat) : List Seen := Table.get [] s.router.seen r

/-- Is a toll's key in a Rim's seen table? -/
def Toll.seenIn (t : Toll) (l : List Seen) : Bool :=
  l.any (fun e => e.origin == t.origin && e.tollId == t.tollId && e.epoch == t.epoch)

/-- The first toll word waiting at a Rim, with the others. -/
def takeToll (r : Nat) : List TollIn → Option (TollIn × List TollIn)
  | [] => none
  | t :: ts => if t.rim = r then some (t, ts) else (takeToll r ts).map (fun x => (x.1, t :: x.2))

/-- The word with hops incremented, saturating (R95). -/
def Toll.hop (t : Toll) : Toll := { t with hops := min 255 (t.hops + 1) }

/-- A new toll is entered and sent, with hops incremented, on the Rim's unfenced ports in service and on its chain bridges; RM0 gives
the hub the word as it came to RM0 (DESIGN CHOICE, log entry 16: R97 has each Rim increment hops in what it sends on ports and
bridges, R109 has the hub record "hops on arrival"). -/
def State.forwardToll (s : State) (r : Nat) (t : TollIn) : State :=
  let l := s.seenOf r ++ [Seen.mk t.toll.origin t.toll.tollId t.toll.epoch (t.toll.beatB + 2 * s.router.reach)]
  let s := { s with router := { s.router with seen := Table.set [] s.router.seen r l } }
  let s := s.peak .RTE_TOLL_SEEN_entries_max 0 l.length
  let s := s.each ((List.range 6).map (fun i => 6 * r + i)) (fun s p => if s.fenced p then s else s.sendCtrl p 2 [] t.toll.hop.bytes)
  let next := (if r = 0 then [] else [TollIn.mk (r - 1) t.own t.toll.hop])
    ++ (if r = 5 then [] else [TollIn.mk (r + 1) t.own t.toll.hop])
  { s with router := { s.router with
      tollIn := s.router.tollIn ++ next
      hubTolls := s.router.hubTolls ++ (if r = 0 ∧ !t.own then [t.toll] else []) } }

def rimTakesToll (r : Nat) (t : TollIn) (rest : List TollIn) (s : State) : State :=
  let s := { s with router := { s.router with tollIn := rest } }
  let epoch := s.get .RTE_EPOCH_epoch 0
  if epoch = 0 ∨ t.toll.epoch ≠ epoch then s.bump .PLN_TOLL_RX_foreign 0 1
  else if t.toll.seenIn (s.seenOf r) then s
  else if (s.seenOf r).length ≥ 512 then s.raiseFatal .tollTableFull r
  else s.forwardToll r t

/-- TOLL: a Rim takes the first toll word that waits there, from a port or over the chain. -/
def execToll (r : RimIx) (s : State) : Host.Outcome State Fault Refusal :=
  match takeToll r.val s.router.tollIn with
  | none => occurs false id s
  | some (t, rest) => occurs s.powered (rimTakesToll r.val t rest) s

/-- HUB_TOLL_RECEIVE: the toll RM0 has sent to the hub. -/
def hubTollReceive (t : Toll) (rest : List Toll) (s : State) : State :=
  let s := { s with router := { s.router with hubTolls := rest } }
  if s.rimActs then s.rimToll t
  else if s.hubActs && t.epoch == s.get .PLN_EPOCH_epoch 0 then s.hubToll t
  else s

def execHubTollReceive (s : State) : Host.Outcome State Fault Refusal :=
  match s.router.hubTolls with
  | [] => occurs false id s
  | t :: rest => occurs s.powered (hubTollReceive t rest) s

/-- SEEN_ENTRY_RETIRE: entries whose beat_b + 2K has come leave a Rim's table. -/
def seenRetire (r : Nat) (s : State) : State :=
  let l := (s.seenOf r).filter (fun e => decide (s.time.beat < e.retire))
  { s with router := { s.router with seen := Table.set [] s.router.seen r l } }

def execSeenEntryRetire (r : RimIx) (s : State) : Host.Outcome State Fault Refusal :=
  occurs (s.powered && (s.seenOf r.val).any (fun e => decide (e.retire ≤ s.time.beat))) (seenRetire r.val) s

/-! ### Finish words (R106, R107) -/

/-- A finish word's 16-byte payload. -/
def finishBytes (m : Nat) (margin : Int) (id epoch : Nat) : List Byte :=
  toLE 8 m ++ toLE 4 (ofSigned 32 margin) ++ toLE 2 id ++ toLE 2 epoch

/-- FINISH: the word is kept for the count of R107, which is made at the downbeat that begins measure m + 2. -/
def finish (p : Nat) (c : Ctrl) (rest : List Ctrl) (s : State) : State :=
  let s := s.modPort p (fun x => { x with rxCtrl := rest })
  if s.inDomain p && leAt c.body 14 2 == s.get .PLN_EPOCH_epoch 0 && (s.planState = .running || s.planState = .resting) then
    { s with plan := { s.plan with finish := s.plan.finish ++ [⟨leAt c.body 0 8, p, toSigned 32 (leAt c.body 8 4)⟩] } }
  else s

def execFinish (p : PortIx) (s : State) : Host.Outcome State Fault Refusal :=
  match takeCtrl 3 (s.port p.val).rxCtrl with
  | none => occurs false id s
  | some (c, rest) => occurs s.powered (finish p.val c rest) s

/-- The count of R107 for a measure, and its margins forgotten. -/
def State.countLast (s : State) (m : Nat) : State :=
  let theirs := s.plan.finish.filter (fun x => x.measure == m)
  let counts := !theirs.isEmpty && s.plan.own.any (fun o => o.measure == m && theirs.all (fun x => decide (o.margin < x.margin)))
  let s := if counts then s.bump .PLN_LAST_last_measures 0 1 else s
  { s with plan := { s.plan with own := s.plan.own.filter (fun x => decide (m < x.measure))
                                 finish := s.plan.finish.filter (fun x => decide (m < x.measure)) } }

/-! ### Registers of the plan engine (R109, R110) -/

/-- STATS_CLEAR: a write of PLN_CTRL with stats_clear = 1. -/
def statsClear (v : Nat) (s : State) : State :=
  let s := (s.set .PLN_CTRL_finish_words 0 (bits v 0 0)).clearAll
    [.PLN_TOLL_ORIG_region_late, .PLN_TOLL_ORIG_item_late, .PLN_TOLL_ORIG_link, .PLN_TOLL_ORIG_stop, .PLN_TOLL_RX_received
     , .PLN_TOLL_RX_foreign, .PLN_TOLL_RX_merged, .PLN_LAST_last_measures] 0
  s.each (List.range 8) (fun s d => s.clearAll [.PLN_DIE_LATE_late_measures, .PLN_DIE_LATE_last_region] d)

def execStatsClear (v : Word) (s : State) : Host.Outcome State Fault Refusal :=
  occurs (s.hubUp && bit v.toNat 1) (statsClear v.toNat) s

/-- PLN_LO_READ: 0 PLN_BEAT, 1 PLN_START, 2 PLN_STOP. The HI word is that of the same instant. -/
def plnLoRead (a : Agent) (which : Nat) (s : State) : State :=
  match which with
  | 0 => (s.latch a .PLN_BEAT_HI 0 (s.plan.beat / 2 ^ 32)).emit (.readData (s.plan.beat % 2 ^ 32))
  | 1 => (s.latch a .PLN_START_HI 0 (s.get .PLN_START_HI_start_beat 0)).emit (.readData (s.get .PLN_START_LO_start_beat 0))
  | _ => (s.latch a .PLN_STOP_HI 0 (s.get .PLN_STOP_HI_stop_hi 0 + 2 ^ 31 * s.get .PLN_STOP_HI_stop_valid 0)).emit
      (.readData (s.get .PLN_STOP_LO_stop_lo 0))

def execPlnLoRead (a : Agent) (which : Fin 3) (s : State) : Host.Outcome State Fault Refusal :=
  occurs (s.agentUp a) (plnLoRead a which.val) s

end Sys2Proof.Machine
end

