-- ==== Sys2Proof/Machine/RouterOps.lean ====
section
/-! DEFINITION. Shared operations of the router (chapter 10): table findings, slots and the transmit hold, local delivery,
dynamic routes and order state. -/

namespace Sys2Proof.Machine

/-! ### Mirrored tables (R327) -/

/-- The word of RTE_MIRROR for a finding (R346). -/
def findPort (f : TableFind) : Nat := if f.table.val = 0 then f.port.val else 0x3F

def findWord (f : TableFind) : Nat :=
  f.rim.val + 2 ^ 3 * f.table.val + 2 ^ 6 * f.index.toNat + 2 ^ 22 * findPort f + 2 ^ 28 * ofBool (f.result.val = 3) + 2 ^ 31

/-- The ports a finding stops. -/
def findPorts (f : TableFind) : List Nat :=
  if f.table.val = 0 then [f.port.val] else (List.range 6).map (fun i => 6 * f.rim.val + i)

/-- Is a finding that of an entry? A slot entry is named by its port and its place among the port's entries. -/
def findAt (f : TableFind) (rim table index port : Nat) : Bool :=
  f.table.val == table && f.index.toNat == index && (if table = 0 then f.port.val == port else f.rim.val == rim)

/-- What reading an entry does where its copies are not both clean and equal (R327). -/
def State.tableFind (s : State) (f : TableFind) : State :=
  let fixed := { s with router := { s.router with flaws := s.router.flaws.filter (fun g => g ≠ f) } }
  if f.result.val = 0 then fixed.bump .RTE_STATUS_ce_count 0 1
  else if f.result.val = 1 then (fixed.bump .RTE_STATUS_ce_count 0 1).set .RTE_STATUS_copy_repaired 0 1
  else
    let s := ((s.set .RTE_MIRROR_rim 0 f.rim.val).set .RTE_MIRROR_table 0 f.table.val).set .RTE_MIRROR_index 0 f.index.toNat
    let s := ((s.set .RTE_MIRROR_port 0 (findPort f)).set .RTE_MIRROR_both_ue 0 (ofBool (f.result.val = 3))).set
      .RTE_MIRROR_valid 0 1
    (s.each (findPorts f) (fun s p => s.modPort p (fun x => { x with vc0Stopped := true }))).raiseFatal
      (if f.result.val = 3 then .tableUncorrectable else .tableMirrorMismatch) (findWord f)

/-- An entry is read: can it be used, and what the reading does. -/
def State.readEntry (s : State) (rim table index port : Nat) : Bool × State :=
  match s.router.flaws.find? (fun f => findAt f rim table index port) with
  | none => (true, s)
  | some f => (decide (f.result.val ≤ 1), s.tableFind f)

/-- The copies of an entry stop being clean and equal; a worse state stands. -/
def State.flaw (s : State) (f : TableFind) : State :=
  let same (g : TableFind) : Bool := findAt g f.rim.val f.table.val f.index.toNat f.port.val
  if s.router.flaws.any (fun g => same g && decide (f.result.val ≤ g.result.val)) then s
  else { s with router := { s.router with flaws := s.router.flaws.filter (fun g => !same g) ++ [f] } }

/-- Both copies of the entries of a table that pass a test are written: they are clean and equal again. -/
def State.writeEntries (s : State) (q : TableFind → Bool) : State :=
  { s with router := { s.router with flaws := s.router.flaws.filter (fun f => !q f) } }

/-! ### Bridges of the package mesh (R17, R317, R344) -/

def bridgeSample (s : State) (k : Nat) : Sample := Table.get Sample.reset s.router.bridges k

/-- Flits go from one Rim to another: each chain bridge on their way counts them. -/
def State.crossChain (s : State) (a b : Nat) (vc0 : Bool) (n : Nat) : State :=
  let ks := if a < b then (List.range (b - a)).map (fun i => a + i) else (List.range (a - b)).map (fun i => 5 + b + i)
  s.each ks (fun s k =>
    let x := bridgeSample s k
    let y := if vc0 then { x with vc0 := x.vc0 + n } else { x with dyn := x.dyn + n }
    { s with router := { s.router with bridges := Table.set Sample.reset s.router.bridges k y } })

/-- The Rims with a bridge to a Field die (R17). -/
def dieRims (d : Nat) : List Nat :=
  match d % 4 with
  | 0 => [0]
  | 1 => [1, 2]
  | 2 => [3, 4]
  | _ => [5]

/-- Of some Rims, the nearest on the chain to Rim `r`. -/
def nearRim (r : Nat) : List Nat → Nat
  | [] => r
  | [a] => a
  | a :: b :: _ => if (if a < r then r - a else a - r) ≤ (if b < r then r - b else b - r) then a else b

/-- The Rim by which traffic of Rim `r` reaches an agent of R329, or leaves it: the hub's, a Field die's, or that of the Field die
that has the tier-2 controller's bridge (R17). -/
def agentRim (r a : Nat) : Nat := if a = 0 then 0 else if a ≤ 8 then nearRim r (dieRims (a - 1)) else 5

/-! ### Slots and the VC0 transmit hold (R319, R320, R323) -/

def State.rstate (s : State) : Nat := s.get .RTE_PLAN_rstate 0

/-- A port's slot entries for a tag. -/
def State.tagSlots (s : State) (p tag : Nat) : List SlotEntry :=
  s.router.slots.filter (fun e => e.port == p && e.tag == tag)

/-- Plan measure and slot of occurrence `n` of a flit of an item on a port, and the slot entry: the entries that cover its index,
in plan order (R78, R320, R323). -/
def State.occurrence (s : State) (p tag idx n : Nat) : Option (Nat × Nat × SlotEntry) :=
  match s.router.plan with
  | none => none
  | some (pro, body) =>
    let es := (s.tagSlots p tag).filter (fun e => decide (e.first ≤ idx) && decide (idx < e.first + e.count))
    let first := es.filter (fun e => decide (e.measure < pro))
    let loop := es.filter (fun e => decide (pro ≤ e.measure))
    match first[n]? with
    | some e => some (e.measure, e.slot + (idx - e.first), e)
    | none =>
      let k := n - first.length
      let pass := k / loop.length
      if s.router.repeats ≠ 0 ∧ pass ≥ s.router.repeats then none
      else (loop[k % loop.length]?).map (fun e => (e.measure + pass * body, e.slot + (idx - e.first), e))

/-- The place of a slot entry among those of its port. -/
def State.slotIndex (s : State) (e : SlotEntry) : Nat :=
  ((s.router.slots.filter (fun x => x.port == e.port)).takeWhile (fun x => x ≠ e)).length

/-- Is one place in the slot order at or before another? -/
def slotLe (m s m' s' : Nat) : Bool := decide (m < m') || (decide (m = m') && decide (s ≤ s'))

/-- The transmit hold with a flit at its place: in slot order, the oldest first. -/
def putHeld (h : HeldFlit) : List HeldFlit → List HeldFlit
  | [] => [h]
  | g :: gs => if slotLe g.measure g.slot h.measure h.slot then g :: putHeld h gs else h :: g :: gs

/-- A flit dropped at a port's fence, with its event where it is the first in a machine measure (R326, R340). -/
def State.fenceDrop (s : State) (p : Nat) : State :=
  let s := s.bump .RTE_PORT_DROP_fence_drops p 1
  let m := s.time.beat / 16
  if (s.port p).dropMeasure = some m then s
  else
    let s := s.modPort p (fun x => { x with dropMeasure := some m })
    if s.get .RTE_CTRL_fence_event_en 0 = 1 then s.warn .fenceDrop else s

/-- A flit enters the transmit hold of a port, or overflows it (R307, R314). LNK_WINDOW.hold_max counts in units of 2 flits. -/
def State.holdFlit (s : State) (p : Nat) (h : HeldFlit) : State :=
  if (s.port p).hold.length ≥ 2048 then s.modPort p (fun x => { x with overflow := true })
  else
    let s := s.modPort p (fun x => { x with hold := putHeld h x.hold })
    let n := (s.port p).hold.length
    (s.peak .LNK_WINDOW_hold_max p (n / 2)).modPort p
      (fun x => { x with sample := { x.sample with holdMax := max x.sample.holdMax n } })

def slotKey (tag idx : Nat) : Nat := 2 ^ 20 * tag + idx

/-- A VC0 flit bound for an output port takes its next slot there: none where the port has no slot entry for it, or cannot use the
entry (R323, R327). -/
def State.takeSlot (s : State) (p tag idx : Nat) : Option (Nat × Nat) × State :=
  let k := slotKey tag idx
  let n := Table.get 0 (s.port p).slotUse k
  match s.occurrence p tag idx n with
  | none => (none, s)
  | some (m, slot, e) =>
    let r := (s.modPort p (fun x => { x with slotUse := Table.set 0 x.slotUse k (n + 1) })).readEntry (p / 6) 0 (s.slotIndex e) p
    (if r.1 then some (m, slot) else none, r.2)

/-- A VC0 flit bound for an output port (R323, R326). `inside` is the Rim it comes from. A flit dropped has had its slot. -/
def State.vc0Out (s : State) (inside p : Nat) (f : Flit) : State :=
  let r := (s.crossChain inside (p / 6) true 1).takeSlot p (bits f.route 35 16) (bits f.route 55 36)
  let s := r.2
  if s.fenced p then s.fenceDrop p
  else if s.train p ≠ .active || s.get .LNK_STATUS_mode p = 1 then s.bump .RTE_PORT_DROP_fence_drops p 1
  else
    match r.1 with
    | none => s.bump .RTE_PORT_MISS_unslotted p 1
    | some (m, slot) => s.holdFlit p ⟨f, m, slot, s.time.tick⟩

/-- The ports of a mask. -/
def maskPorts (m : Nat) : List Nat := onesOf 36 m

/-- A delivered flit goes to a tile as one word with tag 0 (R322). Source 16 * 9216 + port stands for the Rim on the die
network. -/
def State.vc0Local (s : State) (p : Nat) (route : Nat) (f : Flit) : State :=
  let r := routeOf route
  if r.kind = 0 then s
  else if s.get .RTE_PLAN_forwarding_only 0 = 1 || !s.fieldUp then s.bump .RTE_PORT_MISS_bad_dest p 1
  else
    let d : Dest := .tile (tileAt r.die r.column r.row) (4 + r.destQueue)
    let k := 2 * tileAt r.die r.column r.row + r.destQueue
    let i : DnItem := ⟨16 * 9216 + p, s.dnSeq, .word (slice (padTo 240 f.payload) 0 64) 0 d⟩
    let s := s.crossChain (p / 6) (nearRim (p / 6) (dieRims r.die)) true 1
    { s with dn := Table.set [] s.dn k (Table.get [] s.dn k ++ [i]), dnSeq := s.dnSeq + 1 }

/-- The stop window of R104, 16 beats from the stop downbeat, has ended. -/
def State.afterStopWindow (s : State) : Bool :=
  match s.router.stopTick with
  | none => false
  | some t => decide (s.time.tick ≥ t + 16)

/-- The item entries a Rim holds (R321). -/
def State.rimItems (s : State) (r : Nat) : List ItemEntry := s.router.items.filter (fun i => bit i.rims r)

/-- Copies of a flit go to the ports of a peal (R324, R325); an entry that cannot be used counts as none (DESIGN CHOICE, log entry
43). -/
def State.pealOut (s : State) (p peal : Nat) (f : Flit) : State :=
  let r := s.readEntry (p / 6) 2 peal 0
  if r.1 then r.2.each (maskPorts (Table.get 0 s.router.peals peal)) (fun s q => s.vc0Out (p / 6) q f)
  else r.2.bump .RTE_PORT_MISS_unknown_item p 1

/-- A VC0 flit of an item the Rim knows: counted by the scoreboard, delivered, copied (R322). -/
def State.vc0Item (s : State) (p : Nat) (i : ItemEntry) (f : Flit) : State :=
  let k := 2 ^ 20 * p + i.tag
  let s := { s with plan := { s.plan with arrived := Table.set 0 s.plan.arrived k (Table.get 0 s.plan.arrived k + 1) } }
  let s := s.vc0Local p i.route f
  if i.peal = 0xFFFF then s else s.pealOut p i.peal f

/-- A VC0 flit the link layer delivers (R322): on a port between two partitions the fence drops it (R342), and inside a new partition
the epoch filter drops what an earlier job left (R341, R342). -/
def State.vc0In (s : State) (p : Nat) (f : Flit) : State :=
  let epoch := s.get .RTE_EPOCH_epoch 0
  let tag := bits f.route 35 16
  if s.fenced p then s.fenceDrop p
  else if epoch = 0 ∨ bits f.route 15 0 ≠ epoch then s.bump .RTE_PORT_DROP_epoch_drops p 1
  else if s.rstate < 2 then s.bump .RTE_PORT_DROP_epoch_drops p 1
  else if s.afterStopWindow then (s.bump .RTE_PORT_DROP_epoch_drops p 1).set .PLN_STATUS_stop_drop 0 1
  else
    match (s.rimItems (p / 6)).find? (fun i => i.tag == tag) with
    | none => s.bump .RTE_PORT_MISS_unknown_item p 1
    | some i =>
      let r := s.readEntry (p / 6) 1 ((s.rimItems (p / 6)).takeWhile (fun j => j.tag ≠ tag)).length 0
      if r.1 then r.2.vc0Item p i f else r.2.bump .RTE_PORT_MISS_unknown_item p 1

/-! ### Dynamic routes (R330 to R333) -/

def routeDest' (r : Nat) : Nat := bits r 15 0
def routeSource (r : Nat) : Nat := bits r 31 16
def routeKind (r : Nat) : Nat := bits r 34 32
def routeFlag (r : Nat) : Bool := bit r 35
def routeVia (r : Nat) : Nat := bits r 39 36
def routeSeq (r : Nat) : Nat := bits r 55 40

/-- A route field of a dynamic packet. -/
def mkRoute (dest source kind : Nat) (flag : Bool) (via seq len : Nat) : Nat :=
  dest + 2 ^ 16 * source + 2 ^ 32 * kind + 2 ^ 35 * ofBool flag + 2 ^ 36 * via + 2 ^ 40 * (seq % 2 ^ 16) + 2 ^ 56 * (len - 1)

/-- The route byte of one field put into another. -/
def withRouteByte (r byte : Nat) : Nat := r - 2 ^ 32 * bits r 39 32 + 2 ^ 32 * byte

def podOf (d : Nat) : Nat := d / 256 % 256

/-- The index of the route entry for a destination, or for a pod (R331, R332). -/
def State.routeIndex (s : State) (route : Nat) : Nat :=
  let pod := if routeKind route = 2 then bits (Table.get 0 s.router.vias (routeVia route)) 7 0 else podOf (routeDest' route)
  if routeKind route ≠ 2 ∧ podOf (routeDest' route) = podOf s.deviceId then 256 + routeDest' route % 256 else pod

def State.routeEntry (s : State) (route : Nat) : Nat := Table.get 0 s.router.routes (s.routeIndex route)

/-- A Rim reads the entries a packet's route needs: can they be used (R327)? -/
def State.readRoute (s : State) (rim route : Nat) : Bool × State :=
  let v := if routeKind route = 2 then s.readEntry rim 4 (routeVia route) 0 else (true, s)
  let r := if routeDest' route = s.deviceId then (true, v.2) else v.2.readEntry rim 3 (s.routeIndex route) 0
  (v.1 && r.1, r.2)

def entryMask (e : Nat) : Nat := bits e 35 0
def entryDet (e : Nat) : Nat := bits e 41 36
def entryValid (e : Nat) : Bool := bit e 42

/-- At the via pod, or with the destination in it, VIA_A becomes VIA_B (R332). -/
def State.viaStep (s : State) (route : Nat) : Nat :=
  if routeKind route = 2 ∧ bits (Table.get 0 s.router.vias (routeVia route)) 7 0 = podOf s.deviceId then
    withRouteByte route (bits route 39 32 + 1)
  else route

/-- A packet that chooses among the minimal ports: ADAPT, VIA_A or VIA_B, not escaped (R332). -/
def adaptiveRoute (route : Nat) : Bool :=
  (routeKind route = 1 || routeKind route = 2 || routeKind route = 3) && !routeFlag route

/-- May an adaptive packet leave by a port (R332)? -/
def State.choosable (s : State) (e p : Nat) : Bool :=
  bit (entryMask e) p && s.train p = .active && s.get .LNK_STATUS_mode p ≠ 1 && !s.fenced p

/-- The choosable port with the most credit on a VC; a tie goes to the lowest number. -/
def State.bestPort (s : State) (e vc : Nat) : Option Nat :=
  ((List.range 36).filter (fun p => s.choosable e p)).foldl
    (fun b p => match b with
      | none => some p
      | some q => if s.credit p vc > s.credit q vc then some p else some q) none

/-- The output of a dynamic packet whose route entries can be used: a port, 36 for this module, 38 for dropped, 39 for a choice
among the minimal ports. `recovery` is a packet of a RECOVERY-mode port, which is routed as DET (R333). -/
def State.routePacket (s : State) (route : Nat) (recovery : Bool) : Nat :=
  if routeKind route = 7 then 38
  else if routeDest' route = s.deviceId then 36
  else if !entryValid (s.routeEntry route) then 38
  else if adaptiveRoute route && !recovery then 39
  else entryDet (s.routeEntry route)

/-- A flit of a dynamic packet waits at its output port, or for a choice of port. -/
def State.dynOut (s : State) (q : Nat) (d : DynFlit) : State :=
  if q = 39 then { s with router := { s.router with adaptive := s.router.adaptive ++ [d] } }
  else s.modPort q (fun x => { x with dyn := x.dyn ++ [d] })

/-- The flits of packet `n` of this module, from Rim `rim`. -/
def State.packetFlits (s : State) (rim route vc n : Nat) (payloads : List (List Byte)) : List DynFlit :=
  payloads.zipIdx.map (fun (b, i) => ⟨⟨0, vc, i + 1 == payloads.length, route, b⟩, i == 0, n, none, rim, s.time.tick⟩)

/-- A packet of this module, in flits, is routed and waits to leave; to this module itself it is not sent. A packet routed to a
fenced port is dropped there (R340). -/
def State.launch (s : State) (rim route vc : Nat) (payloads : List (List Byte)) : State :=
  let route := s.viaStep route
  let n := s.router.packets
  let r := { s with router := { s.router with packets := n + 1 } }.readRoute rim route
  let s := r.2
  let q := if r.1 then s.routePacket route false else 38
  if q = 36 ∨ q = 38 then s.bump .RTE_PORT_MISS_bad_dest (6 * rim) 1
  else if q < 36 ∧ s.fenced q then s.each (List.range payloads.length) (fun s _ => s.fenceDrop q)
  else (s.packetFlits rim route vc n payloads).foldl (fun s d => s.dynOut q d) s

/-! ### Order state (R335 to R339) -/

def State.policy (s : State) (vc : Nat) : Nat := bits (s.get .RTE_DYN_CFG_policy 0) (2 * vc - 1) (2 * vc - 2)

/-- The counts of RTE_ORDER[r]. -/
def State.noteOrder (s : State) (r : Nat) : State :=
  (s.set .RTE_ORDER_contexts r (s.router.contexts.filter (fun c => c.source % 6 == r)).length).set .RTE_ORDER_pairs r
    (s.router.pairs.filter (fun c => c.ord && c.dest % 6 == r)).length

def State.pair? (s : State) (dest vc : Nat) : Option Pair := s.router.pairs.find? (fun x => x.dest == dest && x.vc == vc)

/-- A pair's entry changed, or added. -/
def State.setPair (s : State) (x : Pair) : State :=
  ({ s with router := { s.router with
      pairs := x :: s.router.pairs.filter (fun y => !(y.dest == x.dest && y.vc == x.vc)) } }).noteOrder (x.dest % 6)

def State.context? (s : State) (source vc : Nat) : Option Context :=
  s.router.contexts.find? (fun x => x.source == source && x.vc == vc)

def State.setContext (s : State) (x : Context) : State :=
  ({ s with router := { s.router with
      contexts := x :: s.router.contexts.filter (fun y => !(y.source == x.source && y.vc == x.vc)) } }).noteOrder (x.source % 6)

def State.dropContext (s : State) (source vc : Nat) : State :=
  ({ s with router := { s.router with
      contexts := s.router.contexts.filter (fun y => !(y.source == source && y.vc == vc)) } }).noteOrder (source % 6)

/-- Microseconds in beats of 40 ns. -/
def usBeats (us : Nat) : Nat := 25 * us

/-- A via index is valid where the route entry of its pod is. -/
def State.viaValid (s : State) (i : Nat) : Bool := entryValid (Table.get 0 s.router.routes (bits (Table.get 0 s.router.vias i) 7 0))

/-- The via index a packet takes when the generator draws `n`: the first valid one from there on (DESIGN CHOICE, log entry 44). -/
def State.viaPick (s : State) (n : Nat) : Option Nat := ((List.range 16).map (fun i => (n + i) % 16)).find? s.viaValid

/-- Kind and via index of a packet of an ORD pair (R332, R333): DET under the policy DET; under VIA, VIA_A, or VIA_B where the source or
the destination is in the via pod; ADAPT otherwise, and where no via index is valid. -/
def State.ordKind (s : State) (dest vc via : Nat) : Nat × Nat :=
  match s.policy vc, s.viaPick via with
  | 0, _ => (0, 0)
  | 2, some v =>
    let pod := bits (Table.get 0 s.router.vias v) 7 0
    (if podOf s.deviceId = pod ∨ podOf dest = pod then 3 else 2, v)
  | _, _ => (1, 0)

/-- A local packet goes out (R333, R336, R337): numbered, and ADAPT or VIA, where its pair is in ORD and the window has room,
stalled where it has none, DET otherwise, with flag = 1 where a context is asked for. -/
def State.sendPacket (s : State) (dest vc : Nat) (payloads : List (List Byte)) (via : Nat) : State :=
  let own := s.deviceId
  let len := (payloads.headD []).length
  let rim := dest % 6
  match s.pair? dest vc with
  | some x =>
    if x.ord then
      if (x.next + 2 ^ 16 - x.base) % 2 ^ 16 < x.window then
        let k := s.ordKind dest vc via
        (s.setPair { x with next := (x.next + 1) % 2 ^ 16, lastSent := s.time.tick }).launch rim
          (mkRoute dest own k.1 false k.2 x.next len) vc payloads
      else
        { s with router := { s.router with
            stalled := s.router.stalled ++ [⟨vc, mkRoute dest own 1 false via 0 len, payloads, 36, 0⟩] } }
    else
      let ask := s.policy vc ≠ 0 && (match x.lastReq with
        | none => true
        | some t => decide (t + usBeats (s.get .RTE_ORDER_CFG_retry_us 0) ≤ s.time.tick))
      let s := if ask then s.setPair { x with lastReq := some s.time.tick } else s
      s.launch rim (mkRoute dest own 0 ask 0 x.next len) vc payloads
  | none =>
    let room := decide ((s.router.pairs.filter (fun y => y.dest % 6 == rim)).length < 1024)
    let ask := s.policy vc ≠ 0 && room
    let s := if ask then s.setPair ⟨dest, vc, false, 0, 0, 0, some s.time.tick, s.time.tick⟩ else s
    s.launch rim (mkRoute dest own 0 ask 0 0 len) vc payloads

/-- Stalled packets of a pair try again, oldest first. -/
def State.unstall (s : State) (dest vc : Nat) : State :=
  let mine := s.router.stalled.filter (fun k => routeDest' k.route == dest && k.vc == vc)
  let rest := s.router.stalled.filter (fun k => !(routeDest' k.route == dest && k.vc == vc))
  mine.foldl (fun s k => s.sendPacket dest vc k.payloads (routeVia k.route)) { s with router := { s.router with stalled := rest } }

/-- A GRANT: the next expected order_seq and W, DET on the pair's VC (R336). -/
def State.sendGrant (s : State) (source vc exp window : Nat) : State :=
  s.launch (source % 6) (mkRoute source s.deviceId 4 false vc exp 2) vc [toLE 2 window]

/-- A packet of a context has been delivered: every 16th with no GRANT since sends one (R337). -/
def State.covered (s : State) (x : Context) : Context × State :=
  if x.uncovered ≥ 16 then ({ x with uncovered := 0 }, s.sendGrant x.source x.vc x.exp x.window) else (x, s)

/-- An agent that does not run holds its packets and their credit: the Field dies' DMA and the tier-2 controllers in Hush, the
controllers alone in Relay and during a field reset (R435, R440). -/
def State.parks (s : State) (a : Nat) : Bool :=
  match s.power with
  | .active => false
  | .hush => decide (1 ≤ a) && decide (a ≤ 10)
  | .relay | .fieldReset => decide (9 ≤ a) && decide (a ≤ 10)

/-- Credit of `n` flits of a VC freed. -/
def State.freeMany (s : State) (p vc : Nat) : Nat → State
  | 0 => s
  | n + 1 => (s.freeOne p vc).freeMany p vc n

/-- The flits whose credit the packet of a port and VC still holds; and its credit freed. -/
def State.keptOf (s : State) (p vc : Nat) : Nat := Table.get 0 s.router.kept (8 * p + vc)
def State.forgetKept (s : State) (p vc : Nat) : State :=
  { s with router := { s.router with kept := Table.set 0 s.router.kept (8 * p + vc) 0 } }
def State.freeKept (s : State) (p vc : Nat) : State := (s.forgetKept p vc).freeMany p vc (s.keptOf p vc)
def State.keepOne (s : State) (p vc : Nat) : State :=
  { s with router := { s.router with kept := Table.set 0 s.router.kept (8 * p + vc) (s.keptOf p vc + 1) } }

/-- The receiving agent of a packet (R329): 0 the hub, 1 to 8 the Field dies' DMA, 9 and 10 the tier-2 controllers. A packet
for another agent, or a Field die in reset or off, is dropped and counted; one for an agent that holds its packets waits. It goes
from its home Rim to the agent's. -/
def State.deliver (s : State) (p vc home : Nat) (payloads : List (List Byte)) : State :=
  let a := leAt (payloads.headD []) 0 1
  if a > 10 ∨ (1 ≤ a ∧ a ≤ 8 ∧ (!s.fieldUp || s.get .RTE_PLAN_forwarding_only 0 = 1)) then
    (s.freeKept p vc).bump .RTE_PORT_MISS_bad_dest p 1
  else if s.parks a then
    { s.forgetKept p vc with router := { (s.forgetKept p vc).router with
        parked := s.router.parked ++ [⟨p, vc, a, payloads, s.keptOf p vc⟩] } }
  else ((s.freeKept p vc).crossChain home (agentRim home a) false payloads.length).emit (.packet a payloads)

/-- Packets held early that now follow are delivered in order; one with no flits is an order_seq used by a discarded packet.
The fuel is the number held. -/
def State.deliverHeld (p : Nat) : Nat → Context → State → Context × State
  | 0, x, s => (x, s)
  | n + 1, x, s =>
    match x.held.find? (fun k => routeSeq k.route == x.exp) with
    | none => (x, s)
    | some k =>
      let s := if k.payloads.isEmpty then s else s.deliver p k.vc (x.source % 6) k.payloads
      let r := s.covered { x with exp := (x.exp + 1) % 2 ^ 16, held := x.held.filter (fun j => routeSeq j.route != x.exp)
                                  uncovered := x.uncovered + 1 }
      deliverHeld p n r.1 r.2

/-- A packet of a context arrives with its order_seq: delivered in order, held where early (R338). -/
def State.orderIn (s : State) (p : Nat) (x : Context) (k : Packet) : State :=
  let d := (routeSeq k.route + 2 ^ 16 - x.exp) % 2 ^ 16
  if d ≥ x.window ∨ (d ≠ 0 ∧ x.held.any (fun j => routeSeq j.route == routeSeq k.route)) then
    if d ≥ x.window then s.bump .RTE_PORT_MISS_bad_dest p 1 else s
  else if d ≠ 0 then s.setContext { x with held := x.held ++ [k] }
  else
    let x := { x with held := k :: x.held, since := if x.uncovered = 0 then s.time.tick else x.since }
    let r := State.deliverHeld p x.held.length x s
    r.2.setContext r.1

end Sys2Proof.Machine
end

