-- ==== Sys2Proof/Machine/Beat.lean ====
section
/-! DEFINITION. MACHINE_BEAT (R6, R7, R42, R55): the region clocks and the tiles run on for a beat, with what agents inside the
module and the environment did to the memories in it (R240, R244, R249, R256, R264, R267), and the beat counter advances. -/

namespace Sys2Proof.Machine

/-! ### Accesses inside the module -/

/-- A scratchpad access through a die's DMA engine by the security block, or by firmware on the non-secure channels (R249). -/
def State.innerSpad (s : State) (security : Bool) (t u : Nat) (data : Option (Vector Byte 32)) : State :=
  if !s.tiersServe then s
  else if !security && s.inWindow (tileDie t) u then s.bump .FLD_DMA_STAT_secure_denied (tileDie t) 1
  else
    match data with
    | some b => s.putUnit t u b.toList
    | none => (s.eccRead t u).2

/-- Firmware's rights to a unit of a tier (R256, R264): 0 none, 1 reads, 2 reads and writes. -/
def firmwareRights (tier2 : Bool) (a : Nat) : Nat :=
  if tier2 then (if a < t2Units then 2 else 0)
  else if a ≥ t1Units then 0 else if planAreaBase ≤ a ∧ a ≤ planAreaTop then 1 else 2

/-- A tier access of firmware. -/
def State.innerTier (s : State) (tier2 : Bool) (a : Nat) (data : Option (Vector Byte 32)) : State :=
  let tier := if tier2 then 2 else 1
  if !s.tiersServe then s
  else
    match data with
    | some b => if firmwareRights tier2 a = 2 then (s.putTier tier a b.toList).countMoved tier 1 a else s
    | none => if firmwareRights tier2 a = 0 then s else (s.tierRead tier a false false).2.countMoved tier 1 a

def State.inner (s : State) (a : InnerAccess) : State :=
  match a with
  | .spad security t u data => s.innerSpad security t u.toNat data
  | .tier tier2 a data => s.innerTier tier2 a.toNat data

/-! ### Errors that come by themselves -/

/-- A bit of a stored unit turns, or two of one word do (R244): a second error makes the unit uncorrectable. -/
def State.upset (s : State) (x : Upset) : State :=
  let k := 2 ^ 15 * x.tile.val + x.unit'.toNat
  { s with spadErr := s.spadErr.put k (if x.double || (s.spadErr.find? k).isSome then 2 else 1) }

/-- The packages of a tier-2 controller report errors that their own check and scrub found (R267). -/
def State.packageErrors (s : State) (k n : Nat) : State := if n = 0 then s else s.bump .TTM_ECC_ecs_count k n

/-! ### The clocks -/

/-- A table whose entry for each region grows by the region's cycles; a region stopped to retune makes none (R64). -/
def State.addCycles (s : State) (x : BeatIn) (t : Table Nat) : Table Nat :=
  (List.range 576).foldl (fun t r =>
    let n := (x.cycles.toList.getD r 0).toNat
    if n = 0 ∨ s.time.stops.any (fun k => k.region == r) then t else Table.set 0 t r (Table.get 0 t r + n)) t

/-- The region clocks of the beat that ends (R55, R57, R440). -/
def State.runClocks (s : State) (x : BeatIn) : State :=
  { s with time := { s.time with
      clock := if s.tilesUp then s.addCycles x s.time.clock else s.time.clock
      cycles := if s.fieldUp then s.addCycles x s.time.cycles else s.time.cycles } }

/-- A clocked tile in which something moves runs up to its region's clock. -/
def State.runTile (s : State) (t : Nat) : State :=
  if (s.tile t).quiet || !s.tileClocked t then s else s.runTo t (s.clockOf t)

/-- The tiles' cycles of the beat that ends. -/
def State.runTiles (s : State) (x : BeatIn) : State :=
  (s.tiles.map Prod.fst).foldl State.runTile (s.runClocks x)

/-- What happens in the beat that ends, besides the commands that came in it. -/
def State.endBeat (s : State) (x : BeatIn) : State :=
  let s := s.runTiles x
  let s := x.tables.foldl State.flaw (x.upsets.foldl State.upset (x.inner.foldl State.inner s))
  (s.packageErrors 0 (x.ecs.toList.getD 0 0).toNat).packageErrors 1 (x.ecs.toList.getD 1 0).toNat

/-- MACHINE_BEAT: the tiles run on, and the counter advances by one, in every power state. -/
def execMachineBeat (x : BeatIn) (s : State) : Host.Outcome State Fault Refusal :=
  occurs s.powered (fun s => machineBeat (s.endBeat x)) s

end Sys2Proof.Machine
end

