-- ==== Sys2Proof/Machine/Live.lean ====
section
/-! DEFINITION. What registers read as (R12): the fields that follow a state elsewhere in the machine are computed from it. -/

namespace Sys2Proof.Machine

/-- The earliest pending entry of a rest list. -/
def firstRest : List RestEntry → Option RestEntry
  | [] => none
  | e :: es =>
    match firstRest es with
    | none => some e
    | some f => some (if e.i ≤ f.i then e else f)

/-- Words in the receive buffers of a tile, 5 bits for each queue (R143). -/
def Tile.occupancy (x : Tile) : Nat := ((List.range 6).map (fun q => 2 ^ (5 * q) * min 16 (x.rxQ q).length)).sum

/-- The identifier of the voice in force; 0xFFFF for none (R118). -/
def Tile.voiceId (x : Tile) : Nat := match x.voice with | none => 0xFFFF | some v => leAt v 0 2

/-- What a register field shows when it is read. -/
def State.shown (s : State) (f : RegField) (i : Nat) : Nat :=
  match f with
  | .BEAT_COUNT_LO_count_lo => s.time.beat % 2 ^ 32
  | .BEAT_COUNT_HI_count_hi => s.time.beat / 2 ^ 32
  | .BEAT_FRAC_frac => s.time.frac
  | .PLN_BEAT_LO_plan_beat => s.plan.beat % 2 ^ 32
  | .PLN_BEAT_HI_plan_beat => s.plan.beat / 2 ^ 32 % 2 ^ 32
  | .PLN_STATUS_rest_pending => ofBool !s.plan.rests.isEmpty
  | .PLN_REST_LIST_entries => s.plan.rests.length
  | .PLN_NEXT_REST_measure_lo => match firstRest s.plan.rests with | none => 0 | some e => e.i / 16 % 2 ^ 28
  | .PLN_NEXT_REST_rest_len => match firstRest s.plan.rests with | none => 0 | some e => e.d % 16
  | .TIL_STATUS_state => s.tileStatus i
  | .TIL_STATUS_voice_id => (s.tile i).voiceId
  | .TIL_TOKEN_board => (s.tile i).board / 2 % 2 ^ 15
  | .TIL_QUEUE_OCC_occupancy => (s.tile i).occupancy
  | .TIL_FLAGS_flags => (s.tile (i / 8)).flags / 2 ^ (32 * (i % 8)) % 2 ^ 32
  | .RTE_TOLL_SEEN_entries => s.router.seen.foldl (fun n e => max n e.2.length) 0
  | .MGT_MBX_LOCK_lock => s.get .MGT_MBX_STATUS_owner i
  | .FLT_STATUS_alert1 => ofBool s.alert1
  | f => s.get f i

/-- A register's 32 bits as they stand: reserved bits and write-only fields read 0 (R11, R12). -/
def State.regValue (s : State) (r : Reg) (i : Nat) : Nat :=
  (r.fields.map (fun f => if f.access = .WO then 0 else 2 ^ f.lo * s.shown f i)).sum

/-- The HI registers whose value is the one that the read of their LO register latched, for the agent that reads (R472). -/
def latchedReg : Reg → Bool
  | .BEAT_COUNT_HI | .BEAT_FRAC | .PLN_START_HI | .PLN_BEAT_HI | .PLN_STOP_HI | .HBM_PLAN_LIMIT_HI | .HBM_UE_ADDR_HI
  | .TTM_PLAN_LIMIT_HI | .TTM_UE_ADDR_HI | .HST_AQ_SQ_HI | .HST_AQ_CQ_HI | .HST_EVT_BASE_HI | .LNK_PEER_HI
  | .TIL_HALT_BEAT_HI | .FLT_FATAL_BEAT_HI => true
  | _ => false

/-- A register held in a die that is off or held in reset (R472): the Field dies in Relay and during a field reset, the
tier-2 controllers during a field reset. -/
def State.offline (s : State) (r : Reg) : Bool :=
  match r.info.held with
  | .hub | .rim => false
  | .field => !s.fieldUp
  | .tc => s.power = .fieldReset

end Sys2Proof.Machine
end

