-- ==== Sys2Proof/Machine/HostOps.lean ====
section
/-! DEFINITION. Shared operations of the host interface (R354 to R369): queues, the opcode table, which command may start, and
completions. -/

namespace Sys2Proof.Machine

/-- What the PCIe function shows of itself (R348). -/
structure PciIdentity where
  vendorId : BitVec 16
  deviceId : Nat
  classCode : Nat
  revisionId : BitVec 8
  lanes : Nat
  /-- Link rates in GT/s; at 64 in flit mode. -/
  rates : List Nat
  maxPayload : Nat
  maxReadRequest : Nat
  msixVectors : Nat
  /-- Function-level reset. -/
  flr : Bool
deriving DecidableEq, Repr

/-- The identity of R348; vendor ID and silicon stepping are given nowhere (log entry 41). -/
def pciIdentity : PciIdentity :=
  { vendorId := Config.pciVendor, deviceId := 0x0B25, classCode := 0x120000, revisionId := Config.pciRevision, lanes := 16
    rates := [64, 32, 16], maxPayload := 512, maxReadRequest := 4096, msixVectors := 64, flr := false }

/-- A base address register pair (R349). -/
structure Bar where
  number : Nat
  bits64 : Bool
  size : Nat
  prefetchable : Bool
deriving DecidableEq, Repr

/-- The BARs of R349. -/
def bars : List Bar := [⟨0, true, 2 ^ 26, false⟩, ⟨2, true, 2 ^ 36, true⟩, ⟨4, true, 2 ^ 20, false⟩]

/-- Does an offset lie in a BAR? -/
def inBar (n off : Nat) : Bool := bars.any (fun b => b.number == n && decide (off < b.size))

/-- PCIe is trained and the hub is ready: host accesses arrive (R29, R30). -/
def State.hostUp (s : State) : Bool := s.pcie && s.hubUp

/-- The interface fetches (R352). -/
def State.fetching (s : State) : Bool := s.hostUp && s.get .HST_STATUS_running 0 = 1

def State.queue? (s : State) (q : Nat) : Option Queue := s.host.queues.find? q
def State.setQueue (s : State) (q : Nat) (x : Queue) : State :=
  { s with host := { s.host with queues := s.host.queues.put q x } }

/-- N of a ring: a power of two from 16 to 4,096 (R354). -/
def ringSize (n : Nat) : Bool := isPow2 n && decide (16 ≤ n) && decide (n ≤ 4096)

/-- A new queue pair. -/
def newQueue (sq cq n vector : Nat) : Queue :=
  { sqBase := sq, cqBase := cq, n := n, vector := vector, sqHead := 0, sqTail := 0, cqHead := 0, cqTail := 0, phase := true
    reserved := 0, waiting := 0, deleting := none }

/-- Slots between an SQ's head and tail. -/
def Queue.available (x : Queue) : Nat := (x.sqTail + x.n - x.sqHead) % x.n
/-- A CQ entry is free to reserve (R356). -/
def Queue.hasEntry (x : Queue) : Bool := decide (x.reserved + x.waiting < x.n)

/-! ### The opcode table (R362) -/

structure OpInfo where
  fmts : List Nat
  admin : Bool
  serial : Bool
  feature : Nat
deriving DecidableEq, Repr

/-- Formats (0 CMD1, 1 CMD2, 2 CMD3), marks and feature bit of an opcode; none for an opcode the table does not have. -/
def opInfo (op : Nat) : Option OpInfo :=
  match op with
  | 0x00 => some ⟨[0, 1, 2], false, false, 0⟩
  | 0x01 => some ⟨[1], false, false, 1⟩
  | 0x02 => some ⟨[0], false, false, 0⟩
  | 0x03 => some ⟨[1], true, false, 4⟩
  | 0x04 => some ⟨[0], true, false, 4⟩
  | 0x10 => some ⟨[0], false, true, 10⟩
  | 0x11 => some ⟨[0], false, true, 10⟩
  | 0x12 => some ⟨[0], false, true, 11⟩
  | 0x13 => some ⟨[0], false, true, 10⟩
  | 0x14 => some ⟨[0], false, false, 10⟩
  | 0x20 => some ⟨[1, 2], false, false, 1⟩
  | 0x21 => some ⟨[1, 2], false, false, 1⟩
  | 0x22 => some ⟨[0], false, false, 0⟩
  | 0x23 => some ⟨[1], false, false, 12⟩
  | 0x30 => some ⟨[0], false, false, 18⟩
  | 0x31 => some ⟨[0], false, true, 18⟩
  | 0x32 => some ⟨[0], false, true, 18⟩
  | 0x40 => some ⟨[2], false, false, 13⟩
  | 0x41 => some ⟨[0], false, false, 13⟩
  | 0x42 => some ⟨[1], false, false, 13⟩
  | 0x43 => some ⟨[0], false, false, 13⟩
  | 0x50 => some ⟨[1], false, false, 14⟩
  | 0x60 => some ⟨[0], false, false, 0⟩
  | 0x61 => some ⟨[0], true, true, 0⟩
  | 0x62 => some ⟨[1], false, false, 15⟩
  | 0x63 => some ⟨[0], true, true, 20⟩
  | 0x64 => some ⟨[0], true, true, 21⟩
  | 0x70 => some ⟨[0], false, false, 19⟩
  | 0x71 => some ⟨[2], true, true, 19⟩
  | _ => none

/-- SQ slots of a packet by its fmt (R359, R478). -/
def packetSlots (fmt : Nat) : Nat := match fmt with | 0 => 1 | 1 => 2 | 2 => 4 | _ => 1

def Fetched.op (f : Fetched) : Nat := leAt f.packet 0 1
def Fetched.fmt (f : Fetched) : Nat := leAt f.packet 1 1 % 4
/-- A parameter of the packet: byte offset and length. -/
def Fetched.par (f : Fetched) (off n : Nat) : Nat := leAt f.packet off n
def Fetched.serial (f : Fetched) : Bool := match opInfo f.op with | none => false | some i => i.serial
/-- FENCE and its scope (R368). -/
def Fetched.fence (f : Fetched) : Option Nat := if f.op = 0x22 then some (f.par 8 1 % 2) else none
/-- The ordered bit, where it is honoured (R359, R368). -/
def State.ordered (s : State) (f : Fetched) : Bool :=
  (f.fmt = 1 || f.fmt = 2) && bit (leAt f.packet 1 1) 2 && s.feature 3

/-- What the header of a packet is refused for at its fetch (R361, R478): fmt 3, then the opcode, the format, the feature
and the queue, in this order (log entry 30). -/
def State.headerCode (s : State) (q : Nat) (packet : List Byte) : Option (Cc × Nat) :=
  let fmt := leAt packet 1 1 % 4
  if fmt = 3 then some (.formatInvalid, 0)
  else
    match opInfo (leAt packet 0 1) with
    | none => some (.opcodeInvalid, 0)
    | some i =>
      if !i.fmts.contains fmt ∨ (fmt ≠ 0 ∧ !s.feature fmt) then some (.formatInvalid, 0)
      else if !s.feature i.feature then some (.featureDisabled, i.feature)
      else if i.admin ∧ q ≠ 0 then some (.adminOnly, 0)
      else none

/-! ### Starting (R357, R368) -/

/-- The commands fetched before one, in order. -/
def earlier (q cid : Nat) : List Fetched → List Fetched
  | [] => []
  | f :: fs => if f.q = q ∧ f.cid = cid ∧ !f.started then [] else f :: earlier q cid fs

/-- The first fetched command of a queue and identifier that has not started. -/
def State.command? (s : State) (q cid : Nat) : Option Fetched :=
  s.host.fetched.find? (fun f => f.q == q && f.cid == cid && !f.started)

/-- Does a push wait for an earlier one of its stream (R375)? -/
def behindPush (f : Fetched) (before : List Fetched) : Bool :=
  f.op == 0x23 && before.any (fun e => e.op == 0x23 && e.par 20 1 == f.par 20 1)

/-- May a command start: in fetch order within its SQ, behind no FENCE that holds it, an ordered one and a FENCE after the
commands they wait for, one serial opcode at a time, the pushes of a stream in fetch order. -/
def State.canStart (s : State) (f : Fetched) : Bool :=
  let before := earlier f.q f.cid s.host.fetched
  let same := before.filter (fun e => e.q == f.q)
  same.all (fun e => e.started)
    && before.all (fun e => match e.fence with
        | none => true
        | some sc => !(e.q == f.q || sc == 1))
    && (match f.fence with
        | none => true
        | some sc => if sc = 1 then before.isEmpty else same.isEmpty)
    && (!s.ordered f || same.isEmpty)
    && (!f.serial || before.all (fun e => !e.serial))
    && !behindPush f before

/-- The first fetched command of a queue and identifier that is running. -/
def State.running? (s : State) (q cid op : Nat) : Option Fetched :=
  s.host.fetched.find? (fun f => f.q == q && f.cid == cid && f.started && f.op == op)

/-- A list without its first element that passes a test. -/
def removeFirst {α : Type} (p : α → Bool) : List α → List α
  | [] => []
  | a :: l => if p a then l else a :: removeFirst p l

/-- A list with its first element that passes a test replaced. -/
def changeFirst {α : Type} (p : α → Bool) (f : α → α) : List α → List α
  | [] => []
  | a :: l => if p a then f a :: l else a :: changeFirst p f l

def Fetched.same (f g : Fetched) : Bool := f.q == g.q && f.cid == g.cid && f.sqHead == g.sqHead && f.started == g.started && f.mute == g.mute

/-- A command's effect has begun; it completes with `done` once its end comes. -/
def State.start (s : State) (f : Fetched) (done : Option (Nat × Nat)) : State :=
  { s with host := { s.host with
      fetched := changeFirst (fun g => g.same f) (fun g => { g with started := true, done := done }) s.host.fetched } }

/-! ### Completions (R357, R360, R361) -/

/-- Codes not counted in HST_ERR.cmd_errors. -/
def counted (code : Nat) : Bool := code ≠ 0x00 && code ≠ 0x40

/-- The CQ entry of 16 bytes. -/
def cqe (q cid sqHead code : Nat) (phase : Bool) (result : Nat) : List Byte :=
  toLE 2 cid ++ toLE 2 q ++ toLE 2 sqHead ++ toLE 1 code ++ toLE 1 (ofBool phase) ++ toLE 8 result

/-- A command completes: it leaves the list, and its entry and MSI-X vector go to the host. -/
def State.completeRaw (s : State) (f : Fetched) (code result : Nat) : State :=
  let s := if counted code then s.bump .HST_ERR_cmd_errors 0 1 else s
  let s := { s with host := { s.host with fetched := removeFirst (fun g => g.same f) s.host.fetched } }
  match s.queue? f.q with
  | none => s
  | some x =>
    if f.mute then s
    else
      let t := (x.cqTail + 1) % x.n
      ((s.emit (.hostWrite (x.cqBase + 16 * x.cqTail) (cqe f.q f.cid f.sqHead code x.phase result) false)).sendMsix x.vector).setQueue f.q
        { x with cqTail := t, phase := if t = 0 then !x.phase else x.phase, reserved := x.reserved - 1, waiting := x.waiting + 1 }

/-- A pair being deleted goes once its last command has completed, and its QUEUE_DELETE completes (R363). -/
def State.reap (s : State) (q : Nat) : State :=
  match (s.queue? q).bind (fun x => x.deleting) with
  | none => s
  | some n =>
    if s.host.fetched.any (fun f => f.q == q) then s
    else
      let s := { s with host := { s.host with queues := s.host.queues.erase q } }
      match s.host.fetched.find? (fun f => f.op == 0x04 && f.started && f.par 8 1 == q) with
      | none => s
      | some f => s.completeRaw f 0 n

def State.completeNum (s : State) (f : Fetched) (code result : Nat) : State := (s.completeRaw f code result).reap f.q
def State.complete (s : State) (f : Fetched) (c : Cc) (result : Nat) : State := s.completeNum f c.code result

/-- The result of a completion with STATE (R361). -/
def State.stateResult (s : State) : Nat := s.get .PLN_STATUS_state 0 + 256 * s.get .FLT_STATUS_pwr_state 0

/-- The shape of a host command's row: the first unstarted command of that queue and identifier carries the row's opcode,
and may start. -/
def hostCommand (op : Nat) (q : QueueIx) (cid : Cid) (body : Fetched → State → State) (s : State) :
    Host.Outcome State Fault Refusal :=
  match s.command? q.val cid.toNat with
  | none => occurs false id s
  | some f => occurs (s.hubUp && f.op == op && s.canStart f) (body f) s

/-- Data written to host memory. -/
def State.toHost (s : State) (addr : Nat) (b : List Byte) : State := s.emit (.hostWrite addr b false)

/-- A DMA data write: with the relaxed-ordering attribute where the feature and the Device Control register's bit allow it (R351, R369). -/
def State.dmaToHost (s : State) (addr : Nat) (b : List Byte) : State :=
  s.emit (.hostWrite addr b (s.feature 5 && Config.relaxedOrdering))

end Sys2Proof.Machine
end

