-- ==== Sys2Proof/Machine/PlanImage.lean ====
section
/-! DEFINITION. The plan image (R75 to R79, R92, R175, R251, R320 to R331, R373, R382, R473 to R476): its header, its
directory, its sections, and the device's checks of them in the order of R475. -/

namespace Sys2Proof.Machine

/-- Part of a memory, from a byte address on: an image, or a section of one. -/
structure Span where
  mem : Memory
  base : Nat
  len : Nat

/-- The `n` bytes from byte `off`, as a number. -/
def Span.le (x : Span) (off n : Nat) : Nat := ofLE (x.mem.readBytes (x.base + off) n)
def Span.bytes (x : Span) (off n : Nat) : List Byte := x.mem.readBytes (x.base + off) n

/-- Entries of `size` bytes behind a header of `hdr` bytes: the offset of each. -/
def offsets (hdr size count : Nat) : List Nat := (List.range count).map (fun i => hdr + size * i)

/-- The entries that a section's count promises lie in it. -/
def Span.holds (x : Span) (hdr size count : Nat) : Bool := decide (hdr + size * count ≤ x.len)

/-- Entries a section has room for, at most as many as its count says: another section's check may read one whose own check
has not come yet. -/
def Span.count (x : Span) (hdr size : Nat) : Nat := if x.len < hdr then 0 else min (x.le 0 4) ((x.len - hdr) / size)

/-- No two elements of a list are related. -/
def allApart {α : Type} (clash : α → α → Bool) : List α → Bool
  | [] => true
  | a :: l => l.all (fun b => !clash a b) && allApart clash l

/-- Every two neighbours of a list are in order. -/
def inOrder {α : Type} (le : α → α → Bool) : List α → Bool
  | [] => true
  | [_] => true
  | a :: b :: l => le a b && inOrder le (b :: l)

/-! ### The header (R76) -/

structure Header where
  magicOk : Bool
  epoch : Nat
  device : Nat
  grade : Nat
  derate : Nat
  reach : Nat
  grace : Nat
  regionRest : Nat
  itemRest : Nat
  modules : Nat
  prologue : Nat
  body : Nat
  repeats : Nat
  kRequired : Nat
  hash : Nat
  length : Nat
  sections : Nat
  crcOk : Bool
deriving DecidableEq, Repr

/-- "BKPLAN", two zero bytes, version 1. -/
def planMagic : List Byte := [0x42, 0x4B, 0x50, 0x4C, 0x41, 0x4E, 0x00, 0x00, 0x01, 0x00]

def Span.header (x : Span) : Header :=
  { magicOk := x.bytes 0 10 == planMagic, epoch := x.le 10 2, device := x.le 12 2, grade := x.le 14 1, derate := x.le 15 1
    reach := x.le 16 2, grace := x.le 18 1, regionRest := x.le 19 1, itemRest := x.le 20 1, modules := x.le 22 2
    prologue := x.le 24 4, body := x.le 28 4, repeats := x.le 32 4, kRequired := x.le 36 2, hash := x.le 40 8
    length := x.le 48 8, sections := x.le 56 4, crcOk := crcOk (x.bytes 0 64) }

def between (lo hi v : Nat) : Bool := decide (lo ≤ v) && decide (v ≤ hi)

/-- Every header field but derate_n and epoch lies in its range (R76, R85). Epoch 0 is refused as EPOCH_INVALID, whose row of R85 names
it, not as PARAM_RANGE, whose row takes in every field (DESIGN CHOICE, log entry 19: the order of R475 alone would give
PARAM_RANGE). -/
def Header.inRange (h : Header) : Bool :=
  (h.grade == 0x41 || h.grade == 0x42) && between 32 4096 h.reach && between 4 32 h.grace && between 1 15 h.regionRest
    && between 1 15 h.itemRest && between 1 16384 h.modules && decide (1 ≤ h.body)

/-! ### The directory (R77, R476) -/

structure Section where
  typ : Nat
  die : Nat
  crc : Nat
  off : Nat
  len : Nat
deriving DecidableEq, Repr

def Span.section (x : Span) (i : Nat) : Section :=
  let o := 256 + 24 * i
  { typ := x.le o 2, die := x.le (o + 2) 2, crc := x.le (o + 4) 4, off := x.le (o + 8) 8, len := x.le (o + 16) 8 }

/-- The die field fits the type: a die for types 1 to 5 and 0x0B, 0xFFFF for the others. -/
def Section.dieOk (e : Section) : Bool :=
  if between 1 5 e.typ || e.typ == 0x0B then decide (e.die < 8) else between 6 13 e.typ && e.die == 0xFFFF

/-- Two sections that share a byte, or a type and die. -/
def Section.clash (a b : Section) : Bool :=
  (a.typ == b.typ && a.die == b.die)
    || (decide (0 < a.len) && decide (0 < b.len) && decide (a.off < b.off + b.len) && decide (b.off < a.off + a.len))

/-- The first section that breaks R476, by its index. -/
def badSection (dirEnd length : Nat) : Nat → List Section → List Section → Option Nat
  | _, _, [] => none
  | i, before, e :: es =>
    if !e.dieOk || decide (e.off < dirEnd) || decide (e.off + e.len > length) || before.any (fun b => b.clash e) then some i
    else badSection dirEnd length (i + 1) (e :: before) es

/-- An image: its span, header and sections. -/
structure Image where
  span : Span
  header : Header
  sections : List Section

def Image.sub (m : Image) (e : Section) : Span := ⟨m.span.mem, m.span.base + e.off, e.len⟩

/-- The section of a type and die, empty where the image carries none. -/
def Image.find (m : Image) (typ die : Nat) : Option Span :=
  (m.sections.find? (fun e => e.typ == typ && e.die == die)).map m.sub
def Image.get (m : Image) (typ die : Nat) : Span := (m.find typ die).getD ⟨m.span.mem, 0, 0⟩

/-- Image measures: P + L. -/
def Image.measures (m : Image) : Nat := m.header.prologue + m.header.body

/-! ### Per-die sections that write scratchpads (R175, R176, R251, R473) -/

structure ProgEntry where
  tile : Nat
  place : Bool
  load : Nat
  prologue : Nat
  prologueWords : Nat
  body : Nat
  bodyWords : Nat
  offset : Nat
  bytes : Nat
deriving DecidableEq, Repr

/-- Is (column, row) a tile of the die that has work: no bad row, no spare row? -/
def State.working (s : State) (d c r : Nat) : Bool := decide (c < 32) && (s.virtualRow d r).isSome

/-- A 17-bit word address (R175). -/
def wordAddress (v : Nat) : Nat := v % 2 ^ 17

def State.progEntries (s : State) (x : Span) (d : Nat) : List ProgEntry :=
  (offsets 8 32 (x.le 0 4)).map (fun o =>
    { tile := tileAt d (x.le o 1) (x.le (o + 1) 1), place := s.working d (x.le o 1) (x.le (o + 1) 1)
      load := x.le (o + 4) 4, prologue := x.le (o + 8) 4, prologueWords := x.le (o + 12) 4, body := x.le (o + 16) 4
      bodyWords := x.le (o + 20) 4, offset := x.le (o + 24) 4, bytes := x.le (o + 28) 4 })

def ProgEntry.ok (e : ProgEntry) (len : Nat) : Bool :=
  let z := e.load + e.bytes / 8
  e.place && e.bytes % 8 == 0 && decide (8 * e.load + e.bytes ≤ 2 ^ 20) && decide (e.offset + e.bytes ≤ len)
    && decide (1 ≤ e.bodyWords) && decide (e.load ≤ e.body) && decide (e.body + e.bodyWords ≤ z)
    && (e.prologueWords == 0 || (decide (e.load ≤ e.prologue) && decide (e.prologue + e.prologueWords ≤ z)))

structure VoiceEntry where
  tile : Nat
  place : Bool
  unit' : Nat
  head : Nat
  tables : List Nat
deriving DecidableEq, Repr

def State.voiceEntries (s : State) (x : Span) (d : Nat) : List VoiceEntry :=
  (offsets 8 16 (x.le 0 4)).map (fun o =>
    { tile := tileAt d (x.le o 1) (x.le (o + 1) 1), place := s.working d (x.le o 1) (x.le (o + 1) 1)
      unit' := x.le (o + 2) 2 % 2 ^ 15, head := x.le (o + 4) 4
      tables := [x.le (o + 8) 2, x.le (o + 10) 2, x.le (o + 12) 2] })

/-- Function tables that a die's section holds. -/
def Image.tableCount (m : Image) (d : Nat) : Nat :=
  let x := m.get 3 d
  if x.len < 8 then 0 else x.le 0 4

def VoiceEntry.ok (e : VoiceEntry) (len tables : Nat) : Bool :=
  e.place && e.unit' % 256 == 0 && decide (e.head + 2048 ≤ len)
    && e.tables.all (fun t => t == 0xFFFF || decide (t < tables))

/-- The bytes of a voice image: its head and three function tables (R113, R473). -/
def Image.voiceBytes (m : Image) (d : Nat) (e : VoiceEntry) : List Byte :=
  (m.get 2 d).bytes e.head 2048
    ++ e.tables.flatMap (fun t => if t = 0xFFFF then zeros 2048 else (m.get 3 d).bytes (8 + 2048 * t) 2048)

structure SpadRecord where
  tile : Nat
  place : Bool
  unit' : Nat
  units : Nat
  offset : Nat
deriving DecidableEq, Repr

def State.spadRecords (s : State) (x : Span) (d : Nat) : List SpadRecord :=
  (offsets 8 16 (x.le 0 4)).map (fun o =>
    { tile := tileAt d (x.le o 1) (x.le (o + 1) 1), place := s.working d (x.le o 1) (x.le (o + 1) 1)
      unit' := x.le (o + 4) 2 % 2 ^ 15, units := x.le (o + 8) 4, offset := x.le (o + 12) 4 })

def SpadRecord.ok (e : SpadRecord) (len : Nat) : Bool :=
  e.place && between 1 32768 e.units && decide (e.unit' + e.units ≤ 32768) && e.offset % 32 == 0
    && decide (e.offset + 32 * e.units ≤ len)

/-- Units of a tile that a section writes. -/
structure Write where
  tile : Nat
  lo : Nat
  hi : Nat
deriving DecidableEq, Repr

def Write.clash (a b : Write) : Bool := a.tile == b.tile && decide (a.lo < b.hi) && decide (b.lo < a.hi)

/-- What a section writes into scratchpads: programs 1, voice images 2, initial contents 0x0B. -/
def State.sectionWrites (s : State) (m : Image) (e : Section) : List Write :=
  let x := m.sub e
  match e.typ with
  | 0x01 => (s.progEntries x e.die).map (fun p => ⟨p.tile, 8 * p.load / 32, (8 * p.load + p.bytes + 31) / 32⟩)
  | 0x02 => (s.voiceEntries x e.die).map (fun v => ⟨v.tile, v.unit', v.unit' + 256⟩)
  | 0x0B => (s.spadRecords x e.die).map (fun r => ⟨r.tile, r.unit', r.unit' + r.units⟩)
  | _ => []

/-- No unit written twice by this section and the earlier ones, and no unit of the secure window (R251). -/
def State.writesOk (s : State) (earlier new : List Write) : Bool :=
  allApart Write.clash new && new.all (fun a => earlier.all (fun b => !a.clash b))
    && new.all (fun a =>
      let d := tileDie a.tile
      let base := 256 * s.get .FLD_SPAD_SECURE_base_blk d
      let size := 256 * s.get .FLD_SPAD_SECURE_size_blk d
      size == 0 || decide (a.hi ≤ base) || decide (base + size ≤ a.lo))

/-! ### Frequencies, due beats (R79, R92) -/

def Span.freqEntries (x : Span) (die : Nat) : List FreqEntry :=
  (offsets 0 8 (x.len / 8)).map (fun o => ⟨die, x.le o 4, x.le (o + 4) 1, x.le (o + 5) 1⟩)

def freqOk (measures : Nat) (x : Span) : Bool :=
  let es := x.freqEntries 0
  x.len % 8 == 0 && es.all (fun e => decide (e.measure < measures) && decide (e.region < 72))
    && inOrder (fun a b => decide (a.measure ≤ b.measure)) es

def Span.dueEntries (x : Span) : List DueEntry :=
  (offsets 8 32 (x.count 8 32)).map (fun o =>
    { due := x.le o 8, consume := x.le (o + 8) 4, tag := x.le (o + 12) 4 % 2 ^ 20, restD := x.le (o + 17) 1, port := x.le (o + 18) 1
      flits := x.le (o + 20) 4, source := x.le (o + 24) 2 })

def dueOk (measures : Nat) (x : Span) : Bool :=
  decide (8 ≤ x.len) && x.holds 8 32 (x.le 0 4)
    && (offsets 8 32 (x.le 0 4)).all (fun o => x.le (o + 16) 1 == 0)
    && x.dueEntries.all (fun e => decide (e.restD ≤ 15) && decide (e.port ≤ 35) && decide (e.flits ≤ 2 ^ 20)
        && decide (e.due < 16 * measures))

/-! ### Slots, peals, routes (R320, R321, R324, R331) -/

structure PortEntry where
  port : Nat
  gen : Nat
  width : Nat
  give : Nat
  first : Nat
  count : Nat
deriving DecidableEq, Repr

def Span.portEntries (x : Span) : List PortEntry :=
  (offsets 16 16 (x.le 0 4)).map (fun o =>
    { port := x.le o 1, gen := x.le (o + 1) 1, width := x.le (o + 2) 1, give := x.le (o + 3) 1, first := x.le (o + 8) 4
      count := x.le (o + 12) 4 })

/-- The slot entries of one port record. -/
def Span.slotEntries (x : Span) (p : PortEntry) : List SlotEntry :=
  (offsets (16 + 16 * (x.le 0 4 + p.first)) 16 p.count).map (fun o =>
    { port := p.port, measure := x.le o 4, slot := x.le (o + 4) 2, count := x.le (o + 6) 2, tag := x.le (o + 8) 4 % 2 ^ 20
      first := x.le (o + 12) 4 % 2 ^ 20 })

def Span.itemEntries (x : Span) : List ItemEntry :=
  (offsets (16 + 16 * (x.le 0 4 + x.le 4 4)) 16 (x.le 8 4)).map (fun o =>
    { tag := x.le o 4 % 2 ^ 20, peal := x.le (o + 4) 2, route := x.le (o + 8) 8, rims := 0 })

/-- Peal numbers and masks. -/
def Span.pealEntries (x : Span) : List (Nat × Nat) :=
  (offsets 8 16 (x.count 8 16)).map (fun o => (x.le o 2, x.le (o + 8) 8 % 2 ^ 36))

def pealsOk (x : Span) : Bool :=
  decide (8 ≤ x.len) && x.holds 8 16 (x.le 0 4)
    && x.pealEntries.all (fun e => decide (e.1 ≤ 4095) && decide (e.2 ≠ 0))
    && allApart (fun a b => a.1 == b.1) x.pealEntries

/-- One port's record and entries. -/
def portOk (measures entries : Nat) (x : Span) (p : PortEntry) : Bool :=
  let es := x.slotEntries p
  decide (p.port ≤ 35) && decide (p.gen ≤ 1) && decide (p.width ≤ 2) && between 1 63 p.give && decide (p.first + p.count ≤ entries)
    && es.all (fun e => decide (1 ≤ e.count) && decide (e.slot + e.count ≤ slotsOf p.gen p.width) && decide (e.measure < measures))
    && inOrder (fun a b => decide (a.measure < b.measure) || (a.measure == b.measure && decide (a.slot + a.count ≤ b.slot))) es

/-- Tags that a Rim's ports name in slot and due-beat entries (R321). -/
def rimTags (rim : Nat) (slots : List SlotEntry) (due : List DueEntry) : List Nat :=
  ((slots.filter (fun e => e.port / 6 == rim)).map (fun e => e.tag))
    ++ ((due.filter (fun e => e.port / 6 == rim)).map (fun e => e.tag))

/-- Item entries with the Rims that hold them. -/
def itemsOfRims (slots : List SlotEntry) (due : List DueEntry) (items : List ItemEntry) : List ItemEntry :=
  items.map (fun i => { i with
    rims := ((List.range 6).map (fun r => if (rimTags r slots due).contains i.tag then 2 ^ r else 0)).sum })

/-- A local route: kind 0, or kind 2 with a row of a die's 36 (R115, R320). -/
def localOk (route : Nat) : Bool := route % 4 == 0 || (route % 4 == 2 && decide (bits route 15 10 ≤ 35))

def slotsOk (measures : Nat) (peals : List Nat) (due : List DueEntry) (x : Span) : Bool :=
  let n := x.le 0 4
  let m := x.le 4 4
  let k := x.le 8 4
  decide (16 ≤ x.len) && decide (n ≤ 36) && x.len == 16 + 16 * (n + m + k)
    && x.portEntries.all (portOk measures m x) && allApart (fun a b => a.port == b.port) x.portEntries
    && x.itemEntries.all (fun i => (i.peal == 0xFFFF || peals.contains i.peal) && localOk i.route)
    && allApart (fun a b => a.tag == b.tag) x.itemEntries
    && (List.range 6).all (fun r =>
        let es := x.portEntries.flatMap x.slotEntries
        decide ((es.filter (fun e => e.port / 6 == r)).length ≤ 32768)
          && decide ((x.itemEntries.filter (fun i => (rimTags r es due).contains i.tag)).length ≤ 8192))

def routesOk (x : Span) : Bool :=
  x.len == 0 || (x.len == 4112
    && (offsets 0 8 512).all (fun o => !bit (x.le o 8) 42 || decide (bits (x.le o 8) 41 36 ≤ 35)))

/-! ### Ingest and serving (R373, R382, R383) -/

def Span.streams (x : Span) : List StreamEntry :=
  (offsets 8 32 (x.le 0 4)).map (fun o =>
    { stream := x.le o 1, phase := x.le (o + 1) 1, slots := x.le (o + 2) 2, period := x.le (o + 4) 4, first := x.le (o + 8) 8
      ring := x.le (o + 16) 8, slotUnits := x.le (o + 24) 4 })

def ingestOk (limit : Nat) (x : Span) : Bool :=
  decide (8 ≤ x.len) && decide (x.le 0 4 ≤ 16) && x.holds 8 32 (x.le 0 4)
    && x.streams.all (fun e => decide (e.stream ≤ 15) && decide (e.phase ≤ 15) && between 2 256 e.slots && decide (1 ≤ e.period)
        && between 2 0x04000001 e.slotUnits && decide (e.ring + e.slots * e.slotUnits ≤ limit))
    && allApart (fun a b => a.stream == b.stream) x.streams

def Span.layout (x : Span) : Layout :=
  { slots := x.le 0 2, heads := x.le 3 1, stepMeasures := x.le 4 4, outRing := x.le 8 8, ringRecords := x.le 16 4, aCap := x.le 20 2
    mapUnits := x.le 22 2, mapArea := x.le 24 8, adapterDir := x.le 32 8, adapterCount := x.le 40 4, walkLimit := x.le 44 4
    groups := (offsets 64 32 (x.le 2 1)).map (fun o =>
      { firstSlot := x.le o 2, slots := x.le (o + 2) 2, inOff := x.le (o + 4) 4, verOff := x.le (o + 8) 4
        firstMeasure := x.le (o + 16) 8, area := x.le (o + 24) 8 }) }

/-- Machine beats of a group's build (R383). -/
def GroupEntry.buildBeats (g : GroupEntry) : Nat := 8 + ceilDiv g.slots 4
/-- Units of the adapter index list (R384). -/
def Layout.listUnits (y : Layout) : Nat := ceilDiv y.aCap 8
/-- Units of a group area (R384). -/
def Layout.areaUnits (y : Layout) (g : GroupEntry) : Nat := 1 + y.listUnits + 12 * g.slots

/-- The areas of a layout: first unit and length. -/
def Layout.areas (y : Layout) : List (Nat × Nat) :=
  y.groups.map (fun g => (g.area, y.areaUnits g))
    ++ [(y.mapArea, y.mapUnits * y.slots), (y.outRing, 2 * y.ringRecords), (y.adapterDir, ceilDiv y.adapterCount 4)]

def Layout.ok (y : Layout) (reach limit : Nat) : Bool :=
  let total := (y.groups.map GroupEntry.buildBeats).sum
  between 1 1024 y.slots && between 1 64 y.groups.length && decide (y.heads ≤ 7) && decide (1 ≤ y.stepMeasures)
    && isPow2 y.ringRecords && between 64 65536 y.ringRecords && between 2 64 y.aCap && between 2 64 y.mapUnits
    && between 1 65535 y.adapterCount && between 1 65535 y.walkLimit
    && y.groups.all (fun g => between 1 256 g.slots && decide (g.firstSlot + g.slots ≤ y.slots) && decide (g.inOff < g.verOff)
        && decide (g.verOff + reach + total ≤ g.inOff + 16 * y.stepMeasures))
    && (y.groups.map (fun g => g.slots)).sum == y.slots
    && allApart (fun a b => decide (a.firstSlot < b.firstSlot + b.slots) && decide (b.firstSlot < a.firstSlot + a.slots)) y.groups
    && y.areas.all (fun a => decide (a.1 + a.2 ≤ limit))
    && allApart (fun a b => decide (a.1 < b.1 + b.2) && decide (b.1 < a.1 + a.2)) y.areas

def servingOk (reach limit : Nat) (x : Span) : Bool :=
  decide (64 ≤ x.len) && x.holds 64 32 (x.le 2 1) && x.layout.ok reach limit

/-! ### A section's contents -/

def State.sectionOk (s : State) (m : Image) (earlier : List Section) (e : Section) : Bool :=
  let x := m.sub e
  let n := x.le 0 4
  let writes := s.writesOk (earlier.flatMap (s.sectionWrites m)) (s.sectionWrites m e)
  match e.typ with
  | 0x01 => decide (8 ≤ x.len) && x.holds 8 32 n && (s.progEntries x e.die).all (fun p => p.ok x.len)
      && allApart (fun a b => a.tile == b.tile) (s.progEntries x e.die) && writes
  | 0x02 => decide (8 ≤ x.len) && x.holds 8 16 n && (s.voiceEntries x e.die).all (fun v => v.ok x.len (m.tableCount e.die))
      && writes
  | 0x03 => decide (8 ≤ x.len) && x.holds 8 2048 n
  | 0x04 => x.len == 72 * m.measures
  | 0x05 => freqOk m.measures x
  | 0x06 => dueOk m.measures x
  | 0x07 => slotsOk m.measures ((m.get 9 0xFFFF).pealEntries.map Prod.fst) (m.get 6 0xFFFF).dueEntries x
  | 0x08 => routesOk x
  | 0x09 => pealsOk x
  | 0x0A => ingestOk (s.planLimit 1) x
  | 0x0B => decide (8 ≤ x.len) && x.holds 8 16 n && (s.spadRecords x e.die).all (fun r => r.ok x.len) && writes
  | 0x0C => servingOk m.header.reach (s.planLimit 1) x
  | 0x0D => x.len == 72
  | _ => false

/-- The sections in directory order: first the CRC of each, then its contents. -/
def State.sectionRefusal (s : State) (m : Image) : Nat → List Section → List Section → Option (LoadCode × Nat)
  | _, _, [] => none
  | i, earlier, e :: es =>
    let x := m.sub e
    if crc32 (x.bytes 0 x.len) ≠ e.crc then some (.imageCrc, i)
    else if !s.sectionOk m earlier e then some (.imageFormat, i)
    else State.sectionRefusal s m (i + 1) (e :: earlier) es

/-- The image that starts at a unit of tier 1. -/
def State.image (s : State) (start : Nat) : Image :=
  let x : Span := ⟨s.tier1, 32 * start, 32 * (planAreaTop + 1 - start)⟩
  let h := x.header
  { span := x, header := h, sections := (List.range h.sections).map x.section }

/-- The checks of an image after PLAN_PRESENT, in the order of R475. -/
def State.imageRefusal (s : State) (m : Image) : Option (LoadCode × Nat) :=
  let h := m.header
  if !h.magicOk then some (.imageFormat, 0)
  else if !h.crcOk then some (.imageCrc, 0)
  else if max h.length 256 > m.span.len then some (.imageTooLarge, 0)
  else if !between 2 4 h.derate then some (.derateInvalid, 0)
  else if !h.inRange then some (.paramRange, 0)
  else if h.grade ≠ (if s.fused.gradeB then 0x42 else 0x41) then some (.gradeMismatch, 0)
  else if s.deviceId = 0xFFFF ∨ h.device ≠ s.deviceId then some (.deviceId, 0)
  else if h.epoch = 0 ∨ h.epoch = s.get .PLN_EPOCH_last_epoch 0 then some (.epochInvalid, 0)
  else if 256 + 24 * h.sections > h.length then some (.imageFormat, 0)
  else
    match badSection (256 + 24 * h.sections) h.length 0 [] m.sections with
    | some i => some (.imageFormat, i)
    | none => s.sectionRefusal m 0 [] m.sections

end Sys2Proof.Machine
end

