-- ==== Sys2Proof/Machine/Plan.lean ====
section
/-! DEFINITION. The plan engine (chapter 03): loading, arming, starting, stopping and unloading a plan, and its checks of
regions and due items. DOWNBEAT stands in Downbeat.lean. -/

namespace Sys2Proof.Machine

/-! ### Plan state (R83, R343) -/

/-- The router plan's code for a plan state; none where the router keeps what it shows. -/
def rstateOf (p : PlanState) : Option Nat :=
  match p with
  | .idle => some 0 | .loaded => some 1 | .armed => some 2 | .running => some 3 | .resting => some 4 | .stopping => some 5
  | .stopped => some 5 | .faulted => none

/-- Hub plan state and router plan change together. -/
def State.movePlan (s : State) (p : PlanState) : State :=
  let s := s.setPlanState p
  match rstateOf p with
  | none => s
  | some r => s.set .RTE_PLAN_rstate 0 r

/-- PLN_LOAD_STATUS and the completion of a refused load or arm (R85, R361). -/
def State.recordLoad (s : State) (c : LoadCode) (detail : Nat) : State :=
  (s.set .PLN_LOAD_STATUS_code 0 c.code).set .PLN_LOAD_STATUS_detail 0 detail

def State.refusePlan (s : State) (f : Fetched) (c : LoadCode) (detail : Nat) : State :=
  (s.recordLoad c detail).complete f .planRefused (c.code + 2 ^ 16 * detail)

/-! ### PLAN_LOAD (R85, R251, R311, R331, R341, R475) -/

/-- The parts of a plan that the engine keeps. -/
def Image.plan (m : Image) (start : Nat) : Plan :=
  let h := m.header
  { epoch := h.epoch, prologue := h.prologue, body := h.body, repeats := h.repeats, hash := h.hash, derateN := h.derate
    neighbours := (m.find 0x0D 0xFFFF).map (fun x => (offsets 0 2 36).map (fun o => x.le o 2))
    forecast := (List.range 8).filterMap (fun d => (m.find 4 d).map (fun x => (d, x.base)))
    freq := (List.range 8).flatMap (fun d => (m.get 5 d).freqEntries d)
    due := (m.get 6 0xFFFF).dueEntries
    ingest := match m.find 0x0A 0xFFFF with | none => [] | some x => x.streams
    serving := (m.find 0x0C 0xFFFF).map Span.layout
    start := start, length := h.length }

/-- Registers that hold the header's values (R76, R109). -/
def State.loadHeader (s : State) (h : Header) : State :=
  let s := ((s.set .PLN_EPOCH_epoch 0 h.epoch).set .PLN_CFG_toll_reach 0 h.reach).set .PLN_CFG_grace_q 0 h.grace
  let s := (s.set .PLN_CFG_region_rest 0 h.regionRest).set .PLN_CFG_item_rest 0 h.itemRest
  ((s.set .PLN_DOMAIN_domain_modules 0 h.modules).set .PLN_DOMAIN_k_required 0 h.kRequired).set .BEAT_DERATE_derate_n 0 h.derate

/-- The router's tables and plan (R320, R324, R331, R341). A route section of length 0 leaves those tables in force. -/
def Image.router (m : Image) (r : Router) : Router :=
  let h := m.header
  let x := m.find 7 0xFFFF
  let ports := match x with | none => [] | some x => x.portEntries
  let routes := m.get 8 0xFFFF
  { r with
    ports := ports.map (fun p => ⟨p.port, p.gen, p.width, p.give⟩)
    slots := match x with | none => [] | some x => x.portEntries.flatMap x.slotEntries
    items := match x with | none => [] | some x => itemsOfRims (x.portEntries.flatMap x.slotEntries) (m.get 6 0xFFFF).dueEntries x.itemEntries
    flaws := r.flaws.filter (fun f => decide (f.table.val ≥ 3) && routes.len = 0)
    peals := ((m.get 9 0xFFFF).pealEntries).foldl (fun t e => t.put e.1 e.2) []
    routes := if routes.len = 0 then r.routes
      else (List.range 512).foldl (fun t i => Table.set 0 t i (bits (routes.le (8 * i) 8) 42 0)) []
    vias := if routes.len = 0 then r.vias else (List.range 16).foldl (fun t i => Table.set 0 t i (routes.le (4096 + i) 1)) []
    rests := [], plan := some (h.prologue, h.body), planBeat := 0, start := none, reach := h.reach, stopS := none, stopTick := none
    repeats := h.repeats }

/-- LNK_GIVE of a port in the slot tables (R311). -/
def State.loadGive (s : State) (p : PortRec) : State := (s.set .LNK_GIVE_give_beats p.port p.give).set .LNK_GIVE_in_plan p.port 1

/-- Bounds of a die's secure window, in units (R248). -/
def State.window (s : State) (d : Nat) : Nat × Nat :=
  (256 * s.get .FLD_SPAD_SECURE_base_blk d, 256 * (s.get .FLD_SPAD_SECURE_base_blk d + s.get .FLD_SPAD_SECURE_size_blk d))

/-- Working tiles of the module. -/
def State.usedTiles (s : State) : List Nat := (List.range 9216).filter s.tileUsed

/-- Step 1 of R251: every unit of every working tile outside the window is zero, and holds no error. -/
def State.zeroSpads (s : State) : State :=
  let m := s.usedTiles.foldl (fun m t =>
    let w := s.window (tileDie t)
    (m.zero (2 ^ 20 * t) (2 ^ 20 * t + 32 * w.1)).zero (2 ^ 20 * t + 32 * w.2) (2 ^ 20 * (t + 1))) s.spad
  { s with
    spad := m
    spadErr := s.spadErr.filter (fun e =>
      let w := s.window (tileDie (e.1 / 2 ^ 15))
      !s.tileUsed (e.1 / 2 ^ 15) || (decide (w.1 ≤ e.1 % 2 ^ 15) && decide (e.1 % 2 ^ 15 < w.2))) }

def State.writeSpad (s : State) (t byte : Nat) (b : List Byte) : State :=
  { s with spad := s.spad.writeBytes (2 ^ 20 * t + byte) b }

/-- Steps 2 to 4 of R251 on one die: initial contents, programs, voice images. -/
def State.fillDie (m : Image) (s : State) (d : Nat) : State :=
  let c := m.get 0x0B d
  let p := m.get 1 d
  let s := (if c.len < 8 then [] else s.spadRecords c d).foldl
    (fun s r => s.writeSpad r.tile (32 * r.unit') (c.bytes r.offset (32 * r.units))) s
  let s := (if p.len < 8 then [] else s.progEntries p d).foldl
    (fun s e => s.writeSpad e.tile (8 * e.load) (p.bytes e.offset e.bytes)) s
  (if (m.get 2 d).len < 8 then [] else s.voiceEntries (m.get 2 d) d).foldl
    (fun s e => s.writeSpad e.tile (32 * e.unit') (m.voiceBytes d e)) s

/-- A tile whose sequencer holds no program and waits for nothing; its queues, flags, tokens and voice stay. -/
def Tile.unplaced (x : Tile) : Tile :=
  { x with prog := none, running := false, finished := false, block := none, tokenStall := false, loops := [], reached := 0
           endedBy := none }

/-- A tile with a program placed (R175, R177). -/
def Tile.placed (x : Tile) (e : ProgEntry) (repeats : Nat) : Tile :=
  { x.unplaced with
    prog := some (Prog.mk (wordAddress e.prologue) e.prologueWords (wordAddress e.body) e.bodyWords repeats) }

/-- Every tile's sequencer lets its program go. -/
def State.unplaceTiles (s : State) : State :=
  { s with tiles := (s.tiles.map (fun e => (e.1, e.2.unplaced))).filter (fun e => e.2 ≠ Tile.reset) }

def State.placePrograms (m : Image) (s : State) (d : Nat) : State :=
  let p := m.get 1 d
  (if p.len < 8 then [] else s.progEntries p d).foldl
    (fun s e => s.modTile e.tile (fun x => x.placed e m.header.repeats)) s

/-- The serving layout's registers (R402). -/
def State.loadLayout (s : State) (y : Option Layout) : State :=
  match y with
  | none => s
  | some y => (((s.set .SRV_STATUS_layout 0 1).set .SRV_STATUS_slots 0 y.slots).set .SRV_STATUS_groups 0 y.groups.length).set
      .SRV_STATUS_heads 0 y.heads

/-- The hub's engine with a new plan: only the toll number goes on. -/
def PlanEngine.fresh (e : PlanEngine) (p : Option Plan) : PlanEngine := { PlanEngine.reset with plan := p, tollId := e.tollId }

/-- An accepted image takes its place. -/
def State.install (s : State) (m : Image) (start : Nat) : State :=
  let p := m.plan start
  let s := s.loadHeader m.header
  let r := m.router s.router
  let s := s.each (List.range 36) (fun s i => s.clearAll [.LNK_GIVE_give_beats, .LNK_GIVE_in_plan] i)
  let s := r.ports.foldl State.loadGive { s with router := r }
  let s := ((s.set .RTE_EPOCH_epoch 0 m.header.epoch).set .RTE_PLAN_forwarding_only 0 0).loadLayout p.serving
  let s := (s.recordLoad .ok 0).flushTests.zeroSpads
  let s := (List.range 8).foldl (State.placePrograms m) (((List.range 8).foldl (State.fillDie m) s).refillTests.unplaceTiles)
  let s := s.each (List.range 36) (fun s i => s.modPort i (fun x => { x with slotUse := [], wordIndex := [] }))
  ({ s with plan := s.plan.fresh (some p), serving := Serving.reset
            host := { s.host with ingest := p.ingest.map (fun (e : StreamEntry) => Ingest.mk e.stream 0 0 false) } }).movePlan .loaded

/-- Is a DMA_WRITE into the plan area running (R363)? -/
def State.planAreaWritten (s : State) : Bool :=
  s.host.fetched.any (fun f => f.op == 0x20 && f.started && f.par 28 1 == 0 && decide (bits (f.par 16 8) 34 0 ≤ planAreaTop)
    && decide (planAreaBase < bits (f.par 16 8) 34 0 + (List.range 5).foldl (fun n i => n + f.par (if i = 0 then 24 else 56 + 16 * i) 4) 0))

/-- The module loads no plan: ROM recovery, safe state, or Scrapped (R409, R413, R423). -/
def State.noPlans (s : State) : Bool :=
  s.get .MGT_STATUS_rom_recovery 0 == 1 || s.get .MGT_STATUS_safe 0 == 1 || s.fused.lifeCycle == 4

def planLoad (f : Fetched) (s : State) : State :=
  let start := f.par 8 8
  if s.fatalActive ∨ s.noPlans then s.complete f .state s.stateResult
  else if start < planAreaBase ∨ start > planAreaTop then s.complete f .paramInvalid 8
  else if s.planState ≠ .idle then s.refusePlan f .planPresent 0
  else if !s.tiersServe then s.complete f .powerState 0
  else
    match s.imageRefusal (s.image start) with
    | some (c, d) => s.refusePlan f c d
    | none => (s.install (s.image start) start).complete f .success 0

/-- PLAN_LOAD: it starts once every DMA_WRITE into the plan area that had started has completed (R363). -/
def execPlanLoad (q : QueueIx) (cid : Cid) (s : State) : Host.Outcome State Fault Refusal :=
  if s.planAreaWritten then occurs false id s else hostCommand 0x10 q cid planLoad s

/-! ### PLAN_ARM (R84, R85, R475) -/

/-- Is a port of the slot tables not ready: fenced, not in service, in RECOVERY, or at another generation or width? -/
def State.portNotReady (s : State) (p : PortRec) : Bool :=
  s.fenced p.port || s.train p.port ≠ .active || s.get .LNK_STATUS_mode p.port == 1 || s.get .LNK_STATUS_gen p.port != p.gen
    || s.get .LNK_STATUS_width p.port != p.width

/-- What an arm is refused for. The machine beat at which the command arrives (R84) is taken as the beat at which it runs (DESIGN
CHOICE, log entry 17: the rule does not say whether the doorbell, the fetch or the start is the arrival). -/
def State.armRefusal (s : State) (start : Nat) : Option (LoadCode × Nat) :=
  if !isDownbeat start || decide (start < s.time.beat + 1024) then some (.startTooSoon, 0)
  else if s.timeState ≠ .locked then some (.timeNotLocked, 0)
  else
    match (s.router.ports.filter s.portNotReady).map (fun p => p.port) with
    | [] => none
    | p :: ps => some (.portNotReady, ps.foldl min p)

def planArm (f : Fetched) (s : State) : State :=
  if s.fatalActive ∨ s.planState ≠ .loaded ∨ !s.tiersServe then s.complete f .state s.stateResult
  else
    match s.armRefusal (f.par 8 8) with
    | some (c, d) => s.refusePlan f c d
    | none =>
      let s := (s.set .PLN_START_LO_start_beat 0 (f.par 8 8)).set .PLN_START_HI_start_beat 0 (f.par 8 8 / 2 ^ 32)
      let s := { s with router := { s.router with start := some (f.par 8 8) } }
      ((s.recordLoad .ok 0).movePlan .armed).complete f .success 0

/-- PLAN_ARM. -/
def execPlanArm (q : QueueIx) (cid : Cid) (s : State) : Host.Outcome State Fault Refusal := hostCommand 0x11 q cid planArm s

/-! ### START_BEAT (R84, R177) -/

/-- The start beat of PLAN_ARM. -/
def State.startBeat (s : State) : Nat := s.get .PLN_START_LO_start_beat 0 + 2 ^ 32 * s.get .PLN_START_HI_start_beat 0

/-- A tile begins its program in cycle `c` at the earliest (R177). -/
def Tile.start (x : Tile) (c : Nat) : Tile :=
  match x.prog with
  | none => x
  | some p =>
    if x.halted then x
    else { x with running := true, finished := false, endedBy := none, inBody := p.prologueWords == 0
                  pc := if p.prologueWords = 0 then p.body else p.prologue, nextIssue := c, passes := 0, tm := 0
                  reached := 0, loops := [], block := none, tokenStall := false }

def planStart (s : State) : State :=
  let s := { s with tiles := s.tiles.map (fun (e : Nat × Tile) => (e.1, e.2.start (s.nowOf e.1)))
                    plan := { s.plan with beat := 0, rests := [] }
                    router := { s.router with planBeat := 0, rests := [], start := none } }
  s.movePlan .running

/-- The router plan of a module whose hub lost its plan while ARMED waits for its start beat (R343, R434). -/
def State.rimArmed (s : State) : Bool :=
  s.get .RTE_PLAN_forwarding_only 0 = 1 && s.get .RTE_PLAN_rstate 0 = 2 && s.router.start == some s.time.beat

/-- The router plan alone starts plan measure 0. -/
def rimStart (s : State) : State :=
  { s with router := { s.router with planBeat := 0, rests := [], start := none } }.set .RTE_PLAN_rstate 0 3

/-- The hub's plan is ARMED for this beat, or a fault came before it. -/
def State.hubStarts (s : State) : Bool :=
  s.time.beat == s.startBeat && (s.planState = .armed || (s.planState = .faulted && s.get .FLT_FATAL_PLAN_plan_state 0 == 2))

def startBeat (s : State) : State :=
  if s.hubStarts then (if s.planState = .armed then planStart s else s.set .PLN_STATUS_arm_missed 0 1) else rimStart s

/-- START_BEAT: an ARMED plan starts plan measure 0; a fault that came first makes the start missed; a router plan that is
forwarding-only starts alone. -/
def execStartBeat (s : State) : Host.Outcome State Fault Refusal := occurs (s.powered && (s.hubStarts || s.rimArmed)) startBeat s

/-! ### STOP_AT_MEASURE, PLAN_STATUS, PLAN_UNLOAD (R86, R103, R347, R362) -/

def stopAtMeasure (f : Fetched) (s : State) : State :=
  let n := f.par 8 8
  if s.fatalActive then s.complete f .state s.stateResult
  else if !(s.planState = .running || s.planState = .resting)
      || decide (n < s.plan.beat / 16 + ceilDiv (s.get .PLN_CFG_toll_reach 0) 16 + 1) then s.complete f .stopRefused 0
  else (s.sendToll 4 s.time.beat 0 n 0).complete f .success 0

/-- STOP_AT_MEASURE. -/
def execStopAtMeasure (q : QueueIx) (cid : Cid) (s : State) : Host.Outcome State Fault Refusal :=
  hostCommand 0x12 q cid stopAtMeasure s

/-- PLAN_STATUS. -/
def execPlanStatus (q : QueueIx) (cid : Cid) (s : State) : Host.Outcome State Fault Refusal :=
  hostCommand 0x14 q cid (fun f s => s.complete f .success
    (s.planState.code + 2 ^ 8 * s.get .PLN_LOAD_STATUS_code 0 + 2 ^ 16 * s.get .PLN_EPOCH_epoch 0
      + 2 ^ 32 * s.get .PLN_REST_TOTAL_rest_measures 0)) s

/-- Registers of the loaded plan, but the plan state itself (R438). -/
def planFields : List RegField :=
  [.PLN_STATUS_arm_missed, .PLN_STATUS_stop_drop, .PLN_EPOCH_epoch, .PLN_CFG_toll_reach, .PLN_CFG_grace_q, .PLN_CFG_region_rest
   , .PLN_CFG_item_rest, .PLN_DOMAIN_domain_modules, .PLN_DOMAIN_k_required, .PLN_START_LO_start_beat, .PLN_START_HI_start_beat
   , .PLN_STOP_LO_stop_lo, .PLN_STOP_HI_stop_hi, .PLN_STOP_HI_stop_valid, .PLN_REST_TOTAL_rest_measures
   , .PLN_REST_LIST_max_entries, .BEAT_DERATE_derate_n, .SRV_STATUS_layout, .SRV_STATUS_slots, .SRV_STATUS_groups
   , .SRV_STATUS_heads, .SRV_OUT_HEAD_head, .SRV_OUT_TAIL_tail, .SRV_OUT_DROP_drops, .SRV_WALK_START_started
   , .SRV_WALK_DONE_completed, .SRV_WALK_ERR_walk_errors, .SRV_WALK_ERR_limit_hits, .SRV_DRAFTED_drafted, .SRV_ACCEPTED_accepted
   , .SRV_EVENTS_superseded, .SRV_EVENTS_adapter_lost, .SRV_EVENTS_auto_gates, .SRV_BUILD_last_beats, .SRV_BUILD_max_beats]

/-- The hub's plan is gone: its registers, its engine, the serving state, ingest (R86, R389). -/
def State.clearPlan (s : State) : State :=
  let s := s.clearAll planFields 0
  let s := s.each (List.range 36) (fun s i => s.clearAll [.LNK_GIVE_give_beats, .LNK_GIVE_in_plan] i)
  let s := { s.unplaceTiles with
    plan := s.plan.fresh none, serving := Serving.reset, host := { s.host with ingest := [] }
    time := { s.time with handed := [], stops := [] } }
  if s.power = .hush || s.pwr.entry = some 1 then s else s.applyAll 0xFF

/-- The router plan is gone: slots, items, peals, epoch; routes and vias stay (R347). -/
def State.clearRouter (s : State) : State :=
  let r := s.router
  (((s.set .RTE_EPOCH_epoch 0 0).set .RTE_PLAN_rstate 0 0).set .RTE_PLAN_forwarding_only 0 0).each (List.range 36)
    (fun s i => s.modPort i (fun x => { x with slotUse := [], wordIndex := [] }))
  |> fun s => { s with router := { r with flaws := r.flaws.filter (fun f => decide (f.table.val ≥ 3)), ports := [], slots := [], items := [], peals := [], rests := [], plan := none
                                          planBeat := 0, start := none, stopS := none, stopTick := none, repeats := 0 } }

def planUnload (f : Fetched) (s : State) : State :=
  match s.planState with
  | .loaded | .stopped =>
    let last := s.get .PLN_EPOCH_epoch 0
    ((((s.set .PLN_EPOCH_last_epoch 0 last).clearPlan).clearRouter).setPlanState .idle).complete f .success last
  | .idle =>
    if s.get .RTE_PLAN_rstate 0 = 0 then s.complete f .success (s.get .PLN_EPOCH_last_epoch 0)
    else
      let last := s.get .RTE_EPOCH_epoch 0
      ((s.set .PLN_EPOCH_last_epoch 0 last).clearRouter).complete f .success last
  | _ => s.complete f .state s.stateResult

/-- PLAN_UNLOAD: from LOADED or STOPPED, or from IDLE for the router plan (R343, R450). -/
def execPlanUnload (q : QueueIx) (cid : Cid) (s : State) : Host.Outcome State Fault Refusal :=
  hostCommand 0x13 q cid planUnload s

/-! ### REGION_CHECK (R87, R88, R106) -/

/-- A tile has work of plan measure `m` left: it has a program that has not ended, and has not come to a WAIT.BEAT for a beat
of the next measure. -/
def Tile.behind (x : Tile) (m : Nat) : Bool := x.prog.isSome && !x.finished && decide (x.reached < 16 * (m + 1))

/-- Regions late with plan measure `m`. -/
def State.lateRegions (s : State) (m : Nat) : List Nat :=
  (List.range 576).filter (fun r => s.tiles.any (fun e => tileRegion e.1 == r && s.tileUsed e.1 && e.2.behind m))

/-- A late region tolls, unless a rest that its own toll inserted has not ended. -/
def State.lateRegion (b : Nat) (s : State) (r : Nat) : State :=
  if s.plan.lateRegions.any (fun l => l.region == r && decide (b < l.until')) then s
  else
    let d := s.get .PLN_CFG_region_rest 0
    let s := s.originateToll 0 b d (r % 72 + 2 ^ 7 * (r / 72))
    let held := LateRegion.mk r (insertionBeat b (s.get .PLN_CFG_toll_reach 0) + 16 * d)
    { s with plan := { s.plan with lateRegions := s.plan.lateRegions.filter (fun l => l.region ≠ r) ++ [held] } }

/-- Some tile is not done from the downbeat that began plan measure `m`: it is used, has a program, and that had not ended by then
(R87). Without one the margin is that of R106. -/
def State.hasWork (s : State) (m : Nat) : Bool :=
  s.tiles.any (fun e => e.2.prog.isSome && s.tileUsed e.1 && !(match e.2.endedBy with | some b => decide (b ≤ 16 * m) | none => false))

/-- The finish margin of plan measure `m`: `ps` is what the environment measured where no region is late. -/
def State.margin (s : State) (m : Nat) (late : List Nat) (ps : Word) : Int :=
  if !late.isEmpty then -2147483648 else if s.hasWork m then toSigned 32 ps.toNat else 640000

/-- PLN_DIE_LATE of a die (R109): of several regions late at one check, last_region takes the highest g (DESIGN CHOICE, log entry 18:
the rule has "the last late region" and gives no order within a check). -/
def State.noteLate (late : List Nat) (s : State) (d : Nat) : State :=
  match (late.filter (fun r => r / 72 == d)).getLast? with
  | none => s
  | some r => (s.bump .PLN_DIE_LATE_late_measures d 1).set .PLN_DIE_LATE_last_region d (r % 72)

/-- Finish words for plan measure `m` on the unfenced ports of the domain (R106). -/
def State.sendFinish (s : State) (m : Nat) (margin : Int) : State :=
  s.each (List.range 36) (fun s p =>
    if s.inDomain p && !s.fenced p then s.sendCtrl p 3 [] (finishBytes m margin s.deviceId (s.get .PLN_EPOCH_epoch 0)) else s)

/-- The smallest margin of the record's period (R463). -/
def Telemetry.noteMargin (x : Telemetry) (margin : Int) : Telemetry :=
  { x with minMargin := some (match x.minMargin with | none => margin | some n => min n margin) }

/-- The check of plan measure `m` with its late regions. -/
def State.checkRegions (s : State) (m : Nat) (late : List Nat) (margin : Int) : State :=
  let s := late.foldl (State.lateRegion s.time.beat) (s.each (List.range 8) (State.noteLate late))
  let s := { s with plan := { s.plan with lastRegion := some m, own := s.plan.own ++ [Margin.mk m 0 margin] }
                    tel := s.tel.noteMargin margin }
  if s.get .PLN_CTRL_finish_words 0 = 1 then s.sendFinish m margin else s

def regionCheck (ps : Word) (s : State) : State :=
  let m := s.plan.beat / 16 - 1
  let late := s.lateRegions m
  s.checkRegions m late (s.margin m late ps)

/-- REGION_CHECK: at grace after the downbeat that begins plan measure m + 1, every region is done with m or late. `ps` is the
time from the moment the last region became done to the downbeat. -/
def execRegionCheck (ps : Word) (s : State) : Host.Outcome State Fault Refusal :=
  occurs (s.planState = .running && s.beatExecutes && isDownbeat s.plan.beat && decide (16 ≤ s.plan.beat)
    && s.plan.lastRegion != some (s.plan.beat / 16 - 1)) (regionCheck ps) s

/-! ### Due items (R78, R92 to R94, R238) -/

/-- The image beat of a plan beat (R78). -/
def Plan.imageBeat (x : Plan) (p : Nat) : Nat :=
  if p < 16 * x.prologue then p else 16 * x.prologue + (p - 16 * x.prologue) % (16 * x.body)

/-- Times an image beat has executed by plan beat `p`, that beat included. -/
def Plan.times (x : Plan) (image p : Nat) : Nat :=
  if p < image then 0 else if image < 16 * x.prologue then 1 else (p - image) / (16 * x.body) + 1

/-- Flits of a port and tag that are due by plan beat `p` (R92). -/
def Plan.flitsDue (x : Plan) (port tag p : Nat) : Nat :=
  ((x.due.filter (fun e => e.port == port && e.tag == tag)).map (fun e => e.flits * x.times e.due p)).sum

/-- Is the item of an entry missing: fewer flits have come than are due by plan beat `p`? -/
def State.missing (s : State) (x : Plan) (e : DueEntry) (p : Nat) : Bool :=
  decide (Table.get 0 s.plan.arrived (2 ^ 20 * e.port + e.tag) < x.flitsDue e.port e.tag p)

/-- Entries whose due beat is plan beat `p`. -/
def Plan.dueAt (x : Plan) (p : Nat) : List DueEntry := x.due.filter (fun e => e.due == x.imageBeat p)

/-- Tier-2 accesses of all tiles that are items still, incomplete and before their second check, and pass a test: the tile and the
access (R266). -/
def State.tier2Items (s : State) (p : TierAccess → Bool) : List (Nat × TierAccess) :=
  s.tiles.flatMap (fun e => (e.2.accesses.filter (fun a => a.tier == 2 && !a.retired && p a)).map (fun a => (e.1, a)))

/-- An item missing at its due beat tolls. -/
def State.itemLate (x : Plan) (s : State) (e : DueEntry) : State :=
  if s.missing x e s.plan.beat then
    s.originateToll 1 s.time.beat (if e.restD = 0 then s.get .PLN_CFG_item_rest 0 else e.restD) e.tag
  else s

/-- A tier-2 access incomplete at its due beat tolls, and counts as late at its home controller (R238, R272). -/
def State.accessLate (s : State) (a : TierAccess) : State :=
  let k := t2Controller (a.taddrs.headD 0)
  let s := { s with lateNow := Table.set 0 s.lateNow k (Table.get 0 s.lateNow k + 1) }
  s.originateToll 2 s.time.beat (s.get .PLN_CFG_item_rest 0) 0

def dueBeatCheck (x : Plan) (s : State) : State :=
  let p := s.plan.beat
  let s := (x.dueAt p).foldl (State.itemLate x) s
  let late := s.tier2Items (fun a => a.due == p)
  let s := late.foldl (fun s a => s.accessLate a.2) s
  { s with
    tiles := s.tiles.map (fun (e : Nat × Tile) => (e.1, { e.2 with accesses := e.2.accesses.map (fun a =>
      if a.tier = 2 ∧ a.due = p then { a with late := true } else a) }))
    plan := { s.plan with lastDue := some p } }

/-- DUE_BEAT_CHECK: at the start of a due beat the detectors check the items due. -/
def execDueBeatCheck (s : State) : Host.Outcome State Fault Refusal :=
  match s.plan.plan with
  | none => occurs false id s
  | some x =>
    occurs (s.beatExecutes && s.plan.lastDue != some s.plan.beat
      && (!(x.dueAt s.plan.beat).isEmpty || !(s.tier2Items (fun a => a.due == s.plan.beat)).isEmpty)) (dueBeatCheck x) s

/-- Entries whose second check comes at plan beat `p`. -/
def Plan.secondAt (x : Plan) (p : Nat) : List DueEntry :=
  x.due.filter (fun e => decide (e.consume ≤ p) && e.due == x.imageBeat (p - e.consume))

/-- Detail of ITEM_LOST for a tier-2 access of a tile (R445). -/
def lostAccess (t : Nat) : Nat := 2 ^ 31 + 2 ^ 28 * tileDie t + 2 ^ 23 * tileCol t + 2 ^ 17 * tileRow t

/-- The second check of a tier-2 access retires its item (R266). -/
def TierAccess.retire (beat reach : Nat) (a : TierAccess) : TierAccess :=
  if a.tier = 2 ∧ a.due + reach = beat then { a with retired := true } else a

def secondCheck (x : Plan) (s : State) : State :=
  let p := s.plan.beat
  let s := (x.secondAt p).foldl (fun s e => if s.missing x e (p - e.consume) then s.raiseFatal .itemLost e.tag else s) s
  let s := (s.tier2Items (fun a => a.due + s.get .PLN_CFG_toll_reach 0 == p)).foldl
    (fun s a => s.raiseFatal .itemLost (lostAccess a.1)) s
  let k := s.get .PLN_CFG_toll_reach 0
  { s with
    tiles := s.tiles.map (fun (e : Nat × Tile) => (e.1, { e.2 with accesses := e.2.accesses.map (TierAccess.retire p k) }))
    plan := { s.plan with lastSecond := some p } }

/-- SECOND_CHECK: an item still missing immediately before its consumer runs is lost. -/
def execSecondCheck (s : State) : Host.Outcome State Fault Refusal :=
  match s.plan.plan with
  | none => occurs false id s
  | some x =>
    occurs (s.beatExecutes && s.plan.lastSecond != some s.plan.beat
      && (!(x.secondAt s.plan.beat).isEmpty
        || !(s.tier2Items (fun a => a.due + s.get .PLN_CFG_toll_reach 0 == s.plan.beat)).isEmpty)) (secondCheck x) s

/-! ### The end of a stop (R105) -/

/-- A tile has gated: no program, ended, or at an end-of-measure point; and no access of it is outstanding. -/
def State.tileDrained (s : State) (t : Nat) : Bool :=
  let x := s.tile t
  x.accesses.isEmpty && (!x.running || x.halted || s.gated t)

def State.drained (s : State) : Bool := s.tiles.all (fun e => s.tileDrained e.1)

/-- The tick of the stop downbeat, while the plan drains. -/
def State.stopping (s : State) : Option Nat := if s.planState = .stopping then s.plan.stopTick else none

/-- STOP_DRAIN_COMPLETE. -/
def execStopDrainComplete (s : State) : Host.Outcome State Fault Refusal :=
  match s.stopping with
  | none => occurs false id s
  | some t => occurs (s.powered && decide (t + 16 ≤ s.time.tick) && s.drained) (fun s => s.movePlan .stopped) s

/-- STOP_DRAIN_TIMEOUT: 1,024 measures after the stop downbeat the drain has not ended. -/
def execStopDrainTimeout (s : State) : Host.Outcome State Fault Refusal :=
  match s.stopping with
  | none => occurs false id s
  | some t => occurs (s.powered && decide (t + 16 * 1024 ≤ s.time.tick) && !s.drained)
      (fun s => s.raiseFatal .stopDrainTimeout 0) s

end Sys2Proof.Machine
end

