-- ==== Sys2Proof/Machine/Router.lean ====
section
/-! DEFINITION. Flits received and sent, where the link meets the router (R298 to R308, R322, R323), and the router's own
commands (R328 to R347). -/

namespace Sys2Proof.Machine

/-! ### FLIT_RX -/

/-- A packet in progress on an input VC changed in place, or ended. -/
def State.modRx (s : State) (p vc : Nat) (f : Packet → Option Packet) : State :=
  s.modPort p (fun x => { x with rxPackets := x.rxPackets.filterMap (fun k => if k.vc = vc then f k else some k) })

/-- A whole packet for this module (R329, R332 to R339). A DET packet is delivered at once; a request, an ADAPT or VIA packet,
a GRANT, a RELEASE or an abort waits for its own command. -/
def State.arrived (s : State) (p : Nat) (k : Packet) : State :=
  let wait (s : State) : State := { s with router := { s.router with arrivals := s.router.arrivals ++ [(p, k)] } }
  match routeKind k.route with
  | 0 =>
    let s := s.deliver p k.vc (routeSource k.route % 6) k.payloads
    if routeFlag k.route then wait s else s
  | _ => wait (s.freeKept p k.vc)

/-- The order_seq of a packet the destination has discarded counts as used (R334). -/
def State.useSeq (s : State) (p : Nat) (k : Packet) : State :=
  match s.context? (routeSource k.route) k.vc with
  | none => s
  | some x => if (routeSeq k.route + 2 ^ 16 - x.exp) % 2 ^ 16 < x.window then s.orderIn p x { k with payloads := [] } else s

/-- A flit of a packet for this module: it crosses the chain to its home Rim (R335), is collected, cut at the fourth flit, whole with
its last (R329, R334). -/
def State.localFlit (s : State) (p vc : Nat) (k : Packet) (f : Flit) : State :=
  let s := s.crossChain (p / 6) (routeSource k.route % 6) false 1
  let k := { k with payloads := k.payloads ++ [padTo (bits f.route 63 56 + 1) (f.payload.take (bits f.route 63 56 + 1))] }
  if routeKind f.route = 6 then
    (s.modRx p vc (fun _ => none)).arrived p { k with route := f.route, payloads := [] }
  else if f.last then (s.modRx p vc (fun _ => none)).arrived p k
  else if k.payloads.length ≥ 4 then
    (((s.freeKept p vc).bump .RTE_PORT_MISS_bad_dest p 1).useSeq p k).modRx p vc (fun _ => some { k with out := 38 })
  else s.modRx p vc (fun _ => some k)

/-- A flit of a packet on its way through to port `q`, or to a choice of port. -/
def State.throughFlit (s : State) (p vc q : Nat) (k : Packet) (first : Bool) (f : Flit) : State :=
  let r := if routeKind f.route = 6 then f.route else withRouteByte f.route (bits k.route 39 32)
  let s := s.dynOut q ⟨{ f with seq := 0, route := r }, first, k.number, some p, p / 6, s.time.tick⟩
  if f.last then s.modRx p vc (fun _ => none) else s

/-- A flit that goes no further leaves its input buffer, counted where a fence drops it (R340). -/
def State.goneFlit (s : State) (p vc : Nat) (k : Packet) (f : Flit) : State :=
  let s := s.freeOne p vc
  let s := if k.out = 37 then s.fenceDrop p else if k.out ≥ 64 then s.fenceDrop (k.out - 64) else s
  if f.last then s.modRx p vc (fun _ => none) else s

/-- A flit of a packet whose output is known. -/
def State.dynFlitOn (s : State) (p vc : Nat) (k : Packet) (first : Bool) (f : Flit) : State :=
  if k.out < 36 ∨ k.out = 39 then s.throughFlit p vc k.out k first f
  else if k.out = 36 then
    let a := leAt (k.payloads.headD f.payload) 0 1
    (if routeKind k.route = 0 && s.parks a then s.keepOne p vc else s.freeOne p vc).localFlit p vc k f
  else s.goneFlit p vc k f

/-- The first flit of a packet gives it its output. -/
def State.dynFirst (s : State) (p : Nat) (f : Flit) (route out : Nat) : State :=
  let n := s.router.packets
  let k : Packet := ⟨f.vc, route, [], out, n⟩
  (({ s with router := { s.router with packets := n + 1 } }).modPort p
    (fun x => { x with rxPackets := x.rxPackets ++ [k] })).dynFlitOn p f.vc k true f

/-- A dynamic flit the link layer delivers (R329 to R334, R340); on a port between two partitions the fence drops it (R342). -/
def State.dynIn (s : State) (p : Nat) (f : Flit) : State :=
  match (s.port p).rxPackets.find? (fun k => k.vc == f.vc) with
  | some k => s.dynFlitOn p f.vc k false f
  | none =>
    if s.fenced p then s.dynFirst p f f.route 37
    else
      let route := s.viaStep f.route
      let r := s.readRoute (p / 6) route
      let s := r.2
      let q := if r.1 then s.routePacket route (decide (s.get .LNK_STATUS_mode p = 1)) else 38
      if q < 36 ∧ s.fenced q then s.dynFirst p f route (64 + q)
      else if q = 38 then (s.bump .RTE_PORT_MISS_bad_dest p 1).dynFirst p f route 38
      else s.dynFirst p f route q

/-- A DATA flit accepted in order is handed on (R306, R309, R322). -/
def State.deliverFlit (s : State) (p : Nat) (f : Flit) : State :=
  if !s.carries p f.vc then
    let s := s.bump .LNK_CREDIT_vc_drops p 1
    if f.vc = 0 then s else s.freeOne p f.vc
  else if f.vc = 0 then s.vc0In p f
  else s.dynIn p f

/-- One number accepted in order: what follows it, the end of a fallback, and no NAK open (R298, R303). -/
def State.acceptOne (s : State) (p : Nat) (f : Flit) : State :=
  (s.modPort p (fun x =>
    let e := (x.exp + 1) % 4096
    { x with exp := e, accepted := true, nakOpen := false, gaps := fillGap f.seq x.gaps
             fallback := x.fallback.bind (fun top => if (e + 4096 - (top + 1)) % 4096 < 2048 then none else some top) })).deliverFlit
    p f

/-- Held flits that now follow exp are delivered in order (R298). The fuel is the number held. -/
def State.drainHeld (p : Nat) : Nat → State → State
  | 0, s => s
  | n + 1, s =>
    match (s.port p).reorder.find? (fun f => f.seq == (s.port p).exp) with
    | none => s
    | some f =>
      State.drainHeld p n ((s.modPort p (fun x => { x with reorder := x.reorder.filter (fun g => g.seq != f.seq) })).acceptOne p f)

/-- A selective receiver holds a flit that came early, and records the gap before it; a gap that it splits may be the fifth (R298,
R302, R303). -/
def State.holdEarly (s : State) (p : Nat) (f : Flit) : State :=
  let first := ((s.port p).top + 1) % 4096
  let s := s.modPort p (fun x => { x with reorder := x.reorder ++ [f], gaps := fillGap f.seq x.gaps })
  if (s.port p).gaps.length > 4 then s.fallBack p else s.reveal p first f.seq

/-- A DATA flit with a good CRC (R298, R302, R303). -/
def State.dataFlitIn (s : State) (p : Nat) (replay : Bool) (f : Flit) : State :=
  let x := s.port p
  let dist := (f.seq + 4096 - x.exp) % 4096
  if dist ≥ 3072 then s.bump .LNK_CREDIT_dup_flits p 1
  else if dist ≥ 1024 then s.linkDown p .protocol
  else if dist = 0 then State.drainHeld p x.reorder.length (s.acceptOne p f)
  else if !s.selectiveNow p then (if replay && x.nakOpen then s.sendNak p else s)
  else if x.reorder.any (fun g => g.seq == f.seq) then s
  else if x.reorder.length ≥ 256 then s.fallBack p
  else s.holdEarly p f

/-- A received control word (R287, R288): a toll goes to the port's Rim, the others wait for their commands; a type the
table does not have is counted. -/
def State.ctrlIn (s : State) (p : Nat) (c : Ctrl) : State :=
  if c.typ = 0 then s
  else if !ctrlKnown c.typ then s.bump .LNK_CREDIT_bad_ctrl p 1
  else if c.typ = 2 then
    { s with router := { s.router with tollIn := s.router.tollIn ++ [TollIn.mk (p / 6) false (parseToll c.body)] } }
  else s.modPort p (fun x => { x with rxCtrl := x.rxCtrl ++ [c] })

/-- A flit in a codeword that was not corrected, or with a bad CRC (R299). -/
def State.badFlit (s : State) (p : Nat) : State :=
  let s := s.bump .LNK_REPLAY_bad_flits p 1
  if !s.selectiveNow p && !(s.port p).nakOpen then (s.modPort p (fun x => { x with nakOpen := true })).sendNak p else s

/-- Data bits of an RS(544,514) codeword over 10-bit symbols, and bits of a flit (R281, R282). -/
def codewordBits : Nat := 5140
def flitBits : Nat := 2048

/-- Does a codeword begin within the next flit? Flits are packed end to end, so every flit ends in the codeword in which it begins or
in the one after it (R281). -/
def LinkPort.nextBegins (x : LinkPort) : Bool := x.rxBits = 0 || decide (x.rxBits + flitBits > codewordBits)

/-- The next flit lies in a codeword that the decoder gave up: the one under reception, or the one that begins in it. -/
def LinkPort.inBad (x : LinkPort) (cw : Nat) : Bool := (x.rxBits ≠ 0 && x.rxBad) || (x.nextBegins && cw = 2)

/-- The stream of codewords goes on by a flit. `cw` is how the decoder fares with the codeword that begins within the flit: 0 clean,
1 corrected, 2 uncorrectable (LNK_FEC). -/
def State.codeword (s : State) (p cw : Nat) : State :=
  let x := s.port p
  let s := if x.nextBegins && cw = 1 then s.bump .LNK_FEC_cw_corrected p 1
    else if x.nextBegins && cw = 2 then s.bump .LNK_FEC_cw_uncorrectable p 1 else s
  s.modPort p (fun x => { x with rxBits := (x.rxBits + flitBits) % codewordBits
                                 rxBad := if x.nextBegins then cw = 2 else x.rxBad })

/-- A good flit on an ACTIVE port: its ack, then what it carries (R285, R298, R302). -/
def State.goodFlit (s : State) (p : Nat) (b : List Byte) : State :=
  let w := leAt b 0 4
  let seq := bits w 13 2
  let s := s.takeAck p (bits w 25 14)
  let skip (s : State) : State := if s.selectiveNow p then s.reveal p (((s.port p).top + 1) % 4096) seq else s
  match bits w 1 0 with
  | 0 => s.dataFlitIn p (bit w 30) ⟨seq, bits w 28 26, bit w 29, leAt b 4 8, slice b 12 240⟩
  | 1 => (parseCtrl (slice b 12 240)).foldl (fun s c => s.ctrlIn p c) (skip s)
  | 2 => skip s
  | _ => s.linkDown p .protocol

/-- A flit received in FLIT_SYNC counts towards the run of 16 (R289). -/
def State.syncFlit (s : State) (p : Nat) (good : Bool) : State :=
  if good then s.modPort p (fun x => { x with rxGood := x.rxGood + 1 })
  else (s.modPort p (fun x => { x with rxGood := 0 })).bump .LNK_REPLAY_bad_flits p 1

def flitRx (p : Nat) (b : List Byte) (cw : Nat) (s : State) : State :=
  let good := !(s.port p).inBad cw && crcOk b
  let s := s.codeword p cw
  if s.train p = .flitSync then s.syncFlit p good
  else if good then s.goodFlit p b else s.badFlit p

/-- FLIT_RX: a received flit, and how the decoder fares with the codeword that begins within it. -/
def execFlitRx (p : PortIx) (b : Vector Byte 256) (cw : Fin 3) (s : State) : Host.Outcome State Fault Refusal :=
  occurs (s.powered && (s.train p.val = .active || s.train p.val = .flitSync)) (flitRx p.val b.toList cw.val) s

/-! ### FLIT_TIME (R307) -/

/-- A new DATA flit is numbered, kept and sent (R298). -/
def State.sendData (s : State) (p : Nat) (f : Flit) : State :=
  let x := s.port p
  let f := { f with seq := x.nxt }
  ((s.emit (.flit p (dataFlit x f false))).modPort p (fun x =>
    { x with nxt := (x.nxt + 1) % 4096, unaAt := if x.kept.isEmpty then s.time.tick else x.unaAt, kept := x.kept ++ [f] })).noteWindow p

/-- Does the router plan let a held flit go in flit time `ft` (R101, R104, R323, R446)? -/
def State.vc0Ready (s : State) (p ft : Nat) (h : HeldFlit) : Bool :=
  !(s.port p).vc0Stopped && !s.fenced p && decide (3 ≤ s.rstate) && !isRest s.router.rests s.time.beat
    && (match s.router.stopMeasure with | none => true | some m => decide (h.measure < m))
    && slotLe h.measure h.slot (s.router.planBeat / 16) ft

/-- The first flit of an adaptive packet that waits on a VC and whose choice of port is now `p` (R332). -/
def State.adaptiveNext (s : State) (p vc : Nat) : Option DynFlit :=
  s.router.adaptive.find? (fun d => d.flit.vc == vc && d.first && s.bestPort (s.routeEntry d.flit.route) vc == some p)

/-- The next flit of a dynamic VC that may go (R332, R334): one of the packet that holds the VC, or else a first flit, the older of
one routed to the port and one that chooses it. -/
def State.dynNext (s : State) (p vc : Nat) : Option DynFlit :=
  let x := s.port p
  match x.owner.find? vc with
  | some n => x.dyn.find? (fun d => d.flit.vc == vc && d.packet == n)
  | none =>
    if s.fenced p then none
    else
      match x.dyn.find? (fun d => d.flit.vc == vc), s.adaptiveNext p vc with
      | some a, some b => if a.since ≤ b.since then some a else some b
      | some a, none => some a
      | none, b => b

/-- An adaptive packet that has chosen a port waits there, with the flits of it that are still to come. -/
def State.bindPacket (s : State) (p n : Nat) : State :=
  let mine := s.router.adaptive.filter (fun d => d.packet == n)
  if mine.isEmpty then s
  else
    let s := { s with router := { s.router with adaptive := s.router.adaptive.filter (fun d => d.packet != n) } }
    let s := s.modPort p (fun x => { x with dyn := x.dyn ++ mine })
    s.each (List.range 36) (fun s q => s.modPort q (fun x =>
      { x with rxPackets := x.rxPackets.map (fun k => if k.number = n then { k with out := p } else k) }))

/-- The list without its first element that passes a test. -/
def dropFirst {α : Type} (q : α → Bool) : List α → List α
  | [] => []
  | a :: l => if q a then l else a :: dropFirst q l

/-- A flit of a dynamic VC is sent for the first time (R308, R334). -/
def State.sendDyn (s : State) (p vc : Nat) (d : DynFlit) : State :=
  let e := s.routeEntry d.flit.route
  let s := (s.bindPacket p d.packet).crossChain d.rim (p / 6) false 1
  let s := s.modPort p (fun x =>
    { x with dyn := dropFirst (fun y => y.flit.vc == vc && y.packet == d.packet) x.dyn
             owner := if d.flit.last then x.owner.erase vc else x.owner.put vc d.packet
             rr := vc, sent := Table.set 0 x.sent vc ((Table.get 0 x.sent vc + 1) % 65536)
             sample := { x.sample with dyn := x.sample.dyn + 1
                                       adaptOff := x.sample.adaptOff + ofBool (d.first && p != entryDet e) } })
  let s := s.sendData p d.flit
  let s := if s.credit p vc = 0 then s.modPort p (fun x => { x with zeroAt := x.zeroAt.put vc s.time.tick }) else s
  match d.input with
  | none => s
  | some i => s.freeOne i vc

/-- The dynamic VCs after the one served last, in turn (R307). -/
def rrOrder (rr : Nat) : List Nat := (List.range 7).map (fun i => (rr + i) % 7 + 1)

/-- The dynamic VC and flit that go next: held credit, in turn. -/
def State.dynPick (s : State) (p : Nat) : Option (Nat × DynFlit) :=
  ((rrOrder (s.port p).rr).filter (fun v => s.carries p v && decide (s.credit p v ≥ 1))).findSome?
    (fun v => (s.dynNext p v).map (fun d => (v, d)))

/-- What the port counts of a flit time for the sample (R344). -/
def State.sampleTime (s : State) (p : Nat) : State :=
  let held := (s.port p).dyn.any (fun d => decide (s.credit p d.flit.vc = 0))
    || s.router.adaptive.any (fun d => s.choosable (s.routeEntry d.flit.route) p && decide (s.credit p d.flit.vc = 0))
  s.modPort p (fun x => { x with sample := { x.sample with times := x.sample.times + 1, stalled := x.sample.stalled + ofBool held } })

/-- A fenced port sends no TOLL and no FINISH word (R340). -/
def State.openWords (s : State) (p : Nat) (cs : List Ctrl) : List Ctrl :=
  if s.fenced p then cs.filter (fun c => c.typ ≠ 2 && c.typ ≠ 3) else cs

def State.sendIdle (s : State) (p : Nat) : State :=
  (s.emit (.flit p (idleFlit (s.port p)))).modPort p (fun x => { x with sample := { x.sample with idle := x.sample.idle + 1 } })

/-- The next named resend still kept. -/
def LinkPort.nextResend (x : LinkPort) : Option Flit := x.resend.findSome? (fun q => x.kept.find? (fun f => f.seq == q))

/-- The flit a go-back pass stands at. -/
def LinkPort.passFlit (x : LinkPort) : Option Flit := x.pass.bind (fun q => x.kept.find? (fun f => f.seq == q))

/-- The fifth to seventh sources of R307: non-urgent words, a dynamic VC with credit, IDLE. -/
def State.fillRest (s : State) (p : Nat) (x : LinkPort) (room : Bool) : State :=
  match x.normal with
  | c :: cs => (s.modPort p (fun x => { x with normal := (c :: cs).drop 6 })).sendWords p ((c :: cs).take 6)
  | [] =>
    match (if room then s.dynPick p else none) with
    | some (v, d) => s.sendDyn p v d
    | none => s.sendIdle p

/-- A held VC0 flit goes, late if its slot has begun before (R323). -/
def State.sendHeld (s : State) (p ft : Nat) (h : HeldFlit) : State :=
  let late := !(slotLe (s.router.planBeat / 16) ft h.measure h.slot)
  let s := ((s.modPort p (fun x => { x with hold := x.hold.drop 1, sample := { x.sample with vc0 := x.sample.vc0 + 1 } })).sendData
    p h.flit).bump .RTE_PORT_VC0_vc0_sent p 1
  if late then s.bump .RTE_PORT_VC0_late_sends p 1 else s

/-- The fourth to seventh sources of R307. -/
def State.fillNew (s : State) (p ft : Nat) : State :=
  let x := s.port p
  let room := decide (x.kept.length < 1024)
  match x.hold with
  | h :: _ => if room && s.vc0Ready p ft h then s.sendHeld p ft h else s.fillRest p x room
  | [] => s.fillRest p x room

/-- The second and third sources of R307, selective resends and a go-back pass, then the rest. -/
def State.fillData (s : State) (p ft : Nat) : State :=
  let x := s.port p
  match x.nextResend with
  | some f =>
    (s.modPort p (fun x => { x with resend := (x.resend.dropWhile (fun q => q != f.seq)).drop 1 })).emit
      (.flit p (dataFlit x f true))
  | none =>
    let s := s.modPort p (fun x => { x with resend := [] })
    match x.passFlit with
    | some f =>
      let q := (f.seq + 1) % 4096
      (s.modPort p (fun x => { x with pass := if q = x.nxt then none else some q })).emit (.flit p (dataFlit x f true))
    | none => (s.modPort p (fun x => { x with pass := none })).fillNew p ft

/-- A fenced port drops the TOLL and FINISH words that wait to go, second copies too (R340). -/
def State.fenceWords (s : State) (p : Nat) : State :=
  s.modPort p (fun x => { x with urgent := s.openWords p x.urgent, normal := s.openWords p x.normal
                                 repeats := if s.fenced p then x.repeats.filter (fun r => r.word.typ ≠ 2) else x.repeats })

/-- FLIT_TIME: flit time `ft` of the measure on a port. In FLIT_SYNC the port sends IDLE (R289). -/
def flitTime (p ft : Nat) (s : State) : State :=
  if s.train p = .flitSync then s.emit (.flit p (idleFlit (s.port p)))
  else
    let s := (s.sampleTime p).fenceWords p
    if ((s.port p).urgentWords s.time.tick).isEmpty then s.fillData p ft else s.sendUrgent p

def execFlitTime (p : PortIx) (ft : Fin 512) (s : State) : Host.Outcome State Fault Refusal :=
  occurs (s.powered && (s.train p.val = .active || s.train p.val = .flitSync)) (flitTime p.val ft.val) s

/-! ### LINK_BROKEN (R314) -/

/-- The condition: the plan RUNNING, the port in the plan, and a hold that overflowed, or a flit held more than the give while
the window cap stood reached. -/
def State.broken (s : State) (p : Nat) : Bool :=
  let x := s.port p
  let give := s.get .LNK_GIVE_give_beats p
  s.planState = .running && s.inPlan p &&
    (x.overflow || (match x.capAt with
      | none => false
      | some t => x.hold.any (fun h => decide (max h.since t + give < s.time.tick))))

def linkBroken (p : Nat) (s : State) : State :=
  ((s.set .LNK_DOWN_broken_seen p 1).originateToll 3 s.time.beat (s.get .PLN_CFG_item_rest 0) p).linkDown p .broken

def execLinkBroken (p : PortIx) (s : State) : Host.Outcome State Fault Refusal :=
  occurs (s.powered && s.train p.val = .active && s.broken p.val) (linkBroken p.val) s

/-! ### TILE_WORD_TO_FLIT (R477) -/

/-- The highest flit_index a port's slot entries cover for a tag. -/
def topIndex (es : List SlotEntry) : Nat := (es.map (fun e => e.first + e.count - 1)).foldl max 0

/-- A word of a tile becomes a VC0 flit with the next flit_index of its tag on its port, or is dropped. -/
def State.formFlit (s : State) (p tag : Nat) (word : List Byte) : State :=
  let epoch := s.get .RTE_EPOCH_epoch 0
  let es := s.tagSlots p tag
  let drop := s.bump .RTE_PORT_MISS_unslotted p 1
  if epoch = 0 ∨ !(s.rstate = 3 || s.rstate = 4 || s.rstate = 5) ∨ es = [] then drop
  else
    let x := s.port p
    let idx := Table.get 0 x.wordIndex tag
    let late :=
      match s.occurrence p tag idx (Table.get 0 x.slotUse (slotKey tag idx)), s.router.stopMeasure with
      | some (m, _, _), some st => decide (m ≥ st)
      | _, _ => false
    if late then drop
    else
      let s := s.modPort p (fun x => { x with wordIndex := Table.set 0 x.wordIndex tag (if idx ≥ topIndex es then 0 else idx + 1) })
      s.vc0Out (p / 6) p ⟨0, 0, decide (idx ≥ topIndex es), epoch + 2 ^ 16 * tag + 2 ^ 36 * idx + 2 ^ 56 * 63, padTo 240 word⟩

/-- The first word of a list that is bound for a link port, if nothing else stands before it. -/
def frontLink : List Item → Option (List Byte × Nat × Nat × List Item)
  | .word b _ (.link p tag) :: l => some (b, p, tag, l)
  | _ => none

/-- TILE_WORD_TO_FLIT: the front word of a tile's out queue 4 or 5, on a kind-3 route, reaches its Rim. -/
def tileWordToFlit (t q : Nat) (s : State) : State :=
  match frontLink ((s.tile t).outQ q).mid with
  | none => s
  | some (b, p, tag, rest) =>
    let s := (s.modTile t (fun x => x.setOut q ⟨(x.outQ q).stage, rest⟩)).moveOut t q
    s.formFlit p tag b

def execTileWordToFlit (t : TileIx) (low : Bool) (s : State) : Host.Outcome State Fault Refusal :=
  occurs (s.fieldUp && (frontLink ((s.tile t.val).outQ (if low then 4 else 5)).mid).isSome)
    (tileWordToFlit t.val (if low then 4 else 5)) s

/-! ### TABLE_SCRUB (R328) -/

/-- TABLE_SCRUB: one Rim reads every entry of its tables. -/
def tableScrub (r : Nat) (s : State) : State := (s.router.flaws.filter (fun f => f.rim.val == r)).foldl State.tableFind s

def execTableScrub (r : RimIx) (s : State) : Host.Outcome State Fault Refusal :=
  occurs (s.powered && s.get .RTE_CTRL_scrub_en 0 = 1) (tableScrub r.val) s

/-! ### Order state (R336 to R339) -/

/-- The first arrival whose route passes a test, and the others. -/
def takeArrival (q : Nat → Bool) : List (Nat × Packet) → Option ((Nat × Packet) × List (Nat × Packet))
  | [] => none
  | a :: l => if q a.2.route then some (a, l) else (takeArrival q l).map (fun r => (r.1, a :: r.2))

/-- A row that takes an arrival of one kind. -/
def onArrival (q : Nat → Bool) (f : Nat → Packet → State → State) (s : State) : Host.Outcome State Fault Refusal :=
  match takeArrival q s.router.arrivals with
  | none => occurs false id s
  | some ((p, k), rest) =>
    occurs s.powered (fun s => f p k { s with router := { s.router with arrivals := rest } }) s

/-- The home Rim takes a request: a context with W slots, or a denial (R336). -/
def contextRequest (k : Packet) (s : State) : State :=
  let src := routeSource k.route
  let r := src % 6
  match s.context? src k.vc with
  | some _ => s
  | none =>
    let mine := s.router.contexts.filter (fun c => c.source % 6 == r)
    let free := 4096 - (mine.map (fun c => c.window)).sum
    if mine.length < 1024 ∧ free ≥ 4 then
      let w := min 64 free
      let exp := (routeSeq k.route + 1) % 2 ^ 16
      (s.setContext ⟨src, k.vc, exp, w, [], 0, s.time.tick⟩).sendGrant src k.vc exp w
    else s.bump .RTE_ORDER_denials r 1

/-- The payloads of a packet of `n` flits of `len` bytes each. -/
def payloadsOf (data : List Byte) (n len : Nat) : List (List Byte) := (List.range n).map (fun i => slice data (240 * i) len)

/-- A local agent's packet passes through its pair's Rim before it is routed (R335). -/
def agentSend (a dest vc : Nat) (payloads : List (List Byte)) (via : Nat) (s : State) : State :=
  (s.crossChain (agentRim (dest % 6) a) (dest % 6) false payloads.length).sendPacket dest vc payloads via

/-- CONTEXT_REQUEST: a local agent sends a packet, or the home Rim takes a request. -/
def execContextRequest (c : ContextSide) (s : State) : Host.Outcome State Fault Refusal :=
  match c with
  | .send a dest vc n len data via =>
    occurs (s.powered && decide (1 ≤ vc.val) && dest.toNat ≠ s.deviceId)
      (agentSend a.val dest.toNat vc.val (payloadsOf data.toList (n.val + 1) (len.val + 1)) via.val) s
  | .arrived => onArrival (fun r => routeKind r == 0) (fun _ k => contextRequest k) s

/-- GRANT (R336 to R338): W = 0 returns the pair to DET; otherwise it is in ORD with a new window. -/
def grant (k : Packet) (s : State) : State :=
  let dest := routeSource k.route
  let vc := routeVia k.route
  let w := leAt (k.payloads.headD []) 0 2
  let x := (s.pair? dest vc).getD ⟨dest, vc, false, 0, 0, 0, none, s.time.tick⟩
  if w = 0 then
    if x.ord then
      ((s.setPair { x with ord := false }).bump .RTE_ORDER_order_lost (dest % 6) 1).unstall dest vc
    else s
  else if x.ord then (s.setPair { x with base := routeSeq k.route, window := w }).unstall dest vc
  else
    s.setPair { x with ord := true, next := routeSeq k.route, base := routeSeq k.route, window := w, lastSent := s.time.tick }

def execGrant (s : State) : Host.Outcome State Fault Refusal := onArrival (fun r => routeKind r == 4) (fun _ k => grant k) s

/-- GRANT_SEND: a context with deliveries that no GRANT has covered sends one (R337). -/
def grantSend (x : Context) (s : State) : State :=
  (s.setContext { x with uncovered := 0 }).sendGrant x.source x.vc x.exp x.window

def execGrantSend (source : BitVec 16) (vc : Fin 8) (s : State) : Host.Outcome State Fault Refusal :=
  match s.context? source.toNat vc.val with
  | none => occurs false id s
  | some x => occurs (s.powered && decide (x.uncovered > 0)) (grantSend x) s

/-- ORDER_RESTORATION (R338): an ADAPT or VIA packet at its home Rim. -/
def orderRestoration (p : Nat) (k : Packet) (s : State) : State :=
  match s.context? (routeSource k.route) k.vc with
  | some x => s.orderIn p x k
  | none => (s.bump .RTE_PORT_MISS_bad_dest p 1).sendGrant (routeSource k.route) k.vc (routeSeq k.route) 0

def execOrderRestoration (s : State) : Host.Outcome State Fault Refusal :=
  onArrival (fun r => routeKind r == 1 || routeKind r == 2 || routeKind r == 3) orderRestoration s

/-- RELEASE: the context and its slots are free (R339). -/
def execRelease (s : State) : Host.Outcome State Fault Refusal :=
  onArrival (fun r => routeKind r == 5) (fun _ k s => s.dropContext (routeSource k.route) (routeVia k.route)) s

/-- An ORD pair that has sent nothing for idle_us, all of its packets covered by a GRANT. -/
def State.idlePair (s : State) (x : Pair) : Bool :=
  x.ord && x.next == x.base && decide (x.lastSent + usBeats (s.get .RTE_ORDER_CFG_idle_us 0) ≤ s.time.tick)

/-- IDLE_RELEASE: RELEASE on the DET route, and the pair returns to DET (R339). -/
def idleRelease (x : Pair) (s : State) : State :=
  (s.setPair { x with ord := false }).launch (x.dest % 6) (mkRoute x.dest s.deviceId 5 false x.vc x.next 1) x.vc [[0]]

def execIdleRelease (dest : BitVec 16) (vc : Fin 8) (s : State) : Host.Outcome State Fault Refusal :=
  match s.pair? dest.toNat vc.val with
  | none => occurs false id s
  | some x => occurs (s.powered && s.idlePair x) (idleRelease x) s

/-- ABORT: the destination discards the packet, counts it, and counts its order_seq as used (R334). -/
def execAbort (s : State) : Host.Outcome State Fault Refusal :=
  onArrival (fun r => routeKind r == 6) (fun p k s => (s.bump .RTE_PORT_MISS_aborts p 1).useSeq p k) s

/-! ### ESCAPE (R332) -/

/-- The first flit of an adaptive packet that has waited esc_q × 10 ns on a VC, with every port it may choose out of credit. -/
def State.escaper (s : State) (vc : Nat) : Option DynFlit :=
  s.router.adaptive.find? (fun d =>
    d.flit.vc == vc && d.first && decide (40 * (s.time.tick - d.since) ≥ 10 * max 1 (s.get .RTE_DYN_CFG_esc_q 0))
      && (List.range 36).all (fun q => !s.choosable (s.routeEntry d.flit.route) q || s.credit q vc == 0))

/-- A packet's route field with flag = 1. -/
def flagged (r : Nat) : Nat := if routeFlag r then r else r + 2 ^ 35

/-- A flit of an escaped packet waits at det_port, or is dropped at its fence. -/
def State.escapeFlit (det : Nat) (s : State) (d : DynFlit) : State :=
  let d := { d with flit := { d.flit with route := flagged d.flit.route } }
  if s.fenced det then
    let s := s.fenceDrop det
    match d.input with
    | none => s
    | some i => s.freeOne i d.flit.vc
  else s.dynOut det d

/-- The packet takes det_port with flag = 1, and follows deterministic routes. -/
def escape (d : DynFlit) (s : State) : State :=
  let det := entryDet (s.routeEntry d.flit.route)
  let mine := s.router.adaptive.filter (fun y => y.packet == d.packet)
  let out := if s.fenced det then 64 + det else det
  let s := { s with router := { s.router with adaptive := s.router.adaptive.filter (fun y => y.packet != d.packet) } }
  let s := (mine.foldl (State.escapeFlit det) s).modPort det
    (fun x => { x with sample := { x.sample with escapes := x.sample.escapes + 1 } })
  s.each (List.range 36) (fun s q => s.modPort q (fun x =>
    { x with rxPackets := x.rxPackets.map (fun k =>
        if k.number = d.packet then { k with out := out, route := flagged k.route } else k) }))

/-- ESCAPE: on a VC, the packet that has waited longest among those that may escape. -/
def execEscape (vc : Fin 8) (s : State) : Host.Outcome State Fault Refusal :=
  match s.escaper vc.val with
  | none => occurs false id s
  | some d => occurs s.powered (escape d) s

/-! ### RTE_FENCE, the table registers (R340, R347) -/

/-- A port newly fenced: VC0 flits held for it and packets of which no flit has left are dropped and counted (R326, R340). -/
def State.fenceOn (s : State) (p : Nat) : State :=
  let x := s.port p
  let gone (d : DynFlit) : Bool := x.owner.find? d.flit.vc ≠ some d.packet
  let lost := x.dyn.filter gone
  let s := s.each (List.range x.hold.length) (fun s _ => s.fenceDrop p)
  let s := s.each (List.range lost.length) (fun s _ => s.fenceDrop p)
  let s := lost.foldl (fun s d => match d.input with | none => s | some i => s.freeOne i d.flit.vc) s
  let s := s.modPort p (fun x => { x with hold := [], dyn := x.dyn.filter (fun d => !gone d) })
  s.each (List.range 36) (fun s q => s.modPort q (fun x =>
    { x with rxPackets := x.rxPackets.map (fun k => if lost.any (fun d => d.packet == k.number) then { k with out := 64 + p } else k) }))

/-- The fences take new values. -/
def State.setFences (s : State) (mask : Nat) : State :=
  let on := (List.range 36).filter (fun p => bit mask p && !s.fenced p)
  let s := (s.set .RTE_FENCE_LO_fence_lo 0 (mask % 2 ^ 32)).set .RTE_FENCE_HI_fence_hi 0 (mask / 2 ^ 32)
  s.each on State.fenceOn

/-- The fences in force, as a 36-bit mask. -/
def State.fences (s : State) : Nat := s.get .RTE_FENCE_LO_fence_lo 0 + 2 ^ 32 * s.get .RTE_FENCE_HI_fence_hi 0

/-- Every port stays fenced: safe state and ROM recovery (R409, R413). -/
def State.fencesHeld (s : State) : Bool := s.get .MGT_STATUS_safe 0 == 1 || s.get .MGT_STATUS_rom_recovery 0 == 1

/-- The fences written as a whole: where they are held, a write that would lift one has no effect (R413). -/
def State.writeFences (s : State) (mask : Nat) : State :=
  if s.fencesHeld && (List.range 36).any (fun p => s.fenced p && !bit mask p) then s.set .RTE_STATUS_fence_denied 0 1
  else s.setFences mask

/-- RTE_FENCE_WRITE: a write of RTE_FENCE_LO or RTE_FENCE_HI. -/
def rteFenceWrite (a : Agent) (hi : Bool) (v : Nat) (s : State) : State :=
  if !isManagement a then s.hostDenied.set .RTE_STATUS_fence_denied 0 1
  else if hi then s.writeFences (s.fences % 2 ^ 32 + 2 ^ 32 * (v % 16))
  else s.writeFences (v % 2 ^ 32 + 2 ^ 32 * (s.fences / 2 ^ 32))

def execRteFenceWrite (a : Agent) (hi : Bool) (v : Word) (s : State) : Host.Outcome State Fault Refusal :=
  occurs (s.agentUp a) (rteFenceWrite a hi v.toNat) s

/-- Copy A of an addressed entry; other table values select nothing. -/
def State.tableEntry (s : State) (table index : Nat) : Option Nat :=
  match table with
  | 3 => some (Table.get 0 s.router.routes index)
  | 4 => some (Table.get 0 s.router.vias (index % 16))
  | _ => none

/-- The index an address names in its table. -/
def tableIndex (table index : Nat) : Nat := if table = 4 then index % 16 else index

/-- RTE_TBL_ADDR_WRITE: copy A of the entry, as the hub's Rim holds it, is loaded into the two DATA registers; copy A of an entry
that cannot be used is a free value (R327). -/
def rteTblAddrWrite (v : Nat) (s : State) : State :=
  let s := (s.set .RTE_TBL_ADDR_table 0 (bits v 2 0)).set .RTE_TBL_ADDR_index 0 (bits v 11 3)
  match s.tableEntry (bits v 2 0) (bits v 11 3) with
  | none => s
  | some e =>
    let i := tableIndex (bits v 2 0) (bits v 11 3)
    let r := s.readEntry 0 (bits v 2 0) i 0
    let e := if r.1 then e else (Config.badCopy (bits v 2 0) i).toNat
    (r.2.set .RTE_TBL_DATA_LO_data_lo 0 (e % 2 ^ 32)).set .RTE_TBL_DATA_HI_data_hi 0 (e / 2 ^ 32)

def execRteTblAddrWrite (a : Agent) (v : Word) (s : State) : Host.Outcome State Fault Refusal :=
  occurs (s.agentUp a) (rteTblAddrWrite v.toNat) s

/-- RTE_TBL_DATA_HI_WRITE: the entry is stored in both copies in every Rim, or the write is refused and changes nothing else. -/
def rteTblDataHiWrite (v : Nat) (s : State) : State :=
  let e := s.get .RTE_TBL_DATA_LO_data_lo 0 + 2 ^ 32 * v
  let table := s.get .RTE_TBL_ADDR_table 0
  let i := tableIndex table (s.get .RTE_TBL_ADDR_index 0)
  if s.rstate ≠ 0 ∨ (table = 3 ∧ entryValid e ∧ entryDet e > 35) then s.set .RTE_STATUS_tbl_reject 0 1
  else
    let s := (s.set .RTE_TBL_DATA_HI_data_hi 0 v).writeEntries (fun f => f.table.val == table && f.index.toNat == i)
    if table = 3 then { s with router := { s.router with routes := Table.set 0 s.router.routes i (e % 2 ^ 43) } }
    else if table = 4 then { s with router := { s.router with vias := Table.set 0 s.router.vias i (e % 256) } }
    else s

def execRteTblDataHiWrite (a : Agent) (v : Word) (s : State) : Host.Outcome State Fault Refusal :=
  occurs (s.agentUp a) (rteTblDataHiWrite v.toNat) s

/-! ### CONGESTION_SAMPLE (R344, R462) -/

/-- One 32-byte record. -/
def sampleRecord (beat link flags measures : Nat) (x : Sample) (stall : Nat) : List Byte :=
  let sat (n v : Nat) : Nat := min v (2 ^ n - 1)
  toLE 8 beat ++ toLE 1 link ++ toLE 1 flags ++ toLE 2 measures ++ toLE 4 (sat 32 x.vc0) ++ toLE 4 (sat 32 x.dyn)
    ++ toLE 4 (sat 32 x.idle) ++ toLE 2 (sat 16 stall) ++ toLE 2 (sat 16 x.holdMax) ++ toLE 2 (sat 16 x.adaptOff)
    ++ toLE 2 (sat 16 x.escapes)

/-- HS0 can be written: FD0 is neither off nor in field reset nor in Hush (R462). -/
def State.ringUp (s : State) : Bool := s.powered && s.power = .active

/-- A congestion record into the ring: dropped and counted while HS0 cannot be written; its number is consumed. -/
def State.congestionRecord (s : State) (b : List Byte) : State :=
  let n := s.get .TEL_CONG_COUNT_written 0
  let s := s.set .TEL_CONG_COUNT_written 0 (n + 1)
  if s.ringUp then s.putTier 1 (0x4FE000000 + n % 2 ^ 20) b
  else (s.bump .TEL_CONG_LOST_lost 0 1).set .TEL_STATUS_ring_lost 0 1

/-- The records of a period: 36 ports, then 10 chain-bridge directions, whose stall shares the environment gives. A new period
starts with what the transmit holds hold. -/
def congestionSample (stalls : List (BitVec 16)) (s : State) : State :=
  let n := s.get .RTE_SAMPLE_CFG_period_measures 0
  let b := s.time.beat
  let s := s.each (List.range 36) (fun s p =>
    let x := (s.port p).sample
    let flags := ofBool (s.fenced p) + 2 * ofBool x.wentDown + 4 * s.get .LNK_STATUS_mode p
    let stall := if x.times = 0 then 0 else x.stalled * 65536 / x.times
    let s := { s with tel := { s.tel with portStall := max s.tel.portStall (min stall 0xFFFF) } }
    (s.congestionRecord (sampleRecord b p flags n x stall)).modPort p
      (fun y => { y with sample := { Sample.reset with holdMax := y.hold.length } }))
  let s := s.each (List.range 10) (fun s k =>
    let stall := (stalls.getD k 0).toNat
    let s := { s with tel := { s.tel with chainStall := max s.tel.chainStall stall } }
    s.congestionRecord (sampleRecord b (36 + k) 0 n (bridgeSample s k) stall))
  { s with router := { s.router with bridges := [], sampleAt := some b } }

/-- CONGESTION_SAMPLE: at the downbeat that ends a sample period, once. -/
def execCongestionSample (stalls : Vector (BitVec 16) 10) (s : State) : Host.Outcome State Fault Refusal :=
  occurs (s.powered && s.get .RTE_SAMPLE_CFG_enable 0 = 1 && isDownbeat s.time.beat
    && s.time.beat / 16 % max 1 (s.get .RTE_SAMPLE_CFG_period_measures 0) == 0 && s.router.sampleAt ≠ some s.time.beat)
    (congestionSample stalls.toList) s

end Sys2Proof.Machine
end

