-- ==== Sys2Proof/Machine/Serving.lean ====
section
/-! DEFINITION. The serving engines (chapter 12): slot commands, prefix walks, the verifier, builds, output records. -/

namespace Sys2Proof.Machine

/-! ### Slots and records (R385, R386) -/

def State.layout? (s : State) : Option Layout := s.plan.plan.bind (fun x => x.serving)

def State.slot (s : State) (n : Nat) : ServeSlot := Table.get ServeSlot.reset s.serving.slots n
def State.setSlot (s : State) (n : Nat) (x : ServeSlot) : State :=
  { s with serving := { s.serving with slots := Table.set ServeSlot.reset s.serving.slots n x } }

/-- Parts of a 64-byte slot record (R385). -/
def recTag (r : List Byte) : Nat := leAt r 0 4
def recAdapter (r : List Byte) : Nat := leAt r 4 2
def recHeads (r : List Byte) : Bool := bit (leAt r 6 1) 0
def recPrefix (r : List Byte) : Bool := bit (leAt r 6 1) 1
def recPrompt (r : List Byte) : Nat := leAt r 8 8
def recLen (r : List Byte) : Nat := leAt r 16 4
def recMax (r : List Byte) : Nat := leAt r 20 4
def recStop (r : List Byte) : Nat := leAt r 24 4
def recRoot (r : List Byte) : Nat := leAt r 32 8

/-- `n` bytes of tier 1 from a byte of a unit, as a number. -/
def State.t1Le (s : State) (unit' byte n : Nat) : Nat := ofLE (s.tier1.readBytes (32 * unit' + byte) n)

/-- Token `n` of a prompt. -/
def State.token (s : State) (r : List Byte) (n : Nat) : Nat := s.t1Le (recPrompt r) (4 * n) 4

/-- Tier-1 bytes that the hub's serving engines write, from a unit on: plan accesses (R257, R272). -/
def State.hubWrite (s : State) (unit' : Nat) (b : List Byte) : State :=
  { s.countRun 1 0 unit' (b.length / 32) with
    tier1 := s.tier1.writeBytes (32 * unit') b
    poison := s.poison.filter (fun e => !(decide (unit' ≤ e.1) && decide (e.1 < unit' + b.length / 32))) }

/-- The group that holds a slot. -/
def Layout.groupOf (y : Layout) (n : Nat) : Option GroupEntry :=
  y.groups.find? (fun g => decide (g.firstSlot ≤ n) && decide (n < g.firstSlot + g.slots))

/-- Adapter directory entry (R397): its store row where it is valid. -/
def State.adapterRow (s : State) (y : Layout) (a : Nat) : Option Nat :=
  if a < y.adapterCount ∧ s.t1Le y.adapterDir (8 * a + 4) 1 % 2 = 1 then some (s.t1Le y.adapterDir (8 * a) 4) else none

/-! ### SLOT_WRITE, SLOT_CLEAR, HEADS_GATE (R387) -/

/-- Plan states in which slot commands are accepted. -/
def State.slotsOpen (s : State) : Bool :=
  (s.planState = .armed || s.planState = .running || s.planState = .resting) && !s.fatalActive

/-- The record a slot will have once what is staged has taken effect; none for EMPTY. -/
def State.nextRecord (s : State) (n : Nat) : Option (List Byte) :=
  match (s.serving.staged.filter (fun x => x.slot == n && decide (x.kind < 2))).getLast? with
  | some x => if x.kind = 0 then some x.record else none
  | none => if (s.slot n).state = 0 then none else some (s.slot n).record

/-- Distinct adapters a group's slots would name with `r` in slot `n`. -/
def State.groupAdapters (s : State) (g : GroupEntry) (n : Nat) (r : List Byte) : List Nat :=
  (((List.range g.slots).filterMap (fun i =>
    if g.firstSlot + i = n then some (recAdapter r) else (s.nextRecord (g.firstSlot + i)).map recAdapter)).filter
      (fun a => a ≠ 0xFFFF)).dedup

/-- The code a SLOT_WRITE is refused with. -/
def State.writeRefusal (s : State) (n : Nat) (r : List Byte) : Option Nat :=
  match s.layout? with
  | none => some 1
  | some y =>
    let limit := s.planLimit 1
    if n ≥ y.slots then some 2
    else if recAdapter r ≠ 0xFFFF ∧ (s.adapterRow y (recAdapter r)).isNone then some 3
    else
      match y.groupOf n with
      | none => some 2
      | some g =>
        if (s.groupAdapters g n r).length > y.aCap - 1 then some 4
        else if recLen r = 0 ∨ recMax r = 0 ∨ recPrompt r + ceilDiv (recLen r) 8 > limit then some 5
        else if recPrefix r ∧ (recRoot r % 4 ≠ 0 ∨ recRoot r ≥ limit) then some 6
        else none

/-- The code a SLOT_CLEAR or a HEADS_GATE is refused with. -/
def State.slotRefusal (s : State) (n : Nat) (ungate : Bool) : Option Nat :=
  match s.layout? with
  | none => some 1
  | some y => if n ≥ y.slots then some 2 else if ungate && y.heads == 0 then some 7 else none

/-- Is a staged entry a host command's that was fetched after command `f`? -/
def State.fetchedLater (s : State) (f : Fetched) (e : Staged) : Bool :=
  match e.cmd with
  | none => false
  | some (q, cid) => (s.host.fetched.dropWhile (fun g => !g.same f)).any (fun g => g.started && g.q == q && g.cid == cid)

/-- A command staged for the next plan downbeat, before those fetched later than it (R363). -/
def State.stage (s : State) (f : Fetched) (n kind : Nat) (r : List Byte) : State :=
  let es := s.serving.staged
  let before := es.takeWhile (fun e => !s.fetchedLater f e)
  let s := s.start f none
  { s with serving := { s.serving with staged := before ++ ⟨some (f.q, f.cid), n, kind, r⟩ :: es.drop before.length } }

def slotWrite (f : Fetched) (s : State) : State :=
  let n := f.par 8 2
  let r := padTo 64 (slice f.packet 64 64)
  if !s.slotsOpen then s.complete f .state s.stateResult
  else if recLen r > 1048576 then s.complete f .paramInvalid 80
  else
    match s.writeRefusal n r with
    | some c => s.complete f .servingRefused c
    | none => s.stage f n 0 r

/-- SLOT_WRITE. -/
def execSlotWrite (q : QueueIx) (cid : Cid) (s : State) : Host.Outcome State Fault Refusal := hostCommand 0x40 q cid slotWrite s

def slotClear (f : Fetched) (s : State) : State :=
  if !s.slotsOpen then s.complete f .state s.stateResult
  else
    match s.slotRefusal (f.par 8 2) false with
    | some c => s.complete f .servingRefused c
    | none => s.stage f (f.par 8 2) 1 []

/-- SLOT_CLEAR. -/
def execSlotClear (q : QueueIx) (cid : Cid) (s : State) : Host.Outcome State Fault Refusal := hostCommand 0x41 q cid slotClear s

def headsGate (f : Fetched) (s : State) : State :=
  let gate := f.par 10 1 % 2 == 1
  if !s.slotsOpen then s.complete f .state s.stateResult
  else
    match s.slotRefusal (f.par 8 2) (!gate) with
    | some c => s.complete f .servingRefused c
    | none => s.stage f (f.par 8 2) (if gate then 2 else 3) []

/-- HEADS_GATE. -/
def execHeadsGate (q : QueueIx) (cid : Cid) (s : State) : Host.Outcome State Fault Refusal := hostCommand 0x43 q cid headsGate s

/-- The 128 bytes of SLOT_READ (R400). -/
def State.slotBytes (s : State) (n : Nat) : List Byte :=
  let x := s.slot n
  (if x.state = 0 then zeros 64 else x.record) ++ toLE 1 x.state ++ toLE 1 x.gen
    ++ toLE 1 (ofBool x.gated + 2 * ofBool x.walkError + 4 * ofBool x.adapterLost
        + 8 * ofBool (s.serving.staged.any (fun e => e.slot == n)))
    ++ toLE 1 x.buffer ++ toLE 4 x.pos ++ toLE 4 x.generated ++ toLE 4 x.prefixLen ++ toLE 4 x.steps ++ toLE 4 x.drafted
    ++ toLE 4 x.accepted ++ toLE 2 x.zeroRun ++ toLE 2 x.reads ++ toLE 8 x.outSeq ++ zeros 24

def slotRead (f : Fetched) (s : State) : State :=
  match s.slotRefusal (f.par 8 2) false with
  | some c => s.complete f .servingRefused c
  | none => (s.toHost (f.par 16 8) (s.slotBytes (f.par 8 2))).complete f .success 0

/-- SLOT_READ. -/
def execSlotRead (q : QueueIx) (cid : Cid) (s : State) : Host.Outcome State Fault Refusal := hostCommand 0x42 q cid slotRead s

/-! ### Staged commands take effect (R386 to R389) -/

/-- The opcode of a staged kind. -/
def stagedOp (kind : Nat) : Nat := match kind with | 0 => 0x40 | 1 => 0x41 | _ => 0x43

/-- A staged command completes. -/
def State.completeStaged (s : State) (e : Staged) (c : Cc) (result : Nat) : State :=
  match e.cmd with
  | none => s
  | some (q, cid) =>
    match s.running? q cid (stagedOp e.kind) with
    | none => s
    | some f => s.complete f c result

/-- Every staged command completes with STATE: at a fatal entry, at the stop downbeat, and where the serving state goes. -/
def State.failStaged (s : State) : State :=
  let es := s.serving.staged
  es.foldl (fun s e => s.completeStaged e .state s.stateResult) { s with serving := { s.serving with staged := [] } }

/-- The change a staged command makes to its slot; `stands` says that no later SLOT_WRITE or SLOT_CLEAR follows. -/
def State.applyStaged (s : State) (e : Staged) (stands : Bool) : State :=
  let x := s.slot e.slot
  match e.kind with
  | 0 => if stands then
      let gen := (x.gen + 1) % 256
      let s := s.setSlot e.slot { ServeSlot.reset with record := e.record, state := 1, gen := gen }
      { s with serving := { s.serving with walks := s.serving.walks ++ [Walk.mk e.slot gen] } }
    else s
  | 1 => if stands then s.setSlot e.slot { ServeSlot.reset with gen := (x.gen + 1) % 256 } else s
  | 2 => s.setSlot e.slot { x with gated := true }
  | _ => s.setSlot e.slot { x with gated := false, zeroRun := 0 }

/-- All of them in the order of their list. -/
def applySlots : List Staged → State → State
  | [], s => s
  | e :: es, s =>
    applySlots es (s.applyStaged e (!es.any (fun l => l.slot == e.slot && decide (l.kind < 2))))

/-- A list of walks with one put in by rising slot. -/
def putWalk (w : Walk) : List Walk → List Walk
  | [] => [w]
  | v :: vs => if v.slot ≤ w.slot then v :: putWalk w vs else w :: v :: vs

/-- The downbeat on which plan measure `m` executes: staged commands take effect and complete; the walks of the slots
written start in slot order. -/
def State.slotDownbeat (s : State) (m : Nat) : State :=
  let es := s.serving.staged
  let old := s.serving.walks
  let s := applySlots es { s with serving := { s.serving with staged := [], walks := [] } }
  let new := s.serving.walks
  let s := { s with serving := { s.serving with walks := old ++ new.foldl (fun l w => putWalk w l) [] } }
  let s := s.set .SRV_WALK_START_started 0 (s.get .SRV_WALK_START_started 0 + new.length)
  es.foldl (fun s e => s.completeStaged e .success (if e.kind < 2 then m else 0)) s

/-! ### Walks (R393 to R395) -/

/-- A segment of a prefix map: kv_base and tokens. -/
structure Seg where
  kv : Nat
  tokens : Nat
deriving DecidableEq, Repr

/-- How a walk ended. -/
structure WalkEnd where
  m : Nat
  segs : List Seg
  reads : Nat
  err : Bool
  limit : Bool
deriving DecidableEq, Repr

/-- A reference that names no node. -/
def noNode : Nat := 0xFFFFFFFFFFFFFFFF

/-- Leading tokens of a node's edge that equal the prompt from token `m` on. -/
def State.leading (s : State) (r : List Byte) (c m : Nat) : Nat → Nat → Nat
  | 0, _ => 0
  | n + 1, i =>
    if m + i < recLen r ∧ s.t1Le c (32 + 4 * i) 4 = s.token r (m + i) then 1 + State.leading s r c m n (i + 1) else 0

/-- The loop of R394 over candidates `c`, with the tokens matched, segments and reads so far. Every turn is one read. -/
def State.walkLoop (s : State) (y : Layout) (r : List Byte) : Nat → Nat → Nat → List Seg → Nat → WalkEnd
  | 0, _, m, segs, reads => ⟨m, segs, reads, true, true⟩
  | fuel + 1, c, m, segs, reads =>
    if c = noNode ∨ m ≥ recLen r then ⟨m, segs, reads, false, false⟩
    else
      let reads := reads + 1
      if reads > y.walkLimit then ⟨m, segs, reads, true, true⟩
      else
        let count := s.t1Le c 24 1
        if c ≥ s.planLimit 1 ∨ c % 4 ≠ 0 ∨ s.t1Le c 25 1 % 2 = 0 ∨ count = 0 ∨ count > 16 then ⟨m, segs, reads, true, false⟩
        else if s.t1Le c 32 4 ≠ s.token r m then State.walkLoop s y r fuel (s.t1Le c 8 8) m segs reads
        else
          let k := s.leading r c m count 0
          if segs.length = 2 * (y.mapUnits - 1) then ⟨m, segs, reads, false, false⟩
          else if k < count then ⟨m + k, segs ++ [⟨s.t1Le c 16 8, k⟩], reads, false, false⟩
          else State.walkLoop s y r fuel (s.t1Le c 0 8) (m + k) (segs ++ [⟨s.t1Le c 16 8, k⟩]) reads

/-- The last segment one token shorter, gone if that empties it. -/
def shorten : List Seg → List Seg
  | [] => []
  | [g] => if g.tokens ≤ 1 then [] else [{ g with tokens := g.tokens - 1 }]
  | g :: gs => g :: shorten gs

/-- A whole walk: one token is kept to feed. -/
def State.walk (s : State) (y : Layout) (r : List Byte) : WalkEnd :=
  if recPrefix r then
    let e := s.walkLoop y r (y.walkLimit + 1) (s.t1Le (recRoot r) 0 8) 0 [] 0
    if e.m = recLen r then { e with m := recLen r - 1, segs := shorten e.segs } else e
  else ⟨0, [], 0, false, false⟩

/-- The units of a prefix map (R395). -/
def mapBytes (e : WalkEnd) (gen : Nat) : List Byte :=
  let segs := e.segs.flatMap (fun g => toLE 8 g.kv ++ toLE 4 g.tokens ++ zeros 4)
  padTo 32 (toLE 4 e.segs.length ++ toLE 4 e.m ++ toLE 1 gen ++ toLE 1 (ofBool e.err))
    ++ (if e.segs.length % 2 = 1 then segs ++ zeros 16 else segs)

def walkComplete (y : Layout) (w : Walk) (rest : List Walk) (s : State) : State :=
  let s := { s with serving := { s.serving with walks := rest } }
  let s := s.set .SRV_WALK_DONE_completed 0 (s.get .SRV_WALK_DONE_completed 0 + 1)
  let x := s.slot w.slot
  if x.gen ≠ w.gen ∨ x.state ≠ 1 then s
  else
    let e := s.walk y x.record
    let s := s.countRun 1 0 (recRoot x.record) (4 * e.reads)
    let s := if e.err then s.bump .SRV_WALK_ERR_walk_errors 0 1 else s
    let s := if e.limit then s.bump .SRV_WALK_ERR_limit_hits 0 1 else s
    (s.hubWrite (y.mapArea + y.mapUnits * w.slot) (mapBytes e w.gen)).setSlot w.slot
      { x with walked := true, walkError := e.err, prefixLen := e.m, reads := e.reads }

/-- WALK_COMPLETE: the walk that started first ends, and its map is written. -/
def execWalkComplete (s : State) : Host.Outcome State Fault Refusal :=
  match s.layout?, s.serving.walks with
  | some y, w :: rest => occurs s.tilesUp (walkComplete y w rest) s
  | _, _ => occurs false id s

/-! ### Output records (R399) -/

/-- One output record of a slot: tokens, accepted, and the flags for a stop token and for max_new. -/
def State.outRecord (s : State) (y : Layout) (n step : Nat) (out : List Nat) (acc : Nat) (stop max' : Bool) : State :=
  let q := s.get .SRV_OUT_TAIL_tail 0
  let x := s.slot n
  let flags := ofBool (x.state == 4) + 2 * ofBool stop + 4 * ofBool max' + 8 * ofBool x.walkError + 16 * ofBool x.adapterLost
    + 32 * ofBool x.gated
  let b := toLE 8 step ++ toLE 4 q ++ toLE 4 (recTag x.record) ++ toLE 2 n ++ toLE 1 x.gen ++ toLE 1 out.length ++ toLE 1 acc
    ++ toLE 1 flags ++ zeros 2 ++ toLE 4 x.pos ++ zeros 4 ++ padTo 32 (out.flatMap (toLE 4))
  let full := decide ((q + 2 ^ 32 - s.get .SRV_OUT_HEAD_head 0) % 2 ^ 32 ≥ y.ringRecords)
  let s := if full then s.bump .SRV_OUT_DROP_drops 0 1 else s.hubWrite (y.outRing + 2 * (q % y.ringRecords)) b
  (s.set .SRV_OUT_TAIL_tail 0 (q + 1)).setSlot n { x with outSeq := q }

/-! ### The verifier (R390, R391) -/

/-- Step a group's verifier waits for. -/
def State.groupStep (s : State) (g : Nat) : Nat := Table.get 0 s.serving.step g

/-- In beat and verify beat of step `j` (R382). -/
def Layout.inBeat (y : Layout) (g : GroupEntry) (j : Nat) : Nat := 16 * (g.firstMeasure + j * y.stepMeasures) + g.inOff
def Layout.verifyBeat (y : Layout) (g : GroupEntry) (j : Nat) : Nat := 16 * (g.firstMeasure + j * y.stepMeasures) + g.verOff

/-- First unit of slot `i`'s result record in a group area (R384). -/
def Layout.resultUnit (y : Layout) (g : GroupEntry) (i : Nat) : Nat := g.area + 1 + y.listUnits + 2 * g.slots + 10 * i
def Layout.inputUnit (y : Layout) (g : GroupEntry) (i : Nat) : Nat := g.area + 1 + y.listUnits + 2 * i

def InRecord.gated : InRecord :=
  { live := false, gen := 0, prefill := false, buffer := 0, n := 0, pos := 0, prefixLen := 0, toks := [] }

def State.input (s : State) (n : Nat) : InRecord := Table.get InRecord.gated s.serving.inputs n

/-- Every live input record of a group has its result record (R391). -/
def State.resultsPresent (s : State) (y : Layout) (g : GroupEntry) (j : Nat) : Bool :=
  (List.range g.slots).all (fun i =>
    let n := g.firstSlot + i
    let r := y.resultUnit g i
    !(s.input n).live || (s.t1Le r 0 8 == j && s.t1Le r 8 2 == n && s.t1Le r 10 1 == (s.input n).gen))

/-- main[k] and draft[k][0 .. H - 1] of a result record. -/
def State.mainTok (s : State) (r k : Nat) : Nat := s.t1Le r (32 + 4 * k) 4
def State.draftToks (s : State) (r k h : Nat) : List Nat := (List.range h).map (fun i => s.t1Le r (64 + 32 * k + 4 * i) 4)

/-- A list cut after the first element equal to `t`, and whether it was found. -/
def cutAfter (t : Nat) : List Nat → List Nat × Bool
  | [] => ([], false)
  | a :: l => if a = t then ([a], true) else (a :: (cutAfter t l).1, (cutAfter t l).2)

/-- finish of R391: tokens `all` are emitted, `k` the position of the last, `acc` the drafts accepted. -/
def State.finishSlot (s : State) (y : Layout) (n j r k acc : Nat) (all : List Nat) : State :=
  let x := s.slot n
  let i := s.input n
  let (cut, stop) := if recStop x.record = 0xFFFFFFFF then (all, false) else cutAfter (recStop x.record) all
  let out := cut.take (recMax x.record - x.generated)
  let stop := stop && out.length == cut.length
  let gen := x.generated + out.length
  let max' := decide (gen ≥ recMax x.record)
  (s.setSlot n { x with generated := gen, pos := i.pos + k + 1, last := s.mainTok r k, drafts := s.draftToks r k y.heads
                        state := if stop || max' then 4 else 3 }).outRecord y n j out acc stop max'

/-- Drafts accepted: fed tokens from the second on that equal what the main model gave. -/
def State.acceptedOf (s : State) (r : Nat) : Nat → List Nat → Nat
  | _, [] => 0
  | a, t :: ts => if s.mainTok r a = t then 1 + State.acceptedOf s r (a + 1) ts else 0

/-- A gate that firmware stages for a slot whose zero_run has reached zero_gate_n (R398). -/
def State.autoGate (s : State) (n : Nat) : State :=
  let limit := s.get .SRV_CTRL_zero_gate_n 0
  let x := s.slot n
  if limit ≠ 0 ∧ x.zeroRun ≥ limit ∧ !x.gated ∧ x.state = 3 ∧ !s.serving.staged.any (fun e => e.slot == n && decide (e.kind ≤ 2)) then
    { s.bump .SRV_EVENTS_auto_gates 0 1 with
      serving := { s.serving with staged := s.serving.staged ++ [Staged.mk none n 2 []] } }
  else s

/-- A decode step's result. -/
def State.decodeSlot (s : State) (y : Layout) (n j r : Nat) : State :=
  let i := s.input n
  let x := s.slot n
  let a := s.acceptedOf r 0 (i.toks.drop 1)
  let zeros' := if i.n > 1 ∧ a = 0 then min (x.zeroRun + 1) 65535 else if a > 0 then 0 else x.zeroRun
  let s := (s.bump .SRV_DRAFTED_drafted 0 (i.n - 1)).bump .SRV_ACCEPTED_accepted 0 a
  let s := s.setSlot n { x with steps := x.steps + 1, drafted := x.drafted + (i.n - 1), accepted := x.accepted + a, zeroRun := zeros' }
  (s.finishSlot y n j r a a ((List.range (a + 1)).map (s.mainTok r))).autoGate n

/-- One slot's result. -/
def State.verifySlot (y : Layout) (g : GroupEntry) (j : Nat) (s : State) (k : Nat) : State :=
  let n := g.firstSlot + k
  let i := s.input n
  let x := s.slot n
  let r := y.resultUnit g k
  if !i.live then s
  else if x.gen ≠ i.gen then s.bump .SRV_EVENTS_superseded 0 1
  else if x.state = 2 then
    let s := s.setSlot n { x with fed := x.fed + i.n }
    if x.fed + i.n = recLen x.record then s.finishSlot y n j r (i.n - 1) 0 [s.mainTok r (i.n - 1)]
    else s.setSlot n { x with fed := x.fed + i.n, pos := i.pos + i.n }
  else s.decodeSlot y n j r

/-! ### Builds (R392, R397) -/

/-- PENDING slots whose walk is complete begin to feed. -/
def State.admitSlot (s : State) (n : Nat) : State :=
  let x := s.slot n
  if x.state = 1 ∧ x.walked then s.setSlot n { x with state := 2, fed := x.prefixLen, pos := x.prefixLen } else s

def ServeSlot.live (x : ServeSlot) : Bool := x.state == 2 || x.state == 3

/-- A slot whose adapter's entry is no longer valid is done. -/
def State.loseAdapter (s : State) (y : Layout) (n j : Nat) : State :=
  let x := s.slot n
  if x.live ∧ recAdapter x.record ≠ 0xFFFF ∧ (s.adapterRow y (recAdapter x.record)).isNone then
    ((s.setSlot n { x with state := 4, adapterLost := true }).bump .SRV_EVENTS_adapter_lost 0 1).outRecord y n j [] 0 false false
  else s

/-- A list without repeats, in the order of first occurrence. -/
def firstOf : List Nat → List Nat
  | [] => []
  | a :: l => a :: (firstOf l).filter (fun b => b ≠ a)

/-- Distinct adapters of a group's live slots, in order of their lowest slot. -/
def State.adapterList (s : State) (g : GroupEntry) : List Nat :=
  firstOf ((List.range g.slots).filterMap (fun i =>
    let x := s.slot (g.firstSlot + i)
    if x.live ∧ recAdapter x.record ≠ 0xFFFF then some (recAdapter x.record) else none))

/-- Buffer of an adapter: its place in the list from 1; 0 for none. -/
def bufferOf (adapters : List Nat) (a : Nat) : Nat := if a = 0xFFFF then 0 else 1 + adapters.findIdx (fun b => b == a)

/-- The input record of a slot for the next step. -/
def State.nextInput (s : State) (y : Layout) (adapters : List Nat) (n : Nat) : InRecord :=
  let x := s.slot n
  let r := x.record
  let base : InRecord := { InRecord.gated with gen := x.gen, pos := x.pos, prefixLen := x.prefixLen }
  if !x.live then base
  else
    let toks :=
      if x.state = 2 then (List.range (min (y.heads + 1) (recLen r - x.fed))).map (fun i => s.token r (x.fed + i))
      else if decide (0 < y.heads) && recHeads r && !x.gated then x.last :: x.drafts
      else [x.last]
    { base with live := true, prefill := x.state == 2, buffer := bufferOf adapters (recAdapter r), n := toks.length, toks := toks }

/-- The 64 bytes of an input record (R390). -/
def InRecord.bytes (i : InRecord) (step n : Nat) : List Byte :=
  toLE 8 step ++ toLE 2 n ++ toLE 1 i.gen ++ toLE 1 (ofBool i.live + 2 * ofBool i.prefill) ++ toLE 2 i.buffer ++ toLE 2 i.n
    ++ toLE 4 i.pos ++ toLE 4 i.prefixLen ++ zeros 8
    ++ ((i.toks ++ List.replicate 8 0xFFFFFFFF).take 8).flatMap (toLE 4)

/-- One slot's input record written. -/
def State.buildSlot (y : Layout) (g : GroupEntry) (j : Nat) (adapters : List Nat) (s : State) (k : Nat) : State :=
  let n := g.firstSlot + k
  let i := s.nextInput y adapters n
  let s := (s.hubWrite (y.inputUnit g k) (i.bytes j n)).setSlot n { s.slot n with buffer := i.buffer }
  { s with serving := { s.serving with inputs := Table.set InRecord.gated s.serving.inputs n i } }

/-- The adapter index list (R384, R397). -/
def State.indexList (s : State) (y : Layout) (adapters : List Nat) : List Byte :=
  padTo (32 * y.listUnits) (toLE 4 0 ++ adapters.flatMap (fun a => toLE 4 ((s.adapterRow y a).getD 0)))

/-- The build of step `j` of a group. -/
def State.build (s : State) (y : Layout) (g : GroupEntry) (j : Nat) : State :=
  let slots := (List.range g.slots).map (fun i => g.firstSlot + i)
  let s := slots.foldl (fun s n => (s.admitSlot n)) s
  let s := slots.foldl (fun s n => s.loseAdapter y n j) s
  let adapters := s.adapterList g
  let s := (List.range g.slots).foldl (State.buildSlot y g j adapters) s
  let s := s.hubWrite (g.area + 1) (s.indexList y adapters)
  let live := (slots.filter (fun n => (s.slot n).live)).length
  s.hubWrite g.area (padTo 32 (toLE 8 j ++ toLE 2 live ++ toLE 2 adapters.length))

/-- A group's results are processed and its next step is built; `beats` is how long the build took, at most
B_total (R383, R392). -/
def verifyBeat (y : Layout) (k : Nat) (g : GroupEntry) (beats : Nat) (s : State) : State :=
  let j := s.groupStep k
  let s := (List.range g.slots).foldl (State.verifySlot y g j) s
  let s := s.build y g (j + 1)
  let s := { s with serving := { s.serving with step := Table.set 0 s.serving.step k (j + 1) } }
  let b := min beats (min 65535 (y.groups.map GroupEntry.buildBeats).sum)
  (s.set .SRV_BUILD_last_beats 0 b).peak .SRV_BUILD_max_beats 0 b

/-- The group of a number, with the layout. -/
def State.group? (s : State) (k : Nat) : Option (Layout × GroupEntry) :=
  s.layout?.bind (fun y => (y.groups[k]?).map (fun g => (y, g)))

/-- VERIFY_BEAT: at the verify beat of group `k`'s step, and at each later plan beat up to K after it, the results are checked;
once they are present they are processed and the next step is built. -/
def execVerifyBeat (k : Fin 64) (beats : BitVec 16) (s : State) : Host.Outcome State Fault Refusal :=
  match s.group? k.val with
  | none => occurs false id s
  | some (y, g) =>
    let v := y.verifyBeat g (s.groupStep k)
    occurs (s.planState = .running && s.beatExecutes && s.beatBegun v
        && decide (s.plan.beat ≤ v + s.get .PLN_CFG_toll_reach 0) && s.resultsPresent y g (s.groupStep k))
      (verifyBeat y k g beats.toNat) s

/-- SERVING_RESULT_LOST. -/
def execServingResultLost (k : Fin 64) (s : State) : Host.Outcome State Fault Refusal :=
  match s.group? k.val with
  | none => occurs false id s
  | some (y, g) =>
    occurs (s.planState = .running && s.beatExecutes
        && s.beatBegun (y.verifyBeat g (s.groupStep k) + s.get .PLN_CFG_toll_reach 0)
        && !s.resultsPresent y g (s.groupStep k))
      (fun s => s.raiseFatal .servingResultLost k) s

/-- SERVING_BUILD_LATE: the plan reaches the in beat of a step whose header is not written. -/
def execServingBuildLate (k : Fin 64) (s : State) : Host.Outcome State Fault Refusal :=
  match s.group? k.val with
  | none => occurs false id s
  | some (y, g) =>
    occurs (s.planState = .running && s.beatExecutes && s.beatBegun (y.inBeat g (s.groupStep k + 1)))
      (fun s => s.raiseFatal .servingBuildLate k) s

/-- SRV_OUT_HEAD_WRITE (R403): a value outside [head, tail] has no effect. -/
def srvOutHeadWrite (v : Nat) (s : State) : State :=
  let h := s.get .SRV_OUT_HEAD_head 0
  let t := s.get .SRV_OUT_TAIL_tail 0
  if (v + 2 ^ 32 - h) % 2 ^ 32 ≤ (t + 2 ^ 32 - h) % 2 ^ 32 then s.set .SRV_OUT_HEAD_head 0 v else s

def execSrvOutHeadWrite (v : Word) (s : State) : Host.Outcome State Fault Refusal :=
  occurs s.hubUp (srvOutHeadWrite v.toNat) s

end Sys2Proof.Machine
end

