-- ==== Sys2Proof/Machine/Power.lean ====
section
/-! DEFINITION. Resets of the module and of the Field dies, and the power states (R433 to R443, R435, R436). -/

namespace Sys2Proof.Machine

/-! ### Rights -/

/-- The agents that may write the FLT_ block (R458): the host and the management cores. -/
def writesFlt (a : Agent) : Bool := a ≠ .security && a ≠ .ethernet && a ≠ .i3c

/-! ### What a reset of the Field dies leaves (R250, R438) -/

/-- The secure windows of the dies that have one, as byte ranges of the scratchpads. -/
def State.windows (s : State) : List (Nat × Nat) :=
  ((List.range 8).filter (fun d => s.get .FLD_SPAD_SECURE_size_blk d ≠ 0)).flatMap (fun d =>
    (List.range 1152).map (fun t =>
      (2 ^ 20 * (1152 * d + t) + 32 * (s.window d).1, 2 ^ 20 * (1152 * d + t) + 32 * (s.window d).2)))

/-- Every window unit zero (R250). -/
def zeroRanges (m : Memory) (rs : List (Nat × Nat)) : Memory := rs.foldl (fun m r => m.zero r.1 r.2) m

/-- Scratchpads after their dies have been off or in reset: undefined outside the windows, zero inside. -/
def State.lostSpads (s : State) : State :=
  let (n, s) := s.draw
  { s with spad := zeroRanges (s.spad.fill ⟨0, 2 ^ 20 * 9216, n⟩) s.windows, spadErr := [] }

/-- A new value of SEC_LC_NONCE (R425). -/
def State.drawNonce (s : State) : State := s.draw.2.set .SEC_LC_NONCE_nonce 0 (Config.random32 s.draw.1).toNat

/-- Accumulators held in dies that restart begin again at 0 (R461). -/
def keepAccum (p : Held → Bool) (t : Table Nat) : Table Nat :=
  Table.keep (fun k => p (RegField.ofNat (k % 512)).info.reg.info.held) t

def State.restartAccum (s : State) (p : Held → Bool) : State :=
  { s with accum := keepAccum p s.accum, tel := { s.tel with snap := keepAccum p s.tel.snap, ageSnap := keepAccum p s.tel.ageSnap } }

/-- The Field dies and what they hold are gone: tiles, the die network, region clocks (R438). The hub's plan goes with them,
and the router plan goes on, forwarding only (R343). -/
def State.loseField (s : State) : State :=
  let s := (s.failStaged.setPlanState .idle).lostSpads
  let s := s.set .RTE_PLAN_forwarding_only 0 (ofBool (s.get .RTE_PLAN_rstate 0 ≠ 0))
  let s := { s with
    plan := s.plan.fresh none, serving := Serving.reset, host := { s.host with ingest := [] }, tiles := [], dn := [], dnSeq := 0, dnWait := []
    testPos := [], moved := [], lateNow := []
    time := { s.time with stops := [], handed := [], reload := none, clock := [], cycles := [] } }
  s.applyAll 0xFF

/-- Packets that wait for Field dies that go off or into reset are dropped (R435). -/
def State.dropParked (s : State) : State :=
  let lost := s.router.parked.filter (fun k => decide (k.agent ≤ 8))
  let s := { s with router := { s.router with parked := s.router.parked.filter (fun k => !decide (k.agent ≤ 8)) } }
  lost.foldl (fun s k => (s.freeMany k.port k.vc k.flits).bump .RTE_PORT_MISS_bad_dest k.port 1) s

/-- Packets held for agents that run again are delivered, oldest first (R435, R440). -/
def State.unpark (s : State) : State :=
  let ks := s.router.parked
  ks.foldl (fun s k => (s.freeMany k.port k.vc k.flits).emit (.packet k.agent k.payloads))
    { s with router := { s.router with parked := [] } }

/-- Host tier and scratchpad commands not yet started complete with POWER_STATE (R435, R442). -/
def State.failDma (s : State) : State :=
  (s.host.fetched.filter (fun f => !f.started && (f.op == 0x20 || f.op == 0x21))).foldl (fun s f => s.complete f .powerState 0) s

/-! ### Field reset (R434, R435, R437) -/

/-- The loaded image is forwarding-only: no tile programs, no due items, no ingest, no serving (R434). -/
def State.forwardingImage (s : State) : Bool :=
  match s.plan.plan with
  | none => false
  | some x => !(s.tiles.any (fun e => e.2.prog.isSome)) && x.due.isEmpty && x.ingest.isEmpty && x.serving.isNone

/-- Plan states in which a field reset, or Relay, is accepted (R434, R440). -/
def State.quietPlan (s : State) : Bool :=
  s.planState = .idle || s.planState = .loaded || s.planState = .stopped || s.planState = .faulted

/-- A field reset begins: everything of R435 up to the release, with the registers as R438 leaves them. -/
def State.beginFieldReset (s : State) : State :=
  let s := ((s.failDma.set .FLT_STATUS_pwr_state 0 3).dropParked).loseField
  let s := { s.afterEvent .field with pwr := { s.pwr with entry := none, waiting := false } }
  (s.restartAccum (fun h => h = .hub || h = .rim)).drawNonce

/-- A field reset is accepted: it begins at once, when the dump is complete, or as a Relay exit (R435, R437). -/
def State.acceptFieldReset (s : State) : State :=
  let s := { s with pwr := { s.pwr with asked := true } }
  if s.power = .relay then { s with pwr := { s.pwr with restarting := true, entry := none } }
  else if s.get .FLT_DUMP_busy 0 = 1 then { s with pwr := { s.pwr with waiting := true } }
  else s.beginFieldReset

/-- A field reset is under way, or accepted and waiting. -/
def State.resetting (s : State) : Bool := s.power = .fieldReset || s.pwr.waiting || s.pwr.restarting

/-- A field reset request: whether it is accepted, and the state after it. A request during one is merged. -/
def State.fieldResetRequest (s : State) : Bool × State :=
  if s.resetting then (true, { s with pwr := { s.pwr with asked := true } })
  else if s.quietPlan || s.forwardingImage then (true, s.acceptFieldReset)
  else (false, s)

/-! ### Power requests (R440 to R443) -/

/-- The entry into Hush (1) or Relay (2) begins; in Hush the tiles gate and the regions apply 0x00. -/
def State.beginEntry (s : State) (t : Nat) : State :=
  let s := { s.failDma with pwr := { s.failDma.pwr with entry := some t } }
  if t = 1 then s.applyAll 0 else s

/-- Hush ends (R442). Neither LOADED nor STOPPED executes a row, so every region takes 0xFF as with no plan (log entry 35); in
FAULTED the 0x00 of the fatal path stands (R446). -/
def State.leaveHush (s : State) : State :=
  let s := { s.afterEvent .hush with pwr := { s.pwr with entry := none } }
  ((s.set .FLT_STATUS_pwr_state 0 0).applyAll (if s.planState = .faulted then 0 else 0xFF)).unpark

def State.powerReject (s : State) : State := s.set .FLT_STATUS_pwr_reject 0 1

/-- A request for the state that pwr_target names (R441). -/
def State.powerRequest (s : State) (t : Nat) : State :=
  if t = 3 then s
  else if s.resetting then s.powerReject
  else if t = s.power.code then s
  else if t = 0 then
    (if s.power = .relay then { s with pwr := { s.pwr with restarting := true } } else s.leaveHush)
  else if t = 1 then
    if s.power = .active && s.pwr.entry != some 2 && (s.planState = .idle || s.planState = .loaded || s.planState = .stopped)
    then s.beginEntry 1 else s.powerReject
  else if s.quietPlan || s.forwardingImage then s.beginEntry 2 else s.powerReject

/-- A write of FLT_CTRL (R441, R458): report_en, the power request, then the field reset request. -/
def fltCtrlWrite (v : Nat) (s : State) : State :=
  let s := (s.set .FLT_CTRL_report_en 0 (bits v 3 3)).powerRequest (bits v 1 0)
  if bit v 2 then
    match s.fieldResetRequest with
    | (true, s) => s
    | (false, s) => s.set .FLT_STATUS_reset_reject 0 1
  else s

/-- FIELD_RESET: a write of FLT_CTRL with field_reset = 1. -/
def execFieldReset (a : Agent) (v : Word) (s : State) : Host.Outcome State Fault Refusal :=
  occurs (s.agentUp a && writesFlt a && bit v.toNat 2) (fltCtrlWrite v.toNat) s

/-- HUSH_ENTRY: a write of FLT_CTRL with pwr_target = 1. -/
def execHushEntry (a : Agent) (v : Word) (s : State) : Host.Outcome State Fault Refusal :=
  occurs (s.agentUp a && writesFlt a && bits v.toNat 1 0 == 1) (fltCtrlWrite v.toNat) s

/-- RELAY_ENTRY: a write of FLT_CTRL with pwr_target = 2. -/
def execRelayEntry (a : Agent) (v : Word) (s : State) : Host.Outcome State Fault Refusal :=
  occurs (s.agentUp a && writesFlt a && bits v.toNat 1 0 == 2) (fltCtrlWrite v.toNat) s

/-- RETURN_TO_ACTIVE: a write of FLT_CTRL with pwr_target = 0. -/
def execReturnToActive (a : Agent) (v : Word) (s : State) : Host.Outcome State Fault Refusal :=
  occurs (s.agentUp a && writesFlt a && bits v.toNat 1 0 == 0) (fltCtrlWrite v.toNat) s

/-- Every access has completed: those of tiles, host DMA and pushes, and walks; a dump being written is the management plane's
(TIERS_SELF_REFRESH asks for both). -/
def State.accessesDone (s : State) : Bool :=
  s.tiles.all (fun e => e.2.accesses.isEmpty) && s.serving.walks.isEmpty
    && !(s.host.fetched.any (fun f => f.started && (f.op == 0x20 || f.op == 0x21 || f.op == 0x23 || f.op == 0x62)))

/-- Relay is reached: the plan is IDLE, the router goes on, the Field dies are off (R443). -/
def State.enterRelay (s : State) : State :=
  let s := s.dropParked.loseField
  let s := { s.afterEvent .relay with pwr := { s.pwr with entry := none } }
  ((s.restartAccum (fun h => h ≠ .field)).set .FLT_STATUS_pwr_state 0 2).bump .FLT_RESETS_relay_entries 0 1

/-- TIERS_SELF_REFRESH: both tiers enter self-refresh and the power state changes. -/
def execTiersSelfRefresh (s : State) : Host.Outcome State Fault Refusal :=
  match s.pwr.entry with
  | none => occurs false id s
  | some t =>
    occurs (s.powered && s.accessesDone && s.get .FLT_DUMP_busy 0 == 0) (fun s =>
      if t = 2 then s.enterRelay
      else { s with pwr := { s.pwr with entry := none } }.set .FLT_STATUS_pwr_state 0 1) s

/-- RESET kind 0 commands that wait for the end of the restart. -/
def State.completeResets (s : State) : State :=
  (s.host.fetched.filter (fun f => f.started && f.op == 0x64 && f.par 8 1 == 0)).foldl (fun s f => s.complete f .success 0) s

/-- The restart of the Field dies ends: Active, with the windows zero and waiting packets delivered (R435). -/
def State.endRestart (s : State) : State :=
  let s := if s.power = .relay then s.afterEvent .relay else s
  let s := { s with time := { s.time with reload := some s.time.tick } }
  let s := if s.pwr.asked then s.bump .FLT_RESETS_field_resets 0 1 else s
  let s := { s.set .FLT_STATUS_pwr_state 0 0 with pwr := PowerCtl.reset }
  (s.unpark.completeResets).newReport 4 0 0 0 (s.get .PLN_STATUS_state 0)

/-- FIELD_RESET_COMPLETE: of a field reset, or of a Relay exit. -/
def execFieldResetComplete (s : State) : Host.Outcome State Fault Refusal :=
  occurs (s.hubUp && (s.power = .fieldReset || (s.power = .relay && s.pwr.restarting))) State.endRestart s

/-! ### RESET (R364) -/

/-- RESET kind 0, or a kind that no rule gives. -/
def resetField (f : Fetched) (s : State) : State :=
  if f.par 8 1 ≠ 0 then s.complete f .paramInvalid 8
  else
    match s.fieldResetRequest with
    | (true, _) => (s.start f none).fieldResetRequest.2
    | (false, s) => s.complete f .state s.stateResult

/-- Does a fetched command carry RESET kind 1? -/
def State.resetKindOne (s : State) (q : QueueIx) (cid : Cid) : Bool :=
  match s.command? q.val cid.toNat with
  | none => false
  | some f => f.par 8 1 == 1

def execResetField (q : QueueIx) (cid : Cid) (s : State) : Host.Outcome State Fault Refusal :=
  if s.resetKindOne q cid then occurs false id s else hostCommand 0x64 q cid resetField s

/-- A package reset is to start after so many beats, unless one is already to start sooner. -/
def State.packageResetIn (s : State) (cause beats : Nat) : State :=
  match s.pkgReset with
  | some x => if x.due ≤ s.time.tick + beats then s else { s with pkgReset := some ⟨cause, s.time.tick + beats⟩ }
  | none => { s with pkgReset := some ⟨cause, s.time.tick + beats⟩ }

/-- RESET kind 1: the completion, and a package reset 1 ms later (25,000 beats). -/
def execResetPackage (q : QueueIx) (cid : Cid) (s : State) : Host.Outcome State Fault Refusal :=
  if s.resetKindOne q cid then hostCommand 0x64 q cid (fun f s => (s.complete f .success 0).packageResetIn 2 25000) s
  else occurs false id s

/-! ### Package and cold reset (R433, R436, R438) -/

/-- What a package or cold reset leaves: flash, fuses, the queue, and the registers that survive. A package reset leaves PERST# at
its level; at a power-up the board holds it low (R29, R30). Both tiers and the scratchpads are undefined; the secure scratch and the windows are zero; a new nonce is drawn. -/
def State.restart (s : State) (e : Ev) : State :=
  let (n, s) := s.lostSpads.draw
  let s := { State.reset with
    pending := s.pending, out := s.out, perst := s.perst && e ≠ Ev.cold, fused := s.fused, free := s.free, deviceId := s.deviceId
    regs := if e = Ev.cold then [] else regsAfter e s.regs
    tier1 := s.tier1.fill ⟨0, 32 * t1Units, n⟩, tier2 := s.tier2.fill ⟨0, 32 * t2Units, n⟩, spad := s.spad
    mgmt := { Mgmt.reset with images := s.mgmt.images, dirs := s.mgmt.dirs, copies := s.mgmt.copies
                              summaries := s.mgmt.summaries } }
  s.drawNonce

/-- COLD_RESET: the power stage comes on again (R25, R433). -/
def execColdReset (s : State) : Host.Outcome State Fault Refusal :=
  occurs (!s.powered) (fun s => s.restart .cold) s

/-- UNDERVOLTAGE: the module stops without a dump (R32). -/
def execUndervoltage (s : State) : Host.Outcome State Fault Refusal :=
  occurs s.powered (fun s => { s with powered := false, pcie := false }) s

/-- PACKAGE_RESET: the reset asked for starts. The standby oscillator stays in use where REFCLK_POD is missing. -/
def packageReset (x : PkgReset) (s : State) : State :=
  let lost := s.time.standby
  let tick := s.time.tick
  let trip := s.tripTick
  let s := s.restart .package
  let s := { s with time := { s.time with standby := lost, tick := tick }, tripTick := trip
                    tel := { s.tel with since := tick } }
  (s.set .FLT_LAST_RESET_cause 0 x.cause).bump .FLT_RESETS_package_resets 0 1

def execPackageReset (s : State) : Host.Outcome State Fault Refusal :=
  match s.pkgReset with
  | none => occurs false id s
  | some x => occurs (s.powered && !s.tripped && decide (x.due ≤ s.time.tick)) (packageReset x) s

/-- PERST# low for 1 µs: PCIe is held in reset. A low level that began after hub ready starts a package reset; one from before
belongs to the reset under way. -/
def perstAssert (s : State) : State :=
  let low := { s with perst := false, pcie := false }
  if s.hubUp then low.packageResetIn 1 0 else low

/-- PERST_ASSERT (R24). -/
def execPerstAssert (s : State) : Host.Outcome State Fault Refusal := occurs s.perst perstAssert s

/-- PERST_RELEASE: PCIe trains once the hub is ready (R24, R30). -/
def execPerstRelease (s : State) : Host.Outcome State Fault Refusal :=
  occurs (!s.perst) (fun s => { s with perst := true, pcie := s.hubUp && s.pkgReset.isNone }) s

end Sys2Proof.Machine
end

