-- ==== Sys2Proof/Machine/Dump.lean ====
section
/-! DEFINITION. The fatal dump, the flash summary and their parts (R452 to R457). -/

namespace Sys2Proof.Machine

/-! ### Register images (R455) -/

/-- One register's 8-byte record, read through the side path, which neither clears nor latches (R452). -/
def State.regRecord (s : State) (o : Nat × Reg × Nat) : List Byte := toLE 4 o.1 ++ toLE 4 (s.regValue o.2.1 o.2.2)

/-- Put an entry at its place by offset. -/
def byOffset (o : Nat × Reg × Nat) : List (Nat × Reg × Nat) → List (Nat × Reg × Nat)
  | [] => [o]
  | p :: ps => if o.1 ≤ p.1 then o :: p :: ps else p :: byOffset o ps

/-- Every instance of the registers that pass a test, by BAR0 offset. -/
def instances (rs : List Reg) : List (Nat × Reg × Nat) :=
  (rs.flatMap (fun r => (List.range r.count).map (fun i => (r.offset i, r, i)))).foldr byOffset []

/-- A register image. -/
def State.regImage (s : State) (p : Reg → Bool) : List Byte :=
  (instances (regList.filter (fun r => r.info.bar == 0 && p r))).flatMap s.regRecord

/-- Is a register of BAR0 in the block of 64 KiB at `base` (R471)? -/
def inBlock (base : Nat) (r : Reg) : Bool := r.info.base / 2 ^ 16 * 2 ^ 16 == base

/-- The port registers of the BEAT_ block. -/
def portTime (r : Reg) : Bool := r = .BEAT_PORT_DELAY || r = .BEAT_PORT_SKEW

/-! ### Sections (R454) -/

/-- The rest list of section 0x0002. -/
def State.restBytes (s : State) : List Byte :=
  padTo 1024 (s.plan.rests.flatMap (fun e => toLE 8 e.i ++ toLE 1 e.d ++ zeros 7))

/-- Section 0x0003. -/
def State.regionBytes (s : State) : List Byte :=
  (List.range 576).flatMap (fun r => ([.BEAT_REG_FSET, .BEAT_REG_CYC, .BEAT_REG_SHORT, .BEAT_REG_FCST] : List Reg).flatMap
    (fun x => toLE 4 (s.regValue x r)))

/-- A tile's record of section 0x0004. -/
def State.tileRecord (s : State) (t : Nat) : List Byte :=
  toLE 1 (tileDie t) ++ toLE 1 (tileCol t) ++ toLE 1 (tileRow t) ++ zeros 1 ++ toLE 4 (s.regValue .TIL_STATUS t)
    ++ toLE 4 (s.regValue .TIL_HALT_REASON t) ++ toLE 4 (s.regValue .TIL_HALT_PC t) ++ toLE 4 (s.regValue .TIL_HALT_DETAIL t)
    ++ toLE 4 (s.regValue .TIL_HALT_BEAT_LO t) ++ toLE 4 (s.regValue .TIL_HALT_BEAT_HI t) ++ toLE 4 (s.regValue .TIL_TOKEN t)

def State.haltBeat (s : State) (t : Nat) : Nat :=
  s.get .TIL_HALT_BEAT_LO_beat_lo t + 2 ^ 32 * s.get .TIL_HALT_BEAT_HI_beat_hi t

/-- Put a tile at its place by halt beat; of equal beats the tile with the lower number goes first. -/
def State.byBeat (s : State) (t : Nat) : List Nat → List Nat
  | [] => [t]
  | u :: us => if s.haltBeat t ≤ s.haltBeat u then t :: u :: us else u :: State.byBeat s t us

/-- Tiles with a valid halt record, in halt-beat order. -/
def State.haltedTiles (s : State) : List Nat :=
  ((List.range 9216).filter (fun t => s.get .TIL_HALT_REASON_valid t = 1)).foldr s.byBeat []

/-- A tile's scratchpad with its secure window read as 0. -/
def State.spadBytes (s : State) (t : Nat) : List Byte :=
  let w := s.window (tileDie t)
  let m := s.flushTests.spad
  m.readBytes (2 ^ 20 * t) (32 * w.1) ++ zeros (32 * (w.2 - w.1))
    ++ m.readBytes (2 ^ 20 * t + 32 * w.2) (2 ^ 20 - 32 * w.2)

/-- A tile's part of section 0x0005. -/
def State.haltedBytes (s : State) (t : Nat) : List Byte :=
  padTo 4096 (toLE 1 (tileDie t) ++ toLE 1 (tileCol t) ++ toLE 1 (tileRow t) ++ toLE 1 (s.get .TIL_HALT_REASON_reason t)
    ++ zeros 4 ++ toLE 8 (s.haltBeat t)) ++ s.spadBytes t

/-- Rim seen-table entries. -/
def State.seenBytes (s : State) : List Byte :=
  s.router.seen.flatMap (fun e => e.2.flatMap (fun x =>
    toLE 2 x.origin ++ toLE 2 x.tollId ++ toLE 2 x.epoch ++ toLE 1 e.1 ++ zeros 1 ++ toLE 8 x.retire))

/-- The last 4,096 congestion records, oldest first; fewer where fewer have been numbered. -/
def State.congestionBytes (s : State) : List Byte :=
  let n := s.get .TEL_CONG_COUNT_written 0
  let k := min 4096 n
  (List.range k).flatMap (fun j => s.tierUnit 1 (hubAreaBase + (n - k + j) % 2 ^ 20))

/-- Register of section 0x0008 whose die was off or in reset at the entry. -/
def FaultPath.absent (x : FaultPath) (r : Reg) : Bool :=
  match r.info.held with
  | .field => x.fieldOff
  | .tc => x.tcOff
  | _ => false

/-- The sections of the dump, in the order of their types. `late` says that the dump is one that waited (R448). -/
def State.sections (s : State) : List (Nat × List Byte) :=
  let x := s.fault
  let n := s.free
  let field (l : List (Nat × List Byte)) : List (Nat × List Byte) := if x.fieldOff then [] else l
  [(0x0001, s.regImage (inBlock 0x30000)),
   (0x0002, s.regImage (fun r => (inBlock 0x70000 r || inBlock 0x50000 r) && !portTime r && r.info.held = .hub) ++ s.restBytes)]
  ++ field [(0x0003, s.regionBytes), (0x0004, (List.range 9216).flatMap s.tileRecord),
            (0x0005, (s.haltedTiles.take 64).flatMap s.haltedBytes)]
  ++ [(0x0006, s.regImage (fun r => inBlock 0xA0000 r || portTime r)),
      (0x0007, s.regImage (inBlock 0xB0000) ++ s.seenBytes),
      (0x0008, s.regImage (fun r => (inBlock 0xC0000 r || inBlock 0x80000 r || inBlock 0x90000 r) && !x.absent r)),
      (0x0009, s.regImage (fun r => inBlock 0 r || inBlock 0x10000 r || inBlock 0x20000 r)),
      (0x000A, s.regImage (inBlock 0x60000) ++ (List.range 1024).flatMap s.slotBytes),
      (0x000B, s.congestionBytes),
      (0x000C, (List.range (2 ^ 20)).map (Config.firmwareLog n)),
      (0x000D, s.mgmt.summaries.flatten)]

/-! ### Header and layout (R452 to R454) -/

def State.flags (s : State) (complete limited summaries : Bool) : Nat :=
  ofBool complete + 2 * ofBool s.fault.fieldOff + 4 * ofBool s.fault.thermal + 8 * ofBool limited + 16 * ofBool summaries

/-- The 128-byte dump header. -/
def State.dumpHeader (s : State) (flags count length : Nat) : List Byte :=
  withCrc (toLE 8 0x504D55444B42 ++ toLE 2 1 ++ toLE 2 s.deviceId ++ toLE 2 (s.get .FLT_FATAL_PLAN_epoch 0)
    ++ toLE 1 (s.get .FLT_FATAL_PLAN_plan_state 0) ++ toLE 1 flags ++ toLE 8 s.fused.serial
    ++ toLE 4 (s.get .FLT_FATAL_BEAT_LO_beat_lo 0) ++ toLE 4 (s.get .FLT_FATAL_BEAT_HI_beat_hi 0) ++ toLE 8 s.fault.planBeat
    ++ toLE 2 (s.get .FLT_FATAL_reason 0) ++ toLE 2 (s.get .FLT_FATAL_later_count 0) ++ toLE 4 (s.get .FLT_FATAL_DETAIL_detail 0)
    ++ toLE 4 (s.get .MGT_FW_VERSION_version 0) ++ toLE 4 count ++ toLE 8 length
    ++ padTo 32 ((s.fault.later.take 16).flatMap (toLE 2)) ++ toLE 1 (s.fused.lifeCycle)
    ++ toLE 1 (if s.fused.gradeB then 0x42 else 0x41) ++ zeros 26)

def up4k (n : Nat) : Nat := ceilDiv n 4096 * 4096

/-- Offsets of sections laid out from `off` on 4 KiB boundaries. -/
def layOut : Nat → List (Nat × List Byte) → List (Nat × Nat × List Byte)
  | _, [] => []
  | off, (t, b) :: r => (t, off, b) :: layOut (up4k (off + b.length)) r

/-- Bytes written to the dump area. -/
def State.dumpWrite (s : State) (off : Nat) (b : List Byte) : State :=
  { s.countRun 1 1 dumpAreaBase (ceilDiv b.length 32) with
    tier1 := s.tier1.writeBytes (32 * dumpAreaBase + off) b
    poison := s.poison.filter (fun e => decide (32 * e.1 + 32 ≤ 32 * dumpAreaBase + off)
             || decide (32 * dumpAreaBase + off + b.length ≤ 32 * e.1)) }

/-- Sections, then the directory, then the header: the bytes used and the state (R452). -/
def State.writeDump (s : State) (secs : List (Nat × List Byte)) (flags : Nat) : Nat × State :=
  let placed := layOut (up4k (128 + 16 * secs.length)) secs
  let length := placed.foldl (fun n x => max n (x.2.1 + x.2.2.length)) (128 + 16 * secs.length)
  let s := placed.foldl (fun s x => s.dumpWrite x.2.1 x.2.2) s
  let s := s.dumpWrite 128 (placed.flatMap (fun x => toLE 2 x.1 ++ zeros 2 ++ toLE 4 (crc32 x.2.2) ++ toLE 4 x.2.1
    ++ toLE 4 x.2.2.length))
  (length, s.dumpWrite 0 (s.dumpHeader flags secs.length length))

/-- FLT_DUMP after a complete dump. -/
def State.noteDump (s : State) (length : Nat) (summaries : Bool) : State :=
  let s := ((s.set .FLT_DUMP_valid 0 1).set .FLT_DUMP_busy 0 0).set .FLT_DUMP_pending 0 0
  ((s.set .FLT_DUMP_summary_only 0 (ofBool summaries)).set .FLT_DUMP_field_absent 0 (ofBool s.fault.fieldOff)).set
    .FLT_DUMP_length 0 (min (ceilDiv length 65536) 0x1FFF)

/-- The flash summary record (R457). -/
def State.summary (s : State) : List Byte :=
  withCrc (s.dumpHeader (s.flags false false false) 0 0
    ++ padTo 2048 ((s.haltedTiles.take 64).flatMap s.tileRecord)
    ++ padTo 1916 ((s.regImage (fun r => inBlock 0x30000 r || r = .PLN_STATUS)) ++ s.regImage (fun r => r = .LNK_DOWN)))

/-- The dump of summaries alone that firmware writes after a package or cold reset (R457). -/
def State.summaryDump (s : State) : State :=
  let good := (s.mgmt.summaries.filter crcOk).take 64
  let (n, s) := s.writeDump [(0x000D, good.flatten)] (s.flags true false true)
  s.noteDump n true

end Sys2Proof.Machine
end

