-- ==== Sys2Proof/Machine/LinkTraining.lean ====
section
/-! DEFINITION. Training of a link port, its registers and its locks (R289 to R297, R315, R316). -/

namespace Sys2Proof.Machine

/-! ### Identify blocks (R290, R291) -/

/-- Generations a LNK_CFG.gen_max allows: bit 0 TLK-2, bit 1 TLK-3. -/
def gensOf (genMax : Nat) : Nat := if genMax = 0 then 1 else 3

/-- Widths from min to max: bit 0 x2, bit 1 x4, bit 2 x8. -/
def widthsOf (lo hi : Nat) : Nat := ((List.range 3).map (fun w => if lo ≤ w ∧ w ≤ hi then 2 ^ w else 0)).sum

/-- The identify block a port sends on a lane; `mask` is 0 but in a lane report. -/
def State.identBlock (s : State) (p lane mask : Nat) : List Byte :=
  let x := s.port p
  withCrc (toLE 8 s.fused.serial ++ toLE 2 s.deviceId ++ toLE 1 p ++ toLE 1 lane ++ toLE 1 (gensOf x.cfgGen)
    ++ toLE 1 (widthsOf x.cfgMin x.cfgMax) ++ toLE 1 x.cfgMode ++ toLE 1 x.cfgVcs
    ++ toLE 1 (s.get .LNK_DOWN_last_cause p) ++ toLE 1 mask ++ zeros 42)

/-- The block on every lane. -/
def State.sendIdent (s : State) (p mask : Nat) : State :=
  s.emitAll ((List.range 8).map (fun l => .block p (s.identBlock p l mask)))

def parseIdent (b : List Byte) : Ident :=
  { serial := leAt b 0 8, device := leAt b 8 2, port := leAt b 10 1, gens := leAt b 12 1, widths := leAt b 13 1
    mode := leAt b 14 1, vcs := leAt b 15 1 }

/-- Training fails with a code: the port is DOWN (R289, R293). -/
def State.trainFail (s : State) (p code : Nat) : State :=
  ((s.set .LNK_TRAIN_fail_code p code).enter p .down).modPort p (fun x => { x with failed := true })

/-- LINK_DETECT: signal on two lanes. LNK_CFG takes effect (R316) and identify blocks go out. -/
def linkDetect (p : Nat) (s : State) : State :=
  let s := (s.modPort p (fun x =>
    { x with cfgGen := s.get .LNK_CFG_gen_max p, cfgMax := s.get .LNK_CFG_max_width p, cfgMin := s.get .LNK_CFG_min_width p
             cfgMode := s.get .LNK_CFG_mode p, cfgVcs := s.get .LNK_CFG_vc_count p, cfgRetx := s.get .LNK_CFG_retx_mode p
             peer := none, ownMask := none, peerMask := none, fellBack := false }))
  (((s.bump .LNK_TRAIN_attempts p 1).set .LNK_TRAIN_tlk2_fallback p 0).enter p .identify).sendIdent p 0

def execLinkDetect (p : PortIx) (s : State) : Host.Outcome State Fault Refusal :=
  occurs (s.powered && s.train p.val = .detect) (linkDetect p.val) s

/-- Do both ends allow TLK-2 (R292)? -/
def bothTlk2 (x : LinkPort) : Bool :=
  match x.peer with
  | none => false
  | some i => bit (gensOf x.cfgGen) 0 && bit i.gens 0

/-- EQUALIZE and LANE_CHECK are repeated once at TLK-2 where both ends allow it, or training fails (R292). -/
def State.tlk2OrFail (s : State) (p code : Nat) : State :=
  let x := s.port p
  if s.get .LNK_STATUS_gen p = 1 && bothTlk2 x && !x.fellBack then
    (((s.set .LNK_STATUS_gen p 0).set .LNK_TRAIN_tlk2_fallback p 1).modPort p
      (fun x => { x with fellBack := true, ownMask := none, peerMask := none })).enter p .equalize
  else s.trainFail p code

/-- The width and lanes that two pass masks and two width sets give (R292): the widest both allow. -/
def chooseWidth (widths mask : Nat) : Option (Nat × Nat) :=
  let has (m : Nat) : Bool := mask &&& m == m
  if bit widths 2 && has 0xFF then some (2, 0xFF)
  else if bit widths 1 && has 0x0F then some (1, 0x0F)
  else if bit widths 1 && has 0xF0 then some (1, 0xF0)
  else if bit widths 0 && has 0x03 then some (0, 0x03)
  else if bit widths 0 && has 0x0C then some (0, 0x0C)
  else if bit widths 0 && has 0x30 then some (0, 0x30)
  else if bit widths 0 && has 0xC0 then some (0, 0xC0)
  else none

/-- With both lane reports known, the width is chosen and FEC_ALIGN starts, or LANE_CHECK yields no width. -/
def State.laneDecision (s : State) (p : Nat) : State :=
  let x := s.port p
  match x.peer, x.ownMask, x.peerMask with
  | some i, some a, some b =>
    match chooseWidth (widthsOf x.cfgMin x.cfgMax &&& i.widths) (a &&& b) with
    | some (w, lanes) => ((s.set .LNK_STATUS_width p w).set .LNK_STATUS_lanes p lanes).enter p .fecAlign
    | none => s.tlk2OrFail p 5
  | _, _, _ => s

/-- A good identify block in IDENTIFY (R291, R292). -/
def State.identify (s : State) (p : Nat) (b : List Byte) : State :=
  let i := parseIdent b
  let x := s.port p
  let s := (((s.set .LNK_PEER_LO_peer_serial_lo p (i.serial % 2 ^ 32)).set .LNK_PEER_HI_peer_serial_hi p
    (i.serial / 2 ^ 32)).set .LNK_PEER_INFO_peer_id p i.device).set .LNK_PEER_INFO_peer_port p i.port
  if i.serial = s.fused.serial then (s.trainFail p 2).modPort p (fun x => { x with stuck := true })
  else
    let gens := gensOf x.cfgGen &&& i.gens
    if gens &&& 3 = 0 then s.trainFail p 3
    else
      let mode := if i.mode = 1 ∨ x.cfgMode = 1 then 1 else 0
      let s := (((s.set .LNK_STATUS_gen p (ofBool (bit gens 1))).set .LNK_STATUS_mode p mode).set .LNK_STATUS_vc_count p
        (min i.vcs x.cfgVcs)).set .LNK_STATUS_leader p (ofBool (decide (s.fused.serial > i.serial)))
      (s.modPort p (fun x => { x with peer := some i })).enter p .equalize

/-- IDENTIFY_BLOCK: a received block of 64 bytes; in LANE_CHECK it is the neighbour's lane report. -/
def identifyBlock (p : Nat) (b : List Byte) (s : State) : State :=
  if !crcOk b then s
  else
    match s.train p with
    | .identify => s.identify p b
    | .laneCheck => (s.modPort p (fun x => { x with peerMask := some (leAt b 17 1) })).laneDecision p
    | _ => s

def execIdentifyBlock (p : PortIx) (b : Vector Byte 64) (s : State) : Host.Outcome State Fault Refusal :=
  occurs s.powered (identifyBlock p.val b.toList) s

/-- EQUALIZE_DONE: equalisation ended, well or not. -/
def equalizeDone (p : Nat) (ok : Bool) (s : State) : State := if ok then s.enter p .laneCheck else s.tlk2OrFail p 4

def execEqualizeDone (p : PortIx) (ok : Bool) (s : State) : Host.Outcome State Fault Refusal :=
  occurs (s.powered && s.train p.val = .equalize) (equalizeDone p.val ok) s

/-- LANE_CHECK_DONE: the lanes that passed; the lane report goes out. -/
def laneCheckDone (p mask : Nat) (s : State) : State :=
  ((s.modPort p (fun x => { x with ownMask := some mask })).sendIdent p mask).laneDecision p

def execLaneCheckDone (p : PortIx) (mask : BitVec 8) (s : State) : Host.Outcome State Fault Refusal :=
  occurs (s.powered && s.train p.val = .laneCheck) (laneCheckDone p.val mask.toNat) s

/-- FEC_ALIGN_DONE: flits begin with a codeword (DESIGN CHOICE, log entry 42), and their run of 16 begins. -/
def fecAlignDone (p : Nat) (s : State) : State :=
  (s.modPort p (fun x => { x with rxBits := 0, rxBad := false, rxGood := 0 })).enter p .flitSync

def execFecAlignDone (p : PortIx) (s : State) : Host.Outcome State Fault Refusal :=
  occurs (s.powered && s.train p.val = .fecAlign) (fecAlignDone p.val) s

/-- FLIT_SYNC_DONE: the neighbour, and this port, have received 16 good flits in a row; ACTIVE with the counters of R290 and the receiver's mode of R304. -/
def flitSyncDone (p : Nat) (s : State) : State :=
  let x := s.port p
  let y : LinkPort :=
    { x with urgent := [], normal := [], repeats := [], closing := none, nxt := 0, una := 0, kept := [], pass := none, resend := []
             passes := 0, passUna := none, unaAt := s.time.tick, capAt := none, hold := [], overflow := false, sent := []
             peerFreed := [], zeroAt := [], exp := 0, accepted := false, nakOpen := false, reorder := [], gaps := []
             fallback := none, freed := [], freedSent := [], freedAt := none, rxPackets := [], lockLost := [] }
  (((s.setPort p y).bump .LNK_TRAIN_ups p 1).enter p .active).chooseMode p

def execFlitSyncDone (p : PortIx) (s : State) : Host.Outcome State Fault Refusal :=
  occurs (s.powered && s.train p.val = .flitSync && decide ((s.port p.val).rxGood ≥ 16)) (flitSyncDone p.val) s

/-- The timer of a training state, in beats, and its failure code (R289, R293). -/
def trainTimer : Train → Option (Nat × Nat)
  | .identify => some (250000, 1)
  | .equalize => some (1250000, 4)
  | .laneCheck => some (50000, 5)
  | .fecAlign => some (25000, 6)
  | .flitSync => some (25000, 7)
  | _ => none

/-- TRAINING_TIMEOUT: the timer of the state the port is in has expired. -/
def trainingTimeout (p code : Nat) (s : State) : State :=
  if s.train p = .equalize then s.tlk2OrFail p code else s.trainFail p code

def execTrainingTimeout (p : PortIx) (s : State) : Host.Outcome State Fault Refusal :=
  match trainTimer (s.train p.val) with
  | none => occurs false id s
  | some (t, code) => occurs (s.powered && decide ((s.port p.val).entered + t ≤ s.time.tick)) (trainingTimeout p.val code) s

/-- The idle hold of a port, in beats: 2 µs after link-down, 10 ms after a failed training (R293). -/
def idleHold (x : LinkPort) : Nat := if x.failed then 250000 else 50

/-- IDLE_HOLD_EXPIRY: with auto_retrain the port enters DETECT; a port that met its own serial stays DOWN (R291). -/
def execIdleHoldExpiry (p : PortIx) (s : State) : Host.Outcome State Fault Refusal :=
  let x := s.port p.val
  occurs (s.powered && s.train p.val = .down && !x.stuck && s.get .LNK_CTRL_auto_retrain p.val = 1
    && decide (x.entered + idleHold x ≤ s.time.tick)) (fun s => s.detect p.val) s

/-! ### Registers of the port -/

/-- LNK_CTRL_RESET: a write of LNK_CTRL[p] with reset = 1. -/
def execLnkCtrlReset (p : PortIx) (v : Word) (s : State) : Host.Outcome State Fault Refusal :=
  occurs (s.hubUp && bit v.toNat 1) (fun s => s.lnkCtrlWrite p.val v.toNat) s

/-- LNK_CTRL_ENABLE: a write of LNK_CTRL[p] that changes enable. -/
def execLnkCtrlEnable (p : PortIx) (v : Word) (s : State) : Host.Outcome State Fault Refusal :=
  occurs (s.hubUp && bits v.toNat 0 0 ≠ s.get .LNK_CTRL_enable p.val) (fun s => s.lnkCtrlWrite p.val v.toNat) s

/-- CFG_LOCK: a write of LNK_CTRL[p] with cfg_lock = 1. -/
def execCfgLock (p : PortIx) (v : Word) (s : State) : Host.Outcome State Fault Refusal :=
  occurs (s.hubUp && bit v.toNat 3) (fun s => s.lnkCtrlWrite p.val v.toNat) s

/-- LNK_CFG_WRITE: fields outside their range are stored as the nearer end (R316). -/
def lnkCfgWrite (p v : Nat) (s : State) : State :=
  if s.get .LNK_CTRL_cfg_lock p = 1 then s
  else
    let hi := min (bits v 2 1) 2
    (((((s.set .LNK_CFG_gen_max p (bits v 0 0)).set .LNK_CFG_max_width p hi).set .LNK_CFG_min_width p
      (min (bits v 4 3) hi)).set .LNK_CFG_mode p (bits v 5 5)).set .LNK_CFG_vc_count p (max 2 (min 8 (bits v 9 6)))).set
      .LNK_CFG_retx_mode p (min (bits v 11 10) 2)

def execLnkCfgWrite (p : PortIx) (v : Word) (s : State) : Host.Outcome State Fault Refusal :=
  occurs s.hubUp (lnkCfgWrite p.val v.toNat) s

/-- LNK_TIMER_WRITE: each field from 1 to 255 (R316). -/
def lnkTimerWrite (p v : Nat) (s : State) : State :=
  if s.get .LNK_CTRL_cfg_lock p = 1 then s
  else
    (((s.set .LNK_TIMER_replay_to p (max 1 (bits v 7 0))).set .LNK_TIMER_replay_limit p (max 1 (bits v 15 8))).set
      .LNK_TIMER_lock_loss p (max 1 (bits v 23 16))).set .LNK_TIMER_credit_to p (max 1 (bits v 31 24))

def execLnkTimerWrite (p : PortIx) (v : Word) (s : State) : Host.Outcome State Fault Refusal :=
  occurs s.hubUp (lnkTimerWrite p.val v.toNat) s

/-- LNK_PEER_LO_READ. -/
def lnkPeerLoRead (a : Agent) (p : Nat) (s : State) : State :=
  (s.latch a .LNK_PEER_HI p (s.get .LNK_PEER_HI_peer_serial_hi p)).emit (.readData (s.get .LNK_PEER_LO_peer_serial_lo p))

def execLnkPeerLoRead (a : Agent) (p : PortIx) (s : State) : Host.Outcome State Fault Refusal :=
  occurs (s.agentUp a) (lnkPeerLoRead a p.val) s

/-! ### Lane lock and eye margin (R294, R316) -/

/-- Is a lane in use on an ACTIVE port? -/
def State.laneUsed (s : State) (p lane : Nat) : Bool := s.train p = .active && bit (s.get .LNK_STATUS_lanes p) lane

/-- LANE_LOCK_LOST: the lock_loss timer of the lane starts. -/
def execLaneLockLost (p : PortIx) (lane : Fin 8) (s : State) : Host.Outcome State Fault Refusal :=
  occurs (s.powered && s.laneUsed p.val lane.val && ((s.port p.val).lockLost.find? lane.val).isNone)
    (fun s => s.modPort p.val (fun x => { x with lockLost := x.lockLost.put lane.val s.time.tick })) s

/-- LANE_LOCK_REGAINED: the timer is cancelled. -/
def execLaneLockRegained (p : PortIx) (lane : Fin 8) (s : State) : Host.Outcome State Fault Refusal :=
  occurs (s.powered && s.laneUsed p.val lane.val)
    (fun s => s.modPort p.val (fun x => { x with lockLost := x.lockLost.erase lane.val })) s

/-- Some lane has been out of lock for lock_loss, in 0.1 µs (R293, R294). -/
def State.lockExpired (s : State) (p : Nat) : Bool :=
  (s.port p).lockLost.any (fun e => decide (40 * (s.time.tick - e.2) ≥ 100 * s.get .LNK_TIMER_lock_loss p))

/-- LOCK_LOSS. -/
def execLockLoss (p : PortIx) (s : State) : Host.Outcome State Fault Refusal :=
  occurs (s.powered && s.train p.val = .active && s.lockExpired p.val) (fun s => s.linkDown p.val .lockLoss) s

/-- EYE_MARGIN_UPDATE: the worst lane's measured margin. -/
def eyeMargin (p margin lane : Nat) (s : State) : State :=
  ((s.set .LNK_EYE_margin p margin).set .LNK_EYE_worst_lane p lane).set .LNK_EYE_margin_min p
    (min margin (s.get .LNK_EYE_margin_min p))

def execEyeMarginUpdate (p : PortIx) (margin : BitVec 8) (lane : Fin 8) (s : State) : Host.Outcome State Fault Refusal :=
  occurs (s.powered && s.train p.val = .active) (eyeMargin p.val margin.toNat lane.val) s

end Sys2Proof.Machine
end

