-- ==== Sys2Proof/Machine/Boot.lean ====
section
/-! DEFINITION. Boot and hub ready, pins, temperatures, the power stage, tamper and the wipe (R24 to R38, R408 to R416, R428 to
R430). -/

namespace Sys2Proof.Machine

/-! ### Images (R407, R408) -/

/-- An image passes: signature, CRC, and a security version of at least the fused minimum. -/
def imagePasses (min : Nat) (x : ImageCheck) : Bool := x.signed && x.crc && decide (min ≤ x.security.toNat)

/-- The directory copy in force: of those that pass their CRC, the one with the higher sequence number. -/
def directory : List Directory → Option Directory
  | [] => none
  | d :: ds =>
    match directory ds with
    | none => if d.valid then some d else none
    | some e => if d.valid && decide (e.seq ≤ d.seq) then some d else some e

/-- The image that starts, and whether it is the fallback; none leads to ROM recovery. -/
def bootImage (ds : List Directory) (pass : Nat → Bool) : Option (Nat × Bool) :=
  match directory ds with
  | none => none
  | some d => if pass d.preferred then some (d.preferred, false)
    else if pass (1 - d.preferred) then some (1 - d.preferred, true) else none

/-! ### Configuration blocks (R411 to R413) -/

/-- The header bytes that the CRC covers, and the CRC's check. -/
def CfgBlock.head (b : CfgBlock) : List Byte := toLE 4 0x46434B42 ++ toLE 2 b.id ++ toLE 2 b.version ++ toLE 4 b.body.length
def CfgBlock.passes (b : CfgBlock) : Bool := crc32 (b.head ++ b.body) == b.crc

/-- A copy's block of an ID. -/
def copyBlock (copy : List CfgBlock) (id : Nat) : Option CfgBlock := copy.find? (fun b => b.id == id)

/-- A block written into a copy: in place of the one with its ID, or behind the others. -/
def putBlock (b : CfgBlock) : List CfgBlock → List CfgBlock
  | [] => [b]
  | c :: cs => if c.id = b.id then b :: cs else c :: putBlock b cs

/-- What firmware decides of an ID: used, with the copy that differs if one does; refused; or in no copy. -/
inductive CfgResult where
  | used (b : CfgBlock) (odd : Option Nat)
  | refused
  | absent
deriving DecidableEq, Repr

/-- Two copies agree on an ID. -/
def agree (x y : Option CfgBlock) : Bool :=
  match x, y with
  | some a, some b => a.passes && b.passes && a == b
  | _, _ => false

def decideBlock (copies : List (List CfgBlock)) (id : Nat) : CfgResult :=
  let x := copyBlock (copies.getD 0 []) id
  let y := copyBlock (copies.getD 1 []) id
  let z := copyBlock (copies.getD 2 []) id
  match x, y, z with
  | none, none, none => .absent
  | _, _, _ =>
    if agree x y && agree x z then (match x with | some b => .used b none | none => .absent)
    else if agree x y then (match x with | some b => .used b (some 2) | none => .absent)
    else if agree x z then (match x with | some b => .used b (some 1) | none => .absent)
    else if agree y z then (match y with | some b => .used b (some 0) | none => .absent)
    else .refused

/-- A copy's block rewritten. -/
def State.putCopy (s : State) (copy : Nat) (b : CfgBlock) : State :=
  { s with mgmt := { s.mgmt with copies := s.mgmt.copies.set copy (putBlock b (s.mgmt.copies.getD copy [])) } }

/-- One ID at boot: in force, with its odd copy repaired; or refused, which puts the module in safe state. -/
def State.loadBlock (s : State) (id : Nat) : State :=
  match decideBlock s.mgmt.copies id with
  | .absent => s
  | .used b odd =>
    let s := { s with cfg := Table.set [] s.cfg id b.body }
    match odd with
    | none => s
    | some c => (s.putCopy c b).bump .MGT_CFG_STATUS_repaired 0 1
  | .refused =>
    let s := if s.get .MGT_STATUS_safe 0 = 1 then s else s.set .MGT_CFG_STATUS_refused_id 0 id
    (s.set .MGT_STATUS_safe 0 1).bump .MGT_CFG_STATUS_refused_count 0 1

/-- Block 0x0004 in force gives every port its initial LNK_CFG and LNK_TIMER (R412). -/
def State.linkDefaults (s : State) : State :=
  match s.cfg.find? 4 with
  | none => s
  | some b => s.each (List.range 36) (fun s p =>
      lnkTimerWrite p (Config.linkTimer b p).toNat (lnkCfgWrite p (Config.linkCfg b p).toNat s))

/-- The five blocks, then safe state's warning with the first refused ID (R413). -/
def State.loadConfig (s : State) : State :=
  let s := ([1, 2, 3, 4, 5] : List Nat).foldl State.loadBlock s
  let s := s.linkDefaults
  if s.get .MGT_STATUS_safe 0 = 1 then s.warnWith .cfgSafe (s.get .MGT_CFG_STATUS_refused_id 0) else s

/-! ### HUB_READY (R29 to R31, R408, R409, R457) -/

/-- ROM recovery (R409). -/
def State.romRecovery (s : State) : State := (s.set .MGT_STATUS_rom_recovery 0 1).set .HST_FEAT_SUP_sup 0 1

/-- Firmware of an image runs: configuration, and the dump of summaries. -/
def State.firmware (s : State) (image : Nat) (fallback : Bool) (version : Nat) : State :=
  let s := ((s.set .MGT_BOOT_image 0 image).set .MGT_BOOT_fallback 0 (ofBool fallback)).set .MGT_FW_VERSION_version 0 version
  s.loadConfig.summaryDump

/-- Ports leave DISABLED, fenced (R31). -/
def State.openPorts (s : State) : State :=
  s.each (List.range 36) (fun s p => if s.get .LNK_CTRL_enable p = 1 then s.detect p else s)

def hubReady (b : BootIn) (s : State) : State :=
  let check (i : Nat) : ImageCheck := if i = 0 then b.image0 else b.image1
  let s := { s with deviceId := b.straps.toNat }
  let s := s.set .MGT_BOOT_preferred 0 (match directory s.mgmt.dirs with | none => 0 | some d => d.preferred)
  let s := match bootImage s.mgmt.dirs (fun i => imagePasses s.fused.minSecurity (check i)) with
    | none => s.romRecovery
    | some (i, f) => s.firmware i f (check i).version.toNat
  let s := (s.set .MGT_BOOT_boot_ms 0 b.ms.toNat).openPorts
  { s.set .HST_STATUS_hub_ready 0 1 with readyTick := some s.time.tick, pcie := s.perst }

/-- HUB_READY. -/
def execHubReady (b : BootIn) (s : State) : Host.Outcome State Fault Refusal :=
  occurs (s.powered && s.get .HST_STATUS_hub_ready 0 = 0) (hubReady b) s

/-! ### Pins (R24, R27, R428) -/

/-- ATTENTION: to the driver and to the management plane. -/
def execAttention (s : State) : Host.Outcome State Fault Refusal :=
  occurs s.hubUp (fun s => (s.event 5 []).emit (.firmware 24 0)) s

/-- A wipe starts, or is merged into the one in progress (R429, R430): each running die closes its window (R250). -/
def State.startWipe (s : State) (cause : Nat) : State :=
  if s.get .SEC_STATUS_wipe_busy 0 = 1 then s
  else
    let s := (s.set .SEC_STATUS_wipe_busy 0 1).set .SEC_STATUS_last_cause 0 cause
    if s.fieldUp then
      s.each (List.range 8) (fun s d => (s.set .FLD_SPAD_SECURE_open d 0).set .FLD_SPAD_SECURE_wipe_busy d 1)
    else s

/-- The wipe ends: secure scratch and the windows of running dies are zero, with the shadow registers that held a unit of one; a die that is off or in reset has its window
zeroed at its restart. -/
def wipe (s : State) : State :=
  let rs := if s.fieldUp then s.windows else []
  let s := s.flushTests
  let s := { s with spad := zeroRanges s.spad rs, mgmt := { s.mgmt with secure := s.mgmt.secure.zero 0 (2 ^ 18) }
                    spadErr := s.spadErr.filter (fun e => !rs.any (fun r => decide (r.1 ≤ 32 * e.1) && decide (32 * e.1 < r.2))) }
  let s := s.refillTests.each (List.range 8) (fun s d => s.set .FLD_SPAD_SECURE_wipe_busy d 0)
  (s.set .SEC_STATUS_wipe_busy 0 0).bump .SEC_STATUS_wipe_count 0 1

/-- WIPE. -/
def execWipe (s : State) : Host.Outcome State Fault Refusal :=
  occurs (s.powered && s.get .SEC_STATUS_wipe_busy 0 = 1) wipe s

/-- TAMPER# has been high for 1 µs, at least 10 ms (250,000 beats) after hub ready. -/
def State.tamperSeen (s : State) : Bool :=
  match s.readyTick with
  | none => false
  | some t => decide (t + 250000 ≤ s.time.tick)

def tamper (s : State) : State :=
  let s := ((s.set .SEC_TAMPER_level 0 1).set .SEC_TAMPER_seen 0 1).bump .SEC_TAMPER_count 0 1
  (s.warn .tamper).startWipe 1

/-- TAMPER. -/
def execTamper (s : State) : Host.Outcome State Fault Refusal :=
  occurs (s.hubUp && s.tamperSeen && s.get .SEC_TAMPER_level 0 = 0) tamper s

/-- TAMPER_DEASSERT. -/
def execTamperDeassert (s : State) : Host.Outcome State Fault Refusal :=
  occurs (s.powered && s.get .SEC_TAMPER_level 0 = 1) (fun s => s.set .SEC_TAMPER_level 0 0) s

/-! ### Temperature and power stage (R38, R416) -/

/-- Warning and trip points in °C by class of R445: 0 Field die, 1 HBM4 stack, 2 Rim die, 3 tier-2 controller, 4 hub,
5 LPDDR5X package, 6 coolant inlet. -/
def tempLimits (cls : Nat) : Nat × Nat :=
  match cls with
  | 1 => (90, 100) | 5 => (90, 100) | 6 => (42, 50) | _ => (95, 110)

/-- The warning is pending; before hub ready no firmware runs that could write its event and its report. -/
def thermalWarning (s : State) : State :=
  if s.hubUp then s.warn .thermal else s.set .FLT_WARN_pending 0 (s.get .FLT_WARN_pending 0 ||| 2 ^ Warn.thermal.bit)

/-- THERMAL_WARNING: a sensor has reached its warning point. -/
def execThermalWarning (cls : Fin 7) (temp : BitVec 8) (s : State) : Host.Outcome State Fault Refusal :=
  occurs (s.powered && decide ((tempLimits cls).1 ≤ temp.toNat)) thermalWarning s

/-- The detail of THERMAL_TRIP (R445). -/
def thermalDetail (cls unit' sensor temp : Nat) : Nat := cls + 2 ^ 4 * unit' + 2 ^ 8 * sensor + 2 ^ 16 * temp

def thermalTrip (cls unit' sensor temp : Nat) (s : State) : State :=
  let hot := cls = 4 ∨ (cls = 1 ∧ unit' = 0)
  { s.raiseFatal .thermalTrip (thermalDetail cls unit' sensor temp) with
    tripped := true, tripTick := some (s.tripTick.getD s.time.tick)
    fault := { s.fault with tooHot := s.fault.tooHot || decide hot } }

/-- THERMAL_TRIP: a sensor has reached its trip point (R38: not "below" it). -/
def execThermalTrip (cls : Fin 7) (unit' : Fin 16) (sensor : Fin 128) (temp : BitVec 8) (s : State) :
    Host.Outcome State Fault Refusal :=
  occurs (s.powered && decide ((tempLimits cls).2 ≤ temp.toNat)) (thermalTrip cls unit' sensor temp.toNat) s

/-- 50 ms (1,250,000 beats) have passed since the trip. -/
def State.switchOffDue (s : State) : Bool :=
  match s.tripTick with
  | none => false
  | some t => decide (t + 1250000 ≤ s.time.tick)

/-- POWER_STAGE_OFF. -/
def execPowerStageOff (s : State) : Host.Outcome State Fault Refusal :=
  occurs (s.powered && s.switchOffDue) (fun s => { s with powered := false, pcie := false, tripTick := none }) s

def pmbusPoll (vin iin temp : Nat) (fault : Bool) (s : State) : State :=
  let s := ((s.set .MGT_PMBUS_vin_q 0 vin).set .MGT_PMBUS_iin_q 0 iin).set .MGT_PMBUS_stage_temp 0 temp
  let s := if fault then (s.set .MGT_PMBUS_stage_fault 0 1).warn .powerStage else s
  if vin < 192 then (s.set .MGT_PMBUS_vin_low 0 1).warn .powerStage else s

/-- PMBUS_POLL: voltage and current in quarters of a unit, temperature in °C, and whether STATUS_WORD has a fault bit. -/
def execPmbusPoll (vin iin temp : BitVec 8) (fault : Bool) (s : State) : Host.Outcome State Fault Refusal :=
  occurs s.hubUp (pmbusPoll vin.toNat iin.toNat temp.toNat fault) s

end Sys2Proof.Machine
end

