-- ==== Sys2Proof/Machine/Downbeat.lean ====
section
/-! DEFINITION. DOWNBEAT: what the engines, regulators and controllers do at a machine downbeat (R6, R47, R49, R50, R57, R64,
R68, R69, R70, R101, R104, R272, R387). -/

namespace Sys2Proof.Machine

/-! ### Region clocks: the measure just ended (R53, R57, R70) -/

/-- A count of local tile cycles is short at a set frequency code and a derate n: below (1 - n/64) of 512 + 8 * code. -/
def shortCount (count code n : Nat) : Bool := decide (64 * count < (64 - n) * (512 + 8 * code))

/-- Current measured against the code applied: more than 1.0 A, 40 steps, apart. 0xFF is no forecast. -/
def overTol (applied measured : Nat) : Bool := applied ≠ 0xFF && decide (((applied : Int) - measured).natAbs > 40)

/-- A region's counts of the measure just ended: smallest counts outside rest, short measures where the tiles were not gated either
(R53). -/
def State.endMeasure (s : State) (r cycles current : Nat) : State :=
  let s := (s.set .BEAT_REG_CYC_last_cycles r cycles).set .BEAT_REG_FCST_measured_code r (min current 0xFE)
  let s := if overTol (Table.get 0xFF s.time.applied r) current then s.bump .BEAT_REG_FCST_over_tol r 1 else s
  if s.planState = .resting then s
  else
    let s := s.set .BEAT_REG_CYC_min_cycles r (min cycles (s.get .BEAT_REG_CYC_min_cycles r))
    if s.power = .active && shortCount cycles (s.get .BEAT_REG_FSET_fset_code r) (s.get .BEAT_DERATE_derate_n 0) then
      s.bump .BEAT_REG_SHORT_short_measures r 1 else s

def State.endMeasures (s : State) (x : DownIn) : State :=
  let s := s.each (List.range 576) (fun s r => s.endMeasure r (Table.get 0 s.time.cycles r) (x.current.toList.getD r 0).toNat)
  { s with time := { s.time with cycles := [] } }

/-! ### Memory controllers (R272) -/

/-- The fields of a controller's OCC and OCC_MAX registers: a stack's, or a tier-2 controller's. -/
def occFields (tier2 : Bool) : RegField × RegField × RegField × RegField × RegField :=
  if tier2 then (.TTM_OCC_plan_units, .TTM_OCC_busy_q, .TTM_OCC_other_k, .TTM_OCC_MAX_plan_units_max, .TTM_OCC_MAX_busy_q_max)
  else (.HBM_OCC_plan_units, .HBM_OCC_busy_q, .HBM_OCC_other_k, .HBM_OCC_MAX_plan_units_max, .HBM_OCC_MAX_busy_q_max)

/-- Units that host and firmware traffic moves in a measure at most, in a state in which plan accesses may run (R257, R265). -/
def otherShare (tier2 : Bool) : Nat := if tier2 then 1024 else 7680

/-- Units moved for other agents in the measure just ended: those above the share move in the next. -/
def State.otherMoved (s : State) (u : Nat) : Nat :=
  let n := Table.get 0 s.moved (2 * u + 1)
  if s.planExecutes then min n (otherShare (decide (8 ≤ u))) else n

/-- Controller `u`, 0 to 7 the stacks, 8 and 9 the tier-2 controllers, latches its figures. -/
def State.latchOcc (s : State) (u busy : Nat) : State :=
  let (plan, bq, other, planMax, busyMax) := occFields (decide (8 ≤ u))
  let i := if u < 8 then u else u - 8
  let units := min (Table.get 0 s.moved (2 * u)) 0xFFFF
  let s := ((s.set plan i units).set bq i busy).set other i (min (s.otherMoved u / 64) 0xFF)
  let s := (s.peak planMax i units).peak busyMax i busy
  { s with tel := { s.tel with busy := Table.set 0 s.tel.busy u (max busy (Table.get 0 s.tel.busy u)) } }

/-- Items in a controller's scoreboard: tier-2 accesses whose first unit it serves (R266). -/
def State.items (s : State) (t : Nat) : Nat := (s.tier2Items (fun a => t2Controller (a.taddrs.headD 0) == t)).length

/-- The items of a controller, and those late in the measure just ended. -/
def State.latchItems (s : State) (t : Nat) : State :=
  let n := s.items t
  let late := Table.get 0 s.lateNow t
  let s := (s.set .TTM_ITEMS_outstanding t n).peak .TTM_ITEMS_MAX_outstanding_max t n
  if late = 0 then s else (s.bump .TTM_LATE_late_items t late).bump .TTM_LATE_late_measures t 1

def State.latchTiers (s : State) (x : DownIn) : State :=
  let left := (List.range 10).map (fun u => (2 * u + 1, Table.get 0 s.moved (2 * u + 1) - s.otherMoved u))
  let s := s.each (List.range 10) (fun s u => s.latchOcc u (x.busy.toList.getD u 0).toNat)
  let s := s.each [0, 1] State.latchItems
  { s with moved := left.filter (fun e => e.2 ≠ 0), lateNow := [] }

/-! ### Time (R47, R49, R50) -/

/-- A measure of ACQUIRE ends: 16 good ones in a row lead to LOCKED. -/
def State.acquireMeasure (s : State) : State :=
  if s.timeState = .acquire then
    let n := if s.time.goodNow then s.time.goodRun + 1 else 0
    let s := { s with time := { s.time with goodRun := n, goodNow := false } }
    if n ≥ 16 then s.setTime .locked (s.time.parentDepth + 1) else s
  else s

/-- The measure that begins takes at most 500 ps of the offset left. -/
def State.slew (s : State) : State :=
  let step := clampInt (-1024000) 1024000 s.time.slewLeft
  { s with time := { s.time with slewLeft := s.time.slewLeft - step, slewNow := step } }

/-- The payload of the time word that port `p` sends now, at fraction `frac` (R47). hold_ps is cut to whole ps and to its 32 bits
(DESIGN CHOICE, log entry 14: the rule gives the field no rounding and no overflow). -/
def State.timePayload (s : State) (p frac : Nat) : List Byte :=
  let e := s.time.echo.find? p
  let state := s.timeState.code + 4 * s.get .BEAT_CTRL_time_root 0 + 8 * s.get .BEAT_STATUS_depth 0
  let (valid, eb, ef, hold) : Nat × Nat × Nat × Nat :=
    match e with
    | none => (0, 0, 0, 0)
    | some x => (1, x.txBeat, x.txFrac, ofSigned 32 ((timeUnits s.time.beat frac - x.rx) / 2048))
  toLE 8 s.time.beat ++ toLE 2 frac ++ toLE 2 s.deviceId ++ toLE 8 eb ++ toLE 2 ef ++ toLE 1 (state + 128 * valid) ++ zeros 1
    ++ toLE 4 hold ++ zeros 4

/-- Every trained port sends one time word, fenced or not. -/
def State.sendTimeWords (s : State) (x : DownIn) : State :=
  s.each (List.range 36) (fun s p => if s.train p = .active then s.sendCtrl p 1 [] (s.timePayload p (x.frac.toList.getD p 0).toNat) else s)

/-! ### Forecast and frequency (R54, R64, R68, R69) -/

/-- The code of region `r` in the row of plan measure `m`; 0xFF where the image has no row for the die. -/
def State.rowCode (s : State) (m r : Nat) : Nat :=
  match s.plan.plan with
  | none => 0xFF
  | some x =>
    match x.forecast.find? (r / 72) with
    | none => 0xFF
    | some base => (s.tier1.read (base + 72 * (x.imageBeat (16 * m) / 16) + r % 72)).toNat

/-- A region applies a code. -/
def State.applyCode (s : State) (r code : Nat) : State :=
  { s with time := { s.time with applied := Table.set 0xFF s.time.applied r code } }

/-- The row of a die is late: its regions apply 0xFF for that measure. -/
def lateRow (late : List DieIx) (r : Nat) : Bool := late.any (fun d => d.val == r / 72)

/-- What region `r` applies in plan measure `m`. -/
def State.codeOf (s : State) (late : List DieIx) (m r : Nat) : Nat := if lateRow late r then 0xFF else s.rowCode m r

/-- Frequency changes of plan measure `m` of the plan. -/
def State.changesAt (s : State) (m : Nat) : List FreqEntry :=
  match s.plan.plan with
  | none => []
  | some x => x.freq.filter (fun e => e.measure == x.imageBeat (16 * m) / 16)

/-- The region a change names, and whether its rating allows the code. -/
def FreqEntry.at' (e : FreqEntry) : Nat := 72 * e.die + e.region
def State.rated (s : State) (e : FreqEntry) : Bool := decide (e.code ≤ 80) && decide (e.code ≤ s.fused.fmaxOf e.at')

/-- The rows of plan measure `m` are applied, but in a region that stops to change its frequency, whose code applies from its
restart; those of `m + 1` are armed; a late row counts in every region of its die. -/
def State.applyRows (s : State) (late : List DieIx) (m : Nat) : State :=
  let stop := ((s.changesAt m).filter s.rated).map FreqEntry.at'
  s.each (List.range 576) (fun s r =>
    let s := if stop.contains r then s else s.applyCode r (s.codeOf late m r)
    let s := if lateRow late r then s.bump .BEAT_REG_FCST_late_rows r 1 else s
    s.set .BEAT_REG_FCST_armed_code r (s.rowCode (m + 1) r))

/-- A frequency change at plan measure `m`: the region's clock stops to retune, or the code is above its rating. -/
def State.changeFreq (s : State) (late : List DieIx) (m : Nat) (e : FreqEntry) : State :=
  let r := e.at'
  if s.rated e then
    { s with time := { s.time with
      stops := s.time.stops.filter (fun x => x.region ≠ r) ++ [RegionStop.mk r e.code s.time.tick (s.codeOf late m r)]
      handed := s.time.handed.erase r } }
  else s.raiseFatal .freqAboveRating (e.die + 8 * e.region + 2 ^ 16 * e.code)

/-- The codes of the next plan measure's changes are handed to their regions (R64). -/
def State.handCodes (s : State) (m : Nat) : State :=
  let es := (s.changesAt (m + 1)).filter s.rated
  { s with time := { s.time with handed := es.foldl (fun t e => t.put e.at' e.code) s.time.handed } }

/-! ### The hub's plan (R83, R101, R104) -/

/-- The stop downbeat: rests still listed are discarded, staged commands complete with STATE, no slot is sent any more. With no row
left to execute every region applies 0xFF, as with no plan loaded (DESIGN CHOICE, log entry 35: R69 names no code for a stopped
plan). -/
def State.stopPlan (s : State) : State :=
  let s := s.movePlan .stopping
  let s := { s with plan := { s.plan with rests := [], stopTick := some s.time.tick }
                    router := { s.router with rests := [], stopTick := some s.time.tick } }
  (s.applyAll 0xFF).failStaged

/-- A rest measure begins: the regions apply 0x00; in the last one the row of the measure that resumes is armed. -/
def State.restMeasure (s : State) : State :=
  let s := ((s.movePlan .resting).bump .PLN_REST_TOTAL_rest_measures 0 1).applyAll 0
  let s := if isRest s.plan.rests (s.time.beat + 16) then s
    else s.each (List.range 576) (fun s r => s.set .BEAT_REG_FCST_armed_code r (s.rowCode (s.plan.beat / 16) r))
  { s with tel := { s.tel with rested := true } }

/-- Plan measure `m` executes. -/
def State.planMeasure (s : State) (late : List DieIx) (m : Nat) : State :=
  let s := (s.movePlan .running).applyRows late m
  let s := ((s.changesAt m).foldl (fun s e => s.changeFreq late m e) s).handCodes m
  s.slotDownbeat m

/-- The count of R107 at the downbeat of plan measure `m`, the stop downbeat among them: the words for `m - 2` have come. -/
def State.countAt (s : State) (m : Nat) : State := if m < 2 then s else s.countLast (m - 2)

def State.hubDownbeat (s : State) (late : List DieIx) : State :=
  if s.planState = .running || s.planState = .resting then
    let m := s.plan.beat / 16
    if isRest s.plan.rests s.time.beat then s.restMeasure
    else
      let s := s.countAt m
      match s.stopMeasure with
      | some n => if n ≤ m then s.stopPlan else s.planMeasure late m
      | none => s.planMeasure late m
  else s

/-! ### The router plan alone (R343) -/

/-- A forwarding-only router rests, resumes and stops by its own rest list. -/
def State.rimDownbeat (s : State) : State :=
  let r := s.get .RTE_PLAN_rstate 0
  if s.get .RTE_PLAN_forwarding_only 0 = 1 && (r = 3 || r = 4) then
    if isRest s.router.rests s.time.beat then
      { s with tel := { s.tel with rested := true } }.set .RTE_PLAN_rstate 0 4
    else
      match s.router.stopMeasure with
      | some n =>
        if 16 * n ≤ s.router.planBeat then
          { s with router := { s.router with rests := [], stopTick := some s.time.tick } }.set .RTE_PLAN_rstate 0 5
        else s.set .RTE_PLAN_rstate 0 3
      | none => s.set .RTE_PLAN_rstate 0 3
  else s

/-! ### The command -/

/-- What a module record's flag [4] collects (R463). -/
def State.notePower (s : State) : State :=
  { s with tel := { s.tel with lowPower := s.tel.lowPower || s.power = .hush || s.power = .relay } }

/-- Dies that came back have their beat copies again when they say so, or after 4 measures (R44). -/
def State.reloadCopies (s : State) (done : Bool) : State :=
  match s.time.reload with
  | none => s
  | some t => if done || decide (t + 64 ≤ s.time.tick) then { s with time := { s.time with reload := none } } else s

def downbeat (x : DownIn) (s : State) : State :=
  let s := s.reloadCopies x.reloaded
  let s := if s.fieldUp && s.time.reload.isNone then (s.endMeasures x).latchTiers x else s
  let s := ((s.acquireMeasure.slew.sendTimeWords x).hubDownbeat x.lateRows).rimDownbeat.notePower
  { s with time := { s.time with lastDown := some s.time.beat } }

/-- DOWNBEAT: once at each machine downbeat; at the start beat of an ARMED plan after START_BEAT. -/
def execDownbeat (x : DownIn) (s : State) : Host.Outcome State Fault Refusal :=
  occurs (s.powered && isDownbeat s.time.beat && s.time.lastDown != some s.time.beat
    && !(s.planState = .armed && s.time.beat == s.startBeat) && !s.rimArmed) (downbeat x) s

end Sys2Proof.Machine
end

