-- ==== Sys2Proof/Machine/Host.lean ====
section
/-! DEFINITION. The host interface (chapter 11): negotiation, doorbells, fetching, the commands of this chapter, DMA, the BAR2
window, ingest windows and the PCIe link. Plan, serving, fault and life-cycle commands stand with their own chapters. -/

namespace Sys2Proof.Machine

/-! ### Negotiation (R351 to R353) -/

/-- The bits a feature bit requires (R351). -/
def featureRequires (b : Nat) : List Nat :=
  match b with
  | 0 => [] | 1 => [0] | 2 => [1] | 3 => [1] | 4 => [1] | 5 => [0] | 6 => [2] | 7 => [1] | 8 => [1] | 9 => [0] | 10 => [0]
  | 11 => [10] | 12 => [1, 10] | 13 => [2, 10] | 14 => [1] | 15 => [1] | 16 => [0] | 17 => [16] | 18 => [0] | 19 => [2]
  | 20 => [0] | 21 => [0] | _ => []

/-- A 128-bit feature word from its four registers. -/
def State.word4 (s : State) (f : RegField) : Nat :=
  s.get f 0 + 2 ^ 32 * s.get f 1 + 2 ^ 64 * s.get f 2 + 2 ^ 96 * s.get f 3

/-- Does a bit of the request offend? -/
def badBit (sup req b : Nat) : Bool :=
  if b = 0 then !bit req 0
  else bit req b && (!bit sup b || (featureRequires b).any (fun r => !bit req r))

/-- The lowest offending bit, or 0x80 for the admin queue; none for a request to accept. -/
def State.negotiation (s : State) : Option Nat :=
  let req := s.word4 .HST_FEAT_REQ_req
  let sup := s.word4 .HST_FEAT_SUP_sup
  match (List.range 128).find? (badBit sup req) with
  | some b => some b
  | none =>
    if ringSize (s.get .HST_AQ_CFG_n 0) && s.get .HST_AQ_SQ_LO_sq_base 0 % 4096 == 0 && s.get .HST_AQ_CQ_LO_cq_base 0 % 4096 == 0
    then none else some 0x80

def interfaceEnable (s : State) : State :=
  match s.negotiation with
  | some b => (s.set .HST_STATUS_neg_fail 0 1).set .HST_STATUS_neg_bit 0 b
  | none =>
    let s := s.each (List.range 4) (fun s i => s.set .HST_FEAT_EN_en i (s.get .HST_FEAT_REQ_req i))
    let s := (s.set .HST_CTRL_enable 0 1).set .HST_STATUS_running 0 1
    let q := newQueue (s.get .HST_AQ_SQ_LO_sq_base 0 + 2 ^ 32 * s.get .HST_AQ_SQ_HI_sq_base 0)
      (s.get .HST_AQ_CQ_LO_cq_base 0 + 2 ^ 32 * s.get .HST_AQ_CQ_HI_cq_base 0) (s.get .HST_AQ_CFG_n 0) (s.get .HST_AQ_CFG_vector 0)
    { s with host := { s.host with queues := [(0, q)], lastQ := 63, evtRead := 0, evtWritten := 0, evtSeq := 0, evtLost := 0 } }

/-- INTERFACE_ENABLE: a write of HST_CTRL with enable = 1. -/
def execInterfaceEnable (s : State) : Host.Outcome State Fault Refusal :=
  occurs (s.hostUp && s.get .HST_CTRL_enable 0 = 0) interfaceEnable s

/-- The queues go: commands not started are dropped, started ones run on without a completion; a QUEUE_DELETE is at its end, since its
pair is gone (R353). -/
def State.closeQueues (s : State) : State :=
  { s with host := { s.host with
      queues := []
      fetched := (s.host.fetched.filter (fun f => f.started && f.op != 0x04)).map (fun f => { f with mute := true }) } }

/-- INTERFACE_DISABLE: a write of HST_CTRL with enable = 0. -/
def execInterfaceDisable (s : State) : Host.Outcome State Fault Refusal :=
  occurs (s.hostUp && s.get .HST_CTRL_enable 0 = 1)
    (fun s => ((s.set .HST_CTRL_enable 0 0).set .HST_STATUS_running 0 0).closeQueues) s

/-! ### Doorbells (R355, R377) -/

def State.badDoorbell (s : State) : State := s.bump .HST_ERR_bad_doorbell 0 1

def sqDoorbell (q v : Nat) (s : State) : State :=
  match s.queue? q with
  | none => s.badDoorbell
  | some x => if v ≥ x.n then s.badDoorbell else s.setQueue q { x with sqTail := v }

def execSqDoorbell (q : QueueIx) (v : Word) (s : State) : Host.Outcome State Fault Refusal :=
  occurs s.hostUp (sqDoorbell q.val v.toNat) s

def cqDoorbell (q v : Nat) (s : State) : State :=
  match s.queue? q with
  | none => s.badDoorbell
  | some x =>
    let taken := (v + x.n - x.cqHead) % x.n
    if v ≥ x.n ∨ taken > x.waiting then s.badDoorbell
    else s.setQueue q { x with cqHead := v, waiting := x.waiting - taken }

def execCqDoorbell (q : QueueIx) (v : Word) (s : State) : Host.Outcome State Fault Refusal :=
  occurs s.hostUp (cqDoorbell q.val v.toNat) s

/-- EVENT_RING_DOORBELL: the index after the last record consumed. Once room has returned, EVENTS_LOST goes first. -/
def eventRingDoorbell (v : Nat) (s : State) : State :=
  let n := s.get .HST_EVT_CFG_entries 0
  if !s.evtRing || decide (v ≥ n) then s.badDoorbell
  else
    let taken := (v + n - s.host.evtRead % n) % n
    if s.host.evtRead + taken > s.host.evtWritten then s.badDoorbell
    else
      let s := { s with host := { s.host with evtRead := s.host.evtRead + taken } }
      if s.feature 16 then s.flushLost else s

def execEventRingDoorbell (v : Word) (s : State) : Host.Outcome State Fault Refusal :=
  occurs s.hostUp (eventRingDoorbell v.toNat) s

/-! ### COMMAND_FETCH (R356, R358) -/

/-- A queue holds a whole command, whose first slot gives its format, with a CQ entry free. -/
def Queue.holds (x : Queue) (fmt : Nat) : Bool :=
  decide (packetSlots fmt ≤ x.available) && x.hasEntry && x.deleting.isNone

/-- The queues that come before `q` in the order of R356: queue 0, then those after the one served last. -/
def beforeInTurn (lastQ q : Nat) : List Nat :=
  if q = 0 then [] else 0 :: ((List.range 63).map (fun i => (lastQ + i) % 63 + 1)).takeWhile (fun r => r != q)

/-- May queue `q` be served now? `heads` are the formats in the slots at the queues' heads. -/
def State.turn (s : State) (q : Nat) (heads : List (Fin 4)) : Bool :=
  (beforeInTurn s.host.lastQ q).all (fun r =>
    match s.queue? r with | none => true | some x => !(decide (0 < x.available) && x.holds (heads.getD r 0).val))

/-- The window of a stream that is open, by the ingest record. -/
def State.openWindow (s : State) (stream : Nat) : Nat :=
  match s.host.ingest.find? (fun i => i.stream == stream) with
  | none => 0
  | some i => i.window

def commandFetch (q : Nat) (x : Queue) (packet : List Byte) (s : State) : State :=
  let head := (x.sqHead + packetSlots (leAt packet 1 1 % 4)) % x.n
  let f : Fetched := { q := q, cid := leAt packet 2 2, packet := packet, sqHead := head, started := false, mute := false
                       done := none, window := s.openWindow (leAt packet 20 1) }
  let s := s.setQueue q { x with sqHead := head, reserved := x.reserved + 1 }
  let s := { s with host := { s.host with fetched := s.host.fetched ++ [f], lastQ := if q = 0 then s.host.lastQ else q } }
  match s.headerCode q packet with
  | none => s
  | some (c, r) => s.complete f c r

/-- COMMAND_FETCH: a command whose slots all lie between head and tail, with a CQ entry reserved for it. `slots` is what host memory
holds in the four slots from the head on, of which the packet takes as many as its format says; `heads` is the format that it holds at
every queue's head. -/
def execCommandFetch (q : QueueIx) (slots : Vector Byte 128) (heads : Vector (Fin 4) 64) (s : State) :
    Host.Outcome State Fault Refusal :=
  let fmt := leAt slots.toList 1 1 % 4
  match s.queue? q.val with
  | none => occurs false id s
  | some x =>
    occurs (s.fetching && s.turn q.val heads.toList && decide (0 < x.available) && x.holds fmt)
      (commandFetch q.val x (slots.toList.take (32 * packetSlots fmt))) s

/-! ### Commands of this chapter (R362 to R365) -/

/-- NOP. -/
def execNopCommand (q : QueueIx) (cid : Cid) (s : State) : Host.Outcome State Fault Refusal :=
  hostCommand 0x00 q cid (fun f s => s.complete f .success 0) s

/-- Good rows of a die as a mask. -/
def State.rowMask (s : State) (d : Nat) : Nat := ((s.goodRows d).map (fun r => 2 ^ r)).sum

/-- The boot ROM's version: immutable, fused into the part, and given nowhere (log entry 31). -/
def State.identity (s : State) (rom : Nat) : List Byte :=
  padTo 4096 (toLE 8 s.fused.serial ++ toLE 2 s.deviceId ++ toLE 1 (if s.fused.gradeB then 0x42 else 0x41)
    ++ toLE 1 s.virtualRows ++ toLE 4 (s.get .MGT_FW_VERSION_version 0) ++ toLE 4 rom ++ toLE 1 (s.get .MGT_BOOT_image 0)
    ++ toLE 1 (s.fused.lifeCycle) ++ toLE 1 (s.get .FLT_STATUS_pwr_state 0) ++ toLE 1 (s.get .PLN_STATUS_state 0)
    ++ toLE 16 (s.word4 .HST_FEAT_SUP_sup) ++ toLE 16 (s.word4 .HST_FEAT_EN_en) ++ zeros 8
    ++ (List.range 8).flatMap (fun d => toLE 8 (s.rowMask d)))

/-- IDENTIFY. -/
def execIdentify (q : QueueIx) (cid : Cid) (s : State) : Host.Outcome State Fault Refusal :=
  hostCommand 0x01 q cid (fun f s => (s.toHost (f.par 8 8) (s.identity (Config.romVersion.toNat))).complete f .success 0) s

/-- FEATURE_GET. -/
def featureGet (f : Fetched) (s : State) : State :=
  let sel := f.par 8 1
  let w (r : RegField) (k : Nat) : Nat := s.get r k + 2 ^ 32 * s.get r (k + 1)
  match sel with
  | 0 => s.complete f .success (w .HST_FEAT_EN_en 0)
  | 1 => s.complete f .success (w .HST_FEAT_EN_en 2)
  | 2 => s.complete f .success (w .HST_FEAT_SUP_sup 0)
  | 3 => s.complete f .success (w .HST_FEAT_SUP_sup 2)
  | _ => s.complete f .paramInvalid 8

def execFeatureGet (q : QueueIx) (cid : Cid) (s : State) : Host.Outcome State Fault Refusal :=
  hostCommand 0x02 q cid featureGet s

/-- QUEUE_CREATE (R363): its parameters in packet-byte order. -/
def queueCreate (f : Fetched) (s : State) : State :=
  let pair := f.par 8 1
  let vector := f.par 9 1
  let n := f.par 10 2
  if pair = 0 ∨ pair > 63 ∨ (s.queue? pair).isSome then s.complete f .paramInvalid 8
  else if vector > 63 then s.complete f .paramInvalid 9
  else if !ringSize n then s.complete f .paramInvalid 10
  else if f.par 16 8 % 4096 ≠ 0 then s.complete f .paramInvalid 16
  else if f.par 24 8 % 4096 ≠ 0 then s.complete f .paramInvalid 24
  else (s.setQueue pair (newQueue (f.par 16 8) (f.par 24 8) n vector)).complete f .success 0

def execQueueCreate (q : QueueIx) (cid : Cid) (s : State) : Host.Outcome State Fault Refusal :=
  hostCommand 0x03 q cid queueCreate s

/-- QUEUE_DELETE (R363): unstarted commands of the pair complete with ABORTED, started ones run to their end, then the pair
goes. -/
def queueDelete (f : Fetched) (s : State) : State :=
  let pair := f.par 8 1
  match s.queue? pair with
  | none => s.complete f .paramInvalid 8
  | some x =>
    if pair = 0 ∨ x.deleting.isSome then s.complete f .paramInvalid 8
    else
      let gone := s.host.fetched.filter (fun g => g.q == pair && !g.started)
      let s := (s.start f none).setQueue pair { x with deleting := some gone.length }
      (gone.foldl (fun s g => s.completeRaw g Cc.aborted.code 0) s).reap pair

def execQueueDelete (q : QueueIx) (cid : Cid) (s : State) : Host.Outcome State Fault Refusal :=
  hostCommand 0x04 q cid queueDelete s

/-- FENCE (R368): it starts only once the commands it covers have completed. -/
def execFence (q : QueueIx) (cid : Cid) (s : State) : Host.Outcome State Fault Refusal :=
  hostCommand 0x22 q cid (fun f s => s.complete f .success 0) s

/-- A register's value, from its fields. -/
def State.regWord (s : State) (r : Reg) (i : Nat) : Nat := (r.fields.map (fun f => s.get f i * 2 ^ f.lo)).sum

/-- PORT_STATUS. -/
def portStatus (f : Fetched) (s : State) : State :=
  let p := f.par 8 1
  if p > 35 then s.complete f .paramInvalid 8
  else s.complete f .success (s.regWord .LNK_STATUS p + 2 ^ 32 * s.get .LNK_DOWN_last_cause p
    + 2 ^ 40 * s.get .LNK_TRAIN_fail_code p + 2 ^ 48 * s.get .LNK_PEER_INFO_peer_id p)

def execPortStatus (q : QueueIx) (cid : Cid) (s : State) : Host.Outcome State Fault Refusal :=
  hostCommand 0x30 q cid portStatus s

/-- A port command that R297 refuses, as the write of LNK_CTRL it acts as. -/
def State.portReject (s : State) (f : Fetched) (p : Nat) : State :=
  (s.set .LNK_STATUS_reset_reject p 1).complete f .portRejected p

/-- PORT_RESET: as a write of LNK_CTRL.reset. -/
def portResetCmd (f : Fetched) (s : State) : State :=
  let p := f.par 8 1
  if p > 35 then s.complete f .paramInvalid 8
  else if s.portRefused p then s.portReject f p
  else (s.portReset p).complete f .success 0

def execPortReset (q : QueueIx) (cid : Cid) (s : State) : Host.Outcome State Fault Refusal :=
  hostCommand 0x31 q cid portResetCmd s

/-- PORT_ENABLE: as a write of LNK_CTRL.enable. -/
def portEnableCmd (f : Fetched) (s : State) : State :=
  let p := f.par 8 1
  if p > 35 then s.complete f .paramInvalid 8
  else if f.par 9 1 % 2 = 1 then
    ((if s.get .LNK_CTRL_enable p = 1 then s else s.portEnable p)).complete f .success 0
  else if s.get .LNK_CTRL_enable p = 0 then s.complete f .success 0
  else if s.portRefused p then s.portReject f p
  else (s.portDisable p).complete f .success 0

def execPortEnable (q : QueueIx) (cid : Cid) (s : State) : Host.Outcome State Fault Refusal :=
  hostCommand 0x32 q cid portEnableCmd s

/-- HALT_CLEAR (R363): R141 on every tile of the masked dies. -/
def haltClearCmd (f : Fetched) (s : State) : State :=
  let dies := onesOf 8 (f.par 8 1)
  if s.planRuns && !dies.isEmpty then s.complete f .state s.stateResult
  else
    let ts := dies.flatMap (fun d => (List.range 1152).map (fun i => 1152 * d + i))
    let n := (ts.filter (fun t => s.get .TIL_HALT_REASON_valid t = 1)).length
    (s.each ts (fun s t => s.haltClear t)).complete f .success n

def execHaltClear (q : QueueIx) (cid : Cid) (s : State) : Host.Outcome State Fault Refusal :=
  hostCommand 0x63 q cid haltClearCmd s

/-! ### DMA (R366 to R369) -/

/-- A DMA command's parts: host address and units, the first from the header, the others from its fragments (R367). -/
def dmaParts (f : Fetched) : List (Nat × Nat) :=
  (f.par 8 8, f.par 24 4) ::
    (if f.fmt = 2 then
      ((List.range 4).map (fun i => (f.par (64 + 16 * i) 8, f.par (72 + 16 * i) 4))).takeWhile (fun p => p.2 ≠ 0) else [])

/-- The device address of a DMA command: 35 bits in the tiers, 29 in the scratchpads (R367). -/
def Fetched.dev (f : Fetched) : Nat := if f.par 28 1 = 2 then bits (f.par 16 8) 28 0 else bits (f.par 16 8) 34 0

/-- Units that a command's total may not exceed: those of R367, and in a scratchpad those up to its end. -/
def dmaRoom (f : Fetched) : Nat := if f.par 28 1 = 2 then min 0x04000000 (0x8000 - bits f.dev 14 0) else 0x04000000

/-- The first bad part of a command's fragments in packet-byte order, `i` parts and `sum` units before it: a host address that is not
4-byte aligned, or units that carry the total past the room. -/
def badFragment (room : Nat) : Nat → Nat → List (Nat × Nat) → Option Nat
  | _, _, [] => none
  | i, sum, p :: ps =>
    if p.1 % 4 ≠ 0 then some (64 + 16 * i) else if sum + p.2 > room then some (72 + 16 * i) else badFragment room (i + 1) (sum + p.2) ps

/-- Tier-space size in units. -/
def spaceUnits (space : Nat) : Nat := if space = 0 then t1Units else t2Units

/-- The first bad parameter of a DMA command's first 64 bytes, in packet-byte order (R361, R367). -/
def State.badDma (s : State) (f : Fetched) : Option Nat :=
  if f.par 8 8 % 4 ≠ 0 then some 8
  else if f.par 28 1 = 2 ∧ (s.virtualRow (bits f.dev 28 26) (bits f.dev 25 20)).isNone then some 16
  else if f.par 24 4 = 0 ∨ f.par 24 4 > dmaRoom f then some 24
  else if f.par 28 1 > 2 then some 28 else none

/-- What a DMA command is refused for before any unit moves (R351, R361, R367, R379). -/
def State.dmaRefusal (s : State) (f : Fetched) : Option (Cc × Nat) :=
  let parts := dmaParts f
  let space := f.par 28 1
  let total := (parts.map Prod.snd).sum
  match s.badDma f with
  | some b => some (.paramInvalid, b)
  | none =>
    if space = 1 ∧ !s.feature 8 then some (.featureDisabled, 8)
    else if space = 2 ∧ !s.feature 7 then some (.featureDisabled, 7)
    else if parts.length > 1 ∧ !s.feature 6 then some (.featureDisabled, 6)
    else
      match badFragment (dmaRoom f) 0 (f.par 24 4) (parts.drop 1) with
      | some b => some (.paramInvalid, b)
      | none =>
        if !s.tiersServe then some (.powerState, 0)
        else if space < 2 ∧ f.dev + total > spaceUnits space then some (.addressRange, max f.dev (spaceUnits space))
        else none

/-- May the host write a tier-1 unit (R256)? -/
def State.hostWrites (s : State) (a : Nat) : Bool :=
  decide (a < planAreaBase) || (decide (a ≤ planAreaTop) && s.planState = .idle)

/-- The tile of a scratchpad dev field. -/
def devTile (dev : Nat) : Nat := tileAt (bits dev 28 26) (bits dev 19 15) (bits dev 25 20)

/-- Units of a run written to a space, in address order; those the rights of R256 withhold are discarded. -/
def State.dmaPut (s : State) (space dev : Nat) (data : List Byte) : Nat → State
  | 0 => s
  | n + 1 =>
    let s := State.dmaPut s space dev data n
    let b := slice data (32 * n) 32
    if space = 0 then (if s.hostWrites (dev + n) then (s.putTier 1 (dev + n) b).countMoved 1 1 (dev + n) else s)
    else if space = 1 then (s.putTier 2 (dev + n) b).countMoved 2 1 (dev + n)
    else s.putUnit (devTile dev) (bits dev 14 0 + n) b

/-- The first unit of a run that the rights of R256 withhold. -/
def State.firstDenied (s : State) (dev total : Nat) : Option Nat :=
  if dev + total ≤ planAreaBase then none
  else
    let a := max dev planAreaBase
    if s.planState = .idle then (if dev + total ≤ planAreaTop + 1 then none else some (max a (planAreaTop + 1))) else some a

/-- The first unit of a scratchpad run in the die's secure window (R249). -/
def State.windowHit (s : State) (d u n : Nat) : Option Nat :=
  let base := 256 * s.get .FLD_SPAD_SECURE_base_blk d
  let size := 256 * s.get .FLD_SPAD_SECURE_size_blk d
  if size = 0 ∨ u + n ≤ base ∨ base + size ≤ u then none else some (max u base)

/-- Units that the VRUN in flight on a tile writes through port A. -/
def Tile.portAUnits (x : Tile) : List Nat :=
  match x.vrun, x.voice with
  | some v, some img => ((rangeMicros img v.start v.count).filter Micro.writesSpad).flatMap (fun m =>
      (descOf m.word).units.take (unitsPerPass m.dstFmt * v.passes))
  | _, _ => []

/-- Units of a request, by their number, whose write to tile `t` meets a port-A write (R242, R243): those the environment names, where
the tile writes the unit through port A. -/
def State.dmaMeets (s : State) (t u n : Nat) (meets : List Nat) : List Nat :=
  let us := (s.tile t).portAUnits
  (meets.filter (fun k => decide (k < n) && us.contains (u + k))).eraseDups

/-- A DMA_WRITE to a scratchpad: the units moved, and the code and result it will complete with (R243, R249). -/
def State.dmaSpad (s : State) (dev total n : Nat) (data : List Byte) (e : DmaIn) : State × (Cc × Nat) :=
  let die := bits dev 28 26
  match s.windowHit die (bits dev 14 0) total with
  | some u => (s.bump .FLD_DMA_STAT_secure_denied die 1, (.spadSecureDenied, u))
  | none =>
    let met := s.dmaMeets (devTile dev) (bits dev 14 0) n e.meets
    let s := s.bump .FLD_DMA_STAT_conflict_retries die met.length
    if e.again && !met.isEmpty then
      let k := met.foldl max 0
      ((s.dmaPut 2 dev data k).bump .FLD_DMA_STAT_conflict_fail die 1, (.spadWriteConflict, k))
    else
      (s.dmaPut 2 dev data n, match e.fail with | some (a, _) => (.hostAccess, a.toNat) | none => (.success, 0))

/-- A DMA_WRITE's units moved, and the code and result it will complete with. A request that a failed read of host memory ends loses
no unit after it to the rights of R256. -/
def State.dmaWriteRun (s : State) (f : Fetched) (e : DmaIn) : State × (Cc × Nat) :=
  let space := f.par 28 1
  let dev := f.dev
  let total := ((dmaParts f).map Prod.snd).sum
  let data := padTo (32 * total) e.data
  let n := match e.fail with | some (_, k) => min k total | none => total
  if space = 2 then s.dmaSpad dev total n data e
  else
    let denied := if space = 0 then s.firstDenied dev n else none
    let s := s.dmaPut space dev data n
    let s := if denied.isSome then s.bump .HBM_STATUS_plan_area_drops 0 1 else s
    match e.fail, denied with
    | some (a, _), _ => (s, (.hostAccess, a.toNat))
    | none, some a => (s, (.areaProtected, a))
    | none, none => (s, (.success, 0))

def dmaWrite (e : DmaIn) (f : Fetched) (s : State) : State :=
  match s.dmaRefusal f with
  | some (c, r) => s.complete f c r
  | none =>
    let (s, c, r) := s.dmaWriteRun f e
    s.start f (some (c.code, r))

/-- DMA_WRITE starts and moves its units; DMA_COMPLETE writes its completion. -/
def execDmaWrite (q : QueueIx) (cid : Cid) (e : DmaIn) (s : State) : Host.Outcome State Fault Refusal :=
  hostCommand 0x20 q cid (dmaWrite e) s

/-- The host address of unit `n` of a command, by its parts. -/
def hostOf : Nat → List (Nat × Nat) → Nat
  | _, [] => 0
  | n, p :: ps => if n < p.2 then p.1 + 32 * n else hostOf (n - p.2) ps

/-- Units of a run read from a space and sent to the host, in address order, up to the first that ends the request: the
state, and the code and result. A tier-1 unit that is poisoned goes poisoned (R244, R262, R267). -/
def State.dmaGet (f : Fetched) (space dev : Nat) (e : TierIn) : Nat → Nat → State → State × (Cc × Nat)
  | 0, _, s => (s, (.success, 0))
  | k + 1, n, s =>
    let host := hostOf n (dmaParts f)
    if space = 2 then
      let t := devTile dev
      let u := bits dev 14 0 + n
      let (bad, s) := s.eccRead t u
      if bad then (s, (.spadReadUncorrectable, u))
      else State.dmaGet f space dev e k (n + 1) (s.dmaToHost host (s.spadUnit t u))
    else
      let tier := space + 1
      let a := dev + n
      let (bad, s) := s.tierRead tier a (e.ce.contains a) (e.ue.contains a)
      let s := s.countMoved tier 1 a
      if bad then (if tier = 1 then (s.emit (.poisoned host), (.tierUncorrectable, a)) else (s, (.tierUncorrectable, a)))
      else State.dmaGet f space dev e k (n + 1) (s.dmaToHost host (s.tierUnit tier a))

def dmaRead (e : TierIn) (f : Fetched) (s : State) : State :=
  match s.dmaRefusal f with
  | some (c, r) => s.complete f c r
  | none =>
    let space := f.par 28 1
    let dev := f.dev
    let total := ((dmaParts f).map Prod.snd).sum
    match (if space = 2 then s.windowHit (bits dev 28 26) (bits dev 14 0) total else none) with
    | some u => (s.bump .FLD_DMA_STAT_secure_denied (bits dev 28 26) 1).start f (some (Cc.spadSecureDenied.code, u))
    | none =>
      let (s, c, r) := State.dmaGet f space dev e total 0 s
      s.start f (some (c.code, r))

/-- DMA_READ. -/
def execDmaRead (q : QueueIx) (cid : Cid) (e : TierIn) (s : State) : Host.Outcome State Fault Refusal :=
  hostCommand 0x21 q cid (dmaRead e) s

/-- A running DMA of a queue and identifier. -/
def State.runningDma (s : State) (q cid : Nat) : Option (Fetched × Nat × Nat) :=
  match s.running? q cid 0x20, s.running? q cid 0x21 with
  | some f, _ => f.done.map (fun d => (f, d))
  | none, some f => f.done.map (fun d => (f, d))
  | none, none => none

/-- DMA_COMPLETE. -/
def execDmaComplete (q : QueueIx) (cid : Cid) (s : State) : Host.Outcome State Fault Refusal :=
  match s.runningDma q.val cid.toNat with
  | none => occurs false id s
  | some (f, c, r) => occurs s.hubUp (fun s => s.completeNum f c r) s

/-! ### The BAR2 window and other BAR accesses (R350, R371, R472) -/

/-- One byte of a host write to the window, by the rights of R256; a partial write of a poisoned unit is discarded. -/
def State.bar2Byte (s : State) (a : Nat) (b : Byte) (whole : Bool) : State :=
  if a / 32 < t1Units && s.hostWrites (a / 32) && (whole || !s.poisoned (a / 32)) then { s with tier1 := s.tier1.write a b } else s

/-- The bytes of a window write, each with whether its whole unit is written. -/
def State.bar2Put (s : State) (a z : Nat) : Nat → List Byte → State
  | _, [] => s
  | i, b :: bs =>
    let u := 32 * ((a + i) / 32)
    State.bar2Put (s.bar2Byte (a + i) b (decide (a ≤ u) && decide (u + 32 ≤ z))) a z (i + 1) bs

/-- Units that a byte range covers whole: their poison is cleared where they are written. -/
def State.clearPoison (s : State) (a z : Nat) : State :=
  { s with poison := s.poison.filter (fun e => !(decide (a ≤ 32 * e.1) && decide (32 * e.1 + 32 ≤ z) && s.hostWrites e.1)) }

/-- Units that a window access of `n` bytes from byte `a` touches. -/
def windowUnits (a n : Nat) : List Nat := (List.range ((a + n + 31) / 32 - a / 32)).map (fun i => a / 32 + i)

def bar2Write (a : Nat) (data : List Byte) (s : State) : State :=
  let z := a + data.length
  let s := ((windowUnits a data.length).filter (fun u => decide (u < t1Units) && s.hostWrites u)).foldl (fun s u => s.countMoved 1 1 u) s
  let s' := (s.bar2Put a z 0 data).clearPoison a z
  if (List.range data.length).any (fun i => decide ((a + i) / 32 < t1Units) && !s.hostWrites ((a + i) / 32)) then
    s'.bump .HBM_STATUS_plan_area_drops 0 1
  else s'

/-- The units of a window read: errors counted, and poison returned. -/
def State.bar2Units (s : State) (e : TierIn) (us : List Nat) : State :=
  us.foldl (fun s u =>
    let (bad, s) := (s.countMoved 1 1 u).tierRead 1 u (e.ce.contains u) (e.ue.contains u)
    if bad then s.emit (.poisoned u) else s) s

def bar2Read (a n : Nat) (e : TierIn) (s : State) : State :=
  if a + n > 32 * t1Units then s.emit .unsupported
  else
    let s := s.bar2Units e (windowUnits a n)
    s.emit (.readData (ofLE (s.tier1.readBytes a n)))

def bar2Access (off n : Nat) (write : Bool) (data : List Byte) (e : TierIn) (s : State) : State :=
  if !s.feature 9 then (if write then s else s.emit .unsupported)
  else if !s.tiersServe then
    let s := s.bump .HST_ERR_bad_access 0 1
    if write then s else s.emit .unsupported
  else
    let a := 2 ^ 30 * s.get .HST_BAR2_BASE_base_gib 0 + off
    if write then bar2Write a data s else bar2Read a n e s

/-- BAR2_ACCESS: a read or a write of `last + 1` bytes, the first of `data`, from an offset of the window on; it ends where the 4 KiB
of its address end, which no PCIe request crosses. -/
def execBar2Access (off : BitVec 36) (last : Fin 4096) (write : Bool) (data : Vector Byte 4096) (e : TierIn) (s : State) :
    Host.Outcome State Fault Refusal :=
  let n := min (last.val + 1) (4096 - off.toNat % 4096)
  occurs s.hostUp (bar2Access off.toNat n write (data.toList.take n) e) s

/-- BAR0_INVALID_ACCESS: a BAR0 or BAR4 access that is not an aligned 32-bit one (R350). -/
def execBar0InvalidAccess (write : Bool) (s : State) : Host.Outcome State Fault Refusal :=
  occurs s.hostUp (fun s =>
    let s := s.bump .HST_ERR_bad_access 0 1
    if write then s else s.emit .unsupported) s

/-- RESERVED_OFFSET_ACCESS: a reserved BAR0 offset reads 0, and a write there is discarded; both are counted (R472). -/
def execReservedOffsetAccess (write : Bool) (s : State) : Host.Outcome State Fault Refusal :=
  occurs s.hostUp (fun s =>
    let s := s.bump .HST_ERR_bad_access 0 1
    if write then s else s.emit (.readData 0)) s

/-- HST_LO_READ: 0 HST_AQ_SQ, 1 HST_AQ_CQ, 2 HST_EVT_BASE (R381). -/
def hstLoRead (a : Agent) (which : Nat) (s : State) : State :=
  match which with
  | 0 => (s.latch a .HST_AQ_SQ_HI 0 (s.get .HST_AQ_SQ_HI_sq_base 0)).emit (.readData (s.get .HST_AQ_SQ_LO_sq_base 0))
  | 1 => (s.latch a .HST_AQ_CQ_HI 0 (s.get .HST_AQ_CQ_HI_cq_base 0)).emit (.readData (s.get .HST_AQ_CQ_LO_cq_base 0))
  | _ => (s.latch a .HST_EVT_BASE_HI 0 (s.get .HST_EVT_BASE_HI_evt_base 0)).emit (.readData (s.get .HST_EVT_BASE_LO_evt_base 0))

def execHstLoRead (a : Agent) (which : Fin 3) (s : State) : Host.Outcome State Fault Refusal :=
  occurs (s.agentUp a) (hstLoRead a which.val) s

/-! ### Ingest (R373 to R375) -/

/-- A stream of the loaded plan. -/
def State.stream? (s : State) (i : Nat) : Option StreamEntry :=
  match s.plan.plan with
  | none => none
  | some x => x.ingest.find? (fun e => e.stream == i)

def State.ingest? (s : State) (i : Nat) : Option Ingest := s.host.ingest.find? (fun x => x.stream == i)
def State.setIngest (s : State) (x : Ingest) : State :=
  { s with host := { s.host with ingest := s.host.ingest.map (fun y => if y.stream = x.stream then x else y) } }

/-- First unit of a window's slot (R373). -/
def StreamEntry.slot (e : StreamEntry) (k : Nat) : Nat := e.ring + k % e.slots * e.slotUnits
/-- Plan beat at which a window closes (R373). -/
def StreamEntry.close (e : StreamEntry) (k : Nat) : Nat := 16 * (e.first + k * e.period) + e.phase

/-- The counter of a drop reason. -/
def dropCounter (reason : Nat) : RegField :=
  match reason with
  | 1 => .HST_INGEST_DROP_drop_full | 2 => .HST_INGEST_DROP_drop_size | 3 => .HST_INGEST_DROP_drop_state
  | _ => .HST_INGEST_DROP_drop_late

/-- A push is dropped: counted, the window marked, and the first drop of a window an event (R375, R376). -/
def State.ingestDrop (s : State) (stream reason : Nat) : State :=
  let s := s.bump (dropCounter reason) stream 1
  match s.ingest? stream with
  | none => s
  | some x =>
    if x.dropped then s
    else (s.setIngest { x with dropped := true }).event 7 (toLE 1 stream ++ toLE 1 reason ++ zeros 6 ++ toLE 8 x.window)

/-- Ingest is open in these plan states (R375). -/
def State.ingestOpen (s : State) : Bool := s.planState = .armed || s.planState = .running || s.planState = .resting

def ingestPush (data : List Byte) (hostFail : Option (BitVec 64)) (f : Fetched) (s : State) : State :=
  let units := f.par 16 4
  let i := f.par 20 1
  if i > 15 then s.complete f .paramInvalid 20
  else
    match s.stream? i, s.ingest? i with
    | some e, some x =>
      if !s.ingestOpen then (s.ingestDrop i 3).complete f .ingestDropped 3
      else if units = 0 ∨ units > e.slotUnits - 1 then (s.ingestDrop i 2).complete f .ingestDropped 2
      else if x.used + units > e.slotUnits - 1 then (s.ingestDrop i 1).complete f .ingestDropped 1
      else
        match hostFail with
        | some a => s.complete f .hostAccess a.toNat
        | none =>
          let s := s.dmaPut 0 (e.slot x.window + 1 + x.used) (padTo (32 * units) data) units
          (((s.setIngest { x with used := x.used + units }).bump .HST_INGEST_ACC_accepted i 1)).complete f .success x.window
    | _, _ => (s.ingestDrop i 3).complete f .ingestDropped 3

/-- INGEST_PUSH: appends to the open window of its stream, or is dropped. -/
def execIngestPush (q : QueueIx) (cid : Cid) (data : List Byte) (hostFail : Option (BitVec 64)) (s : State) :
    Host.Outcome State Fault Refusal :=
  hostCommand 0x23 q cid (ingestPush data hostFail) s

/-- Pushes assigned to a stream's open window and not yet complete. -/
def State.openPushes (s : State) (stream : Nat) : List Fetched :=
  s.host.fetched.filter (fun f => f.op == 0x23 && f.par 20 1 == stream && !f.started)

/-- Why a push of the open window that the close finds incomplete is dropped, by the checks of R375 in their order: SIZE, FULL, or
LATE for one that could still be written. -/
def closeReason (e : StreamEntry) (x : Ingest) (f : Fetched) : Nat :=
  let units := f.par 16 4
  if units = 0 ∨ units > e.slotUnits - 1 then 2 else if x.used + units > e.slotUnits - 1 then 1 else 4

/-- INGEST_WINDOW_CLOSE: pushes cut at the close are dropped, and the header is written; `part` is what a running push had
written. -/
def ingestWindowClose (e : StreamEntry) (x : Ingest) (part : List Byte) (s : State) : State :=
  let open' := s.openPushes e.stream
  let cut := open'.filter (fun f => closeReason e x f == 4)
  let n := match cut with | [] => 0 | f :: _ => min (f.par 16 4) (part.length / 32)
  let s := s.dmaPut 0 (e.slot x.window + 1 + x.used) part n
  let s := open'.foldl (fun s f => (s.ingestDrop e.stream (closeReason e x f)).complete f .ingestDropped (closeReason e x f)) s
  let dropped := match s.ingest? e.stream with | none => false | some y => y.dropped
  let flags := ofBool (decide (x.used > 0)) + 2 * ofBool (!cut.isEmpty) + 4 * ofBool dropped
  let s := s.putTier 1 (e.slot x.window)
    (toLE 8 x.window ++ toLE 4 x.used ++ toLE 1 flags ++ zeros 3 ++ toLE 8 s.time.beat ++ zeros 8)
  let s := s.bump .HST_INGEST_WIN_windows e.stream 1
  let s := if x.used = 0 then s.bump .HST_INGEST_WIN_empty e.stream 1 else s
  s.setIngest ⟨e.stream, x.window + 1, 0, false⟩

def execIngestWindowClose (stream : Fin 16) (part : List Byte) (s : State) : Host.Outcome State Fault Refusal :=
  match s.stream? stream.val, s.ingest? stream.val with
  | some e, some x =>
    occurs (s.planState = .running && s.beatBegun (e.close x.window)) (ingestWindowClose e x part) s
  | _, _ => occurs false id s

/-! ### PCIE_LINK_DOWN (R378, R381) -/

/-- The fields of HST_ that R378 clears: those of HST_ with Survives F, L, H, Y, but the counters, and hub_ready, which R352 reads when
the link returns (log entry 32). -/
def linkClears : List RegField :=
  [.HST_CTRL_enable, .HST_STATUS_running, .HST_STATUS_neg_fail, .HST_STATUS_neg_bit, .HST_AQ_SQ_LO_sq_base
   , .HST_AQ_SQ_HI_sq_base, .HST_AQ_CQ_LO_cq_base, .HST_AQ_CQ_HI_cq_base, .HST_AQ_CFG_n, .HST_AQ_CFG_vector
   , .HST_BAR2_BASE_base_gib, .HST_EVT_BASE_LO_evt_base, .HST_EVT_BASE_HI_evt_base, .HST_EVT_CFG_entries, .HST_EVT_CFG_vector]

/-- The running push of each stream ends with LATE (R378). -/
def State.latePushes (s : State) (fs : List Fetched) : State :=
  (List.range 16).foldl (fun s i =>
    match fs.find? (fun f => f.par 20 1 == i), s.stream? i, s.ingest? i with
    | some f, some e, some x => s.ingestDrop i (closeReason e x f)
    | _, _, _ => s) s

/-- What had not gone to the host is discarded: no record and no completion of the pushes that end. -/
def pcieLinkDown (s : State) : State :=
  let cut := (List.range 16).flatMap s.openPushes
  let s := s.clearAll linkClears 0
  let s := s.each (List.range 4) (fun s i => s.clearAll [.HST_FEAT_REQ_req, .HST_FEAT_EN_en] i)
  let s := s.each (List.range 32) (fun s m =>
    let s := s.clearAll [.MGT_MBX_CFG_vector, .MGT_MBX_CFG_irq_en] m
    if s.get .MGT_MBX_STATUS_owner m = agentNumber .host then s.releaseLock m else s)
  let s := s.closeQueues
  let s := { s with host := { s.host with evtRead := 0, evtWritten := 0, evtSeq := 0, evtLost := 0 } }
  ((s.latePushes cut).set .HST_STATUS_pcie_down_seen 0 1).warn .pcieDown

def execPcieLinkDown (s : State) : Host.Outcome State Fault Refusal :=
  occurs s.hostUp pcieLinkDown s

end Sys2Proof.Machine
end

