-- ==== Sys2Proof/Machine/Faults.lean ====
section
/-! DEFINITION. The fatal path: entry, reports, the flash summary, the dump, and the host commands that read and clear it (R445
to R459). -/

namespace Sys2Proof.Machine

/-! ### Entry (R446, R447) -/

/-- A later reason: counted, and listed while the header is not yet written and has room (R447, R453). -/
def State.laterReason (s : State) (r : Raised) : State :=
  let s := s.bump .FLT_FATAL_later_count 0 1
  if s.fault.headerWritten || decide (16 ≤ s.fault.later.length) then s
  else { s with fault := { s.fault with later := s.fault.later ++ [r.reason.code] } }

/-- The reason with the lowest code; of equal codes the first. -/
def lowestReason (r : Raised) : List Raised → Raised
  | [] => r
  | q :: qs => if q.reason.code < r.reason.code then lowestReason q qs else lowestReason r qs

/-- Entries of a list at some positions, and the others. -/
def atPlaces {α : Type} (at' : List Nat) (l : List α) : List α := (l.zipIdx.filter (fun x => at'.contains x.2)).map Prod.fst
def notAtPlaces {α : Type} (at' : List Nat) (l : List α) : List α := (l.zipIdx.filter (fun x => !at'.contains x.2)).map Prod.fst

/-- The latches of a fatal entry: reason, detail, beats, prior state and epoch, with ALERT0# asserted. -/
def State.latchFatal (s : State) (r : Raised) : State :=
  let epoch := if s.get .PLN_EPOCH_epoch 0 = 0 then s.get .RTE_EPOCH_epoch 0 else s.get .PLN_EPOCH_epoch 0
  let s := ((s.set .FLT_FATAL_reason 0 r.reason.code).set .FLT_FATAL_later_count 0 0).set .FLT_FATAL_active 0 1
  let s := (s.set .FLT_FATAL_DETAIL_detail 0 r.detail).set .FLT_FATAL_BEAT_LO_beat_lo 0 (s.time.beat % 2 ^ 32)
  let s := (s.set .FLT_FATAL_BEAT_HI_beat_hi 0 (s.time.beat / 2 ^ 32)).set .FLT_FATAL_PLAN_epoch 0 epoch
  (s.set .FLT_FATAL_PLAN_plan_state 0 (s.get .PLN_STATUS_state 0)).set .FLT_STATUS_alert0 0 1

/-- What the entry leaves to be done: a report, a summary and a dump, which waits where tier 1 is out of service (R448) and is
not written where the hub or HS0 is too hot (R38). -/
def State.openFault (s : State) (r : Raised) : State :=
  let off := !s.fieldUp
  let dump := !s.fault.tooHot
  let s := { s with fault := { FaultPath.reset with
    planBeat := s.plan.beat, thermal := r.reason = Fatal.thermalTrip, fieldOff := off, tcOff := s.power = Power.fieldReset
    reportDue := true, summaryDue := true, dumpDue := dump, tooHot := s.fault.tooHot } }
  let s := (s.set .FLT_DUMP_valid 0 0).set .FLT_DUMP_busy 0 (ofBool (dump && !off))
  s.set .FLT_DUMP_pending 0 (ofBool (dump && off))

/-- The scheduled work stops: the plan is FAULTED, tiles gate without a halt, regions apply 0x00, no VC0 flit is sent. -/
def State.stopWork (s : State) : State :=
  let s := if s.planState = .idle then s else s.setPlanState .faulted
  let s := { s with tiles := s.tiles.map (fun (e : Nat × Tile) => (e.1, if e.2.running then { e.2 with finished := true } else e.2))
                    router := { s.router with stopS := some 0 } }
  let s := if s.get .RTE_PLAN_rstate 0 = 0 then s else s.set .RTE_PLAN_rstate 0 5
  if s.fieldUp then s.applyAll 0 else s

/-- A fatal entry. -/
def State.enterFatal (s : State) (r : Raised) : State :=
  let s := (s.latchFatal r).openFault r
  ((s.stopWork).event 3 (toLE 2 r.reason.code)).failStaged

/-- The reasons at the positions `at'` of those raised reach the hub in one hub cycle: the lowest code is recorded, unless an
entry is active, and the others are later reasons. -/
def fatalEntry (at' : List Nat) (s : State) : State :=
  let rs := atPlaces at' s.raised
  let s := { s with raised := notAtPlaces at' s.raised }
  match rs with
  | [] => s
  | r :: q =>
    if s.fatalActive then rs.foldl State.laterReason s
    else
      let l := lowestReason r q
      (removeFirst (fun x => x == l) rs).foldl State.laterReason (s.enterFatal l)

/-- FATAL_ENTRY. -/
def execFatalEntry (at' : List Nat) (s : State) : Host.Outcome State Fault Refusal :=
  occurs (s.powered && !(atPlaces at' s.raised).isEmpty) (fatalEntry at') s

/-! ### Reports (R449) -/

/-- The beat of the fatal entry. -/
def State.fatalBeat (s : State) : Nat := s.get .FLT_FATAL_BEAT_LO_beat_lo 0 + 2 ^ 32 * s.get .FLT_FATAL_BEAT_HI_beat_hi 0

/-- The first FATAL report, where reports are sent. -/
def fatalReport (s : State) : State :=
  let s := { s with fault := { s.fault with reportDue := false } }
  if s.get .FLT_CTRL_report_en 0 = 1 then
    let seq := (s.reportSeq + 1) % 2 ^ 32
    let b := s.reportBytes 1 seq (s.get .FLT_FATAL_reason 0) (s.get .FLT_FATAL_DETAIL_detail 0) s.fault.planBeat
      (s.get .FLT_FATAL_PLAN_plan_state 0) s.fatalBeat
    (({ s with reportSeq := seq, fault := { s.fault with report := some b, sendings := 1, sentAt := s.time.tick } }).set
      .FLT_REPORT_last_seq 0 seq).sendReport b
  else s

/-- FATAL_REPORT. -/
def execFatalReport (s : State) : Host.Outcome State Fault Refusal :=
  occurs (s.hubUp && s.fault.reportDue) fatalReport s

/-- Ticks from one sending to the next: 100 ms for the first ten repeats, then 10 s. -/
def repeatGap (sendings : Nat) : Nat := if sendings ≤ 10 then 2500000 else 250000000

/-- A report with flag [0] as it stands now. -/
def State.freshFlags (s : State) (b : List Byte) : List Byte :=
  withCrc (b.take 51 ++ [(b.getD 51 0) ||| BitVec.ofNat 8 (s.get .FLT_DUMP_valid 0)] ++ zeros 8)

/-- REPORT_REPEAT. -/
def execReportRepeat (s : State) : Host.Outcome State Fault Refusal :=
  match s.fault.report with
  | none => occurs false id s
  | some b =>
    occurs (s.hubUp && s.fatalActive && decide (s.fault.sentAt + repeatGap s.fault.sendings ≤ s.time.tick)) (fun s =>
      ({ s with fault := { s.fault with sendings := s.fault.sendings + 1, sentAt := s.time.tick } }).sendReport (s.freshFlags b)) s

/-! ### Summary and dump (R446, R448, R452, R457) -/

/-- The summary goes to the front of the log, a ring of 4,096 records. -/
def flashSummary (s : State) : State :=
  { s with fault := { s.fault with summaryDue := false }, mgmt := { s.mgmt with summaries := (s.summary :: s.mgmt.summaries).take 4096 } }

/-- FLASH_SUMMARY: after the first report; at once where the dump has to wait. -/
def execFlashSummary (s : State) : Host.Outcome State Fault Refusal :=
  occurs (s.hubUp && s.fault.summaryDue && (!s.fault.reportDue || s.get .FLT_DUMP_pending 0 == 1)) flashSummary s

/-- More tiles halted than the dump has room for. -/
def State.dumpLimited (s : State) : Bool := !s.fault.fieldOff && decide (64 < s.haltedTiles.length)

def dumpWrite (s : State) : State :=
  let s := s.draw.2
  let (n, s) := s.writeDump s.sections (s.flags true s.dumpLimited false)
  let s := { s.noteDump n false with fault := { s.fault with dumpDue := false, headerWritten := true } }
  if s.pwr.waiting then s.beginFieldReset else s

/-- DUMP_WRITE: after the summary, with tier 1 in service or HS0 taken out of self-refresh in Hush. -/
def execDumpWrite (s : State) : Host.Outcome State Fault Refusal :=
  occurs (s.hubUp && s.fault.dumpDue && !s.fault.summaryDue && !s.fault.tooHot && s.fieldUp) dumpWrite s

/-! ### Host commands (R362, R363, R448, R450, R456) -/

def faultStatus (f : Fetched) (s : State) : State :=
  s.complete f .success (s.get .FLT_FATAL_reason 0 + 2 ^ 16 * s.get .FLT_STATUS_alert0 0 + 2 ^ 17 * s.get .FLT_DUMP_valid 0
    + 2 ^ 32 * s.get .FLT_FATAL_BEAT_LO_beat_lo 0)

/-- FAULT_STATUS. -/
def execFaultStatus (q : QueueIx) (cid : Cid) (s : State) : Host.Outcome State Fault Refusal := hostCommand 0x60 q cid faultStatus s

/-- The entry is cleared; with no plan loaded the regions apply 0xFF again (R69). -/
def faultClear (f : Fetched) (s : State) : State :=
  if s.get .FLT_DUMP_busy 0 = 1 then s.complete f .dumpBusy 0
  else if s.fatalActive then
    let s := (s.set .FLT_FATAL_active 0 0).set .FLT_STATUS_alert0 0 0
    let s := if s.planState = .idle ∧ s.power = .active then s.applyAll 0xFF else s
    (s.newReport 3 (s.get .FLT_FATAL_reason 0) (s.get .FLT_FATAL_DETAIL_detail 0) 0 (s.get .PLN_STATUS_state 0)).complete f .success 0
  else s.complete f .success 0

/-- FAULT_CLEAR. -/
def execFaultClear (q : QueueIx) (cid : Cid) (s : State) : Host.Outcome State Fault Refusal := hostCommand 0x61 q cid faultClear s

/-- Tier-1 units read to the host, up to the first that cannot be read. -/
def State.dumpGet (host base : Nat) (e : TierIn) : Nat → Nat → State → State × (Cc × Nat)
  | 0, _, s => (s, (.success, 0))
  | k + 1, n, s =>
    let a := base + n
    let (bad, s) := s.tierRead 1 a (e.ce.contains a) (e.ue.contains a)
    let s := s.countMoved 1 1 a
    if bad then (s.emit (.poisoned (host + 32 * n)), (.tierUncorrectable, a))
    else State.dumpGet host base e k (n + 1) (s.toHost (host + 32 * n) (s.tierUnit 1 a))

def dumpRead (e : TierIn) (f : Fetched) (s : State) : State :=
  let off := f.par 8 8
  let units := f.par 24 4
  if off % 32 ≠ 0 then s.complete f .paramInvalid 8
  else if units = 0 ∨ off + 32 * units > 2 ^ 28 then s.complete f .paramInvalid 24
  else if s.get .FLT_DUMP_busy 0 = 1 ∨ s.get .FLT_DUMP_pending 0 = 1 then s.complete f .dumpBusy 0
  else if s.get .FLT_DUMP_valid 0 = 0 then s.complete f .dumpAbsent 0
  else if !s.tiersServe then s.complete f .powerState 0
  else
    let (s, c, r) := State.dumpGet (f.par 16 8) (dumpAreaBase + off / 32) e units 0 s
    s.complete f c r

/-- DUMP_READ. -/
def execDumpRead (q : QueueIx) (cid : Cid) (e : TierIn) (s : State) : Host.Outcome State Fault Refusal :=
  hostCommand 0x62 q cid (dumpRead e) s

/-- FLT_FATAL_BEAT_LO_READ: the HI register is latched at the same instant (R459). -/
def execFltFatalBeatLoRead (a : Agent) (s : State) : Host.Outcome State Fault Refusal :=
  occurs (s.agentUp a) (fun s =>
    (s.latch a .FLT_FATAL_BEAT_HI 0 (s.get .FLT_FATAL_BEAT_HI_beat_hi 0)).emit (.readData (s.get .FLT_FATAL_BEAT_LO_beat_lo 0))) s

end Sys2Proof.Machine
end

