-- ==== Sys2Proof/Machine/Link.lean ====
section
/-! DEFINITION. Replay, credits and link resets: the control words a port has received and the timers of the link layer
(R298 to R308). FLIT_RX and FLIT_TIME, where the link meets the router, stand in Router.lean. -/

namespace Sys2Proof.Machine

/-- A received control word of a type, acted on by `f` while the port is ACTIVE. -/
def onCtrl (p typ : Nat) (f : Ctrl → State → State) (s : State) : Host.Outcome State Fault Refusal :=
  match takeCtrl typ (s.port p).rxCtrl with
  | none => occurs false id s
  | some (c, rest) =>
    occurs (s.powered && s.train p = .active) (fun s => f c (s.modPort p (fun x => { x with rxCtrl := rest }))) s

/-- REPEAT_SEND: words whose first copy went 80 ns ago or more go again, in one CTRL flit with what else is urgent. -/
def execRepeatSend (p : PortIx) (s : State) : Host.Outcome State Fault Refusal :=
  occurs (s.powered && s.train p.val = .active && !((s.port p.val).due s.time.tick).isEmpty) (fun s => s.sendUrgent p.val) s

/-- NAK (R300): a number outside [una, nxt] is stale; nxt releases everything; otherwise the flits before it are released
and a go-back pass starts there, unless a pass has not yet come so far. -/
def nak (p : Nat) (c : Ctrl) (s : State) : State :=
  let x := s.port p
  let seq := leAt c.short 0 2 % 4096
  let d := (seq + 4096 - x.una) % 4096
  if d > x.kept.length then s
  else if d = x.kept.length then s.releaseFlits p d
  else
    let behind :=
      match x.pass with
      | none => true
      | some q => decide (d ≤ (q + 4096 - x.una) % 4096)
    let s := s.releaseFlits p d
    if behind then s.startPass p else s

def execNak (p : PortIx) (s : State) : Host.Outcome State Fault Refusal := onCtrl p.val 4 (nak p.val) s

/-- SNAK (R302): the named kept flits are resent, ahead of other DATA; a number not kept is stale. -/
def snak (p : Nat) (c : Ctrl) (s : State) : State :=
  let first := leAt c.short 0 2 % 4096
  let n := min (leAt c.short 2 1) 16
  s.modPort p (fun x =>
    let names := ((List.range n).map (fun i => (first + i) % 4096)).filter (fun q => x.kept.any (fun f => f.seq = q))
    { x with resend := x.resend ++ names.filter (fun q => !x.resend.contains q) })

def execSnak (p : PortIx) (s : State) : Host.Outcome State Fault Refusal := onCtrl p.val 5 (snak p.val) s

/-- CREDIT (R308): the freed counts of VC1 to VC7. -/
def creditWord (p : Nat) (c : Ctrl) (s : State) : State :=
  let s := s.modPort p (fun x =>
    { x with peerFreed := (List.range 7).foldl (fun t v => Table.set 0 t (v + 1) (leAt c.body (2 * v) 2)) x.peerFreed })
  s.modPort p (fun x => { x with zeroAt := Table.keep (fun v => s.credit p v = 0) x.zeroAt })

def execCredit (p : PortIx) (s : State) : Host.Outcome State Fault Refusal := onCtrl p.val 6 (creditWord p.val) s

/-- CREDIT_QUERY: answered at once. -/
def execCreditQuery (p : PortIx) (s : State) : Host.Outcome State Fault Refusal :=
  onCtrl p.val 7 (fun _ s => s.sendCredit p.val) s

/-- Growth of a freed count since the last CREDIT word. -/
def LinkPort.growth (x : LinkPort) (v : Nat) : Nat := (Table.get 0 x.freed v + 65536 - Table.get 0 x.freedSent v) % 65536

/-- A CREDIT word is due: 8 or more flits freed, or 1 µs after any (R308). -/
def State.creditDue (s : State) (p : Nat) : Bool :=
  let x := s.port p
  (List.range 8).any (fun v => decide (x.growth v ≥ 8)) ||
    (match x.freedAt with
     | none => false
     | some t => decide (t + 25 ≤ s.time.tick))

/-- CREDIT_SEND. -/
def execCreditSend (p : PortIx) (s : State) : Host.Outcome State Fault Refusal :=
  occurs (s.powered && s.train p.val = .active && s.creditDue p.val) (fun s => s.sendCredit p.val) s

/-- CREDIT_TIMEOUT: a VC held at zero credit for credit_to, in 0.1 ms. -/
def creditTimeout (p v : Nat) (s : State) : State :=
  ((s.bump .LNK_CREDIT_credit_stalls p 1).modPort p (fun x => { x with zeroAt := x.zeroAt.put v s.time.tick })).sendCtrl p 7
    (toLE 1 (2 ^ v)) []

/-- The VC has stood at zero credit for credit_to. -/
def State.creditStalled (s : State) (p v : Nat) : Bool :=
  match (s.port p).zeroAt.find? v with
  | none => false
  | some t => decide (t + 2500 * s.get .LNK_TIMER_credit_to p ≤ s.time.tick)

def execCreditTimeout (p : PortIx) (v : Fin 8) (s : State) : Host.Outcome State Fault Refusal :=
  occurs (s.powered && s.train p.val = .active && s.creditStalled p.val v.val) (creditTimeout p.val v.val) s

/-- RESET_REQ (R294, R296): from ACTIVE the port goes down with PEER_RESET; otherwise the request is merged. -/
def execResetReq (p : PortIx) (s : State) : Host.Outcome State Fault Refusal :=
  match takeCtrl 8 (s.port p.val).rxCtrl with
  | none => occurs false id s
  | some (_, rest) =>
    occurs s.powered (fun s =>
      let s := s.modPort p.val (fun x => { x with rxCtrl := rest })
      if s.train p.val = .active then s.linkDown p.val .peerReset else s) s

/-- una has not advanced for replay_to, in 0.1 µs (R300). -/
def State.replayDue (s : State) (p : Nat) : Bool :=
  let x := s.port p
  x.kept ≠ [] && decide (40 * (s.time.tick - x.unaAt) ≥ 100 * s.get .LNK_TIMER_replay_to p)

/-- REPLAY_TIMEOUT: a go-back pass from una, or link-down at the replay limit. -/
def execReplayTimeout (p : PortIx) (s : State) : Host.Outcome State Fault Refusal :=
  occurs (s.powered && s.train p.val = .active && s.replayDue p.val) (fun s => s.startPass p.val) s

/-- A gap not filled within replay_to of its SNAK (R303). -/
def State.gapDue (s : State) (p : Nat) : Bool :=
  (s.port p).gaps.any (fun g => decide (40 * (s.time.tick - g.at') ≥ 100 * s.get .LNK_TIMER_replay_to p))

/-- GAP_TIMEOUT: fallback to go-back. -/
def execGapTimeout (p : PortIx) (s : State) : Host.Outcome State Fault Refusal :=
  occurs (s.powered && s.train p.val = .active && s.gapDue p.val) (fun s => s.fallBack p.val) s

end Sys2Proof.Machine
end

