-- ==== Sys2Proof/Machine/Telemetry.lean ====
section
/-! DEFINITION. The collector and its module records, ageing and the predicted life of the module, TEL_READ (R460 to R469). -/

namespace Sys2Proof.Machine

/-- A value at its field's all-ones value or below (R463). -/
def sat (n v : Nat) : Nat := min v (2 ^ n - 1)

/-! ### Accumulators (R460, R461) -/

/-- What one accumulator of a field has counted since a snapshot. -/
def State.since (s : State) (snap : Table Nat) (f : RegField) (i : Nat) : Nat :=
  sat 32 (Table.get 0 s.accum (regKey f i) - Table.get 0 snap (regKey f i))

/-- The same over every instance of a field. -/
def State.sinceAll (s : State) (snap : Table Nat) (f : RegField) : Nat :=
  ((s.accum.filter (fun e => e.1 % 512 == f.ctorIdx)).map (fun e => sat 32 (e.2 - Table.get 0 snap e.1))).sum

/-- Sum over fields in the record's period. -/
def State.counted (s : State) (fs : List RegField) : Nat := (fs.map (s.sinceAll s.tel.snap)).sum

/-! ### The module record (R463) -/

/-- Largest worst_div of any tile, and the format of that block. -/
def State.worst (s : State) : Nat × Nat :=
  (List.range 9216).foldl (fun (x : Nat × Nat) t =>
    let v := s.get .TIL_CANARY_WORST_worst_div t
    if v > x.1 then (v, s.get .TIL_CANARY_WORST_worst_format t) else x) (0, 0)

def State.recordFlags (s : State) : Nat :=
  let unread := !s.fieldUp
  let low := s.tel.lowPower || s.power = .relay || s.power = .hush
  ofBool s.tel.rested + 2 * ofBool s.fatalActive + 4 * s.get .RTE_PLAN_forwarding_only 0 + 8 * ofBool unread + 16 * ofBool low

/-- Bytes 0 to 35. -/
def State.recordTime (s : State) : List Byte :=
  let margin := match s.tel.minMargin with | none => 0x7FFFFFFF | some m => ofSigned 32 (clampInt (-2147483648) 2147483647 m)
  toLE 8 s.time.beat ++ toLE 8 (if s.planLoaded then s.plan.beat else 0) ++ toLE 2 (s.get .TEL_CTRL_period_measures 0)
    ++ toLE 1 (s.get .PLN_STATUS_state 0) ++ toLE 1 s.recordFlags ++ toLE 4 (sat 32 (s.counted [.PLN_REST_TOTAL_rest_measures]))
    ++ toLE 2 (sat 16 (s.counted [.PLN_TOLL_ORIG_region_late, .PLN_TOLL_ORIG_item_late, .PLN_TOLL_ORIG_link, .PLN_TOLL_ORIG_stop]))
    ++ toLE 2 (sat 16 (s.counted [.PLN_TOLL_RX_received])) ++ toLE 2 (sat 16 (s.counted [.PLN_TOLL_RX_foreign]))
    ++ toLE 2 (sat 16 (s.counted [.PLN_LAST_last_measures])) ++ toLE 4 margin

/-- Bytes 36 to 63. -/
def State.recordTiles (s : State) : List Byte :=
  let w := s.worst
  toLE 4 (sat 32 (s.counted [.BEAT_REG_SHORT_short_measures])) ++ toLE 4 (sat 32 (s.counted [.BEAT_REG_FCST_over_tol]))
    ++ toLE 4 (sat 32 (s.counted [.TIL_CANARY_CHECKED_canary_checked])) ++ toLE 4 (sat 32 (s.counted [.TIL_CANARY_DIVERGED_canary_diverged]))
    ++ toLE 4 (sat 32 (s.counted [.TIL_SAT_COUNT_sat_count])) ++ toLE 2 (sat 16 (s.counted [.TIL_NAN_COUNT_nan_count]))
    ++ toLE 2 (sat 16 (s.counted [.TIL_NAN_COUNT_acc_overflow])) ++ toLE 2 (sat 16 w.1) ++ toLE 1 (w.2 % 16) ++ zeros 1

/-- Bytes 64 to 91. -/
def State.recordLevels (s : State) : List Byte :=
  let most (f : RegField) (n : Nat) : Nat := (List.range n).foldl (fun m i => max m (s.get f i)) 0
  (List.range 10).flatMap (fun u => toLE 1 (sat 8 (Table.get 0 s.tel.busy u))) ++ zeros 2
    ++ toLE 4 (sat 32 (s.counted [.TTM_LATE_late_items])) ++ toLE 4 (most .TTM_ITEMS_MAX_outstanding_max 2)
    ++ toLE 2 (sat 16 s.tel.portStall) ++ toLE 2 (sat 16 s.tel.chainStall) ++ toLE 2 (sat 16 (2 * most .LNK_WINDOW_hold_max 36))
    ++ toLE 2 (sat 16 (s.counted [.RTE_PORT_VC0_late_sends]))

/-- Bytes 92 to 123. -/
def State.recordCounts (s : State) : List Byte :=
  toLE 4 (sat 32 (s.counted [.HST_INGEST_DROP_drop_full, .HST_INGEST_DROP_drop_size, .HST_INGEST_DROP_drop_state
      , .HST_INGEST_DROP_drop_late])) ++ toLE 4 (sat 32 (s.counted [.SRV_DRAFTED_drafted]))
    ++ toLE 4 (sat 32 (s.counted [.SRV_ACCEPTED_accepted])) ++ toLE 4 (sat 32 (s.counted [.TEL_HW_HALTS_count]))
    ++ toLE 4 (sat 32 (s.counted [.FLD_SPAD_ERR_ce_count])) ++ toLE 4 (sat 32 (s.counted [.HBM_ECC_CE_ce_count]))
    ++ toLE 4 (sat 32 (s.counted [.LNK_REPLAY_bad_flits])) ++ zeros 4

/-- The 128-byte module record. -/
def State.moduleBytes (s : State) : List Byte := withCrc (s.recordTime ++ s.recordTiles ++ s.recordLevels ++ s.recordCounts)

/-- The module ring's first unit (R462). -/
def moduleRing : Nat := 0x4FE100000

/-- The record into the ring; its number is consumed where HS0 cannot be written (R462). -/
def State.ringModule (s : State) (b : List Byte) : State :=
  let n := s.get .TEL_MOD_COUNT_written 0
  let s := s.set .TEL_MOD_COUNT_written 0 (n + 1)
  if s.ringUp then
    let u := moduleRing + 4 * (n % 65536)
    { s.countRun 1 1 u 4 with tier1 := s.tier1.writeBytes (32 * u) b, poison := s.poison.filter (fun e => decide (e.1 < u) || decide (u + 4 ≤ e.1)) }
  else (s.bump .TEL_MOD_LOST_lost 0 1).set .TEL_STATUS_ring_lost 0 1

/-- Every stream_div-th record as a datagram (R464). `n` is the number of the record. -/
def State.streamModule (s : State) (n : Nat) (b : List Byte) : State :=
  if s.get .TEL_CTRL_stream_en 0 = 1 ∧ (n + 1) % max 1 (s.get .TEL_CTRL_stream_div 0) = 0 then
    s.emitAll ((Config.faultManagers s.netBlock).map (fun a =>
      Output.datagram a 47111 (toLE 4 0x4D544B42 ++ toLE 2 1 ++ toLE 2 s.deviceId ++ b)))
  else s

/-- The next period begins: its sums start from the accumulators as they stand. -/
def State.nextPeriod (s : State) : State :=
  { s with tel := { s.tel with snap := s.accum, minMargin := none, rested := false, lowPower := false, busy := [], portStall := 0
                               chainStall := 0, ended := some s.time.tick } }

/-- A period ends: its record where the collector writes records, and the next period begins. -/
def moduleRecord (s : State) : State :=
  if s.get .TEL_CTRL_collect_en 0 = 1 then
    let b := s.moduleBytes
    let s := (s.ringModule b).streamModule (s.get .TEL_MOD_COUNT_written 0) b
    { s with tel := { s.tel with latest := b } }.nextPeriod
  else s.nextPeriod

/-- Firmware runs on the management cores: not in ROM recovery (R409). -/
def State.firmwareRuns (s : State) : Bool := s.hubUp && s.get .MGT_STATUS_rom_recovery 0 == 0

/-- MODULE_RECORD: at the downbeat that ends a period, once. -/
def execModuleRecord (s : State) : Host.Outcome State Fault Refusal :=
  occurs (s.firmwareRuns && isDownbeat s.time.beat && s.time.beat / 16 % max 1 (s.get .TEL_CTRL_period_measures 0) == 0
    && s.tel.ended != some s.time.tick) moduleRecord s

/-! ### Ageing (R465) -/

/-- Beats in an hour. -/
def hourBeats : Nat := 90000000000

/-- Hours since the last package or cold reset. -/
def State.hoursUp (s : State) : Nat := (s.time.tick - s.tel.since) / hourBeats

/-- A region's slowdown from the counts of its oscillators and its time-zero ratio, clamped; a free value where the reference counts
nothing, or the ratio is 0. -/
def slowdown (stressed ref ratio : Nat) : Nat :=
  let num := 2 ^ 48 * stressed
  let den := ref * ratio
  if den = 0 then (Config.noSlowdown stressed ratio).toNat
  else if 65536 * den ≤ num then 0
  else
    let d := (65536 * den - num) / den
    min 65535 (if (65536 * den - num) % den = 0 then d else d + ofBool (Config.roundUp num den))

/-- Every region of a running die is read. -/
def State.readAges (s : State) (xs : List (BitVec 16 × BitVec 16)) : State :=
  if s.fieldUp then
    s.each (List.range 576) (fun s r =>
      let x := xs.getD r (0, 1)
      (s.set .TEL_AGE_d r (slowdown x.1.toNat x.2.toNat (Table.get (2 ^ 32) s.fused.ratio r))).set .TEL_AGE_valid r 1)
  else s

/-! ### Predictions (R466) -/

/-- Items of a contributor. -/
def itemsOf (code : Nat) : Nat :=
  match code with | 1 => 576 | 2 => 36 | 3 => 8 | 4 => 2 | 5 => 8 | _ => 1

/-- A contributor's limit. -/
def State.limitOf (s : State) (code : Nat) : Int :=
  match code with | 1 => s.get .TEL_AGE_CFG_limit_q 0 | 2 => 0 | 3 => 4096 | 4 => 4096 | 5 => 16 | _ => 4

/-- The value tracked for an item, as it is now; none where what holds it is off or in reset. -/
def State.valueOf (s : State) (code item : Nat) : Option Int :=
  match code with
  | 1 => if s.fieldUp then some (s.get .TEL_AGE_d item) else none
  | 2 => some (64 - (s.get .LNK_EYE_margin_min item : Int))
  | 3 => if s.fieldUp then some (s.since s.tel.ageSnap .HBM_ECC_CE_ce_count item) else none
  | 4 => if s.power = .fieldReset then none
         else some (s.since s.tel.ageSnap .TTM_ECC_link_ce item + s.since s.tel.ageSnap .TTM_ECC_ecs_count item : Int)
  | 5 => if s.fieldUp then some (s.since [] .FLD_SPAD_ERR_test_fail item) else none
  | _ => some (s.since [] .TEL_HW_HALTS_count 0)

/-- The key of an item in a reading. -/
def itemKey (code item : Nat) : Nat := 1024 * code + item

def allItems : List (Nat × Nat) := (List.range 6).flatMap (fun c => (List.range (itemsOf (c + 1))).map (fun i => (c + 1, i)))

/-- A reading: every item that can be read. -/
def State.reading (s : State) : Reading :=
  Reading.mk s.hoursUp (allItems.filterMap (fun x => (s.valueOf x.1 x.2).map (fun v => (itemKey x.1 x.2, v))))

/-- The readings of an item: hour and value, the newest first. -/
def Telemetry.points (x : Telemetry) (key : Nat) : List (Int × Int) :=
  x.readings.filterMap (fun r => (r.values.find? key).map (fun v => ((r.hour : Int), v)))

/-- Sums of a straight-line fit over n points: n Σx² - (Σx)², n Σxy - Σx Σy, and the same of y. -/
structure Fit where
  n : Nat
  xx : Int
  xy : Int
  yy : Int
deriving DecidableEq, Repr

def fit (ps : List (Int × Int)) : Fit :=
  let n : Int := ps.length
  let x := (ps.map (fun p => p.1)).sum
  let y := (ps.map (fun p => p.2)).sum
  { n := ps.length
    xx := n * (ps.map (fun p => p.1 * p.1)).sum - x * x
    xy := n * (ps.map (fun p => p.1 * p.2)).sum - x * y
    yy := n * (ps.map (fun p => p.2 * p.2)).sum - y * y }

/-- The largest number below 2^bits of which a falling test holds. -/
def largest (p : Nat → Bool) : Nat → Nat → Nat
  | 0, h => h
  | b + 1, h => largest p b (if p (h + 2 ^ b) then h + 2 ^ b else h)

/-- 0xFFFF_FFFF: none. -/
def none32 : Nat := 0xFFFFFFFF

/-- The sign test of k ± 1.645 σ: `up` for plus. With k = xy / xx, the standard error of the slope is
√((xx yy - xy²) / (n - 2)) / xx, so both sides are compared over xx. -/
def Fit.steep (f : Fit) (up : Bool) : Bool :=
  let r := 1645 * 1645 * (f.xx * f.yy - f.xy * f.xy)
  let a := 1000000 * ((f.n : Int) - 2) * (f.xy * f.xy)
  if up then decide (0 < f.xy) || decide (a < r) else decide (0 < f.xy) && decide (r < a)

/-- Is h (k ± 1.645 σ) at most the gap? -/
def Fit.within (f : Fit) (up : Bool) (gap : Int) (h : Nat) : Bool :=
  let g := gap * f.xx - h * f.xy
  let r := 1645 * 1645 * (f.xx * f.yy - f.xy * f.xy) * (h * h)
  let q := 1000000 * ((f.n : Int) - 2) * (g * g)
  if up then decide (0 ≤ g) && decide (r ≤ q) else decide (0 ≤ g) || decide (q ≤ r)

/-- A prediction: hours, low, high. -/
structure Prediction where
  hours : Nat
  low : Nat
  high : Nat
deriving DecidableEq, Repr

/-- The prediction of a fit for a gap; what too few readings leave open is free (log entry 37). -/
def Fit.predict (f : Fit) (gap : Int) (key : Nat) : Prediction :=
  let open' (i : Nat) : Nat := (Config.noFit key i).toNat
  if f.xx = 0 then { hours := open' 0, low := open' 1, high := open' 2 }
  else
    let hours := if 0 < f.xy then min none32 (gap * f.xx / f.xy).toNat else none32
    if f.n ≤ 2 then { hours := hours, low := open' 1, high := open' 2 }
    else { hours := hours
           low := if f.steep true then largest (f.within true gap) 32 0 else none32
           high := if f.steep false then largest (f.within false gap) 32 0 else none32 }

/-- An item's prediction; none where no reading of it is held. -/
def State.predict (s : State) (code item : Nat) : Option Prediction :=
  match s.tel.points (itemKey code item) with
  | [] => none
  | (h, now) :: ps =>
    let gap := s.limitOf code - now
    if gap ≤ 0 then some ⟨0, 0, 0⟩
    else if 5 ≤ code then none
    else some ((fit ((h, now) :: ps)).predict gap (itemKey code item))

/-- The smallest hours among items, the earlier of equals: code, item and prediction. -/
def State.soonest (s : State) : List (Nat × Nat) → Option (Nat × Nat × Prediction)
  | [] => none
  | x :: xs =>
    match s.predict x.1 x.2, State.soonest s xs with
    | none, r => r
    | some p, none => some (x.1, x.2, p)
    | some p, some r => if p.hours ≤ r.2.2.hours then some (x.1, x.2, p) else some r

/-- Hours that a contributor predicts. -/
def State.contributor (s : State) (code : Nat) : Nat :=
  match s.soonest ((List.range (itemsOf code)).map (fun i => (code, i))) with
  | none => none32
  | some (_, _, p) => p.hours

/-- The module's prediction: code, detail and figures; code 0 where nothing predicts. -/
def State.life (s : State) : Nat × Nat × Prediction :=
  match s.soonest allItems with
  | none => (0, 0, ⟨none32, none32, none32⟩)
  | some (c, i, p) =>
    if p.hours = none32 then (0, 0, p) else (c, if c = 1 then i / 72 + 8 * (i % 72) else i, p)

/-- The module's status (R467). -/
def State.lifeStatus (s : State) (hours : Nat) : Nat :=
  if s.tel.readings.length < s.get .TEL_AGE_CFG_min_points 0 then 0 else if hours = 0 then 2 else 1

/-! ### AGEING_READING -/

/-- TEL_LIFE_* after a reading, and the warning of an entry into LIMIT_REACHED. -/
def State.publishLife (s : State) : State :=
  let (code, detail, p) := s.life
  let status := s.lifeStatus p.hours
  let old := s.get .TEL_LIFE_CAUSE_status 0
  let s := ((s.set .TEL_LIFE_HOURS_hours 0 p.hours).set .TEL_LIFE_LOW_low 0 p.low).set .TEL_LIFE_HIGH_high 0 p.high
  let s := ((s.set .TEL_LIFE_CAUSE_status 0 status).set .TEL_LIFE_CAUSE_code 0 code).set .TEL_LIFE_CAUSE_detail 0 detail
  if status = 2 ∧ old ≠ 2 then (s.set .TEL_STATUS_limit_reached 0 1).warn .healthLimit else s

/-- The health history's area in tier 1 is in firmware's own format, which is not defined (R462). -/
def State.writeHistory (s : State) : State :=
  if s.ringUp then
    let (n, s) := s.draw
    { s with tier1 := s.tier1.fill ⟨32 * 0x4FE140000, 32 * 0x4FE1C0000, n⟩ }
  else s

def ageingReading (xs : List (BitVec 16 × BitVec 16)) (s : State) : State :=
  let s := (s.readAges xs).writeHistory
  let s := { s with tel := { s.tel with readings := (s.reading :: s.tel.readings).take 168, ageSnap := s.accum } }
  s.publishLife

/-- Hours from the last reading, or from the reset. -/
def State.readingDue (s : State) : Bool :=
  let last := match s.tel.readings with | [] => 0 | r :: _ => r.hour
  decide (last + max 1 (s.get .TEL_AGE_CFG_period_h 0) ≤ s.hoursUp)

/-- AGEING_READING: the counts of the stressed and the reference oscillator of each region. -/
def execAgeingReading (xs : Vector (BitVec 16 × BitVec 16) 576) (s : State) : Host.Outcome State Fault Refusal :=
  occurs (s.firmwareRuns && s.readingDue) (ageingReading xs.toList) s

/-! ### The report (R468) -/

/-- The first index below `n` with the largest value. -/
def argMax (f : Nat → Nat) (n : Nat) : Nat := (List.range n).foldl (fun m i => if f i > f m then i else m) 0

/-- The first index below `n` with the smallest value. -/
def argMin (f : Nat → Nat) (n : Nat) : Nat := (List.range n).foldl (fun m i => if f i < f m then i else m) 0

/-- The predicted-life report of 64 bytes. -/
def State.healthReport (s : State) : List Byte :=
  let (code, detail, p) := s.life
  let r := argMax (s.get .TEL_AGE_d) 576
  let m := argMin (s.get .LNK_EYE_margin_min) 36
  withCrc (toLE 4 p.hours ++ toLE 4 p.low ++ toLE 4 p.high ++ toLE 1 (s.lifeStatus p.hours) ++ toLE 1 code ++ toLE 2 detail
    ++ toLE 4 s.tel.readings.length ++ toLE 4 s.hoursUp ++ toLE 2 (s.get .TEL_AGE_d r) ++ toLE 1 (r / 72) ++ toLE 1 (r % 72)
    ++ toLE 1 (s.get .LNK_EYE_margin_min m) ++ toLE 1 m ++ zeros 2
    ++ (List.range 6).flatMap (fun c => toLE 4 (s.contributor (c + 1))) ++ zeros 4)

/-! ### TEL_READ (R469) -/

/-- The record of a selector. -/
def State.telRecord (s : State) (selector : Nat) : Option (List Byte) :=
  match selector with
  | 0 => some (toLE 8 hubAreaBase ++ toLE 4 (s.get .TEL_CONG_COUNT_written 0) ++ toLE 4 (s.get .TEL_CONG_LOST_lost 0)
      ++ toLE 8 moduleRing ++ toLE 4 (s.get .TEL_MOD_COUNT_written 0) ++ toLE 4 (s.get .TEL_MOD_LOST_lost 0))
  | 1 => some s.tel.latest
  | 2 => some s.healthReport
  | 3 => some ((List.range 576).flatMap (fun r => toLE 4 (s.regValue .TEL_AGE r)))
  | 4 => some ((List.range 36).flatMap (fun p => toLE 1 (s.get .LNK_EYE_margin p) ++ toLE 1 (s.get .LNK_EYE_margin_min p)
      ++ toLE 1 (s.get .LNK_EYE_worst_lane p) ++ zeros 1 ++ toLE 4 (s.since [] .LNK_FEC_cw_uncorrectable p)))
  | _ => none

def telRead (f : Fetched) (s : State) : State :=
  match s.telRecord (f.par 8 1) with
  | none => s.complete f .paramInvalid 8
  | some b =>
    if f.par 24 4 < b.length then s.complete f .paramInvalid 24
    else (s.toHost (f.par 16 8) b).complete f .success b.length

/-- TEL_READ. -/
def execTelRead (q : QueueIx) (cid : Cid) (s : State) : Host.Outcome State Fault Refusal := hostCommand 0x50 q cid telRead s

end Sys2Proof.Machine
end

