-- ==== Sys2Proof/Machine/Mailbox.lean ====
section
/-! DEFINITION. Mailboxes, their services, and the life cycle (R417 to R430). -/

namespace Sys2Proof.Machine

/-! ### Locks (R419) -/

/-- A lock or doorbell refusal (R419, R420). -/
def State.lockDenied (s : State) (m : Nat) : State := (s.set .MGT_MBX_STATUS_lock_denied m 1).bump .MGT_ERR_lock_denied 0 1

/-- An agent reaches a mailbox: I3C mailbox 30 alone (R417). -/
def State.reaches (s : State) (a : Agent) (m : Nat) : Bool := s.agentUp a && (a ≠ .i3c || m == 30)

def lockRead (a : Agent) (m : Nat) (s : State) : State :=
  let o := s.get .MGT_MBX_STATUS_owner m
  if o = 0 then (s.set .MGT_MBX_STATUS_owner m (agentNumber a)).emit (.readData 0)
  else s.emit (.readData (if o = agentNumber a then 0 else o))

/-- MAILBOX_LOCK_READ: the lock is taken where it is free; its owner reads 0, any other agent the owner's number. -/
def execMailboxLockRead (a : Agent) (m : MbxIx) (s : State) : Host.Outcome State Fault Refusal :=
  occurs (s.reaches a m) (lockRead a m) s

def lockWrite (a : Agent) (m v : Nat) (s : State) : State :=
  let o := s.get .MGT_MBX_STATUS_owner m
  if v = 0xFF ∧ isSecure a then s.releaseLock m
  else if v = 0 ∧ o = 0 then s
  else if v = 0 ∧ o = agentNumber a then s.releaseLock m
  else s.lockDenied m

/-- MAILBOX_LOCK_WRITE: a release by the owner, a forced one, or a refusal. -/
def execMailboxLockWrite (a : Agent) (m : MbxIx) (v : Word) (s : State) : Host.Outcome State Fault Refusal :=
  occurs (s.reaches a m) (lockWrite a m (bits v.toNat 7 0)) s

/-! ### Requests (R420, R421) -/

def doorbell (a : Agent) (m len : Nat) (s : State) : State :=
  if s.get .MGT_MBX_STATUS_owner m ≠ agentNumber a then s.lockDenied m
  else if s.get .MGT_MBX_STATUS_busy m = 1 ∨ len = 0 ∨ len > 1984 then
    (s.set .MGT_MBX_STATUS_db_ignored m 1).bump .MGT_ERR_db_ignored 0 1
  else
    let s := (s.set .MGT_MBX_STATUS_busy m 1).set .MGT_MBX_STATUS_done m 0
    { s with mgmt := { s.mgmt with lengths := Table.set 0 s.mgmt.lengths m len, answers := s.mgmt.answers.erase m } }

/-- MAILBOX_DOORBELL: the owner submits a request. -/
def execMailboxDoorbell (a : Agent) (m : MbxIx) (v : Word) (s : State) : Host.Outcome State Fault Refusal :=
  occurs (s.reaches a m) (doorbell a m (bits v.toNat 10 0)) s

def bufferWrite (a : Agent) (m k : Nat) (v : Word) (s : State) : State :=
  if s.get .MGT_MBX_STATUS_owner m = agentNumber a then
    { s with mgmt := { s.mgmt with boxes := s.mgmt.boxes.writeBytes (4096 * m + 64 + 4 * k) (toLE 4 v.toNat) } }
  else (s.set .MGT_MBX_STATUS_lock_denied m 1).bump .MGT_ERR_access_denied 0 1

/-- MAILBOX_BUFFER_WRITE: a 32-bit write to word `k` of the page's buffers, from page offset 0x040. -/
def execMailboxBufferWrite (a : Agent) (m : MbxIx) (k : Fin 1008) (v : Word) (s : State) : Host.Outcome State Fault Refusal :=
  occurs (s.reaches a m) (bufferWrite a m k v) s

/-- Bytes of a mailbox's request, and its header. -/
def State.request (s : State) (m off n : Nat) : List Byte := s.mgmt.boxes.readBytes (4096 * m + 64 + off) n
def State.service (s : State) (m : Nat) : Nat := ofLE (s.request m 0 1)
def State.opcode (s : State) (m : Nat) : Nat := ofLE (s.request m 1 1)
def State.requestLength (s : State) (m : Nat) : Nat := Table.get 0 s.mgmt.lengths m

/-! ### Services (R418, R422) -/

/-- Opcodes of a service. -/
def serviceOps (service : Nat) : Nat :=
  match service with | 1 => 2 | 2 => 2 | 3 => 1 | 4 => 1 | 5 => 1 | 6 => 2 | _ => 0

/-- Does a mailbox's server run a service's opcode? In ROM recovery the boot ROM answers FW_UPDATE alone (R418). -/
def State.runs (s : State) (m service op : Nat) : Bool :=
  let listed := decide (1 ≤ op) && decide (op ≤ serviceOps service)
  if s.get .MGT_STATUS_rom_recovery 0 = 1 then service == 1 && listed
  else listed && ((service == 5 || service == 6) == (mailboxServer m == 0x10))

/-- The agents that the table allows a service's opcode, by number. -/
def allowed (service op owner : Nat) : Bool :=
  match service with
  | 1 => owner == 0x01 || owner == 0x30
  | 2 => owner == 0x01 || owner == 0x30
  | 3 => owner == 0x11 || owner == 0x12 || owner == 0x13 || owner == 0x30 || owner == 0x40
  | 4 => true
  | 5 => owner == 0x01 || owner == 0x30
  | _ => op == 1 || owner == 0x10 || owner == 0x20

/-- A request for a service's opcode is with a server that runs it, from an agent that may have it, and has no answer yet. -/
def State.serves (s : State) (m service op : Nat) : Bool :=
  s.hubUp && s.get .MGT_MBX_STATUS_busy m == 1 && s.service m == service && s.opcode m == op && s.runs m service op
    && allowed service op (s.get .MGT_MBX_STATUS_owner m) && (s.mgmt.answers.find? m).isNone

/-- A service's answer. -/
def State.answer (s : State) (m status : Nat) (body : List Byte) : State :=
  { s with mgmt := { s.mgmt with answers := s.mgmt.answers.put m ⟨status, body⟩ } }

/-- The status of a refusal to which the manual gives none (log entry 38). -/
def openStatus (kind : Nat) : Nat := 1 + (Config.refusedStatus kind).val

/-- The response: what the service answered, or UNKNOWN, or DENIED; none while the service has not run. -/
def State.response (s : State) (m : Nat) : Option Answer :=
  if !s.runs m (s.service m) (s.opcode m) then some ⟨1, []⟩
  else if !allowed (s.service m) (s.opcode m) (s.get .MGT_MBX_STATUS_owner m) then some ⟨2, []⟩
  else s.mgmt.answers.find? m

/-- The response's bytes (R421), cut to the buffer. -/
def State.responseBytes (s : State) (m : Nat) (x : Answer) : List Byte :=
  let body := x.body.take 2036
  s.request m 0 2 ++ toLE 1 x.status ++ zeros 1 ++ s.request m 4 4 ++ toLE 4 (12 + body.length) ++ body

/-- The server is done with a mailbox: busy falls, done rises, the response counts, the host may be told, and a release that
waited takes effect. -/
def State.endRequest (s : State) (m : Nat) : State :=
  let s := ((s.set .MGT_MBX_STATUS_busy m 0).set .MGT_MBX_STATUS_done m 1).set .MGT_MBX_STATUS_seq m (s.get .MGT_MBX_STATUS_seq m + 1)
  let s := { s with mgmt := { s.mgmt with lengths := s.mgmt.lengths.erase m, answers := s.mgmt.answers.erase m } }
  let s := if s.get .MGT_MBX_STATUS_owner m = 1 ∧ s.get .MGT_MBX_CFG_irq_en m = 1 then s.sendMsix (s.get .MGT_MBX_CFG_vector m) else s
  if s.mgmt.releases.contains m then
    { s with mgmt := { s.mgmt with releases := s.mgmt.releases.filter (fun k => k ≠ m) } }.freeLock m
  else s

def respond (m : Nat) (x : Answer) (s : State) : State :=
  let b := s.responseBytes m x
  (({ s with mgmt := { s.mgmt with boxes := s.mgmt.boxes.writeBytes (4096 * m + 2048) b } }).emit (.mailbox m b)).endRequest m

/-- MAILBOX_RESPONSE. -/
def execMailboxResponse (m : MbxIx) (s : State) : Host.Outcome State Fault Refusal :=
  match s.response m with
  | none => occurs false id s
  | some x => occurs (s.hubUp && s.get .MGT_MBX_STATUS_busy m == 1) (respond m x) s

/-- The bytes that a request of at most 1,984 bytes can carry behind its header (R417, R421). -/
def carried (b : List Byte) : List Byte := b.take 1976

/-! ### FW_UPDATE (R410) -/

/-- The image that is not running. -/
def State.spareImage (s : State) : Nat := 1 - s.get .MGT_BOOT_image 0

def fwWrite (m off : Nat) (data : List Byte) (s : State) : State :=
  if off + data.length > 2 ^ 25 then s.answer m 3 []
  else { s with mgmt := { s.mgmt with images := s.mgmt.images.writeBytes (2 ^ 25 * s.spareImage + off) data } }.answer m 0 []

/-- FW_UPDATE_WRITE: a chunk into the inactive image. How the request spells its offset and data is not given; the command
carries them. -/
def execFwUpdateWrite (m : MbxIx) (off : Word) (data : List Byte) (s : State) : Host.Outcome State Fault Refusal :=
  occurs (s.serves m 1 1) (fwWrite m off.toNat (carried data)) s

/-- The directory copy with the lower sequence number takes a new image. -/
def renewDirectory (image : Nat) (ds : List Directory) : List Directory :=
  match ds with
  | [x, y] => if x.seq < y.seq then [⟨y.seq + 1, image, true⟩, y] else [x, ⟨x.seq + 1, image, true⟩]
  | ds => ds

/-- Does the directory prefer an image? -/
def prefers (ds : List Directory) (image : Nat) : Bool :=
  match directory ds with | none => false | some d => d.preferred == image

def fwCommit (m : Nat) (x : ImageCheck) (s : State) : State :=
  if prefers s.mgmt.dirs s.spareImage then s.answer m 0 []
  else if imagePasses s.fused.minSecurity x then
    let s := { s with mgmt := { s.mgmt with dirs := renewDirectory s.spareImage s.mgmt.dirs } }
    ((s.set .MGT_BOOT_update_pending 0 1).set .MGT_BOOT_preferred 0 s.spareImage).answer m 0 []
  else s.answer m (openStatus 0) []

/-- FW_UPDATE_COMMIT: `x` is what the security block finds of the written image. -/
def execFwUpdateCommit (m : MbxIx) (x : ImageCheck) (s : State) : Host.Outcome State Fault Refusal :=
  occurs (s.serves m 1 2) (fwCommit m x) s

/-! ### CFG_BLOCK (R411, R414) -/

/-- A block as its copy stores it. -/
def CfgBlock.bytes (b : CfgBlock) : List Byte := b.head ++ toLE 4 b.crc ++ b.body

def cfgRead (m id : Nat) (s : State) : State :=
  let used := match decideBlock s.mgmt.copies id with | .used b _ => b.bytes | _ => []
  s.answer m 0 (Config.cfgAnswer used (s.mgmt.copies.map (fun c => match copyBlock c id with | some b => b.bytes | none => [])))

/-- CFG_BLOCK_READ: the block, and its copies' results. -/
def execCfgBlockRead (m : MbxIx) (id : BitVec 16) (s : State) : Host.Outcome State Fault Refusal :=
  occurs (s.serves m 2 1) (cfgRead m id.toNat) s

/-- A block with the CRC that its header carries. -/
def newBlock (id version : Nat) (body : List Byte) : CfgBlock :=
  let b : CfgBlock := { id := id, version := version, body := body, crc := 0 }
  { b with crc := crc32 (b.head ++ body) }

def cfgWrite (m id version : Nat) (body : List Byte) (done : Nat) (s : State) : State :=
  if id = 0xFFFF then s.answer m 3 []
  else
    let s := (List.range done).foldl (fun s c => s.putCopy c (newBlock id version body)) s
    if done = 3 then s.answer m 0 [] else s

/-- CFG_BLOCK_WRITE: copies A, B and C in turn; `done` of them were written before an interruption, 3 without one. -/
def execCfgBlockWrite (m : MbxIx) (id version : BitVec 16) (body : List Byte) (done : Fin 4) (s : State) :
    Host.Outcome State Fault Refusal :=
  occurs (s.serves m 2 2) (cfgWrite m id.toNat version.toNat (carried body) done) s

/-! ### FENCE and HEALTH -/

/-- The fences with those of a mask set or cleared. -/
def State.newFences (s : State) (mask : Nat) (set' : Bool) : Nat := if set' then s.fences ||| mask else s.fences ^^^ (s.fences &&& mask)

def fenceService (m mask : Nat) (set' : Bool) (s : State) : State :=
  let n := s.newFences mask set'
  if s.fencesHeld && (List.range 36).any (fun p => s.fenced p && !bit n p) then (s.writeFences n).answer m (openStatus 2) []
  else if n = s.fences then s.answer m 0 []
  else (s.writeFences n).answer m 0 []

/-- FENCE_SERVICE. -/
def execFenceService (m : MbxIx) (mask : BitVec 36) (set' : Bool) (s : State) : Host.Outcome State Fault Refusal :=
  occurs (s.serves m 3 1) (fenceService m mask.toNat set') s

/-- HEALTH: the report of R468. -/
def execHealth (m : MbxIx) (s : State) : Host.Outcome State Fault Refusal :=
  occurs (s.serves m 4 1) (fun s => s.answer m 0 s.healthReport) s

/-! ### Life cycle (R423 to R427) -/

/-- The transitions that R424 allows. -/
def mayMove (old new' : Nat) : Bool := (new' == old + 1 && decide (old ≤ 2)) || (new' == 4 && decide (old < 4))

/-- The first reason that refuses a record (R426). -/
def State.lcReason (s : State) (r : List Byte) : Option Nat :=
  if s.planLoaded then some 1
  else if s.mgmt.transition.isSome then some 2
  else if leAt r 0 8 ≠ s.fused.serial % 2 ^ 64 then some 3
  else if leAt r 8 1 ≠ s.fused.lifeCycle then some 4
  else if !mayMove (leAt r 8 1) (leAt r 9 1) then some 5
  else if leAt r 12 4 ≠ s.get .SEC_LC_NONCE_nonce 0 then some 6
  else if (Config.hmacSha384 s.fused.key (r.take 16)).toList ≠ slice r 16 48 then some 7
  else none

/-- A refusal is counted and recorded; the nonce is new after every request. -/
def State.lcDenied (s : State) (reason : Nat) : State :=
  ((s.bump .MGT_ERR_lc_denied 0 1).set .SEC_LC_last_denied 0 reason).drawNonce

/-- An accepted request starts its wipe (R427). -/
def State.lcAccept (s : State) (t : Transition) : State :=
  ({ (s.set .SEC_LC_busy 0 1) with mgmt := { s.mgmt with transition := some t } }.startWipe 2).drawNonce

def lifeCycle (m : Nat) (s : State) : State :=
  if s.requestLength m < 72 then s.answer m 3 []
  else
    let r := s.request m 8 64
    match s.lcReason r with
    | some n => (s.lcDenied n).answer m (openStatus 1) []
    | none => s.lcAccept ⟨leAt r 9 1, none, m⟩

/-- A mailbox's request is the transition in progress. -/
def State.lcWaits (s : State) (m : Nat) : Bool :=
  match s.mgmt.transition with | none => false | some t => t.cmd.isNone && t.mailbox == m

/-- LIFE_CYCLE: the record follows the request's header. -/
def execLifeCycle (m : MbxIx) (s : State) : Host.Outcome State Fault Refusal :=
  occurs (s.serves m 5 1 && !s.lcWaits m) (lifeCycle m) s

/-- LC_QUERY. -/
def execLcQuery (q : QueueIx) (cid : Cid) (s : State) : Host.Outcome State Fault Refusal :=
  hostCommand 0x70 q cid (fun f s => s.complete f .success (s.fused.lifeCycle)) s

def lcRequest (f : Fetched) (s : State) : State :=
  let r := slice f.packet 64 64
  if f.par 8 1 ≠ leAt r 9 1 then s.complete f .paramInvalid 8
  else
    match s.lcReason r with
    | some n => (s.lcDenied n).complete f .lcDenied n
    | none => (s.start f none).lcAccept ⟨leAt r 9 1, some (f.q, f.cid), 0⟩

/-- LC_REQUEST. -/
def execLcRequest (q : QueueIx) (cid : Cid) (s : State) : Host.Outcome State Fault Refusal := hostCommand 0x71 q cid lcRequest s

/-- The fuses take the target; the request completes; a package reset follows 1 ms later. -/
def lcFuse (t : Transition) (s : State) : State :=
  let s := { s with fused := { s.fused with lifeCycle := t.target }, mgmt := { s.mgmt with transition := none } }
  let s := s.set .SEC_LC_busy 0 0
  let s := match t.cmd with
    | none => s.answer t.mailbox 0 []
    | some (q, cid) =>
      match s.host.fetched.find? (fun (f : Fetched) => f.q == q && f.cid == cid && f.started && f.op == 0x71) with
      | none => s
      | some f => s.complete f .success 0
  s.packageResetIn 3 25000

/-- LC_FUSE_PROGRAM: once no wipe is in progress (R427, R430). -/
def execLcFuseProgram (s : State) : Host.Outcome State Fault Refusal :=
  match s.mgmt.transition with
  | none => occurs false id s
  | some t => occurs (s.powered && s.get .SEC_STATUS_wipe_busy 0 == 0) (lcFuse t) s

/-! ### SECURE_STORE (R422, R423, R428) -/

def secureWrite (m off : Nat) (data : List Byte) (s : State) : State :=
  if s.secretsRefused then s.answer m 4 []
  else if off + data.length > 2 ^ 18 then s.answer m 3 []
  else { s with mgmt := { s.mgmt with secure := s.mgmt.secure.writeBytes off data } }.answer m 0 []

/-- SECURE_STORE_WRITE: secret bytes into the secure scratch. -/
def execSecureStoreWrite (m : MbxIx) (off : Word) (data : List Byte) (s : State) : Host.Outcome State Fault Refusal :=
  occurs (s.serves m 6 1) (secureWrite m off.toNat (carried data)) s

def secureRead (m off n : Nat) (s : State) : State :=
  if s.secretsRefused then s.answer m 4 []
  else if off + n > 2 ^ 18 ∨ n > 2036 then s.answer m 3 []
  else s.answer m 0 (s.mgmt.secure.readBytes off n)

/-- SECURE_STORE_READ: for a secure agent. -/
def execSecureStoreRead (m : MbxIx) (off n : Word) (s : State) : Host.Outcome State Fault Refusal :=
  occurs (s.serves m 6 2) (secureRead m off.toNat n.toNat) s

end Sys2Proof.Machine
end

