-- ==== Sys2Proof/Machine/RegAccess.lean ====
section
/-! DEFINITION. Reads and writes of registers that have no row of their own, by their access codes (R11, R12, R406, R432, R458, R472). -/

namespace Sys2Proof.Machine

/-- The address of an access: BAR0 or BAR4, and an aligned offset. -/
def barOf (bar4 : Bool) : Nat := if bar4 then 4 else 0
/-- The register at an offset inside the BAR (R349). -/
def barReg (bar4 : Bool) (off : Nat) : Option (Reg × Nat) := if inBar (barOf bar4) off then regAt (barOf bar4) off else none

/-! ### Reads -/

/-- Registers whose read has a row of its own: the LO registers, which latch their HI registers, and the mailbox locks. -/
def ownRead : Reg → Bool
  | .BEAT_COUNT_LO | .PLN_START_LO | .PLN_BEAT_LO | .PLN_STOP_LO | .HBM_PLAN_LIMIT_LO | .HBM_UE_ADDR_LO | .TTM_PLAN_LIMIT_LO
  | .TTM_UE_ADDR_LO | .HST_AQ_SQ_LO | .HST_AQ_CQ_LO | .HST_EVT_BASE_LO | .LNK_PEER_LO | .TIL_HALT_BEAT_LO
  | .FLT_FATAL_BEAT_LO | .MGT_MBX_LOCK => true
  | _ => false

/-- A register's RC fields are cleared; their accumulators go on (R460). After a read of TIL_CANARY_WORST every div is larger than
those before it (R174). -/
def State.clearRead (s : State) (r : Reg) (i : Nat) : State :=
  let s := s.clearAll (r.fields.filter (fun f => f.access = .RC)) i
  if r = .TIL_CANARY_WORST then s.modTile i (fun x => { x with worst := none }) else s

/-- What a register reads as: a HI register the value that the agent's LO read latched; with none latched, its value as it
stands (DESIGN CHOICE, log entry 10: the rules have the LO register read first and give no other reading). -/
def State.readValue (s : State) (a : Agent) (r : Reg) (i : Nat) : Nat :=
  if latchedReg r then (s.latched a r i).getD (s.regValue r i) else s.regValue r i

def readReg (a : Agent) (r : Reg) (i : Nat) (s : State) : State :=
  if s.offline r then s.offlineRead else (s.clearRead r i).emit (.readData (s.readValue a r i))

/-- RC_READ: a read returns a register's value and clears its RC fields. -/
def execRcRead (a : Agent) (bar4 : Bool) (off : BitVec 26) (s : State) : Host.Outcome State Fault Refusal :=
  match barReg bar4 off.toNat with
  | none => occurs false id s
  | some (r, i) => occurs (s.agentUp a && !ownRead r) (readReg a r i) s

/-! ### Writes -/

/-- Registers whose write has a row of its own for every value. -/
def ownWrite : Reg → Bool
  | .BEAT_CTRL | .BEAT_REG_FSET | .FLD_SPAD_SECURE | .HBM_PLAN_LIMIT_LO | .HBM_PLAN_LIMIT_HI | .TTM_PLAN_LIMIT_LO
  | .TTM_PLAN_LIMIT_HI | .LNK_CFG | .LNK_TIMER | .RTE_FENCE_LO | .RTE_FENCE_HI | .RTE_TBL_ADDR | .RTE_TBL_DATA_HI
  | .SRV_OUT_HEAD | .MGT_MBX_LOCK | .MGT_MBX_DOORBELL | .HST_CTRL => true
  | _ => false

/-- Two-bit policies with 3 stored as 0 (R346). -/
def policies : Nat → Nat → Nat
  | 0, _ => 0
  | n + 1, v => (if v % 4 = 3 then 0 else v % 4) + 4 * policies n (v / 4)

/-- The value that a write stores in a field: the nearest one that its Meaning column allows. -/
def State.stored (s : State) (f : RegField) (i v : Nat) : Nat :=
  match f with
  | .BEAT_SKEW_LIMIT_warn_ps => max 500 (min v 8000)
  | .BEAT_SKEW_LIMIT_fatal_ps => max (s.get .BEAT_SKEW_LIMIT_warn_ps 0) (min v 8000)
  | .RTE_DYN_CFG_policy => policies 7 v
  | .RTE_DYN_CFG_esc_q => max 1 v
  | .HST_BAR2_BASE_base_gib => min v 639
  | .TEL_CTRL_period_measures => max 1024 v
  | .TEL_CTRL_stream_div => max 1 v
  | .TEL_AGE_CFG_limit_q => max 1 (min v 6553)
  | .TEL_AGE_CFG_period_h => max 1 v
  | .TEL_AGE_CFG_min_points => max 2 (min v 168)
  | _ => v

/-- An RWL field's lock bit is set (R73, R316). -/
def State.lockedField (s : State) (f : RegField) (i : Nat) : Bool :=
  if f.info.reg = .BEAT_SKEW_LIMIT then s.get .BEAT_CTRL_limit_lock 0 == 1 else s.get .LNK_CTRL_cfg_lock i == 1

/-- A field written by its access code (R12). -/
def State.writeField (s : State) (f : RegField) (i v : Nat) : State :=
  match f.access with
  | .RW => s.set f i (s.stored f i v)
  | .RWS => s.set f i (s.stored f i v)
  | .RWL => if s.lockedField f i then s else s.set f i (s.stored f i v)
  | .W1C => s.set f i (s.get f i - (s.get f i &&& v))
  | .W1S => s.set f i (s.get f i ||| v)
  | .RO => s
  | .WO => s
  | .RC => s

/-- A register written field by field. -/
def State.writeReg (s : State) (r : Reg) (i v : Nat) : State :=
  r.fields.foldl (fun s f => s.writeField f i (bits v (f.lo + f.width - 1) f.lo)) (s.unlatch r i)

/-- A register's write: the actions of its WO fields beside the plain ones. -/
def writeKind (r : Reg) (i v : Nat) (s : State) : State :=
  match r with
  | .LNK_CTRL => s.lnkCtrlWrite i v
  | .TIL_CTRL =>
    let s := s.writeReg .TIL_CTRL i v
    let s := if bit v 0 then tileHaltClear i s else s
    if bit v 1 then forceHalt i s else s
  | .PLN_CTRL => if bit v 1 then statsClear v s else s.writeReg .PLN_CTRL i v
  | .FLT_CTRL => fltCtrlWrite v s
  | .SEC_CTRL => if bit v 0 then s.startWipe 3 else s
  | r => s.writeReg r i v

/-- A refused write to the SEC_ block (R406, R432). -/
def State.secDenied (s : State) (a : Agent) : State := (if a = .host then s.hostDenied else s).set .SEC_STATUS_nonsec_denied 0 1

/-- The registers of the negotiation, whose writes have no effect while the interface is enabled (R353). -/
def negotiated : Reg → Bool
  | .HST_FEAT_REQ | .HST_AQ_SQ_LO | .HST_AQ_SQ_HI | .HST_AQ_CQ_LO | .HST_AQ_CQ_HI | .HST_AQ_CFG => true
  | _ => false

def registerWrite (a : Agent) (r : Reg) (i v : Nat) (s : State) : State :=
  if s.offline r then s
  else if negotiated r && s.get .HST_CTRL_enable 0 == 1 then s
  else if inBlock 0x20000 r && r.info.bar == 0 && !isSecure a then s.secDenied a
  else if inBlock 0x30000 r && r.info.bar == 0 && !writesFlt a then s
  else writeKind r i v s

/-- REGISTER_WRITE. -/
def execRegisterWrite (a : Agent) (bar4 : Bool) (off : BitVec 26) (v : Word) (s : State) : Host.Outcome State Fault Refusal :=
  match barReg bar4 off.toNat with
  | none => occurs false id s
  | some (r, i) => occurs (s.agentUp a && !ownWrite r) (registerWrite a r i v.toNat) s

end Sys2Proof.Machine
end

