-- ==== Sys2Proof/Machine/Dispatch.lean ====
section
/-! DEFINITION. Which meaning each command has: one arm for each constructor. -/

namespace Sys2Proof.Machine

def exec (i : Instr) (s : State) : Host.Outcome State Fault Refusal :=
  match i with
  | .coldReset => Sys2Proof.Machine.execColdReset s
  | .undervoltage => Sys2Proof.Machine.execUndervoltage s
  | .perstAssert => Sys2Proof.Machine.execPerstAssert s
  | .perstRelease => Sys2Proof.Machine.execPerstRelease s
  | .packageReset => Sys2Proof.Machine.execPackageReset s
  | .hubReady b => Sys2Proof.Machine.execHubReady b s
  | .attention => Sys2Proof.Machine.execAttention s
  | .tamper => Sys2Proof.Machine.execTamper s
  | .wipe => Sys2Proof.Machine.execWipe s
  | .thermalWarning cls temp => Sys2Proof.Machine.execThermalWarning cls temp s
  | .thermalTrip cls unitNo sensor temp => Sys2Proof.Machine.execThermalTrip cls unitNo sensor temp s
  | .powerStageOff => Sys2Proof.Machine.execPowerStageOff s
  | .refLost => Sys2Proof.Machine.execRefLost s
  | .pmbusPoll vin iin temp fault => Sys2Proof.Machine.execPmbusPoll vin iin temp fault s
  | .downbeat x => Sys2Proof.Machine.execDownbeat x s
  | .regionClockRestart r => Sys2Proof.Machine.execRegionClockRestart r s
  | .timeWord p frac => Sys2Proof.Machine.execTimeWord p frac s
  | .holdover => Sys2Proof.Machine.execHoldover s
  | .beatCtrlWrite a v => Sys2Proof.Machine.execBeatCtrlWrite a v s
  | .limitLock a => Sys2Proof.Machine.execLimitLock a s
  | .beatCountLoRead a frac => Sys2Proof.Machine.execBeatCountLoRead a frac s
  | .fsetWrite r v => Sys2Proof.Machine.execFsetWrite r v s
  | .planLoad q cid => Sys2Proof.Machine.execPlanLoad q cid s
  | .planArm q cid => Sys2Proof.Machine.execPlanArm q cid s
  | .startBeat => Sys2Proof.Machine.execStartBeat s
  | .stopAtMeasure q cid => Sys2Proof.Machine.execStopAtMeasure q cid s
  | .planUnload q cid => Sys2Proof.Machine.execPlanUnload q cid s
  | .planStatus q cid => Sys2Proof.Machine.execPlanStatus q cid s
  | .statsClear v => Sys2Proof.Machine.execStatsClear v s
  | .plnLoRead a which => Sys2Proof.Machine.execPlnLoRead a which s
  | .regionCheck ps => Sys2Proof.Machine.execRegionCheck ps s
  | .dueBeatCheck => Sys2Proof.Machine.execDueBeatCheck s
  | .secondCheck => Sys2Proof.Machine.execSecondCheck s
  | .toll r => Sys2Proof.Machine.execToll r s
  | .hubTollReceive => Sys2Proof.Machine.execHubTollReceive s
  | .seenEntryRetire r => Sys2Proof.Machine.execSeenEntryRetire r s
  | .finish p => Sys2Proof.Machine.execFinish p s
  | .stopDrainComplete => Sys2Proof.Machine.execStopDrainComplete s
  | .stopDrainTimeout => Sys2Proof.Machine.execStopDrainTimeout s
  | .nop t e => Sys2Proof.Machine.execNop t e s
  | .halt t e => Sys2Proof.Machine.execHalt t e s
  | .voice t e => Sys2Proof.Machine.execVoice t e s
  | .voiceLoadComplete t e => Sys2Proof.Machine.execVoiceLoadComplete t e s
  | .seed t e => Sys2Proof.Machine.execSeed t e s
  | .canary t e => Sys2Proof.Machine.execCanary t e s
  | .setc t e => Sys2Proof.Machine.execSetc t e s
  | .setcS t e => Sys2Proof.Machine.execSetcS t e s
  | .roll t e => Sys2Proof.Machine.execRoll t e s
  | .waitBeat t e => Sys2Proof.Machine.execWaitBeat t e s
  | .waitBeatRelease t e => Sys2Proof.Machine.execWaitBeatRelease t e s
  | .push t e => Sys2Proof.Machine.execPush t e s
  | .pull t e => Sys2Proof.Machine.execPull t e s
  | .setFlag t e => Sys2Proof.Machine.execSetFlag t e s
  | .waitFlag t e => Sys2Proof.Machine.execWaitFlag t e s
  | .clrFlag t e => Sys2Proof.Machine.execClrFlag t e s
  | .mma t e => Sys2Proof.Machine.execMma t e s
  | .mmaComplete t e => Sys2Proof.Machine.execMmaComplete t e s
  | .mmaPlane t e => Sys2Proof.Machine.execMmaPlane t e s
  | .mmaPlaneComplete t e => Sys2Proof.Machine.execMmaPlaneComplete t e s
  | .vrun t e => Sys2Proof.Machine.execVrun t e s
  | .vrunComplete t e => Sys2Proof.Machine.execVrunComplete t e s
  | .loadT1 t e => Sys2Proof.Machine.execLoadT1 t e s
  | .storeT1 t e => Sys2Proof.Machine.execStoreT1 t e s
  | .gatherT1 t e => Sys2Proof.Machine.execGatherT1 t e s
  | .fenceT1 t e => Sys2Proof.Machine.execFenceT1 t e s
  | .loadT2 t e => Sys2Proof.Machine.execLoadT2 t e s
  | .storeT2 t e => Sys2Proof.Machine.execStoreT2 t e s
  | .gatherT2 t e => Sys2Proof.Machine.execGatherT2 t e s
  | .scatterT2 t e => Sys2Proof.Machine.execScatterT2 t e s
  | .fenceT2 t e => Sys2Proof.Machine.execFenceT2 t e s
  | .tierAccessComplete t k e late ce ue => Sys2Proof.Machine.execTierAccessComplete t k e late ce ue s
  | .t1AccessTimeout t k => Sys2Proof.Machine.execT1AccessTimeout t k s
  | .queueWordArrival t q e => Sys2Proof.Machine.execQueueWordArrival t q e s
  | .flagSetArrival t q e => Sys2Proof.Machine.execFlagSetArrival t q e s
  | .queueWaitBound t e => Sys2Proof.Machine.execQueueWaitBound t e s
  | .flagWaitBound t e => Sys2Proof.Machine.execFlagWaitBound t e s
  | .sequencerParity t struct => Sys2Proof.Machine.execSequencerParity t struct s
  | .datapathParity t vector struct => Sys2Proof.Machine.execDatapathParity t vector struct s
  | .crossingOverflow r => Sys2Proof.Machine.execCrossingOverflow r s
  | .tileHaltClear t => Sys2Proof.Machine.execTileHaltClear t s
  | .forceHalt t => Sys2Proof.Machine.execForceHalt t s
  | .tilHaltBeatLoRead a t => Sys2Proof.Machine.execTilHaltBeatLoRead a t s
  | .backgroundTestStep t b found => Sys2Proof.Machine.execBackgroundTestStep t b found s
  | .patrolScrub st unitNo found => Sys2Proof.Machine.execPatrolScrub st unitNo found s
  | .t1StackFail st => Sys2Proof.Machine.execT1StackFail st s
  | .t2ChannelFail c => Sys2Proof.Machine.execT2ChannelFail c s
  | .fldSpadSecureWrite a d v => Sys2Proof.Machine.execFldSpadSecureWrite a d v s
  | .planLimitLoWrite tier2 v => Sys2Proof.Machine.execPlanLimitLoWrite tier2 v s
  | .planLimitHiWrite tier2 v => Sys2Proof.Machine.execPlanLimitHiWrite tier2 v s
  | .hbmTtmLoRead a r => Sys2Proof.Machine.execHbmTtmLoRead a r s
  | .linkDetect p => Sys2Proof.Machine.execLinkDetect p s
  | .identifyBlock p b => Sys2Proof.Machine.execIdentifyBlock p b s
  | .equalizeDone p ok => Sys2Proof.Machine.execEqualizeDone p ok s
  | .laneCheckDone p mask => Sys2Proof.Machine.execLaneCheckDone p mask s
  | .fecAlignDone p => Sys2Proof.Machine.execFecAlignDone p s
  | .flitSyncDone p => Sys2Proof.Machine.execFlitSyncDone p s
  | .trainingTimeout p => Sys2Proof.Machine.execTrainingTimeout p s
  | .idleHoldExpiry p => Sys2Proof.Machine.execIdleHoldExpiry p s
  | .flitRx p b cw => Sys2Proof.Machine.execFlitRx p b cw s
  | .flitTime p ft => Sys2Proof.Machine.execFlitTime p ft s
  | .repeatSend p => Sys2Proof.Machine.execRepeatSend p s
  | .nak p => Sys2Proof.Machine.execNak p s
  | .snak p => Sys2Proof.Machine.execSnak p s
  | .credit p => Sys2Proof.Machine.execCredit p s
  | .creditQuery p => Sys2Proof.Machine.execCreditQuery p s
  | .creditSend p => Sys2Proof.Machine.execCreditSend p s
  | .creditTimeout p v => Sys2Proof.Machine.execCreditTimeout p v s
  | .resetReq p => Sys2Proof.Machine.execResetReq p s
  | .replayTimeout p => Sys2Proof.Machine.execReplayTimeout p s
  | .gapTimeout p => Sys2Proof.Machine.execGapTimeout p s
  | .lockLoss p => Sys2Proof.Machine.execLockLoss p s
  | .linkBroken p => Sys2Proof.Machine.execLinkBroken p s
  | .lnkCtrlReset p v => Sys2Proof.Machine.execLnkCtrlReset p v s
  | .lnkCtrlEnable p v => Sys2Proof.Machine.execLnkCtrlEnable p v s
  | .cfgLock p v => Sys2Proof.Machine.execCfgLock p v s
  | .lnkCfgWrite p v => Sys2Proof.Machine.execLnkCfgWrite p v s
  | .lnkTimerWrite p v => Sys2Proof.Machine.execLnkTimerWrite p v s
  | .lnkPeerLoRead a p => Sys2Proof.Machine.execLnkPeerLoRead a p s
  | .tileWordToFlit t low => Sys2Proof.Machine.execTileWordToFlit t low s
  | .tableScrub r => Sys2Proof.Machine.execTableScrub r s
  | .contextRequest c => Sys2Proof.Machine.execContextRequest c s
  | .grant => Sys2Proof.Machine.execGrant s
  | .grantSend source vc => Sys2Proof.Machine.execGrantSend source vc s
  | .orderRestoration => Sys2Proof.Machine.execOrderRestoration s
  | .release => Sys2Proof.Machine.execRelease s
  | .idleRelease dest vc => Sys2Proof.Machine.execIdleRelease dest vc s
  | .abort => Sys2Proof.Machine.execAbort s
  | .escape vc => Sys2Proof.Machine.execEscape vc s
  | .rteFenceWrite a hi v => Sys2Proof.Machine.execRteFenceWrite a hi v s
  | .rteTblAddrWrite a v => Sys2Proof.Machine.execRteTblAddrWrite a v s
  | .rteTblDataHiWrite a v => Sys2Proof.Machine.execRteTblDataHiWrite a v s
  | .congestionSample stalls => Sys2Proof.Machine.execCongestionSample stalls s
  | .interfaceEnable => Sys2Proof.Machine.execInterfaceEnable s
  | .interfaceDisable => Sys2Proof.Machine.execInterfaceDisable s
  | .sqDoorbell q v => Sys2Proof.Machine.execSqDoorbell q v s
  | .cqDoorbell q v => Sys2Proof.Machine.execCqDoorbell q v s
  | .eventRingDoorbell v => Sys2Proof.Machine.execEventRingDoorbell v s
  | .commandFetch q slots heads => Sys2Proof.Machine.execCommandFetch q slots heads s
  | .nopCommand q cid => Sys2Proof.Machine.execNopCommand q cid s
  | .identify q cid => Sys2Proof.Machine.execIdentify q cid s
  | .featureGet q cid => Sys2Proof.Machine.execFeatureGet q cid s
  | .queueCreate q cid => Sys2Proof.Machine.execQueueCreate q cid s
  | .queueDelete q cid => Sys2Proof.Machine.execQueueDelete q cid s
  | .dmaWrite q cid e => Sys2Proof.Machine.execDmaWrite q cid e s
  | .dmaRead q cid e => Sys2Proof.Machine.execDmaRead q cid e s
  | .dmaComplete q cid => Sys2Proof.Machine.execDmaComplete q cid s
  | .fence q cid => Sys2Proof.Machine.execFence q cid s
  | .ingestPush q cid data hostFail => Sys2Proof.Machine.execIngestPush q cid data hostFail s
  | .ingestWindowClose stream part => Sys2Proof.Machine.execIngestWindowClose stream part s
  | .portStatus q cid => Sys2Proof.Machine.execPortStatus q cid s
  | .portReset q cid => Sys2Proof.Machine.execPortReset q cid s
  | .portEnable q cid => Sys2Proof.Machine.execPortEnable q cid s
  | .slotWrite q cid => Sys2Proof.Machine.execSlotWrite q cid s
  | .slotClear q cid => Sys2Proof.Machine.execSlotClear q cid s
  | .slotRead q cid => Sys2Proof.Machine.execSlotRead q cid s
  | .headsGate q cid => Sys2Proof.Machine.execHeadsGate q cid s
  | .telRead q cid => Sys2Proof.Machine.execTelRead q cid s
  | .faultStatus q cid => Sys2Proof.Machine.execFaultStatus q cid s
  | .faultClear q cid => Sys2Proof.Machine.execFaultClear q cid s
  | .dumpRead q cid e => Sys2Proof.Machine.execDumpRead q cid e s
  | .haltClear q cid => Sys2Proof.Machine.execHaltClear q cid s
  | .resetField q cid => Sys2Proof.Machine.execResetField q cid s
  | .resetPackage q cid => Sys2Proof.Machine.execResetPackage q cid s
  | .lcQuery q cid => Sys2Proof.Machine.execLcQuery q cid s
  | .lcRequest q cid => Sys2Proof.Machine.execLcRequest q cid s
  | .lcFuseProgram => Sys2Proof.Machine.execLcFuseProgram s
  | .bar2Access off last write data e => Sys2Proof.Machine.execBar2Access off last write data e s
  | .bar0InvalidAccess write => Sys2Proof.Machine.execBar0InvalidAccess write s
  | .reservedOffsetAccess write => Sys2Proof.Machine.execReservedOffsetAccess write s
  | .hstLoRead a which => Sys2Proof.Machine.execHstLoRead a which s
  | .pcieLinkDown => Sys2Proof.Machine.execPcieLinkDown s
  | .walkComplete => Sys2Proof.Machine.execWalkComplete s
  | .verifyBeat k beats => Sys2Proof.Machine.execVerifyBeat k beats s
  | .servingResultLost k => Sys2Proof.Machine.execServingResultLost k s
  | .servingBuildLate k => Sys2Proof.Machine.execServingBuildLate k s
  | .srvOutHeadWrite v => Sys2Proof.Machine.execSrvOutHeadWrite v s
  | .mailboxLockRead a m => Sys2Proof.Machine.execMailboxLockRead a m s
  | .mailboxLockWrite a m v => Sys2Proof.Machine.execMailboxLockWrite a m v s
  | .mailboxDoorbell a m v => Sys2Proof.Machine.execMailboxDoorbell a m v s
  | .mailboxResponse m => Sys2Proof.Machine.execMailboxResponse m s
  | .fwUpdateWrite m off data => Sys2Proof.Machine.execFwUpdateWrite m off data s
  | .fwUpdateCommit m x => Sys2Proof.Machine.execFwUpdateCommit m x s
  | .cfgBlockRead m id => Sys2Proof.Machine.execCfgBlockRead m id s
  | .cfgBlockWrite m id version body done => Sys2Proof.Machine.execCfgBlockWrite m id version body done s
  | .fenceService m mask toSet => Sys2Proof.Machine.execFenceService m mask toSet s
  | .health m => Sys2Proof.Machine.execHealth m s
  | .lifeCycle m => Sys2Proof.Machine.execLifeCycle m s
  | .secureStoreWrite m off data => Sys2Proof.Machine.execSecureStoreWrite m off data s
  | .secureStoreRead m off n => Sys2Proof.Machine.execSecureStoreRead m off n s
  | .fatalEntry places => Sys2Proof.Machine.execFatalEntry places s
  | .fatalReport => Sys2Proof.Machine.execFatalReport s
  | .reportRepeat => Sys2Proof.Machine.execReportRepeat s
  | .flashSummary => Sys2Proof.Machine.execFlashSummary s
  | .dumpWrite => Sys2Proof.Machine.execDumpWrite s
  | .fieldReset a v => Sys2Proof.Machine.execFieldReset a v s
  | .fieldResetComplete => Sys2Proof.Machine.execFieldResetComplete s
  | .hushEntry a v => Sys2Proof.Machine.execHushEntry a v s
  | .tiersSelfRefresh => Sys2Proof.Machine.execTiersSelfRefresh s
  | .relayEntry a v => Sys2Proof.Machine.execRelayEntry a v s
  | .returnToActive a v => Sys2Proof.Machine.execReturnToActive a v s
  | .fltFatalBeatLoRead a => Sys2Proof.Machine.execFltFatalBeatLoRead a s
  | .moduleRecord => Sys2Proof.Machine.execModuleRecord s
  | .ageingReading xs => Sys2Proof.Machine.execAgeingReading xs s
  | .rcRead a bar4 off => Sys2Proof.Machine.execRcRead a bar4 off s
  | .registerWrite a bar4 off v => Sys2Proof.Machine.execRegisterWrite a bar4 off v s
  | .machineBeat x => Sys2Proof.Machine.execMachineBeat x s
  | .refclkPodReturn => Sys2Proof.Machine.execRefclkPodReturn s
  | .tamperDeassert => Sys2Proof.Machine.execTamperDeassert s
  | .laneLockLost p lane => Sys2Proof.Machine.execLaneLockLost p lane s
  | .laneLockRegained p lane => Sys2Proof.Machine.execLaneLockRegained p lane s
  | .eyeMarginUpdate p margin lane => Sys2Proof.Machine.execEyeMarginUpdate p margin lane s
  | .mailboxBufferWrite a m k v => Sys2Proof.Machine.execMailboxBufferWrite a m k v s

end Sys2Proof.Machine
end

