-- ==== Sys2Proof/WellFormed.lean ====
section
/-! DEFINITION. Well-formed commands: what the types of the operands do not say. The meaning of every command is total: it cuts an
operand that is longer than the manual's form to what the form carries, so a command that is not well formed acts as the
well-formed one it is cut to. -/

namespace Sys2Proof

/-- Bytes that a mailbox request of at most 1,984 bytes can carry behind its header (R417, R421). -/
def carries (b : List Byte) : Bool := decide (b.length ≤ 1976)

/-- Well-formed commands. The operands of every command not named have their range in their type. -/
def Instr.wf : Instr → Bool
  | .fwUpdateWrite _ _ data => carries data
  | .cfgBlockWrite _ _ _ body _ => carries body
  | .secureStoreWrite _ _ data => carries data
  | _ => true

end Sys2Proof
end

