-- ==== Sys2Proof/Safety.lean ====
section
/-! DEFINITION. What claims about runs are stated in: the canonical form of memories and registers, and the life-cycle
invariant. -/

namespace Sys2Proof.Machine

/-- Every memory is in its canonical form. -/
def State.MemoryOk (s : State) : Bool :=
  s.spad.wf && s.tier1.wf && s.tier2.wf && s.mgmt.images.wf && s.mgmt.secure.wf && s.mgmt.boxes.wf

/-- A life-cycle transition under way is one that R424 allows from the present state. -/
def State.LifeOk (s : State) : Prop :=
  ∀ t, s.mgmt.transition = some t → mayMove s.fused.lifeCycle t.target = true

/-- The fused values other than the life-cycle state are the same. -/
def Fused.SamePart (x y : Fused) : Prop :=
  x.serial = y.serial ∧ x.gradeB = y.gradeB ∧ x.badRows = y.badRows ∧ x.fmax = y.fmax ∧ x.ratio = y.ratio ∧ x.key = y.key
    ∧ x.minSecurity = y.minSecurity

/-- The commands that leave every byte of every memory, the tiles and the die network as they are. -/
def leavesField (i : Instr) : Bool :=
  match i with
  | .undervoltage | .perstAssert | .perstRelease | .attention | .tamper | .thermalWarning .. | .thermalTrip ..
  | .powerStageOff | .refLost | .pmbusPoll .. | .downbeat .. | .regionClockRestart .. | .timeWord .. | .holdover
  | .beatCtrlWrite .. | .limitLock .. | .beatCountLoRead .. | .fsetWrite .. | .planArm .. | .stopAtMeasure ..
  | .planStatus .. | .statsClear .. | .plnLoRead .. | .regionCheck .. | .toll .. | .hubTollReceive
  | .seenEntryRetire .. | .finish .. | .stopDrainComplete | .stopDrainTimeout | .crossingOverflow .. | .patrolScrub ..
  | .t1StackFail .. | .t2ChannelFail .. | .fldSpadSecureWrite .. | .planLimitLoWrite .. | .planLimitHiWrite ..
  | .hbmTtmLoRead .. | .linkDetect .. | .identifyBlock .. | .equalizeDone .. | .laneCheckDone .. | .fecAlignDone ..
  | .flitSyncDone .. | .trainingTimeout .. | .idleHoldExpiry .. | .flitTime .. | .repeatSend .. | .nak .. | .snak ..
  | .credit .. | .creditQuery .. | .creditSend .. | .creditTimeout .. | .resetReq .. | .replayTimeout .. | .gapTimeout ..
  | .lockLoss .. | .linkBroken .. | .lnkCtrlReset .. | .lnkCtrlEnable .. | .cfgLock .. | .lnkCfgWrite .. | .lnkTimerWrite ..
  | .lnkPeerLoRead .. | .tableScrub .. | .contextRequest .. | .grant | .grantSend .. | .orderRestoration | .release
  | .idleRelease .. | .abort | .escape .. | .rteFenceWrite .. | .rteTblAddrWrite .. | .rteTblDataHiWrite ..
  | .interfaceEnable | .interfaceDisable | .sqDoorbell .. | .cqDoorbell .. | .eventRingDoorbell .. | .commandFetch ..
  | .nopCommand .. | .identify .. | .featureGet .. | .queueCreate .. | .queueDelete .. | .dmaComplete .. | .fence ..
  | .portStatus .. | .portReset .. | .portEnable .. | .slotWrite .. | .slotClear .. | .slotRead .. | .headsGate ..
  | .telRead .. | .faultStatus .. | .faultClear .. | .resetPackage .. | .lcQuery .. | .bar0InvalidAccess ..
  | .reservedOffsetAccess .. | .hstLoRead .. | .pcieLinkDown | .servingResultLost .. | .servingBuildLate ..
  | .srvOutHeadWrite .. | .mailboxLockRead .. | .mailboxLockWrite .. | .mailboxDoorbell .. | .mailboxResponse ..
  | .fwUpdateCommit .. | .cfgBlockRead .. | .cfgBlockWrite .. | .fenceService .. | .health .. | .secureStoreRead ..
  | .fatalReport | .reportRepeat | .flashSummary | .fieldResetComplete | .fltFatalBeatLoRead ..
  | .refclkPodReturn | .tamperDeassert | .laneLockLost .. | .laneLockRegained .. | .eyeMarginUpdate ..
  | .mailboxBufferWrite .. => true
  | _ => false

/-- From `s` the command answers a next state of which `P` holds: how claims say that a command completes, and what it does. -/
def State.Runs (s : State) (c : Instr) (P : State → Prop) : Prop := ∃ t, exec c s = .next t ∧ P t

/-- Every byte of every memory reads in `t` as in `s`: scratchpads, both tiers, the secure scratch, the firmware images. -/
def SameBytes (s t : State) : Prop :=
  ∀ a, t.spad.read a = s.spad.read a ∧ t.tier1.read a = s.tier1.read a ∧ t.tier2.read a = s.tier2.read a
    ∧ t.mgmt.secure.read a = s.mgmt.secure.read a ∧ t.mgmt.images.read a = s.mgmt.images.read a

/-- The tiles and the die network are as they were. -/
def SameTiles (s t : State) : Prop := t.tiles = s.tiles ∧ t.dn = s.dn ∧ t.dnSeq = s.dnSeq ∧ t.dnWait = s.dnWait ∧ t.spadErr = s.spadErr

/-- Every register field not listed reads as it did. -/
def SameRegs (fs : List RegField) (s t : State) : Prop := ∀ f i, f ∉ fs → t.get f i = s.get f i

/-- The time base, the plan engine, the ports, the router, the host interface and the serving engines are as they were. -/
def SameEngines (s t : State) : Prop :=
  t.time = s.time ∧ t.plan = s.plan ∧ t.ports = s.ports ∧ t.router = s.router ∧ t.host = s.host ∧ t.serving = s.serving

/-- The management plane, the fault path, the power control and telemetry are as they were. -/
def SameMgmt (s t : State) : Prop := t.mgmt = s.mgmt ∧ t.fault = s.fault ∧ t.pwr = s.pwr ∧ t.tel = s.tel

/-- The host command of queue `q` and identifier `cid` is fetched, carries the opcode and may start (R357, R368). -/
def State.Ready (s : State) (q : QueueIx) (cid : Cid) (op : Nat) (f : Fetched) : Prop :=
  s.hubUp = true ∧ s.command? q.val cid.toNat = some f ∧ f.op = op ∧ s.canStart f = true

/-- The command has left the list, and its completion with its MSI-X message has gone to the host (R357, R360): said for queues that
are not being deleted, and for commands whose queue was not closed. -/
def Completed (f : Fetched) (c : Cc) (r : Nat) (s t : State) : Prop :=
  (∀ x, s.queue? f.q = some x → x.deleting = none) →
    t.host.fetched = removeFirst (fun g => g.same f) s.host.fetched ∧
    ∀ x, s.queue? f.q = some x → f.mute = false →
      .hostWrite (x.cqBase + 16 * x.cqTail) (cqe f.q f.cid f.sqHead c.code x.phase r) false ∈ t.out ∧ .msix x.vector ∈ t.out

/-- The staged serving commands with one more in its place: behind those fetched before it, and before those fetched later (R363). -/
def State.stagedWith (s : State) (f : Fetched) (e : Staged) : List Staged :=
  let before := s.serving.staged.takeWhile (fun x => !s.fetchedLater f x)
  before ++ e :: s.serving.staged.drop before.length

/-! ### Tile instructions -/

/-- The command of an instruction, by its opcode (R182). -/
def tileInstr (op : Nat) (t : TileIx) (e : Nat) : Instr :=
  match op with
  | 0x00 => .nop t e | 0x01 => .halt t e | 0x02 => .voice t e | 0x03 => .seed t e | 0x04 => .canary t e | 0x05 => .setc t e
  | 0x06 => .setcS t e | 0x08 => .roll t e | 0x09 => .waitBeat t e | 0x10 => .push t e | 0x11 => .pull t e | 0x18 => .setFlag t e
  | 0x19 => .waitFlag t e | 0x1A => .clrFlag t e | 0x20 => .mma t e | 0x21 => .mmaPlane t e | 0x28 => .vrun t e
  | 0x30 => .loadT1 t e | 0x31 => .storeT1 t e | 0x32 => .gatherT1 t e | 0x33 => .fenceT1 t e | 0x34 => .loadT2 t e
  | 0x35 => .storeT2 t e | 0x36 => .gatherT2 t e | 0x37 => .scatterT2 t e | _ => .fenceT2 t e

/-- What the rules of an instruction check at its issue, beside its post. -/
def checksOf (op : Nat) (i : Issue) : List Cond :=
  match op with
  | 0x01 => [cond .programHalt i.pc (bits i.w 29 22)]
  | 0x02 => voiceConds i | 0x08 => rollConds i | 0x10 => pushConds i | 0x11 => pullConds i
  | 0x19 => check (bits i.w 51 38 == 0) (cond .boundZero i.pc 0x19)
  | 0x20 => mmaConds i | 0x21 => planeConds i | 0x28 => vrunConds i | 0x30 => loadConds 1 i | 0x31 => loadConds 1 i
  | 0x32 => gatherConds 1 i | 0x34 => loadConds 2 i | 0x35 => loadConds 2 i | 0x36 => gatherConds 2 i | 0x37 => gatherConds 2 i
  | _ => []

/-- Cycle `e` of tile `t` has begun: the cycles before it have passed, and what is visible from it on is (log entry 23). -/
def State.entered (s : State) (t e : Nat) : State := s.begin.enterCycle t e

/-- Tile `t` issues word `w` with opcode `op` in cycle `e`, which has not passed: it may issue, the word passes the decode checks
(R206), and its wait token is taken or none is asked for (R132). `y` is the tile at the issue. -/
def State.Issues (s : State) (t e op w : Nat) (y : Tile) : Prop :=
  s.tileEvent t e = true ∧ ∃ v x, v = s.entered t e ∧ x = v.tile t ∧ v.canIssue t e = true ∧ v.spadWord t x.pc = w
    ∧ opcodeOf w = op ∧ decodeConds x x.pc w = [] ∧ ∃ z, tokenWait x x.pc w = .go z ∧ y = { z with tokenStall := false }

/-- The issue itself: the state with the tile `y`, and the instruction's words. -/
def State.issue (s : State) (t : TileIx) (e w : Nat) (y : Tile) : Issue :=
  ⟨(s.entered t e).setTile t y, t, e, y.pc, w, (List.range (extOf w)).map (fun k => (s.entered t e).spadWord t (y.pc + 1 + k))⟩

/-- An instruction's post can be made at once: it posts no token, or one that is not on the board (R133). -/
def Tile.canPost (y : Tile) (w : Nat) : Prop := postOf w = 0 ∨ bit y.board (postOf w) = false

/-- The tile with an instruction's post on its board. -/
def Tile.posted (y : Tile) (w : Nat) : Tile := if postOf w = 0 then y else { y with board := y.board + 2 ^ postOf w }

/-- A tile is halted, with this record of it (R138, R139, R204). -/
def HaltedWith (u : State) (t : Nat) (c : Cond) : Prop :=
  (u.tile t).halted = true ∧ u.get .TIL_HALT_REASON_valid t = 1 ∧ u.get .TIL_HALT_REASON_reason t = c.code % 2 ^ 8
    ∧ u.get .TIL_HALT_PC_pc t = c.pc % 2 ^ RegField.width .TIL_HALT_PC_pc ∧ u.get .TIL_HALT_DETAIL_detail t = c.detail % 2 ^ 32

/-- Nothing but tile `t` differs: no other tile, no byte, no register, no engine. -/
def OnlyTile (t : Nat) (s u : State) : Prop :=
  (∀ k, k ≠ t → u.tile k = s.tile k) ∧ SameBytes s u ∧ u.regs = s.regs ∧ SameEngines s u ∧ SameMgmt s u ∧ u.dn = s.dn
    ∧ u.spadErr = s.spadErr ∧ u.raised = s.raised

/-! ### The work of a tile's units -/

/-- No unit of the list holds a stored error. -/
def State.unitsGood (s : State) (t : Nat) (us : List Nat) : Prop := ∀ u ∈ us, s.spadErr.find? (2 ^ 15 * t + u) = none

/-- Byte `b` of the stream that a list of units makes (R226). -/
def State.streamByte (s : State) (t : Nat) (us : List Nat) (b : Nat) : Byte := (s.spadUnit t (us.getD (b / 32) 0)).getD (b % 32) 0

/-- The units that row `k` of an MMA reads. -/
def MmaOp.rowUnits (m : MmaOp) (pl : Plane) (k : Nat) : List Nat :=
  let r := rowIndices ((Fmt.ofCode m.afmt).getD .mxfp4) pl.depth pl.k0 (modeDepth m.mode) k
  (r.1.map (fun i => m.elems.getD i 0) ++ r.2.map (fun i => m.scales.getD i 0)).eraseDups

/-- The accumulator row that row `k` of an MMA makes of an old one, its activations read from scratchpad (R164 to R168, R226). -/
def MmaOp.rowAfter (m : MmaOp) (s : State) (t : Nat) (pl : Plane) (k : Nat) (old : AccRow) : AccRow :=
  (addRow pl m.init m.mode m.x (rowActs ((Fmt.ofCode m.afmt).getD .mxfp4) pl.depth pl.k0 (modeDepth m.mode) k
    (s.streamByte t m.elems) (s.streamByte t m.scales)) old).1

/-- The 64 lanes of a micro-op's source that is a vector register, zero or the lane number (R230). -/
def regSource (vregs : Table (List Nat)) (sel : Nat) : List Lane :=
  if sel < 16 then (Table.get (List.replicate 64 0) vregs sel).map laneOf
  else if sel = 0x18 then List.replicate 64 (laneOf 0)
  else (List.range 64).map (fun l => laneOfVal (.fin false l 0))

/-- A micro-op between registers alone. -/
def Micro.onRegs (m : Micro) : Prop := m.opcode ≠ 0x98 ∧ m.dst < 16 ∧ ∀ r ∈ m.sources, r < 16 ∨ r = 0x18 ∨ r = 0x19

/-- The result of a micro-op between registers (R233). -/
def Micro.result (img : List Byte) (vregs : Table (List Nat)) (m : Micro) : List Nat :=
  lanesResult img m (regSource vregs m.a) (regSource vregs m.b) (regSource vregs m.c)

/-! ### Packets -/

/-- A packet of this module with this route field has been queued at its deterministic port, where its entry names a port that is not
fenced and no copy of an entry is bad (R327, R332, R340). -/
def Queued (s t : State) (rim route vc : Nat) (payloads : List (List Byte)) : Prop :=
  ∀ q, q = entryDet (s.routeEntry route) → entryValid (s.routeEntry route) = true → q < 36 → s.fenced q = false → s.router.flaws = [] →
    routeDest' route ≠ s.deviceId → (t.port q).dyn = (s.port q).dyn ++ s.packetFlits rim route vc s.router.packets payloads

end Sys2Proof.Machine
end

