-- ==== Sys2Proof/Certificates/Slice0/Obligations.lean ====
section
/-! DEFINITION. What the provers are asked to prove of the model. Statements name the rules of the manual they formalise. A
conclusion `s.Runs c P` says that `exec c s` answers a next state of which `P` holds. -/

open Sys2Proof Sys2Proof.Machine

/-! ### The queue, well-formed commands, the life cycle -/

/-- A step is the command at the front of the queue, run on the state with the queue's rest; an empty queue idles (log entry 9:
the queue is the model's). -/
def Obligations.StepRunsFrontCommand : Prop :=
  (∀ c rest (s : State), s.pending = c :: rest → step s = exec c { s with pending := rest }) ∧ ∀ (s : State), s.pending = [] → step s = .next s

/-- Every command completes in every state: none faults and none is refused. No command changes the queue: a step takes the
front command away and nothing else. -/
def Obligations.CommandsCompleteAndKeepQueue : Prop :=
  (∀ (c : Instr) (s : State), ∃ t, exec c s = .next t) ∧
  ((∀ (c : Instr) (s t : State), exec c s = .next t → t.pending = s.pending) ∧ ∀ (s t : State), step s = .next t → t.pending = s.pending.tail)

/-- R424, R426, R427: a transition under way is always one that R424 allows from the fused state; every step keeps that. -/
def Obligations.LifeCycleInvariantKept : Prop :=
  ∀ (s t : State), s.LifeOk → step s = .next t → t.LifeOk

/-- No transition is under way at reset. -/
def Obligations.LifeCycleInvariantAtReset : Prop :=
  State.reset.LifeOk

/-- R424: a step leaves the life-cycle state as it is or moves it along one of the allowed transitions, and none leads back.
R423, R427: the fuses change only where LC_FUSE_PROGRAM ends a transition; no command changes any other fused value. -/
def Obligations.LifeCycleOnlyMovesForward : Prop :=
  (∀ (s t : State), s.LifeOk → step s = .next t → t.fused.lifeCycle ≠ s.fused.lifeCycle →
    (s.fused.lifeCycle = 0 ∧ t.fused.lifeCycle = 1) ∨ (s.fused.lifeCycle = 1 ∧ t.fused.lifeCycle = 2)
      ∨ (s.fused.lifeCycle = 2 ∧ t.fused.lifeCycle = 3) ∨ (s.fused.lifeCycle < 4 ∧ t.fused.lifeCycle = 4)) ∧
  (∀ (c : Instr) (s t : State), exec c s = .next t →
    s.fused.SamePart t.fused ∧ (c ≠ .lcFuseProgram → t.fused.lifeCycle = s.fused.lifeCycle))

/-- What the manual gives for reset (R13, R29, R31, R46, R83, R423, R440): powered, the hub not ready, time FREE with depth 15,
no plan, Active, no fatal entry, every port DISABLED and fenced, the factory's life-cycle state, and every register field at its
Reset value. -/
def Obligations.ResetState : Prop :=
  State.reset.hubUp = false ∧ State.reset.timeState = .free ∧ State.reset.get .BEAT_STATUS_depth 0 = 15
    ∧ State.reset.time.beat = 0 ∧ State.reset.planState = .idle ∧ State.reset.power = .active
    ∧ State.reset.fatalActive = false ∧ State.reset.fused.lifeCycle = 1
    ∧ (∀ p < 36, State.reset.train p = .disabled ∧ State.reset.fenced p = true)
    ∧ (∀ f i, State.reset.get f i = defaultOf State.reset.fused f i) ∧ State.reset.MemoryOk = true ∧ State.reset.pending = []

/-! ### Resets, power and pins -/

/-- R25, R433, R436, R438: a cold reset starts a module that is off, a package reset one whose reset is due; both leave the
fuses, flash and the queue, end a transition, stop everything else, and a package reset records its cause. R32: VIN_54 below 44
V stops the module, without a dump; R38: the power stage goes off 50 ms after a trip. -/
def Obligations.ResetsAndPowerLoss : Prop :=
  ((∀ (s : State), s.powered = false → s.Runs .coldReset (fun t => t.powered = true ∧ t.perst = false ∧ t.pcie = false ∧ t.tiles = [] ∧ t.ports = [] ∧ t.plan = PlanEngine.reset
      ∧ t.host = HostIf.reset ∧ t.mgmt.secure = Memory.empty ∧ t.mgmt.transition = none ∧ t.fused = s.fused
      ∧ t.mgmt.images = s.mgmt.images ∧ t.pending = s.pending
      ∧ ∀ f i, f ≠ .SEC_LC_NONCE_nonce → t.get f i = defaultOf s.fused f i)) ∧
  (∀ (s : State) x, s.pkgReset = some x → s.powered = true → s.tripped = false → x.due ≤ s.time.tick →
    s.Runs .packageReset (fun t => t.powered = true ∧ t.perst = s.perst ∧ t.pcie = false ∧ t.tiles = [] ∧ t.ports = [] ∧ t.plan = PlanEngine.reset
      ∧ t.host = HostIf.reset ∧ t.mgmt.secure = Memory.empty ∧ t.mgmt.transition = none ∧ t.pkgReset = none ∧ t.fused = s.fused
      ∧ t.mgmt.images = s.mgmt.images ∧ t.pending = s.pending ∧ t.time.tick = s.time.tick
      ∧ t.get .FLT_LAST_RESET_cause 0 = x.cause % 2 ^ RegField.width .FLT_LAST_RESET_cause))) ∧
  ((∀ (s : State), s.powered = true → exec .undervoltage s = .next { s.begin with powered := false, pcie := false }) ∧
  (∀ (s : State) k, s.powered = true → s.tripTick = some k → k + 1250000 ≤ s.time.tick →
    exec .powerStageOff s = .next { s.begin with powered := false, pcie := false, tripTick := none }))

/-- R29, R31, R408, R409: hub ready. Of the images that the directory names, the preferred one starts where it passes its
checks, else the other as the fallback; with neither the module is in ROM recovery, with feature 0 alone on offer. Ports whose
enable is 1 leave DISABLED for DETECT, and all stay fenced; PCIe may train where PERST# is high. -/
def Obligations.HubReadyBoots : Prop :=
  ∀ (b : BootIn) (s : State), s.powered = true → s.get .HST_STATUS_hub_ready 0 = 0 →
    s.Runs (.hubReady b) (fun t => t.get .HST_STATUS_hub_ready 0 = 1 ∧ t.hubUp = true ∧ t.readyTick = some s.time.tick
      ∧ t.deviceId = b.straps.toNat ∧ t.pcie = s.perst ∧ t.tiles = s.tiles ∧ t.get .MGT_BOOT_boot_ms 0 = b.ms.toNat
      ∧ (∀ d, directory s.mgmt.dirs = some d → t.get .MGT_BOOT_preferred 0 = d.preferred % 2)
      ∧ (∀ p < 36, s.get .LNK_CTRL_enable p = 1 → t.train p = .detect) ∧ (∀ p < 36, t.fenced p = s.fenced p)
      ∧ ∀ r, r = bootImage s.mgmt.dirs (fun i => imagePasses s.fused.minSecurity (if i = 0 then b.image0 else b.image1)) →
          (r = none → t.get .MGT_STATUS_rom_recovery 0 = 1 ∧ t.get .HST_FEAT_SUP_sup 0 = 1) ∧
          (∀ i f, r = some (i, f) → t.get .MGT_BOOT_image 0 = i % 2 ∧ t.get .MGT_BOOT_fallback 0 = ofBool f
            ∧ t.get .MGT_FW_VERSION_version 0 = (if i = 0 then b.image0 else b.image1).version.toNat
            ∧ t.get .MGT_STATUS_rom_recovery 0 = s.get .MGT_STATUS_rom_recovery 0))

/-- R24, R30: PERST# low takes PCIe down, and after hub ready it asks for a package reset at once; PERST# high lets PCIe train
where the hub is ready and no reset is to start. Neither changes a byte of memory, a tile or a register. R24: the attention
button is reported to the driver, as event 5, and to the management plane; it resets nothing. -/
def Obligations.PcieResetAndAttention : Prop :=
  ((∀ (s : State), s.perst = true → s.Runs .perstAssert (fun t => t.perst = false ∧ t.pcie = false
      ∧ (s.hubUp = false → t.pkgReset = s.pkgReset)
      ∧ (s.hubUp = true → (∃ x, t.pkgReset = some x ∧ x.due ≤ s.time.tick)
          ∧ (s.pkgReset = none → t.pkgReset = some ⟨1, s.time.tick⟩))
      ∧ SameBytes s t ∧ SameTiles s t ∧ t.regs = s.regs)) ∧
  (∀ (s : State), s.perst = false → exec .perstRelease s
      = .next { s.begin with perst := true, pcie := s.hubUp && s.pkgReset.isNone })) ∧
  (∀ (s : State), s.hubUp = true → exec .attention s = .next ((s.begin.event 5 []).emit (.firmware 24 0)))

/-- R428, R429, R430: TAMPER# is latched, counted and warned of, and starts a wipe; when a wipe ends the secure scratch and the
secure windows of running dies hold zeros, whatever a test step's shadow held, and no other byte has changed; TAMPER# low clears
the level and nothing else. -/
def Obligations.TamperWipes : Prop :=
  (∀ (s : State) k, s.hubUp = true → s.readyTick = some k → k + 250000 ≤ s.time.tick → s.get .SEC_TAMPER_level 0 = 0 →
    s.Runs .tamper (fun t => t.get .SEC_TAMPER_level 0 = 1 ∧ t.get .SEC_TAMPER_seen 0 = 1 ∧ t.get .SEC_STATUS_wipe_busy 0 = 1
      ∧ bit (t.get .FLT_WARN_pending 0) Warn.tamper.bit = true ∧ SameBytes s t ∧ SameTiles s t)) ∧
  (∀ (s : State), s.powered = true → s.get .SEC_STATUS_wipe_busy 0 = 1 →
    s.Runs .wipe (fun t => t.get .SEC_STATUS_wipe_busy 0 = 0 ∧ (∀ a < 2 ^ 18, t.mgmt.secure.read a = 0)
      ∧ (s.fieldUp = true → ∀ r ∈ s.windows, ∀ a, r.1 ≤ a → a < r.2 → t.spad.read a = 0)
      ∧ (∀ a, (∀ r ∈ s.windows, a < r.1 ∨ r.2 ≤ a) → t.spad.read a = s.flushTests.spad.read a)
      ∧ t.tier1 = s.tier1 ∧ t.tier2 = s.tier2 ∧ ((∀ e ∈ s.tiles, e.2.tests = []) → t.tiles = s.tiles ∧ s.flushTests.spad = s.spad))) ∧
  (∀ (s : State), s.powered = true → s.get .SEC_TAMPER_level 0 = 1 → exec .tamperDeassert s = .next (s.begin.set .SEC_TAMPER_level 0 0))

/-- R38: at a warning point ALERT1#'s source is pending and no clock, tile or byte changes; at a trip point the module is on its
way into the fatal path with THERMAL_TRIP, and only a cold reset brings it back. R416: a poll of the power stage records
voltage, current and temperature, and warns of a fault bit and of an input below 48 V. -/
def Obligations.TemperatureAndPowerStage : Prop :=
  (∀ (k : Fin 7) (c : BitVec 8) (s : State), s.powered = true → (tempLimits k).1 ≤ c.toNat →
    s.Runs (.thermalWarning k c) (fun t => bit (t.get .FLT_WARN_pending 0) Warn.thermal.bit = true ∧ t.time = s.time
      ∧ t.plan = s.plan ∧ SameBytes s t ∧ SameTiles s t)) ∧
  (∀ (k : Fin 7) (u : Fin 16) (n : Fin 128) (c : BitVec 8) (s : State), s.powered = true → (tempLimits k).2 ≤ c.toNat →
    s.Runs (.thermalTrip k u n c) (fun t => t.raised = s.raised ++ [⟨.thermalTrip, thermalDetail k u n c.toNat % 2 ^ 32⟩]
      ∧ t.tripped = true ∧ t.tripTick ≠ none ∧ t.regs = s.regs ∧ SameBytes s t ∧ SameTiles s t)) ∧
  (∀ (v i c : BitVec 8) f (s : State), s.hubUp = true → s.Runs (.pmbusPoll v i c f) (fun t => t.get .MGT_PMBUS_vin_q 0 = v.toNat
      ∧ t.get .MGT_PMBUS_iin_q 0 = i.toNat ∧ t.get .MGT_PMBUS_stage_temp 0 = c.toNat
      ∧ (f = true → t.get .MGT_PMBUS_stage_fault 0 = 1 ∧ bit (t.get .FLT_WARN_pending 0) Warn.powerStage.bit = true)
      ∧ (v.toNat < 192 → t.get .MGT_PMBUS_vin_low 0 = 1 ∧ bit (t.get .FLT_WARN_pending 0) Warn.powerStage.bit = true)
      ∧ t.time = s.time ∧ t.plan = s.plan ∧ SameBytes s t ∧ SameTiles s t))

/-- R435, R440 to R443: writes of FLT_CTRL. A field reset asked for with no plan active and no dump being written begins: the
state is field reset, the tiles are gone and the plan is IDLE; one that R434 refuses sets reset_reject. Hush and Relay begin
from an IDLE, LOADED or STOPPED plan, and are refused with pwr_reject while a plan runs. A return from Hush is done at once; one
from Relay restarts the Field dies. R435, R442, R443: once every access has completed both tiers enter self-refresh, in Hush
with the tiles kept, in Relay with the Field dies off; the restart of the Field dies ends in Active. -/
def Obligations.PowerStatesChange : Prop :=
  ((∀ (a : Agent) (v : Word) (s : State), s.agentUp a = true → writesFlt a = true → bit v.toNat 2 = true → s.power = .active → s.resetting = false →
      bits v.toNat 1 0 = 0 →
    (s.quietPlan = true → s.get .FLT_DUMP_busy 0 = 0 →
      s.Runs (.fieldReset a v) (fun t => t.power = .fieldReset ∧ t.tiles = [] ∧ t.planState = .idle)) ∧
    (s.quietPlan = false → s.forwardingImage = false →
      s.Runs (.fieldReset a v) (fun t => t.get .FLT_STATUS_reset_reject 0 = 1 ∧ SameBytes s t ∧ SameTiles s t))) ∧
  (∀ (a : Agent) (v : Word) (s : State), s.agentUp a = true → writesFlt a = true → bit v.toNat 2 = false → s.power = .active → s.resetting = false →
      s.pwr.entry = none →
    (bits v.toNat 1 0 = 1 → s.planState = .idle ∨ s.planState = .loaded ∨ s.planState = .stopped →
      s.Runs (.hushEntry a v) (fun t => t.pwr.entry = some 1 ∧ SameBytes s t ∧ SameTiles s t)) ∧
    (bits v.toNat 1 0 = 1 → s.planState = .running →
      s.Runs (.hushEntry a v) (fun t => t.get .FLT_STATUS_pwr_reject 0 = 1 ∧ t.pwr = s.pwr ∧ SameBytes s t ∧ SameTiles s t)) ∧
    (bits v.toNat 1 0 = 2 → s.quietPlan = true →
      s.Runs (.relayEntry a v) (fun t => t.pwr.entry = some 2 ∧ SameBytes s t ∧ SameTiles s t)) ∧
    (bits v.toNat 1 0 = 2 → s.quietPlan = false → s.forwardingImage = false →
      s.Runs (.relayEntry a v) (fun t => t.get .FLT_STATUS_pwr_reject 0 = 1 ∧ t.pwr = s.pwr ∧ SameBytes s t ∧ SameTiles s t))) ∧
  (∀ (a : Agent) (v : Word) (s : State), s.agentUp a = true → writesFlt a = true → bit v.toNat 2 = false → bits v.toNat 1 0 = 0 → s.resetting = false →
    (s.power = .hush → s.Runs (.returnToActive a v) (fun t => t.power = .active ∧ t.pwr.entry = none ∧ SameBytes s t ∧ SameTiles s t)) ∧
    (s.power = .relay → s.Runs (.returnToActive a v) (fun t => t.pwr.restarting = true ∧ SameBytes s t ∧ SameTiles s t)))) ∧
  ((∀ (s : State), s.powered = true → s.accessesDone = true → s.get .FLT_DUMP_busy 0 = 0 → s.pwr.entry = some 1 →
    s.Runs .tiersSelfRefresh (fun t => t.power = .hush ∧ t.pwr.entry = none ∧ SameBytes s t ∧ SameTiles s t)) ∧
  (∀ (s : State), s.powered = true → s.accessesDone = true → s.get .FLT_DUMP_busy 0 = 0 → s.pwr.entry = some 2 →
    s.Runs .tiersSelfRefresh (fun t => t.power = .relay ∧ t.pwr.entry = none ∧ t.tiles = [] ∧ t.tier1 = s.tier1 ∧ t.tier2 = s.tier2)) ∧
  (∀ (s : State), s.hubUp = true → s.power = .fieldReset ∨ (s.power = .relay ∧ s.pwr.restarting = true) →
    s.Runs .fieldResetComplete (fun t => t.power = .active ∧ t.pwr = PowerCtl.reset ∧ SameBytes s t ∧ SameTiles s t)))

/-! ### Time, downbeats and region clocks -/

/-- R6, R7, R42, R55: MACHINE_BEAT advances the machine beat by one in every power state, whatever happens in it; the regions'
clocks make the cycles they are given, but those that are stopped to retune. With no tile at work and nothing from the
environment the plan beat advances with it exactly where the beat executes, so never in a rest, and no register but ref_present,
no byte, no tile and no port changes. R240, R244, R249, R264, R267: what agents inside the module write is written, upset bits
and package errors are kept. -/
def Obligations.MachineBeatAdvances : Prop :=
  ∀ (x : BeatIn) (s : State), s.powered = true →
    s.Runs (.machineBeat x) (fun t => t.time.beat = (s.time.beat + 1) % 2 ^ 64 ∧ t.time.tick = s.time.tick + 1 ∧ t.time.frac = 0
      ∧ ∀ r < 576, (s.tilesUp = true → s.time.stops = [] →
            Table.get 0 t.time.clock r = Table.get 0 s.time.clock r + (x.cycles.toList.getD r 0).toNat) ∧
          ((∃ k ∈ s.time.stops, k.region = r) → Table.get 0 t.time.clock r = Table.get 0 s.time.clock r)) ∧
    ((∀ e ∈ s.tiles, e.2.quiet = true) →
      (x.upsets = [] → x.tables = [] → x.inner = [] → (∀ k, (x.ecs.toList.getD k 0).toNat = 0) → s.Runs (.machineBeat x) (fun t =>
        t.plan.beat = s.plan.beat + ofBool s.beatExecutes ∧ (isRest s.plan.rests s.time.beat = true → t.plan.beat = s.plan.beat)
        ∧ t.plan.plan = s.plan.plan ∧ t.ports = s.ports ∧ t.host = s.host ∧ t.serving = s.serving ∧ t.out = []
        ∧ SameRegs [.BEAT_STATUS_ref_present] s t ∧ SameBytes s t ∧ SameTiles s t ∧ SameMgmt s t)) ∧
      (∀ (tier2 : Bool) (a : BitVec 35) (b : Vector Byte 32), x.inner = [.tier tier2 a (some b)] → s.tiersServe = true →
          firmwareRights tier2 a.toNat = 2 → s.Runs (.machineBeat x) (fun t =>
        t.tierUnit (if tier2 then 2 else 1) a.toNat = b.toList ∧ t.spad = s.spad)) ∧
      (∀ (g : Bool) (k : TileIx) (u : BitVec 15) (b : Vector Byte 32), x.inner = [.spad g k u (some b)] → s.tiersServe = true →
          g = true ∨ s.inWindow (tileDie k) u.toNat = false → s.testOn k u.toNat = none → s.Runs (.machineBeat x) (fun t =>
        t.spad.readBytes (2 ^ 20 * k + 32 * u.toNat) 32 = b.toList ∧ t.tier1 = s.tier1 ∧ t.tier2 = s.tier2)) ∧
      (∀ (u : Upset), x.inner = [] → x.upsets = [u] → s.Runs (.machineBeat x) (fun t =>
        t.spadErr.find? (2 ^ 15 * u.tile + u.unit'.toNat)
          = some (if u.double = true ∨ s.spadErr.find? (2 ^ 15 * u.tile + u.unit'.toNat) ≠ none then 2 else 1) ∧ t.spad = s.spad)) ∧
      (x.inner = [] → s.Runs (.machineBeat x) (fun t => ∀ k < 2, (x.ecs.toList.getD k 0).toNat ≠ 0 →
        t.get .TTM_ECC_ecs_count k = min (s.get .TTM_ECC_ecs_count k + (x.ecs.toList.getD k 0).toNat)
          (2 ^ RegField.width .TTM_ECC_ecs_count - 1))))

/-- R46, R49: REF_LOST sets ref_lost and leads to HOLDOVER on the standby oscillator, with the fatal reason REF_LOST exactly
where a plan is loaded; at REFCLK_POD's return a root is LOCKED again at depth 0. A module that is no root and has had no valid
parent word for 4 measures leaves ACQUIRE or LOCKED for HOLDOVER. No counter steps and nothing else changes. -/
def Obligations.ReferenceAndHoldover : Prop :=
  (∀ (s : State), s.powered = true → s.time.standby = false → s.Runs .refLost (fun t => t.get .BEAT_STATUS_ref_lost 0 = 1
      ∧ t.get .BEAT_STATUS_ref_present 0 = 0 ∧ t.timeState = .holdover ∧ t.get .BEAT_STATUS_depth 0 = 15
      ∧ t.time.standby = true ∧ t.time.beat = s.time.beat ∧ t.time.slewLeft = 0
      ∧ t.raised = (if s.planLoaded then s.raised ++ [⟨.refLost, 0⟩] else s.raised)
      ∧ SameRegs [.BEAT_STATUS_ref_lost, .BEAT_STATUS_ref_present, .BEAT_STATUS_state, .BEAT_STATUS_depth] s t
      ∧ t.plan = s.plan ∧ t.ports = s.ports ∧ SameBytes s t ∧ SameTiles s t)) ∧
  (∀ (s : State), s.powered = true → s.time.standby = true → s.Runs .refclkPodReturn (fun t => t.time.standby = false
      ∧ t.get .BEAT_STATUS_ref_present 0 = 1 ∧ t.time.beat = s.time.beat
      ∧ (s.get .BEAT_CTRL_time_root 0 = 1 → t.timeState = .locked ∧ t.get .BEAT_STATUS_depth 0 = 0)
      ∧ SameRegs [.BEAT_STATUS_ref_present, .BEAT_STATUS_state, .BEAT_STATUS_depth] s t
      ∧ t.plan = s.plan ∧ t.ports = s.ports ∧ SameBytes s t ∧ SameTiles s t)) ∧
  (∀ (s : State) k, s.powered = true → s.timeState = .acquire ∨ s.timeState = .locked → s.get .BEAT_CTRL_time_root 0 = 0 →
      s.time.lastParent = some k → k + 64 ≤ s.time.tick →
    s.Runs .holdover (fun t => t.timeState = .holdover ∧ t.get .BEAT_STATUS_parent_lost 0 = 1
      ∧ t.get .BEAT_STATUS_depth 0 = 15 ∧ t.time.beat = s.time.beat ∧ t.time.slewLeft = 0
      ∧ SameRegs [.BEAT_STATUS_parent_lost, .BEAT_STATUS_state, .BEAT_STATUS_depth] s t
      ∧ t.plan = s.plan ∧ t.ports = s.ports ∧ SameBytes s t ∧ SameTiles s t))

/-- R48: delay and offset are exact: twice the delay is the round trip less the neighbour's hold time, and the neighbour's
transmit time plus the delay is the receipt plus the offset. R47 to R50, R52: a time word a port takes is echoed later; one
without a valid echo does nothing more. With one, delay and offset are recorded, rounded. It moves the time base, and is the
parent's offset, only as a valid parent word: in FREE and HOLDOVER it leads to ACQUIRE, with one step of the counter to the
parent's estimate exactly where no plan is loaded; otherwise the offset is slewed. A word on another port, or from a parent
neither root nor LOCKED, corrects nothing. An offset above the fatal limit on an unfenced port of a loaded plan's domain is
fatal with TIME_SKEW. -/
def Obligations.TimeWordsCorrectTime : Prop :=
  (∀ (w : TimeWord) (b f : Nat), 2 * (delayOffset w b f).1
      = timeUnits b f - timeUnits w.echoBeat w.echoFrac - (w.holdPs : Int) * 2048 ∧
    timeUnits w.txBeat w.txFrac + (delayOffset w b f).1 = timeUnits b f + (delayOffset w b f).2) ∧
  (∀ (p : PortIx) (fr : BitVec 16) (s : State) (c : Ctrl) rest (w : TimeWord), s.hubUp = true →
    takeCtrl 1 (s.port p).rxCtrl = some (c, rest) → w = parseTimeWord c.body →
    (w.echoValid = false → s.Runs (.timeWord p fr) (fun t => t.port p = { s.port p with rxCtrl := rest } ∧ t.regs = s.regs
      ∧ t.time.echo.find? p = some ⟨w.txBeat, w.txFrac, timeUnits s.time.beat fr.toNat⟩ ∧ t.time.beat = s.time.beat
      ∧ t.raised = s.raised)) ∧
    (w.echoValid = true → ∀ d o, delayOffset w s.time.beat fr.toNat = (d, o) →
      s.Runs (.timeWord p fr) (fun t => t.get .BEAT_PORT_DELAY_delay_ps p = ofSigned 32 (toPs d)
        ∧ t.get .BEAT_PORT_SKEW_offset_ps p = ofSigned 16 (clampInt (-32767) 32767 (toPs o))
        ∧ (∃ e, t.time.echo.find? p = some e ∧ e.txBeat = w.txBeat ∧ e.txFrac = w.txFrac
            ∧ (t.time.beat = s.time.beat → t.time.slewLeft = s.time.slewLeft → e.rx = timeUnits s.time.beat fr.toNat))
        ∧ t.plan = s.plan ∧ SameBytes s t ∧ SameTiles s t
        ∧ ((s.get .BEAT_CTRL_parent_valid 0 = 0 ∨ s.get .BEAT_CTRL_parent_port 0 ≠ p ∨ (w.root = false ∧ w.state ≠ 2)) →
            t.timeState = s.timeState ∧ t.time.beat = s.time.beat ∧ t.time.slewLeft = s.time.slewLeft
            ∧ t.time.lastParent = s.time.lastParent
            ∧ t.get .BEAT_PARENT_OFFSET_parent_offset 0 = s.get .BEAT_PARENT_OFFSET_parent_offset 0)
        ∧ ((s.get .BEAT_CTRL_parent_valid 0 = 1 ∧ s.get .BEAT_CTRL_parent_port 0 = p ∧ (w.root = true ∨ w.state = 2)
              ∧ s.get .BEAT_CTRL_time_root 0 = 0 ∧ s.time.standby = false) →
            t.time.lastParent = some s.time.tick ∧ t.get .BEAT_PARENT_OFFSET_parent_offset 0 = ofSigned 32 (toPs o)
            ∧ ((s.timeState = .free ∨ s.timeState = .holdover) → t.timeState = .acquire
                ∧ (s.planLoaded = true → t.time.beat = s.time.beat ∧ t.time.slewLeft = o)
                ∧ (s.planLoaded = false → t.time.slewLeft = 0
                    ∧ t.time.beat = ((timeUnits s.time.beat fr.toNat + o) / 81920000 % (2 ^ 64 : Int)).toNat
                    ∧ ∀ e, t.time.echo.find? p = some e → e.rx = timeUnits t.time.beat t.time.frac))
            ∧ ((s.timeState = .acquire ∨ s.timeState = .locked) → t.timeState = s.timeState ∧ t.time.beat = s.time.beat
                ∧ t.time.slewLeft = o
                ∧ (s.timeState = .acquire → o.natAbs ≤ 2048000 → t.time.goodNow = true)))
        ∧ ((s.planLoaded = true ∧ s.inDomain p = true ∧ s.fenced p = false
              ∧ 2048 * s.get .BEAT_SKEW_LIMIT_fatal_ps 0 < o.natAbs) →
            ∃ x, t.raised = s.raised ++ [x] ∧ x.reason = .timeSkew)
        ∧ ((s.planLoaded = false ∨ o.natAbs ≤ 2048 * s.get .BEAT_SKEW_LIMIT_fatal_ps 0) → t.raised = s.raised))))

/-- R73, R406: writes of BEAT_CTRL. From the host they are refused and counted. From the management plane a write that changes
the tree is refused with ctrl_reject while a plan is loaded, and otherwise takes effect, leading to LOCKED at depth 0 on a root
and to FREE elsewhere, or without REFCLK_POD to HOLDOVER (the model's choice, log entry 13). limit_lock is set by writing 1. -/
def Obligations.TimeTreeWrites : Prop :=
  (∀ (v : Word) (s : State), s.agentUp .host = true → s.Runs (.beatCtrlWrite .host v) (fun t => t.get .MGT_STATUS_host_denied 0 = 1
      ∧ SameRegs [.MGT_STATUS_host_denied, .MGT_ERR_access_denied] s t ∧ t.time = s.time)
    ∧ s.Runs (.limitLock .host) (fun t => t.get .MGT_STATUS_host_denied 0 = 1
      ∧ SameRegs [.MGT_STATUS_host_denied, .MGT_ERR_access_denied] s t ∧ t.time = s.time)) ∧
  (∀ (a : Agent) (v : Word) (s : State), s.agentUp a = true → a ≠ .host →
    s.Runs (.limitLock a) (fun t => t.get .BEAT_CTRL_limit_lock 0 = 1 ∧ SameRegs [.BEAT_CTRL_limit_lock] s t
      ∧ t.time = s.time ∧ t.ports = s.ports) ∧
    (s.get .BEAT_CTRL_time_root 0 ≠ bits v.toNat 0 0 ∨ s.get .BEAT_CTRL_parent_port 0 ≠ bits v.toNat 6 1
        ∨ s.get .BEAT_CTRL_parent_valid 0 ≠ bits v.toNat 7 7 →
      (s.planLoaded = true → s.Runs (.beatCtrlWrite a v) (fun t => t.get .BEAT_STATUS_ctrl_reject 0 = 1
        ∧ SameRegs [.BEAT_STATUS_ctrl_reject, .BEAT_CTRL_limit_lock] s t ∧ t.time = s.time)) ∧
      (s.planLoaded = false → s.Runs (.beatCtrlWrite a v) (fun t => t.get .BEAT_CTRL_time_root 0 = bits v.toNat 0 0
        ∧ t.get .BEAT_CTRL_parent_port 0 = bits v.toNat 6 1 ∧ t.get .BEAT_CTRL_parent_valid 0 = bits v.toNat 7 7
        ∧ (bit v.toNat 16 = true → t.get .BEAT_CTRL_limit_lock 0 = 1)
        ∧ t.timeState = (if s.time.standby then .holdover else if bits v.toNat 0 0 = 1 then .locked else .free)
        ∧ t.get .BEAT_STATUS_depth 0 = (if s.time.standby = false ∧ bits v.toNat 0 0 = 1 then 0 else 15)
        ∧ t.time.lastParent = none ∧ t.time.slewLeft = 0 ∧ t.time.beat = s.time.beat
        ∧ SameRegs [.BEAT_CTRL_time_root, .BEAT_CTRL_parent_port, .BEAT_CTRL_parent_valid, .BEAT_CTRL_limit_lock,
            .BEAT_STATUS_state, .BEAT_STATUS_depth] s t))))

/-- R54, R62 to R64: FSET_WRITE sets a region's code up to its rating while no plan is loaded, and is refused with fset_reject
above it, and under a plan unless it writes the code in force; a region stopped to retune restarts at its new code after 2
beats; a crossing FIFO with faulty pointers is fatal. -/
def Obligations.RegionFrequency : Prop :=
  (∀ (r : RegionIx) (v : Word) (s : State), s.hubUp = true → s.fieldUp = true →
    (s.planLoaded = false → bits v.toNat 6 0 ≤ 80 → bits v.toNat 6 0 ≤ s.fused.fmaxOf r →
      s.Runs (.fsetWrite r v) (fun t => t.get .BEAT_REG_FSET_fset_code r = bits v.toNat 6 0
        ∧ t.get .BEAT_REG_FSET_fset_reject r = (if bit v.toNat 16 then 0 else s.get .BEAT_REG_FSET_fset_reject r)
        ∧ SameRegs [.BEAT_REG_FSET_fset_code, .BEAT_REG_FSET_fset_reject] s t ∧ t.time = s.time)) ∧
    ((80 < bits v.toNat 6 0 ∨ s.fused.fmaxOf r < bits v.toNat 6 0) ∧ s.planLoaded = false
        ∨ s.planLoaded = true ∧ bits v.toNat 6 0 ≠ s.get .BEAT_REG_FSET_fset_code r →
      s.Runs (.fsetWrite r v) (fun t => t.get .BEAT_REG_FSET_fset_reject r = 1
        ∧ SameRegs [.BEAT_REG_FSET_fset_reject] s t ∧ t.time = s.time)) ∧
    (s.planLoaded = true → bits v.toNat 6 0 = s.get .BEAT_REG_FSET_fset_code r →
      s.Runs (.fsetWrite r v) (fun t =>
        t.get .BEAT_REG_FSET_fset_reject r = (if bit v.toNat 16 then 0 else s.get .BEAT_REG_FSET_fset_reject r)
        ∧ SameRegs [.BEAT_REG_FSET_fset_reject] s t ∧ t.time = s.time))) ∧
  (∀ (r : RegionIx) (x : RegionStop) (s : State), s.fieldUp = true → s.time.stops = [x] → x.region = r → x.code < 128 →
      x.at' + 2 ≤ s.time.tick →
    s.Runs (.regionClockRestart r) (fun t => t.get .BEAT_REG_FSET_fset_code r = x.code ∧ t.time.stops = [] ∧ Table.get 0xFF t.time.applied r = x.forecast
      ∧ SameRegs [.BEAT_REG_FSET_fset_code] s t ∧ t.time.beat = s.time.beat ∧ t.plan = s.plan)) ∧
  (∀ (r : RegionIx) (s : State), s.fieldUp = true →
    s.Runs (.crossingOverflow r) (fun t => (∃ x, t.raised = s.raised ++ [x] ∧ x.reason = .crossingOverflow
      ∧ x.detail % 8 = r.val / 72 ∧ x.detail / 8 = r.val % 72) ∧ t.regs = s.regs ∧ t.time = s.time))

/-- R6, R47, R49, R50, R53, R57, R69, R70, R98, R101, R104: a downbeat. Each region's cycles and current and each controller's
busy time of the measure just ended are kept; the next step of a slew is at most 500 ps; the 16th good measure of ACQUIRE leads
to LOCKED; every ACTIVE port, and no other, sends a time word. A running plan rests in a rest measure, where every region
applies 0x00; it stops at its stop measure; and in any other every region applies its row's code, or 0xFF where the row is late.
No counter, byte or tile changes. -/
def Obligations.DownbeatActs : Prop :=
  ∀ (x : DownIn) (s : State), s.powered = true → s.time.beat % 16 = 0 → s.time.lastDown ≠ some s.time.beat → s.planState ≠ .armed →
    s.rimArmed = false →
    s.Runs (.downbeat x) (fun t => t.time.lastDown = some s.time.beat ∧ t.time.beat = s.time.beat ∧ t.time.tick = s.time.tick
      ∧ t.plan.beat = s.plan.beat ∧ SameBytes s t ∧ SameTiles s t
      ∧ t.time.slewNow + t.time.slewLeft = s.time.slewLeft ∧ t.time.slewNow.natAbs ≤ 1024000
      ∧ (s.fieldUp = true → s.time.reload = none → (∀ r < 576,
            t.get .BEAT_REG_CYC_last_cycles r = Table.get 0 s.time.cycles r % 2 ^ RegField.width .BEAT_REG_CYC_last_cycles
            ∧ t.get .BEAT_REG_FCST_measured_code r = min (x.current.toList.getD r 0).toNat 0xFE)
          ∧ (∀ k < 8, t.get .HBM_OCC_busy_q k = (x.busy.toList.getD k 0).toNat)
          ∧ ∀ k < 2, t.get .TTM_OCC_busy_q k = (x.busy.toList.getD (8 + k) 0).toNat)
      ∧ (s.planState = .resting ∨ s.power ≠ .active → ∀ r < 576,
          t.get .BEAT_REG_SHORT_short_measures r = s.get .BEAT_REG_SHORT_short_measures r)
      ∧ (s.timeState = .acquire → s.time.goodRun = 15 → s.time.goodNow = true → t.timeState = .locked)
      ∧ (s.planState = .running ∨ s.planState = .resting →
          (isRest s.plan.rests s.time.beat = true → t.planState = .resting ∧ ∀ r < 576, Table.get 0xFF t.time.applied r = 0) ∧
          (isRest s.plan.rests s.time.beat = false → ∀ n, s.stopMeasure = some n → n ≤ s.plan.beat / 16 →
            t.planState = .stopping ∧ t.plan.rests = [] ∧ t.plan.stopTick = some s.time.tick) ∧
          (isRest s.plan.rests s.time.beat = false → (∀ n, s.stopMeasure = some n → s.plan.beat / 16 < n) →
            t.planState = .running ∧ (s.changesAt (s.plan.beat / 16) = [] → ∀ r < 576, Table.get 0xFF t.time.applied r
              = (if x.lateRows.any (fun d => d.val == r / 72) then 0xFF else s.rowCode (s.plan.beat / 16) r))))
      ∧ ∀ p < 36, (s.train p ≠ .active → (t.port p).urgent = (s.port p).urgent) ∧
          (s.train p = .active → ∃ c, (t.port p).urgent = (s.port p).urgent ++ [c] ∧ c.typ = 1
            ∧ (parseTimeWord c.body).txBeat = s.time.beat % 2 ^ 64 ∧ (parseTimeWord c.body).txFrac = (x.frac.toList.getD p 0).toNat
            ∧ (parseTimeWord c.body).echoValid = (s.time.echo.find? p).isSome))

/-! ### Links -/

/-- R289 to R292, R316: training from DETECT to EQUALIZE. A port in DETECT that sees signal starts IDENTIFY, counts the attempt
and sends its identify block on eight lanes, with LNK_CFG as it stands then (R316). A good block of another module with a
generation in common leads to EQUALIZE, with the neighbour recorded; the port's own serial, and no generation in common, fail
with their codes. A block with a bad CRC, and one in another state than IDENTIFY and LANE_CHECK, change nothing. -/
def Obligations.TrainingIdentifiesNeighbour : Prop :=
  (∀ (p : PortIx) (s : State), s.powered = true → s.train p = .detect →
    s.Runs (.linkDetect p) (fun t => t.train p = .identify ∧ t.out.length = 8 ∧ (t.port p).cfgGen = s.get .LNK_CFG_gen_max p
      ∧ (t.port p).cfgMode = s.get .LNK_CFG_mode p ∧ (t.port p).cfgVcs = s.get .LNK_CFG_vc_count p
      ∧ (t.port p).cfgRetx = s.get .LNK_CFG_retx_mode p ∧ t.get .LNK_TRAIN_tlk2_fallback p = 0
      ∧ t.get .LNK_TRAIN_attempts p = min (s.get .LNK_TRAIN_attempts p + 1) (2 ^ RegField.width .LNK_TRAIN_attempts - 1))) ∧
  (∀ (p : PortIx) (v : Vector Byte 64) (b : List Byte) (s : State), s.powered = true → b = v.toList →
    (crcOk b = true → s.train p = .identify → (parseIdent b).serial = s.fused.serial →
      s.Runs (.identifyBlock p v) (fun t => t.train p = .down ∧ t.get .LNK_TRAIN_fail_code p = 2 ∧ (t.port p).stuck = true)) ∧
    (crcOk b = true → s.train p = .identify → (parseIdent b).serial ≠ s.fused.serial →
        (gensOf (s.port p).cfgGen &&& (parseIdent b).gens) &&& 3 = 0 →
      s.Runs (.identifyBlock p v) (fun t => t.train p = .down ∧ t.get .LNK_TRAIN_fail_code p = 3)) ∧
    (crcOk b = true → s.train p = .identify → (parseIdent b).serial ≠ s.fused.serial →
        (gensOf (s.port p).cfgGen &&& (parseIdent b).gens) &&& 3 ≠ 0 →
      s.Runs (.identifyBlock p v) (fun t => t.train p = .equalize ∧ (t.port p).peer = some (parseIdent b)
        ∧ t.get .LNK_PEER_INFO_peer_port p = (parseIdent b).port % 2 ^ RegField.width .LNK_PEER_INFO_peer_port
        ∧ t.get .LNK_STATUS_leader p = ofBool (decide (s.fused.serial > (parseIdent b).serial)))) ∧
    (crcOk b = true → s.train p = .laneCheck → (s.port p).ownMask = none →
      s.Runs (.identifyBlock p v) (fun t => t.train p = .laneCheck ∧ (t.port p).peerMask = some (leAt b 17 1))) ∧
    (crcOk b = false ∨ (s.train p ≠ .identify ∧ s.train p ≠ .laneCheck) →
      exec (.identifyBlock p v) s = .next s.begin))

/-- R289 to R293: training from EQUALIZE to ACTIVE. Equalisation done leads to LANE_CHECK; not done, to EQUALIZE again at TLK-2
where both ends allow it and it has not been tried, else to DOWN with code 4. The lane check sends its report, and with both
reports known the widest common width leads to FEC_ALIGN. Alignment leads to FLIT_SYNC, and 16 good flits in a row to ACTIVE,
with the counters of R290. A timer that expires fails with the state's code, and the idle hold's end leads to DETECT. -/
def Obligations.TrainingReachesActive : Prop :=
  (∀ (p : PortIx) (s : State), s.powered = true → s.train p = .equalize →
    s.Runs (.equalizeDone p true) (fun t => t.train p = .laneCheck) ∧
    ((s.get .LNK_STATUS_gen p = 1 ∧ bothTlk2 (s.port p) = true ∧ (s.port p).fellBack = false) →
      s.Runs (.equalizeDone p false) (fun t => t.train p = .equalize ∧ t.get .LNK_STATUS_gen p = 0
        ∧ t.get .LNK_TRAIN_tlk2_fallback p = 1 ∧ (t.port p).fellBack = true)) ∧
    (¬ (s.get .LNK_STATUS_gen p = 1 ∧ bothTlk2 (s.port p) = true ∧ (s.port p).fellBack = false) →
      s.Runs (.equalizeDone p false) (fun t => t.train p = .down ∧ t.get .LNK_TRAIN_fail_code p = 4))) ∧
  (∀ (p : PortIx) (m : BitVec 8) (s : State), s.powered = true → s.train p = .laneCheck →
    ((s.port p).peerMask = none → s.Runs (.laneCheckDone p m)
      (fun t => t.train p = .laneCheck ∧ (t.port p).ownMask = some m.toNat ∧ t.out.length = 8)) ∧
    (∀ i b w lanes, (s.port p).peer = some i → (s.port p).peerMask = some b →
        chooseWidth (widthsOf (s.port p).cfgMin (s.port p).cfgMax &&& i.widths) (m.toNat &&& b) = some (w, lanes) →
      s.Runs (.laneCheckDone p m) (fun t => t.train p = .fecAlign ∧ t.get .LNK_STATUS_width p = w
        ∧ t.get .LNK_STATUS_lanes p = lanes))) ∧
  (∀ (p : PortIx) (s : State), s.powered = true → s.train p = .fecAlign →
    s.Runs (.fecAlignDone p) (fun t => t.train p = .flitSync ∧ (t.port p).rxGood = 0)) ∧
  (∀ (p : PortIx) (s : State), s.powered = true → s.train p = .flitSync →
    ((s.port p).rxGood < 16 → exec (.flitSyncDone p) s = .next s.begin) ∧
    (16 ≤ (s.port p).rxGood → s.Runs (.flitSyncDone p) (fun t => t.train p = .active ∧ (t.port p).nxt = 0 ∧ (t.port p).una = 0 ∧ (t.port p).exp = 0
      ∧ (t.port p).kept = [] ∧ (t.port p).sent = [] ∧ (t.port p).freed = [] ∧ (t.port p).reorder = []))) ∧
  (∀ (p : PortIx) (s : State) n code, s.powered = true → trainTimer (s.train p) = some (n, code) → s.train p ≠ .equalize →
      (s.port p).entered + n ≤ s.time.tick →
    s.Runs (.trainingTimeout p) (fun t => t.train p = .down ∧ t.get .LNK_TRAIN_fail_code p = code)) ∧
  (∀ (p : PortIx) (s : State), s.powered = true → s.train p = .down → (s.port p).stuck = false →
      s.get .LNK_CTRL_auto_retrain p = 1 → (s.port p).entered + idleHold (s.port p) ≤ s.time.tick →
    s.Runs (.idleHoldExpiry p) (fun t => t.train p = .detect ∧ (t.port p).failed = false))

/-- R298, R300, R302, R308: received control words on an ACTIVE port. A NAK that names the next number to send releases every
kept flit, one before it releases those before the number it names and starts a go-back pass there; one outside the window
changes nothing but that the word is taken. A SNAK asks for the kept flits it names, and for no other. A CREDIT word sets the
neighbour's freed counts. A CREDIT_QUERY is answered with a CREDIT word. -/
def Obligations.ControlWordsActOnPort : Prop :=
  ∀ (p : PortIx) (s : State) (c : Ctrl) rest, s.powered = true → s.train p = .active →
    (takeCtrl 4 (s.port p).rxCtrl = some (c, rest) → ∀ d, d = (leAt c.short 0 2 % 4096 + 4096 - (s.port p).una) % 4096 →
      (d > (s.port p).kept.length → s.Runs (.nak p) (fun t => t.port p = { s.port p with rxCtrl := rest } ∧ t.regs = s.regs)) ∧
      (d = (s.port p).kept.length → s.Runs (.nak p) (fun t => (t.port p).kept = [] ∧ (t.port p).rxCtrl = rest
        ∧ (d ≠ 0 → (t.port p).una = ((s.port p).una + d) % 4096))) ∧
      (0 < d → d < (s.port p).kept.length → (s.port p).pass = none → 0 < s.get .LNK_TIMER_replay_limit p →
        s.Runs (.nak p) (fun t => (t.port p).kept = (s.port p).kept.drop d ∧ (t.port p).una = ((s.port p).una + d) % 4096
          ∧ (t.port p).pass = some (((s.port p).una + d) % 4096) ∧ (t.port p).rxCtrl = rest ∧ t.train p = .active))) ∧
    (takeCtrl 5 (s.port p).rxCtrl = some (c, rest) → s.Runs (.snak p) (fun t => (t.port p).kept = (s.port p).kept
      ∧ (t.port p).rxCtrl = rest ∧ t.regs = s.regs
      ∧ ∀ q, q ∈ (t.port p).resend ↔ q ∈ (s.port p).resend ∨
          ((∃ i < min (leAt c.short 2 1) 16, q = (leAt c.short 0 2 % 4096 + i) % 4096) ∧ ∃ f ∈ (s.port p).kept, f.seq = q))) ∧
    (takeCtrl 6 (s.port p).rxCtrl = some (c, rest) → s.Runs (.credit p) (fun t => (t.port p).rxCtrl = rest ∧ t.regs = s.regs
      ∧ ∀ v < 7, Table.get 0 (t.port p).peerFreed (v + 1) = leAt c.body (2 * v) 2)) ∧
    (takeCtrl 7 (s.port p).rxCtrl = some (c, rest) → s.Runs (.creditQuery p) (fun t => (t.port p).rxCtrl = rest
      ∧ (t.port p).freedSent = (s.port p).freed ∧ (t.port p).normal.length = (s.port p).normal.length + 1 ∧ t.regs = s.regs))

/-- The state of a port that stops: DISABLED where it is not enabled (R289). -/
def Sys2Proof.Machine.State.downTrain (s : State) (p : Nat) : Train := if s.get .LNK_CTRL_enable p = 0 then .disabled else .down

/-- R287, R288, R289, R294, R295, R300, R303, R308, R316: the timers of an ACTIVE port. A CREDIT word that is due is queued; a
VC at zero credit for credit_to is counted and asks with CREDIT_QUERY; una unchanged for replay_to starts a go-back pass below
the limit, and takes the port down with REPLAY_LIMIT at it; a gap unfilled falls back to go-back; a lane out of lock for
lock_loss takes the port down; a repeated word goes again with what else is urgent, and a port that was to go down is down once
its RESET_REQ has gone again; the eye margin is recorded with its smallest value. A port that is not enabled is DISABLED where
another is DOWN (R289). -/
def Obligations.LinkTimersAct : Prop :=
  (∀ (p : PortIx) (s : State), s.powered = true → s.train p = .active →
    (s.creditDue p = true → s.Runs (.creditSend p) (fun t => (t.port p).freedSent = (s.port p).freed
      ∧ (t.port p).normal.length = (s.port p).normal.length + 1 ∧ (t.port p).freedAt = none)) ∧
    (∀ v : Fin 8, s.creditStalled p v = true → s.Runs (.creditTimeout p v) (fun t =>
      (t.port p).normal.length = (s.port p).normal.length + 1 ∧ (t.port p).zeroAt.find? v.val = some s.time.tick
      ∧ t.get .LNK_CREDIT_credit_stalls p
          = min (s.get .LNK_CREDIT_credit_stalls p + 1) (2 ^ RegField.width .LNK_CREDIT_credit_stalls - 1))) ∧
    (s.replayDue p = true → (s.port p).passUna ≠ some (s.port p).una → 0 < s.get .LNK_TIMER_replay_limit p →
      s.Runs (.replayTimeout p) (fun t => (t.port p).pass = some (s.port p).una ∧ (t.port p).passes = 1
        ∧ (t.port p).kept = (s.port p).kept ∧ t.train p = .active)) ∧
    (s.replayDue p = true → (s.port p).passUna = some (s.port p).una → s.get .LNK_TIMER_replay_limit p ≤ (s.port p).passes →
      s.Runs (.replayTimeout p) (fun t => t.train p = s.downTrain p ∧ t.get .LNK_DOWN_last_cause p = Down.replayLimit.code)) ∧
    (s.gapDue p = true → s.Runs (.gapTimeout p) (fun t => (t.port p).fallback = (s.port p).topHeld
      ∧ (t.port p).gaps = [] ∧ (t.port p).nakOpen = true)) ∧
    (s.lockExpired p = true → s.Runs (.lockLoss p) (fun t => t.train p = s.downTrain p
      ∧ t.get .LNK_DOWN_last_cause p = Down.lockLoss.code ∧ (t.port p).kept = [] ∧ (t.port p).rxPackets = [])) ∧
    ((s.port p).due s.time.tick ≠ [] →
      ((s.port p).closing = none → s.Runs (.repeatSend p) (fun t => (∃ b, t.out = [.flit p b]) ∧ t.regs = s.regs ∧ t.time = s.time
        ∧ (t.port p).urgent = (s.port p).urgent.drop (6 - ((s.port p).due s.time.tick).length))) ∧
      (∀ c, (s.port p).closing = some c → (∃ r ∈ ((s.port p).due s.time.tick).take 6, r.word.typ = 8) →
        s.Runs (.repeatSend p) (fun t => t.train p = s.downTrain p ∧ t.get .LNK_DOWN_last_cause p = c.code))) ∧
    (∀ (m : BitVec 8) (l : Fin 8), s.Runs (.eyeMarginUpdate p m l) (fun t => t.get .LNK_EYE_margin p = m.toNat
      ∧ t.get .LNK_EYE_worst_lane p = l.val ∧ t.get .LNK_EYE_margin_min p = min m.toNat (s.get .LNK_EYE_margin_min p)
      ∧ t.ports = s.ports ∧ SameRegs [.LNK_EYE_margin, .LNK_EYE_worst_lane, .LNK_EYE_margin_min] s t))) ∧
  (∀ (p : PortIx) (l : Fin 8) (s : State), s.powered = true → s.laneUsed p l = true →
    ((s.port p).lockLost.find? l.val = none → s.Runs (.laneLockLost p l)
      (fun t => (t.port p).lockLost.find? l.val = some s.time.tick ∧ t.regs = s.regs)) ∧
    s.Runs (.laneLockRegained p l) (fun t => (t.port p).lockLost.find? l.val = none ∧ t.regs = s.regs)) ∧
  (∀ (p : PortIx) (s : State) (c : Ctrl) rest, s.powered = true → takeCtrl 8 (s.port p).rxCtrl = some (c, rest) →
    (s.train p = .active → s.Runs (.resetReq p) (fun t => t.train p = s.downTrain p
      ∧ t.get .LNK_DOWN_last_cause p = Down.peerReset.code ∧ (t.port p).rxCtrl = rest.filter (fun c => c.typ = 3))) ∧
    (s.train p ≠ .active → s.Runs (.resetReq p) (fun t => t.port p = { s.port p with rxCtrl := rest } ∧ t.regs = s.regs)))

/-- R295, R297, R315, R316: writes of LNK_CTRL, LNK_CFG and LNK_TIMER. A reset or disable of a port in a running plan is refused
with reset_reject; otherwise an ACTIVE port sends RESET_REQ and is to go down with LOCAL_RESET or as disabled, a reset leads a
port whose training has failed to DETECT, a disable of a port that is not ACTIVE leads to DISABLED and an enable from DISABLED
to DETECT. cfg_lock is set, and once it is, LNK_CFG and LNK_TIMER writes change nothing; before, they store each field in its
range. -/
def Obligations.PortRegisterWrites : Prop :=
  (∀ (p : PortIx) (v : Word) (s : State), s.hubUp = true → bits v.toNat 3 0 = 3 → s.get .LNK_CTRL_enable p = 1 →
    (s.portRefused p = true → s.Runs (.lnkCtrlReset p v) (fun t => t.get .LNK_STATUS_reset_reject p = 1 ∧ t.ports = s.ports
      ∧ SameRegs [.LNK_STATUS_reset_reject, .LNK_CTRL_auto_retrain] s t)) ∧
    (s.portRefused p = false → s.train p = .active → (s.port p).closing = none → s.Runs (.lnkCtrlReset p v) (fun t =>
      t.train p = .active ∧ (t.port p).closing = some .localReset ∧ t.get .LNK_CTRL_enable p = 1
      ∧ ∃ c, (t.port p).urgent = (s.port p).urgent ++ [c] ∧ c.typ = 8)) ∧
    (s.portRefused p = false → s.train p = .down → (s.port p).failed = true → s.Runs (.lnkCtrlReset p v) (fun t =>
      t.train p = .detect ∧ (t.port p).failed = false))) ∧
  (∀ (p : PortIx) (v : Word) (s : State), s.hubUp = true → bits v.toNat 3 0 = 0 → s.get .LNK_CTRL_enable p = 1 →
    (s.portRefused p = true → s.Runs (.lnkCtrlEnable p v) (fun t => t.get .LNK_STATUS_reset_reject p = 1 ∧ t.ports = s.ports
      ∧ t.get .LNK_CTRL_enable p = 1)) ∧
    (s.portRefused p = false → s.train p ≠ .active → s.Runs (.lnkCtrlEnable p v) (fun t => t.train p = .disabled
      ∧ t.get .LNK_CTRL_enable p = 0)) ∧
    (s.portRefused p = false → s.train p = .active → (s.port p).closing = none → s.Runs (.lnkCtrlEnable p v) (fun t =>
      t.get .LNK_CTRL_enable p = 0 ∧ (t.port p).closing = some .disabled
      ∧ ∃ c, (t.port p).urgent = (s.port p).urgent ++ [c] ∧ c.typ = 8))) ∧
  (∀ (p : PortIx) (v : Word) (s : State), s.hubUp = true → bits v.toNat 3 0 = 1 → s.get .LNK_CTRL_enable p = 0 →
    s.train p = .disabled → s.Runs (.lnkCtrlEnable p v) (fun t => t.train p = .detect ∧ t.get .LNK_CTRL_enable p = 1)) ∧
  (∀ (p : PortIx) (v : Word) (s : State), s.hubUp = true → bits v.toNat 3 0 = 9 → s.get .LNK_CTRL_enable p = 1 →
    s.Runs (.cfgLock p v) (fun t => t.get .LNK_CTRL_cfg_lock p = 1 ∧ t.ports = s.ports
      ∧ SameRegs [.LNK_CTRL_cfg_lock, .LNK_CTRL_auto_retrain] s t)) ∧
  (∀ (p : PortIx) (v : Word) (s : State), s.hubUp = true →
    (s.get .LNK_CTRL_cfg_lock p = 1 →
      exec (.lnkCfgWrite p v) s = .next s.begin ∧ exec (.lnkTimerWrite p v) s = .next s.begin) ∧
    (s.get .LNK_CTRL_cfg_lock p = 0 →
      s.Runs (.lnkCfgWrite p v) (fun t => t.get .LNK_CFG_gen_max p = bits v.toNat 0 0
        ∧ t.get .LNK_CFG_max_width p = min (bits v.toNat 2 1) 2
        ∧ t.get .LNK_CFG_min_width p = min (bits v.toNat 4 3) (min (bits v.toNat 2 1) 2)
        ∧ t.get .LNK_CFG_mode p = bits v.toNat 5 5 ∧ t.get .LNK_CFG_vc_count p = max 2 (min 8 (bits v.toNat 9 6))
        ∧ t.get .LNK_CFG_retx_mode p = min (bits v.toNat 11 10) 2 ∧ t.ports = s.ports
        ∧ SameRegs [.LNK_CFG_gen_max, .LNK_CFG_max_width, .LNK_CFG_min_width, .LNK_CFG_mode, .LNK_CFG_vc_count, .LNK_CFG_retx_mode]
            s t) ∧
      s.Runs (.lnkTimerWrite p v) (fun t => t.get .LNK_TIMER_replay_to p = max 1 (bits v.toNat 7 0)
        ∧ t.get .LNK_TIMER_replay_limit p = max 1 (bits v.toNat 15 8) ∧ t.get .LNK_TIMER_lock_loss p = max 1 (bits v.toNat 23 16)
        ∧ t.get .LNK_TIMER_credit_to p = max 1 (bits v.toNat 31 24) ∧ t.ports = s.ports
        ∧ SameRegs [.LNK_TIMER_replay_to, .LNK_TIMER_replay_limit, .LNK_TIMER_lock_loss, .LNK_TIMER_credit_to] s t)))

/-! ### Register reads and writes; what commands leave alone -/

/-- Of the commands that `leavesField` lists, none changes a byte of a scratchpad, of a tier, of the secure scratch or of the
firmware images, a tile, or the die network. -/
def Obligations.CommandsLeaveBytesAndTiles : Prop :=
  ∀ (c : Instr) (s t : State), leavesField c = true → exec c s = .next t → SameBytes s t ∧ SameTiles s t

/-- R11, R12, R460, R472: a read of a register with no row of its own. In a die that is off or in reset it answers all ones and
sets offline_read; a HI register answers what the agent's LO read latched, and with nothing latched its value as it stands (the
model's choice, log entry 10); any other answers its fields as they stand, and clears exactly its RC fields, whose accumulators
go on. R74, R110, R144, R277, R381, R459, R472: a read of a LO register answers it and latches its HI register for the agent
that reads, at the same instant, and nothing else; the next read of the HI register by that agent answers what was latched. -/
def Obligations.RegisterReads : Prop :=
  (∀ (a : Agent) (bar4 : Bool) (off : BitVec 26) (r : Reg) (i : Nat) (s : State), barReg bar4 off.toNat = some (r, i) →
    s.agentUp a = true → ownRead r = false →
    (s.offline r = true → s.Runs (.rcRead a bar4 off) (fun t => t.out = [.readData 0xFFFFFFFF]
      ∧ t.get .TEL_STATUS_offline_read 0 = 1 ∧ SameRegs [.TEL_STATUS_offline_read] s t ∧ SameEngines s t ∧ SameMgmt s t)) ∧
    (s.offline r = false → latchedReg r = true → s.Runs (.rcRead a bar4 off) (fun t => t.out = [.readData ((s.latched a r i).getD (s.regValue r i))]
      ∧ t.regs = s.regs ∧ SameEngines s t ∧ SameMgmt s t)) ∧
    (s.offline r = false → latchedReg r = false → s.Runs (.rcRead a bar4 off) (fun t => t.out = [.readData (s.regValue r i)]
      ∧ (∀ f, f ∈ r.fields → f.access = .RC → t.get f i = f.info.reset)
      ∧ (∀ f j, ¬ (f ∈ r.fields ∧ f.access = .RC ∧ j = i) → t.get f j = s.get f j)
      ∧ t.accum = s.accum ∧ SameEngines s t ∧ SameMgmt s t))) ∧
  (∀ (a : Agent) (s : State), s.agentUp a = true →
    (∀ fr : BitVec 16, s.Runs (.beatCountLoRead a fr) (fun t => t.out = [.readData (s.time.beat % 2 ^ 32)]
      ∧ t.latched a .BEAT_COUNT_HI 0 = some (s.time.beat / 2 ^ 32) ∧ t.latched a .BEAT_FRAC 0 = some fr.toNat ∧ t.regs = s.regs)) ∧
    s.Runs (.plnLoRead a 0) (fun t => t.out = [.readData (s.plan.beat % 2 ^ 32)]
      ∧ t.latched a .PLN_BEAT_HI 0 = some (s.plan.beat / 2 ^ 32) ∧ t.regs = s.regs) ∧
    s.Runs (.plnLoRead a 1) (fun t => t.out = [.readData (s.get .PLN_START_LO_start_beat 0)]
      ∧ t.latched a .PLN_START_HI 0 = some (s.get .PLN_START_HI_start_beat 0) ∧ t.regs = s.regs) ∧
    s.Runs (.plnLoRead a 2) (fun t => t.out = [.readData (s.get .PLN_STOP_LO_stop_lo 0)]
      ∧ t.latched a .PLN_STOP_HI 0 = some (s.get .PLN_STOP_HI_stop_hi 0 + 2 ^ 31 * s.get .PLN_STOP_HI_stop_valid 0) ∧ t.regs = s.regs) ∧
    s.Runs (.hbmTtmLoRead a .t1Limit) (fun t => t.out = [.readData (s.get .HBM_PLAN_LIMIT_LO_limit_lo 0)]
      ∧ t.latched a .HBM_PLAN_LIMIT_HI 0 = some (s.get .HBM_PLAN_LIMIT_HI_limit_hi 0) ∧ t.regs = s.regs) ∧
    (∀ k : StackIx, s.fieldUp = true → s.Runs (.hbmTtmLoRead a (.t1UeAddr k)) (fun t =>
      t.out = [.readData (s.get .HBM_UE_ADDR_LO_addr_lo k)] ∧ t.latched a .HBM_UE_ADDR_HI k
        = some (s.get .HBM_UE_ADDR_HI_addr_hi k + 2 ^ 31 * s.get .HBM_UE_ADDR_HI_valid k) ∧ t.regs = s.regs)) ∧
    s.Runs (.hbmTtmLoRead a .t2Limit) (fun t => t.out = [.readData (s.get .TTM_PLAN_LIMIT_LO_limit_lo 0)]
      ∧ t.latched a .TTM_PLAN_LIMIT_HI 0 = some (s.get .TTM_PLAN_LIMIT_HI_limit_hi 0) ∧ t.regs = s.regs) ∧
    (∀ k : TcIx, s.power ≠ .fieldReset → s.Runs (.hbmTtmLoRead a (.t2UeAddr k)) (fun t =>
      t.out = [.readData (s.get .TTM_UE_ADDR_LO_addr_lo k)] ∧ t.latched a .TTM_UE_ADDR_HI k
        = some (s.get .TTM_UE_ADDR_HI_addr_hi k + 2 ^ 31 * s.get .TTM_UE_ADDR_HI_valid k) ∧ t.regs = s.regs)) ∧
    (∀ p : PortIx, s.Runs (.lnkPeerLoRead a p) (fun t => t.out = [.readData (s.get .LNK_PEER_LO_peer_serial_lo p)]
      ∧ t.latched a .LNK_PEER_HI p = some (s.get .LNK_PEER_HI_peer_serial_hi p) ∧ t.regs = s.regs)) ∧
    s.Runs (.hstLoRead a 0) (fun t => t.out = [.readData (s.get .HST_AQ_SQ_LO_sq_base 0)]
      ∧ t.latched a .HST_AQ_SQ_HI 0 = some (s.get .HST_AQ_SQ_HI_sq_base 0) ∧ t.regs = s.regs) ∧
    s.Runs (.hstLoRead a 1) (fun t => t.out = [.readData (s.get .HST_AQ_CQ_LO_cq_base 0)]
      ∧ t.latched a .HST_AQ_CQ_HI 0 = some (s.get .HST_AQ_CQ_HI_cq_base 0) ∧ t.regs = s.regs) ∧
    s.Runs (.hstLoRead a 2) (fun t => t.out = [.readData (s.get .HST_EVT_BASE_LO_evt_base 0)]
      ∧ t.latched a .HST_EVT_BASE_HI 0 = some (s.get .HST_EVT_BASE_HI_evt_base 0) ∧ t.regs = s.regs) ∧
    (∀ k : TileIx, s.fieldUp = true → s.Runs (.tilHaltBeatLoRead a k) (fun t =>
      t.out = [.readData (s.get .TIL_HALT_BEAT_LO_beat_lo k)] ∧ t.latched a .TIL_HALT_BEAT_HI k = some (s.get .TIL_HALT_BEAT_HI_beat_hi k)
      ∧ t.regs = s.regs ∧ SameBytes s t ∧ SameTiles s t)) ∧
    (∀ k : TileIx, s.fieldUp = false → s.Runs (.tilHaltBeatLoRead a k) (fun t => t.out = [.readData 0xFFFFFFFF]
      ∧ t.get .TEL_STATUS_offline_read 0 = 1 ∧ SameRegs [.TEL_STATUS_offline_read] s t)) ∧
    s.Runs (.fltFatalBeatLoRead a) (fun t => t.out = [.readData (s.get .FLT_FATAL_BEAT_LO_beat_lo 0)]
      ∧ t.latched a .FLT_FATAL_BEAT_HI 0 = some (s.get .FLT_FATAL_BEAT_HI_beat_hi 0) ∧ t.regs = s.regs))

/-- Registers whose write does more than R12's access codes say. -/
def actingWrite (r : Reg) : Bool :=
  match r with | .LNK_CTRL | .TIL_CTRL | .PLN_CTRL | .FLT_CTRL | .SEC_CTRL => true | _ => false

/-- R12, R73, R316, R353, R406, R432: a write of a register with no row of its own. One to the SEC_ block from an agent that is
not secure is refused and recorded; one to the registers of the negotiation has no effect while the interface is enabled. A
plain one stores each RW field in its range, sets what is written 1 to a W1S field, clears what is written 1 to a W1C field,
leaves RO, RC and locked fields, and touches no other register and no other part of the module. R12, R109, R350, R472: the
writes of registers with an action of their own that no other row states: statistics are cleared by PLN_CTRL; a host access to a
reserved offset, or one that is no aligned 32-bit access, is counted, and a read is answered with 0, or with Unsupported
Request. -/
def Obligations.RegisterWrites : Prop :=
  (∀ (a : Agent) (bar4 : Bool) (off : BitVec 26) (v : Word) (r : Reg) (i : Nat) (s : State),
    barReg bar4 off.toNat = some (r, i) → s.agentUp a = true → ownWrite r = false → s.offline r = false →
    (bar4 = false → inBlock 0x20000 r = true → isSecure a = false → s.Runs (.registerWrite a bar4 off v) (fun t =>
      t.get .SEC_STATUS_nonsec_denied 0 = 1
      ∧ SameRegs [.SEC_STATUS_nonsec_denied, .MGT_STATUS_host_denied, .MGT_ERR_access_denied] s t ∧ SameEngines s t ∧ SameMgmt s t
      ∧ SameBytes s t ∧ SameTiles s t)) ∧
    (negotiated r = true → s.get .HST_CTRL_enable 0 = 1 → exec (.registerWrite a bar4 off v) s = .next s.begin) ∧
    (actingWrite r = false → negotiated r = false ∨ s.get .HST_CTRL_enable 0 ≠ 1 → inBlock 0x20000 r = false ∨ isSecure a = true →
        inBlock 0x30000 r = false ∨ writesFlt a = true →
      s.Runs (.registerWrite a bar4 off v) (fun t =>
        (∀ f, f ∈ r.fields → ∀ x, x = bits v.toNat (f.lo + f.width - 1) f.lo →
          (f.access = .RW ∨ f.access = .RWS → t.get f i = s.stored f i x % 2 ^ f.width) ∧
          (f.access = .RWL → s.lockedField f i = true → t.get f i = s.get f i) ∧
          (f.access = .W1S → t.get f i = (s.get f i ||| x) % 2 ^ f.width) ∧
          (f.access = .W1C → t.get f i = (s.get f i - (s.get f i &&& x)) % 2 ^ f.width) ∧
          (f.access = .RO ∨ f.access = .RC → t.get f i = s.get f i)) ∧
        (∀ f j, f ∉ r.fields ∨ j ≠ i → t.get f j = s.get f j) ∧ SameEngines s t ∧ SameMgmt s t ∧ SameBytes s t ∧ SameTiles s t))) ∧
  ((∀ (w : Bool) (s : State), s.hostUp = true →
    s.Runs (.reservedOffsetAccess w) (fun t => t.out = (if w then [] else [.readData 0])
      ∧ t.get .HST_ERR_bad_access 0 = min (s.get .HST_ERR_bad_access 0 + 1) (2 ^ RegField.width .HST_ERR_bad_access - 1)
      ∧ SameRegs [.HST_ERR_bad_access] s t ∧ SameEngines s t ∧ SameMgmt s t) ∧
    s.Runs (.bar0InvalidAccess w) (fun t => t.out = (if w then [] else [.unsupported])
      ∧ t.get .HST_ERR_bad_access 0 = min (s.get .HST_ERR_bad_access 0 + 1) (2 ^ RegField.width .HST_ERR_bad_access - 1)
      ∧ SameRegs [.HST_ERR_bad_access] s t ∧ SameEngines s t ∧ SameMgmt s t)) ∧
  (∀ (v : Word) (s : State), s.hubUp = true → bit v.toNat 1 = true → s.Runs (.statsClear v) (fun t =>
    t.get .PLN_CTRL_finish_words 0 = bits v.toNat 0 0 ∧ t.get .PLN_TOLL_ORIG_region_late 0 = 0 ∧ t.get .PLN_TOLL_ORIG_item_late 0 = 0
    ∧ t.get .PLN_TOLL_ORIG_link 0 = 0 ∧ t.get .PLN_TOLL_ORIG_stop 0 = 0 ∧ t.get .PLN_TOLL_RX_received 0 = 0
    ∧ t.get .PLN_TOLL_RX_foreign 0 = 0 ∧ t.get .PLN_TOLL_RX_merged 0 = 0 ∧ t.get .PLN_LAST_last_measures 0 = 0
    ∧ (∀ d < 8, t.get .PLN_DIE_LATE_late_measures d = 0 ∧ t.get .PLN_DIE_LATE_last_region d = 127)
    ∧ SameRegs [.PLN_CTRL_finish_words, .PLN_TOLL_ORIG_region_late, .PLN_TOLL_ORIG_item_late, .PLN_TOLL_ORIG_link, .PLN_TOLL_ORIG_stop,
        .PLN_TOLL_RX_received, .PLN_TOLL_RX_foreign, .PLN_TOLL_RX_merged, .PLN_LAST_last_measures, .PLN_DIE_LATE_late_measures,
        .PLN_DIE_LATE_last_region] s t ∧ SameEngines s t)))

/-! ### Plans and tolls -/

/-- The program entries of an image for a die, if it has the section (R175). -/
def Sys2Proof.Machine.Image.progs (m : Image) (s : State) (d : Nat) : List ProgEntry :=
  if (m.get 1 d).len < 8 then [] else s.progEntries (m.get 1 d) d

/-- R83 to R85, R175, R251, R320, R363, R409, R413, R423: PLAN_LOAD. It completes with STATE under a fatal entry and where the
module loads no plans, with PARAM_INVALID outside the plan area, and with PLAN_REFUSED and its code recorded where a plan is
present or a check fails; these leave plan state, bytes and tiles as they were. An image that passes every check is taken:
LOADED, with its plan, its epoch and its router tables in force in hub and Rims, no rest listed, every placed tile with its
program in its scratchpad, every other with none, the scratchpads zero where the image gives them nothing (outside secure
windows), and tier 1 and tier 2 as they were. -/
def Obligations.PlanLoadChecksAndLoads : Prop :=
  ∀ (q : QueueIx) (cid : Cid) (f : Fetched) (s : State), s.Ready q cid 0x10 f → s.planAreaWritten = false →
    (s.fatalActive = true ∨ s.noPlans = true → s.Runs (.planLoad q cid) (fun t => Completed f .state s.stateResult s t
      ∧ SameRegs [.HST_ERR_cmd_errors] s t ∧ SameBytes s t ∧ SameTiles s t ∧ t.plan = s.plan)) ∧
    (s.fatalActive = false → s.noPlans = false → planAreaBase ≤ f.par 8 8 → f.par 8 8 ≤ planAreaTop →
      (s.planState ≠ .idle → s.Runs (.planLoad q cid) (fun t => Completed f .planRefused LoadCode.planPresent.code s t
        ∧ t.get .PLN_LOAD_STATUS_code 0 = LoadCode.planPresent.code ∧ t.planState = s.planState ∧ SameBytes s t ∧ SameTiles s t
        ∧ SameRegs [.HST_ERR_cmd_errors, .PLN_LOAD_STATUS_code, .PLN_LOAD_STATUS_detail] s t ∧ t.plan = s.plan)) ∧
      (s.planState = .idle → s.tiersServe = true →
        (∀ c d, s.imageRefusal (s.image (f.par 8 8)) = some (c, d) →
          s.Runs (.planLoad q cid) (fun t => Completed f .planRefused (c.code + 2 ^ 16 * d) s t ∧ t.planState = .idle
            ∧ t.get .PLN_LOAD_STATUS_code 0 = c.code ∧ SameBytes s t ∧ SameTiles s t ∧ t.plan = s.plan
            ∧ SameRegs [.HST_ERR_cmd_errors, .PLN_LOAD_STATUS_code, .PLN_LOAD_STATUS_detail] s t)) ∧
        (s.imageRefusal (s.image (f.par 8 8)) = none →
          s.Runs (.planLoad q cid) (fun t => Completed f .success 0 s t ∧ t.planState = .loaded ∧ t.get .PLN_LOAD_STATUS_code 0 = 0
            ∧ t.get .PLN_EPOCH_epoch 0 = (s.image (f.par 8 8)).header.epoch % 2 ^ 16
            ∧ t.get .RTE_EPOCH_epoch 0 = (s.image (f.par 8 8)).header.epoch % 2 ^ 16
            ∧ t.get .RTE_PLAN_rstate 0 = 1 ∧ t.router = (s.image (f.par 8 8)).router s.router
            ∧ (∀ d < 8, ∀ e ∈ (s.image (f.par 8 8)).progs s d,
                (∀ d' < 8, ∀ e' ∈ (s.image (f.par 8 8)).progs s d', e'.tile = e.tile → e' = e) →
                (t.tile e.tile).prog = some (Prog.mk (wordAddress e.prologue) e.prologueWords (wordAddress e.body) e.bodyWords
                  (s.image (f.par 8 8)).header.repeats) ∧ (t.tile e.tile).running = false)
            ∧ (∀ k, (∀ d < 8, ∀ e ∈ (s.image (f.par 8 8)).progs s d, e.tile ≠ k) → (t.tile k).prog = none)
            ∧ ((∀ d < 8, ((s.image (f.par 8 8)).get 2 d).len < 8 ∧ ((s.image (f.par 8 8)).get 0x0B d).len < 8) →
                (∀ d < 8, ∀ e ∈ (s.image (f.par 8 8)).progs s d, (∀ d' < 8, ∀ e' ∈ (s.image (f.par 8 8)).progs s d', d' = d ∧ e' = e) →
                  t.spad.readBytes (2 ^ 20 * e.tile + 8 * e.load) e.bytes
                    = ((s.image (f.par 8 8)).get 1 d).bytes e.offset e.bytes) ∧
                ((∀ d < 8, (s.image (f.par 8 8)).progs s d = []) → ∀ k < 9216, s.tileUsed k = true →
                  ∀ u < 2 ^ 15, u < (s.window (tileDie k)).1 ∨ (s.window (tileDie k)).2 ≤ u →
                    ∀ b < 32, t.spad.read (2 ^ 20 * k + 32 * u + b) = 0))
            ∧ t.plan.plan = some ((s.image (f.par 8 8)).plan (f.par 8 8)) ∧ t.plan.rests = []
            ∧ t.plan.tollId = s.plan.tollId ∧ t.time = s.time ∧ t.raised = s.raised
            ∧ t.tier1 = s.tier1 ∧ t.tier2 = s.tier2 ∧ t.mgmt = s.mgmt))))

/-- R84, R85, R343, R475: PLAN_ARM takes a LOADED plan whose start beat is a downbeat at least 1,024 beats away, on a LOCKED
module whose slot-table ports are ready, to ARMED with that start beat; otherwise it is refused with the first code that applies
and changes no plan state. At the start beat the plan is RUNNING at plan beat 0 and every placed tile begins; a fatal entry that
came first makes the start missed, and a router plan whose hub has lost its own starts alone. -/
def Obligations.PlansArmAndStart : Prop :=
  (∀ (q : QueueIx) (cid : Cid) (f : Fetched) (s : State), s.Ready q cid 0x11 f →
    (s.fatalActive = true ∨ s.planState ≠ .loaded ∨ s.tiersServe = false → s.Runs (.planArm q cid) (fun t =>
      Completed f .state s.stateResult s t ∧ t.plan = s.plan ∧ SameRegs [.HST_ERR_cmd_errors] s t)) ∧
    (s.fatalActive = false → s.planState = .loaded → s.tiersServe = true →
      (f.par 8 8 % 16 ≠ 0 ∨ f.par 8 8 < s.time.beat + 1024 → s.Runs (.planArm q cid) (fun t =>
        Completed f .planRefused LoadCode.startTooSoon.code s t ∧ t.planState = .loaded
        ∧ t.get .PLN_LOAD_STATUS_code 0 = LoadCode.startTooSoon.code ∧ t.plan = s.plan)) ∧
      (f.par 8 8 % 16 = 0 → s.time.beat + 1024 ≤ f.par 8 8 →
        (s.timeState ≠ .locked → s.Runs (.planArm q cid) (fun t => Completed f .planRefused LoadCode.timeNotLocked.code s t
          ∧ t.planState = .loaded ∧ t.plan = s.plan)) ∧
        (∀ x, s.timeState = .locked → x ∈ s.router.ports → s.fenced x.port = true → s.Runs (.planArm q cid) (fun t =>
          t.planState = .loaded ∧ t.get .PLN_LOAD_STATUS_code 0 = LoadCode.portNotReady.code ∧ t.plan = s.plan)) ∧
        (s.timeState = .locked → (∀ x ∈ s.router.ports, s.portNotReady x = false) → s.Runs (.planArm q cid) (fun t =>
          Completed f .success 0 s t ∧ t.planState = .armed ∧ t.startBeat = f.par 8 8 % 2 ^ 64 ∧ t.get .RTE_PLAN_rstate 0 = 2
          ∧ t.router = { s.router with start := some (f.par 8 8) } ∧ t.plan = s.plan ∧ t.time = s.time ∧ t.ports = s.ports))))) ∧
  (∀ (s : State), s.powered = true → s.time.beat = s.startBeat →
    (s.planState = .armed → s.Runs .startBeat (fun t => t.planState = .running ∧ t.plan.beat = 0 ∧ t.plan.rests = []
      ∧ t.router.planBeat = 0 ∧ t.tiles = s.tiles.map (fun e => (e.1, e.2.start (s.nowOf e.1))) ∧ SameBytes s t ∧ t.time = s.time
      ∧ t.ports = s.ports ∧ t.plan.plan = s.plan.plan)) ∧
    (s.planState = .faulted → s.get .FLT_FATAL_PLAN_plan_state 0 = 2 → s.Runs .startBeat (fun t =>
      t.get .PLN_STATUS_arm_missed 0 = 1 ∧ SameRegs [.PLN_STATUS_arm_missed] s t ∧ SameEngines s t ∧ SameBytes s t ∧ SameTiles s t))) ∧
  (∀ (s : State), s.powered = true → s.hubStarts = false → s.rimArmed = true → s.Runs .startBeat (fun t =>
    t.get .RTE_PLAN_rstate 0 = 3 ∧ t.router.planBeat = 0 ∧ t.router.rests = [] ∧ SameRegs [.RTE_PLAN_rstate] s t ∧ t.plan = s.plan
    ∧ t.time = s.time ∧ SameBytes s t ∧ SameTiles s t))

/-- R83, R86, R103, R343, R362: STOP_AT_MEASURE completes with STOP_REFUSED where no plan runs or its measure is too near, and
otherwise sends a stop toll and makes its measure the pending stop unless a smaller one is. PLAN_UNLOAD, from LOADED and
STOPPED, leads to IDLE, keeps the epoch as the last one, takes the plan from hub, router and tiles, and leaves all bytes; from
IDLE it takes what plan the router has. PLAN_STATUS answers state, load code, epoch and rest total. -/
def Obligations.PlanCommands : Prop :=
  (∀ (q : QueueIx) (cid : Cid) (f : Fetched) (s : State), s.Ready q cid 0x12 f → s.fatalActive = false →
    (s.planState = .running ∨ s.planState = .resting → 0 < s.get .PLN_CFG_toll_reach 0 →
        s.plan.beat / 16 + ceilDiv (s.get .PLN_CFG_toll_reach 0) 16 + 1 ≤ f.par 8 8 →
      s.Runs (.stopAtMeasure q cid) (fun t => Completed f .success 0 s t
        ∧ t.plan.stop = smallerStop s.plan.stop (f.par 8 8) ∧ t.get .PLN_STOP_HI_stop_valid 0 = 1 ∧ t.planState = s.planState ∧ t.raised = s.raised
        ∧ (∃ x, t.router.tollIn = s.router.tollIn ++ [x] ∧ x.rim = 0 ∧ x.toll.cause = 4 ∧ x.toll.stopMeasure = f.par 8 8
            ∧ x.toll.restD = 0 ∧ x.toll.beatB = s.time.beat ∧ x.toll.origin = s.deviceId ∧ x.toll.tollId = s.plan.tollId)
        ∧ t.plan.tollId = (s.plan.tollId + 1) % 2 ^ 16 ∧ t.plan.rests = s.plan.rests)) ∧
    ((s.planState ≠ .running ∧ s.planState ≠ .resting)
        ∨ f.par 8 8 < s.plan.beat / 16 + ceilDiv (s.get .PLN_CFG_toll_reach 0) 16 + 1 →
      s.Runs (.stopAtMeasure q cid) (fun t => Completed f .stopRefused 0 s t ∧ SameRegs [.HST_ERR_cmd_errors] s t
        ∧ t.plan = s.plan ∧ t.router = s.router))) ∧
  (∀ (q : QueueIx) (cid : Cid) (f : Fetched) (s : State), s.Ready q cid 0x13 f →
    (s.planState = .loaded ∨ s.planState = .stopped → s.Runs (.planUnload q cid) (fun t =>
      Completed f .success (s.get .PLN_EPOCH_epoch 0) s t ∧ t.planState = .idle ∧ t.get .PLN_EPOCH_last_epoch 0 = s.get .PLN_EPOCH_epoch 0 % 2 ^ 16
      ∧ t.get .PLN_EPOCH_epoch 0 = 0 ∧ t.get .RTE_EPOCH_epoch 0 = 0 ∧ t.get .RTE_PLAN_rstate 0 = 0 ∧ t.plan.plan = none
      ∧ t.router.slots = [] ∧ t.router.items = [] ∧ t.router.routes = s.router.routes ∧ t.router.vias = s.router.vias
      ∧ t.serving = Serving.reset ∧ t.host.ingest = [] ∧ SameBytes s t ∧ t.time.beat = s.time.beat ∧ ∀ k, (t.tile k).prog = none)) ∧
    (s.planState = .idle → s.get .RTE_PLAN_rstate 0 ≠ 0 → s.Runs (.planUnload q cid) (fun t =>
      Completed f .success (s.get .RTE_EPOCH_epoch 0) s t ∧ t.get .RTE_EPOCH_epoch 0 = 0 ∧ t.get .RTE_PLAN_rstate 0 = 0
      ∧ t.router.slots = [] ∧ t.plan = s.plan ∧ SameBytes s t ∧ SameTiles s t)) ∧
    (s.planState = .idle → s.get .RTE_PLAN_rstate 0 = 0 → s.Runs (.planUnload q cid) (fun t =>
      Completed f .success (s.get .PLN_EPOCH_last_epoch 0) s t ∧ t.regs = s.regs ∧ t.plan = s.plan ∧ SameBytes s t ∧ SameTiles s t)) ∧
    (s.planState ≠ .loaded → s.planState ≠ .stopped → s.planState ≠ .idle → s.Runs (.planUnload q cid) (fun t =>
      Completed f .state s.stateResult s t ∧ SameRegs [.HST_ERR_cmd_errors] s t ∧ t.plan = s.plan ∧ SameBytes s t ∧ SameTiles s t))) ∧
  (∀ (q : QueueIx) (cid : Cid) (f : Fetched) (s : State), s.Ready q cid 0x14 f → s.Runs (.planStatus q cid) (fun t =>
    Completed f .success (s.planState.code + 2 ^ 8 * s.get .PLN_LOAD_STATUS_code 0 + 2 ^ 16 * s.get .PLN_EPOCH_epoch 0
      + 2 ^ 32 * s.get .PLN_REST_TOTAL_rest_measures 0) s t ∧ t.regs = s.regs ∧ t.plan = s.plan))

/-- R87, R88, R92 to R94, R96: the checks of a running plan. A region late with the measure just ended tolls with cause
REGION_LATE and the plan's region rest, and the margin of a measure is kept; with no region late no toll is sent. An item
missing at its due beat tolls with its rest; one still missing before its consumer is lost, and one that has come is not. -/
def Obligations.ChecksToll : Prop :=
  (∀ (ps : Word) (s : State) (m : Nat), s.planState = .running → s.beatExecutes = true → s.plan.beat = 16 * (m + 1) →
      s.plan.lastRegion ≠ some m →
    (s.lateRegions m = [] → s.Runs (.regionCheck ps) (fun t => t.router.tollIn = s.router.tollIn ∧ t.raised = s.raised
      ∧ t.plan.lastRegion = some m
      ∧ t.plan.own = s.plan.own ++ [⟨m, 0, if s.hasWork m then toSigned 32 ps.toNat else 640000⟩] ∧ t.regs = s.regs)) ∧
    (∀ r, s.lateRegions m = [r] → s.plan.lateRegions = [] → s.plan.originated = [] → s.fatalActive = false →
      s.Runs (.regionCheck ps) (fun t => t.plan.lastRegion = some m
        ∧ (∃ x, t.router.tollIn = s.router.tollIn ++ [x] ∧ x.toll.cause = 0 ∧ x.toll.beatB = s.time.beat
            ∧ x.toll.restD = s.get .PLN_CFG_region_rest 0 ∧ x.toll.detail = r % 72 + 2 ^ 7 * (r / 72))
        ∧ t.get .PLN_DIE_LATE_last_region (r / 72) = r % 72))) ∧
  (∀ (x : Plan) (e : DueEntry) (s : State), s.plan.plan = some x → s.beatExecutes = true → s.plan.lastDue ≠ some s.plan.beat →
      x.dueAt s.plan.beat = [e] → s.tier2Items (fun a => a.due == s.plan.beat) = [] → s.fatalActive = false → s.plan.originated = [] →
    s.Runs .dueBeatCheck (fun t => t.plan.lastDue = some s.plan.beat ∧ SameBytes s t
      ∧ (s.missing x e s.plan.beat = false → t.router.tollIn = s.router.tollIn ∧ t.raised = s.raised)
      ∧ (s.missing x e s.plan.beat = true → ∃ y, t.router.tollIn = s.router.tollIn ++ [y] ∧ y.toll.cause = 1
          ∧ y.toll.beatB = s.time.beat ∧ y.toll.detail = e.tag % 2 ^ 32
          ∧ y.toll.restD = (if e.restD = 0 then s.get .PLN_CFG_item_rest 0 else e.restD)))) ∧
  (∀ (x : Plan) (e : DueEntry) (s : State), s.plan.plan = some x → s.beatExecutes = true → s.plan.lastSecond ≠ some s.plan.beat →
      x.secondAt s.plan.beat = [e] → s.tier2Items (fun a => a.due + s.get .PLN_CFG_toll_reach 0 == s.plan.beat) = [] →
    s.Runs .secondCheck (fun t => t.plan.lastSecond = some s.plan.beat ∧ t.regs = s.regs
      ∧ t.raised = (if s.missing x e (s.plan.beat - e.consume) then s.raised ++ [⟨.itemLost, e.tag % 2 ^ 32⟩] else s.raised)))

/-- R97: a Rim takes the first toll word that waits there. One of another epoch is counted and goes no further; one in the Rim's
seen table goes no further; a new one is entered there until its B + 2K and goes, with hops one higher, to the Rim's neighbours
on the chain and out of its unfenced ACTIVE ports alone, and from RM0 to the hub as it came (the model's choice, log entry 16).
An entry leaves the table once its beat has come. -/
def Obligations.TollsSpread : Prop :=
  (∀ (r : RimIx) (x : TollIn) rest (s : State), s.powered = true → takeToll r s.router.tollIn = some (x, rest) →
    (s.get .RTE_EPOCH_epoch 0 = 0 ∨ x.toll.epoch ≠ s.get .RTE_EPOCH_epoch 0 → s.Runs (.toll r) (fun t =>
      t.router = { s.router with tollIn := rest } ∧ t.ports = s.ports ∧ SameRegs [.PLN_TOLL_RX_foreign] s t
      ∧ t.get .PLN_TOLL_RX_foreign 0 = min (s.get .PLN_TOLL_RX_foreign 0 + 1) 255)) ∧
    (s.get .RTE_EPOCH_epoch 0 ≠ 0 → x.toll.epoch = s.get .RTE_EPOCH_epoch 0 →
      (x.toll.seenIn (s.seenOf r) = true → s.Runs (.toll r) (fun t => t.router = { s.router with tollIn := rest }
        ∧ t.ports = s.ports ∧ t.regs = s.regs)) ∧
      (x.toll.seenIn (s.seenOf r) = false → (s.seenOf r).length < 512 → s.Runs (.toll r) (fun t =>
        t.seenOf r = s.seenOf r ++ [⟨x.toll.origin, x.toll.tollId, x.toll.epoch, x.toll.beatB + 2 * s.router.reach⟩]
        ∧ (∃ next, t.router.tollIn = rest ++ next ∧ (∀ n ∈ next, n.toll = x.toll.hop ∧ (n.rim + 1 = r ∨ n.rim = r + 1) ∧ n.rim < 6)
            ∧ next.length = (if r.val = 0 ∨ r.val = 5 then 1 else 2))
        ∧ t.router.hubTolls = s.router.hubTolls ++ (if r.val = 0 ∧ x.own = false then [x.toll] else [])
        ∧ (∀ p : PortIx, p.val / 6 = r → s.fenced p = false → s.train p = .active →
            (t.port p).urgent = (s.port p).urgent ++ [⟨2, false, padTo 6 [], padTo 32 x.toll.hop.bytes⟩])
        ∧ (∀ p : PortIx, p.val / 6 ≠ r ∨ s.fenced p = true ∨ s.train p ≠ .active → t.port p = s.port p))))) ∧
  (∀ (r : RimIx) (s : State), s.powered = true → (∃ e ∈ s.seenOf r, e.retire ≤ s.time.beat) →
    s.Runs (.seenEntryRetire r) (fun t => t.seenOf r = (s.seenOf r).filter (fun e => decide (s.time.beat < e.retire))
      ∧ t.regs = s.regs ∧ t.ports = s.ports ∧ t.plan = s.plan))

/-- R105: the plan enters STOPPED once every tile has gated, every access has completed and 16 beats have passed since the stop
downbeat; 1,024 measures after it, if that has not happened, the module enters the fatal path with STOP_DRAIN_TIMEOUT. Before
both, nothing happens. -/
def Obligations.StopDrains : Prop :=
  ∀ (k : Nat) (s : State), s.powered = true → s.planState = .stopping → s.plan.stopTick = some k →
    (s.drained = true → k + 16 ≤ s.time.tick → s.Runs .stopDrainComplete (fun t => t.planState = .stopped ∧ t.plan = s.plan
      ∧ t.raised = s.raised ∧ t.time = s.time)) ∧
    (s.drained = false ∨ s.time.tick < k + 16 → exec .stopDrainComplete s = .next s.begin) ∧
    (s.drained = false → k + 16 * 1024 ≤ s.time.tick → s.Runs .stopDrainTimeout (fun t =>
      t.raised = s.raised ++ [⟨.stopDrainTimeout, 0⟩] ∧ t.regs = s.regs ∧ t.plan = s.plan)) ∧
    (s.drained = true ∨ s.time.tick < k + 16 * 1024 → exec .stopDrainTimeout s = .next s.begin)

/-- R98 to R100, R103: the hub takes a toll of its epoch while a plan runs. A late one is fatal with LATE_TOLL and a malformed
one with TOLL_INVALID, and neither enters a list. Any other is counted, and one that is no stop enters the rest list of hub and
Rims at its insertion measure, where of two entries with one start the longer stands. R106, R107: a finish word on a port of the
domain, of the plan's epoch and while a plan runs, is kept for its measure's count; any other is taken and forgotten. -/
def Obligations.TollsInsertRests : Prop :=
  (∀ (x : Toll) rest (s : State), s.powered = true → s.router.hubTolls = x :: rest → s.hubActs = true → s.rimActs = false →
    x.epoch = s.get .PLN_EPOCH_epoch 0 →
    (x.malformed = true → s.Runs .hubTollReceive (fun t => (∃ y, t.raised = s.raised ++ [y] ∧ y.reason = .tollInvalid)
      ∧ t.plan = s.plan ∧ t.regs = s.regs)) ∧
    (x.malformed = false → x.cause ≠ 4 → s.time.beat + 1 ≥ 16 * ((x.beatB + s.get .PLN_CFG_toll_reach 0) / 16) →
      s.Runs .hubTollReceive (fun t => (∃ y, t.raised = s.raised ++ [y] ∧ y.reason = .lateToll) ∧ t.plan = s.plan ∧ t.regs = s.regs)) ∧
    (x.malformed = false → x.cause ≠ 4 → ∀ i, i = 16 * ((x.beatB + s.get .PLN_CFG_toll_reach 0) / 16) → s.time.beat + 1 < i →
        restFull i s.plan.rests = false →
      s.Runs .hubTollReceive (fun t => t.raised = s.raised ∧ t.router.hubTolls = rest
        ∧ (∃ e ∈ t.plan.rests, e.i = i ∧ x.restD ≤ e.d) ∧ (∀ e ∈ s.plan.rests, ∃ g ∈ t.plan.rests, g.i = e.i ∧ e.d ≤ g.d)
        ∧ (∀ g ∈ t.plan.rests, g ∈ s.plan.rests ∨ (g.i = i ∧ (g.d = x.restD ∨ ∃ e ∈ s.plan.rests, e.i = i ∧ g.d = max e.d x.restD)))
        ∧ t.get .PLN_TOLL_RX_received 0 = min (s.get .PLN_TOLL_RX_received 0 + 1) 65535
        ∧ t.get .PLN_LAST_TOLL2_origin_id 0 = x.origin % 2 ^ 16 ∧ t.plan.beat = s.plan.beat ∧ t.time = s.time ∧ t.ports = s.ports)) ∧
    (x.malformed = false → x.cause = 4 →
        s.time.beat + 1 < executionBeat s.plan.rests s.time.beat s.plan.beat (16 * x.stopMeasure) →
      s.Runs .hubTollReceive (fun t => t.plan.stop = smallerStop s.plan.stop x.stopMeasure ∧ t.plan.rests = s.plan.rests
        ∧ t.raised = s.raised))) ∧
  (∀ (p : PortIx) (s : State) (c : Ctrl) rest, s.powered = true → takeCtrl 3 (s.port p).rxCtrl = some (c, rest) →
    s.Runs (.finish p) (fun t => (t.port p).rxCtrl = rest ∧ t.regs = s.regs ∧ t.raised = s.raised
      ∧ t.plan.finish = (if s.inDomain p = true ∧ leAt c.body 14 2 = s.get .PLN_EPOCH_epoch 0
            ∧ (s.planState = .running ∨ s.planState = .resting) then
          s.plan.finish ++ [⟨leAt c.body 0 8, p, toSigned 32 (leAt c.body 8 4)⟩] else s.plan.finish)))

/-! ### Tiles: issue and the sequencer's instructions -/

/-- R132, R181, R182, R198, R203, R206: a tile that may issue takes the word at its program address, whatever the command. A
word with another listed opcode is left for its own command. An opcode the table does not have, a wrong count of extension
words, and a wait token that is neither on the board nor to come halt a quiet tile with their codes; a token still to come
stalls it. A cycle of a quiet tile begins with nothing changed. -/
def Obligations.IssueDecodesAndWaits : Prop :=
  ∀ (op : Nat) (t : TileIx) (e w pc : Nat) (s v : State), op ∈ opcodes → s.tileEvent t e = true → v = s.entered t e →
    ((s.tile t).quiet = true → OnlyTile t s v ∧ v.tile t = { s.tile t with now := e }) ∧
    (v.canIssue t e = true → pc = (v.tile t).pc → w = v.spadWord t pc →
      (opcodeOf w ∈ opcodes → opcodeOf w ≠ op → exec (tileInstr op t e) s = .next v) ∧
      (opcodeOf w ∉ opcodes → (v.tile t).quiet = true →
        s.Runs (tileInstr op t e) (fun u => HaltedWith u t ⟨0x01, 0, pc, opcodeOf w⟩ ∧ SameBytes v u)) ∧
      (opcodeOf w = op → extOf w ≠ extNeeded w → (v.tile t).quiet = true →
        s.Runs (tileInstr op t e) (fun u => HaltedWith u t ⟨0x02, 0, pc, extOf w + 2 ^ 8 * extNeeded w⟩ ∧ SameBytes v u)) ∧
      (opcodeOf w = op → op ≠ 1 → decodeConds (v.tile t) pc w = [] → waitOf w ≠ 0 → bit (v.tile t).board (waitOf w) = false →
        ((v.tile t).willPost (waitOf w) (v.tile t).vrunLocal = true → s.Runs (tileInstr op t e) (fun u => OnlyTile t v u
          ∧ u.tile t = { v.tile t with tokenStall := true })) ∧
        ((v.tile t).willPost (waitOf w) (v.tile t).vrunLocal = false → (v.tile t).quiet = true →
          s.Runs (tileInstr op t e) (fun u => HaltedWith u t ⟨0x41, 5, pc, waitOf w⟩ ∧ SameBytes v u))))

/-- R193: a bound of 0 on a PUSH, a PULL, a WAIT.FLAG, an MMA with src = 1, or a VRUN whose range touches a queue is among what
halts the instruction, as BOUND_ZERO; a VRUN that touches no queue may have any bound. R138, R140, R203, R204, R206, R210: an
instruction one of whose checks fails halts its tile, with the failing check of the lowest code recorded where no unit of the
tile runs, and with the fatal reason TILE_HALT while a plan executes. So does HALT always, with PROGRAM_HALT and its code. No
word of memory changes. -/
def Obligations.FailedChecksHaltTheTile : Prop :=
  (∀ (i : Issue),
    (bits i.w 42 29 = 0 → ∃ c ∈ checksOf 0x10 i, c.code = 0x35) ∧ (bits i.w 42 29 = 0 → ∃ c ∈ checksOf 0x11 i, c.code = 0x35) ∧
    (bits i.w 51 38 = 0 → ∃ c ∈ checksOf 0x19 i, c.code = 0x35) ∧
    (bit i.w 54 = true → (qctlOf (i.ext 0)).bound = 0 → ∃ c ∈ checksOf 0x20 i, c.code = 0x35) ∧
    (vrunEmpty i = false → i.x.voiceLoad = none → bits i.w 61 48 = 0 →
      ((∃ m ∈ vrunMicros i, m.inQueue ≠ none ∨ m.outQueue ≠ none) → ∃ c ∈ checksOf 0x28 i, c.code = 0x35) ∧
      ((∀ m ∈ vrunMicros i, m.inQueue = none ∧ m.outQueue = none) → ∀ c ∈ checksOf 0x28 i, c.code ≠ 0x35))) ∧
  (∀ (op : Nat) (t : TileIx) (e w : Nat) (y : Tile) (c : Cond) (s v : State), op ∈ opcodes → s.Issues t e op w y → v = s.entered t e →
    lowest (checksOf op (s.issue t e w y)) = some c →
    s.Runs (tileInstr op t e) (fun u => (u.tile t).halted = true) ∧
    ((v.tile t).quiet = true → bit y.board (postOf w) = false → s.Runs (tileInstr op t e) (fun u => HaltedWith u t c ∧ SameBytes v u
      ∧ u.get .TIL_HALT_BEAT_LO_beat_lo t = s.time.beat % 2 ^ 32
      ∧ (∀ k, k ≠ t.val → u.tile k = v.tile k) ∧ (u.tile t).push = [] ∧ (u.tile t).pull = [] ∧ (u.tile t).block = none
      ∧ (v.planExecutes = true → ∃ x, u.raised = v.raised ++ [x] ∧ x.reason = .tileHalt ∧ x.detail / 2 ^ 16 = c.code % 2 ^ 16)
      ∧ (v.planExecutes = false → u.raised = v.raised))))

/-- R209, R211 to R213, R216, R221: NOP, SEED, CANARY, SETC, SETC.S, CLR.FLAG and VOICE have their effect on their tile alone,
post where they complete at issue, and the sequencer goes on: after 1 + extra cycles for NOP, in the next cycle for the others.
What they stage applies when it is due on a tile that does nothing else and whose program goes on: a seed, a SETC's count and a
cleared flag from the next cycle, a SETC.S's count from the third. -/
def Obligations.SequencerInstructions : Prop :=
  ∀ (t : TileIx) (e w : Nat) (y : Tile) (s v : State), v = s.entered t e → ∀ goes : Bool,
    goes = (y.quiet && !(y.goOn (y.pc + 1) (e + 1) (e + 1)).finished) →
    (s.Issues t e 0x00 w y → y.canPost w → s.Runs (.nop t e) (fun u => OnlyTile t v u
      ∧ u.tile t = (y.posted w).goOn (y.pc + 1) (e + 1) (e + 1 + bits w 37 22))) ∧
    (s.Issues t e 0x03 w y → y.canPost w → s.Runs (.seed t e) (fun u => OnlyTile t v u
      ∧ u.tile t = ({ y with seed := some (bits w 53 22, e + 1) }.posted w).goOn (y.pc + 1) (e + 1) (e + 1)
      ∧ (goes = true → ∀ x, x = (u.entered t (e + 1)).tile t → x.lanes = seedLanes (bits w 53 22) ∧ x.phase = bits w 53 22 % 4096
          ∧ x.seed = none))) ∧
    (s.Issues t e 0x04 w y → y.canPost w → s.Runs (.canary t e) (fun u => OnlyTile t v u
      ∧ u.tile t = ({ y with canaryFrom := some (y.canaryFrom.getD (e + 1)) }.posted w).goOn (y.pc + 1) (e + 1) (e + 1))) ∧
    (s.Issues t e 0x05 w y → y.canPost w → s.Runs (.setc t e) (fun u => OnlyTile t v u
      ∧ u.tile t = ({ y with cpend := y.cpend ++ [CountWrite.mk (bits w 25 22) (bits w 41 26) (e + 1)] }.posted w).goOn (y.pc + 1) (e + 1) (e + 1)
      ∧ (goes = true → ((u.entered t (e + 1)).tile t).creg = y.creg.set (bits w 25 22) (bits w 41 26)))) ∧
    (s.Issues t e 0x06 w y → y.canPost w → v.secureHit t [bits w 40 26] = none →
        v.spadErr.find? (2 ^ 15 * t + bits w 40 26) = none → s.Runs (.setcS t e) (fun u => OnlyTile t v u
      ∧ u.tile t = ({ y with cpend := y.cpend ++ [CountWrite.mk (bits w 25 22) (leAt (v.spadUnit t (bits w 40 26)) 0 2) (e + 3)]
                             claim := some (e, bits w 40 26 / 4096) }.posted w).goOn (y.pc + 1) (e + 1) (e + 1)
      ∧ (goes = true → ((u.entered t (e + 3)).tile t).creg = y.creg.set (bits w 25 22) (leAt (v.spadUnit t (bits w 40 26)) 0 2)))) ∧
    (s.Issues t e 0x1A w y → y.canPost w → s.Runs (.clrFlag t e) (fun u => OnlyTile t v u
      ∧ u.tile t = ((y.clearFlag (bits w 29 22)).posted w).goOn (y.pc + 1) (e + 1) (e + 1)
      ∧ (y.quiet = true → bit ((u.entered t (e + 1)).tile t).flags (bits w 29 22) = false))) ∧
    (s.Issues t e 0x02 w y → voiceConds (s.issue t e w y) = [] → s.Runs (.voice t e) (fun u => OnlyTile t v u
      ∧ u.tile t = { y with voice := none, voiceLoad := some ⟨bits w 36 22, e, [], postOf w, y.pc⟩ }.goOn (y.pc + 1) (e + 1) (e + 1)))

/-- R177, R180, R196, R215: the address after an instruction. Outside the end of a loop body and of the program it is the next
word; at a loop's end with iterations left it is the loop's first word, at the time the iteration takes; at the end of the
prologue it is the body, and at the end of the body the body again until its repeats are done. R194 to R197, R214, R215: ROLL
and WAIT.BEAT. A ROLL with iterations begins its body, and one with none goes past it after the time of its maximum. WAIT.BEAT
goes on where its plan beat has begun and blocks the sequencer where it has not, until WAIT_BEAT_RELEASE finds that it has; a
released instruction posts in that cycle and the next one issues a cycle later. -/
def Obligations.ProgramOrder : Prop :=
  (∀ (x : Tile) (p : Prog) (pc c n : Nat), x.prog = some p →
    (x.loops = [] → x.inBody = true → pc ≠ p.body + p.bodyWords → (x.goOn pc c n).pc = pc ∧ (x.goOn pc c n).nextIssue = n
      ∧ (x.goOn pc c n).passes = x.passes ∧ (x.goOn pc c n).finished = x.finished) ∧
    (x.loops = [] → x.inBody = false → pc = p.prologue + p.prologueWords → (x.goOn pc c n).pc = p.body
      ∧ (x.goOn pc c n).inBody = true) ∧
    (x.loops = [] → x.inBody = true → pc = p.body + p.bodyWords → (x.goOn pc c n).passes = x.passes + 1
      ∧ (p.repeats = 0 ∨ x.passes + 1 < p.repeats → (x.goOn pc c n).pc = p.body ∧ (x.goOn pc c n).finished = x.finished)
      ∧ (p.repeats ≠ 0 → p.repeats ≤ x.passes + 1 → (x.goOn pc c n).finished = true)) ∧
    (∀ l ls, x.loops = l :: ls → pc = l.be → 1 < l.left → (x.goOn pc c n).pc = l.bs
      ∧ (x.goOn pc c n).nextIssue = max (max (l.start + l.iter) c) n
      ∧ ∃ m, (x.goOn pc c n).loops = m :: ls ∧ m.left + 1 = l.left ∧ m.start = max (l.start + l.iter) c ∧ m.bs = l.bs ∧ m.be = l.be) ∧
    (∀ l, x.loops = [l] → pc = l.be → l.left ≤ 1 → (x.goOn pc c n).loops = []
      ∧ (x.goOn pc c n).nextIssue = max (max (l.start + l.iter) c + l.pad) n)) ∧
  (∀ (t : TileIx) (e w : Nat) (y : Tile) (s v : State), v = s.entered t e →
    (s.Issues t e 0x08 w y → y.canPost w → rollConds (s.issue t e w y) = [] → ∀ i, i = s.issue t e w y →
      (0 < rollCount i → s.Runs (.roll t e) (fun u => OnlyTile t v u ∧ ∃ l, u.tile t = { y.posted w with
          pc := y.pc + 2, nextIssue := e + 1, loops := l :: y.loops } ∧ l.bs = y.pc + 2 ∧ l.be = y.pc + 2 + bits w 54 43
        ∧ l.left = rollCount i ∧ l.start = e + 1 ∧ l.iter = i.ext 0 % 2 ^ 16
        ∧ l.pad = (bits w 37 22 - rollCount i) * (i.ext 0 % 2 ^ 16))) ∧
      (rollCount i = 0 → s.Runs (.roll t e) (fun u => OnlyTile t v u ∧ ∀ n, n = e + 1 + bits w 37 22 * (i.ext 0 % 2 ^ 16) →
        u.tile t = (y.posted w).goOn (y.pc + 2 + bits w 54 43) n n))) ∧
    (s.Issues t e 0x09 w y → ∀ tm, tm = (if bit w 26 then (y.tm + 1) % 2 ^ 60 else y.tm) → ∀ b, b = 16 * tm + bits w 25 22 →
      (v.beatBegun b = true → y.canPost w → s.Runs (.waitBeat t e) (fun u => OnlyTile t v u
        ∧ u.tile t = ({ y with tm := tm, reached := max y.reached b }.posted w).goOn (y.pc + 1) (e + 1) (e + 1))) ∧
      (v.beatBegun b = false → s.Runs (.waitBeat t e) (fun u => OnlyTile t v u ∧ u.tile t = { y with
        tm := tm, reached := max y.reached b, block := some ⟨.beat b, postOf w, y.pc, v.nowStall⟩ }))) ∧
    (∀ b target, s.tileEvent t e = true → s.nowOf t = e → (s.tile t).block = some b → b.wait = .beat target →
        { s.tile t with block := none }.quiet = true →
      (s.beatBegun target = true → s.Runs (.waitBeatRelease t e) (fun u => OnlyTile t s u ∧ (u.tile t).block = none
        ∧ u.tile t = { s.tile t with now := e, block := none
                                     posts := if b.post = 0 then [] else [Post.mk b.post e b.pc false] }.goOn
              (b.pc + 1) (e + 1) (e + 1))) ∧
      (s.beatBegun target = false → s.Runs (.waitBeatRelease t e) (fun u => OnlyTile t s u
        ∧ u.tile t = { s.tile t with now := e }))))

/-- R134 to R136, R194, R199, R219, R220: SET.FLAG on the tile's own flags sets the flag from the next cycle, and halts as
FLAG_SET_TWICE where it is set; on another queue it puts the set on that path. WAIT.FLAG goes on at a set flag, cleared where it
says so, and blocks at a clear one. A set that arrives sets its flag at the cycle's end and releases the sequencer that waits
for it in the next; on a set flag it halts; a wait past its bound halts. -/
def Obligations.FlagsSetAndWait : Prop :=
  ∀ (t : TileIx) (e w : Nat) (y : Tile) (s v : State), v = s.entered t e →
    (s.Issues t e 0x18 w y → bits w 32 30 = 6 → y.canPost w → bit y.flags (bits w 29 22) = false →
        (∀ k ∈ y.sets, k.f ≠ bits w 29 22) →
      s.Runs (.setFlag t e) (fun u => OnlyTile t v u
        ∧ u.tile t = ((y.setFlag (bits w 29 22) 6 y.pc).posted w).goOn (y.pc + 1) (e + 1) (e + 1)
        ∧ (y.quiet = true → bit ((u.entered t (e + 1)).tile t).flags (bits w 29 22) = true))) ∧
    (s.Issues t e 0x18 w y → bits w 32 30 = 6 → bit y.flags (bits w 29 22) = true → bits w 29 22 ∉ y.clears →
      s.Runs (.setFlag t e) (fun u => (u.tile t).halted = true)) ∧
    (s.Issues t e 0x18 w y → bits w 32 30 < 4 → y.canPost w → v.queueAbsent t (bits w 32 30) = false →
        (y.outQ (bits w 32 30)).stage = [] → ∀ n, v.neighbour t (bits w 32 30) = some n →
      s.Runs (.setFlag t e) (fun u => OnlyTile t v u ∧ ((u.tile t).outQ (bits w 32 30)).stage = []
        ∧ ((u.tile t).outQ (bits w 32 30)).mid = (y.outQ (bits w 32 30)).mid
            ++ [.flag (bits w 29 22) (.tile n (opposite (bits w 32 30)))])) ∧
    (s.Issues t e 0x19 w y → bits w 51 38 ≠ 0 → ∀ f, f = bits w 29 22 →
      (bit y.flags f = true → y.canPost w → s.Runs (.waitFlag t e) (fun u => OnlyTile t v u
        ∧ u.tile t = ((if bit w 37 then y.clearFlag f else y).posted w).goOn (y.pc + 1) (e + 1) (e + 1)
        ∧ (y.quiet = true → bit ((u.entered t (e + 1)).tile t).flags f = !bit w 37))) ∧
      (bit y.flags f = false → s.Runs (.waitFlag t e) (fun u => OnlyTile t v u
        ∧ u.tile t = { y with block := some ⟨.flag f (bit w 37) (bits w 51 38), postOf w, y.pc, v.nowStall⟩ }))) ∧
    (∀ (q : Fin 6) f l, s.tileEvent t e = true → 4 ≤ q.val →
        firstDnFlag (Table.get [] v.dn (2 * t + (1 - (q.val - 4)))) [] (Table.get [] v.dn (2 * t + (q.val - 4))) = some (f, l) →
      s.Runs (.flagSetArrival t q e) (fun u =>
        u.tile t = (v.tile t).setFlag f q (v.tile t).pc ∧ u.dn = Table.set [] v.dn (2 * t + (q.val - 4)) l
        ∧ u.regs = v.regs ∧ (∀ k, k ≠ t.val → u.tile k = v.tile k) ∧ SameBytes v u
        ∧ ((v.tile t).quiet = true → bit (v.tile t).flags f = false → bit ((u.entered t (e + 1)).tile t).flags f = true)
        ∧ (∀ b c n, (v.tile t).block = some b → b.wait = .flag f c n → { v.tile t with block := none }.quiet = true →
            bit (v.tile t).flags f = false → v.expired b.stall n = false → ((u.entered t (e + 1)).tile t).block = none
              ∧ (b.post ≠ 0 → Post.mk b.post (e + 1) b.pc false ∈ ((u.entered t (e + 1)).tile t).posts)
              ∧ (b.post = 0 ∨ bit (v.tile t).board b.post = false → bit ((u.entered t (e + 2)).tile t).flags f = !c))
        ∧ ((v.tile t).quiet = true → (v.tile t).halted = false → bit (v.tile t).flags f = true →
            HaltedWith (u.entered t (e + 1)) t ⟨0x34, 4, (v.tile t).pc, f + 2 ^ 8 * q.val⟩))) ∧
    (∀ b f c n, s.tileEvent t e = true → s.nowOf t = e → (s.tile t).block = some b → b.wait = .flag f c n → (s.tile t).halted = false →
        { s.tile t with block := none }.quiet = true → b.stall.counted + n ≤ s.time.counted →
      s.Runs (.flagWaitBound t e) (fun u => HaltedWith u t ⟨0x33, 4, b.pc, f + 2 ^ 16 * n⟩))

/-! ### Tiles: background instructions and events -/

/-- R199, R217, R218, R222 to R229: PUSH, PULL, MMA.PLANE, MMA and VRUN whose checks pass start on their unit, with what their
words and extension words say, and the sequencer goes on in the next cycle; nothing else of the module changes. A PUSH, PULL or
VRUN of nothing only posts, in the next cycle. -/
def Obligations.UnitsStart : Prop :=
  ∀ (t : TileIx) (e w : Nat) (y : Tile) (s v : State) (i : Issue) (d : Desc), v = s.entered t e → i = s.issue t e w y →
      d = descOf (i.ext 0) → ∀ onlyPosts : Tile,
      onlyPosts = { y with posts := if postOf w = 0 then y.posts else y.posts ++ [Post.mk (postOf w) (e + 1) y.pc false] } →
    (s.Issues t e 0x10 w y → pushConds i = [] → s.Runs (.push t e) (fun u => OnlyTile t v u
      ∧ (d.count = 0 → u.tile t = onlyPosts.goOn (y.pc + 2) (e + 1) (e + 1))
      ∧ (d.count ≠ 0 → u.tile t = { y with push := y.push ++ [PushOp.mk (bits w 24 22) d.units e (i.s.destOf t (bits w 24 22) (bits w 28 25))
          (bits w 42 29) (postOf w) y.pc (if i.s.pathFull t (bits w 24 22) then some v.nowStall else none)] }.goOn (y.pc + 2) (e + 1) (e + 1)))) ∧
    (s.Issues t e 0x11 w y → pullConds i = [] → s.Runs (.pull t e) (fun u => OnlyTile t v u
      ∧ (d.count = 0 → u.tile t = onlyPosts.goOn (y.pc + 2) (e + 1) (e + 1))
      ∧ (d.count ≠ 0 → u.tile t = { y with pull := y.pull ++ [PullOp.mk (bits w 24 22) d.units 0 e (bits w 42 29) (expectOf w) (postOf w) y.pc
          (if (y.rxQ (bits w 24 22)).isEmpty then some v.nowStall else none)] }.goOn (y.pc + 2) (e + 1) (e + 1)))) ∧
    (s.Issues t e 0x21 w y → planeConds i = [] → s.Runs (.mmaPlane t e) (fun u => OnlyTile t v u
      ∧ ∃ p, u.tile t = { y with planes := y.planes.set (bits w 22 22) none, planeLoad := some p }.goOn (y.pc + 2) (e + 1) (e + 1)
        ∧ p.plane = bits w 22 22 ∧ p.fmt = bits w 26 23 ∧ p.mode = y.mode ∧ p.depth = bits w 42 27 ∧ p.k0 = bits w 58 43
        ∧ p.got = [] ∧ p.next = e ∧ p.post = postOf w ∧ p.pc = y.pc)) ∧
    (s.Issues t e 0x20 w y → mmaConds i = [] → s.Runs (.mma t e) (fun u => OnlyTile t v u
      ∧ ∃ m, u.tile t = { y with mma := some m }.goOn (y.pc + (1 + extOf w)) (e + 1) (e + 1) ∧ m.next = e ∧ m.row = 0
        ∧ m.rows = bits w 33 28 + 1 ∧ m.accBase = bits w 27 22 ∧ m.init = bit w 34 ∧ m.plane = bits w 35 35 ∧ m.mode = y.mode
        ∧ m.afmt = bits w 43 40 ∧ m.expect = expectOf w ∧ m.post = postOf w ∧ m.pc = y.pc
        ∧ (bit w 54 = false → m.queue = none ∧ m.elems = d.units)
        ∧ (bit w 54 = true → m.queue = some (bits w 57 55, (qctlOf (i.ext 0)).frameN, (qctlOf (i.ext 0)).bound)))) ∧
    (s.Issues t e 0x28 w y → vrunConds i = [] → bits w 35 29 ≠ 0 → bits w 47 36 ≠ 0 → s.Runs (.vrun t e) (fun u => OnlyTile t v u
      ∧ ∃ x, u.tile t = { y with vrun := some x }.goOn (y.pc + 1) (e + 1) (e + 1) ∧ x.start = bits w 28 22 ∧ x.count = bits w 35 29
        ∧ x.passes = bits w 47 36 ∧ x.bound = bits w 61 48 ∧ x.expect = expectOf w ∧ x.post = postOf w ∧ x.pc = y.pc ∧ x.pass = 0
        ∧ x.micro = bits w 28 22 ∧ x.next = e)) ∧
    (s.Issues t e 0x28 w y → vrunConds i = [] → bits w 35 29 = 0 ∨ bits w 47 36 = 0 → s.Runs (.vrun t e) (fun u => OnlyTile t v u
      ∧ u.tile t = onlyPosts.goOn (y.pc + 1) (e + 1) (e + 1)))

/-- R120, R199, R217, R218, R222 to R230, R233: what PUSH, PULL, MMA.PLANE, MMA and VRUN then do, on a tile that does nothing
else and whose program goes on. In its first cycle a PUSH with room puts its first word on its queue, with its token on the last
word. A PULL takes its first word in its first cycle; a word's two halves are in scratchpad two cycles later, and its post after
the last. MMA.PLANE reads one unit in a cycle, and its plane is there 4 cycles after its last. An MMA's rows are added into
their accumulator rows, one in a cycle where they come from scratchpad, and are complete 11 cycles after the last; from a queue
its first word enters the first row where it gives the elements of one. A VRUN's micro-ops run in order, pass by pass, one in a
cycle where no queue is used; it is complete the slowest class's latency after the last. Units are read without error here, and
an MMA's row takes one unit of a bank. -/
def Obligations.UnitsWork : Prop :=
  ∀ (t : TileIx) (e w : Nat) (y : Tile) (s v : State) (i : Issue) (d : Desc), v = s.entered t e → i = s.issue t e w y →
      d = descOf (i.ext 0) → y.quiet = true → y.canPost w → y.halted = false →
    (∀ q u us (b : Item), s.Issues t e 0x10 w y → pushConds i = [] → q = bits w 24 22 → d.units = u :: us → i.s.pathFull t q = false →
        v.unitsGood t [u, u + 1] → ∀ dest, dest = i.s.destOf t q (bits w 28 25) →
        b = .word (v.spadUnit t u ++ v.spadUnit t (u + 1)) (if us = [] then postOf w else 0) dest →
      s.Runs (.push t e) (fun z => ∀ x, x = (z.entered t (e + 1)).tile t → x.halted = false
        ∧ (us = [] → x.push = []) ∧ (us ≠ [] → ∃ p, x.push = [p] ∧ p.units = us ∧ p.next = e + 1 ∧ p.dest = dest)
        ∧ (q < 4 → (x.outQ q).mid ++ (x.outQ q).stage = (y.outQ q).mid ++ (y.outQ q).stage ++ [b])
        ∧ (y.outQ q = ⟨[], []⟩ → (∀ port tag, 4 ≤ q → dest = .link port tag → x.outQ q = ⟨[], [b]⟩)
            ∧ ∀ k l, 4 ≤ q → dest = .tile k l → v.dnRoom (2 * k + (l - 4)) = true →
              Table.get [] (z.entered t (e + 1)).dn (2 * k + (l - 4))
                = Table.get [] v.dn (2 * k + (l - 4)) ++ [⟨16 * t + q, v.dnSeq, b⟩]))) ∧
    (∀ q r rs, s.Issues t e 0x11 w y → pullConds i = [] → q = bits w 24 22 → y.rxQ q = r :: rs → r.bytes.length = 64 →
      (∀ n us, d.units = n :: us → expectOf w = 0 ∨ (us = [] ∧ r.tag = expectOf w) ∨ (us ≠ [] ∧ r.tag = 0) →
        s.Runs (.pull t e) (fun z => ((z.entered t (e + 1)).tile t).rxQ q = rs ∧ ((z.entered t (e + 1)).tile t).halted = false
          ∧ (us = [] → (z.entered t (e + 2)).spadUnit t n = r.bytes.take 32 ∧ (z.entered t (e + 2)).spadUnit t (n + 1) = r.bytes.drop 32
              ∧ (∀ k, k ≠ n → k ≠ n + 1 → k < 2 ^ 15 → (z.entered t (e + 2)).spadUnit t k = v.spadUnit t k)
              ∧ ((z.entered t (e + 3)).tile t).pull = []
              ∧ ((z.entered t (e + 3)).tile t).board = (y.posted w).board)))) ∧
    (∀ p f, s.Issues t e 0x21 w y → planeConds i = [] → p = planeLoadOf i → f = (Fmt.ofCode p.fmt).getD .mxfp4 →
        v.unitsGood t p.units → (∀ k u, p.units[k]? = some u → planeFault f p k u (v.spadUnit t u) = []) →
        (y.goOn (y.pc + 2) (e + 1) (e + 1)).finished = false →
      s.Runs (.mmaPlane t e) (fun z => z.Runs (.mmaPlaneComplete t (e + p.units.length + 4)) (fun u =>
        (u.tile t).planes = y.planes.set p.plane (some (decodePlane f { p with got := p.units.map (v.spadUnit t) }))
        ∧ (u.tile t).planeLoad = none ∧ (u.tile t).halted = false ∧ (u.tile t).board = (y.posted w).board ∧ SameBytes v u))) ∧
    (∀ m pl, s.Issues t e 0x20 w y → mmaConds i = [] → m = mmaOf i → (y.planes[m.plane]?).join = some pl →
        (y.goOn (y.pc + (1 + extOf w)) (e + 1) (e + 1)).finished = false →
      (bit w 54 = false → (∀ k, k < m.rows → v.unitsGood t (m.rowUnits pl k) ∧ ((m.rowUnits pl k).map (fun u => u / 4096)).Nodup) →
        s.Runs (.mma t e) (fun z => z.Runs (.mmaComplete t (e + m.rows + 10)) (fun u =>
          (∀ k, k < m.rows → Table.get AccRow.reset (u.tile t).acc (m.accBase + k)
              = m.rowAfter v t pl k (Table.get AccRow.reset y.acc (m.accBase + k)))
          ∧ (∀ r, r < m.accBase ∨ m.accBase + m.rows ≤ r → Table.get AccRow.reset (u.tile t).acc r = Table.get AccRow.reset y.acc r)
          ∧ (u.tile t).mma = none ∧ (u.tile t).mmaResults = [] ∧ (u.tile t).halted = false ∧ (u.tile t).board = (y.posted w).board
          ∧ SameBytes v u))) ∧
      (∀ q n bound r rs st, bit w 54 = true → m.queue = some (q, n, bound) → y.rxQ q = r :: rs → expectOf w = 0 →
          st = InStream.none'.feed ((Fmt.ofCode m.afmt).getD .mxfp4) n r.bytes → modeDepth m.mode ≤ st.elems.length →
        s.Runs (.mma t e) (fun z => ∀ x, x = (z.entered t (e + 1)).tile t → x.rxQ q = rs ∧ x.halted = false
          ∧ Table.get AccRow.reset x.acc m.accBase = (addRow pl m.init m.mode m.x
              ((st.elems.take (modeDepth m.mode)).map (fun a => (a.val, a.scale))) (Table.get AccRow.reset y.acc m.accBase)).1))) ∧
    (∀ img start count passes ms, s.Issues t e 0x28 w y → vrunConds i = [] → y.voice = some img → start = bits w 28 22 →
        count = bits w 35 29 → passes = bits w 47 36 → count ≠ 0 → passes ≠ 0 → ms = rangeMicros img start count →
        (y.goOn (y.pc + 1) (e + 1) (e + 1)).finished = false → ∀ c, c = e + count * passes + rangeLatency img start count →
      ((∀ m ∈ ms, m.onRegs) → s.Runs (.vrun t e) (fun z => z.Runs (.vrunComplete t c) (fun u =>
        (u.tile t).vregs = ((List.replicate passes ms).flatten).foldl
            (fun vr m => Table.set (List.replicate 64 0) vr m.dst (m.result img vr)) y.vregs
        ∧ (u.tile t).vrun = none ∧ (u.tile t).vrunResults = [] ∧ (u.tile t).halted = false
        ∧ (u.tile t).board = (y.posted w).board ∧ (u.tile t).acc = y.acc ∧ SameBytes v u))) ∧
      (∀ m, ms = [m] → passes = 1 → { m with dst := 0 }.onRegs → m.dst = 0x10 →
        s.Runs (.vrun t e) (fun z => z.Runs (.vrunComplete t c) (fun u => (u.tile t).vregs = y.vregs ∧ (u.tile t).halted = false
          ∧ (∀ r, r < 2 → Table.get AccRow.reset (u.tile t).acc r
              = ⟨false, 0, 0, (((m.result img y.vregs).drop (32 * r)).take 32).map Int.ofNat⟩)
          ∧ (u.tile t).board = (y.posted w).board ∧ SameBytes v u))) ∧
      (∀ m k, ms = [m] → passes = 1 → { m with dst := 0 }.onRegs → m.dst = 0x11 → k < 8 →
          (((descOf m.word).units.take 8).map (fun u => u / 4096)).Nodup →
        s.Runs (.vrun t e) (fun z => z.Runs (.vrunComplete t c) (fun u => (u.tile t).halted = false ∧ (u.tile t).vregs = y.vregs
          ∧ u.spadUnit t ((descOf m.word).units.getD k 0)
              = (((m.result img y.vregs).drop (8 * k)).take 8).flatMap (fun x => toLE 4 x)
          ∧ (u.tile t).board = (y.posted w).board ∧ u.tier1 = v.tier1 ∧ u.tier2 = v.tier2))))

/-- R190, R235 to R239: LOAD, STORE, GATHER and SCATTER of either tier whose checks pass become outstanding accesses over the
units that their words name, with a due beat in tier 2, and move no byte yet; those of a GATHER or SCATTER whose index list
names a row past its range are the rows before it, and the tile is to halt after them. A FENCE with a store of its tier
outstanding blocks the sequencer, and any other goes on. -/
def Obligations.TierInstructionsStart : Prop :=
  ∀ (t : TileIx) (e w : Nat) (y : Tile) (s v : State) (i : Issue), v = s.entered t e → i = s.issue t e w y →
    (∀ op tier store, (op, tier, store) ∈ [(0x30, 1, false), (0x31, 1, true), (0x34, 2, false), (0x35, 2, true)] →
      s.Issues t e op w y → loadConds tier i = [] → (tierOf (i.ext 0)).tcount ≠ 0 → s.Runs (tileInstr op t e) (fun u => OnlyTile t v u
        ∧ ∃ a, u.tile t = { y with accesses := y.accesses ++ [a] }.goOn (y.pc + 3) (e + 1) (e + 1) ∧ a.tier = tier ∧ a.store = store
          ∧ a.taddrs = (List.range (tierOf (i.ext 0)).tcount).map (· + (tierOf (i.ext 0)).taddr)
          ∧ a.units = (descOf (i.ext 1)).units ∧ (tier = 2 → a.due = v.plan.beat + bits w 33 22) ∧ a.tick = v.time.tick
          ∧ a.early = (if store then a.units.map (v.spadUnit t) else a.taddrs.map (v.tierUnit tier))
          ∧ a.post = postOf w ∧ a.pc = y.pc ∧ a.late = false ∧ a.retired = false ∧ a.stop = none ∧ a.landing = none)) ∧
    (∀ op tier store, (op, tier, store) ∈ [(0x30, 1, false), (0x31, 1, true), (0x34, 2, false), (0x35, 2, true)] →
      s.Issues t e op w y → loadConds tier i = [] → (tierOf (i.ext 0)).tcount = 0 → s.Runs (tileInstr op t e) (fun u => OnlyTile t v u
        ∧ u.tile t = { y with posts := if postOf w = 0 then y.posts else y.posts ++ [Post.mk (postOf w) (e + 1) y.pc false] }.goOn
            (y.pc + 3) (e + 1) (e + 1))) ∧
    (∀ op tier store, (op, tier, store) ∈ [(0x32, 1, false), (0x36, 2, false), (0x37, 2, true)] →
      s.Issues t e op w y → gatherConds tier i = [] → gatherEmpty i = false → ∀ rows cs z, gatherList tier i = (rows, cs, z) →
      s.Runs (tileInstr op t e) (fun u => SameBytes v u ∧ (∀ k, k ≠ t.val → u.tile k = v.tile k) ∧ u.raised = v.raised
        ∧ (v.spadErr = [] → u.regs = v.regs)
        ∧ ∃ a, u.tile t = { y with accesses := y.accesses ++ [a] }.goOn (y.pc + 4) (e + 1) (e + 1) ∧ a.tier = tier ∧ a.store = store
          ∧ a.taddrs = rows.flatMap (fun r => (List.range (tierOf (i.ext 0)).tcount).map (· + r))
          ∧ a.units = (descOf (i.ext 2)).units.take a.taddrs.length ∧ (tier = 2 → a.due = v.plan.beat + bits w 33 22)
          ∧ a.tick = v.time.tick ∧ a.post = postOf w ∧ a.pc = y.pc ∧ a.stop = cs.head? ∧ a.landing = none)) ∧
    (∀ op tier, (op, tier) ∈ [(0x33, 1), (0x38, 2)] → s.Issues t e op w y →
      (y.storesOut tier = true → s.Runs (tileInstr op t e) (fun u => OnlyTile t v u
        ∧ u.tile t = { y with block := some ⟨.fence tier, postOf w, y.pc, v.nowStall⟩ })) ∧
      (y.storesOut tier = false → y.canPost w → s.Runs (tileInstr op t e) (fun u => OnlyTile t v u
        ∧ u.tile t = (y.posted w).goOn (y.pc + 1) (e + 1) (e + 1))))

/-- R235, R236, R239, R241, R244, R260: TIER_ACCESS_COMPLETE. The units of a store are in their tier, as the source was at issue
or at the end, and no other unit of a tier changes; those of a load are on their way into scratchpad. The one outstanding access
of a tile that does nothing else is complete in that cycle, for a load of one unit: the unit is in scratchpad, no other is
changed, and the token posts. A tier-1 access incomplete 4,096 beats after its issue is fatal. -/
def Obligations.TierAccessesComplete : Prop :=
  (∀ (t : TileIx) (e late : Nat) (a : TierAccess) (s v : State), s.tileEvent t e = true → v = s.entered t e →
      (v.tile t).quiet = true → (v.tile t).halted = false → (v.tile t).accesses = [a] → a.landing = none → a.stop = none →
      a.taddrs.length = a.units.length → a.early.length = a.units.length → (∀ b ∈ a.early, b.length = 32) → a.tier = 1 ∨ a.tier = 2 →
      v.spadErr = [] → v.poison = [] → a.post = 0 ∨ bit (v.tile t).board a.post = false → ∀ done : State → Prop,
      (∀ u, done u ↔ (u.tile t).accesses = [] ∧ (u.tile t).halted = false
        ∧ (u.tile t).board = (if a.post = 0 then (v.tile t).board else (v.tile t).board + 2 ^ a.post)) →
    (a.store = true → a.taddrs.Nodup → s.Runs (.tierAccessComplete t 0 e late [] []) (fun u =>
      (∀ k ta, a.taddrs[k]? = some ta →
        u.tierUnit a.tier ta = if bit late k then v.spadUnit t (a.units.getD k 0) else a.early.getD k []) ∧ u.spad = v.spad
      ∧ (∀ ta, ta ∉ a.taddrs → u.tierUnit a.tier ta = v.tierUnit a.tier ta)
      ∧ (a.tier = 1 → u.tier2 = v.tier2) ∧ (a.tier = 2 → u.tier1 = v.tier1) ∧ done (u.entered t (e + 1)))) ∧
    (a.store = false → s.Runs (.tierAccessComplete t 0 e late [] []) (fun u => u.tier1 = v.tier1 ∧ u.tier2 = v.tier2 ∧ u.spad = v.spad
      ∧ (∃ b ws, (u.tile t).accesses = [b] ∧ b.landing = some ws ∧ ws.map Prod.fst = a.units
          ∧ ∀ k x, ws[k]? = some x → x.2 = if bit late k then v.tierUnit a.tier (a.taddrs.getD k 0) else a.early.getD k [])
      ∧ (∀ n ta b, a.units = [n] → a.taddrs = [ta] → a.early = [b] → done (u.entered t (e + 1))
          ∧ (u.entered t (e + 1)).spadUnit t n = (if bit late 0 then v.tierUnit a.tier ta else b)
          ∧ ∀ x, x < 2 ^ 20 * t + 32 * n ∨ 2 ^ 20 * t + 32 * n + 32 ≤ x → (u.entered t (e + 1)).spad.read x = v.spad.read x)))) ∧
  (∀ (t : TileIx) (k : Nat) (a : TierAccess) (s : State), (s.tile t).accesses[k]? = some a →
    (a.tier = 1 → a.tick + 4096 ≤ s.time.tick → s.Runs (.t1AccessTimeout t k) (fun u =>
      (∃ x, u.raised = s.raised ++ [x] ∧ x.reason = .t1AccessTimeout) ∧ u.regs = s.regs ∧ SameBytes s u ∧ SameTiles s u)) ∧
    (a.tier ≠ 1 ∨ s.time.tick < a.tick + 4096 → exec (.t1AccessTimeout t k) s = .next s.begin))

/-- R116, R118, R120, R199, R216, R224, R229: the end of a unit's work, on a tile that does nothing else. A voice load whose
last unit is read in the cycle before puts a good voice in force, and a bad descriptor halts the tile; a plane whose last unit
was read 4 cycles before is no longer loading; an MMA's rows, and a VRUN's, are no longer pending, and a VRUN's rows are in the
accumulator. The post is on the board; the next cycle is to come; no byte changes (a VRUN here writes none). -/
def Obligations.UnitsComplete : Prop :=
  ∀ (t : TileIx) (e post : Nat) (s : State) (x : Tile), x = s.tile t → s.tileEvent t e = true → x.halted = false →
    { x with voiceLoad := none, planeLoad := none, mmaResults := [], vrunResults := [], posts := [] }.quiet = true → post ≠ 0 →
    bit x.board post = false → ∀ done : State → Prop,
      (∀ u, done u ↔ (u.tile t).board = x.board + 2 ^ post ∧ (u.tile t).posts = [] ∧ (u.tile t).now = e + 1
        ∧ (u.tile t).halted = false ∧ SameBytes s u) →
    (∀ v, x.voiceLoad = some v → x.planeLoad = none → x.mmaResults = [] → x.vrunResults = [] → x.posts = [] → s.nowOf t + 1 = e →
      v.issue + 256 = e → v.got.length = 32 * 255 → v.post = post → s.spadErr.find? (2 ^ 15 * t + (v.image + 255)) = none →
      (voiceBad (v.got ++ s.spadUnit t (v.image + 255)) = none → s.Runs (.voiceLoadComplete t e) (fun u => done u
        ∧ (u.tile t).voice = some (v.got ++ s.spadUnit t (v.image + 255)) ∧ (u.tile t).voiceLoad = none)) ∧
      (∀ b, voiceBad (v.got ++ s.spadUnit t (v.image + 255)) = some b → s.Runs (.voiceLoadComplete t e) (fun u =>
        HaltedWith u t ⟨0x05, 0, v.pc, b⟩ ∧ (u.tile t).voice = x.voice))) ∧
    (∀ p, x.planeLoad = some p → x.voiceLoad = none → x.mmaResults = [] → x.vrunResults = [] → x.posts = [⟨post, e, p.pc, true⟩] →
      x.finished = false → s.nowOf t + 1 = e → p.next = e → p.got.length = p.units.length →
      s.Runs (.mmaPlaneComplete t e) (fun u => done u ∧ (u.tile t).planeLoad = none ∧ (u.tile t).planes = x.planes)) ∧
    (∀ r, x.mmaResults = [r] → x.voiceLoad = none → x.planeLoad = none → x.vrunResults = [] → x.posts = [⟨post, e, r.pc, true⟩] →
      x.finished = false → s.nowOf t = e → r.cycle = e →
      s.Runs (.mmaComplete t e) (fun u => done u ∧ (u.tile t).mmaResults = [] ∧ (u.tile t).acc = x.acc)) ∧
    (∀ r, x.vrunResults = [r] → x.voiceLoad = none → x.planeLoad = none → x.mmaResults = [] → x.posts = [⟨post, e, r.pc, true⟩] →
      x.finished = false → s.nowOf t = e → r.cycle = e → r.spadW = [] → s.Runs (.vrunComplete t e) (fun u => done u
        ∧ (u.tile t).vrunResults = [] ∧ (u.tile t).acc = Table.over AccRow.reset r.accW x.acc))

/-- R126 to R129, R138, R141, R142, R144, R145, R194, R203, R204: words and halts of a tile. The next word on a path enters the
receive buffer where it holds fewer than 16, and stays on its path where it is full; a stall past its bound, a parity error and,
with no plan executing or armed, a forced halt halt the tile with their record, which names the next instruction to issue; a
halt-clear of such a tile leaves it idle and empty with its program placed, and counts the words it discards; both are refused
with clear_reject while a plan executes or is armed. -/
def Obligations.QueueWordsAndHalts : Prop :=
  ∀ (t : TileIx) (s : State) (x : Tile), x = s.tile t →
    (∀ (q : Fin 6) e v, s.tileEvent t e = true → s.pathClocked t q = true → v = s.entered t e →
      (16 ≤ ((v.tile t).rxQ q).length → exec (.queueWordArrival t q e) s = .next v) ∧
      (∀ src n b g d l, ((v.tile t).rxQ q).length < 16 → 4 ≤ q.val →
          takeItem (fun (i : DnItem) => i.item.isWord) (Table.get [] v.dn (2 * t + (q - 4))) = some (⟨src, n, .word b g d⟩, l) →
        s.Runs (.queueWordArrival t q e) (fun u => (u.tile t).rxQ q = (v.tile t).rxQ q ++ [⟨b, g⟩] ∧ SameBytes v u ∧ u.regs = v.regs
          ∧ (Table.get [] v.dnWait (2 * t + (q - 4)) = [] → u.dn = Table.set [] v.dn (2 * t + (q - 4)) l))) ∧
      (∀ n b g d l, ((v.tile t).rxQ q).length < 16 → q.val < 4 → v.neighbour t q = some n →
          takeItem Item.isWord ((v.tile n).outQ (opposite q)).mid = some (.word b g d, l) →
        s.Runs (.queueWordArrival t q e) (fun u => (u.tile t).rxQ q = (v.tile t).rxQ q ++ [⟨b, g⟩] ∧ SameBytes v u ∧ u.regs = v.regs
          ∧ u.dn = v.dn ∧ (((v.tile n).outQ (opposite q)).stage = [] → ((u.tile n).outQ (opposite q)).mid = l)))) ∧
    (∀ e, s.tileEvent t e = true → s.nowOf t = e →
      (s.expiredQueues t ≠ [] → s.Runs (.queueWaitBound t e) (fun u => (u.tile t).halted = true)) ∧
      (∀ p b, x.push = [p] → { x with push := [] }.quiet = true → p.stall = some b → b.counted + p.bound ≤ s.time.counted →
          x.halted = false → p.units ≠ [] → p.next ≤ e → s.pathFull t p.q = true →
        s.Runs (.queueWaitBound t e) (fun u => HaltedWith u t ⟨0x40, 3, p.pc, p.q + 2 ^ 16 * p.bound⟩
          ∧ ∀ k, k ≠ t.val → u.tile k = s.tile k)) ∧
      (∀ p b, x.pull = [p] → { x with pull := [] }.quiet = true → p.stall = some b → b.counted + p.bound ≤ s.time.counted →
          x.halted = false → x.rxQ p.q = [] →
        s.Runs (.queueWaitBound t e) (fun u => HaltedWith u t ⟨0x40, 3, p.pc, p.q + 8 + 2 ^ 16 * p.bound⟩
          ∧ ∀ k, k ≠ t.val → u.tile k = s.tile k)) ∧
      (s.expiredQueues t = [] → s.Runs (.queueWaitBound t e) (fun u => OnlyTile t s u ∧ u.tile t = { x with now := e }))) ∧
    (∀ pc, pc = x.nextPc → x.halted = false → (x.quiet = true ∨ ∃ b f c n, x.block = some b ∧ b.wait = .flag f c n
        ∧ bit x.flags f = false ∧ { x with block := none }.quiet = true ∧ s.expiredFlag t = []) →
      (∀ w : Word, s.tilesUp = true → s.Runs (.sequencerParity t w) (fun u => HaltedWith u t ⟨0xF1, 0, pc, w.toNat⟩
        ∧ u.get .TEL_HW_HALTS_count 0 = min (s.get .TEL_HW_HALTS_count 0 + 1) (2 ^ 16 - 1) ∧ ∀ k, k ≠ t.val → u.tile k = s.tile k)) ∧
      (∀ (v : Bool) (w : Word), s.tilesUp = true → s.Runs (.datapathParity t v w) (fun u =>
        HaltedWith u t ⟨0xF2, 1, pc, w.toNat⟩ ∧ u.get .TIL_HALT_REASON_unit t = (if v then 2 else 1)
        ∧ u.get .TEL_HW_HALTS_count 0 = min (s.get .TEL_HW_HALTS_count 0 + 1) (2 ^ 16 - 1) ∧ ∀ k, k ≠ t.val → u.tile k = s.tile k)) ∧
      (s.fieldUp = true → s.planState = .idle ∨ s.planState = .loaded ∨ s.planState = .stopped →
        s.Runs (.forceHalt t) (fun u => HaltedWith u t ⟨0xF0, 7, pc, 0⟩ ∧ u.raised = s.raised))) ∧
    (s.fieldUp = true → s.planState = .idle ∨ s.planState = .loaded ∨ s.planState = .stopped ∨ s.planState = .faulted →
      s.Runs (.tileHaltClear t) (fun u => (u.tile t).halted = false ∧ (u.tile t).running = false ∧ (u.tile t).board = 0
        ∧ (u.tile t).flags = 0 ∧ (u.tile t).rx = [] ∧ (u.tile t).voice = none ∧ (u.tile t).acc = [] ∧ (u.tile t).prog = x.prog
        ∧ (u.tile t).lanes = x.lanes ∧ (∀ q, ((u.tile t).outQ q).stage = []) ∧ u.get .TIL_HALT_REASON_valid t = 0
        ∧ u.get .TIL_QUEUE_DROP_dropped t = min (s.get .TIL_QUEUE_DROP_dropped t + x.heldWords) (2 ^ 32 - 1)
        ∧ u.tier1 = s.tier1 ∧ u.tier2 = s.tier2 ∧ ∀ k, k ≠ t.val → u.tile k = s.tile k)) ∧
    (s.fieldUp = true → s.planState = .armed ∨ s.planState = .running ∨ s.planState = .resting ∨ s.planState = .stopping →
      exec (.tileHaltClear t) s = .next (s.begin.set .TIL_STATUS_clear_reject t 1) ∧
      exec (.forceHalt t) s = .next (s.begin.set .TIL_STATUS_clear_reject t 1))

/-- R245 to R249, R255, R261, R263, R264, R273, R277: commands of the memories. A background test step of an idle tile's bank
takes the next unit into its shadow register, corrected where it holds a single error, and every access reads as before; after
12 cycles in which the bank is idle the step is done, the bank goes on to its next unit, and a cell that failed is recorded,
stays in the unit and warns. A scrub read counts a corrected error and records an uncorrectable one; a failed stack or channel
is fatal. The secure window is set by the secure channel set alone, within one bank; a plan limit is set in plan state IDLE
within its range, from the LO half staged before. -/
def Obligations.MemoryCommandsAct : Prop :=
  (∀ (t : TileIx) (b : Fin 8) (f : Fin 3) (s : State) n u, s.tileClocked t = true → s.get .FLD_SPAD_TEST_test_en (tileDie t) = 1 →
      s.get .FLD_SPAD_SECURE_wipe_busy (tileDie t) = 0 → s.tileStatus t = 0 ∨ s.tileStatus t = 4 ∨ s.tileStatus t = 6 →
      s.power ≠ .hush → (s.tile t).tests.find? b = none → n = Table.get 0 s.testPos (8 * t + b) → u = 4096 * b.val + n % 4096 →
    s.Runs (.backgroundTestStep t b f) (fun v => (v.tile t).tests.find? b = some ⟨u, s.spadUnit t u, 12, f⟩ ∧ SameBytes s v
      ∧ (∀ k, v.spadUnit t k = s.spadUnit t k) ∧ (∀ k, k ≠ t.val → v.tile k = s.tile k) ∧ v.testPos = s.testPos
      ∧ (s.spadErr.find? (2 ^ 15 * t + u) = some 1 → v.spadErr.find? (2 ^ 15 * t + u) = none)
      ∧ (s.spadErr.find? (2 ^ 15 * t + u) = none → v.regs = s.regs ∧ v.spadErr = s.spadErr)
      ∧ ((s.tile t).quiet = true → s.spadErr.find? (2 ^ 15 * t + u) = none → ∀ w, w = v.entered t (v.nowOf t + 12) →
          (w.tile t).tests.find? b = none ∧ Table.get 0 w.testPos (8 * t + b) = n + 1 ∧ SameBytes s w
          ∧ (f = 0 → w.spadErr = s.spadErr ∧ (w.testPasses t ≤ s.testPasses t → w.regs = s.regs))
          ∧ (f ≠ 0 → w.spadErr.find? (2 ^ 15 * t + u) = some f.val
              ∧ w.get .FLD_SPAD_FAIL_unit (tileDie t) = u ∧ w.get .FLD_SPAD_FAIL_kind (tileDie t) = 0
              ∧ w.get .FLD_SPAD_FAIL_row (tileDie t) = tileRow t ∧ w.get .FLD_SPAD_FAIL_column (tileDie t) = tileCol t
              ∧ w.get .FLD_SPAD_FAIL_valid (tileDie t) = 1 ∧ bit (w.get .FLT_WARN_pending 0) Warn.spadTestFail.bit = true)))) ∧
  (∀ (k : StackIx) u (f : Fin 3) (s : State) a, s.tilesUp = true → s.get .HBM_CTRL_scrub_hours k ≠ 0 → u < 0xA0000000 →
      a = (7 - k.val) * 0xA0000000 + u →
    s.Runs (.patrolScrub k u f) (fun v => (f = 0 → v = s.begin)
      ∧ (f = 1 → v.get .HBM_ECC_CE_ce_count k = min (s.get .HBM_ECC_CE_ce_count k + 1) (2 ^ RegField.width .HBM_ECC_CE_ce_count - 1)
          ∧ v.poison = s.poison ∧ SameRegs [.HBM_ECC_CE_ce_count] s v)
      ∧ (f = 2 → v.poisoned a = true ∧ v.get .HBM_UE_ADDR_HI_valid k = 1 ∧ v.get .HBM_UE_ADDR_LO_addr_lo k = a % 2 ^ 32
          ∧ v.get .HBM_UE_ADDR_HI_addr_hi k = a / 2 ^ 32 ∧ bit (v.get .FLT_WARN_pending 0) Warn.t1Ue.bit = true))) ∧
  (∀ (k : StackIx) (s : State), s.tilesUp = true →
    exec (.t1StackFail k) s = .next { s.begin with raised := s.raised ++ [⟨.t1StackFail, k⟩] }) ∧
  (∀ (c : ChannelIx) (s : State), s.tilesUp = true →
    exec (.t2ChannelFail c) s = .next { s.begin with raised := s.raised ++ [⟨.t2ChannelFail, c⟩] }) ∧
  (∀ (a : Agent) (d : DieIx) (v : Word) (s : State), s.fieldUp = true →
    (isSecure a = false → s.Runs (.fldSpadSecureWrite a d v) (fun u => u.get .FLD_SPAD_SECURE_nonsec_denied d = 1
      ∧ SameRegs [.FLD_SPAD_SECURE_nonsec_denied, .MGT_STATUS_host_denied, .MGT_ERR_access_denied] s u)) ∧
    (isSecure a = true → windowOk (bits v.toNat 6 0) (bits v.toNat 11 7) = false →
      exec (.fldSpadSecureWrite a d v) s = .next (s.begin.set .FLD_SPAD_SECURE_cfg_reject d 1)) ∧
    (isSecure a = true → windowOk (bits v.toNat 6 0) (bits v.toNat 11 7) = true → s.planState = .idle →
        bit v.toNat 12 = false ∨ s.secretsRefused = false →
      s.Runs (.fldSpadSecureWrite a d v) (fun u => u.get .FLD_SPAD_SECURE_base_blk d = bits v.toNat 6 0
        ∧ u.get .FLD_SPAD_SECURE_size_blk d = bits v.toNat 11 7 ∧ u.get .FLD_SPAD_SECURE_open d = bits v.toNat 12 12
        ∧ SameRegs [.FLD_SPAD_SECURE_base_blk, .FLD_SPAD_SECURE_size_blk, .FLD_SPAD_SECURE_open, .FLD_SPAD_SECURE_cfg_reject
                    , .FLD_SPAD_SECURE_nonsec_denied] s u))) ∧
  (∀ (v : Word) (s : State), s.hubUp = true →
    exec (.planLimitLoWrite false v) s = .next { s.begin with t1Lo := some v.toNat } ∧
    exec (.planLimitLoWrite true v) s = .next { s.begin with t2Lo := some v.toNat }) ∧
  (∀ (v : Word) (lo : Nat) (s : State), s.hubUp = true → lo < 2 ^ 32 →
    (s.t1Lo = some lo → s.planState = .idle → lo + 2 ^ 32 * bits v.toNat 2 0 ≤ 0x4E6000000 →
      s.Runs (.planLimitHiWrite false v) (fun u => u.planLimit 1 = lo + 2 ^ 32 * bits v.toNat 2 0 ∧ u.t1Lo = none
        ∧ u.planLimit 2 = s.planLimit 2 ∧ u.get .HBM_STATUS_limit_reject 0 = s.get .HBM_STATUS_limit_reject 0)) ∧
    (s.t1Lo = some lo → s.planState ≠ .idle ∨ 0x4E6000000 < lo + 2 ^ 32 * bits v.toNat 2 0 →
      s.Runs (.planLimitHiWrite false v) (fun u => u.planLimit 1 = s.planLimit 1 ∧ u.get .HBM_STATUS_limit_reject 0 = 1)) ∧
    (s.t2Lo = some lo → s.planState = .idle → lo + 2 ^ 32 * bits v.toNat 3 0 ≤ 0x800000000 →
      s.Runs (.planLimitHiWrite true v) (fun u => u.planLimit 2 = lo + 2 ^ 32 * bits v.toNat 3 0 ∧ u.t2Lo = none
        ∧ u.planLimit 1 = s.planLimit 1 ∧ u.get .TTM_STATUS_limit_reject 0 = s.get .TTM_STATUS_limit_reject 0)) ∧
    (s.t2Lo = some lo → s.planState ≠ .idle ∨ 0x800000000 < lo + 2 ^ 32 * bits v.toNat 3 0 →
      s.Runs (.planLimitHiWrite true v) (fun u => u.planLimit 2 = s.planLimit 2 ∧ u.get .TTM_STATUS_limit_reject 0 = 1)))

/-! ### Flits and the router -/

/-- R281, R285, R289, R298, R299, R306, R322, R329: a received flit. A codeword that begins within it is counted where it was
corrected or given up. On an ACTIVE port, a flit with a bad CRC, or in a codeword given up, is counted and nothing of it is
used; go-back mode asks once with a NAK. A good IDLE flit's ack releases the flits up to it. A DATA flit with the expected
number moves the expected number on, whatever its VC; one of an item of the plan is counted as arrived and goes to its tile, one
of another epoch is dropped; a DET packet of one flit for the hub is delivered. A duplicate is counted and changes nothing. Kind
3 takes the port down with PROTOCOL. In FLIT_SYNC good flits in a row are counted. R289, R298, R300, R302, R307, R308, R314,
R323: a flit time of an ACTIVE port sends one flit: urgent control words first, then a flit to resend, then the head of the
transmit hold when its slot has come, numbered and kept, then the other control words, then a flit of a dynamic VC, and with
nothing to send an IDLE flit. In FLIT_SYNC it sends IDLE. A hold that the link cannot empty in time breaks the link of a running
plan: the port goes down with BROKEN. -/
def Obligations.FlitsCross : Prop :=
  (∀ (p : PortIx) (v : Vector Byte 256) (b : List Byte) (cw : Fin 3) (s : State) (x y : LinkPort), x = s.port p → b = v.toList →
      s.powered = true →
      y = { x with rxBits := (x.rxBits + flitBits) % codewordBits, rxBad := if x.nextBegins then decide (cw.val = 2) else x.rxBad } →
    (s.train p = .flitSync → ∀ good, good = (!x.inBad cw && crcOk b) → s.Runs (.flitRx p v cw) (fun t =>
      t.port p = { y with rxGood := if good then x.rxGood + 1 else 0 } ∧ t.router = s.router ∧ SameBytes s t
      ∧ SameRegs [.LNK_FEC_cw_corrected, .LNK_FEC_cw_uncorrectable, .LNK_REPLAY_bad_flits] s t)) ∧
    (s.train p = .active →
      (x.inBad cw = true ∨ crcOk b = false → s.Runs (.flitRx p v cw) (fun t => (t.port p).exp = x.exp
        ∧ (t.port p).kept = x.kept ∧ t.router = s.router ∧ t.dn = s.dn ∧ SameBytes s t
        ∧ t.get .LNK_REPLAY_bad_flits p = min (s.get .LNK_REPLAY_bad_flits p + 1) (2 ^ RegField.width .LNK_REPLAY_bad_flits - 1)
        ∧ (x.nextBegins = true → cw = 2 → t.get .LNK_FEC_cw_uncorrectable p
            = min (s.get .LNK_FEC_cw_uncorrectable p + 1) (2 ^ RegField.width .LNK_FEC_cw_uncorrectable - 1))
        ∧ (x.nextBegins = true → cw = 1 → t.get .LNK_FEC_cw_corrected p
            = min (s.get .LNK_FEC_cw_corrected p + 1) (2 ^ RegField.width .LNK_FEC_cw_corrected - 1))
        ∧ SameRegs [.LNK_FEC_cw_corrected, .LNK_FEC_cw_uncorrectable, .LNK_REPLAY_bad_flits] s t
        ∧ (s.selectiveNow p = false → x.nakOpen = false → (t.port p).nakOpen = true ∧ (t.port p).urgent.length = x.urgent.length + 1)
        ∧ (s.selectiveNow p = false → x.nakOpen = true → t.port p = y))) ∧
      (x.inBad cw = false → crcOk b = true →
        (bits (leAt b 0 4) 1 0 = 2 → s.selectiveNow p = false → ∀ d, d = (bits (leAt b 0 4) 25 14 + 4096 - x.una) % 4096 →
          s.Runs (.flitRx p v cw) (fun t => (t.port p).exp = x.exp ∧ t.router = s.router ∧ t.dn = s.dn ∧ SameBytes s t
            ∧ (d < x.kept.length → (t.port p).kept = x.kept.drop (d + 1) ∧ (t.port p).una = (x.una + (d + 1)) % 4096)
            ∧ (x.kept.length ≤ d → t.port p = y))) ∧
        (bits (leAt b 0 4) 1 0 = 0 → bits (leAt b 0 4) 13 2 = x.exp → x.reorder = [] →
          s.Runs (.flitRx p v cw) (fun t => (t.port p).exp = (x.exp + 1) % 4096 ∧ (t.port p).accepted = true
            ∧ SameBytes s t ∧ t.tiles = s.tiles)) ∧
        (bits (leAt b 0 4) 1 0 = 0 → bits (leAt b 0 4) 13 2 = x.exp → x.reorder = [] →
            bits (leAt b 0 4) 28 26 = 0 → s.carries p 0 = true → s.fenced p = false → ∀ r, r = leAt b 4 8 →
          (s.get .RTE_EPOCH_epoch 0 = 0 ∨ bits r 15 0 ≠ s.get .RTE_EPOCH_epoch 0 → s.Runs (.flitRx p v cw) (fun t =>
            t.get .RTE_PORT_DROP_epoch_drops p
              = min (s.get .RTE_PORT_DROP_epoch_drops p + 1) (2 ^ RegField.width .RTE_PORT_DROP_epoch_drops - 1)
            ∧ t.plan = s.plan ∧ t.router = s.router ∧ t.dn = s.dn)) ∧
          (∀ i, s.get .RTE_EPOCH_epoch 0 ≠ 0 → bits r 15 0 = s.get .RTE_EPOCH_epoch 0 → 2 ≤ s.rstate → s.afterStopWindow = false →
              s.router.flaws = [] → (s.rimItems (p.val / 6)).find? (fun i => i.tag == bits r 35 16) = some i → i.peal = 0xFFFF →
            s.Runs (.flitRx p v cw) (fun t => (∀ k, k = 2 ^ 20 * p + bits r 35 16 →
                Table.get 0 t.plan.arrived k = Table.get 0 s.plan.arrived k + 1)
              ∧ ∀ e k, e = routeOf i.route → e.kind ≠ 0 → s.fieldUp = true → s.get .RTE_PLAN_forwarding_only 0 = 0 →
                k = 2 * tileAt e.die e.column e.row + e.destQueue → Table.get [] t.dn k = Table.get [] s.dn k
                  ++ [⟨16 * 9216 + p, s.dnSeq, .word (slice b 12 64) 0 (.tile (tileAt e.die e.column e.row) (4 + e.destQueue))⟩]))) ∧
        (∀ vc r, bits (leAt b 0 4) 1 0 = 0 → bits (leAt b 0 4) 13 2 = x.exp → x.reorder = [] → vc = bits (leAt b 0 4) 28 26 → vc ≠ 0 →
            bit (leAt b 0 4) 29 = true → s.carries p vc = true → s.fenced p = false → s.router.flaws = [] → r = leAt b 4 8 →
            x.rxPackets = [] → routeDest' r = s.deviceId → routeKind r = 0 → routeFlag r = false → bits r 63 56 < 240 →
            leAt b 12 1 = 0 →
          s.Runs (.flitRx p v cw) (fun t => .packet 0 [slice b 12 (bits r 63 56 + 1)] ∈ t.out ∧ (t.port p).rxPackets = []
            ∧ t.router.arrivals = s.router.arrivals)) ∧
        (bits (leAt b 0 4) 1 0 = 0 → 3072 ≤ (bits (leAt b 0 4) 13 2 + 4096 - x.exp) % 4096 →
          s.Runs (.flitRx p v cw) (fun t => (t.port p).exp = x.exp ∧ t.router = s.router ∧ t.dn = s.dn ∧ t.plan = s.plan
            ∧ t.get .LNK_CREDIT_dup_flits p = min (s.get .LNK_CREDIT_dup_flits p + 1) (2 ^ RegField.width .LNK_CREDIT_dup_flits - 1))) ∧
        (bits (leAt b 0 4) 1 0 = 3 → s.Runs (.flitRx p v cw) (fun t => t.train p = .down
          ∧ t.get .LNK_DOWN_last_cause p = Down.protocol.code))))) ∧
  ((∀ (p : PortIx) (ft : Fin 512) (s : State) (x : LinkPort), x = s.port p → s.powered = true →
    (s.train p = .flitSync → exec (.flitTime p ft) s = .next (s.begin.emit (.flit p (idleFlit x)))) ∧
    (s.train p = .active →
      (∀ ws, ws = x.urgentWords s.time.tick → ws ≠ [] → s.fenced p = false → x.closing = none → s.Runs (.flitTime p ft) (fun t =>
        t.out = [.flit p (ctrlFlit x ws)] ∧ (t.port p).urgent = x.urgent.drop (6 - (x.due s.time.tick).length)
        ∧ (t.port p).kept = x.kept ∧ (t.port p).hold = x.hold ∧ t.regs = s.regs)) ∧
      (x.urgentWords s.time.tick = [] →
        (∀ f, x.nextResend = some f → s.Runs (.flitTime p ft) (fun t => t.out = [.flit p (dataFlit x f true)]
          ∧ (t.port p).kept = x.kept ∧ (t.port p).nxt = x.nxt ∧ (t.port p).hold = x.hold ∧ t.regs = s.regs)) ∧
        (∀ f, x.nextResend = none → x.passFlit = some f → s.Runs (.flitTime p ft) (fun t =>
          t.out = [.flit p (dataFlit x f true)] ∧ (t.port p).kept = x.kept ∧ (t.port p).nxt = x.nxt
          ∧ (t.port p).pass = (if (f.seq + 1) % 4096 = x.nxt then none else some ((f.seq + 1) % 4096)) ∧ t.regs = s.regs)) ∧
        (x.nextResend = none → x.passFlit = none →
          (∀ h hs, x.hold = h :: hs → x.kept.length < 1024 → s.vc0Ready p ft h = true →
            s.Runs (.flitTime p ft) (fun t => t.out = [.flit p (dataFlit x { h.flit with seq := x.nxt } false)]
              ∧ (t.port p).hold = hs ∧ (t.port p).kept = x.kept ++ [{ h.flit with seq := x.nxt }] ∧ (t.port p).nxt = (x.nxt + 1) % 4096
              ∧ t.get .RTE_PORT_VC0_vc0_sent p
                  = min (s.get .RTE_PORT_VC0_vc0_sent p + 1) (2 ^ RegField.width .RTE_PORT_VC0_vc0_sent - 1)
              ∧ (slotLe (s.router.planBeat / 16) ft h.measure h.slot = true →
                  t.get .RTE_PORT_VC0_late_sends p = s.get .RTE_PORT_VC0_late_sends p))) ∧
          (x.hold = [] →
            (∀ c cs, x.normal = c :: cs → s.fenced p = false → s.Runs (.flitTime p ft) (fun t =>
              t.out = [.flit p (ctrlFlit x ((c :: cs).take 6))] ∧ (t.port p).normal = (c :: cs).drop 6 ∧ t.regs = s.regs)) ∧
            (∀ v d, x.normal = [] → x.kept.length < 1024 → s.dynPick p = some (v, d) → s.Runs (.flitTime p ft) (fun t =>
              .flit p (dataFlit x { d.flit with seq := x.nxt } false) ∈ t.out ∧ (t.port p).kept = x.kept ++ [{ d.flit with seq := x.nxt }]
              ∧ (t.port p).nxt = (x.nxt + 1) % 4096 ∧ (t.port p).rr = v
              ∧ Table.get 0 (t.port p).sent v = (Table.get 0 x.sent v + 1) % 65536)) ∧
            (x.normal = [] → s.dynPick p = none → s.Runs (.flitTime p ft) (fun t =>
              t.out = [.flit p (idleFlit x)] ∧ (t.port p).kept = x.kept ∧ (t.port p).nxt = x.nxt
              ∧ t.regs = s.regs ∧ t.router = s.router))))))) ∧
  (∀ (p : PortIx) (s : State), s.powered = true → s.train p = .active → s.broken p = true →
    s.Runs (.linkBroken p) (fun t => t.train p = .down ∧ t.get .LNK_DOWN_broken_seen p = 1
      ∧ t.get .LNK_DOWN_last_cause p = Down.broken.code ∧ (t.port p).hold = [] ∧ (t.port p).kept = [])) ∧
  (∀ (p : PortIx) (s : State), s.broken p = false → exec (.linkBroken p) s = .next s.begin))

/-- R318, R323, R326, R332, R340, R344, R477: a tile's word for a link leaves its queue and becomes the next flit of its item in
the transmit hold, in its slot, whose next index it takes; it is dropped and counted where the router executes no plan, where
the port has no slot for its tag, and at a fence. An adaptive packet that has waited out the escape threshold goes over to its
deterministic port with the flag set, or is dropped at that port's fence; a congestion sample writes 46 records to the ring,
those of the ports from their counts, or counts them lost, and restarts the counts. -/
def Obligations.RouterForwards : Prop :=
  (∀ (t : TileIx) (low : Bool) (s : State) q b p tag rest, q = (if low then 4 else 5) → s.fieldUp = true →
      frontLink ((s.tile t).outQ q).mid = some (b, p, tag, rest) →
    (s.get .RTE_EPOCH_epoch 0 = 0 ∨ s.tagSlots p tag = [] → s.Runs (.tileWordToFlit t low) (fun u => u.ports = s.ports ∧ SameBytes s u
      ∧ (rest = [] → ((s.tile t).outQ q).stage = [] → (u.tile t).outQ q = ⟨[], []⟩)
      ∧ u.get .RTE_PORT_MISS_unslotted p
          = min (s.get .RTE_PORT_MISS_unslotted p + 1) (2 ^ RegField.width .RTE_PORT_MISS_unslotted - 1))) ∧
    (∀ idx m slot ent, 0 < s.get .RTE_EPOCH_epoch 0 → s.get .RTE_EPOCH_epoch 0 < 2 ^ 16 → s.rstate = 3 ∨ s.rstate = 4 ∨ s.rstate = 5 →
        s.router.stopMeasure = none → s.tagSlots p tag ≠ [] → idx = Table.get 0 (s.port p).wordIndex tag → idx < 2 ^ 20 → tag < 2 ^ 20 →
        s.occurrence p tag idx (Table.get 0 (s.port p).slotUse (slotKey tag idx)) = some (m, slot, ent) → s.router.flaws = [] →
      (s.fenced p = false → s.train p = .active → s.get .LNK_STATUS_mode p ≠ 1 → (s.port p).hold.length < 2048 →
        s.Runs (.tileWordToFlit t low) (fun u => (rest = [] → ((s.tile t).outQ q).stage = [] → (u.tile t).outQ q = ⟨[], []⟩)
          ∧ Table.get 0 (u.port p).wordIndex tag = (if topIndex (s.tagSlots p tag) ≤ idx then 0 else idx + 1)
          ∧ Table.get 0 (u.port p).slotUse (slotKey tag idx) = Table.get 0 (s.port p).slotUse (slotKey tag idx) + 1
          ∧ ∃ h, (u.port p).hold = putHeld h (s.port p).hold ∧ h.measure = m ∧ h.slot = slot
            ∧ h.since = s.time.tick ∧ h.flit.vc = 0 ∧ h.flit.payload = padTo 240 b ∧ bits h.flit.route 35 16 = tag
            ∧ bits h.flit.route 55 36 = idx ∧ bits h.flit.route 15 0 = s.get .RTE_EPOCH_epoch 0 ∧ bits h.flit.route 63 56 = 63
            ∧ SameBytes s u)) ∧
      (s.fenced p = true → s.Runs (.tileWordToFlit t low) (fun u => (u.port p).hold = (s.port p).hold
        ∧ Table.get 0 (u.port p).slotUse (slotKey tag idx) = Table.get 0 (s.port p).slotUse (slotKey tag idx) + 1
        ∧ u.get .RTE_PORT_DROP_fence_drops p
            = min (s.get .RTE_PORT_DROP_fence_drops p + 1) (2 ^ RegField.width .RTE_PORT_DROP_fence_drops - 1))))) ∧
  (∀ (vc : Fin 8) (s : State) d det mine, s.powered = true → s.escaper vc = some d → det = entryDet (s.routeEntry d.flit.route) →
      det < 36 → mine = s.router.adaptive.filter (fun y => y.packet == d.packet) →
    s.Runs (.escape vc) (fun t => t.router.adaptive = s.router.adaptive.filter (fun y => y.packet != d.packet)
      ∧ (t.port det).sample.escapes = (s.port det).sample.escapes + 1
      ∧ (s.fenced det = false → t.regs = s.regs ∧ (t.port det).dyn = (s.port det).dyn
          ++ mine.map (fun y => { y with flit := { y.flit with route := flagged y.flit.route } }))
      ∧ (s.fenced det = true → (t.port det).dyn = (s.port det).dyn))) ∧
  (∀ (l : Vector (BitVec 16) 10) (s : State) n, s.powered = true → s.get .RTE_SAMPLE_CFG_enable 0 = 1 →
      isDownbeat s.time.beat = true → s.time.beat / 16 % max 1 (s.get .RTE_SAMPLE_CFG_period_measures 0) = 0 →
      s.router.sampleAt ≠ some s.time.beat → n = s.get .TEL_CONG_COUNT_written 0 →
    s.Runs (.congestionSample l) (fun t => t.get .TEL_CONG_COUNT_written 0 = (n + 46) % 2 ^ RegField.width .TEL_CONG_COUNT_written
      ∧ (∀ p : PortIx, (t.port p).sample = { Sample.reset with holdMax := (s.port p).hold.length }) ∧ t.router.bridges = []
      ∧ t.router.sampleAt = some s.time.beat ∧ t.spad = s.spad ∧ t.tier2 = s.tier2
      ∧ (∀ a, a < 32 * 0x4FE000000 ∨ 32 * (0x4FE000000 + 2 ^ 20) ≤ a → t.tier1.read a = s.tier1.read a)
      ∧ (s.ringUp = true → ∀ (p : PortIx) x, x = (s.port p).sample → t.tierUnit 1 (0x4FE000000 + (n + p) % 2 ^ 20)
          = sampleRecord s.time.beat p (ofBool (s.fenced p) + 2 * ofBool x.wentDown + 4 * s.get .LNK_STATUS_mode p)
              (s.get .RTE_SAMPLE_CFG_period_measures 0) x (if x.times = 0 then 0 else x.stalled * 65536 / x.times))
      ∧ (s.ringUp = false → t.tier1 = s.tier1 ∧ t.get .TEL_STATUS_ring_lost 0 = 1)))

/-- R327, R328, R340, R345 to R347, R413: fences and tables. A scrub repairs a single error of a Rim's tables and counts it; two
copies in disagreement it names in RTE_MIRROR, stops VC0 on the ports and is fatal. Fences written by the management plane are
in force, and a port newly fenced drops its transmit hold; other agents' writes are denied, and so is one that lifts a fence
which is held. A table entry is read into the DATA registers, and written while no plan is in force and its port exists. -/
def Obligations.FencesAndTables : Prop :=
  (∀ (r : RimIx) (s : State), s.powered = true → s.get .RTE_CTRL_scrub_en 0 = 1 →
    (s.router.flaws.filter (fun f => f.rim.val == r.val) = [] → exec (.tableScrub r) s = .next s.begin) ∧
    (∀ f, s.router.flaws.filter (fun f => f.rim.val == r.val) = [f] →
      (f.result.val ≤ 1 → s.Runs (.tableScrub r) (fun t => t.raised = s.raised ∧ t.ports = s.ports
        ∧ t.router = { s.router with flaws := s.router.flaws.filter (fun g => g ≠ f) }
        ∧ t.get .RTE_STATUS_ce_count 0 = min (s.get .RTE_STATUS_ce_count 0 + 1) (2 ^ RegField.width .RTE_STATUS_ce_count - 1)
        ∧ (f.result = 1 → t.get .RTE_STATUS_copy_repaired 0 = 1))) ∧
      (f.result = 2 ∨ f.result = 3 → s.Runs (.tableScrub r) (fun t => t.get .RTE_MIRROR_valid 0 = 1
        ∧ t.get .RTE_MIRROR_rim 0 = r.val ∧ t.get .RTE_MIRROR_table 0 = f.table.val ∧ t.get .RTE_MIRROR_index 0 = f.index.toNat
        ∧ (∀ p ∈ findPorts f, (t.port p).vc0Stopped = true) ∧ t.router = s.router
        ∧ ∃ x, t.raised = s.raised ++ [x] ∧ x.reason = (if f.result = 3 then Fatal.tableUncorrectable else Fatal.tableMirrorMismatch))))) ∧
  (∀ (a : Agent) (v : Word) (s : State), s.agentUp a = true →
    (isManagement a = false → ∀ hi, s.Runs (.rteFenceWrite a hi v) (fun t => t.get .RTE_STATUS_fence_denied 0 = 1
      ∧ t.get .MGT_STATUS_host_denied 0 = 1 ∧ t.fences = s.fences ∧ t.ports = s.ports)) ∧
    (isManagement a = true → s.fencesHeld = false → s.Runs (.rteFenceWrite a false v) (fun t => t.get .RTE_FENCE_LO_fence_lo 0 = v.toNat
      ∧ ∀ p : PortIx, s.fenced p = false → t.fenced p = true → (t.port p).hold = [])) ∧
    (isManagement a = true → s.fencesHeld = false → s.Runs (.rteFenceWrite a true v) (fun t => t.get .RTE_FENCE_HI_fence_hi 0 = v.toNat % 16
      ∧ ∀ p : PortIx, s.fenced p = false → t.fenced p = true → (t.port p).hold = [])) ∧
    (isManagement a = true → s.fencesHeld = true → (∃ p : PortIx, p.val < 32 ∧ s.fenced p = true ∧ bit v.toNat p = false) →
      exec (.rteFenceWrite a false v) s = .next (s.begin.set .RTE_STATUS_fence_denied 0 1)) ∧
    (∀ i, s.router.flaws = [] → bits v.toNat 2 0 = 3 → i = bits v.toNat 11 3 → s.Runs (.rteTblAddrWrite a v) (fun t =>
      t.get .RTE_TBL_ADDR_table 0 = 3 ∧ t.get .RTE_TBL_ADDR_index 0 = i
      ∧ t.get .RTE_TBL_DATA_LO_data_lo 0 = Table.get 0 s.router.routes i % 2 ^ 32
      ∧ (Table.get 0 s.router.routes i < 2 ^ 43 → t.get .RTE_TBL_DATA_HI_data_hi 0 = Table.get 0 s.router.routes i / 2 ^ 32)
      ∧ t.router = s.router)) ∧
    (∀ i, s.router.flaws = [] → bits v.toNat 2 0 = 4 → i = bits v.toNat 11 3 → s.Runs (.rteTblAddrWrite a v) (fun t =>
      t.get .RTE_TBL_ADDR_table 0 = 4 ∧ t.get .RTE_TBL_ADDR_index 0 = i
      ∧ t.get .RTE_TBL_DATA_LO_data_lo 0 = Table.get 0 s.router.vias (i % 16) % 2 ^ 32 ∧ t.router = s.router)) ∧
    (bits v.toNat 2 0 ≠ 3 → bits v.toNat 2 0 ≠ 4 → s.Runs (.rteTblAddrWrite a v) (fun t =>
      SameRegs [.RTE_TBL_ADDR_table, .RTE_TBL_ADDR_index] s t ∧ t.get .RTE_TBL_ADDR_table 0 = bits v.toNat 2 0 ∧ t.router = s.router)) ∧
    (∀ e, e = s.get .RTE_TBL_DATA_LO_data_lo 0 + 2 ^ 32 * v.toNat → ∀ i, i = s.get .RTE_TBL_ADDR_index 0 →
      (s.rstate ≠ 0 ∨ (s.get .RTE_TBL_ADDR_table 0 = 3 ∧ entryValid e = true ∧ 35 < entryDet e) →
        exec (.rteTblDataHiWrite a v) s = .next (s.begin.set .RTE_STATUS_tbl_reject 0 1)) ∧
      (s.rstate = 0 → s.get .RTE_TBL_ADDR_table 0 = 3 → entryValid e = false ∨ entryDet e ≤ 35 →
        s.Runs (.rteTblDataHiWrite a v) (fun t => Table.get 0 t.router.routes i = e % 2 ^ 43
          ∧ (∀ j, j ≠ i → Table.get 0 t.router.routes j = Table.get 0 s.router.routes j) ∧ t.router.vias = s.router.vias)) ∧
      (s.rstate = 0 → s.get .RTE_TBL_ADDR_table 0 = 4 → s.Runs (.rteTblDataHiWrite a v) (fun t =>
        Table.get 0 t.router.vias (i % 16) = e % 256 ∧ t.router.routes = s.router.routes))))

/-- R329, R331 to R339: ordered packets. A local packet with no pair goes out on its deterministic route; under a policy other
than DET it asks for an order context, with flag 1, and its pair has an entry. One of a pair in ORD goes out with the pair's
next number, under ADAPT for a choice of port; one whose window is full waits. A request makes a context with its window and
sends a GRANT, or is denied; a GRANT with a window puts the pair in ORD or moves its window, and W = 0 returns it to DET; a
context whose deliveries no GRANT has covered sends one. An ordered packet is delivered when it is next and held while it is
early; with no context it is dropped and a GRANT with W = 0 goes back. RELEASE ends a context; an idle pair sends it; an abort
is counted and its number used. -/
def Obligations.OrderedPackets : Prop :=
  (∀ (a : Fin 11) (dest : BitVec 16) (vc : Fin 8) (n : Fin 4) (len : Fin 240) (data : Vector Byte 960) (via : Fin 16) (s : State)
      (c : Instr) (ps : List (List Byte)), c = .contextRequest (.send a dest vc n len data via) →
      ps = payloadsOf data.toList (n.val + 1) (len.val + 1) → s.powered = true → 1 ≤ vc.val → dest.toNat ≠ s.deviceId →
      s.deviceId < 2 ^ 16 →
    (∀ r, s.pair? dest.toNat vc = none → s.policy vc = 0 → r = mkRoute dest.toNat s.deviceId 0 false 0 0 (len.val + 1) →
      s.Runs c (fun t => Queued s t (dest.toNat % 6) r vc ps ∧ t.router.pairs = s.router.pairs ∧ t.router.packets = s.router.packets + 1)) ∧
    (∀ r, s.pair? dest.toNat vc = none → s.policy vc ≠ 0 →
        (s.router.pairs.filter (fun y => y.dest % 6 == dest.toNat % 6)).length < 1024 →
        r = mkRoute dest.toNat s.deviceId 0 true 0 0 (len.val + 1) →
      s.Runs c (fun t => Queued s t (dest.toNat % 6) r vc ps
        ∧ t.pair? dest.toNat vc = some ⟨dest.toNat, vc, false, 0, 0, 0, some s.time.tick, s.time.tick⟩)) ∧
    (∀ x r, s.pair? dest.toNat vc = some x → x.ord = true → (x.next + 2 ^ 16 - x.base) % 2 ^ 16 < x.window →
        x.dest = dest.toNat → x.vc = vc.val →
      (s.policy vc = 0 → r = mkRoute dest.toNat s.deviceId 0 false 0 x.next (len.val + 1) → s.Runs c (fun t =>
        Queued s t (dest.toNat % 6) r vc ps
        ∧ t.pair? dest.toNat vc = some { x with next := (x.next + 1) % 2 ^ 16, lastSent := s.time.tick })) ∧
      (s.policy vc = 1 → r = mkRoute dest.toNat s.deviceId 1 false 0 x.next (len.val + 1) → entryValid (s.routeEntry r) = true →
          s.router.flaws = [] → s.Runs c (fun t =>
        t.router.adaptive = s.router.adaptive ++ s.packetFlits (dest.toNat % 6) r vc s.router.packets ps
        ∧ t.pair? dest.toNat vc = some { x with next := (x.next + 1) % 2 ^ 16, lastSent := s.time.tick }))) ∧
    (∀ x, s.pair? dest.toNat vc = some x → x.ord = true → x.window ≤ (x.next + 2 ^ 16 - x.base) % 2 ^ 16 →
      s.Runs c (fun t => t.router.stalled.length = s.router.stalled.length + 1
        ∧ t.router.pairs = s.router.pairs ∧ t.ports = s.ports ∧ t.regs = s.regs))) ∧
  (∀ (s : State) p k rest, s.powered = true →
    (takeArrival (fun r => routeKind r == 0) s.router.arrivals = some ((p, k), rest) → ∀ src, src = routeSource k.route →
      (∀ x, s.context? src k.vc = some x → s.Runs (.contextRequest .arrived) (fun t =>
        t.router = { s.router with arrivals := rest } ∧ t.regs = s.regs)) ∧
      (∀ free exp, s.context? src k.vc = none → (s.router.contexts.filter (fun c => c.source % 6 == src % 6)).length < 1024 →
          free = 4096 - ((s.router.contexts.filter (fun c => c.source % 6 == src % 6)).map (fun c => c.window)).sum → 4 ≤ free →
          exp = (routeSeq k.route + 1) % 2 ^ 16 →
        s.Runs (.contextRequest .arrived) (fun t => t.context? src k.vc = some ⟨src, k.vc, exp, min 64 free, [], 0, s.time.tick⟩
          ∧ Queued s t (src % 6) (mkRoute src s.deviceId 4 false k.vc exp 2) k.vc [toLE 2 (min 64 free)])) ∧
      (s.context? src k.vc = none → 1024 ≤ (s.router.contexts.filter (fun c => c.source % 6 == src % 6)).length →
        s.Runs (.contextRequest .arrived) (fun t => t.router = { s.router with arrivals := rest }
          ∧ t.get .RTE_ORDER_denials (src % 6)
              = min (s.get .RTE_ORDER_denials (src % 6) + 1) (2 ^ RegField.width .RTE_ORDER_denials - 1)))) ∧
    (takeArrival (fun r => routeKind r == 4) s.router.arrivals = some ((p, k), rest) →
        ∀ dest vc w, dest = routeSource k.route → vc = routeVia k.route → w = leAt (k.payloads.headD []) 0 2 →
      (w ≠ 0 → (∀ x, s.pair? dest vc = some x → x.ord = false) → s.Runs .grant (fun t => ∃ x, t.pair? dest vc = some x ∧ x.ord = true
        ∧ x.next = routeSeq k.route ∧ x.base = routeSeq k.route ∧ x.window = w)) ∧
      (∀ x, w ≠ 0 → s.pair? dest vc = some x → x.ord = true → s.router.stalled = [] →
        s.Runs .grant (fun t => t.pair? dest vc = some { x with base := routeSeq k.route, window := w })) ∧
      (∀ x, w = 0 → s.pair? dest vc = some x → x.ord = true → s.router.stalled = [] →
        s.Runs .grant (fun t => t.pair? dest vc = some { x with ord := false }
          ∧ t.get .RTE_ORDER_order_lost (dest % 6)
              = min (s.get .RTE_ORDER_order_lost (dest % 6) + 1) (2 ^ RegField.width .RTE_ORDER_order_lost - 1)))) ∧
    (takeArrival (fun r => routeKind r == 1 || routeKind r == 2 || routeKind r == 3) s.router.arrivals = some ((p, k), rest) →
      (s.context? (routeSource k.route) k.vc = none → s.Runs .orderRestoration (fun t =>
        min (s.get .RTE_PORT_MISS_bad_dest p + 1) (2 ^ RegField.width .RTE_PORT_MISS_bad_dest - 1) ≤ t.get .RTE_PORT_MISS_bad_dest p
        ∧ t.router.arrivals = rest ∧ t.router.packets = s.router.packets + 1
        ∧ Queued s t (routeSource k.route % 6) (mkRoute (routeSource k.route) s.deviceId 4 false k.vc (routeSeq k.route) 2) k.vc [toLE 2 0])) ∧
      (∀ x, s.context? (routeSource k.route) k.vc = some x → x.held = [] → routeSeq k.route = x.exp → 0 < x.window → k.payloads ≠ [] →
          leAt (k.payloads.headD []) 0 1 = 0 → s.Runs .orderRestoration (fun t => .packet 0 k.payloads ∈ t.out
        ∧ t.router.arrivals = rest ∧ (x.source = routeSource k.route → x.vc = k.vc → ∃ y, t.context? (routeSource k.route) k.vc = some y
            ∧ y.exp = (x.exp + 1) % 2 ^ 16 ∧ y.held = []))) ∧
      (∀ x d, s.context? (routeSource k.route) k.vc = some x → d = (routeSeq k.route + 2 ^ 16 - x.exp) % 2 ^ 16 → d ≠ 0 → d < x.window →
          x.held.any (fun j => routeSeq j.route == routeSeq k.route) = false →
        s.Runs .orderRestoration (fun t => t.context? (routeSource k.route) k.vc = some { x with held := x.held ++ [k] } ∧ t.out = []))) ∧
    (takeArrival (fun r => routeKind r == 5) s.router.arrivals = some ((p, k), rest) → s.Runs .release (fun t =>
      t.context? (routeSource k.route) (routeVia k.route) = none ∧ t.router.arrivals = rest ∧ t.router.pairs = s.router.pairs)) ∧
    (takeArrival (fun r => routeKind r == 6) s.router.arrivals = some ((p, k), rest) →
      (s.context? (routeSource k.route) k.vc = none → s.Runs .abort (fun t => t.router = { s.router with arrivals := rest }
        ∧ t.get .RTE_PORT_MISS_aborts p = min (s.get .RTE_PORT_MISS_aborts p + 1) (2 ^ RegField.width .RTE_PORT_MISS_aborts - 1))) ∧
      (∀ x, s.context? (routeSource k.route) k.vc = some x → x.held = [] → routeSeq k.route = x.exp → 0 < x.window → x.uncovered < 15 →
        s.Runs .abort (fun t => t.router.arrivals = rest ∧ t.out = []
          ∧ t.get .RTE_PORT_MISS_aborts p = min (s.get .RTE_PORT_MISS_aborts p + 1) (2 ^ RegField.width .RTE_PORT_MISS_aborts - 1)
          ∧ ∃ y, t.context? (routeSource k.route) k.vc = some y ∧ y.exp = (x.exp + 1) % 2 ^ 16 ∧ y.held = [])))) ∧
  (∀ (src : BitVec 16) (vc : Fin 8) (s : State), s.powered = true →
    (∀ x, s.context? src.toNat vc = some x → 0 < x.uncovered →
      s.Runs (.grantSend src vc) (fun t => t.context? src.toNat vc = some { x with uncovered := 0 }
        ∧ Queued s t (x.source % 6) (mkRoute x.source s.deviceId 4 false x.vc x.exp 2) x.vc [toLE 2 x.window])) ∧
    (∀ x, s.pair? src.toNat vc = some x → s.idlePair x = true →
      s.Runs (.idleRelease src vc) (fun t => t.pair? src.toNat vc = some { x with ord := false }
        ∧ Queued s t (x.dest % 6) (mkRoute x.dest s.deviceId 5 false x.vc x.next 1) x.vc [[0]])))

/-! ### The host interface -/

/-- R351 to R358, R361, R363, R377, R478: the interface and its queues. An enable with an offending request is refused with its
lowest bit; one to accept enables the bits asked for and opens the admin queue alone. A disable closes every queue and drops the
commands not started. A doorbell for no queue, or outside its ring, is counted and changes nothing. A command whose slots lie
between head and tail is fetched in turn; a good header makes it wait to start, a bad one completes it at once. -/
def Obligations.InterfaceAndQueues : Prop :=
  (∀ (s : State), s.hostUp = true → s.get .HST_CTRL_enable 0 = 0 →
    (∀ b, s.negotiation = some b → s.Runs .interfaceEnable (fun t => t.get .HST_STATUS_neg_fail 0 = 1 ∧ t.get .HST_STATUS_neg_bit 0 = b
      ∧ t.host = s.host ∧ SameRegs [.HST_STATUS_neg_fail, .HST_STATUS_neg_bit] s t)) ∧
    (s.negotiation = none → s.Runs .interfaceEnable (fun t => t.get .HST_STATUS_running 0 = 1 ∧ t.get .HST_CTRL_enable 0 = 1
      ∧ (∀ i, i < 4 → t.get .HST_FEAT_EN_en i = s.get .HST_FEAT_REQ_req i % 2 ^ 32) ∧ (∀ q, q ≠ 0 → t.queue? q = none)
      ∧ (∃ x, t.queue? 0 = some x ∧ x.n = s.get .HST_AQ_CFG_n 0 ∧ x.sqHead = 0 ∧ x.cqTail = 0 ∧ x.phase = true)
      ∧ SameRegs [.HST_FEAT_EN_en, .HST_CTRL_enable, .HST_STATUS_running] s t))) ∧
  (∀ (s : State), s.hostUp = true → s.get .HST_CTRL_enable 0 = 1 → s.Runs .interfaceDisable (fun t =>
    t.get .HST_STATUS_running 0 = 0 ∧ t.get .HST_CTRL_enable 0 = 0 ∧ t.host.queues = []
    ∧ t.host.fetched = (s.host.fetched.filter (fun f => f.started && f.op != 0x04)).map (fun f => { f with mute := true })
    ∧ t.out = [])) ∧
  (∀ (q : QueueIx) (v : Word) (s : State), s.hostUp = true →
    (s.queue? q = none → exec (.sqDoorbell q v) s = .next s.begin.badDoorbell ∧ exec (.cqDoorbell q v) s = .next s.begin.badDoorbell) ∧
    (∀ x, s.queue? q = some x →
      (x.n ≤ v.toNat → exec (.sqDoorbell q v) s = .next s.begin.badDoorbell ∧ exec (.cqDoorbell q v) s = .next s.begin.badDoorbell) ∧
      (v.toNat < x.n → s.Runs (.sqDoorbell q v) (fun t => t.queue? q = some { x with sqTail := v.toNat } ∧ t.regs = s.regs
        ∧ t.host.fetched = s.host.fetched ∧ ∀ r, r ≠ q.val → t.queue? r = s.queue? r)) ∧
      (v.toNat < x.n → ∀ k, k = (v.toNat + x.n - x.cqHead) % x.n →
        (k ≤ x.waiting → s.Runs (.cqDoorbell q v) (fun t => t.queue? q = some { x with cqHead := v.toNat, waiting := x.waiting - k }
          ∧ t.regs = s.regs)) ∧
        (x.waiting < k → exec (.cqDoorbell q v) s = .next s.begin.badDoorbell)))) ∧
  (∀ (v : Word) (s : State), s.hostUp = true →
    (s.evtRing = false ∨ s.get .HST_EVT_CFG_entries 0 ≤ v.toNat → exec (.eventRingDoorbell v) s = .next s.begin.badDoorbell) ∧
    (∀ n k, n = s.get .HST_EVT_CFG_entries 0 → k = (v.toNat + n - s.host.evtRead % n) % n → s.evtRing = true → v.toNat < n →
        s.host.evtRead + k ≤ s.host.evtWritten → s.host.evtLost = 0 → s.Runs (.eventRingDoorbell v) (fun t =>
      t.host.evtRead = s.host.evtRead + k ∧ t.regs = s.regs ∧ t.host.queues = s.host.queues))) ∧
  (∀ (q : QueueIx) (slots : Vector Byte 128) (heads : Vector (Fin 4) 64) (s : State) x fmt b head, s.queue? q = some x →
      fmt = leAt slots.toList 1 1 % 4 → b = slots.toList.take (32 * packetSlots fmt) → s.fetching = true → s.turn q heads.toList = true →
      0 < x.available → packetSlots fmt ≤ x.available → x.hasEntry = true → x.deleting = none →
      head = (x.sqHead + packetSlots fmt) % x.n →
    (s.headerCode q b = none → s.Runs (.commandFetch q slots heads) (fun t =>
      t.queue? q = some { x with sqHead := head, reserved := x.reserved + 1 } ∧ t.out = [] ∧ t.regs = s.regs
      ∧ ∃ f, t.host.fetched = s.host.fetched ++ [f] ∧ f.q = q.val ∧ f.cid = leAt b 2 2 ∧ f.packet = b ∧ f.sqHead = head
        ∧ f.started = false ∧ f.mute = false)) ∧
    (∀ c r, s.headerCode q b = some (c, r) → s.Runs (.commandFetch q slots heads) (fun t =>
      .hostWrite (x.cqBase + 16 * x.cqTail) (cqe q (leAt b 2 2) head c.code x.phase r) false ∈ t.out ∧ .msix x.vector ∈ t.out
      ∧ t.host.fetched.length = s.host.fetched.length)))

/-- R357, R360 to R365, R368: host commands that may start complete with the code and the result their rules give: NOP, FENCE,
IDENTIFY and FEATURE_GET, the queue commands and the port commands. -/
def Obligations.HostCommandsComplete : Prop :=
  ∀ (q : QueueIx) (cid : Cid) (f : Fetched) (s : State), s.command? q cid.toNat = some f →
    (s.Ready q cid 0x00 f → s.Runs (.nopCommand q cid) (fun t => Completed f .success 0 s t ∧ t.regs = s.regs ∧ SameBytes s t)) ∧
    (s.Ready q cid 0x22 f → s.Runs (.fence q cid) (fun t => Completed f .success 0 s t ∧ t.regs = s.regs ∧ SameBytes s t)) ∧
    (s.Ready q cid 0x01 f → s.Runs (.identify q cid) (fun t => Completed f .success 0 s t ∧ t.regs = s.regs
      ∧ .hostWrite (f.par 8 8) (s.identity Config.romVersion.toNat) false ∈ t.out)) ∧
    (s.Ready q cid 0x02 f →
      (f.par 8 1 = 0 → s.Runs (.featureGet q cid) (fun t =>
        Completed f .success (s.get .HST_FEAT_EN_en 0 + 2 ^ 32 * s.get .HST_FEAT_EN_en 1) s t ∧ t.regs = s.regs)) ∧
      (f.par 8 1 = 2 → s.Runs (.featureGet q cid) (fun t =>
        Completed f .success (s.get .HST_FEAT_SUP_sup 0 + 2 ^ 32 * s.get .HST_FEAT_SUP_sup 1) s t ∧ t.regs = s.regs)) ∧
      (4 ≤ f.par 8 1 → s.Runs (.featureGet q cid) (fun t => Completed f .paramInvalid 8 s t ∧ SameRegs [.HST_ERR_cmd_errors] s t))) ∧
    (s.Ready q cid 0x03 f → ∀ p, p = f.par 8 1 →
      (p = 0 ∨ 63 < p ∨ s.queue? p ≠ none → s.Runs (.queueCreate q cid) (fun t => Completed f .paramInvalid 8 s t
        ∧ SameRegs [.HST_ERR_cmd_errors] s t)) ∧
      (1 ≤ p → p ≤ 63 → s.queue? p = none → p ≠ f.q → (∀ x, s.queue? f.q = some x → x.deleting = none) → f.par 9 1 ≤ 63 →
          ringSize (f.par 10 2) = true → f.par 16 8 % 4096 = 0 → f.par 24 8 % 4096 = 0 → s.Runs (.queueCreate q cid) (fun t =>
        Completed f .success 0 s t ∧ t.queue? p = some (newQueue (f.par 16 8) (f.par 24 8) (f.par 10 2) (f.par 9 1))))) ∧
    (s.Ready q cid 0x04 f → ∀ p, p = f.par 8 1 →
      (s.queue? p = none → s.Runs (.queueDelete q cid) (fun t => Completed f .paramInvalid 8 s t)) ∧
      (∀ x y n, p ≠ 0 → p ≠ f.q → s.queue? p = some x → x.deleting = none → s.queue? f.q = some y → y.deleting = none → f.mute = false →
          n = (s.host.fetched.filter (fun g => g.q == p && !g.started)).length →
        ((∀ g ∈ s.host.fetched, g.started = true → g.q ≠ p ∧ ¬(g.op = 0x04 ∧ g.par 8 1 = p)) → s.Runs (.queueDelete q cid) (fun t =>
          t.queue? p = none ∧ (∀ g ∈ t.host.fetched, g.q ≠ p) ∧ t.host.fetched.length + n + 1 = s.host.fetched.length
          ∧ .hostWrite (y.cqBase + 16 * y.cqTail) (cqe f.q f.cid f.sqHead 0 y.phase n) false ∈ t.out ∧ .msix y.vector ∈ t.out)) ∧
        ((∃ g ∈ s.host.fetched, g.started = true ∧ g.q = p) → s.Runs (.queueDelete q cid) (fun t =>
          (∃ z, t.queue? p = some z ∧ z.deleting = some n) ∧ t.host.fetched.length + n = s.host.fetched.length
          ∧ t.queue? f.q = some y)))) ∧
    (s.Ready q cid 0x30 f → f.par 8 1 ≤ 35 → ∀ p, p = f.par 8 1 → s.Runs (.portStatus q cid) (fun t => Completed f .success
      (s.regWord .LNK_STATUS p + 2 ^ 32 * s.get .LNK_DOWN_last_cause p + 2 ^ 40 * s.get .LNK_TRAIN_fail_code p
        + 2 ^ 48 * s.get .LNK_PEER_INFO_peer_id p) s t ∧ t.regs = s.regs)) ∧
    (s.Ready q cid 0x31 f → ∀ p, p = f.par 8 1 →
      (35 < p → s.Runs (.portReset q cid) (fun t => Completed f .paramInvalid 8 s t ∧ t.ports = s.ports)) ∧
      (p ≤ 35 → s.portRefused p = true → s.Runs (.portReset q cid) (fun t => Completed f .portRejected p s t ∧ t.ports = s.ports
        ∧ t.get .LNK_STATUS_reset_reject p = 1)) ∧
      (p ≤ 35 → s.portRefused p = false → s.train p = .active → (s.port p).closing = none → s.Runs (.portReset q cid) (fun t =>
        Completed f .success 0 s t ∧ t.train p = .active ∧ (t.port p).closing = some .localReset
        ∧ ∃ c, (t.port p).urgent = (s.port p).urgent ++ [c] ∧ c.typ = 8))) ∧
    (s.Ready q cid 0x32 f → ∀ p, p = f.par 8 1 → p ≤ 35 →
      (f.par 9 1 % 2 = 1 → s.get .LNK_CTRL_enable p = 0 → s.train p = .disabled → s.Runs (.portEnable q cid) (fun t =>
        Completed f .success 0 s t ∧ t.get .LNK_CTRL_enable p = 1 ∧ t.train p = .detect)) ∧
      (f.par 9 1 % 2 = 0 → s.get .LNK_CTRL_enable p ≠ 0 → s.portRefused p = false → s.train p ≠ .active →
        s.Runs (.portEnable q cid) (fun t => Completed f .success 0 s t ∧ t.get .LNK_CTRL_enable p = 0 ∧ t.train p = .disabled)) ∧
      (f.par 9 1 % 2 = 0 → s.get .LNK_CTRL_enable p ≠ 0 → s.portRefused p = false → s.train p = .active →
        (s.port p).closing = none → s.Runs (.portEnable q cid) (fun t => Completed f .success 0 s t
        ∧ t.get .LNK_CTRL_enable p = 0 ∧ (t.port p).closing = some .disabled
        ∧ ∃ c, (t.port p).urgent = (s.port p).urgent ++ [c] ∧ c.typ = 8)) ∧
      (f.par 9 1 % 2 = 0 → s.get .LNK_CTRL_enable p ≠ 0 → s.portRefused p = true → s.Runs (.portEnable q cid) (fun t =>
        Completed f .portRejected p s t ∧ t.ports = s.ports ∧ t.get .LNK_STATUS_reset_reject p = 1)))

/-- R363, R364, R448, R450, R456, R469: host commands over faults, resets and telemetry. FAULT_STATUS and LC_QUERY answer what
the registers and the fuses hold; FAULT_CLEAR waits for the dump, then ends the fatal entry and releases ALERT0#; HALT_CLEAR
clears every tile of the masked dies, or is refused while a plan runs; RESET starts a field reset, refuses it while a plan runs,
or asks for a package reset 1 ms later; TEL_READ and DUMP_READ send their records to the host. -/
def Obligations.FaultAndResetCommands : Prop :=
  ∀ (q : QueueIx) (cid : Cid) (f : Fetched) (s : State), s.command? q cid.toNat = some f →
    (s.Ready q cid 0x70 f → s.Runs (.lcQuery q cid) (fun t => Completed f .success s.fused.lifeCycle s t ∧ t.regs = s.regs)) ∧
    (s.Ready q cid 0x60 f → s.Runs (.faultStatus q cid) (fun t => Completed f .success (s.get .FLT_FATAL_reason 0
      + 2 ^ 16 * s.get .FLT_STATUS_alert0 0 + 2 ^ 17 * s.get .FLT_DUMP_valid 0 + 2 ^ 32 * s.get .FLT_FATAL_BEAT_LO_beat_lo 0) s t
      ∧ t.regs = s.regs)) ∧
    (s.Ready q cid 0x61 f →
      (s.get .FLT_DUMP_busy 0 = 1 → s.Runs (.faultClear q cid) (fun t => Completed f .dumpBusy 0 s t
        ∧ SameRegs [.HST_ERR_cmd_errors] s t)) ∧
      (s.get .FLT_DUMP_busy 0 ≠ 1 → s.fatalActive = true → s.Runs (.faultClear q cid) (fun t => Completed f .success 0 s t
        ∧ t.fatalActive = false ∧ t.get .FLT_STATUS_alert0 0 = 0 ∧ t.get .FLT_FATAL_reason 0 = s.get .FLT_FATAL_reason 0
        ∧ t.planState = s.planState ∧ SameBytes s t))) ∧
    (s.Ready q cid 0x62 f → ∀ off n, off = f.par 8 8 → n = f.par 24 4 → off % 32 = 0 → 1 ≤ n → off + 32 * n ≤ 2 ^ 28 →
        s.get .FLT_DUMP_busy 0 ≠ 1 → s.get .FLT_DUMP_pending 0 ≠ 1 →
      (s.get .FLT_DUMP_valid 0 = 0 → s.Runs (.dumpRead q cid ⟨[], []⟩) (fun t => Completed f .dumpAbsent 0 s t ∧ SameBytes s t)) ∧
      (s.get .FLT_DUMP_valid 0 ≠ 0 → s.tiersServe = true → s.poison = [] → s.Runs (.dumpRead q cid ⟨[], []⟩) (fun t =>
        Completed f .success 0 s t ∧ SameBytes s t
        ∧ ∀ k, k < n → .hostWrite (f.par 16 8 + 32 * k) (s.tierUnit 1 (dumpAreaBase + off / 32 + k)) false ∈ t.out))) ∧
    (s.Ready q cid 0x63 f →
      (s.planRuns = true → f.par 8 1 ≠ 0 → s.Runs (.haltClear q cid) (fun t => Completed f .state s.stateResult s t
        ∧ t.tiles = s.tiles)) ∧
      (s.planRuns = false → s.Runs (.haltClear q cid) (fun t =>
        Completed f .success ((List.range 9216).filter (fun k => bit (f.par 8 1) (tileDie k) && s.get .TIL_HALT_REASON_valid k == 1)).length
          s t ∧ (∀ k : TileIx, bit (f.par 8 1) (tileDie k) = true → (t.tile k).halted = false ∧ t.get .TIL_HALT_REASON_valid k = 0)
        ∧ ∀ k : TileIx, bit (f.par 8 1) (tileDie k) = false → t.tile k = s.tile k))) ∧
    (s.Ready q cid 0x64 f → f.par 8 1 = 0 → s.resetting = false →
      (s.quietPlan = true → s.power = .active → s.get .FLT_DUMP_busy 0 ≠ 1 → s.Runs (.resetField q cid) (fun t =>
        t.power = .fieldReset ∧ t.tiles = [] ∧ t.planState = .idle ∧ t.pwr.asked = true)) ∧
      (s.quietPlan = false → s.forwardingImage = false → s.Runs (.resetField q cid) (fun t => Completed f .state s.stateResult s t
        ∧ t.power = s.power ∧ t.tiles = s.tiles ∧ t.pwr = s.pwr))) ∧
    (s.Ready q cid 0x64 f → f.par 8 1 = 1 → s.pkgReset = none → s.Runs (.resetPackage q cid) (fun t => Completed f .success 0 s t
      ∧ t.pkgReset = some ⟨2, s.time.tick + 25000⟩ ∧ t.regs = s.regs ∧ SameBytes s t ∧ SameTiles s t)) ∧
    (s.Ready q cid 0x50 f →
      (5 ≤ f.par 8 1 → s.Runs (.telRead q cid) (fun t => Completed f .paramInvalid 8 s t)) ∧
      (∀ b, s.telRecord (f.par 8 1) = some b → f.par 24 4 < b.length → s.Runs (.telRead q cid) (fun t =>
        Completed f .paramInvalid 24 s t)) ∧
      (∀ b, s.telRecord (f.par 8 1) = some b → b.length ≤ f.par 24 4 → s.Runs (.telRead q cid) (fun t =>
        Completed f .success b.length s t ∧ .hostWrite (f.par 16 8) b false ∈ t.out ∧ t.regs = s.regs ∧ SameBytes s t)))

/-- R256, R366, R367, R369, R371, R373 to R375, R378: data between host and memory. A DMA_WRITE puts each unit of its data at
its device address, and a DMA_READ sends each unit to its host address, before DMA_COMPLETE completes it; the BAR2 window reads
and writes tier 1; a push goes behind the units its window holds, or is dropped and counted; a window that closes gets its
header. Other bytes keep their values. A PCIe link that goes down closes the queues. -/
def Obligations.HostDataMoves : Prop :=
  (∀ (q : QueueIx) (cid : Cid) (f : Fetched) (s : State) space dev tile u n, space = f.par 28 1 → dev = f.dev → tile = devTile dev →
      u = bits dev 14 0 → n = ((dmaParts f).map Prod.snd).sum →
    (∀ e : DmaIn, s.Ready q cid 0x20 f →
      (∀ c r, s.dmaRefusal f = some (c, r) → s.Runs (.dmaWrite q cid e) (fun t => Completed f c r s t ∧ SameBytes s t)) ∧
      (s.dmaRefusal f = none → space < 2 → e.fail = none → (space = 0 → s.firstDenied dev n = none) → s.Runs (.dmaWrite q cid e) (fun t =>
        (∃ g ∈ t.host.fetched, g.packet = f.packet ∧ g.started = true ∧ g.done = some (0, 0)) ∧ t.out = [] ∧ t.spad = s.spad
        ∧ (∀ k, k < n → t.tierUnit (space + 1) (dev + k) = slice (padTo (32 * n) e.data) (32 * k) 32)
        ∧ (∀ a, a < 32 * dev ∨ 32 * (dev + n) ≤ a → t.tier1.read a = s.tier1.read a ∧ t.tier2.read a = s.tier2.read a)
        ∧ (space = 0 → t.tier2 = s.tier2) ∧ (space = 1 → t.tier1 = s.tier1))) ∧
      (s.dmaRefusal f = none → space = 2 → e.fail = none → s.windowHit (bits dev 28 26) u n = none → e.meets = [] →
        s.Runs (.dmaWrite q cid e) (fun t =>
          (∃ g ∈ t.host.fetched, g.packet = f.packet ∧ g.started = true ∧ g.done = some (0, 0)) ∧ t.out = [] ∧ t.tier1 = s.tier1
          ∧ t.tier2 = s.tier2 ∧ (∀ k, k < n → t.spadUnit tile (u + k) = slice (padTo (32 * n) e.data) (32 * k) 32)
          ∧ (∀ a, a < 2 ^ 20 * tile + 32 * u ∨ 2 ^ 20 * tile + 32 * (u + n) ≤ a → t.spad.read a = s.spad.read a)))) ∧
    (s.Ready q cid 0x21 f →
      (∀ e c r, s.dmaRefusal f = some (c, r) → s.Runs (.dmaRead q cid e) (fun t => Completed f c r s t ∧ SameBytes s t)) ∧
      (s.dmaRefusal f = none → space < 2 → s.poison = [] → s.Runs (.dmaRead q cid ⟨[], []⟩) (fun t => SameBytes s t
        ∧ (∃ g ∈ t.host.fetched, g.packet = f.packet ∧ g.started = true ∧ g.done = some (0, 0))
        ∧ t.out = (List.range n).map (fun k =>
            .hostWrite (hostOf k (dmaParts f)) (s.tierUnit (space + 1) (dev + k)) (s.feature 5 && Config.relaxedOrdering)))) ∧
      (s.dmaRefusal f = none → space = 2 → s.windowHit (bits dev 28 26) u n = none → s.unitsGood tile (List.range' u n) →
        s.Runs (.dmaRead q cid ⟨[], []⟩) (fun t => SameBytes s t
          ∧ (∃ g ∈ t.host.fetched, g.packet = f.packet ∧ g.started = true ∧ g.done = some (0, 0))
          ∧ t.out = (List.range n).map (fun k =>
              .hostWrite (hostOf k (dmaParts f)) (s.spadUnit tile (u + k)) (s.feature 5 && Config.relaxedOrdering)))))) ∧
  (∀ (q : QueueIx) (cid : Cid) (f : Fetched) c r x (s : State), s.hubUp = true → s.runningDma q cid.toNat = some (f, c, r) →
      s.queue? f.q = some x → x.deleting = none → f.mute = false → s.Runs (.dmaComplete q cid) (fun t =>
    t.host.fetched = removeFirst (fun g => g.same f) s.host.fetched ∧ .msix x.vector ∈ t.out
    ∧ .hostWrite (x.cqBase + 16 * x.cqTail) (cqe f.q f.cid f.sqHead c x.phase r) false ∈ t.out ∧ SameBytes s t)) ∧
  (∀ (off : BitVec 36) (last : Fin 4096) (data : Vector Byte 4096) n a (s : State), n = min (last.val + 1) (4096 - off.toNat % 4096) →
      s.hostUp = true → a = 2 ^ 30 * s.get .HST_BAR2_BASE_base_gib 0 + off.toNat → s.poison = [] →
    (s.feature 9 = true → s.tiersServe = true → a + n ≤ 32 * planAreaBase →
      s.Runs (.bar2Access off last true data ⟨[], []⟩) (fun t => t.tier1.readBytes a n = data.toList.take n ∧ t.regs = s.regs ∧ t.spad = s.spad
        ∧ t.tier2 = s.tier2 ∧ (∀ x, x < a ∨ a + n ≤ x → t.tier1.read x = s.tier1.read x) ∧ t.out = []) ∧
      s.Runs (.bar2Access off last false data ⟨[], []⟩) (fun t => t.out = [.readData (ofLE (s.tier1.readBytes a n))] ∧ SameBytes s t)) ∧
    (s.feature 9 = false → s.Runs (.bar2Access off last true data ⟨[], []⟩) (fun t => t = s.begin) ∧
      s.Runs (.bar2Access off last false data ⟨[], []⟩) (fun t => t.out = [.unsupported] ∧ SameBytes s t))) ∧
  (∀ (q : QueueIx) (cid : Cid) (f : Fetched) data (e : StreamEntry) (x : Ingest) i n (s : State), s.Ready q cid 0x23 f →
      i = f.par 20 1 → i ≤ 15 → n = f.par 16 4 → s.stream? i = some e → s.ingest? i = some x →
    (s.ingestOpen = false → s.Runs (.ingestPush q cid data none) (fun t => Completed f .ingestDropped 3 s t ∧ SameBytes s t
      ∧ t.get .HST_INGEST_DROP_drop_state i
          = min (s.get .HST_INGEST_DROP_drop_state i + 1) (2 ^ RegField.width .HST_INGEST_DROP_drop_state - 1))) ∧
    (∀ u, s.ingestOpen = true → 1 ≤ n → x.used + n ≤ e.slotUnits - 1 → u = e.slot x.window + 1 + x.used → u + n ≤ planAreaBase →
      s.Runs (.ingestPush q cid data none) (fun t => Completed f .success x.window s t
        ∧ t.ingest? i = some { x with used := x.used + n }
        ∧ (∀ k, k < n → t.tierUnit 1 (u + k) = slice (padTo (32 * n) data) (32 * k) 32)
        ∧ (∀ a, a < 32 * u ∨ 32 * (u + n) ≤ a → t.tier1.read a = s.tier1.read a) ∧ t.tier2 = s.tier2 ∧ t.spad = s.spad))) ∧
  (∀ (i : Fin 16) (e : StreamEntry) (x : Ingest) (s : State), s.stream? i = some e → s.ingest? i = some x → s.planState = .running →
      s.beatBegun (e.close x.window) = true → s.openPushes i = [] → s.Runs (.ingestWindowClose i []) (fun t =>
    t.tierUnit 1 (e.slot x.window) = toLE 8 x.window ++ toLE 4 x.used
      ++ toLE 1 (ofBool (decide (x.used > 0)) + 4 * ofBool x.dropped) ++ zeros 3 ++ toLE 8 s.time.beat ++ zeros 8
    ∧ (∀ a, a < 32 * e.slot x.window ∨ 32 * (e.slot x.window + 1) ≤ a → t.tier1.read a = s.tier1.read a)
    ∧ t.ingest? i = some ⟨i, x.window + 1, 0, false⟩ ∧ t.tier2 = s.tier2 ∧ t.spad = s.spad)) ∧
  (∀ (s : State), s.hostUp = true → s.Runs .pcieLinkDown (fun t => t.host.queues = [] ∧ t.get .HST_STATUS_running 0 = 0
    ∧ t.get .HST_CTRL_enable 0 = 0 ∧ t.get .HST_STATUS_pcie_down_seen 0 = 1 ∧ (∀ i, i < 4 → t.get .HST_FEAT_EN_en i = 0)
    ∧ bit (t.get .FLT_WARN_pending 0) Warn.pcieDown.bit = true ∧ t.planState = s.planState ∧ SameBytes s t ∧ SameTiles s t))

/-! ### Serving -/

/-- R386, R387, R399, R400, R403: SLOT_WRITE, SLOT_CLEAR and HEADS_GATE wait for an ARMED, RUNNING or RESTING plan without a
fatal entry, complete with SERVING_REFUSED and the code of what is wrong with them, and otherwise are staged, behind what was
fetched before them and before what was fetched later, changing no slot yet. SLOT_READ sends a slot's 128 bytes. SRV_OUT_HEAD
takes a value from head to tail, and no other. -/
def Obligations.SlotCommandsAct : Prop :=
  (∀ (q : QueueIx) (cid : Cid) (f : Fetched) (n : Nat) (s : State), s.command? q cid.toNat = some f → n = f.par 8 2 →
    (∀ r, s.Ready q cid 0x40 f → r = padTo 64 (slice f.packet 64 64) →
      (s.slotsOpen = false → s.Runs (.slotWrite q cid) (fun t => Completed f .state s.stateResult s t ∧ t.serving = s.serving)) ∧
      (s.slotsOpen = true → 2 ^ 20 < recLen r → s.Runs (.slotWrite q cid) (fun t => Completed f .paramInvalid 80 s t
        ∧ t.serving = s.serving)) ∧
      (∀ c, s.slotsOpen = true → recLen r ≤ 2 ^ 20 → s.writeRefusal n r = some c → s.Runs (.slotWrite q cid) (fun t =>
        Completed f .servingRefused c s t ∧ t.serving = s.serving)) ∧
      (s.slotsOpen = true → recLen r ≤ 2 ^ 20 → s.writeRefusal n r = none → s.Runs (.slotWrite q cid) (fun t =>
        t.serving = { s.serving with staged := s.stagedWith f ⟨some (f.q, f.cid), n, 0, r⟩ } ∧ t.out = []
        ∧ t.regs = s.regs ∧ SameBytes s t ∧ ∃ g ∈ t.host.fetched, g.packet = f.packet ∧ g.started = true))) ∧
    (s.Ready q cid 0x41 f →
      (s.slotsOpen = false → s.Runs (.slotClear q cid) (fun t => Completed f .state s.stateResult s t ∧ t.serving = s.serving)) ∧
      (∀ c, s.slotsOpen = true → s.slotRefusal n false = some c → s.Runs (.slotClear q cid) (fun t =>
        Completed f .servingRefused c s t ∧ t.serving = s.serving)) ∧
      (s.slotsOpen = true → s.slotRefusal n false = none → s.Runs (.slotClear q cid) (fun t =>
        t.serving = { s.serving with staged := s.stagedWith f ⟨some (f.q, f.cid), n, 1, []⟩ } ∧ t.out = []
        ∧ t.regs = s.regs ∧ SameBytes s t))) ∧
    (∀ gate : Bool, s.Ready q cid 0x43 f → gate = (f.par 10 1 % 2 == 1) →
      (s.slotsOpen = false → s.Runs (.headsGate q cid) (fun t => Completed f .state s.stateResult s t ∧ t.serving = s.serving)) ∧
      (∀ c, s.slotsOpen = true → s.slotRefusal n (!gate) = some c → s.Runs (.headsGate q cid) (fun t =>
        Completed f .servingRefused c s t ∧ t.serving = s.serving)) ∧
      (s.slotsOpen = true → s.slotRefusal n (!gate) = none → s.Runs (.headsGate q cid) (fun t =>
        t.serving = { s.serving with staged := s.stagedWith f ⟨some (f.q, f.cid), n, if gate then 2 else 3, []⟩ }
        ∧ t.out = [] ∧ t.regs = s.regs ∧ SameBytes s t))) ∧
    (s.Ready q cid 0x42 f →
      (∀ c, s.slotRefusal n false = some c → s.Runs (.slotRead q cid) (fun t => Completed f .servingRefused c s t
        ∧ t.serving = s.serving)) ∧
      (s.slotRefusal n false = none → s.Runs (.slotRead q cid) (fun t => Completed f .success 0 s t
        ∧ .hostWrite (f.par 16 8) (s.slotBytes n) false ∈ t.out ∧ t.regs = s.regs ∧ t.serving = s.serving)))) ∧
  (∀ (v : Word) (s : State) h, s.hubUp = true → h = s.get .SRV_OUT_HEAD_head 0 →
    ((v.toNat + 2 ^ 32 - h) % 2 ^ 32 ≤ (s.get .SRV_OUT_TAIL_tail 0 + 2 ^ 32 - h) % 2 ^ 32 →
      exec (.srvOutHeadWrite v) s = .next (s.begin.set .SRV_OUT_HEAD_head 0 v.toNat)) ∧
    ((s.get .SRV_OUT_TAIL_tail 0 + 2 ^ 32 - h) % 2 ^ 32 < (v.toNat + 2 ^ 32 - h) % 2 ^ 32 →
      exec (.srvOutHeadWrite v) s = .next s.begin))

/-- R391, R392, R394, R395: the walk that started first ends: the map of a slot that is still PENDING with the same gen is
written to its place, and the slot keeps what the walk found; a walk of a slot since rewritten only counts. At a verify beat
whose results are present the group's step advances: a prefill slot with more prompt to feed moves on, a decode slot counts its
step and its drafts, the next step's header is written, and slots of other groups stay. Results not present K beats later, or an
in beat without its header, are fatal. -/
def Obligations.ServingStepsRun : Prop :=
  (∀ y w rest x (s : State), s.layout? = some y → s.serving.walks = w :: rest → s.tilesUp = true → x = s.slot w.slot →
    (x.gen ≠ w.gen ∨ x.state ≠ 1 → s.Runs .walkComplete (fun t => t.serving = { s.serving with walks := rest } ∧ SameBytes s t
      ∧ t.get .SRV_WALK_DONE_completed 0 = (s.get .SRV_WALK_DONE_completed 0 + 1) % 2 ^ 32
      ∧ SameRegs [.SRV_WALK_DONE_completed] s t)) ∧
    (∀ e u b, x.gen = w.gen → x.state = 1 → e = s.walk y x.record → u = 32 * (y.mapArea + y.mapUnits * w.slot) → b = mapBytes e w.gen →
      s.Runs .walkComplete (fun t => t.serving.walks = rest ∧ t.tier1.readBytes u b.length = b
        ∧ (∀ a, a < u ∨ u + b.length ≤ a → t.tier1.read a = s.tier1.read a) ∧ t.tier2 = s.tier2 ∧ t.spad = s.spad
        ∧ t.slot w.slot = { x with walked := true, walkError := e.err, prefixLen := e.m, reads := e.reads }
        ∧ (∀ k, k ≠ w.slot → t.slot k = s.slot k)
        ∧ t.get .SRV_WALK_DONE_completed 0 = (s.get .SRV_WALK_DONE_completed 0 + 1) % 2 ^ 32))) ∧
  (∀ (k : Fin 64) (n : BitVec 16) y g j v (s : State), s.group? k = some (y, g) → j = s.groupStep k → v = y.verifyBeat g j →
      s.planState = .running → s.beatExecutes = true →
    (s.beatBegun v = true → s.plan.beat ≤ v + s.get .PLN_CFG_toll_reach 0 → s.resultsPresent y g j = true →
      s.Runs (.verifyBeat k n) (fun t => t.groupStep k = j + 1 ∧ t.t1Le g.area 0 8 = (j + 1) % 2 ^ 64
        ∧ t.get .SRV_BUILD_last_beats 0 = min n.toNat (min 65535 (y.groups.map GroupEntry.buildBeats).sum) ∧ (∀ i, i ≠ k.val → t.groupStep i = s.groupStep i)
        ∧ (∀ i, i < g.firstSlot ∨ g.firstSlot + g.slots ≤ i → t.slot i = s.slot i) ∧ t.spad = s.spad ∧ t.tier2 = s.tier2
        ∧ t.plan = s.plan ∧ t.raised = s.raised
        ∧ ∀ i x r, g.firstSlot ≤ i → i < g.firstSlot + g.slots → x = s.slot i → r = s.input i → r.live = true → x.gen = r.gen →
          (x.state = 2 → x.fed + r.n ≠ recLen x.record → (t.slot i).fed = x.fed + r.n ∧ (t.slot i).pos = r.pos + r.n) ∧
          (x.state = 3 → (t.slot i).steps = x.steps + 1 ∧ (t.slot i).drafted = x.drafted + (r.n - 1)))) ∧
    (s.beatBegun (v + s.get .PLN_CFG_toll_reach 0) = true → s.resultsPresent y g j = false → s.Runs (.servingResultLost k) (fun t =>
      t.raised = s.raised ++ [⟨.servingResultLost, k⟩] ∧ t.regs = s.regs ∧ t.serving = s.serving ∧ SameBytes s t)) ∧
    (s.beatBegun (y.inBeat g (j + 1)) = true → s.Runs (.servingBuildLate k) (fun t =>
      t.raised = s.raised ++ [⟨.servingBuildLate, k⟩] ∧ t.regs = s.regs ∧ t.serving = s.serving ∧ SameBytes s t)))

/-! ### Mailboxes and services -/

/-- R417, R419 to R421: a read of a free lock takes it; its owner releases it, at once or when the request ends, and a secure
agent may force it; other writes are refused. The owner's doorbell submits a request of 1 to 1,984 bytes, and its buffer writes
reach the page. The server ends the request: the response is in the page, busy falls, done rises, seq counts, and the host is
told where it asked to be. -/
def Obligations.MailboxesAct : Prop :=
  (∀ (a : Agent) (m : MbxIx) (v : Word) (k : Fin 1008) (s : State) o, o = s.get .MGT_MBX_STATUS_owner m → s.reaches a m = true →
    (o = 0 → s.Runs (.mailboxLockRead a m) (fun t => t.get .MGT_MBX_STATUS_owner m = agentNumber a ∧ t.out = [.readData 0]
      ∧ t.mgmt = s.mgmt ∧ ∀ i, i ≠ m.val → t.get .MGT_MBX_STATUS_owner i = s.get .MGT_MBX_STATUS_owner i)) ∧
    (o ≠ 0 → exec (.mailboxLockRead a m) s = .next (s.begin.emit (.readData (if o = agentNumber a then 0 else o)))) ∧
    (bits v.toNat 7 0 = 0 → o = agentNumber a →
      (s.get .MGT_MBX_STATUS_busy m ≠ 1 → s.Runs (.mailboxLockWrite a m v) (fun t => t.get .MGT_MBX_STATUS_owner m = 0
        ∧ t.get .MGT_MBX_STATUS_done m = 0 ∧ SameRegs [.MGT_MBX_STATUS_owner, .MGT_MBX_STATUS_done] s t ∧ t.mgmt = s.mgmt)) ∧
      (s.get .MGT_MBX_STATUS_busy m = 1 → s.Runs (.mailboxLockWrite a m v) (fun t => m.val ∈ t.mgmt.releases ∧ t.regs = s.regs
        ∧ t.mgmt.boxes = s.mgmt.boxes))) ∧
    (bits v.toNat 7 0 = 0xFF → isSecure a = true → s.get .MGT_MBX_STATUS_busy m ≠ 1 → s.Runs (.mailboxLockWrite a m v) (fun t =>
      t.get .MGT_MBX_STATUS_owner m = 0 ∧ t.mgmt = s.mgmt)) ∧
    (bits v.toNat 7 0 = 0 → o ≠ 0 → o ≠ agentNumber a → s.Runs (.mailboxLockWrite a m v) (fun t =>
      t.get .MGT_MBX_STATUS_owner m = o ∧ t.get .MGT_MBX_STATUS_lock_denied m = 1 ∧ t.mgmt = s.mgmt)) ∧
    (o ≠ agentNumber a →
      s.Runs (.mailboxDoorbell a m v) (fun t => t.get .MGT_MBX_STATUS_lock_denied m = 1 ∧ t.mgmt = s.mgmt
        ∧ t.get .MGT_MBX_STATUS_busy m = s.get .MGT_MBX_STATUS_busy m) ∧
      s.Runs (.mailboxBufferWrite a m k v) (fun t => t.get .MGT_MBX_STATUS_lock_denied m = 1 ∧ t.mgmt = s.mgmt)) ∧
    (o = agentNumber a →
      (s.get .MGT_MBX_STATUS_busy m = 1 ∨ bits v.toNat 10 0 = 0 ∨ 1984 < bits v.toNat 10 0 → s.Runs (.mailboxDoorbell a m v) (fun t =>
        t.get .MGT_MBX_STATUS_db_ignored m = 1 ∧ t.mgmt = s.mgmt ∧ t.get .MGT_MBX_STATUS_busy m = s.get .MGT_MBX_STATUS_busy m)) ∧
      (s.get .MGT_MBX_STATUS_busy m ≠ 1 → 1 ≤ bits v.toNat 10 0 → bits v.toNat 10 0 ≤ 1984 → s.Runs (.mailboxDoorbell a m v) (fun t =>
        t.get .MGT_MBX_STATUS_busy m = 1 ∧ t.get .MGT_MBX_STATUS_done m = 0 ∧ t.requestLength m = bits v.toNat 10 0
        ∧ t.mgmt.answers.find? m = none
        ∧ SameRegs [.MGT_MBX_STATUS_busy, .MGT_MBX_STATUS_done] s t ∧ t.mgmt.boxes = s.mgmt.boxes)) ∧
      s.Runs (.mailboxBufferWrite a m k v) (fun t => t.mgmt.boxes.readBytes (4096 * m + 64 + 4 * k) 4 = toLE 4 v.toNat
        ∧ (∀ b, b < 4096 * m.val + 64 + 4 * k.val ∨ 4096 * m.val + 68 + 4 * k.val ≤ b → t.mgmt.boxes.read b = s.mgmt.boxes.read b)
        ∧ t.regs = s.regs ∧ t.out = []))) ∧
  (∀ (m : MbxIx) x b (s : State), s.hubUp = true → s.get .MGT_MBX_STATUS_busy m = 1 → s.response m = some x → b = s.responseBytes m x →
    s.Runs (.mailboxResponse m) (fun t => t.mgmt.boxes.readBytes (4096 * m + 2048) b.length = b ∧ .mailbox m b ∈ t.out
      ∧ t.get .MGT_MBX_STATUS_busy m = 0 ∧ t.get .MGT_MBX_STATUS_seq m = (s.get .MGT_MBX_STATUS_seq m + 1) % 2 ^ 8
      ∧ (m.val ∉ s.mgmt.releases → t.get .MGT_MBX_STATUS_done m = 1
          ∧ t.get .MGT_MBX_STATUS_owner m = s.get .MGT_MBX_STATUS_owner m)
      ∧ (m.val ∈ s.mgmt.releases → t.get .MGT_MBX_STATUS_owner m = 0)
      ∧ (s.get .MGT_MBX_STATUS_owner m = 1 → s.get .MGT_MBX_CFG_irq_en m = 1 → .msix (s.get .MGT_MBX_CFG_vector m) ∈ t.out)))

/-- R410, R411, R414, R422, R428: services that a mailbox's request asks for. FW_UPDATE writes the image that is not running,
and a commit of one that passes makes it preferred, a request carrying 1,976 bytes behind its header at most; CFG_BLOCK answers
the block and its copies, in the open form of log entry 39, and writes copies A, B and C in turn; FENCE sets or lifts fences;
HEALTH answers the report; SECURE_STORE writes and reads the secure scratch, and is refused with STATE where secrets are. The
refusals that R422 gives no status are free (log entry 38). -/
def Obligations.ServicesAnswer : Prop :=
  ∀ (m : MbxIx) (sent data : List Byte) (s : State), data = sent.take 1976 →
    (∀ (off : Word) a, s.serves m 1 1 = true → a = 2 ^ 25 * s.spareImage + off.toNat →
      (2 ^ 25 < off.toNat + data.length → s.Runs (.fwUpdateWrite m off sent) (fun t => t.mgmt.answers.find? m = some ⟨3, []⟩
        ∧ t.mgmt.images = s.mgmt.images ∧ t.regs = s.regs)) ∧
      (off.toNat + data.length ≤ 2 ^ 25 → s.Runs (.fwUpdateWrite m off sent) (fun t => t.mgmt.answers.find? m = some ⟨0, []⟩
        ∧ t.mgmt.images.readBytes a data.length = data ∧ t.mgmt.dirs = s.mgmt.dirs ∧ t.regs = s.regs
        ∧ ∀ x, x < a ∨ a + data.length ≤ x → t.mgmt.images.read x = s.mgmt.images.read x))) ∧
    (∀ x : ImageCheck, s.serves m 1 2 = true →
      (prefers s.mgmt.dirs s.spareImage = true → s.Runs (.fwUpdateCommit m x) (fun t => t.mgmt.answers.find? m = some ⟨0, []⟩
        ∧ t.mgmt.dirs = s.mgmt.dirs ∧ t.regs = s.regs)) ∧
      (prefers s.mgmt.dirs s.spareImage = false → imagePasses s.fused.minSecurity x = true → s.Runs (.fwUpdateCommit m x) (fun t =>
        t.mgmt.answers.find? m = some ⟨0, []⟩ ∧ t.mgmt.dirs = renewDirectory s.spareImage s.mgmt.dirs
        ∧ t.get .MGT_BOOT_update_pending 0 = 1 ∧ t.get .MGT_BOOT_preferred 0 = s.spareImage ∧ t.mgmt.images = s.mgmt.images
        ∧ SameRegs [.MGT_BOOT_update_pending, .MGT_BOOT_preferred] s t)) ∧
      (prefers s.mgmt.dirs s.spareImage = false → imagePasses s.fused.minSecurity x = false → s.Runs (.fwUpdateCommit m x) (fun t =>
        (∃ n, n ≠ 0 ∧ t.mgmt.answers.find? m = some ⟨n, []⟩) ∧ t.mgmt.dirs = s.mgmt.dirs ∧ t.regs = s.regs))) ∧
    (∀ id : BitVec 16, s.serves m 2 1 = true → s.Runs (.cfgBlockRead m id) (fun t =>
      t.mgmt.answers.find? m = some ⟨0, Config.cfgAnswer
          (match decideBlock s.mgmt.copies id.toNat with | .used b _ => b.bytes | _ => [])
          (s.mgmt.copies.map (fun c => match copyBlock c id.toNat with | some b => b.bytes | none => []))⟩ ∧ t.mgmt.copies = s.mgmt.copies ∧ t.regs = s.regs)) ∧
    (∀ (id v : BitVec 16) (done : Fin 4), s.serves m 2 2 = true → s.mgmt.copies.length = 3 →
      (id.toNat = 0xFFFF → s.Runs (.cfgBlockWrite m id v sent done) (fun t => t.mgmt.answers.find? m = some ⟨3, []⟩
        ∧ t.mgmt.copies = s.mgmt.copies)) ∧
      (id.toNat ≠ 0xFFFF → s.Runs (.cfgBlockWrite m id v sent done) (fun t =>
        (∀ c, c < done.val → copyBlock (t.mgmt.copies.getD c []) id.toNat = some (newBlock id.toNat v.toNat data)
          ∧ (newBlock id.toNat v.toNat data).passes = true)
        ∧ (∀ c, done.val ≤ c → t.mgmt.copies.getD c [] = s.mgmt.copies.getD c [])
        ∧ (done = 3 → t.mgmt.answers.find? m = some ⟨0, []⟩) ∧ (done ≠ 3 → t.mgmt.answers = s.mgmt.answers) ∧ t.regs = s.regs))) ∧
    (∀ (mask : BitVec 36) (on : Bool), s.serves m 3 1 = true → s.fencesHeld = false → s.get .RTE_FENCE_LO_fence_lo 0 < 2 ^ 32 →
      s.Runs (.fenceService m mask on) (fun t => t.mgmt.answers.find? m = some ⟨0, []⟩
        ∧ ∀ p : PortIx, t.fenced p = if bit mask.toNat p then on else s.fenced p)) ∧
    (s.serves m 4 1 = true → s.Runs (.health m) (fun t => t.mgmt.answers.find? m = some ⟨0, s.healthReport⟩ ∧ t.regs = s.regs
      ∧ SameBytes s t ∧ SameTiles s t)) ∧
    (∀ off : Word, s.serves m 6 1 = true →
      (s.secretsRefused = true → s.Runs (.secureStoreWrite m off sent) (fun t => t.mgmt.answers.find? m = some ⟨4, []⟩
        ∧ SameBytes s t)) ∧
      (s.secretsRefused = false → 2 ^ 18 < off.toNat + data.length → s.Runs (.secureStoreWrite m off sent) (fun t =>
        t.mgmt.answers.find? m = some ⟨3, []⟩ ∧ SameBytes s t)) ∧
      (s.secretsRefused = false → off.toNat + data.length ≤ 2 ^ 18 → s.Runs (.secureStoreWrite m off sent) (fun t =>
        t.mgmt.answers.find? m = some ⟨0, []⟩ ∧ t.mgmt.secure.readBytes off.toNat data.length = data
        ∧ ∀ x, x < off.toNat ∨ off.toNat + data.length ≤ x → t.mgmt.secure.read x = s.mgmt.secure.read x))) ∧
    (∀ off n : Word, s.serves m 6 2 = true →
      (s.secretsRefused = true → s.Runs (.secureStoreRead m off n) (fun t => t.mgmt.answers.find? m = some ⟨4, []⟩ ∧ SameBytes s t)) ∧
      (s.secretsRefused = false → off.toNat + n.toNat ≤ 2 ^ 18 → n.toNat ≤ 2036 → s.Runs (.secureStoreRead m off n) (fun t =>
        t.mgmt.answers.find? m = some ⟨0, s.mgmt.secure.readBytes off.toNat n.toNat⟩ ∧ SameBytes s t)))

/-- R424, R426, R427: a life-cycle record, in a mailbox or in LC_REQUEST, is refused for the first reason that holds, which is
recorded and counted; one that is accepted starts its transition and its wipe. When no wipe is in progress the fuses take the
target, the transition ends, its request completes, and a package reset follows 1 ms later. -/
def Obligations.LifeCycleRequests : Prop :=
  (∀ (m : MbxIx) r (s : State), s.serves m 5 1 = true → s.lcWaits m = false → r = s.request m 8 64 →
    (s.requestLength m < 72 → s.Runs (.lifeCycle m) (fun t => t.mgmt.answers.find? m = some ⟨3, []⟩ ∧ t.regs = s.regs
      ∧ t.mgmt.transition = s.mgmt.transition)) ∧
    (∀ n, 72 ≤ s.requestLength m → s.lcReason r = some n → s.Runs (.lifeCycle m) (fun t =>
      (∃ x, x ≠ 0 ∧ t.mgmt.answers.find? m = some ⟨x, []⟩) ∧ t.get .SEC_LC_last_denied 0 = n ∧ t.fused = s.fused
      ∧ t.mgmt.transition = s.mgmt.transition ∧ SameBytes s t)) ∧
    (72 ≤ s.requestLength m → s.lcReason r = none → s.Runs (.lifeCycle m) (fun t => t.mgmt.transition = some ⟨leAt r 9 1, none, m⟩
      ∧ t.get .SEC_LC_busy 0 = 1 ∧ t.get .SEC_STATUS_wipe_busy 0 = 1 ∧ t.fused = s.fused ∧ SameBytes s t))) ∧
  (∀ (q : QueueIx) (cid : Cid) (f : Fetched) r (s : State), s.Ready q cid 0x71 f → r = slice f.packet 64 64 →
    (f.par 8 1 ≠ leAt r 9 1 → s.Runs (.lcRequest q cid) (fun t => Completed f .paramInvalid 8 s t
      ∧ t.mgmt = s.mgmt ∧ t.fused = s.fused)) ∧
    (∀ n, f.par 8 1 = leAt r 9 1 → s.lcReason r = some n → s.Runs (.lcRequest q cid) (fun t => Completed f .lcDenied n s t
      ∧ t.get .SEC_LC_last_denied 0 = n ∧ t.mgmt = s.mgmt ∧ t.fused = s.fused)) ∧
    (f.par 8 1 = leAt r 9 1 → s.lcReason r = none → s.Runs (.lcRequest q cid) (fun t =>
      t.mgmt.transition = some ⟨leAt r 9 1, some (f.q, f.cid), 0⟩ ∧ t.get .SEC_LC_busy 0 = 1 ∧ t.get .SEC_STATUS_wipe_busy 0 = 1
      ∧ t.fused = s.fused ∧ t.out = [] ∧ SameBytes s t))) ∧
  (∀ x (s : State), s.mgmt.transition = some x → s.powered = true → s.get .SEC_STATUS_wipe_busy 0 = 0 → s.Runs .lcFuseProgram (fun t =>
    t.fused.lifeCycle = x.target ∧ s.fused.SamePart t.fused ∧ t.mgmt.transition = none ∧ t.get .SEC_LC_busy 0 = 0 ∧ SameBytes s t
    ∧ (s.pkgReset = none → t.pkgReset = some ⟨3, s.time.tick + 25000⟩)
    ∧ (x.cmd = none → t.mgmt.answers.find? x.mailbox = some ⟨0, []⟩)
    ∧ (∀ q c f, x.cmd = some (q, c) → s.host.fetched.find? (fun f => f.q == q && f.cid == c && f.started && f.op == 0x71) = some f →
        Completed f .success 0 s t)))

/-! ### The fatal path and telemetry -/

/-- R446, R447: a fatal reason is latched with ALERT0# asserted; a loaded plan is FAULTED and an IDLE one stays IDLE; running
tiles gate; the router sends no VC0 flit; staged slot commands go; no byte changes. Of two reasons in one hub cycle the lower
code is recorded and the other is a later reason, as is any that comes while an entry is active. R446, R449, R452, R457: after a
fatal entry the first report takes the next seq and goes to every fault manager; repeats carry the same seq, once their time has
come; the summary goes to the front of the log; the dump is in its area with its magic, FLT_DUMP.valid is 1, and no byte below
the area changes. -/
def Obligations.FatalPathRuns : Prop :=
  (∀ (r : Raised) (s : State), s.powered = true →
    (s.raised = [r] → s.fatalActive = false → s.Runs (.fatalEntry [0]) (fun t => t.raised = [] ∧ t.fatalActive = true
      ∧ t.get .FLT_FATAL_reason 0 = r.reason.code ∧ t.get .FLT_FATAL_DETAIL_detail 0 = r.detail % 2 ^ 32
      ∧ t.get .FLT_FATAL_later_count 0 = 0 ∧ t.get .FLT_STATUS_alert0 0 = 1 ∧ t.get .FLT_FATAL_BEAT_LO_beat_lo 0 = s.time.beat % 2 ^ 32
      ∧ t.planState = (if s.planState = .idle then .idle else .faulted) ∧ t.router.stopS = some 0 ∧ t.serving.staged = []
      ∧ t.fault.reportDue = true ∧ t.fault.summaryDue = true ∧ SameBytes s t
      ∧ ∀ k, (s.tile k).running = true → (t.tile k).finished = true)) ∧
    (∀ x : Raised, s.raised = [r, x] → s.fatalActive = false → s.Runs (.fatalEntry [0, 1]) (fun t => t.raised = []
      ∧ t.get .FLT_FATAL_reason 0 = min r.reason.code x.reason.code ∧ t.get .FLT_FATAL_later_count 0 = 1)) ∧
    (s.raised = [r] → s.fatalActive = true → s.Runs (.fatalEntry [0]) (fun t => t.raised = []
      ∧ t.get .FLT_FATAL_later_count 0 = min (s.get .FLT_FATAL_later_count 0 + 1) (2 ^ 8 - 1)
      ∧ SameRegs [.FLT_FATAL_later_count] s t ∧ t.out = [] ∧ SameBytes s t ∧ SameTiles s t))) ∧
  (∀ (s : State), s.hubUp = true →
    (s.fault.reportDue = true → s.get .FLT_CTRL_report_en 0 = 1 → s.Runs .fatalReport (fun t => t.reportSeq = (s.reportSeq + 1) % 2 ^ 32
      ∧ t.fault.reportDue = false ∧ t.fault.sendings = 1 ∧ t.fault.sentAt = s.time.tick ∧ SameBytes s t ∧ SameTiles s t
      ∧ ∃ b, t.fault.report = some b ∧ ∀ a ∈ Config.faultManagers s.netBlock,
          .datagram a (Config.reportPort s.netBlock) b ∈ t.out)) ∧
    (s.fault.reportDue = true → s.get .FLT_CTRL_report_en 0 ≠ 1 → s.Runs .fatalReport (fun t => t.out = [] ∧ t.regs = s.regs
      ∧ t.fault = { s.fault with reportDue := false } ∧ SameBytes s t)) ∧
    (∀ b, s.fault.report = some b → s.fatalActive = true → s.fault.sentAt + repeatGap s.fault.sendings ≤ s.time.tick →
        s.get .FLT_CTRL_report_en 0 = 1 →
      s.Runs .reportRepeat (fun t => t.fault = { s.fault with sendings := s.fault.sendings + 1, sentAt := s.time.tick }
        ∧ t.reportSeq = s.reportSeq ∧ SameRegs [.FLT_REPORT_sent] s t ∧ SameBytes s t
        ∧ t.out = (Config.faultManagers s.netBlock).map (fun a => .datagram a (Config.reportPort s.netBlock) (s.freshFlags b)))) ∧
    (s.fault.summaryDue = true → s.fault.reportDue = false ∨ s.get .FLT_DUMP_pending 0 = 1 → s.Runs .flashSummary (fun t =>
      t.mgmt.summaries = (s.summary :: s.mgmt.summaries).take 4096 ∧ t.fault.summaryDue = false ∧ t.regs = s.regs ∧ t.out = []
      ∧ SameBytes s t ∧ SameTiles s t)) ∧
    (s.fault.dumpDue = true → s.fault.summaryDue = false → s.fault.tooHot = false → s.fieldUp = true → s.pwr.waiting = false →
      s.Runs .dumpWrite (fun t => t.get .FLT_DUMP_valid 0 = 1 ∧ t.get .FLT_DUMP_busy 0 = 0 ∧ t.get .FLT_DUMP_summary_only 0 = 0
        ∧ t.fault.dumpDue = false ∧ t.fault.headerWritten = true
        ∧ t.tier1.readBytes (32 * dumpAreaBase) 8 = toLE 8 0x504D55444B42
        ∧ (∀ a, a < 32 * dumpAreaBase → t.tier1.read a = s.tier1.read a) ∧ t.tier2 = s.tier2 ∧ t.spad = s.spad ∧ t.tiles = s.tiles)))

/-- R462, R463, R465, R466: at the downbeat that ends a period the module record is held in the hub and put at its place in the
ring, and its number is consumed even where the ring cannot be written. A reading keeps the slowdown of every region of running
dies, leaves those of dies that are off, and joins the health history of at most 168 readings. -/
def Obligations.TelemetryRecords : Prop :=
  (∀ n u (s : State), s.firmwareRuns = true → s.get .TEL_CTRL_collect_en 0 = 1 → isDownbeat s.time.beat = true →
      s.time.beat / 16 % max 1 (s.get .TEL_CTRL_period_measures 0) = 0 → s.tel.ended ≠ some s.time.tick → n = s.get .TEL_MOD_COUNT_written 0 →
      u = 32 * (moduleRing + 4 * (n % 65536)) →
    s.Runs .moduleRecord (fun t => t.tel.latest = s.moduleBytes ∧ t.get .TEL_MOD_COUNT_written 0 = (n + 1) % 2 ^ 32 ∧ t.tel.snap = t.accum
      ∧ t.spad = s.spad ∧ t.tier2 = s.tier2 ∧ t.tiles = s.tiles
      ∧ (s.ringUp = true → t.tier1.readBytes u s.moduleBytes.length = s.moduleBytes ∧ SameRegs [.TEL_MOD_COUNT_written] s t
          ∧ ∀ a, a < u ∨ u + s.moduleBytes.length ≤ a → t.tier1.read a = s.tier1.read a)
      ∧ (s.ringUp = false → t.tier1 = s.tier1 ∧ t.get .TEL_STATUS_ring_lost 0 = 1
          ∧ t.get .TEL_MOD_LOST_lost 0 = min (s.get .TEL_MOD_LOST_lost 0 + 1) (2 ^ RegField.width .TEL_MOD_LOST_lost - 1)))) ∧
  (∀ (s : State), s.firmwareRuns = true → s.get .TEL_CTRL_collect_en 0 ≠ 1 → isDownbeat s.time.beat = true →
      s.time.beat / 16 % max 1 (s.get .TEL_CTRL_period_measures 0) = 0 → s.tel.ended ≠ some s.time.tick →
    s.Runs .moduleRecord (fun t => t.tel.snap = s.accum ∧ t.tel.latest = s.tel.latest ∧ t.regs = s.regs ∧ t.out = [] ∧ SameBytes s t)) ∧
  (∀ (xs : Vector (BitVec 16 × BitVec 16) 576) (s : State), s.firmwareRuns = true → s.readingDue = true →
    s.Runs (.ageingReading xs) (fun t =>
      t.tel.readings.length = min 168 (s.tel.readings.length + 1) ∧ t.tel.readings.tail = s.tel.readings.take 167
      ∧ t.spad = s.spad ∧ t.tier2 = s.tier2 ∧ t.tiles = s.tiles
      ∧ (s.fieldUp = true → ∀ r : RegionIx, t.get .TEL_AGE_valid r = 1
          ∧ t.get .TEL_AGE_d r = slowdown xs[r].1.toNat xs[r].2.toNat (Table.get (2 ^ 32) s.fused.ratio r))
      ∧ (s.fieldUp = false → ∀ r, t.get .TEL_AGE_valid r = s.get .TEL_AGE_valid r ∧ t.get .TEL_AGE_d r = s.get .TEL_AGE_d r)))
end

