-- ==== Sys2Proof/Laws/Store.lean ====
section
/-! SUPPORT. Laws of sparse tables and memories: what a read after a write gives, and that every operation keeps the canonical
form. -/

namespace Sys2Proof.Machine

/-! ### Reading a table -/

@[simp] theorem Table.find?_nil {α : Type} (i : Nat) : Table.find? ([] : Table α) i = none := rfl

theorem Table.find?_cons {α : Type} (k : Nat) (v : α) (t : Table α) (i : Nat) :
    Table.find? ((k, v) :: t) i = if k = i then some v else Table.find? t i := rfl

theorem Table.find?_put_same {α : Type} (t : Table α) (i : Nat) (x : α) : (t.put i x).find? i = some x := by
  induction t with
  | nil => simp [Table.put, Table.find?_cons]
  | cons e t ih =>
    obtain ⟨k, v⟩ := e
    simp only [Table.put]
    split
    · next h => rw [Table.find?_cons, if_neg (by omega), ih]
    · split <;> simp [Table.find?_cons]

theorem Table.find?_put_ne {α : Type} (t : Table α) {i j : Nat} (x : α) (h : j ≠ i) : (t.put i x).find? j = t.find? j := by
  induction t with
  | nil => simp [Table.put, Table.find?_cons, Ne.symm h]
  | cons e t ih =>
    obtain ⟨k, v⟩ := e
    simp only [Table.put]
    split
    · simp [Table.find?_cons, ih]
    · split
      · next hk => subst hk; simp [Table.find?_cons, Ne.symm h]
      · simp [Table.find?_cons, Ne.symm h]

theorem Table.find?_erase_same {α : Type} (t : Table α) (i : Nat) : (t.erase i).find? i = none := by
  induction t with
  | nil => rfl
  | cons e t ih =>
    obtain ⟨k, v⟩ := e
    simp only [Table.erase]
    split
    · exact ih
    · next h => rw [Table.find?_cons, if_neg h, ih]

theorem Table.find?_erase_ne {α : Type} (t : Table α) {i j : Nat} (h : j ≠ i) : (t.erase i).find? j = t.find? j := by
  induction t with
  | nil => rfl
  | cons e t ih =>
    obtain ⟨k, v⟩ := e
    simp only [Table.erase]
    split
    · next hk => rw [ih, Table.find?_cons, if_neg (by omega)]
    · simp [Table.find?_cons, ih]

@[simp] theorem Table.get_set_same {α : Type} [DecidableEq α] (d : α) (t : Table α) (i : Nat) (x : α) :
    Table.get d (Table.set d t i x) i = x := by
  unfold Table.set Table.get
  split
  · next h => simp [Table.find?_erase_same, h]
  · simp [Table.find?_put_same]

theorem Table.get_set_ne {α : Type} [DecidableEq α] (d d' : α) (t : Table α) {i j : Nat} (x : α) (h : j ≠ i) :
    Table.get d (Table.set d' t i x) j = Table.get d t j := by
  unfold Table.set Table.get
  split
  · simp [Table.find?_erase_ne t h]
  · simp [Table.find?_put_ne t x h]

/-! ### The canonical form of a table -/

/-- Every key of a table is above a bound. -/
def Table.Above {α : Type} (b : Nat) (t : Table α) : Prop := ∀ e ∈ t, b < e.1

theorem Table.canon_cons {α : Type} [DecidableEq α] (d : Nat → α) (k : Nat) (v : α) (t : Table α) :
    Table.Canon d ((k, v) :: t) = true ↔ v ≠ d k ∧ Table.Above k t ∧ Table.Canon d t = true := by
  induction t generalizing k v with
  | nil => simp [Table.Canon, Table.Above]
  | cons e t ih =>
    obtain ⟨k', v'⟩ := e
    rw [Table.Canon]
    simp only [Bool.and_eq_true, decide_eq_true_eq, ih]
    constructor
    · rintro ⟨⟨hv, hk⟩, hv', ha, hc⟩
      refine ⟨hv, ?_, hv', ha, hc⟩
      intro e he
      rcases List.mem_cons.1 he with rfl | he
      · exact hk
      · exact lt_trans hk (ha e he)
    · rintro ⟨hv, ha, hv', ha', hc⟩
      exact ⟨⟨hv, ha (k', v') (by simp)⟩, hv', ha', hc⟩

theorem Table.above_erase {α : Type} {b : Nat} {t : Table α} (i : Nat) (h : Table.Above b t) : Table.Above b (t.erase i) := by
  induction t with
  | nil => exact h
  | cons e t ih =>
    obtain ⟨k, v⟩ := e
    have h' : Table.Above b t := fun e he => h e (List.mem_cons_of_mem _ he)
    simp only [Table.erase]
    split
    · exact ih h'
    · intro e he
      rcases List.mem_cons.1 he with rfl | he
      · exact h _ (by simp)
      · exact ih h' e he

theorem Table.above_put {α : Type} {b i : Nat} {t : Table α} (x : α) (hi : b < i) (h : Table.Above b t) :
    Table.Above b (t.put i x) := by
  induction t with
  | nil => intro e he; simp [Table.put] at he; subst he; exact hi
  | cons e t ih =>
    obtain ⟨k, v⟩ := e
    have h' : Table.Above b t := fun e he => h e (List.mem_cons_of_mem _ he)
    simp only [Table.put]
    split
    · intro e he
      rcases List.mem_cons.1 he with rfl | he
      · exact h _ (by simp)
      · exact ih h' e he
    · split
      · intro e he
        rcases List.mem_cons.1 he with rfl | he
        · exact hi
        · exact h' e he
      · intro e he
        rcases List.mem_cons.1 he with rfl | he
        · exact hi
        · exact h e he

theorem Table.canon_erase {α : Type} [DecidableEq α] {d : Nat → α} {t : Table α} (i : Nat) (h : Table.Canon d t = true) :
    Table.Canon d (t.erase i) = true := by
  induction t with
  | nil => rfl
  | cons e t ih =>
    obtain ⟨k, v⟩ := e
    obtain ⟨hv, ha, hc⟩ := (Table.canon_cons d k v t).1 h
    simp only [Table.erase]
    split
    · exact ih hc
    · exact (Table.canon_cons d k v _).2 ⟨hv, Table.above_erase i ha, ih hc⟩

theorem Table.canon_put {α : Type} [DecidableEq α] {d : Nat → α} {t : Table α} {i : Nat} {x : α} (hx : x ≠ d i)
    (h : Table.Canon d t = true) : Table.Canon d (t.put i x) = true := by
  induction t with
  | nil => exact (Table.canon_cons d i x []).2 ⟨hx, by simp [Table.Above], rfl⟩
  | cons e t ih =>
    obtain ⟨k, v⟩ := e
    obtain ⟨hv, ha, hc⟩ := (Table.canon_cons d k v t).1 h
    simp only [Table.put]
    split
    · next hk => exact (Table.canon_cons d k v _).2 ⟨hv, Table.above_put x hk ha, ih hc⟩
    · split
      · next hk => subst hk; exact (Table.canon_cons d k x t).2 ⟨hx, ha, hc⟩
      · next h1 h2 =>
        refine (Table.canon_cons d i x _).2 ⟨hx, ?_, h⟩
        intro e he
        rcases List.mem_cons.1 he with rfl | he
        · exact Nat.lt_of_le_of_ne (Nat.le_of_not_lt h1) (Ne.symm h2)
        · have := ha e he; omega

theorem Table.canon_set {α : Type} [DecidableEq α] {d : Nat → α} {t : Table α} (i : Nat) (x : α) (h : Table.Canon d t = true) :
    Table.Canon d (Table.set (d i) t i x) = true := by
  unfold Table.set
  split
  · exact Table.canon_erase i h
  · next hx => exact Table.canon_put hx h

theorem Table.above_keep {α : Type} {b : Nat} {t : Table α} (p : Nat → Bool) (h : Table.Above b t) : Table.Above b (Table.keep p t) :=
  fun e he => h e (List.mem_of_mem_filter he)

/-- Entries kept by a test keep the form under any other unlisted values that agree with the old ones on kept keys. -/
theorem Table.canon_keep {α : Type} [DecidableEq α] {d d' : Nat → α} {t : Table α} (p : Nat → Bool)
    (hd : ∀ k, p k = true → d' k = d k) (h : Table.Canon d t = true) : Table.Canon d' (Table.keep p t) = true := by
  induction t with
  | nil => rfl
  | cons e t ih =>
    obtain ⟨k, v⟩ := e
    obtain ⟨hv, ha, hc⟩ := (Table.canon_cons d k v t).1 h
    by_cases hp : p k = true
    · have : Table.keep p ((k, v) :: t) = (k, v) :: Table.keep p t := by simp [Table.keep, hp]
      rw [this]
      exact (Table.canon_cons d' k v _).2 ⟨by rw [hd k hp]; exact hv, Table.above_keep p ha, ih hc⟩
    · have : Table.keep p ((k, v) :: t) = Table.keep p t := by simp [Table.keep, hp]
      rw [this]; exact ih hc

/-! ### Memories -/

@[simp] theorem Memory.blank_write (m : Memory) (a b : Nat) (x : Byte) : (m.write a x).blank b = m.blank b := rfl

/-- A read of the byte written gives it. -/
@[simp] theorem Memory.read_write_same (m : Memory) (a : Nat) (x : Byte) : (m.write a x).read a = x := by
  simp [Memory.read, Memory.write, Memory.blank]

/-- A write leaves every other byte alone. -/
theorem Memory.read_write_ne (m : Memory) {a b : Nat} (x : Byte) (h : b ≠ a) : (m.write a x).read b = m.read b := by
  unfold Memory.read Memory.write
  exact Table.get_set_ne _ _ _ _ h

/-- A run of bytes written leaves every byte outside it alone. -/
theorem Memory.read_writeBytes_out (bs : List Byte) (m : Memory) {a b : Nat} (h : b < a ∨ a + bs.length ≤ b) :
    (m.writeBytes a bs).read b = m.read b := by
  induction bs generalizing m a with
  | nil => rfl
  | cons x bs ih =>
    rw [Memory.writeBytes, ih _ (by simp at h; omega), Memory.read_write_ne _ _ (by simp at h; omega)]

/-- A read inside a run of bytes written gives the byte written there. -/
theorem Memory.read_writeBytes_in (bs : List Byte) (m : Memory) (a i : Nat) (h : i < bs.length) :
    (m.writeBytes a bs).read (a + i) = bs[i] := by
  induction bs generalizing m a i with
  | nil => simp at h
  | cons x bs ih =>
    cases i with
    | zero => rw [Memory.writeBytes, Memory.read_writeBytes_out _ _ (by omega)]; simp
    | succ i =>
      rw [Memory.writeBytes, show a + (i + 1) = (a + 1) + i by omega, ih _ _ _ (by simpa using h)]; simp

@[simp] theorem Memory.readBytes_length (m : Memory) (a n : Nat) : (m.readBytes a n).length = n := by
  induction n generalizing a with
  | zero => rfl
  | succ n ih => simp [Memory.readBytes, ih]

/-- Reading back what a run of bytes wrote. -/
theorem Memory.readBytes_writeBytes (bs : List Byte) (m : Memory) (a : Nat) :
    (m.writeBytes a bs).readBytes a bs.length = bs := by
  induction bs generalizing m a with
  | nil => rfl
  | cons x bs ih =>
    simp only [List.length_cons, Memory.readBytes, Memory.writeBytes]
    rw [Memory.read_writeBytes_out _ _ (by omega), ih]; simp

theorem Memory.wf_empty : Memory.empty.wf = true := rfl

/-- Writing a byte keeps the canonical form. -/
theorem Memory.wf_write {m : Memory} (h : m.wf = true) (a : Nat) (x : Byte) : (m.write a x).wf = true :=
  Table.canon_set a x h

/-- Writing a run of bytes keeps it. -/
theorem Memory.wf_writeBytes {m : Memory} (h : m.wf = true) (a : Nat) (bs : List Byte) : (m.writeBytes a bs).wf = true := by
  induction bs generalizing m a with
  | nil => exact h
  | cons x bs ih => exact ih (Memory.wf_write h a x) (a + 1)

theorem Fill.covers_iff (f : Fill) (a : Nat) : f.covers a = true ↔ f.lo ≤ a ∧ a < f.hi := by simp [Fill.covers]

/-- Fills swallowed by another say nothing of a byte outside it. -/
theorem blankOf_filter (f : Fill) (fs : List Fill) {a : Nat} (h : f.covers a = false) :
    blankOf (fs.filter (fun g => !(decide (f.lo ≤ g.lo) && decide (g.hi ≤ f.hi)))) a = blankOf fs a := by
  unfold blankOf
  induction fs with
  | nil => rfl
  | cons g gs ih =>
    by_cases hg : (decide (f.lo ≤ g.lo) && decide (g.hi ≤ f.hi)) = true
    · have hga : g.covers a = false := by
        rw [Bool.eq_false_iff] at h ⊢
        intro hc
        simp only [Bool.and_eq_true, decide_eq_true_eq] at hg
        rw [ne_eq, Fill.covers_iff] at h
        rw [Fill.covers_iff] at hc
        omega
      simp only [List.filter, hg, Bool.not_true, List.find?, hga]
      exact ih
    · rw [Bool.not_eq_true] at hg
      simp only [List.filter, hg, Bool.not_false, List.find?]
      cases g.covers a with
      | true => rfl
      | false => exact ih

/-- A fill keeps the canonical form. -/
theorem Memory.wf_fill {m : Memory} (h : m.wf = true) (f : Fill) : (m.fill f).wf = true := by
  show Table.Canon (m.fill f).blank (Table.keep (fun a => !f.covers a) m.cells) = true
  refine Table.canon_keep (d := m.blank) _ ?_ h
  intro a ha
  have hc : f.covers a = false := by simpa using ha
  simp only [Memory.blank, Memory.fill]
  have : blankOf (f :: m.fills.filter (fun g => !(decide (f.lo ≤ g.lo) && decide (g.hi ≤ f.hi)))) a
      = blankOf (m.fills.filter (fun g => !(decide (f.lo ≤ g.lo) && decide (g.hi ≤ f.hi)))) a := by
    simp [blankOf, List.find?, hc]
  rw [this, blankOf_filter f _ hc]

/-- Zeroing a range keeps the canonical form. -/
theorem Memory.wf_zero {m : Memory} (h : m.wf = true) (lo hi : Nat) : (m.zero lo hi).wf = true := by
  unfold Memory.zero
  split
  · show Table.Canon m.blank (Table.keep (fun a => !(Fill.mk lo hi 0).covers a) m.cells) = true
    exact Table.canon_keep (d := m.blank) _ (fun _ _ => rfl) h
  · exact Memory.wf_fill h _

/-- A byte inside a range made 0 reads 0, where no cell outside the form stands. -/
theorem Memory.read_fill_in (m : Memory) (f : Fill) {a : Nat} (h : f.covers a = true) :
    (m.fill f).read a = if f.event = 0 then 0 else Config.undefByte f.event a := by
  have hk : Table.find? (Table.keep (fun a => !f.covers a) m.cells) a = none := by
    unfold Table.keep
    induction m.cells with
    | nil => rfl
    | cons e t ih =>
      obtain ⟨k, v⟩ := e
      by_cases hc : f.covers k = true
      · simp [List.filter, hc, ih]
      · rw [Bool.not_eq_true] at hc
        have hne : k ≠ a := by intro hka; subst hka; rw [h] at hc; exact absurd hc (by simp)
        simp [List.filter, hc, Table.find?_cons, hne, ih]
  simp [Memory.read, Memory.fill, Memory.blank, Table.get, hk, blankOf, h]

theorem Memory.read_fill_out (m : Memory) (f : Fill) {a : Nat} (h : f.covers a = false) : (m.fill f).read a = m.read a := by
  have hk : Table.find? (Table.keep (fun a => !f.covers a) m.cells) a = Table.find? m.cells a := by
    unfold Table.keep
    induction m.cells with
    | nil => rfl
    | cons e t ih =>
      obtain ⟨k, v⟩ := e
      by_cases hc : f.covers k = true
      · have hne : k ≠ a := by intro hka; subst hka; rw [h] at hc; exact absurd hc (by simp)
        simp [List.filter, hc, Table.find?_cons, hne, ih]
      · rw [Bool.not_eq_true] at hc
        simp [List.filter, hc, Table.find?_cons, ih]
  have hb : (m.fill f).blank a = m.blank a := by
    simp only [Memory.blank, Memory.fill]
    have : blankOf (f :: m.fills.filter (fun g => !(decide (f.lo ≤ g.lo) && decide (g.hi ≤ f.hi)))) a
        = blankOf (m.fills.filter (fun g => !(decide (f.lo ≤ g.lo) && decide (g.hi ≤ f.hi)))) a := by
      simp [blankOf, List.find?, h]
    rw [this, blankOf_filter f _ h]
  simp only [Memory.read, Table.get, hb]
  show ((Table.keep (fun a => !f.covers a) m.cells).find? a).getD _ = _
  rw [hk]

end Sys2Proof.Machine
end

