-- ==== Sys2Proof/Laws/State.lean ====
section
/-! SUPPORT. Laws of the state's updates: what each leaves alone, and what reading a register field after writing one gives. -/

namespace Sys2Proof.Machine

/-! ### Fields of the state after an update -/

@[simp] theorem State.set_pending (s : State) (f : RegField) (i v : Nat) : (s.set f i v).pending = s.pending := rfl
@[simp] theorem State.set_out (s : State) (f : RegField) (i v : Nat) : (s.set f i v).out = s.out := rfl
@[simp] theorem State.set_powered (s : State) (f : RegField) (i v : Nat) : (s.set f i v).powered = s.powered := rfl
@[simp] theorem State.set_tripped (s : State) (f : RegField) (i v : Nat) : (s.set f i v).tripped = s.tripped := rfl
@[simp] theorem State.set_tripTick (s : State) (f : RegField) (i v : Nat) : (s.set f i v).tripTick = s.tripTick := rfl
@[simp] theorem State.set_perst (s : State) (f : RegField) (i v : Nat) : (s.set f i v).perst = s.perst := rfl
@[simp] theorem State.set_pcie (s : State) (f : RegField) (i v : Nat) : (s.set f i v).pcie = s.pcie := rfl
@[simp] theorem State.set_pkgReset (s : State) (f : RegField) (i v : Nat) : (s.set f i v).pkgReset = s.pkgReset := rfl
@[simp] theorem State.set_readyTick (s : State) (f : RegField) (i v : Nat) : (s.set f i v).readyTick = s.readyTick := rfl
@[simp] theorem State.set_deviceId (s : State) (f : RegField) (i v : Nat) : (s.set f i v).deviceId = s.deviceId := rfl
@[simp] theorem State.set_fused (s : State) (f : RegField) (i v : Nat) : (s.set f i v).fused = s.fused := rfl
@[simp] theorem State.set_latches (s : State) (f : RegField) (i v : Nat) : (s.set f i v).latches = s.latches := rfl
@[simp] theorem State.set_accum (s : State) (f : RegField) (i v : Nat) : (s.set f i v).accum = s.accum := rfl
@[simp] theorem State.set_free (s : State) (f : RegField) (i v : Nat) : (s.set f i v).free = s.free := rfl
@[simp] theorem State.set_raised (s : State) (f : RegField) (i v : Nat) : (s.set f i v).raised = s.raised := rfl
@[simp] theorem State.set_time (s : State) (f : RegField) (i v : Nat) : (s.set f i v).time = s.time := rfl
@[simp] theorem State.set_plan (s : State) (f : RegField) (i v : Nat) : (s.set f i v).plan = s.plan := rfl
@[simp] theorem State.set_ports (s : State) (f : RegField) (i v : Nat) : (s.set f i v).ports = s.ports := rfl
@[simp] theorem State.set_router (s : State) (f : RegField) (i v : Nat) : (s.set f i v).router = s.router := rfl
@[simp] theorem State.set_host (s : State) (f : RegField) (i v : Nat) : (s.set f i v).host = s.host := rfl
@[simp] theorem State.set_serving (s : State) (f : RegField) (i v : Nat) : (s.set f i v).serving = s.serving := rfl
@[simp] theorem State.set_cfg (s : State) (f : RegField) (i v : Nat) : (s.set f i v).cfg = s.cfg := rfl
@[simp] theorem State.set_reportSeq (s : State) (f : RegField) (i v : Nat) : (s.set f i v).reportSeq = s.reportSeq := rfl
@[simp] theorem State.set_mgmt (s : State) (f : RegField) (i v : Nat) : (s.set f i v).mgmt = s.mgmt := rfl
@[simp] theorem State.set_fault (s : State) (f : RegField) (i v : Nat) : (s.set f i v).fault = s.fault := rfl
@[simp] theorem State.set_pwr (s : State) (f : RegField) (i v : Nat) : (s.set f i v).pwr = s.pwr := rfl
@[simp] theorem State.set_tel (s : State) (f : RegField) (i v : Nat) : (s.set f i v).tel = s.tel := rfl
@[simp] theorem State.set_tiles (s : State) (f : RegField) (i v : Nat) : (s.set f i v).tiles = s.tiles := rfl
@[simp] theorem State.set_spad (s : State) (f : RegField) (i v : Nat) : (s.set f i v).spad = s.spad := rfl
@[simp] theorem State.set_spadErr (s : State) (f : RegField) (i v : Nat) : (s.set f i v).spadErr = s.spadErr := rfl
@[simp] theorem State.set_dn (s : State) (f : RegField) (i v : Nat) : (s.set f i v).dn = s.dn := rfl
@[simp] theorem State.set_dnSeq (s : State) (f : RegField) (i v : Nat) : (s.set f i v).dnSeq = s.dnSeq := rfl
@[simp] theorem State.set_dnWait (s : State) (f : RegField) (i v : Nat) : (s.set f i v).dnWait = s.dnWait := rfl
@[simp] theorem State.set_testPos (s : State) (f : RegField) (i v : Nat) : (s.set f i v).testPos = s.testPos := rfl
@[simp] theorem State.set_tier1 (s : State) (f : RegField) (i v : Nat) : (s.set f i v).tier1 = s.tier1 := rfl
@[simp] theorem State.set_tier2 (s : State) (f : RegField) (i v : Nat) : (s.set f i v).tier2 = s.tier2 := rfl
@[simp] theorem State.set_poison (s : State) (f : RegField) (i v : Nat) : (s.set f i v).poison = s.poison := rfl
@[simp] theorem State.set_t1Lo (s : State) (f : RegField) (i v : Nat) : (s.set f i v).t1Lo = s.t1Lo := rfl
@[simp] theorem State.set_t2Lo (s : State) (f : RegField) (i v : Nat) : (s.set f i v).t2Lo = s.t2Lo := rfl
@[simp] theorem State.set_moved (s : State) (f : RegField) (i v : Nat) : (s.set f i v).moved = s.moved := rfl
@[simp] theorem State.set_lateNow (s : State) (f : RegField) (i v : Nat) : (s.set f i v).lateNow = s.lateNow := rfl

@[simp] theorem State.bump_pending (s : State) (f : RegField) (i n : Nat) : (s.bump f i n).pending = s.pending := rfl
@[simp] theorem State.bump_out (s : State) (f : RegField) (i n : Nat) : (s.bump f i n).out = s.out := rfl
@[simp] theorem State.bump_powered (s : State) (f : RegField) (i n : Nat) : (s.bump f i n).powered = s.powered := rfl
@[simp] theorem State.bump_tripped (s : State) (f : RegField) (i n : Nat) : (s.bump f i n).tripped = s.tripped := rfl
@[simp] theorem State.bump_tripTick (s : State) (f : RegField) (i n : Nat) : (s.bump f i n).tripTick = s.tripTick := rfl
@[simp] theorem State.bump_perst (s : State) (f : RegField) (i n : Nat) : (s.bump f i n).perst = s.perst := rfl
@[simp] theorem State.bump_pcie (s : State) (f : RegField) (i n : Nat) : (s.bump f i n).pcie = s.pcie := rfl
@[simp] theorem State.bump_pkgReset (s : State) (f : RegField) (i n : Nat) : (s.bump f i n).pkgReset = s.pkgReset := rfl
@[simp] theorem State.bump_readyTick (s : State) (f : RegField) (i n : Nat) : (s.bump f i n).readyTick = s.readyTick := rfl
@[simp] theorem State.bump_deviceId (s : State) (f : RegField) (i n : Nat) : (s.bump f i n).deviceId = s.deviceId := rfl
@[simp] theorem State.bump_fused (s : State) (f : RegField) (i n : Nat) : (s.bump f i n).fused = s.fused := rfl
@[simp] theorem State.bump_latches (s : State) (f : RegField) (i n : Nat) : (s.bump f i n).latches = s.latches := rfl
@[simp] theorem State.bump_free (s : State) (f : RegField) (i n : Nat) : (s.bump f i n).free = s.free := rfl
@[simp] theorem State.bump_raised (s : State) (f : RegField) (i n : Nat) : (s.bump f i n).raised = s.raised := rfl
@[simp] theorem State.bump_time (s : State) (f : RegField) (i n : Nat) : (s.bump f i n).time = s.time := rfl
@[simp] theorem State.bump_plan (s : State) (f : RegField) (i n : Nat) : (s.bump f i n).plan = s.plan := rfl
@[simp] theorem State.bump_ports (s : State) (f : RegField) (i n : Nat) : (s.bump f i n).ports = s.ports := rfl
@[simp] theorem State.bump_router (s : State) (f : RegField) (i n : Nat) : (s.bump f i n).router = s.router := rfl
@[simp] theorem State.bump_host (s : State) (f : RegField) (i n : Nat) : (s.bump f i n).host = s.host := rfl
@[simp] theorem State.bump_serving (s : State) (f : RegField) (i n : Nat) : (s.bump f i n).serving = s.serving := rfl
@[simp] theorem State.bump_cfg (s : State) (f : RegField) (i n : Nat) : (s.bump f i n).cfg = s.cfg := rfl
@[simp] theorem State.bump_reportSeq (s : State) (f : RegField) (i n : Nat) : (s.bump f i n).reportSeq = s.reportSeq := rfl
@[simp] theorem State.bump_mgmt (s : State) (f : RegField) (i n : Nat) : (s.bump f i n).mgmt = s.mgmt := rfl
@[simp] theorem State.bump_fault (s : State) (f : RegField) (i n : Nat) : (s.bump f i n).fault = s.fault := rfl
@[simp] theorem State.bump_pwr (s : State) (f : RegField) (i n : Nat) : (s.bump f i n).pwr = s.pwr := rfl
@[simp] theorem State.bump_tel (s : State) (f : RegField) (i n : Nat) : (s.bump f i n).tel = s.tel := rfl
@[simp] theorem State.bump_tiles (s : State) (f : RegField) (i n : Nat) : (s.bump f i n).tiles = s.tiles := rfl
@[simp] theorem State.bump_spad (s : State) (f : RegField) (i n : Nat) : (s.bump f i n).spad = s.spad := rfl
@[simp] theorem State.bump_spadErr (s : State) (f : RegField) (i n : Nat) : (s.bump f i n).spadErr = s.spadErr := rfl
@[simp] theorem State.bump_dn (s : State) (f : RegField) (i n : Nat) : (s.bump f i n).dn = s.dn := rfl
@[simp] theorem State.bump_dnSeq (s : State) (f : RegField) (i n : Nat) : (s.bump f i n).dnSeq = s.dnSeq := rfl
@[simp] theorem State.bump_dnWait (s : State) (f : RegField) (i n : Nat) : (s.bump f i n).dnWait = s.dnWait := rfl
@[simp] theorem State.bump_testPos (s : State) (f : RegField) (i n : Nat) : (s.bump f i n).testPos = s.testPos := rfl
@[simp] theorem State.bump_tier1 (s : State) (f : RegField) (i n : Nat) : (s.bump f i n).tier1 = s.tier1 := rfl
@[simp] theorem State.bump_tier2 (s : State) (f : RegField) (i n : Nat) : (s.bump f i n).tier2 = s.tier2 := rfl
@[simp] theorem State.bump_poison (s : State) (f : RegField) (i n : Nat) : (s.bump f i n).poison = s.poison := rfl
@[simp] theorem State.bump_t1Lo (s : State) (f : RegField) (i n : Nat) : (s.bump f i n).t1Lo = s.t1Lo := rfl
@[simp] theorem State.bump_t2Lo (s : State) (f : RegField) (i n : Nat) : (s.bump f i n).t2Lo = s.t2Lo := rfl
@[simp] theorem State.bump_moved (s : State) (f : RegField) (i n : Nat) : (s.bump f i n).moved = s.moved := rfl
@[simp] theorem State.bump_lateNow (s : State) (f : RegField) (i n : Nat) : (s.bump f i n).lateNow = s.lateNow := rfl

@[simp] theorem State.begin_pending (s : State) : (s.begin).pending = s.pending := rfl
@[simp] theorem State.begin_powered (s : State) : (s.begin).powered = s.powered := rfl
@[simp] theorem State.begin_tripped (s : State) : (s.begin).tripped = s.tripped := rfl
@[simp] theorem State.begin_tripTick (s : State) : (s.begin).tripTick = s.tripTick := rfl
@[simp] theorem State.begin_perst (s : State) : (s.begin).perst = s.perst := rfl
@[simp] theorem State.begin_pcie (s : State) : (s.begin).pcie = s.pcie := rfl
@[simp] theorem State.begin_pkgReset (s : State) : (s.begin).pkgReset = s.pkgReset := rfl
@[simp] theorem State.begin_readyTick (s : State) : (s.begin).readyTick = s.readyTick := rfl
@[simp] theorem State.begin_deviceId (s : State) : (s.begin).deviceId = s.deviceId := rfl
@[simp] theorem State.begin_fused (s : State) : (s.begin).fused = s.fused := rfl
@[simp] theorem State.begin_regs (s : State) : (s.begin).regs = s.regs := rfl
@[simp] theorem State.begin_latches (s : State) : (s.begin).latches = s.latches := rfl
@[simp] theorem State.begin_accum (s : State) : (s.begin).accum = s.accum := rfl
@[simp] theorem State.begin_free (s : State) : (s.begin).free = s.free := rfl
@[simp] theorem State.begin_raised (s : State) : (s.begin).raised = s.raised := rfl
@[simp] theorem State.begin_time (s : State) : (s.begin).time = s.time := rfl
@[simp] theorem State.begin_plan (s : State) : (s.begin).plan = s.plan := rfl
@[simp] theorem State.begin_ports (s : State) : (s.begin).ports = s.ports := rfl
@[simp] theorem State.begin_router (s : State) : (s.begin).router = s.router := rfl
@[simp] theorem State.begin_host (s : State) : (s.begin).host = s.host := rfl
@[simp] theorem State.begin_serving (s : State) : (s.begin).serving = s.serving := rfl
@[simp] theorem State.begin_cfg (s : State) : (s.begin).cfg = s.cfg := rfl
@[simp] theorem State.begin_reportSeq (s : State) : (s.begin).reportSeq = s.reportSeq := rfl
@[simp] theorem State.begin_mgmt (s : State) : (s.begin).mgmt = s.mgmt := rfl
@[simp] theorem State.begin_fault (s : State) : (s.begin).fault = s.fault := rfl
@[simp] theorem State.begin_pwr (s : State) : (s.begin).pwr = s.pwr := rfl
@[simp] theorem State.begin_tel (s : State) : (s.begin).tel = s.tel := rfl
@[simp] theorem State.begin_tiles (s : State) : (s.begin).tiles = s.tiles := rfl
@[simp] theorem State.begin_spad (s : State) : (s.begin).spad = s.spad := rfl
@[simp] theorem State.begin_spadErr (s : State) : (s.begin).spadErr = s.spadErr := rfl
@[simp] theorem State.begin_dn (s : State) : (s.begin).dn = s.dn := rfl
@[simp] theorem State.begin_dnSeq (s : State) : (s.begin).dnSeq = s.dnSeq := rfl
@[simp] theorem State.begin_dnWait (s : State) : (s.begin).dnWait = s.dnWait := rfl
@[simp] theorem State.begin_testPos (s : State) : (s.begin).testPos = s.testPos := rfl
@[simp] theorem State.begin_tier1 (s : State) : (s.begin).tier1 = s.tier1 := rfl
@[simp] theorem State.begin_tier2 (s : State) : (s.begin).tier2 = s.tier2 := rfl
@[simp] theorem State.begin_poison (s : State) : (s.begin).poison = s.poison := rfl
@[simp] theorem State.begin_t1Lo (s : State) : (s.begin).t1Lo = s.t1Lo := rfl
@[simp] theorem State.begin_t2Lo (s : State) : (s.begin).t2Lo = s.t2Lo := rfl
@[simp] theorem State.begin_moved (s : State) : (s.begin).moved = s.moved := rfl
@[simp] theorem State.begin_lateNow (s : State) : (s.begin).lateNow = s.lateNow := rfl

@[simp] theorem State.emit_pending (s : State) (o : Output) : (s.emit o).pending = s.pending := rfl
@[simp] theorem State.emit_powered (s : State) (o : Output) : (s.emit o).powered = s.powered := rfl
@[simp] theorem State.emit_tripped (s : State) (o : Output) : (s.emit o).tripped = s.tripped := rfl
@[simp] theorem State.emit_tripTick (s : State) (o : Output) : (s.emit o).tripTick = s.tripTick := rfl
@[simp] theorem State.emit_perst (s : State) (o : Output) : (s.emit o).perst = s.perst := rfl
@[simp] theorem State.emit_pcie (s : State) (o : Output) : (s.emit o).pcie = s.pcie := rfl
@[simp] theorem State.emit_pkgReset (s : State) (o : Output) : (s.emit o).pkgReset = s.pkgReset := rfl
@[simp] theorem State.emit_readyTick (s : State) (o : Output) : (s.emit o).readyTick = s.readyTick := rfl
@[simp] theorem State.emit_deviceId (s : State) (o : Output) : (s.emit o).deviceId = s.deviceId := rfl
@[simp] theorem State.emit_fused (s : State) (o : Output) : (s.emit o).fused = s.fused := rfl
@[simp] theorem State.emit_regs (s : State) (o : Output) : (s.emit o).regs = s.regs := rfl
@[simp] theorem State.emit_latches (s : State) (o : Output) : (s.emit o).latches = s.latches := rfl
@[simp] theorem State.emit_accum (s : State) (o : Output) : (s.emit o).accum = s.accum := rfl
@[simp] theorem State.emit_free (s : State) (o : Output) : (s.emit o).free = s.free := rfl
@[simp] theorem State.emit_raised (s : State) (o : Output) : (s.emit o).raised = s.raised := rfl
@[simp] theorem State.emit_time (s : State) (o : Output) : (s.emit o).time = s.time := rfl
@[simp] theorem State.emit_plan (s : State) (o : Output) : (s.emit o).plan = s.plan := rfl
@[simp] theorem State.emit_ports (s : State) (o : Output) : (s.emit o).ports = s.ports := rfl
@[simp] theorem State.emit_router (s : State) (o : Output) : (s.emit o).router = s.router := rfl
@[simp] theorem State.emit_host (s : State) (o : Output) : (s.emit o).host = s.host := rfl
@[simp] theorem State.emit_serving (s : State) (o : Output) : (s.emit o).serving = s.serving := rfl
@[simp] theorem State.emit_cfg (s : State) (o : Output) : (s.emit o).cfg = s.cfg := rfl
@[simp] theorem State.emit_reportSeq (s : State) (o : Output) : (s.emit o).reportSeq = s.reportSeq := rfl
@[simp] theorem State.emit_mgmt (s : State) (o : Output) : (s.emit o).mgmt = s.mgmt := rfl
@[simp] theorem State.emit_fault (s : State) (o : Output) : (s.emit o).fault = s.fault := rfl
@[simp] theorem State.emit_pwr (s : State) (o : Output) : (s.emit o).pwr = s.pwr := rfl
@[simp] theorem State.emit_tel (s : State) (o : Output) : (s.emit o).tel = s.tel := rfl
@[simp] theorem State.emit_tiles (s : State) (o : Output) : (s.emit o).tiles = s.tiles := rfl
@[simp] theorem State.emit_spad (s : State) (o : Output) : (s.emit o).spad = s.spad := rfl
@[simp] theorem State.emit_spadErr (s : State) (o : Output) : (s.emit o).spadErr = s.spadErr := rfl
@[simp] theorem State.emit_dn (s : State) (o : Output) : (s.emit o).dn = s.dn := rfl
@[simp] theorem State.emit_dnSeq (s : State) (o : Output) : (s.emit o).dnSeq = s.dnSeq := rfl
@[simp] theorem State.emit_dnWait (s : State) (o : Output) : (s.emit o).dnWait = s.dnWait := rfl
@[simp] theorem State.emit_testPos (s : State) (o : Output) : (s.emit o).testPos = s.testPos := rfl
@[simp] theorem State.emit_tier1 (s : State) (o : Output) : (s.emit o).tier1 = s.tier1 := rfl
@[simp] theorem State.emit_tier2 (s : State) (o : Output) : (s.emit o).tier2 = s.tier2 := rfl
@[simp] theorem State.emit_poison (s : State) (o : Output) : (s.emit o).poison = s.poison := rfl
@[simp] theorem State.emit_t1Lo (s : State) (o : Output) : (s.emit o).t1Lo = s.t1Lo := rfl
@[simp] theorem State.emit_t2Lo (s : State) (o : Output) : (s.emit o).t2Lo = s.t2Lo := rfl
@[simp] theorem State.emit_moved (s : State) (o : Output) : (s.emit o).moved = s.moved := rfl
@[simp] theorem State.emit_lateNow (s : State) (o : Output) : (s.emit o).lateNow = s.lateNow := rfl

@[simp] theorem State.emitAll_pending (s : State) (os : List Output) : (s.emitAll os).pending = s.pending := rfl
@[simp] theorem State.emitAll_powered (s : State) (os : List Output) : (s.emitAll os).powered = s.powered := rfl
@[simp] theorem State.emitAll_tripped (s : State) (os : List Output) : (s.emitAll os).tripped = s.tripped := rfl
@[simp] theorem State.emitAll_tripTick (s : State) (os : List Output) : (s.emitAll os).tripTick = s.tripTick := rfl
@[simp] theorem State.emitAll_perst (s : State) (os : List Output) : (s.emitAll os).perst = s.perst := rfl
@[simp] theorem State.emitAll_pcie (s : State) (os : List Output) : (s.emitAll os).pcie = s.pcie := rfl
@[simp] theorem State.emitAll_pkgReset (s : State) (os : List Output) : (s.emitAll os).pkgReset = s.pkgReset := rfl
@[simp] theorem State.emitAll_readyTick (s : State) (os : List Output) : (s.emitAll os).readyTick = s.readyTick := rfl
@[simp] theorem State.emitAll_deviceId (s : State) (os : List Output) : (s.emitAll os).deviceId = s.deviceId := rfl
@[simp] theorem State.emitAll_fused (s : State) (os : List Output) : (s.emitAll os).fused = s.fused := rfl
@[simp] theorem State.emitAll_regs (s : State) (os : List Output) : (s.emitAll os).regs = s.regs := rfl
@[simp] theorem State.emitAll_latches (s : State) (os : List Output) : (s.emitAll os).latches = s.latches := rfl
@[simp] theorem State.emitAll_accum (s : State) (os : List Output) : (s.emitAll os).accum = s.accum := rfl
@[simp] theorem State.emitAll_free (s : State) (os : List Output) : (s.emitAll os).free = s.free := rfl
@[simp] theorem State.emitAll_raised (s : State) (os : List Output) : (s.emitAll os).raised = s.raised := rfl
@[simp] theorem State.emitAll_time (s : State) (os : List Output) : (s.emitAll os).time = s.time := rfl
@[simp] theorem State.emitAll_plan (s : State) (os : List Output) : (s.emitAll os).plan = s.plan := rfl
@[simp] theorem State.emitAll_ports (s : State) (os : List Output) : (s.emitAll os).ports = s.ports := rfl
@[simp] theorem State.emitAll_router (s : State) (os : List Output) : (s.emitAll os).router = s.router := rfl
@[simp] theorem State.emitAll_host (s : State) (os : List Output) : (s.emitAll os).host = s.host := rfl
@[simp] theorem State.emitAll_serving (s : State) (os : List Output) : (s.emitAll os).serving = s.serving := rfl
@[simp] theorem State.emitAll_cfg (s : State) (os : List Output) : (s.emitAll os).cfg = s.cfg := rfl
@[simp] theorem State.emitAll_reportSeq (s : State) (os : List Output) : (s.emitAll os).reportSeq = s.reportSeq := rfl
@[simp] theorem State.emitAll_mgmt (s : State) (os : List Output) : (s.emitAll os).mgmt = s.mgmt := rfl
@[simp] theorem State.emitAll_fault (s : State) (os : List Output) : (s.emitAll os).fault = s.fault := rfl
@[simp] theorem State.emitAll_pwr (s : State) (os : List Output) : (s.emitAll os).pwr = s.pwr := rfl
@[simp] theorem State.emitAll_tel (s : State) (os : List Output) : (s.emitAll os).tel = s.tel := rfl
@[simp] theorem State.emitAll_tiles (s : State) (os : List Output) : (s.emitAll os).tiles = s.tiles := rfl
@[simp] theorem State.emitAll_spad (s : State) (os : List Output) : (s.emitAll os).spad = s.spad := rfl
@[simp] theorem State.emitAll_spadErr (s : State) (os : List Output) : (s.emitAll os).spadErr = s.spadErr := rfl
@[simp] theorem State.emitAll_dn (s : State) (os : List Output) : (s.emitAll os).dn = s.dn := rfl
@[simp] theorem State.emitAll_dnSeq (s : State) (os : List Output) : (s.emitAll os).dnSeq = s.dnSeq := rfl
@[simp] theorem State.emitAll_dnWait (s : State) (os : List Output) : (s.emitAll os).dnWait = s.dnWait := rfl
@[simp] theorem State.emitAll_testPos (s : State) (os : List Output) : (s.emitAll os).testPos = s.testPos := rfl
@[simp] theorem State.emitAll_tier1 (s : State) (os : List Output) : (s.emitAll os).tier1 = s.tier1 := rfl
@[simp] theorem State.emitAll_tier2 (s : State) (os : List Output) : (s.emitAll os).tier2 = s.tier2 := rfl
@[simp] theorem State.emitAll_poison (s : State) (os : List Output) : (s.emitAll os).poison = s.poison := rfl
@[simp] theorem State.emitAll_t1Lo (s : State) (os : List Output) : (s.emitAll os).t1Lo = s.t1Lo := rfl
@[simp] theorem State.emitAll_t2Lo (s : State) (os : List Output) : (s.emitAll os).t2Lo = s.t2Lo := rfl
@[simp] theorem State.emitAll_moved (s : State) (os : List Output) : (s.emitAll os).moved = s.moved := rfl
@[simp] theorem State.emitAll_lateNow (s : State) (os : List Output) : (s.emitAll os).lateNow = s.lateNow := rfl

@[simp] theorem State.setPort_pending (s : State) (p : Nat) (x : LinkPort) : (s.setPort p x).pending = s.pending := rfl
@[simp] theorem State.setPort_out (s : State) (p : Nat) (x : LinkPort) : (s.setPort p x).out = s.out := rfl
@[simp] theorem State.setPort_powered (s : State) (p : Nat) (x : LinkPort) : (s.setPort p x).powered = s.powered := rfl
@[simp] theorem State.setPort_tripped (s : State) (p : Nat) (x : LinkPort) : (s.setPort p x).tripped = s.tripped := rfl
@[simp] theorem State.setPort_tripTick (s : State) (p : Nat) (x : LinkPort) : (s.setPort p x).tripTick = s.tripTick := rfl
@[simp] theorem State.setPort_perst (s : State) (p : Nat) (x : LinkPort) : (s.setPort p x).perst = s.perst := rfl
@[simp] theorem State.setPort_pcie (s : State) (p : Nat) (x : LinkPort) : (s.setPort p x).pcie = s.pcie := rfl
@[simp] theorem State.setPort_pkgReset (s : State) (p : Nat) (x : LinkPort) : (s.setPort p x).pkgReset = s.pkgReset := rfl
@[simp] theorem State.setPort_readyTick (s : State) (p : Nat) (x : LinkPort) : (s.setPort p x).readyTick = s.readyTick := rfl
@[simp] theorem State.setPort_deviceId (s : State) (p : Nat) (x : LinkPort) : (s.setPort p x).deviceId = s.deviceId := rfl
@[simp] theorem State.setPort_fused (s : State) (p : Nat) (x : LinkPort) : (s.setPort p x).fused = s.fused := rfl
@[simp] theorem State.setPort_regs (s : State) (p : Nat) (x : LinkPort) : (s.setPort p x).regs = s.regs := rfl
@[simp] theorem State.setPort_latches (s : State) (p : Nat) (x : LinkPort) : (s.setPort p x).latches = s.latches := rfl
@[simp] theorem State.setPort_accum (s : State) (p : Nat) (x : LinkPort) : (s.setPort p x).accum = s.accum := rfl
@[simp] theorem State.setPort_free (s : State) (p : Nat) (x : LinkPort) : (s.setPort p x).free = s.free := rfl
@[simp] theorem State.setPort_raised (s : State) (p : Nat) (x : LinkPort) : (s.setPort p x).raised = s.raised := rfl
@[simp] theorem State.setPort_time (s : State) (p : Nat) (x : LinkPort) : (s.setPort p x).time = s.time := rfl
@[simp] theorem State.setPort_plan (s : State) (p : Nat) (x : LinkPort) : (s.setPort p x).plan = s.plan := rfl
@[simp] theorem State.setPort_router (s : State) (p : Nat) (x : LinkPort) : (s.setPort p x).router = s.router := rfl
@[simp] theorem State.setPort_host (s : State) (p : Nat) (x : LinkPort) : (s.setPort p x).host = s.host := rfl
@[simp] theorem State.setPort_serving (s : State) (p : Nat) (x : LinkPort) : (s.setPort p x).serving = s.serving := rfl
@[simp] theorem State.setPort_cfg (s : State) (p : Nat) (x : LinkPort) : (s.setPort p x).cfg = s.cfg := rfl
@[simp] theorem State.setPort_reportSeq (s : State) (p : Nat) (x : LinkPort) : (s.setPort p x).reportSeq = s.reportSeq := rfl
@[simp] theorem State.setPort_mgmt (s : State) (p : Nat) (x : LinkPort) : (s.setPort p x).mgmt = s.mgmt := rfl
@[simp] theorem State.setPort_fault (s : State) (p : Nat) (x : LinkPort) : (s.setPort p x).fault = s.fault := rfl
@[simp] theorem State.setPort_pwr (s : State) (p : Nat) (x : LinkPort) : (s.setPort p x).pwr = s.pwr := rfl
@[simp] theorem State.setPort_tel (s : State) (p : Nat) (x : LinkPort) : (s.setPort p x).tel = s.tel := rfl
@[simp] theorem State.setPort_tiles (s : State) (p : Nat) (x : LinkPort) : (s.setPort p x).tiles = s.tiles := rfl
@[simp] theorem State.setPort_spad (s : State) (p : Nat) (x : LinkPort) : (s.setPort p x).spad = s.spad := rfl
@[simp] theorem State.setPort_spadErr (s : State) (p : Nat) (x : LinkPort) : (s.setPort p x).spadErr = s.spadErr := rfl
@[simp] theorem State.setPort_dn (s : State) (p : Nat) (x : LinkPort) : (s.setPort p x).dn = s.dn := rfl
@[simp] theorem State.setPort_dnSeq (s : State) (p : Nat) (x : LinkPort) : (s.setPort p x).dnSeq = s.dnSeq := rfl
@[simp] theorem State.setPort_dnWait (s : State) (p : Nat) (x : LinkPort) : (s.setPort p x).dnWait = s.dnWait := rfl
@[simp] theorem State.setPort_testPos (s : State) (p : Nat) (x : LinkPort) : (s.setPort p x).testPos = s.testPos := rfl
@[simp] theorem State.setPort_tier1 (s : State) (p : Nat) (x : LinkPort) : (s.setPort p x).tier1 = s.tier1 := rfl
@[simp] theorem State.setPort_tier2 (s : State) (p : Nat) (x : LinkPort) : (s.setPort p x).tier2 = s.tier2 := rfl
@[simp] theorem State.setPort_poison (s : State) (p : Nat) (x : LinkPort) : (s.setPort p x).poison = s.poison := rfl
@[simp] theorem State.setPort_t1Lo (s : State) (p : Nat) (x : LinkPort) : (s.setPort p x).t1Lo = s.t1Lo := rfl
@[simp] theorem State.setPort_t2Lo (s : State) (p : Nat) (x : LinkPort) : (s.setPort p x).t2Lo = s.t2Lo := rfl
@[simp] theorem State.setPort_moved (s : State) (p : Nat) (x : LinkPort) : (s.setPort p x).moved = s.moved := rfl
@[simp] theorem State.setPort_lateNow (s : State) (p : Nat) (x : LinkPort) : (s.setPort p x).lateNow = s.lateNow := rfl

@[simp] theorem State.latch_pending (s : State) (a : Agent) (r : Reg) (i v : Nat) : (s.latch a r i v).pending = s.pending := rfl
@[simp] theorem State.latch_out (s : State) (a : Agent) (r : Reg) (i v : Nat) : (s.latch a r i v).out = s.out := rfl
@[simp] theorem State.latch_powered (s : State) (a : Agent) (r : Reg) (i v : Nat) : (s.latch a r i v).powered = s.powered := rfl
@[simp] theorem State.latch_tripped (s : State) (a : Agent) (r : Reg) (i v : Nat) : (s.latch a r i v).tripped = s.tripped := rfl
@[simp] theorem State.latch_tripTick (s : State) (a : Agent) (r : Reg) (i v : Nat) : (s.latch a r i v).tripTick = s.tripTick := rfl
@[simp] theorem State.latch_perst (s : State) (a : Agent) (r : Reg) (i v : Nat) : (s.latch a r i v).perst = s.perst := rfl
@[simp] theorem State.latch_pcie (s : State) (a : Agent) (r : Reg) (i v : Nat) : (s.latch a r i v).pcie = s.pcie := rfl
@[simp] theorem State.latch_pkgReset (s : State) (a : Agent) (r : Reg) (i v : Nat) : (s.latch a r i v).pkgReset = s.pkgReset := rfl
@[simp] theorem State.latch_readyTick (s : State) (a : Agent) (r : Reg) (i v : Nat) : (s.latch a r i v).readyTick = s.readyTick := rfl
@[simp] theorem State.latch_deviceId (s : State) (a : Agent) (r : Reg) (i v : Nat) : (s.latch a r i v).deviceId = s.deviceId := rfl
@[simp] theorem State.latch_fused (s : State) (a : Agent) (r : Reg) (i v : Nat) : (s.latch a r i v).fused = s.fused := rfl
@[simp] theorem State.latch_regs (s : State) (a : Agent) (r : Reg) (i v : Nat) : (s.latch a r i v).regs = s.regs := rfl
@[simp] theorem State.latch_accum (s : State) (a : Agent) (r : Reg) (i v : Nat) : (s.latch a r i v).accum = s.accum := rfl
@[simp] theorem State.latch_free (s : State) (a : Agent) (r : Reg) (i v : Nat) : (s.latch a r i v).free = s.free := rfl
@[simp] theorem State.latch_raised (s : State) (a : Agent) (r : Reg) (i v : Nat) : (s.latch a r i v).raised = s.raised := rfl
@[simp] theorem State.latch_time (s : State) (a : Agent) (r : Reg) (i v : Nat) : (s.latch a r i v).time = s.time := rfl
@[simp] theorem State.latch_plan (s : State) (a : Agent) (r : Reg) (i v : Nat) : (s.latch a r i v).plan = s.plan := rfl
@[simp] theorem State.latch_ports (s : State) (a : Agent) (r : Reg) (i v : Nat) : (s.latch a r i v).ports = s.ports := rfl
@[simp] theorem State.latch_router (s : State) (a : Agent) (r : Reg) (i v : Nat) : (s.latch a r i v).router = s.router := rfl
@[simp] theorem State.latch_host (s : State) (a : Agent) (r : Reg) (i v : Nat) : (s.latch a r i v).host = s.host := rfl
@[simp] theorem State.latch_serving (s : State) (a : Agent) (r : Reg) (i v : Nat) : (s.latch a r i v).serving = s.serving := rfl
@[simp] theorem State.latch_cfg (s : State) (a : Agent) (r : Reg) (i v : Nat) : (s.latch a r i v).cfg = s.cfg := rfl
@[simp] theorem State.latch_reportSeq (s : State) (a : Agent) (r : Reg) (i v : Nat) : (s.latch a r i v).reportSeq = s.reportSeq := rfl
@[simp] theorem State.latch_mgmt (s : State) (a : Agent) (r : Reg) (i v : Nat) : (s.latch a r i v).mgmt = s.mgmt := rfl
@[simp] theorem State.latch_fault (s : State) (a : Agent) (r : Reg) (i v : Nat) : (s.latch a r i v).fault = s.fault := rfl
@[simp] theorem State.latch_pwr (s : State) (a : Agent) (r : Reg) (i v : Nat) : (s.latch a r i v).pwr = s.pwr := rfl
@[simp] theorem State.latch_tel (s : State) (a : Agent) (r : Reg) (i v : Nat) : (s.latch a r i v).tel = s.tel := rfl
@[simp] theorem State.latch_tiles (s : State) (a : Agent) (r : Reg) (i v : Nat) : (s.latch a r i v).tiles = s.tiles := rfl
@[simp] theorem State.latch_spad (s : State) (a : Agent) (r : Reg) (i v : Nat) : (s.latch a r i v).spad = s.spad := rfl
@[simp] theorem State.latch_spadErr (s : State) (a : Agent) (r : Reg) (i v : Nat) : (s.latch a r i v).spadErr = s.spadErr := rfl
@[simp] theorem State.latch_dn (s : State) (a : Agent) (r : Reg) (i v : Nat) : (s.latch a r i v).dn = s.dn := rfl
@[simp] theorem State.latch_dnSeq (s : State) (a : Agent) (r : Reg) (i v : Nat) : (s.latch a r i v).dnSeq = s.dnSeq := rfl
@[simp] theorem State.latch_dnWait (s : State) (a : Agent) (r : Reg) (i v : Nat) : (s.latch a r i v).dnWait = s.dnWait := rfl
@[simp] theorem State.latch_testPos (s : State) (a : Agent) (r : Reg) (i v : Nat) : (s.latch a r i v).testPos = s.testPos := rfl
@[simp] theorem State.latch_tier1 (s : State) (a : Agent) (r : Reg) (i v : Nat) : (s.latch a r i v).tier1 = s.tier1 := rfl
@[simp] theorem State.latch_tier2 (s : State) (a : Agent) (r : Reg) (i v : Nat) : (s.latch a r i v).tier2 = s.tier2 := rfl
@[simp] theorem State.latch_poison (s : State) (a : Agent) (r : Reg) (i v : Nat) : (s.latch a r i v).poison = s.poison := rfl
@[simp] theorem State.latch_t1Lo (s : State) (a : Agent) (r : Reg) (i v : Nat) : (s.latch a r i v).t1Lo = s.t1Lo := rfl
@[simp] theorem State.latch_t2Lo (s : State) (a : Agent) (r : Reg) (i v : Nat) : (s.latch a r i v).t2Lo = s.t2Lo := rfl
@[simp] theorem State.latch_moved (s : State) (a : Agent) (r : Reg) (i v : Nat) : (s.latch a r i v).moved = s.moved := rfl
@[simp] theorem State.latch_lateNow (s : State) (a : Agent) (r : Reg) (i v : Nat) : (s.latch a r i v).lateNow = s.lateNow := rfl

@[simp] theorem State.raiseFatal_pending (s : State) (r : Fatal) (d : Nat) : (s.raiseFatal r d).pending = s.pending := rfl
@[simp] theorem State.raiseFatal_out (s : State) (r : Fatal) (d : Nat) : (s.raiseFatal r d).out = s.out := rfl
@[simp] theorem State.raiseFatal_powered (s : State) (r : Fatal) (d : Nat) : (s.raiseFatal r d).powered = s.powered := rfl
@[simp] theorem State.raiseFatal_tripped (s : State) (r : Fatal) (d : Nat) : (s.raiseFatal r d).tripped = s.tripped := rfl
@[simp] theorem State.raiseFatal_tripTick (s : State) (r : Fatal) (d : Nat) : (s.raiseFatal r d).tripTick = s.tripTick := rfl
@[simp] theorem State.raiseFatal_perst (s : State) (r : Fatal) (d : Nat) : (s.raiseFatal r d).perst = s.perst := rfl
@[simp] theorem State.raiseFatal_pcie (s : State) (r : Fatal) (d : Nat) : (s.raiseFatal r d).pcie = s.pcie := rfl
@[simp] theorem State.raiseFatal_pkgReset (s : State) (r : Fatal) (d : Nat) : (s.raiseFatal r d).pkgReset = s.pkgReset := rfl
@[simp] theorem State.raiseFatal_readyTick (s : State) (r : Fatal) (d : Nat) : (s.raiseFatal r d).readyTick = s.readyTick := rfl
@[simp] theorem State.raiseFatal_deviceId (s : State) (r : Fatal) (d : Nat) : (s.raiseFatal r d).deviceId = s.deviceId := rfl
@[simp] theorem State.raiseFatal_fused (s : State) (r : Fatal) (d : Nat) : (s.raiseFatal r d).fused = s.fused := rfl
@[simp] theorem State.raiseFatal_regs (s : State) (r : Fatal) (d : Nat) : (s.raiseFatal r d).regs = s.regs := rfl
@[simp] theorem State.raiseFatal_latches (s : State) (r : Fatal) (d : Nat) : (s.raiseFatal r d).latches = s.latches := rfl
@[simp] theorem State.raiseFatal_accum (s : State) (r : Fatal) (d : Nat) : (s.raiseFatal r d).accum = s.accum := rfl
@[simp] theorem State.raiseFatal_free (s : State) (r : Fatal) (d : Nat) : (s.raiseFatal r d).free = s.free := rfl
@[simp] theorem State.raiseFatal_time (s : State) (r : Fatal) (d : Nat) : (s.raiseFatal r d).time = s.time := rfl
@[simp] theorem State.raiseFatal_plan (s : State) (r : Fatal) (d : Nat) : (s.raiseFatal r d).plan = s.plan := rfl
@[simp] theorem State.raiseFatal_ports (s : State) (r : Fatal) (d : Nat) : (s.raiseFatal r d).ports = s.ports := rfl
@[simp] theorem State.raiseFatal_router (s : State) (r : Fatal) (d : Nat) : (s.raiseFatal r d).router = s.router := rfl
@[simp] theorem State.raiseFatal_host (s : State) (r : Fatal) (d : Nat) : (s.raiseFatal r d).host = s.host := rfl
@[simp] theorem State.raiseFatal_serving (s : State) (r : Fatal) (d : Nat) : (s.raiseFatal r d).serving = s.serving := rfl
@[simp] theorem State.raiseFatal_cfg (s : State) (r : Fatal) (d : Nat) : (s.raiseFatal r d).cfg = s.cfg := rfl
@[simp] theorem State.raiseFatal_reportSeq (s : State) (r : Fatal) (d : Nat) : (s.raiseFatal r d).reportSeq = s.reportSeq := rfl
@[simp] theorem State.raiseFatal_mgmt (s : State) (r : Fatal) (d : Nat) : (s.raiseFatal r d).mgmt = s.mgmt := rfl
@[simp] theorem State.raiseFatal_fault (s : State) (r : Fatal) (d : Nat) : (s.raiseFatal r d).fault = s.fault := rfl
@[simp] theorem State.raiseFatal_pwr (s : State) (r : Fatal) (d : Nat) : (s.raiseFatal r d).pwr = s.pwr := rfl
@[simp] theorem State.raiseFatal_tel (s : State) (r : Fatal) (d : Nat) : (s.raiseFatal r d).tel = s.tel := rfl
@[simp] theorem State.raiseFatal_tiles (s : State) (r : Fatal) (d : Nat) : (s.raiseFatal r d).tiles = s.tiles := rfl
@[simp] theorem State.raiseFatal_spad (s : State) (r : Fatal) (d : Nat) : (s.raiseFatal r d).spad = s.spad := rfl
@[simp] theorem State.raiseFatal_spadErr (s : State) (r : Fatal) (d : Nat) : (s.raiseFatal r d).spadErr = s.spadErr := rfl
@[simp] theorem State.raiseFatal_dn (s : State) (r : Fatal) (d : Nat) : (s.raiseFatal r d).dn = s.dn := rfl
@[simp] theorem State.raiseFatal_dnSeq (s : State) (r : Fatal) (d : Nat) : (s.raiseFatal r d).dnSeq = s.dnSeq := rfl
@[simp] theorem State.raiseFatal_dnWait (s : State) (r : Fatal) (d : Nat) : (s.raiseFatal r d).dnWait = s.dnWait := rfl
@[simp] theorem State.raiseFatal_testPos (s : State) (r : Fatal) (d : Nat) : (s.raiseFatal r d).testPos = s.testPos := rfl
@[simp] theorem State.raiseFatal_tier1 (s : State) (r : Fatal) (d : Nat) : (s.raiseFatal r d).tier1 = s.tier1 := rfl
@[simp] theorem State.raiseFatal_tier2 (s : State) (r : Fatal) (d : Nat) : (s.raiseFatal r d).tier2 = s.tier2 := rfl
@[simp] theorem State.raiseFatal_poison (s : State) (r : Fatal) (d : Nat) : (s.raiseFatal r d).poison = s.poison := rfl
@[simp] theorem State.raiseFatal_t1Lo (s : State) (r : Fatal) (d : Nat) : (s.raiseFatal r d).t1Lo = s.t1Lo := rfl
@[simp] theorem State.raiseFatal_t2Lo (s : State) (r : Fatal) (d : Nat) : (s.raiseFatal r d).t2Lo = s.t2Lo := rfl
@[simp] theorem State.raiseFatal_moved (s : State) (r : Fatal) (d : Nat) : (s.raiseFatal r d).moved = s.moved := rfl
@[simp] theorem State.raiseFatal_lateNow (s : State) (r : Fatal) (d : Nat) : (s.raiseFatal r d).lateNow = s.lateNow := rfl

@[simp] theorem State.begin_out (s : State) : s.begin.out = [] := rfl
@[simp] theorem State.emit_out (s : State) (o : Output) : (s.emit o).out = s.out ++ [o] := rfl
@[simp] theorem State.emitAll_out (s : State) (os : List Output) : (s.emitAll os).out = s.out ++ os := rfl
@[simp] theorem State.raiseFatal_raised (s : State) (r : Fatal) (d : Nat) :
    (s.raiseFatal r d).raised = s.raised ++ [⟨r, d % 2 ^ 32⟩] := rfl

/-! ### Register fields -/

theorem RegField.ctorIdx_lt (f : RegField) : f.ctorIdx < 512 := by cases f <;> decide

theorem RegField.ctorIdx_inj {f g : RegField} (h : f.ctorIdx = g.ctorIdx) : f = g := by
  rw [← RegField.ofNat_ctorIdx f, ← RegField.ofNat_ctorIdx g, h]

/-- Two fields, or two indices, have two keys. -/
theorem regKey_inj {f g : RegField} {i j : Nat} (h : regKey f i = regKey g j) : f = g ∧ i = j := by
  have hf := f.ctorIdx_lt
  have hg := g.ctorIdx_lt
  unfold regKey at h
  exact ⟨RegField.ctorIdx_inj (by omega), by omega⟩

/-- A field just written reads as the value, cut to its width. -/
@[simp] theorem State.get_set_same (s : State) (f : RegField) (i v : Nat) : (s.set f i v).get f i = v % 2 ^ f.width := by
  simp [State.get, State.set]

/-- Writing a field leaves every other field alone. -/
theorem State.get_set_other (s : State) {f g : RegField} {i j : Nat} (v : Nat) (h : g ≠ f ∨ j ≠ i) :
    (s.set f i v).get g j = s.get g j := by
  have hk : regKey g j ≠ regKey f i := by
    intro hk
    obtain ⟨hf, hi⟩ := regKey_inj hk
    rcases h with h | h
    · exact h hf
    · exact h hi
  simp only [State.get, State.set]
  exact Table.get_set_ne _ _ _ _ hk

/-- A read after a write, whichever the fields. -/
theorem State.get_set (s : State) (f g : RegField) (i j v : Nat) :
    (s.set f i v).get g j = if g = f ∧ j = i then v % 2 ^ f.width else s.get g j := by
  split
  · next h => obtain ⟨rfl, rfl⟩ := h; exact State.get_set_same ..
  · next h => exact State.get_set_other s v (by by_cases hf : g = f <;> simp_all)

/-- What a read sees of a state: the registers and the fused values. -/
theorem State.get_congr {s t : State} (hr : t.regs = s.regs) (hf : t.fused = s.fused) (f : RegField) (i : Nat) :
    t.get f i = s.get f i := by
  simp only [State.get, hr, hf]

@[simp] theorem State.begin_get (s : State) (f : RegField) (i : Nat) : s.begin.get f i = s.get f i := rfl
@[simp] theorem State.emit_get (s : State) (o : Output) (f : RegField) (i : Nat) : (s.emit o).get f i = s.get f i := rfl
@[simp] theorem State.emitAll_get (s : State) (os : List Output) (f : RegField) (i : Nat) : (s.emitAll os).get f i = s.get f i := rfl
@[simp] theorem State.setPort_get (s : State) (p : Nat) (x : LinkPort) (f : RegField) (i : Nat) :
    (s.setPort p x).get f i = s.get f i := rfl
@[simp] theorem State.latch_get (s : State) (a : Agent) (r : Reg) (k v : Nat) (f : RegField) (i : Nat) :
    (s.latch a r k v).get f i = s.get f i := rfl
@[simp] theorem State.raiseFatal_get (s : State) (r : Fatal) (d : Nat) (f : RegField) (i : Nat) :
    (s.raiseFatal r d).get f i = s.get f i := rfl

/-- A count saturates at its field's all-ones value (R460). -/
@[simp] theorem State.get_bump_same (s : State) (f : RegField) (i n : Nat) :
    (s.bump f i n).get f i = min (s.get f i + n) (2 ^ f.width - 1) := by
  have h : (s.bump f i n).get f i = (s.set f i (min (s.get f i + n) (2 ^ f.width - 1))).get f i := rfl
  rw [h, State.get_set_same]
  exact Nat.mod_eq_of_lt (lt_of_le_of_lt (Nat.min_le_right ..) (Nat.sub_lt (Nat.two_pow_pos _) Nat.one_pos))

theorem State.get_bump_other (s : State) {f g : RegField} {i j : Nat} (n : Nat) (h : g ≠ f ∨ j ≠ i) :
    (s.bump f i n).get g j = s.get g j := State.get_set_other s _ h

theorem State.get_bump (s : State) (f g : RegField) (i j n : Nat) :
    (s.bump f i n).get g j = if g = f ∧ j = i then min (s.get f i + n) (2 ^ f.width - 1) else s.get g j := by
  split
  · next h => obtain ⟨rfl, rfl⟩ := h; exact State.get_bump_same ..
  · next h => exact State.get_bump_other s n (by by_cases hf : g = f <;> simp_all)

/-- A latched HI value reads back, for the agent that read. -/
@[simp] theorem State.latched_latch_same (s : State) (a : Agent) (r : Reg) (i v : Nat) :
    (s.latch a r i v).latched a r i = v := by
  simp [State.latch, State.latched]

/-- Right after reset every register field holds its reset value. -/
@[simp] theorem State.reset_get (f : RegField) (i : Nat) : State.reset.get f i = defaultOf State.reset.fused f i := rfl

/-! ### The shape of a meaning -/

@[simp] theorem occurs_true (f : State → State) (s : State) : occurs true f s = .next (f s.begin) := rfl
@[simp] theorem occurs_false (f : State → State) (s : State) : occurs false f s = .next s.begin := rfl

/-- A meaning under a condition answers one of two next states. -/
theorem occurs_next {g : Bool} {f : State → State} {s t : State} (h : occurs g f s = .next t) :
    (g = true ∧ t = f s.begin) ∨ (g = false ∧ t = s.begin) := by
  cases g with
  | true => exact .inl ⟨rfl, by simpa [occurs] using h.symm⟩
  | false => exact .inr ⟨rfl, by simpa [occurs] using h.symm⟩

end Sys2Proof.Machine
end

