-- ==== Sys2Proof/Laws/Kept.lean ====
section
/-! SUPPORT. What the commands leave alone: the queue, the fused values and the life-cycle transition. -/

namespace Sys2Proof.Machine

/-- The queue, the fused values and the life-cycle transition in progress. -/
def State.ident (s : State) : List Instr × Fused × Option Transition := (s.pending, s.fused, s.mgmt.transition)

/-- An update of other parts of the state. -/
@[simp] theorem ident_mk (s : State) (x_out : List Output) (x_powered : Bool) (x_tripped : Bool) (x_tripTick : Option Nat) (x_perst : Bool) (x_pcie : Bool)
    (x_pkgReset : Option PkgReset) (x_readyTick : Option Nat) (x_deviceId : Nat) (x_regs : Table Nat) (x_latches : Table
    (Option Nat)) (x_accum : Table Nat) (x_free : Nat) (x_raised : List Raised) (x_time : TimeBase) (x_plan : PlanEngine)
    (x_ports : Table LinkPort) (x_router : Router) (x_host : HostIf) (x_serving : Serving) (x_cfg : Table (List Byte))
    (x_reportSeq : Nat) (x_fault : FaultPath) (x_pwr : PowerCtl) (x_tel : Telemetry) (x_tiles : Table Tile) (x_spad :
    Memory) (x_spadErr : Table Nat) (x_dn : Table (List DnItem)) (x_dnSeq : Nat) (x_dnWait : Table (List Nat)) (x_testPos
    : Table Nat) (x_tier1 : Memory) (x_tier2 : Memory) (x_poison : Table Nat) (x_t1Lo : Option Nat) (x_t2Lo : Option Nat)
    (x_moved : Table Nat) (x_lateNow : Table Nat) :
    State.ident { s with
    out := x_out, powered := x_powered, tripped := x_tripped, tripTick := x_tripTick, perst := x_perst, pcie := x_pcie
    pkgReset := x_pkgReset, readyTick := x_readyTick, deviceId := x_deviceId, regs := x_regs, latches := x_latches, accum
    := x_accum, free := x_free, raised := x_raised, time := x_time, plan := x_plan, ports := x_ports, router := x_router
    host := x_host, serving := x_serving, cfg := x_cfg, reportSeq := x_reportSeq, fault := x_fault, pwr := x_pwr, tel :=
    x_tel, tiles := x_tiles, spad := x_spad, spadErr := x_spadErr, dn := x_dn, dnSeq := x_dnSeq, dnWait := x_dnWait
    testPos := x_testPos, tier1 := x_tier1, tier2 := x_tier2, poison := x_poison, t1Lo := x_t1Lo, t2Lo := x_t2Lo, moved :=
    x_moved, lateNow := x_lateNow } = s.ident := id rfl

/-- An update of other parts of the state and of the management plane. -/
@[simp] theorem ident_mk_mgmt (s : State) (x_out : List Output) (x_powered : Bool) (x_tripped : Bool) (x_tripTick : Option Nat) (x_perst : Bool) (x_pcie : Bool)
    (x_pkgReset : Option PkgReset) (x_readyTick : Option Nat) (x_deviceId : Nat) (x_regs : Table Nat) (x_latches : Table
    (Option Nat)) (x_accum : Table Nat) (x_free : Nat) (x_raised : List Raised) (x_time : TimeBase) (x_plan : PlanEngine)
    (x_ports : Table LinkPort) (x_router : Router) (x_host : HostIf) (x_serving : Serving) (x_cfg : Table (List Byte))
    (x_reportSeq : Nat) (x_fault : FaultPath) (x_pwr : PowerCtl) (x_tel : Telemetry) (x_tiles : Table Tile) (x_spad :
    Memory) (x_spadErr : Table Nat) (x_dn : Table (List DnItem)) (x_dnSeq : Nat) (x_dnWait : Table (List Nat)) (x_testPos
    : Table Nat) (x_tier1 : Memory) (x_tier2 : Memory) (x_poison : Table Nat) (x_t1Lo : Option Nat) (x_t2Lo : Option Nat)
    (x_moved : Table Nat) (x_lateNow : Table Nat)
    (y_images : Memory) (y_dirs : List Directory) (y_copies : List (List CfgBlock)) (y_summaries : List (List Byte))
    (y_secure : Memory) (y_boxes : Memory) (y_lengths : Table Nat) (y_answers : Table Answer) (y_releases : List Nat) :
    State.ident { s with
    out := x_out, powered := x_powered, tripped := x_tripped, tripTick := x_tripTick, perst := x_perst, pcie := x_pcie
    pkgReset := x_pkgReset, readyTick := x_readyTick, deviceId := x_deviceId, regs := x_regs, latches := x_latches, accum
    := x_accum, free := x_free, raised := x_raised, time := x_time, plan := x_plan, ports := x_ports, router := x_router
    host := x_host, serving := x_serving, cfg := x_cfg, reportSeq := x_reportSeq, fault := x_fault, pwr := x_pwr, tel :=
    x_tel, tiles := x_tiles, spad := x_spad, spadErr := x_spadErr, dn := x_dn, dnSeq := x_dnSeq, dnWait := x_dnWait
    testPos := x_testPos, tier1 := x_tier1, tier2 := x_tier2, poison := x_poison, t1Lo := x_t1Lo, t2Lo := x_t2Lo, moved :=
    x_moved, lateNow := x_lateNow
    mgmt := { s.mgmt with
    images := y_images, dirs := y_dirs, copies := y_copies, summaries := y_summaries, secure := y_secure, boxes :=
    y_boxes, lengths := y_lengths, answers := y_answers, releases := y_releases } } = s.ident := id rfl

@[simp] theorem ident_ite (c : Prop) [Decidable c] (s t : State) :
    State.ident (if c then s else t) = if c then s.ident else t.ident := apply_ite _ _ _ _

/-- A state named on the way keeps them, and so does what follows. -/
theorem ident_let {s x : State} {g : State → State} (hx : x.ident = s.ident) (hg : ∀ y : State, (g y).ident = y.ident) :
    State.ident (let y := x; g y) = s.ident := (hg x).trans hx

/-- Another value named on the way. -/
theorem ident_skip {α : Type} {s : State} {x : α} {g : α → State} (hg : ∀ y : α, (g y).ident = s.ident) :
    State.ident (let y := x; g y) = s.ident := hg x

/-- A fold of steps that keep a measure keeps it. -/
theorem foldl_keeps {α β σ : Type} (m : σ → β) {g : σ → α → σ} (hg : ∀ s x, m (g s x) = m s) (l : List α) (s : σ) :
    m (l.foldl g s) = m s := by
  induction l generalizing s with
  | nil => rfl
  | cons x l ih => rw [List.foldl_cons, ih, hg]

theorem ident_foldl {α : Type} {g : State → α → State} (hg : ∀ s x, (g s x).ident = s.ident) (l : List α) (s : State) :
    (l.foldl g s).ident = s.ident := foldl_keeps State.ident hg l s

theorem ident_each {g : State → Nat → State} (hg : ∀ s x, (g s x).ident = s.ident) (l : List Nat) (s : State) :
    (s.each l g).ident = s.ident := ident_foldl hg l s

end Sys2Proof.Machine
end

