-- ==== Sys2Proof/Laws/KeptField.lean ====
section
/-! SUPPORT. What leaves the Field dies' side alone: every memory, the tiles and the die network. -/

namespace Sys2Proof.Machine

/-- The memories, the tiles and the die network. -/
def State.field (s : State) : (Memory × Memory × Memory × Memory × Memory) × (Table Tile × Table (List DnItem) × Nat × Table (List Nat) × Table Nat) :=
  ((s.spad, s.tier1, s.tier2, s.mgmt.secure, s.mgmt.images), (s.tiles, s.dn, s.dnSeq, s.dnWait, s.spadErr))

theorem SameBytes.of_field {s t : State} (h : t.field = s.field) : SameBytes s t := by
  unfold State.field at h
  simp only [Prod.mk.injEq] at h
  obtain ⟨⟨h1, h2, h3, h4, h5⟩, -⟩ := h
  intro a
  rw [h1, h2, h3, h4, h5]
  exact ⟨rfl, rfl, rfl, rfl, rfl⟩

theorem SameTiles.of_field {s t : State} (h : t.field = s.field) : SameTiles s t := by
  unfold State.field at h
  simp only [Prod.mk.injEq] at h
  exact h.2

/-- An update of other parts of the state. -/
@[simp] theorem field_mk (s : State) (x_pending : List Instr) (x_out : List Output) (x_powered : Bool) (x_tripped : Bool) (x_tripTick : Option Nat)
    (x_perst : Bool) (x_pcie : Bool) (x_pkgReset : Option PkgReset) (x_readyTick : Option Nat) (x_deviceId : Nat) (x_fused
    : Fused) (x_regs : Table Nat) (x_latches : Table (Option Nat)) (x_accum : Table Nat) (x_free : Nat) (x_raised : List
    Raised) (x_time : TimeBase) (x_plan : PlanEngine) (x_ports : Table LinkPort) (x_router : Router) (x_host : HostIf)
    (x_serving : Serving) (x_cfg : Table (List Byte)) (x_reportSeq : Nat) (x_fault : FaultPath) (x_pwr : PowerCtl) (x_tel
    : Telemetry) (x_testPos : Table Nat) (x_poison : Table Nat) (x_t1Lo : Option Nat) (x_t2Lo : Option Nat) (x_moved :
    Table Nat) (x_lateNow : Table Nat) :
    State.field { s with
    pending := x_pending, out := x_out, powered := x_powered, tripped := x_tripped, tripTick := x_tripTick, perst :=
    x_perst, pcie := x_pcie, pkgReset := x_pkgReset, readyTick := x_readyTick, deviceId := x_deviceId, fused := x_fused
    regs := x_regs, latches := x_latches, accum := x_accum, free := x_free, raised := x_raised, time := x_time, plan :=
    x_plan, ports := x_ports, router := x_router, host := x_host, serving := x_serving, cfg := x_cfg, reportSeq :=
    x_reportSeq, fault := x_fault, pwr := x_pwr, tel := x_tel, testPos := x_testPos, poison := x_poison, t1Lo := x_t1Lo
    t2Lo := x_t2Lo, moved := x_moved, lateNow := x_lateNow } = s.field := id rfl

/-- An update of other parts of the state and of the management plane. -/
@[simp] theorem field_mk_mgmt (s : State) (x_pending : List Instr) (x_out : List Output) (x_powered : Bool) (x_tripped : Bool) (x_tripTick : Option Nat)
    (x_perst : Bool) (x_pcie : Bool) (x_pkgReset : Option PkgReset) (x_readyTick : Option Nat) (x_deviceId : Nat) (x_fused
    : Fused) (x_regs : Table Nat) (x_latches : Table (Option Nat)) (x_accum : Table Nat) (x_free : Nat) (x_raised : List
    Raised) (x_time : TimeBase) (x_plan : PlanEngine) (x_ports : Table LinkPort) (x_router : Router) (x_host : HostIf)
    (x_serving : Serving) (x_cfg : Table (List Byte)) (x_reportSeq : Nat) (x_fault : FaultPath) (x_pwr : PowerCtl) (x_tel
    : Telemetry) (x_testPos : Table Nat) (x_poison : Table Nat) (x_t1Lo : Option Nat) (x_t2Lo : Option Nat) (x_moved :
    Table Nat) (x_lateNow : Table Nat)
    (y_dirs : List Directory) (y_copies : List (List CfgBlock)) (y_summaries : List (List Byte)) (y_boxes : Memory)
    (y_lengths : Table Nat) (y_answers : Table Answer) (y_transition : Option Transition) (y_releases : List Nat) :
    State.field { s with
    pending := x_pending, out := x_out, powered := x_powered, tripped := x_tripped, tripTick := x_tripTick, perst :=
    x_perst, pcie := x_pcie, pkgReset := x_pkgReset, readyTick := x_readyTick, deviceId := x_deviceId, fused := x_fused
    regs := x_regs, latches := x_latches, accum := x_accum, free := x_free, raised := x_raised, time := x_time, plan :=
    x_plan, ports := x_ports, router := x_router, host := x_host, serving := x_serving, cfg := x_cfg, reportSeq :=
    x_reportSeq, fault := x_fault, pwr := x_pwr, tel := x_tel, testPos := x_testPos, poison := x_poison, t1Lo := x_t1Lo
    t2Lo := x_t2Lo, moved := x_moved, lateNow := x_lateNow
    mgmt := { s.mgmt with
    dirs := y_dirs, copies := y_copies, summaries := y_summaries, boxes := y_boxes, lengths := y_lengths, answers :=
    y_answers, transition := y_transition, releases := y_releases } } = s.field := id rfl

@[simp] theorem field_ite (c : Prop) [Decidable c] (s t : State) :
    State.field (if c then s else t) = if c then s.field else t.field := apply_ite _ _ _ _

theorem field_foldl {α : Type} {g : State → α → State} (hg : ∀ s x, (g s x).field = s.field) (l : List α) (s : State) :
    (l.foldl g s).field = s.field := foldl_keeps State.field hg l s

theorem field_each {g : State → Nat → State} (hg : ∀ s x, (g s x).field = s.field) (l : List Nat) (s : State) :
    (s.each l g).field = s.field := field_foldl hg l s


end Sys2Proof.Machine
end

