-- ==== Sys2Proof/Laws/FieldLink.lean ====
section
/-! SUPPORT. The memories, the tiles and the die network are kept by the operations on registers, reports, the time base, links, tolls and the router. -/

namespace Sys2Proof.Machine

/-! ### Ops -/

@[simp] theorem State_set_field (s : State) (f : RegField) (i : Nat) (v : Nat) :
    (State.set s f i v).field = s.field := by simp [State.set]
@[simp] theorem State_bump_field (s : State) (f : RegField) (i : Nat) (n : Nat) :
    (State.bump s f i n).field = s.field := by simp [State.bump]
@[simp] theorem State_peak_field (s : State) (f : RegField) (i : Nat) (v : Nat) :
    (State.peak s f i v).field = s.field := by simp [State.peak]
@[simp] theorem State_clear_field (s : State) (f : RegField) (i : Nat) :
    (State.clear s f i).field = s.field := by simp [State.clear]
@[simp] theorem State_clearAll_field (s : State) (fs : List RegField) (i : Nat) :
    (State.clearAll s fs i).field = s.field := by
  unfold State.clearAll; (repeat' split) <;> simp [field_foldl, field_each]
@[simp] theorem State_afterEvent_field (s : State) (e : Ev) :
    (State.afterEvent s e).field = s.field := by simp [State.afterEvent]
@[simp] theorem State_offlineRead_field (s : State) :
    (State.offlineRead s).field = s.field := by simp [State.offlineRead]
@[simp] theorem State_setPort_field (s : State) (p : Nat) (x : LinkPort) :
    (State.setPort s p x).field = s.field := by simp [State.setPort]
@[simp] theorem State_emit_field (s : State) (o : Output) :
    (State.emit s o).field = s.field := by simp [State.emit]
@[simp] theorem State_emitAll_field (s : State) (os : List Output) :
    (State.emitAll s os).field = s.field := by simp [State.emitAll]
@[simp] theorem State_sendMsix_field (s : State) (vector : Nat) :
    (State.sendMsix s vector).field = s.field := by simp [State.sendMsix]
@[simp] theorem State_draw_field (s : State) :
    (State.draw s).2.field = s.field := by simp [State.draw]
@[simp] theorem State_latch_field (s : State) (a : Agent) (r : Reg) (i : Nat) (v : Nat) :
    (State.latch s a r i v).field = s.field := by simp [State.latch]
@[simp] theorem State_unlatch_field (s : State) (r : Reg) (i : Nat) :
    (State.unlatch s r i).field = s.field := by simp [State.unlatch]
@[simp] theorem State_sendReport_field (s : State) (bytes : List Byte) :
    (State.sendReport s bytes).field = s.field := by simp [State.sendReport]
@[simp] theorem State_newReport_field (s : State) (typ : Nat) (code : Nat) (detail : Nat) (planBeat : Nat) (planState : Nat) :
    (State.newReport s typ code detail planBeat planState).field = s.field := by
  unfold State.newReport; extract_lets v1; clear_value v1; (first | (simp [field_foldl, field_each]; done) | ((repeat' split) <;> simp [field_foldl, field_each]))
@[simp] theorem State_writeEvent_field (s : State) (typ : Nat) (body : List Byte) :
    (State.writeEvent s typ body).field = s.field := by simp [State.writeEvent]
@[simp] theorem State_flushLost_field (s : State) :
    (State.flushLost s).field = s.field := by simp [State.flushLost]
@[simp] theorem State_event_field (s : State) (typ : Nat) (body : List Byte) :
    (State.event s typ body).field = s.field := by simp [State.event]
@[simp] theorem State_warnWith_field (s : State) (w : Warn) (detail : Nat) :
    (State.warnWith s w detail).field = s.field := by
  unfold State.warnWith; extract_lets v1; clear_value v1; (first | (simp [field_foldl, field_each]; done) | ((repeat' split) <;> simp [field_foldl, field_each]))
@[simp] theorem State_warn_field (s : State) (w : Warn) :
    (State.warn s w).field = s.field := by simp [State.warn]
@[simp] theorem State_raiseFatal_field (s : State) (r : Fatal) (detail : Nat) :
    (State.raiseFatal s r detail).field = s.field := by simp [State.raiseFatal]
@[simp] theorem State_setPlanState_field (s : State) (p : PlanState) :
    (State.setPlanState s p).field = s.field := by simp [State.setPlanState]
@[simp] theorem State_hostDenied_field (s : State) :
    (State.hostDenied s).field = s.field := by simp [State.hostDenied]
@[simp] theorem State_freeLock_field (s : State) (m : Nat) :
    (State.freeLock s m).field = s.field := by simp [State.freeLock]
@[simp] theorem State_releaseLock_field (s : State) (m : Nat) :
    (State.releaseLock s m).field = s.field := by simp [State.releaseLock]
@[simp] theorem State_begin_field (s : State) :
    (State.begin s).field = s.field := by simp [State.begin]

/-! ### LinkOps -/

@[simp] theorem State_modPort_field (s : State) (p : Nat) (f : LinkPort → LinkPort) :
    (State.modPort s p f).field = s.field := by simp [State.modPort]
@[simp] theorem State_enter_field (s : State) (p : Nat) (t : Train) :
    (State.enter s p t).field = s.field := by simp [State.enter]
@[simp] theorem State_sendCtrl_field (s : State) (p : Nat) (typ : Nat) (short : List Byte) (body : List Byte) :
    (State.sendCtrl s p typ short body).field = s.field := by
  unfold State.sendCtrl; extract_lets v1; clear_value v1; (first | (simp [field_foldl, field_each]; done) | ((repeat' split) <;> simp [field_foldl, field_each]))
@[simp] theorem State_sendNak_field (s : State) (p : Nat) :
    (State.sendNak s p).field = s.field := by simp [State.sendNak]
@[simp] theorem State_freeOne_field (s : State) (p : Nat) (vc : Nat) :
    (State.freeOne s p vc).field = s.field := by simp [State.freeOne]
@[simp] theorem State_sendCredit_field (s : State) (p : Nat) :
    (State.sendCredit s p).field = s.field := by
  unfold State.sendCredit; extract_lets v1; clear_value v1; (first | (simp [field_foldl, field_each]; done) | ((repeat' split) <;> simp [field_foldl, field_each]))
@[simp] theorem State_chooseMode_field (s : State) (p : Nat) :
    (State.chooseMode s p).field = s.field := by
  unfold State.chooseMode; extract_lets v1 v2 v3; clear_value v3 v2 v1; (first | (simp [field_foldl, field_each]; done) | ((repeat' split) <;> simp [field_foldl, field_each]))
@[simp] theorem State_rechoose_field (s : State) (p : Nat) :
    (State.rechoose s p).field = s.field := by
  unfold State.rechoose; extract_lets v1 v2; clear_value v2 v1; (first | (simp [field_foldl, field_each]; done) | ((repeat' split) <;> simp [field_foldl, field_each]))
@[simp] theorem State_fallBack_field (s : State) (p : Nat) :
    (State.fallBack s p).field = s.field := by simp [State.fallBack]
@[simp] theorem State_reveal_field (s : State) (p : Nat) (first : Nat) (seq : Nat) :
    (State.reveal s p first seq).field = s.field := by
  unfold State.reveal; extract_lets v1; clear_value v1; (first | (simp [field_foldl, field_each]; done) | ((repeat' split) <;> simp [field_foldl, field_each]))
@[simp] theorem State_noteWindow_field (s : State) (p : Nat) :
    (State.noteWindow s p).field = s.field := by
  unfold State.noteWindow; extract_lets v1; clear_value v1; (first | (simp [field_foldl, field_each]; done) | ((repeat' split) <;> simp [field_foldl, field_each]))
@[simp] theorem State_releaseFlits_field (s : State) (p : Nat) (n : Nat) :
    (State.releaseFlits s p n).field = s.field := by simp [State.releaseFlits]
@[simp] theorem State_takeAck_field (s : State) (p : Nat) (ack : Nat) :
    (State.takeAck s p ack).field = s.field := by
  unfold State.takeAck; extract_lets v1 v2; clear_value v2 v1; (first | (simp [field_foldl, field_each]; done) | ((repeat' split) <;> simp [field_foldl, field_each]))
@[simp] theorem State_modRouter_field (s : State) (f : Router → Router) :
    (State.modRouter s f).field = s.field := by simp [State.modRouter]
@[simp] theorem State_abortInputs_field (s : State) (p : Nat) :
    (State.abortInputs s p).field = s.field := by
  unfold State.abortInputs; extract_lets v1; clear_value v1; (first | (simp [field_foldl, field_each]; done) | ((repeat' split) <;> simp [field_foldl, field_each]))
@[simp] theorem State_untrain_field (s : State) (p : Nat) :
    (State.untrain s p).field = s.field := by simp [State.untrain]
@[simp] theorem State_linkDown_field (s : State) (p : Nat) (c : Down) :
    (State.linkDown s p c).field = s.field := by simp [State.linkDown]
@[simp] theorem State_closeLink_field (s : State) (p : Nat) (c : Down) :
    (State.closeLink s p c).field = s.field := by simp [State.closeLink]
@[simp] theorem State_sendWords_field (s : State) (p : Nat) (cs : List Ctrl) :
    (State.sendWords s p cs).field = s.field := by simp [State.sendWords]
@[simp] theorem State_closeIf_field (s : State) (p : Nat) (cs : List Ctrl) :
    (State.closeIf s p cs).field = s.field := by unfold State.closeIf; split <;> simp
@[simp] theorem State_sendUrgent_field (s : State) (p : Nat) :
    (State.sendUrgent s p).field = s.field := by
  unfold State.sendUrgent; extract_lets v1 v2 v3 v4; clear_value v4 v3 v2 v1; (first | (simp [field_foldl, field_each]; done) | ((repeat' split) <;> simp [field_foldl, field_each]))
@[simp] theorem State_detect_field (s : State) (p : Nat) :
    (State.detect s p).field = s.field := by simp [State.detect]
@[simp] theorem State_portReset_field (s : State) (p : Nat) :
    (State.portReset s p).field = s.field := by unfold State.portReset; split <;> simp
@[simp] theorem State_portDisable_field (s : State) (p : Nat) :
    (State.portDisable s p).field = s.field := by
  unfold State.portDisable; dsimp only; (repeat' split) <;> simp [field_foldl, field_each]
@[simp] theorem State_portEnable_field (s : State) (p : Nat) :
    (State.portEnable s p).field = s.field := by simp [State.portEnable]
@[simp] theorem State_lnkCtrlWrite_field (s : State) (p : Nat) (v : Nat) :
    (State.lnkCtrlWrite s p v).field = s.field := by simp [State.lnkCtrlWrite]
@[simp] theorem State_startPass_field (s : State) (p : Nat) :
    (State.startPass s p).field = s.field := by
  unfold State.startPass; extract_lets v1 v2; clear_value v2 v1; (first | (simp [field_foldl, field_each]; done) | ((repeat' split) <;> simp [field_foldl, field_each]))

/-! ### Time -/

@[simp] theorem State_setTime_field (s : State) (t : TimeState) (depth : Nat) :
    (State.setTime s t depth).field = s.field := by simp [State.setTime]
@[simp] theorem machineBeat_field (s : State) :
    (machineBeat s).field = s.field := by simp [machineBeat]
@[simp] theorem refLost_field (s : State) :
    (refLost s).field = s.field := by simp [refLost]
@[simp] theorem refReturn_field (s : State) :
    (refReturn s).field = s.field := by simp [refReturn]
@[simp] theorem skewCheck_field (s : State) (p : Nat) (offset : Int) :
    (skewCheck s p offset).field = s.field := by simp [skewCheck]
@[simp] theorem fromParent_field (s : State) (w : TimeWord) (rxBeat : Nat) (rxFrac : Nat) (offset : Int) :
    (fromParent s w rxBeat rxFrac offset).field = s.field := by
  unfold fromParent; extract_lets v1 v2; clear_value v2 v1; (first | (simp [field_foldl, field_each]; done) | ((repeat' split) <;> simp [field_foldl, field_each]))
@[simp] theorem timeWord_field (p : Nat) (frac : Nat) (c : Ctrl) (rest : List Ctrl) (s : State) :
    (timeWord p frac c rest s).field = s.field := by
  unfold timeWord; dsimp only; (repeat' split) <;> simp [field_foldl, field_each]
@[simp] theorem holdover_field (s : State) :
    (holdover s).field = s.field := by simp [holdover]
@[simp] theorem setTree_field (root : Nat) (port : Nat) (valid : Nat) (s : State) :
    (setTree root port valid s).field = s.field := by
  unfold setTree; dsimp only; (repeat' split) <;> simp [field_foldl, field_each]
@[simp] theorem beatCtrlWrite_field (a : Agent) (v : Nat) (s : State) :
    (beatCtrlWrite a v s).field = s.field := by simp [beatCtrlWrite]
@[simp] theorem beatCountLoRead_field (a : Agent) (frac : Nat) (s : State) :
    (beatCountLoRead a frac s).field = s.field := by simp [beatCountLoRead]
@[simp] theorem State_armAll_field (s : State) (code : Nat) :
    (State.armAll s code).field = s.field := by unfold State.armAll; (repeat' split) <;> simp [field_foldl, field_each]
@[simp] theorem State_applyAll_field (s : State) (code : Nat) :
    (State.applyAll s code).field = s.field := by simp [State.applyAll]
@[simp] theorem fsetWrite_field (r : Nat) (v : Nat) (s : State) :
    (fsetWrite r v s).field = s.field := by simp [fsetWrite]
@[simp] theorem regionRestart_field (x : RegionStop) (s : State) :
    (regionRestart x s).field = s.field := by simp [regionRestart]

/-! ### LinkTraining -/

@[simp] theorem State_sendIdent_field (s : State) (p : Nat) (mask : Nat) :
    (State.sendIdent s p mask).field = s.field := by simp [State.sendIdent]
@[simp] theorem State_trainFail_field (s : State) (p : Nat) (code : Nat) :
    (State.trainFail s p code).field = s.field := by simp [State.trainFail]
@[simp] theorem linkDetect_field (p : Nat) (s : State) :
    (linkDetect p s).field = s.field := by simp [linkDetect]
@[simp] theorem State_tlk2OrFail_field (s : State) (p : Nat) (code : Nat) :
    (State.tlk2OrFail s p code).field = s.field := by
  unfold State.tlk2OrFail; extract_lets v1; clear_value v1; (first | (simp [field_foldl, field_each]; done) | ((repeat' split) <;> simp [field_foldl, field_each]))
@[simp] theorem State_laneDecision_field (s : State) (p : Nat) :
    (State.laneDecision s p).field = s.field := by
  unfold State.laneDecision; extract_lets v1; clear_value v1; (first | (simp [field_foldl, field_each]; done) | ((repeat' split) <;> simp [field_foldl, field_each]))
@[simp] theorem State_identify_field (s : State) (p : Nat) (b : List Byte) :
    (State.identify s p b).field = s.field := by simp [State.identify]
@[simp] theorem identifyBlock_field (p : Nat) (b : List Byte) (s : State) :
    (identifyBlock p b s).field = s.field := by unfold identifyBlock; (repeat' split) <;> simp [field_foldl, field_each]
@[simp] theorem equalizeDone_field (p : Nat) (ok : Bool) (s : State) :
    (equalizeDone p ok s).field = s.field := by simp [equalizeDone]
@[simp] theorem laneCheckDone_field (p : Nat) (mask : Nat) (s : State) :
    (laneCheckDone p mask s).field = s.field := by simp [laneCheckDone]
@[simp] theorem fecAlignDone_field (p : Nat) (s : State) :
    (fecAlignDone p s).field = s.field := by simp [fecAlignDone]
@[simp] theorem flitSyncDone_field (p : Nat) (s : State) :
    (flitSyncDone p s).field = s.field := by
  unfold flitSyncDone; extract_lets v1 v2; clear_value v2 v1; (first | (simp [field_foldl, field_each]; done) | ((repeat' split) <;> simp [field_foldl, field_each]))
@[simp] theorem trainingTimeout_field (p : Nat) (code : Nat) (s : State) :
    (trainingTimeout p code s).field = s.field := by simp [trainingTimeout]
@[simp] theorem lnkCfgWrite_field (p : Nat) (v : Nat) (s : State) :
    (lnkCfgWrite p v s).field = s.field := by simp [lnkCfgWrite]
@[simp] theorem lnkTimerWrite_field (p : Nat) (v : Nat) (s : State) :
    (lnkTimerWrite p v s).field = s.field := by simp [lnkTimerWrite]
@[simp] theorem lnkPeerLoRead_field (a : Agent) (p : Nat) (s : State) :
    (lnkPeerLoRead a p s).field = s.field := by simp [lnkPeerLoRead]
@[simp] theorem eyeMargin_field (p : Nat) (margin : Nat) (lane : Nat) (s : State) :
    (eyeMargin p margin lane s).field = s.field := by simp [eyeMargin]

/-! ### Link -/

@[simp] theorem nak_field (p : Nat) (c : Ctrl) (s : State) :
    (nak p c s).field = s.field := by simp [nak]
@[simp] theorem snak_field (p : Nat) (c : Ctrl) (s : State) :
    (snak p c s).field = s.field := by
  unfold snak; extract_lets v1 v2; clear_value v2 v1; (first | (simp [field_foldl, field_each]; done) | ((repeat' split) <;> simp [field_foldl, field_each]))
@[simp] theorem creditWord_field (p : Nat) (c : Ctrl) (s : State) :
    (creditWord p c s).field = s.field := by simp [creditWord]
@[simp] theorem creditTimeout_field (p : Nat) (v : Nat) (s : State) :
    (creditTimeout p v s).field = s.field := by simp [creditTimeout]

/-! ### Tolls -/

@[simp] theorem State_setStop_field (s : State) (n : Nat) :
    (State.setStop s n).field = s.field := by simp [State.setStop]
@[simp] theorem State_rimRest_field (s : State) (i : Nat) (d : Nat) :
    (State.rimRest s i d).field = s.field := by simp [State.rimRest]
@[simp] theorem State_hubRest_field (s : State) (i : Nat) (d : Nat) :
    (State.hubRest s i d).field = s.field := by
  unfold State.hubRest; extract_lets v1; clear_value v1; (first | (simp [field_foldl, field_each]; done) | ((repeat' split) <;> simp [field_foldl, field_each]))
@[simp] theorem State_noteToll_field (s : State) (t : Toll) :
    (State.noteToll s t).field = s.field := by simp [State.noteToll]
@[simp] theorem State_hubToll_field (s : State) (t : Toll) :
    (State.hubToll s t).field = s.field := by simp [State.hubToll]
@[simp] theorem State_rimToll_field (s : State) (t : Toll) :
    (State.rimToll s t).field = s.field := by simp [State.rimToll]
@[simp] theorem State_sendToll_field (s : State) (cause : Nat) (b : Nat) (d : Nat) (stop : Nat) (detail : Nat) :
    (State.sendToll s cause b d stop detail).field = s.field := by simp [State.sendToll]
@[simp] theorem State_originateToll_field (s : State) (cause : Nat) (b : Nat) (d : Nat) (detail : Nat) :
    (State.originateToll s cause b d detail).field = s.field := by
  unfold State.originateToll; extract_lets v1; clear_value v1; (first | (simp [field_foldl, field_each]; done) | ((repeat' split) <;> simp [field_foldl, field_each]))
@[simp] theorem State_forwardToll_field (s : State) (r : Nat) (t : TollIn) :
    (State.forwardToll s r t).field = s.field := by
  unfold State.forwardToll; (repeat' split) <;> simp [field_foldl, field_each]
@[simp] theorem rimTakesToll_field (r : Nat) (t : TollIn) (rest : List TollIn) (s : State) :
    (rimTakesToll r t rest s).field = s.field := by simp [rimTakesToll]
@[simp] theorem hubTollReceive_field (t : Toll) (rest : List Toll) (s : State) :
    (hubTollReceive t rest s).field = s.field := by simp [hubTollReceive]
@[simp] theorem seenRetire_field (r : Nat) (s : State) :
    (seenRetire r s).field = s.field := by
  unfold seenRetire; extract_lets v1; clear_value v1; (first | (simp [field_foldl, field_each]; done) | ((repeat' split) <;> simp [field_foldl, field_each]))
@[simp] theorem finish_field (p : Nat) (c : Ctrl) (rest : List Ctrl) (s : State) :
    (finish p c rest s).field = s.field := by simp [finish]
@[simp] theorem State_countLast_field (s : State) (m : Nat) :
    (State.countLast s m).field = s.field := by simp [State.countLast]
@[simp] theorem statsClear_field (v : Nat) (s : State) :
    (statsClear v s).field = s.field := by unfold statsClear; (repeat' split) <;> simp [field_foldl, field_each]
@[simp] theorem plnLoRead_field (a : Agent) (which : Nat) (s : State) :
    (plnLoRead a which s).field = s.field := by unfold plnLoRead; split <;> simp

/-! ### MemOps -/

@[simp] theorem State_countMoved_field (s : State) (tier : Nat) (kind : Nat) (a : Nat) :
    (State.countMoved s tier kind a).field = s.field := by
  unfold State.countMoved; extract_lets v1; clear_value v1; (first | (simp [field_foldl, field_each]; done) | ((repeat' split) <;> simp [field_foldl, field_each]))
@[simp] theorem State_countRun_field (s : State) (tier : Nat) (kind : Nat) (a : Nat) (n : Nat) :
    (State.countRun s tier kind a n).field = s.field := by
  unfold State.countRun; extract_lets v1; clear_value v1; (first | (simp [field_foldl, field_each]; done) | ((repeat' split) <;> simp [field_foldl, field_each]))
@[simp] theorem State_t1Error_field (s : State) (a : Nat) :
    (State.t1Error s a).field = s.field := by simp [State.t1Error]
@[simp] theorem State_t2Error_field (s : State) (a : Nat) :
    (State.t2Error s a).field = s.field := by
  unfold State.t2Error; extract_lets v1; clear_value v1; (first | (simp [field_foldl, field_each]; done) | ((repeat' split) <;> simp [field_foldl, field_each]))
@[simp] theorem State_tierCe_field (s : State) (tier : Nat) (a : Nat) :
    (State.tierCe s tier a).field = s.field := by simp [State.tierCe]
@[simp] theorem State_tierRead_field (s : State) (tier : Nat) (a : Nat) (ce : Bool) (ue : Bool) :
    (State.tierRead s tier a ce ue).2.field = s.field := by
  unfold State.tierRead; (repeat' split) <;> simp [field_foldl, field_each]

/-! ### RouterOps -/

@[simp] theorem State_tableFind_field (s : State) (f : TableFind) :
    (State.tableFind s f).field = s.field := by
  unfold State.tableFind; (repeat' split) <;> simp [field_foldl, field_each]
@[simp] theorem State_readEntry_field (s : State) (rim : Nat) (table : Nat) (index : Nat) (port : Nat) :
    (State.readEntry s rim table index port).2.field = s.field := by unfold State.readEntry; split <;> simp
@[simp] theorem State_flaw_field (s : State) (f : TableFind) :
    (State.flaw s f).field = s.field := by
  unfold State.flaw; extract_lets v1; clear_value v1; (first | (simp [field_foldl, field_each]; done) | ((repeat' split) <;> simp [field_foldl, field_each]))
@[simp] theorem State_writeEntries_field (s : State) (q : TableFind → Bool) :
    (State.writeEntries s q).field = s.field := by simp [State.writeEntries]
@[simp] theorem State_crossChain_field (s : State) (a : Nat) (b : Nat) (vc0 : Bool) (n : Nat) :
    (State.crossChain s a b vc0 n).field = s.field := by
  unfold State.crossChain; extract_lets v1; clear_value v1; (first | (simp [field_foldl, field_each]; done) | ((repeat' split) <;> simp [field_foldl, field_each]))
@[simp] theorem State_fenceDrop_field (s : State) (p : Nat) :
    (State.fenceDrop s p).field = s.field := by
  unfold State.fenceDrop; dsimp only; (repeat' split) <;> simp [field_foldl, field_each]
@[simp] theorem State_holdFlit_field (s : State) (p : Nat) (h : HeldFlit) :
    (State.holdFlit s p h).field = s.field := by simp [State.holdFlit]
@[simp] theorem State_takeSlot_field (s : State) (p : Nat) (tag : Nat) (idx : Nat) :
    (State.takeSlot s p tag idx).2.field = s.field := by
  unfold State.takeSlot; extract_lets v1 v2; clear_value v2 v1; (first | (simp [field_foldl, field_each]; done) | ((repeat' split) <;> simp [field_foldl, field_each]))
@[simp] theorem State_vc0Out_field (s : State) (inside : Nat) (p : Nat) (f : Flit) :
    (State.vc0Out s inside p f).field = s.field := by
  unfold State.vc0Out; dsimp only; (repeat' split) <;> simp [field_foldl, field_each]
@[simp] theorem State_pealOut_field (s : State) (p : Nat) (peal : Nat) (f : Flit) :
    (State.pealOut s p peal f).field = s.field := by
  unfold State.pealOut; (repeat' split) <;> simp [field_foldl, field_each]
@[simp] theorem State_readRoute_field (s : State) (rim : Nat) (route : Nat) :
    (State.readRoute s rim route).2.field = s.field := by
  unfold State.readRoute; (repeat' split) <;> simp [field_foldl, field_each]
@[simp] theorem State_dynOut_field (s : State) (q : Nat) (d : DynFlit) :
    (State.dynOut s q d).field = s.field := by simp [State.dynOut]
@[simp] theorem State_launch_field (s : State) (rim : Nat) (route : Nat) (vc : Nat) (payloads : List (List Byte)) :
    (State.launch s rim route vc payloads).field = s.field := by
  unfold State.launch; (repeat' split) <;> simp [field_foldl, field_each]
@[simp] theorem State_noteOrder_field (s : State) (r : Nat) :
    (State.noteOrder s r).field = s.field := by simp [State.noteOrder]
@[simp] theorem State_setPair_field (s : State) (x : Pair) :
    (State.setPair s x).field = s.field := by simp [State.setPair]
@[simp] theorem State_setContext_field (s : State) (x : Context) :
    (State.setContext s x).field = s.field := by simp [State.setContext]
@[simp] theorem State_dropContext_field (s : State) (source : Nat) (vc : Nat) :
    (State.dropContext s source vc).field = s.field := by simp [State.dropContext]
@[simp] theorem State_sendPacket_field (s : State) (dest : Nat) (vc : Nat) (payloads : List (List Byte)) (via : Nat) :
    (State.sendPacket s dest vc payloads via).field = s.field := by unfold State.sendPacket; split <;> simp
@[simp] theorem State_unstall_field (s : State) (dest : Nat) (vc : Nat) :
    (State.unstall s dest vc).field = s.field := by
  unfold State.unstall; extract_lets v1 v2; clear_value v2 v1; (first | (simp [field_foldl, field_each]; done) | ((repeat' split) <;> simp [field_foldl, field_each]))
@[simp] theorem State_sendGrant_field (s : State) (source : Nat) (vc : Nat) (exp : Nat) (window : Nat) :
    (State.sendGrant s source vc exp window).field = s.field := by simp [State.sendGrant]
@[simp] theorem State_covered_field (s : State) (x : Context) :
    (State.covered s x).2.field = s.field := by unfold State.covered; split <;> simp
@[simp] theorem State_freeMany_field (s : State) (p : Nat) (vc : Nat) (x0 : Nat) :
    (State.freeMany s p vc x0).field = s.field := by
  induction x0 generalizing s with
  | zero => rfl
  | succ n ih => unfold State.freeMany; rw [ih]; simp
@[simp] theorem State_forgetKept_field (s : State) (p : Nat) (vc : Nat) :
    (State.forgetKept s p vc).field = s.field := by simp [State.forgetKept]
@[simp] theorem State_freeKept_field (s : State) (p : Nat) (vc : Nat) :
    (State.freeKept s p vc).field = s.field := by simp [State.freeKept]
@[simp] theorem State_keepOne_field (s : State) (p : Nat) (vc : Nat) :
    (State.keepOne s p vc).field = s.field := by simp [State.keepOne]
@[simp] theorem State_deliver_field (s : State) (p : Nat) (vc : Nat) (home : Nat) (payloads : List (List Byte)) :
    (State.deliver s p vc home payloads).field = s.field := by simp [State.deliver]
@[simp] theorem State_deliverHeld_field (p : Nat) (x0 : Nat) (x1 : Context) (x2 : State) :
    (State.deliverHeld p x0 x1 x2).2.field = x2.field := by
  induction x0 generalizing x1 x2 with
  | zero => rfl
  | succ n ih =>
    unfold State.deliverHeld
    split
    · rfl
    · rw [ih]; split <;> simp
@[simp] theorem State_orderIn_field (s : State) (p : Nat) (x : Context) (k : Packet) :
    (State.orderIn s p x k).field = s.field := by simp [State.orderIn]

/-! ### Router -/

@[simp] theorem State_modRx_field (s : State) (p : Nat) (vc : Nat) (f : Packet → Option Packet) :
    (State.modRx s p vc f).field = s.field := by simp [State.modRx]
@[simp] theorem State_arrived_field (s : State) (p : Nat) (k : Packet) :
    (State.arrived s p k).field = s.field := by unfold State.arrived; split <;> simp
@[simp] theorem State_useSeq_field (s : State) (p : Nat) (k : Packet) :
    (State.useSeq s p k).field = s.field := by unfold State.useSeq; split <;> simp
@[simp] theorem State_localFlit_field (s : State) (p : Nat) (vc : Nat) (k : Packet) (f : Flit) :
    (State.localFlit s p vc k f).field = s.field := by simp [State.localFlit]
@[simp] theorem State_throughFlit_field (s : State) (p : Nat) (vc : Nat) (q : Nat) (k : Packet) (first : Bool) (f : Flit) :
    (State.throughFlit s p vc q k first f).field = s.field := by simp [State.throughFlit]
@[simp] theorem State_goneFlit_field (s : State) (p : Nat) (vc : Nat) (k : Packet) (f : Flit) :
    (State.goneFlit s p vc k f).field = s.field := by simp [State.goneFlit]
@[simp] theorem State_dynFlitOn_field (s : State) (p : Nat) (vc : Nat) (k : Packet) (first : Bool) (f : Flit) :
    (State.dynFlitOn s p vc k first f).field = s.field := by simp [State.dynFlitOn]
@[simp] theorem State_dynFirst_field (s : State) (p : Nat) (f : Flit) (route : Nat) (out : Nat) :
    (State.dynFirst s p f route out).field = s.field := by
  unfold State.dynFirst; extract_lets v1 v2; clear_value v2 v1; (first | (simp [field_foldl, field_each]; done) | ((repeat' split) <;> simp [field_foldl, field_each]))
@[simp] theorem State_dynIn_field (s : State) (p : Nat) (f : Flit) :
    (State.dynIn s p f).field = s.field := by unfold State.dynIn; split <;> simp
@[simp] theorem State_holdEarly_field (s : State) (p : Nat) (f : Flit) :
    (State.holdEarly s p f).field = s.field := by simp [State.holdEarly]
@[simp] theorem State_ctrlIn_field (s : State) (p : Nat) (c : Ctrl) :
    (State.ctrlIn s p c).field = s.field := by simp [State.ctrlIn]
@[simp] theorem State_badFlit_field (s : State) (p : Nat) :
    (State.badFlit s p).field = s.field := by simp [State.badFlit]
@[simp] theorem State_codeword_field (s : State) (p : Nat) (cw : Nat) :
    (State.codeword s p cw).field = s.field := by simp [State.codeword]
@[simp] theorem State_syncFlit_field (s : State) (p : Nat) (good : Bool) :
    (State.syncFlit s p good).field = s.field := by simp [State.syncFlit]
@[simp] theorem State_sendData_field (s : State) (p : Nat) (f : Flit) :
    (State.sendData s p f).field = s.field := by
  unfold State.sendData; extract_lets v1 v2; clear_value v2 v1; (first | (simp [field_foldl, field_each]; done) | ((repeat' split) <;> simp [field_foldl, field_each]))
@[simp] theorem State_bindPacket_field (s : State) (p : Nat) (n : Nat) :
    (State.bindPacket s p n).field = s.field := by
  unfold State.bindPacket; (repeat' split) <;> simp [field_foldl, field_each]
@[simp] theorem State_sendDyn_field (s : State) (p : Nat) (vc : Nat) (d : DynFlit) :
    (State.sendDyn s p vc d).field = s.field := by
  unfold State.sendDyn; (repeat' split) <;> simp [field_foldl, field_each]
@[simp] theorem State_sampleTime_field (s : State) (p : Nat) :
    (State.sampleTime s p).field = s.field := by
  unfold State.sampleTime; extract_lets v1; clear_value v1; (first | (simp [field_foldl, field_each]; done) | ((repeat' split) <;> simp [field_foldl, field_each]))
@[simp] theorem State_sendIdle_field (s : State) (p : Nat) :
    (State.sendIdle s p).field = s.field := by simp [State.sendIdle]
@[simp] theorem State_fillRest_field (s : State) (p : Nat) (x : LinkPort) (room : Bool) :
    (State.fillRest s p x room).field = s.field := by
  unfold State.fillRest; (repeat' split) <;> simp [field_foldl, field_each]
@[simp] theorem State_sendHeld_field (s : State) (p : Nat) (ft : Nat) (h : HeldFlit) :
    (State.sendHeld s p ft h).field = s.field := by simp [State.sendHeld]
@[simp] theorem State_fillNew_field (s : State) (p : Nat) (ft : Nat) :
    (State.fillNew s p ft).field = s.field := by
  unfold State.fillNew; extract_lets v1 v2; clear_value v2 v1; (first | (simp [field_foldl, field_each]; done) | ((repeat' split) <;> simp [field_foldl, field_each]))
@[simp] theorem State_fillData_field (s : State) (p : Nat) (ft : Nat) :
    (State.fillData s p ft).field = s.field := by
  unfold State.fillData; dsimp only; (repeat' split) <;> simp [field_foldl, field_each]
@[simp] theorem State_fenceWords_field (s : State) (p : Nat) :
    (State.fenceWords s p).field = s.field := by simp [State.fenceWords]
@[simp] theorem flitTime_field (p : Nat) (ft : Nat) (s : State) :
    (flitTime p ft s).field = s.field := by simp [flitTime]
@[simp] theorem linkBroken_field (p : Nat) (s : State) :
    (linkBroken p s).field = s.field := by simp [linkBroken]
@[simp] theorem State_formFlit_field (s : State) (p : Nat) (tag : Nat) (word : List Byte) :
    (State.formFlit s p tag word).field = s.field := by simp [State.formFlit]
@[simp] theorem tableScrub_field (r : Nat) (s : State) :
    (tableScrub r s).field = s.field := by unfold tableScrub; (repeat' split) <;> simp [field_foldl, field_each]
@[simp] theorem contextRequest_field (k : Packet) (s : State) :
    (contextRequest k s).field = s.field := by
  unfold contextRequest; extract_lets v1 v2; clear_value v2 v1; (first | (simp [field_foldl, field_each]; done) | ((repeat' split) <;> simp [field_foldl, field_each]))
@[simp] theorem agentSend_field (a : Nat) (dest : Nat) (vc : Nat) (payloads : List (List Byte)) (via : Nat) (s : State) :
    (agentSend a dest vc payloads via s).field = s.field := by simp [agentSend]
@[simp] theorem grant_field (k : Packet) (s : State) :
    (grant k s).field = s.field := by
  unfold grant; extract_lets v1 v2 v3 v4; clear_value v4 v3 v2 v1; (first | (simp [field_foldl, field_each]; done) | ((repeat' split) <;> simp [field_foldl, field_each]))
@[simp] theorem grantSend_field (x : Context) (s : State) :
    (grantSend x s).field = s.field := by simp [grantSend]
@[simp] theorem orderRestoration_field (p : Nat) (k : Packet) (s : State) :
    (orderRestoration p k s).field = s.field := by unfold orderRestoration; split <;> simp
@[simp] theorem idleRelease_field (x : Pair) (s : State) :
    (idleRelease x s).field = s.field := by simp [idleRelease]
@[simp] theorem State_escapeFlit_field (det : Nat) (s : State) (d : DynFlit) :
    (State.escapeFlit det s d).field = s.field := by
  unfold State.escapeFlit; dsimp only; (repeat' split) <;> simp [field_foldl, field_each]
@[simp] theorem escape_field (d : DynFlit) (s : State) :
    (escape d s).field = s.field := by unfold escape; (repeat' split) <;> simp [field_foldl, field_each]
@[simp] theorem State_fenceOn_field (s : State) (p : Nat) :
    (State.fenceOn s p).field = s.field := by
  unfold State.fenceOn
  dsimp only
  rw [field_each (by intros; simp), State_modPort_field, field_foldl (by intro s d; split <;> simp),
    field_each (by intros; simp), field_each (by intros; simp)]
@[simp] theorem State_setFences_field (s : State) (mask : Nat) :
    (State.setFences s mask).field = s.field := by
  unfold State.setFences; (repeat' split) <;> simp [field_foldl, field_each]
@[simp] theorem State_writeFences_field (s : State) (mask : Nat) :
    (State.writeFences s mask).field = s.field := by simp [State.writeFences]
@[simp] theorem rteFenceWrite_field (a : Agent) (hi : Bool) (v : Nat) (s : State) :
    (rteFenceWrite a hi v s).field = s.field := by simp [rteFenceWrite]
@[simp] theorem rteTblAddrWrite_field (v : Nat) (s : State) :
    (rteTblAddrWrite v s).field = s.field := by
  unfold rteTblAddrWrite; dsimp only; (repeat' split) <;> simp [field_foldl, field_each]
@[simp] theorem rteTblDataHiWrite_field (v : Nat) (s : State) :
    (rteTblDataHiWrite v s).field = s.field := by simp [rteTblDataHiWrite]

end Sys2Proof.Machine
end

