-- ==== Sys2Proof/Laws/FieldHost.lean ====
section
/-! SUPPORT. The memories, the tiles and the die network are kept by the operations on the host interface, plans and serving. -/

namespace Sys2Proof.Machine

/-! ### HostOps -/

@[simp] theorem State_setQueue_field (s : State) (q : Nat) (x : Queue) :
    (State.setQueue s q x).field = s.field := by simp [State.setQueue]
@[simp] theorem State_start_field (s : State) (f : Fetched) (done : Option (Nat × Nat)) :
    (State.start s f done).field = s.field := by simp [State.start]
@[simp] theorem State_completeRaw_field (s : State) (f : Fetched) (code : Nat) (result : Nat) :
    (State.completeRaw s f code result).field = s.field := by
  unfold State.completeRaw; dsimp only; (repeat' split) <;> simp [field_foldl, field_each]
@[simp] theorem State_reap_field (s : State) (q : Nat) :
    (State.reap s q).field = s.field := by
  unfold State.reap; dsimp only; (repeat' split) <;> simp [field_foldl, field_each]
@[simp] theorem State_completeNum_field (s : State) (f : Fetched) (code : Nat) (result : Nat) :
    (State.completeNum s f code result).field = s.field := by simp [State.completeNum]
@[simp] theorem State_complete_field (s : State) (f : Fetched) (c : Cc) (result : Nat) :
    (State.complete s f c result).field = s.field := by simp [State.complete]
@[simp] theorem State_toHost_field (s : State) (addr : Nat) (b : List Byte) :
    (State.toHost s addr b).field = s.field := by simp [State.toHost]
@[simp] theorem State_dmaToHost_field (s : State) (addr : Nat) (b : List Byte) :
    (State.dmaToHost s addr b).field = s.field := by simp [State.dmaToHost]

/-! ### Memory -/

@[simp] theorem fldSpadSecureWrite_field (a : Agent) (d : Nat) (n : Nat) (s : State) :
    (fldSpadSecureWrite a d n s).field = s.field := by simp [fldSpadSecureWrite]

/-! ### Host -/

@[simp] theorem interfaceEnable_field (s : State) :
    (interfaceEnable s).field = s.field := by unfold interfaceEnable; (repeat' split) <;> simp [field_foldl, field_each]
@[simp] theorem State_closeQueues_field (s : State) :
    (State.closeQueues s).field = s.field := by simp [State.closeQueues]
@[simp] theorem State_badDoorbell_field (s : State) :
    (State.badDoorbell s).field = s.field := by simp [State.badDoorbell]
@[simp] theorem sqDoorbell_field (q : Nat) (v : Nat) (s : State) :
    (sqDoorbell q v s).field = s.field := by unfold sqDoorbell; split <;> simp
@[simp] theorem cqDoorbell_field (q : Nat) (v : Nat) (s : State) :
    (cqDoorbell q v s).field = s.field := by unfold cqDoorbell; split <;> simp
@[simp] theorem eventRingDoorbell_field (v : Nat) (s : State) :
    (eventRingDoorbell v s).field = s.field := by simp [eventRingDoorbell]
@[simp] theorem commandFetch_field (q : Nat) (x : Queue) (packet : List Byte) (s : State) :
    (commandFetch q x packet s).field = s.field := by
  unfold commandFetch; dsimp only; (repeat' split) <;> simp [field_foldl, field_each]
@[simp] theorem featureGet_field (f : Fetched) (s : State) :
    (featureGet f s).field = s.field := by
  unfold featureGet; extract_lets v1 v2; clear_value v2 v1; (first | (simp [field_foldl, field_each]; done) | ((repeat' split) <;> simp [field_foldl, field_each]))
@[simp] theorem queueCreate_field (f : Fetched) (s : State) :
    (queueCreate f s).field = s.field := by
  unfold queueCreate; extract_lets v1 v2 v3; clear_value v3 v2 v1; (first | (simp [field_foldl, field_each]; done) | ((repeat' split) <;> simp [field_foldl, field_each]))
@[simp] theorem queueDelete_field (f : Fetched) (s : State) :
    (queueDelete f s).field = s.field := by
  unfold queueDelete; extract_lets v1; clear_value v1; (first | (simp [field_foldl, field_each]; done) | ((repeat' split) <;> simp [field_foldl, field_each]))
@[simp] theorem portStatus_field (f : Fetched) (s : State) :
    (portStatus f s).field = s.field := by
  unfold portStatus; extract_lets v1; clear_value v1; (first | (simp [field_foldl, field_each]; done) | ((repeat' split) <;> simp [field_foldl, field_each]))
@[simp] theorem State_portReject_field (s : State) (f : Fetched) (p : Nat) :
    (State.portReject s f p).field = s.field := by simp [State.portReject]
@[simp] theorem portResetCmd_field (f : Fetched) (s : State) :
    (portResetCmd f s).field = s.field := by
  unfold portResetCmd; extract_lets v1; clear_value v1; (first | (simp [field_foldl, field_each]; done) | ((repeat' split) <;> simp [field_foldl, field_each]))
@[simp] theorem portEnableCmd_field (f : Fetched) (s : State) :
    (portEnableCmd f s).field = s.field := by
  unfold portEnableCmd; extract_lets v1; clear_value v1; (first | (simp [field_foldl, field_each]; done) | ((repeat' split) <;> simp [field_foldl, field_each]))
@[simp] theorem State_clearPoison_field (s : State) (a : Nat) (z : Nat) :
    (State.clearPoison s a z).field = s.field := by simp [State.clearPoison]
@[simp] theorem State_bar2Units_field (s : State) (e : TierIn) (us : List Nat) :
    (State.bar2Units s e us).field = s.field := by
  unfold State.bar2Units; (repeat' split) <;> simp [field_foldl, field_each]
@[simp] theorem bar2Read_field (a : Nat) (n : Nat) (e : TierIn) (s : State) :
    (bar2Read a n e s).field = s.field := by simp [bar2Read]
@[simp] theorem hstLoRead_field (a : Agent) (which : Nat) (s : State) :
    (hstLoRead a which s).field = s.field := by unfold hstLoRead; split <;> simp
@[simp] theorem State_setIngest_field (s : State) (x : Ingest) :
    (State.setIngest s x).field = s.field := by simp [State.setIngest]
@[simp] theorem State_ingestDrop_field (s : State) (stream : Nat) (reason : Nat) :
    (State.ingestDrop s stream reason).field = s.field := by
  unfold State.ingestDrop; dsimp only; (repeat' split) <;> simp [field_foldl, field_each]
@[simp] theorem State_latePushes_field (s : State) (fs : List Fetched) :
    (State.latePushes s fs).field = s.field := by
  unfold State.latePushes
  exact field_foldl (by intros; split <;> simp) _ _
@[simp] theorem pcieLinkDown_field (s : State) :
    (pcieLinkDown s).field = s.field := by unfold pcieLinkDown; (repeat' split) <;> simp [field_foldl, field_each]

/-! ### Plan -/

@[simp] theorem State_movePlan_field (s : State) (p : PlanState) :
    (State.movePlan s p).field = s.field := by unfold State.movePlan; split <;> simp
@[simp] theorem State_recordLoad_field (s : State) (c : LoadCode) (detail : Nat) :
    (State.recordLoad s c detail).field = s.field := by simp [State.recordLoad]
@[simp] theorem State_refusePlan_field (s : State) (f : Fetched) (c : LoadCode) (detail : Nat) :
    (State.refusePlan s f c detail).field = s.field := by simp [State.refusePlan]
@[simp] theorem State_loadHeader_field (s : State) (h : Header) :
    (State.loadHeader s h).field = s.field := by simp [State.loadHeader]
@[simp] theorem State_loadGive_field (s : State) (p : PortRec) :
    (State.loadGive s p).field = s.field := by simp [State.loadGive]
@[simp] theorem State_loadLayout_field (s : State) (y : Option Layout) :
    (State.loadLayout s y).field = s.field := by unfold State.loadLayout; split <;> simp
@[simp] theorem planArm_field (f : Fetched) (s : State) :
    (planArm f s).field = s.field := by unfold planArm; (repeat' split) <;> simp [field_foldl, field_each]
@[simp] theorem rimStart_field (s : State) :
    (rimStart s).field = s.field := by simp [rimStart]
@[simp] theorem stopAtMeasure_field (f : Fetched) (s : State) :
    (stopAtMeasure f s).field = s.field := by
  unfold stopAtMeasure; extract_lets v1; clear_value v1; (first | (simp [field_foldl, field_each]; done) | ((repeat' split) <;> simp [field_foldl, field_each]))
@[simp] theorem State_clearRouter_field (s : State) :
    (State.clearRouter s).field = s.field := by
  unfold State.clearRouter
  rw [field_mk, field_each (by intro s i; rw [State_modPort_field]), State_set_field, State_set_field, State_set_field]
@[simp] theorem State_lateRegion_field (b : Nat) (s : State) (r : Nat) :
    (State.lateRegion b s r).field = s.field := by simp [State.lateRegion]
@[simp] theorem State_noteLate_field (late : List Nat) (s : State) (d : Nat) :
    (State.noteLate late s d).field = s.field := by unfold State.noteLate; split <;> simp
@[simp] theorem State_sendFinish_field (s : State) (m : Nat) (margin : Int) :
    (State.sendFinish s m margin).field = s.field := by
  unfold State.sendFinish; (repeat' split) <;> simp [field_foldl, field_each]
@[simp] theorem State_checkRegions_field (s : State) (m : Nat) (late : List Nat) (margin : Int) :
    (State.checkRegions s m late margin).field = s.field := by
  unfold State.checkRegions; (repeat' split) <;> simp [field_foldl, field_each]
@[simp] theorem regionCheck_field (ps : Word) (s : State) :
    (regionCheck ps s).field = s.field := by
  unfold regionCheck; extract_lets v1 v2; clear_value v2 v1; (first | (simp [field_foldl, field_each]; done) | ((repeat' split) <;> simp [field_foldl, field_each]))
@[simp] theorem State_itemLate_field (x : Plan) (s : State) (e : DueEntry) :
    (State.itemLate x s e).field = s.field := by simp [State.itemLate]
@[simp] theorem State_accessLate_field (s : State) (a : TierAccess) :
    (State.accessLate s a).field = s.field := by simp [State.accessLate]

/-! ### Serving -/

@[simp] theorem State_setSlot_field (s : State) (n : Nat) (x : ServeSlot) :
    (State.setSlot s n x).field = s.field := by simp [State.setSlot]
@[simp] theorem State_stage_field (s : State) (f : Fetched) (n : Nat) (kind : Nat) (r : List Byte) :
    (State.stage s f n kind r).field = s.field := by simp [State.stage]
@[simp] theorem slotWrite_field (f : Fetched) (s : State) :
    (slotWrite f s).field = s.field := by
  unfold slotWrite; extract_lets v1 v2; clear_value v2 v1; (first | (simp [field_foldl, field_each]; done) | ((repeat' split) <;> simp [field_foldl, field_each]))
@[simp] theorem slotClear_field (f : Fetched) (s : State) :
    (slotClear f s).field = s.field := by unfold slotClear; (repeat' split) <;> simp [field_foldl, field_each]
@[simp] theorem headsGate_field (f : Fetched) (s : State) :
    (headsGate f s).field = s.field := by
  unfold headsGate; extract_lets v1; clear_value v1; (first | (simp [field_foldl, field_each]; done) | ((repeat' split) <;> simp [field_foldl, field_each]))
@[simp] theorem slotRead_field (f : Fetched) (s : State) :
    (slotRead f s).field = s.field := by unfold slotRead; split <;> simp
@[simp] theorem State_completeStaged_field (s : State) (e : Staged) (c : Cc) (result : Nat) :
    (State.completeStaged s e c result).field = s.field := by
  unfold State.completeStaged; (repeat' split) <;> simp [field_foldl, field_each]
@[simp] theorem State_failStaged_field (s : State) :
    (State.failStaged s).field = s.field := by
  unfold State.failStaged; extract_lets v1; clear_value v1; (first | (simp [field_foldl, field_each]; done) | ((repeat' split) <;> simp [field_foldl, field_each]))
@[simp] theorem State_applyStaged_field (s : State) (e : Staged) (stands : Bool) :
    (State.applyStaged s e stands).field = s.field := by unfold State.applyStaged; split <;> simp
@[simp] theorem applySlots_field (x0 : List Staged) (x1 : State) :
    (applySlots x0 x1).field = x1.field := by
  induction x0 generalizing x1 with
  | nil => rfl
  | cons e es ih => unfold applySlots; rw [ih]; simp
@[simp] theorem State_slotDownbeat_field (s : State) (m : Nat) :
    (State.slotDownbeat s m).field = s.field := by
  unfold State.slotDownbeat; (repeat' split) <;> simp [field_foldl, field_each]
@[simp] theorem State_autoGate_field (s : State) (n : Nat) :
    (State.autoGate s n).field = s.field := by simp [State.autoGate]
@[simp] theorem State_admitSlot_field (s : State) (n : Nat) :
    (State.admitSlot s n).field = s.field := by
  unfold State.admitSlot; extract_lets v1; clear_value v1; (first | (simp [field_foldl, field_each]; done) | ((repeat' split) <;> simp [field_foldl, field_each]))
@[simp] theorem srvOutHeadWrite_field (v : Nat) (s : State) :
    (srvOutHeadWrite v s).field = s.field := by simp [srvOutHeadWrite]

end Sys2Proof.Machine
end

