-- ==== Sys2Proof/Laws/FieldMgmt.lean ====
section
/-! SUPPORT. The memories, the tiles and the die network are kept by the operations on power, faults, telemetry, boot and the management plane. -/

namespace Sys2Proof.Machine

/-! ### Power -/

@[simp] theorem State_drawNonce_field (s : State) :
    (State.drawNonce s).field = s.field := by simp [State.drawNonce]
@[simp] theorem State_restartAccum_field (s : State) (p : Held → Bool) :
    (State.restartAccum s p).field = s.field := by simp [State.restartAccum]
@[simp] theorem State_dropParked_field (s : State) :
    (State.dropParked s).field = s.field := by
  unfold State.dropParked; (repeat' split) <;> simp [field_foldl, field_each]
@[simp] theorem State_unpark_field (s : State) :
    (State.unpark s).field = s.field := by
  unfold State.unpark; extract_lets v1; clear_value v1; (first | (simp [field_foldl, field_each]; done) | ((repeat' split) <;> simp [field_foldl, field_each]))
@[simp] theorem State_failDma_field (s : State) :
    (State.failDma s).field = s.field := by unfold State.failDma; (repeat' split) <;> simp [field_foldl, field_each]
@[simp] theorem State_beginEntry_field (s : State) (t : Nat) :
    (State.beginEntry s t).field = s.field := by simp [State.beginEntry]
@[simp] theorem State_leaveHush_field (s : State) :
    (State.leaveHush s).field = s.field := by simp [State.leaveHush]
@[simp] theorem State_powerReject_field (s : State) :
    (State.powerReject s).field = s.field := by simp [State.powerReject]
@[simp] theorem State_powerRequest_field (s : State) (t : Nat) :
    (State.powerRequest s t).field = s.field := by simp [State.powerRequest]
@[simp] theorem State_completeResets_field (s : State) :
    (State.completeResets s).field = s.field := by
  unfold State.completeResets; (repeat' split) <;> simp [field_foldl, field_each]
@[simp] theorem State_endRestart_field (s : State) :
    (State.endRestart s).field = s.field := by simp [State.endRestart]
@[simp] theorem State_packageResetIn_field (s : State) (cause : Nat) (beats : Nat) :
    (State.packageResetIn s cause beats).field = s.field := by unfold State.packageResetIn; split <;> simp
@[simp] theorem perstAssert_field (s : State) :
    (perstAssert s).field = s.field := by simp [perstAssert]

/-! ### Downbeat -/

@[simp] theorem State_endMeasure_field (s : State) (r : Nat) (cycles : Nat) (current : Nat) :
    (State.endMeasure s r cycles current).field = s.field := by
  unfold State.endMeasure; dsimp only; (repeat' split) <;> simp [field_foldl, field_each]
@[simp] theorem State_endMeasures_field (s : State) (x : DownIn) :
    (State.endMeasures s x).field = s.field := by
  unfold State.endMeasures; (repeat' split) <;> simp [field_foldl, field_each]
@[simp] theorem State_latchOcc_field (s : State) (u : Nat) (busy : Nat) :
    (State.latchOcc s u busy).field = s.field := by simp [State.latchOcc]
@[simp] theorem State_latchItems_field (s : State) (t : Nat) :
    (State.latchItems s t).field = s.field := by simp [State.latchItems]
@[simp] theorem State_latchTiers_field (s : State) (x : DownIn) :
    (State.latchTiers s x).field = s.field := by
  unfold State.latchTiers; (repeat' split) <;> simp [field_foldl, field_each]
@[simp] theorem State_acquireMeasure_field (s : State) :
    (State.acquireMeasure s).field = s.field := by simp [State.acquireMeasure]
@[simp] theorem State_slew_field (s : State) :
    (State.slew s).field = s.field := by
  unfold State.slew; extract_lets v1; clear_value v1; (first | (simp [field_foldl, field_each]; done) | ((repeat' split) <;> simp [field_foldl, field_each]))
@[simp] theorem State_sendTimeWords_field (s : State) (x : DownIn) :
    (State.sendTimeWords s x).field = s.field := by
  unfold State.sendTimeWords; (repeat' split) <;> simp [field_foldl, field_each]
@[simp] theorem State_applyCode_field (s : State) (r : Nat) (code : Nat) :
    (State.applyCode s r code).field = s.field := by simp [State.applyCode]
@[simp] theorem State_applyRows_field (s : State) (late : List DieIx) (m : Nat) :
    (State.applyRows s late m).field = s.field := by
  unfold State.applyRows; extract_lets v1; clear_value v1; (first | (simp [field_foldl, field_each]; done) | ((repeat' split) <;> simp [field_foldl, field_each]))
@[simp] theorem State_changeFreq_field (s : State) (late : List DieIx) (m : Nat) (e : FreqEntry) :
    (State.changeFreq s late m e).field = s.field := by
  unfold State.changeFreq; extract_lets v1; clear_value v1; (first | (simp [field_foldl, field_each]; done) | ((repeat' split) <;> simp [field_foldl, field_each]))
@[simp] theorem State_handCodes_field (s : State) (m : Nat) :
    (State.handCodes s m).field = s.field := by
  unfold State.handCodes; extract_lets v1; clear_value v1; (first | (simp [field_foldl, field_each]; done) | ((repeat' split) <;> simp [field_foldl, field_each]))
@[simp] theorem State_stopPlan_field (s : State) :
    (State.stopPlan s).field = s.field := by simp [State.stopPlan]
@[simp] theorem State_restMeasure_field (s : State) :
    (State.restMeasure s).field = s.field := by
  unfold State.restMeasure; (repeat' split) <;> simp [field_foldl, field_each]
@[simp] theorem State_planMeasure_field (s : State) (late : List DieIx) (m : Nat) :
    (State.planMeasure s late m).field = s.field := by
  unfold State.planMeasure; (repeat' split) <;> simp [field_foldl, field_each]
@[simp] theorem State_countAt_field (s : State) (m : Nat) :
    (State.countAt s m).field = s.field := by simp [State.countAt]
@[simp] theorem State_hubDownbeat_field (s : State) (late : List DieIx) :
    (State.hubDownbeat s late).field = s.field := by
  unfold State.hubDownbeat; dsimp only; (repeat' split) <;> simp [field_foldl, field_each]
@[simp] theorem State_rimDownbeat_field (s : State) :
    (State.rimDownbeat s).field = s.field := by
  unfold State.rimDownbeat; extract_lets v1; clear_value v1; (first | (simp [field_foldl, field_each]; done) | ((repeat' split) <;> simp [field_foldl, field_each]))
@[simp] theorem State_notePower_field (s : State) :
    (State.notePower s).field = s.field := by simp [State.notePower]
@[simp] theorem State_reloadCopies_field (s : State) (done : Bool) :
    (State.reloadCopies s done).field = s.field := by unfold State.reloadCopies; split <;> simp
@[simp] theorem downbeat_field (x : DownIn) (s : State) :
    (downbeat x s).field = s.field := by simp [downbeat]

/-! ### Boot -/

@[simp] theorem State_putCopy_field (s : State) (copy : Nat) (b : CfgBlock) :
    (State.putCopy s copy b).field = s.field := by simp [State.putCopy]
@[simp] theorem State_loadBlock_field (s : State) (id : Nat) :
    (State.loadBlock s id).field = s.field := by
  unfold State.loadBlock; (repeat' split) <;> simp [field_foldl, field_each]
@[simp] theorem State_linkDefaults_field (s : State) :
    (State.linkDefaults s).field = s.field := by
  unfold State.linkDefaults; (repeat' split) <;> simp [field_foldl, field_each]
@[simp] theorem State_loadConfig_field (s : State) :
    (State.loadConfig s).field = s.field := by
  unfold State.loadConfig; dsimp only; (repeat' split) <;> simp [field_foldl, field_each]
@[simp] theorem State_romRecovery_field (s : State) :
    (State.romRecovery s).field = s.field := by simp [State.romRecovery]
@[simp] theorem State_openPorts_field (s : State) :
    (State.openPorts s).field = s.field := by unfold State.openPorts; (repeat' split) <;> simp [field_foldl, field_each]
@[simp] theorem State_startWipe_field (s : State) (cause : Nat) :
    (State.startWipe s cause).field = s.field := by
  unfold State.startWipe; (repeat' split) <;> simp [field_foldl, field_each]
@[simp] theorem tamper_field (s : State) :
    (tamper s).field = s.field := by simp [tamper]
@[simp] theorem thermalWarning_field (s : State) :
    (thermalWarning s).field = s.field := by simp [thermalWarning]
@[simp] theorem thermalTrip_field (cls : Nat) (unit' : Nat) (sensor : Nat) (temp : Nat) (s : State) :
    (thermalTrip cls unit' sensor temp s).field = s.field := by simp [thermalTrip]
@[simp] theorem pmbusPoll_field (vin : Nat) (iin : Nat) (temp : Nat) (fault : Bool) (s : State) :
    (pmbusPoll vin iin temp fault s).field = s.field := by simp [pmbusPoll]

/-! ### Faults -/

@[simp] theorem State_laterReason_field (s : State) (r : Raised) :
    (State.laterReason s r).field = s.field := by simp [State.laterReason]
@[simp] theorem State_latchFatal_field (s : State) (r : Raised) :
    (State.latchFatal s r).field = s.field := by simp [State.latchFatal]
@[simp] theorem State_openFault_field (s : State) (r : Raised) :
    (State.openFault s r).field = s.field := by simp [State.openFault]
@[simp] theorem fatalReport_field (s : State) :
    (fatalReport s).field = s.field := by simp [fatalReport]
@[simp] theorem flashSummary_field (s : State) :
    (flashSummary s).field = s.field := by simp [flashSummary]
@[simp] theorem faultStatus_field (f : Fetched) (s : State) :
    (faultStatus f s).field = s.field := by simp [faultStatus]
@[simp] theorem faultClear_field (f : Fetched) (s : State) :
    (faultClear f s).field = s.field := by simp [faultClear]

/-! ### Telemetry -/

@[simp] theorem State_streamModule_field (s : State) (n : Nat) (b : List Byte) :
    (State.streamModule s n b).field = s.field := by simp [State.streamModule]
@[simp] theorem State_nextPeriod_field (s : State) :
    (State.nextPeriod s).field = s.field := by simp [State.nextPeriod]
@[simp] theorem State_readAges_field (s : State) (xs : List (BitVec 16 × BitVec 16)) :
    (State.readAges s xs).field = s.field := by
  unfold State.readAges; (repeat' split) <;> simp [field_foldl, field_each]
@[simp] theorem State_publishLife_field (s : State) :
    (State.publishLife s).field = s.field := by simp [State.publishLife]
@[simp] theorem telRead_field (f : Fetched) (s : State) :
    (telRead f s).field = s.field := by unfold telRead; split <;> simp

/-! ### Mailbox -/

@[simp] theorem State_lockDenied_field (s : State) (m : Nat) :
    (State.lockDenied s m).field = s.field := by simp [State.lockDenied]
@[simp] theorem lockRead_field (a : Agent) (m : Nat) (s : State) :
    (lockRead a m s).field = s.field := by
  unfold lockRead; extract_lets v1; clear_value v1; (first | (simp [field_foldl, field_each]; done) | ((repeat' split) <;> simp [field_foldl, field_each]))
@[simp] theorem lockWrite_field (a : Agent) (m : Nat) (v : Nat) (s : State) :
    (lockWrite a m v s).field = s.field := by
  unfold lockWrite; extract_lets v1; clear_value v1; (first | (simp [field_foldl, field_each]; done) | ((repeat' split) <;> simp [field_foldl, field_each]))
@[simp] theorem doorbell_field (a : Agent) (m : Nat) (len : Nat) (s : State) :
    (doorbell a m len s).field = s.field := by simp [doorbell]
@[simp] theorem bufferWrite_field (a : Agent) (m : Nat) (k : Nat) (v : Word) (s : State) :
    (bufferWrite a m k v s).field = s.field := by simp [bufferWrite]
@[simp] theorem State_answer_field (s : State) (m : Nat) (status : Nat) (body : List Byte) :
    (State.answer s m status body).field = s.field := by simp [State.answer]
@[simp] theorem State_endRequest_field (s : State) (m : Nat) :
    (State.endRequest s m).field = s.field := by
  unfold State.endRequest; dsimp only; (repeat' split) <;> simp [field_foldl, field_each]
@[simp] theorem respond_field (m : Nat) (x : Answer) (s : State) :
    (respond m x s).field = s.field := by simp [respond]
@[simp] theorem fwCommit_field (m : Nat) (x : ImageCheck) (s : State) :
    (fwCommit m x s).field = s.field := by simp [fwCommit]
@[simp] theorem cfgRead_field (m : Nat) (id : Nat) (s : State) :
    (cfgRead m id s).field = s.field := by
  unfold cfgRead; extract_lets v1; clear_value v1; (first | (simp [field_foldl, field_each]; done) | ((repeat' split) <;> simp [field_foldl, field_each]))
@[simp] theorem cfgWrite_field (m : Nat) (id : Nat) (version : Nat) (body : List Byte) (done : Nat) (s : State) :
    (cfgWrite m id version body done s).field = s.field := by
  unfold cfgWrite; (repeat' split) <;> simp [field_foldl, field_each]
@[simp] theorem fenceService_field (m : Nat) (mask : Nat) (set' : Bool) (s : State) :
    (fenceService m mask set' s).field = s.field := by
  unfold fenceService; extract_lets v1; clear_value v1; (first | (simp [field_foldl, field_each]; done) | ((repeat' split) <;> simp [field_foldl, field_each]))
@[simp] theorem State_lcDenied_field (s : State) (reason : Nat) :
    (State.lcDenied s reason).field = s.field := by simp [State.lcDenied]
@[simp] theorem secureRead_field (m : Nat) (off : Nat) (n : Nat) (s : State) :
    (secureRead m off n s).field = s.field := by simp [secureRead]

/-! ### RegAccess -/

@[simp] theorem State_writeField_field (s : State) (f : RegField) (i : Nat) (v : Nat) :
    (State.writeField s f i v).field = s.field := by unfold State.writeField; split <;> simp
@[simp] theorem State_writeReg_field (s : State) (r : Reg) (i : Nat) (v : Nat) :
    (State.writeReg s r i v).field = s.field := by
  unfold State.writeReg; (repeat' split) <;> simp [field_foldl, field_each]
@[simp] theorem State_secDenied_field (s : State) (a : Agent) :
    (State.secDenied s a).field = s.field := by simp [State.secDenied]

end Sys2Proof.Machine
end

