-- ==== Sys2Proof/Laws/FieldExec.lean ====
section
/-! SUPPORT. The commands that keep the memories, the tiles and the die network. -/

namespace Sys2Proof.Machine

@[simp] theorem snd_ite_field {α : Type} (c : Prop) [Decidable c] (a b : α × State) :
    (if c then a else b).2.field = if c then a.2.field else b.2.field := by split <;> rfl

/-- A meaning that, where it answers a next state, leaves the memories, the tiles and the die network as they were. -/
def FKept (s : State) (o : Host.Outcome State Fault Refusal) : Prop := ∀ t, o = .next t → t.field = s.field

theorem fault_fkept {s : State} {f : Fault} : FKept s (.fault f) := by intro t h; cases h
theorem next_fkept {s t : State} (h : t.field = s.field) : FKept s (.next t) := by intro u e; cases e; exact h

theorem occurs_fkept {g : Bool} {f : State → State} {s : State} (hf : ∀ s, (f s).field = s.field) :
    FKept s (occurs g f s) := by
  unfold occurs
  split
  · exact next_fkept (by rw [hf]; rfl)
  · exact next_fkept rfl

theorem hostCommand_fkept {op : Nat} {q : QueueIx} {cid : Cid} {body : Fetched → State → State} {s : State}
    (hf : ∀ f s, (body f s).field = s.field) : FKept s (hostCommand op q cid body s) := by
  unfold hostCommand
  split
  · exact occurs_fkept (fun _ => rfl)
  · exact occurs_fkept (hf _)


theorem execRefLost_fkept (s : State) : FKept s (execRefLost s) := by
  unfold execRefLost; exact occurs_fkept (by intros; simp)
theorem execRefclkPodReturn_fkept (s : State) : FKept s (execRefclkPodReturn s) := by
  unfold execRefclkPodReturn; exact occurs_fkept (by intros; simp)
theorem execTimeWord_fkept (p : PortIx) (frac : BitVec 16) (s : State) : FKept s (execTimeWord p frac s) := by
  unfold execTimeWord; split; exacts [occurs_fkept (by intros; rfl), occurs_fkept (by intros; simp)]
theorem execHoldover_fkept (s : State) : FKept s (execHoldover s) := by
  unfold execHoldover; exact occurs_fkept (by intros; simp)
theorem execBeatCtrlWrite_fkept (a : Agent) (v : Word) (s : State) : FKept s (execBeatCtrlWrite a v s) := by
  unfold execBeatCtrlWrite; exact occurs_fkept (by intros; simp)
theorem execLimitLock_fkept (a : Agent) (s : State) : FKept s (execLimitLock a s) := by
  unfold execLimitLock; exact occurs_fkept (by intros; simp)
theorem execBeatCountLoRead_fkept (a : Agent) (frac : BitVec 16) (s : State) :
    FKept s (execBeatCountLoRead a frac s) := by
  unfold execBeatCountLoRead; exact occurs_fkept (by intros; simp)
theorem execFsetWrite_fkept (r : RegionIx) (v : Word) (s : State) : FKept s (execFsetWrite r v s) := by
  unfold execFsetWrite; exact occurs_fkept (by intros; simp)
theorem execRegionClockRestart_fkept (r : RegionIx) (s : State) : FKept s (execRegionClockRestart r s) := by
  unfold execRegionClockRestart; split; exacts [occurs_fkept (by intros; rfl), occurs_fkept (by intros; simp)]
theorem execCrossingOverflow_fkept (r : RegionIx) (s : State) : FKept s (execCrossingOverflow r s) := by
  unfold execCrossingOverflow; exact occurs_fkept (by intros; simp)
theorem execLinkDetect_fkept (p : PortIx) (s : State) : FKept s (execLinkDetect p s) := by
  unfold execLinkDetect; exact occurs_fkept (by intros; simp)
theorem execIdentifyBlock_fkept (p : PortIx) (b : Vector Byte 64) (s : State) : FKept s (execIdentifyBlock p b s) := by
  unfold execIdentifyBlock; exact occurs_fkept (by intros; simp)
theorem execEqualizeDone_fkept (p : PortIx) (ok : Bool) (s : State) : FKept s (execEqualizeDone p ok s) := by
  unfold execEqualizeDone; exact occurs_fkept (by intros; simp)
theorem execLaneCheckDone_fkept (p : PortIx) (mask : BitVec 8) (s : State) : FKept s (execLaneCheckDone p mask s) := by
  unfold execLaneCheckDone; exact occurs_fkept (by intros; simp)
theorem execFecAlignDone_fkept (p : PortIx) (s : State) : FKept s (execFecAlignDone p s) := by
  unfold execFecAlignDone; exact occurs_fkept (by intros; simp)
theorem execFlitSyncDone_fkept (p : PortIx) (s : State) : FKept s (execFlitSyncDone p s) := by
  unfold execFlitSyncDone; exact occurs_fkept (by intros; simp)
theorem execTrainingTimeout_fkept (p : PortIx) (s : State) : FKept s (execTrainingTimeout p s) := by
  unfold execTrainingTimeout; split; exacts [occurs_fkept (by intros; rfl), occurs_fkept (by intros; simp)]
theorem execIdleHoldExpiry_fkept (p : PortIx) (s : State) : FKept s (execIdleHoldExpiry p s) := by
  unfold execIdleHoldExpiry; exact occurs_fkept (by intros; simp)
theorem execLnkCtrlReset_fkept (p : PortIx) (v : Word) (s : State) : FKept s (execLnkCtrlReset p v s) := by
  unfold execLnkCtrlReset; exact occurs_fkept (by intros; simp)
theorem execLnkCtrlEnable_fkept (p : PortIx) (v : Word) (s : State) : FKept s (execLnkCtrlEnable p v s) := by
  unfold execLnkCtrlEnable; exact occurs_fkept (by intros; simp)
theorem execCfgLock_fkept (p : PortIx) (v : Word) (s : State) : FKept s (execCfgLock p v s) := by
  unfold execCfgLock; exact occurs_fkept (by intros; simp)
theorem execLnkCfgWrite_fkept (p : PortIx) (v : Word) (s : State) : FKept s (execLnkCfgWrite p v s) := by
  unfold execLnkCfgWrite; exact occurs_fkept (by intros; simp)
theorem execLnkTimerWrite_fkept (p : PortIx) (v : Word) (s : State) : FKept s (execLnkTimerWrite p v s) := by
  unfold execLnkTimerWrite; exact occurs_fkept (by intros; simp)
theorem execLnkPeerLoRead_fkept (a : Agent) (p : PortIx) (s : State) : FKept s (execLnkPeerLoRead a p s) := by
  unfold execLnkPeerLoRead; exact occurs_fkept (by intros; simp)
theorem execLaneLockLost_fkept (p : PortIx) (lane : Fin 8) (s : State) : FKept s (execLaneLockLost p lane s) := by
  unfold execLaneLockLost; exact occurs_fkept (by intros; simp)
theorem execLaneLockRegained_fkept (p : PortIx) (lane : Fin 8) (s : State) :
    FKept s (execLaneLockRegained p lane s) := by
  unfold execLaneLockRegained; exact occurs_fkept (by intros; simp)
theorem execLockLoss_fkept (p : PortIx) (s : State) : FKept s (execLockLoss p s) := by
  unfold execLockLoss; exact occurs_fkept (by intros; simp)
theorem execEyeMarginUpdate_fkept (p : PortIx) (margin : BitVec 8) (lane : Fin 8) (s : State) :
    FKept s (execEyeMarginUpdate p margin lane s) := by
  unfold execEyeMarginUpdate; exact occurs_fkept (by intros; simp)
theorem onCtrl_fkept {p typ : Nat} {f : Ctrl → State → State} {s : State} (hf : ∀ c s, (f c s).field = s.field) :
    FKept s (onCtrl p typ f s) := by
  unfold onCtrl
  split
  · exact occurs_fkept (fun _ => rfl)
  · exact occurs_fkept (by intro s; simp [hf])

theorem execRepeatSend_fkept (p : PortIx) (s : State) : FKept s (execRepeatSend p s) := by
  unfold execRepeatSend; exact occurs_fkept (by intros; simp)
theorem execNak_fkept (p : PortIx) (s : State) : FKept s (execNak p s) := onCtrl_fkept (by intros; simp)
theorem execSnak_fkept (p : PortIx) (s : State) : FKept s (execSnak p s) := onCtrl_fkept (by intros; simp)
theorem execCredit_fkept (p : PortIx) (s : State) : FKept s (execCredit p s) := onCtrl_fkept (by intros; simp)
theorem execCreditQuery_fkept (p : PortIx) (s : State) : FKept s (execCreditQuery p s) := onCtrl_fkept (by intros; simp)
theorem execCreditSend_fkept (p : PortIx) (s : State) : FKept s (execCreditSend p s) := by
  unfold execCreditSend; exact occurs_fkept (by intros; simp)
theorem execCreditTimeout_fkept (p : PortIx) (v : Fin 8) (s : State) : FKept s (execCreditTimeout p v s) := by
  unfold execCreditTimeout; exact occurs_fkept (by intros; simp)
theorem execResetReq_fkept (p : PortIx) (s : State) : FKept s (execResetReq p s) := by
  unfold execResetReq; split; exacts [occurs_fkept (by intros; rfl), occurs_fkept (by intros; simp)]
theorem execReplayTimeout_fkept (p : PortIx) (s : State) : FKept s (execReplayTimeout p s) := by
  unfold execReplayTimeout; exact occurs_fkept (by intros; simp)
theorem execGapTimeout_fkept (p : PortIx) (s : State) : FKept s (execGapTimeout p s) := by
  unfold execGapTimeout; exact occurs_fkept (by intros; simp)
theorem execToll_fkept (r : RimIx) (s : State) : FKept s (execToll r s) := by
  unfold execToll; split; exacts [occurs_fkept (by intros; rfl), occurs_fkept (by intros; simp)]
theorem execHubTollReceive_fkept (s : State) : FKept s (execHubTollReceive s) := by
  unfold execHubTollReceive; split; exacts [occurs_fkept (by intros; rfl), occurs_fkept (by intros; simp)]
theorem execSeenEntryRetire_fkept (r : RimIx) (s : State) : FKept s (execSeenEntryRetire r s) := by
  unfold execSeenEntryRetire; exact occurs_fkept (by intros; simp)
theorem execFinish_fkept (p : PortIx) (s : State) : FKept s (execFinish p s) := by
  unfold execFinish; split; exacts [occurs_fkept (by intros; rfl), occurs_fkept (by intros; simp)]
theorem execStatsClear_fkept (v : Word) (s : State) : FKept s (execStatsClear v s) := by
  unfold execStatsClear; exact occurs_fkept (by intros; simp)
theorem execPlnLoRead_fkept (a : Agent) (which : Fin 3) (s : State) : FKept s (execPlnLoRead a which s) := by
  unfold execPlnLoRead; exact occurs_fkept (by intros; simp)
theorem execFlitTime_fkept (p : PortIx) (ft : Fin 512) (s : State) : FKept s (execFlitTime p ft s) := by
  unfold execFlitTime; exact occurs_fkept (by intros; simp)
theorem execLinkBroken_fkept (p : PortIx) (s : State) : FKept s (execLinkBroken p s) := by
  unfold execLinkBroken; exact occurs_fkept (by intros; simp)
theorem execTableScrub_fkept (r : RimIx) (s : State) : FKept s (execTableScrub r s) := by
  unfold execTableScrub; exact occurs_fkept (by intros; simp)
theorem onArrival_fkept {q : Nat → Bool} {f : Nat → Packet → State → State} {s : State}
    (hf : ∀ p k s, (f p k s).field = s.field) : FKept s (onArrival q f s) := by
  unfold onArrival
  split
  · exact occurs_fkept (fun _ => rfl)
  · exact occurs_fkept (by intro s; simp [hf])

theorem execContextRequest_fkept (c : ContextSide) (s : State) : FKept s (execContextRequest c s) := by
  unfold execContextRequest
  split
  · exact occurs_fkept (by intros; simp)
  · exact onArrival_fkept (by intros; simp)
theorem execGrant_fkept (s : State) : FKept s (execGrant s) := onArrival_fkept (by intros; simp)
theorem execGrantSend_fkept (source : BitVec 16) (vc : Fin 8) (s : State) : FKept s (execGrantSend source vc s) := by
  unfold execGrantSend; split; exacts [occurs_fkept (by intros; rfl), occurs_fkept (by intros; simp)]
theorem execOrderRestoration_fkept (s : State) : FKept s (execOrderRestoration s) := onArrival_fkept (by intros; simp)
theorem execRelease_fkept (s : State) : FKept s (execRelease s) := onArrival_fkept (by intros; simp)
theorem execIdleRelease_fkept (dest : BitVec 16) (vc : Fin 8) (s : State) : FKept s (execIdleRelease dest vc s) := by
  unfold execIdleRelease; split; exacts [occurs_fkept (by intros; rfl), occurs_fkept (by intros; simp)]
theorem execAbort_fkept (s : State) : FKept s (execAbort s) := onArrival_fkept (by intros; simp)
theorem execEscape_fkept (vc : Fin 8) (s : State) : FKept s (execEscape vc s) := by
  unfold execEscape; split; exacts [occurs_fkept (by intros; rfl), occurs_fkept (by intros; simp)]
theorem execRteFenceWrite_fkept (a : Agent) (hi : Bool) (v : Word) (s : State) :
    FKept s (execRteFenceWrite a hi v s) := by
  unfold execRteFenceWrite; exact occurs_fkept (by intros; simp)
theorem execRteTblAddrWrite_fkept (a : Agent) (v : Word) (s : State) : FKept s (execRteTblAddrWrite a v s) := by
  unfold execRteTblAddrWrite; exact occurs_fkept (by intros; simp)
theorem execRteTblDataHiWrite_fkept (a : Agent) (v : Word) (s : State) : FKept s (execRteTblDataHiWrite a v s) := by
  unfold execRteTblDataHiWrite; exact occurs_fkept (by intros; simp)
theorem execPatrolScrub_fkept (st : StackIx) (unit' : Nat) (found : Fin 3) (s : State) :
    FKept s (execPatrolScrub st unit' found s) := by
  unfold execPatrolScrub; exact occurs_fkept (by intros; simp)
theorem execT1StackFail_fkept (st : StackIx) (s : State) : FKept s (execT1StackFail st s) := by
  unfold execT1StackFail; exact occurs_fkept (by intros; simp)
theorem execT2ChannelFail_fkept (c : ChannelIx) (s : State) : FKept s (execT2ChannelFail c s) := by
  unfold execT2ChannelFail; exact occurs_fkept (by intros; simp)
theorem execFldSpadSecureWrite_fkept (a : Agent) (d : DieIx) (v : Word) (s : State) :
    FKept s (execFldSpadSecureWrite a d v s) := by
  unfold execFldSpadSecureWrite; exact occurs_fkept (by intros; simp)
theorem execPlanLimitLoWrite_fkept (tier2 : Bool) (v : Word) (s : State) :
    FKept s (execPlanLimitLoWrite tier2 v s) := by
  unfold execPlanLimitLoWrite; exact occurs_fkept (by intros; simp)
theorem execPlanLimitHiWrite_fkept (tier2 : Bool) (v : Word) (s : State) :
    FKept s (execPlanLimitHiWrite tier2 v s) := by
  unfold execPlanLimitHiWrite; exact occurs_fkept (by intros; simp)
theorem execHbmTtmLoRead_fkept (a : Agent) (r : TierLo) (s : State) : FKept s (execHbmTtmLoRead a r s) := by
  unfold execHbmTtmLoRead
  exact occurs_fkept (by intro s; split <;> (try split) <;> simp)
theorem execInterfaceEnable_fkept (s : State) : FKept s (execInterfaceEnable s) := by
  unfold execInterfaceEnable; exact occurs_fkept (by intros; simp)
theorem execInterfaceDisable_fkept (s : State) : FKept s (execInterfaceDisable s) := by
  unfold execInterfaceDisable; exact occurs_fkept (by intros; simp)
theorem execSqDoorbell_fkept (q : QueueIx) (v : Word) (s : State) : FKept s (execSqDoorbell q v s) := by
  unfold execSqDoorbell; exact occurs_fkept (by intros; simp)
theorem execCqDoorbell_fkept (q : QueueIx) (v : Word) (s : State) : FKept s (execCqDoorbell q v s) := by
  unfold execCqDoorbell; exact occurs_fkept (by intros; simp)
theorem execEventRingDoorbell_fkept (v : Word) (s : State) : FKept s (execEventRingDoorbell v s) := by
  unfold execEventRingDoorbell; exact occurs_fkept (by intros; simp)
theorem execCommandFetch_fkept (q : QueueIx) (slots : Vector Byte 128) (heads : Vector (Fin 4) 64) (s : State) :
    FKept s (execCommandFetch q slots heads s) := by
  unfold execCommandFetch; split; exacts [occurs_fkept (by intros; rfl), occurs_fkept (by intros; simp)]
theorem execNopCommand_fkept (q : QueueIx) (cid : Cid) (s : State) : FKept s (execNopCommand q cid s) := by
  unfold execNopCommand; exact hostCommand_fkept (by intros; simp)
theorem execIdentify_fkept (q : QueueIx) (cid : Cid) (s : State) : FKept s (execIdentify q cid s) := by
  unfold execIdentify; exact hostCommand_fkept (by intros; simp)
theorem execFeatureGet_fkept (q : QueueIx) (cid : Cid) (s : State) : FKept s (execFeatureGet q cid s) := by
  unfold execFeatureGet; exact hostCommand_fkept (by intros; simp)
theorem execQueueCreate_fkept (q : QueueIx) (cid : Cid) (s : State) : FKept s (execQueueCreate q cid s) := by
  unfold execQueueCreate; exact hostCommand_fkept (by intros; simp)
theorem execQueueDelete_fkept (q : QueueIx) (cid : Cid) (s : State) : FKept s (execQueueDelete q cid s) := by
  unfold execQueueDelete; exact hostCommand_fkept (by intros; simp)
theorem execFence_fkept (q : QueueIx) (cid : Cid) (s : State) : FKept s (execFence q cid s) := by
  unfold execFence; exact hostCommand_fkept (by intros; simp)
theorem execPortStatus_fkept (q : QueueIx) (cid : Cid) (s : State) : FKept s (execPortStatus q cid s) := by
  unfold execPortStatus; exact hostCommand_fkept (by intros; simp)
theorem execPortReset_fkept (q : QueueIx) (cid : Cid) (s : State) : FKept s (execPortReset q cid s) := by
  unfold execPortReset; exact hostCommand_fkept (by intros; simp)
theorem execPortEnable_fkept (q : QueueIx) (cid : Cid) (s : State) : FKept s (execPortEnable q cid s) := by
  unfold execPortEnable; exact hostCommand_fkept (by intros; simp)
theorem execDmaComplete_fkept (q : QueueIx) (cid : Cid) (s : State) : FKept s (execDmaComplete q cid s) := by
  unfold execDmaComplete; split; exacts [occurs_fkept (by intros; rfl), occurs_fkept (by intros; simp)]
theorem execBar0InvalidAccess_fkept (write : Bool) (s : State) : FKept s (execBar0InvalidAccess write s) := by
  unfold execBar0InvalidAccess; exact occurs_fkept (by intros; simp)
theorem execReservedOffsetAccess_fkept (write : Bool) (s : State) : FKept s (execReservedOffsetAccess write s) := by
  unfold execReservedOffsetAccess; exact occurs_fkept (by intros; simp)
theorem execHstLoRead_fkept (a : Agent) (which : Fin 3) (s : State) : FKept s (execHstLoRead a which s) := by
  unfold execHstLoRead; exact occurs_fkept (by intros; simp)
theorem execPcieLinkDown_fkept (s : State) : FKept s (execPcieLinkDown s) := by
  unfold execPcieLinkDown; exact occurs_fkept (by intros; simp)
theorem execPlanArm_fkept (q : QueueIx) (cid : Cid) (s : State) : FKept s (execPlanArm q cid s) := by
  unfold execPlanArm; exact hostCommand_fkept (by intros; simp)
theorem execStopAtMeasure_fkept (q : QueueIx) (cid : Cid) (s : State) : FKept s (execStopAtMeasure q cid s) := by
  unfold execStopAtMeasure; exact hostCommand_fkept (by intros; simp)
theorem execPlanStatus_fkept (q : QueueIx) (cid : Cid) (s : State) : FKept s (execPlanStatus q cid s) := by
  unfold execPlanStatus; exact hostCommand_fkept (by intros; simp)
theorem execRegionCheck_fkept (ps : Word) (s : State) : FKept s (execRegionCheck ps s) := by
  unfold execRegionCheck; exact occurs_fkept (by intros; simp)
theorem execStopDrainComplete_fkept (s : State) : FKept s (execStopDrainComplete s) := by
  unfold execStopDrainComplete; split; exacts [occurs_fkept (by intros; rfl), occurs_fkept (by intros; simp)]
theorem execStopDrainTimeout_fkept (s : State) : FKept s (execStopDrainTimeout s) := by
  unfold execStopDrainTimeout; split; exacts [occurs_fkept (by intros; rfl), occurs_fkept (by intros; simp)]
theorem execSlotWrite_fkept (q : QueueIx) (cid : Cid) (s : State) : FKept s (execSlotWrite q cid s) := by
  unfold execSlotWrite; exact hostCommand_fkept (by intros; simp)
theorem execSlotClear_fkept (q : QueueIx) (cid : Cid) (s : State) : FKept s (execSlotClear q cid s) := by
  unfold execSlotClear; exact hostCommand_fkept (by intros; simp)
theorem execHeadsGate_fkept (q : QueueIx) (cid : Cid) (s : State) : FKept s (execHeadsGate q cid s) := by
  unfold execHeadsGate; exact hostCommand_fkept (by intros; simp)
theorem execSlotRead_fkept (q : QueueIx) (cid : Cid) (s : State) : FKept s (execSlotRead q cid s) := by
  unfold execSlotRead; exact hostCommand_fkept (by intros; simp)
theorem execServingResultLost_fkept (k : Fin 64) (s : State) : FKept s (execServingResultLost k s) := by
  unfold execServingResultLost; split; exacts [occurs_fkept (by intros; rfl), occurs_fkept (by intros; simp)]
theorem execServingBuildLate_fkept (k : Fin 64) (s : State) : FKept s (execServingBuildLate k s) := by
  unfold execServingBuildLate; split; exacts [occurs_fkept (by intros; rfl), occurs_fkept (by intros; simp)]
theorem execSrvOutHeadWrite_fkept (v : Word) (s : State) : FKept s (execSrvOutHeadWrite v s) := by
  unfold execSrvOutHeadWrite; exact occurs_fkept (by intros; simp)
theorem execFieldResetComplete_fkept (s : State) : FKept s (execFieldResetComplete s) := by
  unfold execFieldResetComplete; exact occurs_fkept (by intros; simp)
theorem execResetPackage_fkept (q : QueueIx) (cid : Cid) (s : State) : FKept s (execResetPackage q cid s) := by
  unfold execResetPackage; (repeat' split) <;>
    (first | exact fault_fkept | exact occurs_fkept (by intros; simp) | exact hostCommand_fkept (by intros; simp) | exact next_fkept (by simp))
theorem execUndervoltage_fkept (s : State) : FKept s (execUndervoltage s) := by
  unfold execUndervoltage; exact occurs_fkept (by intros; simp)
theorem execPerstAssert_fkept (s : State) : FKept s (execPerstAssert s) := by
  unfold execPerstAssert; exact occurs_fkept (by intros; simp)
theorem execPerstRelease_fkept (s : State) : FKept s (execPerstRelease s) := by
  unfold execPerstRelease; exact occurs_fkept (by intros; simp)
theorem execDownbeat_fkept (x : DownIn) (s : State) : FKept s (execDownbeat x s) := by
  unfold execDownbeat; exact occurs_fkept (by intros; simp)
theorem execAttention_fkept (s : State) : FKept s (execAttention s) := by
  unfold execAttention; exact occurs_fkept (by intros; simp)
theorem execTamper_fkept (s : State) : FKept s (execTamper s) := by
  unfold execTamper; exact occurs_fkept (by intros; simp)
theorem execTamperDeassert_fkept (s : State) : FKept s (execTamperDeassert s) := by
  unfold execTamperDeassert; exact occurs_fkept (by intros; simp)
theorem execThermalWarning_fkept (cls : Fin 7) (temp : BitVec 8) (s : State) :
    FKept s (execThermalWarning cls temp s) := by
  unfold execThermalWarning; exact occurs_fkept (by intros; simp)
theorem execThermalTrip_fkept (cls : Fin 7) (unit' : Fin 16) (sensor : Fin 128) (temp : BitVec 8) (s : State) :
    FKept s (execThermalTrip cls unit' sensor temp s) := by
  unfold execThermalTrip; exact occurs_fkept (by intros; simp)
theorem execPowerStageOff_fkept (s : State) : FKept s (execPowerStageOff s) := by
  unfold execPowerStageOff; exact occurs_fkept (by intros; simp)
theorem execPmbusPoll_fkept (vin iin temp : BitVec 8) (fault : Bool) (s : State) :
    FKept s (execPmbusPoll vin iin temp fault s) := by
  unfold execPmbusPoll; exact occurs_fkept (by intros; simp)
theorem execFatalReport_fkept (s : State) : FKept s (execFatalReport s) := by
  unfold execFatalReport; exact occurs_fkept (by intros; simp)
theorem execReportRepeat_fkept (s : State) : FKept s (execReportRepeat s) := by
  unfold execReportRepeat; split; exacts [occurs_fkept (by intros; rfl), occurs_fkept (by intros; simp)]
theorem execFlashSummary_fkept (s : State) : FKept s (execFlashSummary s) := by
  unfold execFlashSummary; exact occurs_fkept (by intros; simp)
theorem execFaultStatus_fkept (q : QueueIx) (cid : Cid) (s : State) : FKept s (execFaultStatus q cid s) := by
  unfold execFaultStatus; exact hostCommand_fkept (by intros; simp)
theorem execFaultClear_fkept (q : QueueIx) (cid : Cid) (s : State) : FKept s (execFaultClear q cid s) := by
  unfold execFaultClear; exact hostCommand_fkept (by intros; simp)
theorem execFltFatalBeatLoRead_fkept (a : Agent) (s : State) : FKept s (execFltFatalBeatLoRead a s) := by
  unfold execFltFatalBeatLoRead; exact occurs_fkept (by intros; simp)
theorem execTelRead_fkept (q : QueueIx) (cid : Cid) (s : State) : FKept s (execTelRead q cid s) := by
  unfold execTelRead; exact hostCommand_fkept (by intros; simp)
theorem execMailboxLockRead_fkept (a : Agent) (m : MbxIx) (s : State) : FKept s (execMailboxLockRead a m s) := by
  unfold execMailboxLockRead; exact occurs_fkept (by intros; simp)
theorem execMailboxLockWrite_fkept (a : Agent) (m : MbxIx) (v : Word) (s : State) :
    FKept s (execMailboxLockWrite a m v s) := by
  unfold execMailboxLockWrite; exact occurs_fkept (by intros; simp)
theorem execMailboxDoorbell_fkept (a : Agent) (m : MbxIx) (v : Word) (s : State) :
    FKept s (execMailboxDoorbell a m v s) := by
  unfold execMailboxDoorbell; exact occurs_fkept (by intros; simp)
theorem execMailboxBufferWrite_fkept (a : Agent) (m : MbxIx) (k : Fin 1008) (v : Word) (s : State) :
    FKept s (execMailboxBufferWrite a m k v s) := by
  unfold execMailboxBufferWrite; exact occurs_fkept (by intros; simp)
theorem execMailboxResponse_fkept (m : MbxIx) (s : State) : FKept s (execMailboxResponse m s) := by
  unfold execMailboxResponse; split; exacts [occurs_fkept (by intros; rfl), occurs_fkept (by intros; simp)]
theorem execFwUpdateCommit_fkept (m : MbxIx) (x : ImageCheck) (s : State) : FKept s (execFwUpdateCommit m x s) := by
  unfold execFwUpdateCommit; exact occurs_fkept (by intros; simp)
theorem execCfgBlockRead_fkept (m : MbxIx) (id : BitVec 16) (s : State) : FKept s (execCfgBlockRead m id s) := by
  unfold execCfgBlockRead; exact occurs_fkept (by intros; simp)
theorem execCfgBlockWrite_fkept (m : MbxIx) (id version : BitVec 16) (body : List Byte) (done : Fin 4) (s : State) :
    FKept s (execCfgBlockWrite m id version body done s) := by
  unfold execCfgBlockWrite; exact occurs_fkept (by intros; simp)
theorem execFenceService_fkept (m : MbxIx) (mask : BitVec 36) (set' : Bool) (s : State) :
    FKept s (execFenceService m mask set' s) := by
  unfold execFenceService; exact occurs_fkept (by intros; simp)
theorem execHealth_fkept (m : MbxIx) (s : State) : FKept s (execHealth m s) := by
  unfold execHealth; exact occurs_fkept (by intros; simp)
theorem execLcQuery_fkept (q : QueueIx) (cid : Cid) (s : State) : FKept s (execLcQuery q cid s) := by
  unfold execLcQuery; exact hostCommand_fkept (by intros; simp)
theorem execSecureStoreRead_fkept (m : MbxIx) (off n : Word) (s : State) : FKept s (execSecureStoreRead m off n s) := by
  unfold execSecureStoreRead; exact occurs_fkept (by intros; simp)


end Sys2Proof.Machine
end

