-- ==== Sys2Proof/Laws/KeptLink.lean ====
section
/-! SUPPORT. The queue, the fused values and the life-cycle transition are kept by the operations on registers, reports, the time base, links and toll. -/

namespace Sys2Proof.Machine

/-! ### Ops -/

@[simp] theorem State_set_ident (s : State) (f : RegField) (i : Nat) (v : Nat) :
    (State.set s f i v).ident = s.ident := by simp [State.set]
@[simp] theorem State_bump_ident (s : State) (f : RegField) (i : Nat) (n : Nat) :
    (State.bump s f i n).ident = s.ident := by simp [State.bump]
@[simp] theorem State_peak_ident (s : State) (f : RegField) (i : Nat) (v : Nat) :
    (State.peak s f i v).ident = s.ident := by simp [State.peak]
@[simp] theorem State_clear_ident (s : State) (f : RegField) (i : Nat) :
    (State.clear s f i).ident = s.ident := by simp [State.clear]
@[simp] theorem State_clearAll_ident (s : State) (fs : List RegField) (i : Nat) :
    (State.clearAll s fs i).ident = s.ident := by
  unfold State.clearAll; (repeat' split) <;> simp [ident_foldl, ident_each]
@[simp] theorem State_afterEvent_ident (s : State) (e : Ev) :
    (State.afterEvent s e).ident = s.ident := by simp [State.afterEvent]
@[simp] theorem State_offlineRead_ident (s : State) :
    (State.offlineRead s).ident = s.ident := by simp [State.offlineRead]
@[simp] theorem State_setPort_ident (s : State) (p : Nat) (x : LinkPort) :
    (State.setPort s p x).ident = s.ident := by simp [State.setPort]
@[simp] theorem State_emit_ident (s : State) (o : Output) :
    (State.emit s o).ident = s.ident := by simp [State.emit]
@[simp] theorem State_emitAll_ident (s : State) (os : List Output) :
    (State.emitAll s os).ident = s.ident := by simp [State.emitAll]
@[simp] theorem State_sendMsix_ident (s : State) (vector : Nat) :
    (State.sendMsix s vector).ident = s.ident := by simp [State.sendMsix]
@[simp] theorem State_draw_ident (s : State) :
    (State.draw s).2.ident = s.ident := by simp [State.draw]
@[simp] theorem State_latch_ident (s : State) (a : Agent) (r : Reg) (i : Nat) (v : Nat) :
    (State.latch s a r i v).ident = s.ident := by simp [State.latch]
@[simp] theorem State_unlatch_ident (s : State) (r : Reg) (i : Nat) :
    (State.unlatch s r i).ident = s.ident := by simp [State.unlatch]
@[simp] theorem State_sendReport_ident (s : State) (bytes : List Byte) :
    (State.sendReport s bytes).ident = s.ident := by simp [State.sendReport]
@[simp] theorem State_newReport_ident (s : State) (typ : Nat) (code : Nat) (detail : Nat) (planBeat : Nat) (planState : Nat) :
    (State.newReport s typ code detail planBeat planState).ident = s.ident := by simp [State.newReport]
@[simp] theorem State_writeEvent_ident (s : State) (typ : Nat) (body : List Byte) :
    (State.writeEvent s typ body).ident = s.ident := by simp [State.writeEvent]
@[simp] theorem State_flushLost_ident (s : State) :
    (State.flushLost s).ident = s.ident := by simp [State.flushLost]
@[simp] theorem State_event_ident (s : State) (typ : Nat) (body : List Byte) :
    (State.event s typ body).ident = s.ident := by simp [State.event]
@[simp] theorem State_warnWith_ident (s : State) (w : Warn) (detail : Nat) :
    (State.warnWith s w detail).ident = s.ident := by simp [State.warnWith]
@[simp] theorem State_warn_ident (s : State) (w : Warn) :
    (State.warn s w).ident = s.ident := by simp [State.warn]
@[simp] theorem State_raiseFatal_ident (s : State) (r : Fatal) (detail : Nat) :
    (State.raiseFatal s r detail).ident = s.ident := by simp [State.raiseFatal]
@[simp] theorem State_setPlanState_ident (s : State) (p : PlanState) :
    (State.setPlanState s p).ident = s.ident := by simp [State.setPlanState]
@[simp] theorem State_hostDenied_ident (s : State) :
    (State.hostDenied s).ident = s.ident := by simp [State.hostDenied]
@[simp] theorem State_freeLock_ident (s : State) (m : Nat) :
    (State.freeLock s m).ident = s.ident := by simp [State.freeLock]
@[simp] theorem State_releaseLock_ident (s : State) (m : Nat) :
    (State.releaseLock s m).ident = s.ident := by simp [State.releaseLock]
@[simp] theorem State_begin_ident (s : State) :
    (State.begin s).ident = s.ident := by simp [State.begin]

/-! ### LinkOps -/

@[simp] theorem State_modPort_ident (s : State) (p : Nat) (f : LinkPort → LinkPort) :
    (State.modPort s p f).ident = s.ident := by simp [State.modPort]
@[simp] theorem State_enter_ident (s : State) (p : Nat) (t : Train) :
    (State.enter s p t).ident = s.ident := by simp [State.enter]
@[simp] theorem State_sendCtrl_ident (s : State) (p : Nat) (typ : Nat) (short : List Byte) (body : List Byte) :
    (State.sendCtrl s p typ short body).ident = s.ident := by simp [State.sendCtrl]
@[simp] theorem State_sendNak_ident (s : State) (p : Nat) :
    (State.sendNak s p).ident = s.ident := by simp [State.sendNak]
@[simp] theorem State_freeOne_ident (s : State) (p : Nat) (vc : Nat) :
    (State.freeOne s p vc).ident = s.ident := by simp [State.freeOne]
@[simp] theorem State_sendCredit_ident (s : State) (p : Nat) :
    (State.sendCredit s p).ident = s.ident := by simp [State.sendCredit]
@[simp] theorem State_chooseMode_ident (s : State) (p : Nat) :
    (State.chooseMode s p).ident = s.ident := by simp [State.chooseMode]
@[simp] theorem State_rechoose_ident (s : State) (p : Nat) :
    (State.rechoose s p).ident = s.ident := by simp [State.rechoose]
@[simp] theorem State_fallBack_ident (s : State) (p : Nat) :
    (State.fallBack s p).ident = s.ident := by simp [State.fallBack]
@[simp] theorem State_reveal_ident (s : State) (p : Nat) (first : Nat) (seq : Nat) :
    (State.reveal s p first seq).ident = s.ident := by simp [State.reveal]
@[simp] theorem State_noteWindow_ident (s : State) (p : Nat) :
    (State.noteWindow s p).ident = s.ident := by simp [State.noteWindow]
@[simp] theorem State_releaseFlits_ident (s : State) (p : Nat) (n : Nat) :
    (State.releaseFlits s p n).ident = s.ident := by simp [State.releaseFlits]
@[simp] theorem State_takeAck_ident (s : State) (p : Nat) (ack : Nat) :
    (State.takeAck s p ack).ident = s.ident := by simp [State.takeAck]
@[simp] theorem State_modRouter_ident (s : State) (f : Router → Router) :
    (State.modRouter s f).ident = s.ident := id rfl
@[simp] theorem State_abortInputs_ident (s : State) (p : Nat) :
    (State.abortInputs s p).ident = s.ident := by
  unfold State.abortInputs
  dsimp only
  rw [State_modRouter_ident, ident_each (by intro s q; exact State_modPort_ident ..)]
@[simp] theorem State_untrain_ident (s : State) (p : Nat) :
    (State.untrain s p).ident = s.ident := id rfl
@[simp] theorem State_linkDown_ident (s : State) (p : Nat) (c : Down) :
    (State.linkDown s p c).ident = s.ident := by simp [State.linkDown]
@[simp] theorem State_closeLink_ident (s : State) (p : Nat) (c : Down) :
    (State.closeLink s p c).ident = s.ident := by simp [State.closeLink]
@[simp] theorem State_sendWords_ident (s : State) (p : Nat) (cs : List Ctrl) :
    (State.sendWords s p cs).ident = s.ident := by simp [State.sendWords]
@[simp] theorem State_closeIf_ident (s : State) (p : Nat) (cs : List Ctrl) :
    (State.closeIf s p cs).ident = s.ident := by unfold State.closeIf; split <;> simp
@[simp] theorem State_sendUrgent_ident (s : State) (p : Nat) :
    (State.sendUrgent s p).ident = s.ident := by simp [State.sendUrgent]
@[simp] theorem State_detect_ident (s : State) (p : Nat) :
    (State.detect s p).ident = s.ident := by simp [State.detect]
@[simp] theorem State_portReset_ident (s : State) (p : Nat) :
    (State.portReset s p).ident = s.ident := by unfold State.portReset; split <;> simp
@[simp] theorem State_portDisable_ident (s : State) (p : Nat) :
    (State.portDisable s p).ident = s.ident := by
  unfold State.portDisable; dsimp only; (repeat' split) <;> simp [ident_foldl, ident_each]
@[simp] theorem State_portEnable_ident (s : State) (p : Nat) :
    (State.portEnable s p).ident = s.ident := by simp [State.portEnable]
@[simp] theorem State_lnkCtrlWrite_ident (s : State) (p : Nat) (v : Nat) :
    (State.lnkCtrlWrite s p v).ident = s.ident := by simp [State.lnkCtrlWrite]
@[simp] theorem State_startPass_ident (s : State) (p : Nat) :
    (State.startPass s p).ident = s.ident := by simp [State.startPass]

/-! ### Time -/

@[simp] theorem State_setTime_ident (s : State) (t : TimeState) (depth : Nat) :
    (State.setTime s t depth).ident = s.ident := by simp [State.setTime]
@[simp] theorem machineBeat_ident (s : State) :
    (machineBeat s).ident = s.ident := by simp [machineBeat]
@[simp] theorem refLost_ident (s : State) :
    (refLost s).ident = s.ident := by simp [refLost]
@[simp] theorem refReturn_ident (s : State) :
    (refReturn s).ident = s.ident := by simp [refReturn]
@[simp] theorem skewCheck_ident (s : State) (p : Nat) (offset : Int) :
    (skewCheck s p offset).ident = s.ident := by simp [skewCheck]
@[simp] theorem fromParent_ident (s : State) (w : TimeWord) (rxBeat : Nat) (rxFrac : Nat) (offset : Int) :
    (fromParent s w rxBeat rxFrac offset).ident = s.ident := by
  unfold fromParent; extract_lets v1 v2; clear_value v2 v1; (first | (simp [ident_foldl, ident_each]; done) | ((repeat' split) <;> simp [ident_foldl, ident_each]))
@[simp] theorem timeWord_ident (p : Nat) (frac : Nat) (c : Ctrl) (rest : List Ctrl) (s : State) :
    (timeWord p frac c rest s).ident = s.ident := by
  unfold timeWord; dsimp only; (repeat' split) <;> simp [ident_foldl, ident_each]
@[simp] theorem holdover_ident (s : State) :
    (holdover s).ident = s.ident := by simp [holdover]
@[simp] theorem setTree_ident (root : Nat) (port : Nat) (valid : Nat) (s : State) :
    (setTree root port valid s).ident = s.ident := by
  unfold setTree; dsimp only; (repeat' split) <;> simp [ident_foldl, ident_each]
@[simp] theorem beatCtrlWrite_ident (a : Agent) (v : Nat) (s : State) :
    (beatCtrlWrite a v s).ident = s.ident := by simp [beatCtrlWrite]
@[simp] theorem beatCountLoRead_ident (a : Agent) (frac : Nat) (s : State) :
    (beatCountLoRead a frac s).ident = s.ident := by simp [beatCountLoRead]
@[simp] theorem State_armAll_ident (s : State) (code : Nat) :
    (State.armAll s code).ident = s.ident := by unfold State.armAll; (repeat' split) <;> simp [ident_foldl, ident_each]
@[simp] theorem State_applyAll_ident (s : State) (code : Nat) :
    (State.applyAll s code).ident = s.ident := by simp [State.applyAll]
@[simp] theorem fsetWrite_ident (r : Nat) (v : Nat) (s : State) :
    (fsetWrite r v s).ident = s.ident := by simp [fsetWrite]
@[simp] theorem regionRestart_ident (x : RegionStop) (s : State) :
    (regionRestart x s).ident = s.ident := by simp [regionRestart]

/-! ### LinkTraining -/

@[simp] theorem State_sendIdent_ident (s : State) (p : Nat) (mask : Nat) :
    (State.sendIdent s p mask).ident = s.ident := by simp [State.sendIdent]
@[simp] theorem State_trainFail_ident (s : State) (p : Nat) (code : Nat) :
    (State.trainFail s p code).ident = s.ident := by simp [State.trainFail]
@[simp] theorem linkDetect_ident (p : Nat) (s : State) :
    (linkDetect p s).ident = s.ident := by simp [linkDetect]
@[simp] theorem State_tlk2OrFail_ident (s : State) (p : Nat) (code : Nat) :
    (State.tlk2OrFail s p code).ident = s.ident := by
  unfold State.tlk2OrFail; extract_lets v1; clear_value v1; (first | (simp [ident_foldl, ident_each]; done) | ((repeat' split) <;> simp [ident_foldl, ident_each]))
@[simp] theorem State_laneDecision_ident (s : State) (p : Nat) :
    (State.laneDecision s p).ident = s.ident := by
  unfold State.laneDecision; extract_lets v1; clear_value v1; (first | (simp [ident_foldl, ident_each]; done) | ((repeat' split) <;> simp [ident_foldl, ident_each]))
@[simp] theorem State_identify_ident (s : State) (p : Nat) (b : List Byte) :
    (State.identify s p b).ident = s.ident := by simp [State.identify]
@[simp] theorem identifyBlock_ident (p : Nat) (b : List Byte) (s : State) :
    (identifyBlock p b s).ident = s.ident := by unfold identifyBlock; (repeat' split) <;> simp [ident_foldl, ident_each]
@[simp] theorem equalizeDone_ident (p : Nat) (ok : Bool) (s : State) :
    (equalizeDone p ok s).ident = s.ident := by simp [equalizeDone]
@[simp] theorem laneCheckDone_ident (p : Nat) (mask : Nat) (s : State) :
    (laneCheckDone p mask s).ident = s.ident := by simp [laneCheckDone]
@[simp] theorem fecAlignDone_ident (p : Nat) (s : State) :
    (fecAlignDone p s).ident = s.ident := by simp [fecAlignDone]
@[simp] theorem flitSyncDone_ident (p : Nat) (s : State) :
    (flitSyncDone p s).ident = s.ident := by
  unfold flitSyncDone; extract_lets v1 v2; clear_value v2 v1; (first | (simp [ident_foldl, ident_each]; done) | ((repeat' split) <;> simp [ident_foldl, ident_each]))
@[simp] theorem trainingTimeout_ident (p : Nat) (code : Nat) (s : State) :
    (trainingTimeout p code s).ident = s.ident := by simp [trainingTimeout]
@[simp] theorem lnkCfgWrite_ident (p : Nat) (v : Nat) (s : State) :
    (lnkCfgWrite p v s).ident = s.ident := by simp [lnkCfgWrite]
@[simp] theorem lnkTimerWrite_ident (p : Nat) (v : Nat) (s : State) :
    (lnkTimerWrite p v s).ident = s.ident := by simp [lnkTimerWrite]
@[simp] theorem lnkPeerLoRead_ident (a : Agent) (p : Nat) (s : State) :
    (lnkPeerLoRead a p s).ident = s.ident := by simp [lnkPeerLoRead]
@[simp] theorem eyeMargin_ident (p : Nat) (margin : Nat) (lane : Nat) (s : State) :
    (eyeMargin p margin lane s).ident = s.ident := by simp [eyeMargin]

/-! ### Link -/

@[simp] theorem nak_ident (p : Nat) (c : Ctrl) (s : State) :
    (nak p c s).ident = s.ident := by simp [nak]
@[simp] theorem snak_ident (p : Nat) (c : Ctrl) (s : State) :
    (snak p c s).ident = s.ident := by
  unfold snak; extract_lets v1 v2; clear_value v2 v1; (first | (simp [ident_foldl, ident_each]; done) | ((repeat' split) <;> simp [ident_foldl, ident_each]))
@[simp] theorem creditWord_ident (p : Nat) (c : Ctrl) (s : State) :
    (creditWord p c s).ident = s.ident := by simp [creditWord]
@[simp] theorem creditTimeout_ident (p : Nat) (v : Nat) (s : State) :
    (creditTimeout p v s).ident = s.ident := by simp [creditTimeout]

/-! ### Tolls -/

@[simp] theorem State_setStop_ident (s : State) (n : Nat) :
    (State.setStop s n).ident = s.ident := by simp [State.setStop]
@[simp] theorem State_rimRest_ident (s : State) (i : Nat) (d : Nat) :
    (State.rimRest s i d).ident = s.ident := by simp [State.rimRest]
@[simp] theorem State_hubRest_ident (s : State) (i : Nat) (d : Nat) :
    (State.hubRest s i d).ident = s.ident := by
  unfold State.hubRest; extract_lets v1; clear_value v1; (first | (simp [ident_foldl, ident_each]; done) | ((repeat' split) <;> simp [ident_foldl, ident_each]))
@[simp] theorem State_noteToll_ident (s : State) (t : Toll) :
    (State.noteToll s t).ident = s.ident := by simp [State.noteToll]
@[simp] theorem State_hubToll_ident (s : State) (t : Toll) :
    (State.hubToll s t).ident = s.ident := by simp [State.hubToll]
@[simp] theorem State_rimToll_ident (s : State) (t : Toll) :
    (State.rimToll s t).ident = s.ident := by simp [State.rimToll]
@[simp] theorem State_sendToll_ident (s : State) (cause : Nat) (b : Nat) (d : Nat) (stop : Nat) (detail : Nat) :
    (State.sendToll s cause b d stop detail).ident = s.ident := by simp [State.sendToll]
@[simp] theorem State_originateToll_ident (s : State) (cause : Nat) (b : Nat) (d : Nat) (detail : Nat) :
    (State.originateToll s cause b d detail).ident = s.ident := by
  unfold State.originateToll; extract_lets v1; clear_value v1; (first | (simp [ident_foldl, ident_each]; done) | ((repeat' split) <;> simp [ident_foldl, ident_each]))
@[simp] theorem State_forwardToll_ident (s : State) (r : Nat) (t : TollIn) :
    (State.forwardToll s r t).ident = s.ident := by
  unfold State.forwardToll; (repeat' split) <;> simp [ident_foldl, ident_each]
@[simp] theorem rimTakesToll_ident (r : Nat) (t : TollIn) (rest : List TollIn) (s : State) :
    (rimTakesToll r t rest s).ident = s.ident := by simp [rimTakesToll]
@[simp] theorem hubTollReceive_ident (t : Toll) (rest : List Toll) (s : State) :
    (hubTollReceive t rest s).ident = s.ident := by simp [hubTollReceive]
@[simp] theorem seenRetire_ident (r : Nat) (s : State) :
    (seenRetire r s).ident = s.ident := by
  unfold seenRetire; extract_lets v1; clear_value v1; (first | (simp [ident_foldl, ident_each]; done) | ((repeat' split) <;> simp [ident_foldl, ident_each]))
@[simp] theorem finish_ident (p : Nat) (c : Ctrl) (rest : List Ctrl) (s : State) :
    (finish p c rest s).ident = s.ident := by simp [finish]
@[simp] theorem State_countLast_ident (s : State) (m : Nat) :
    (State.countLast s m).ident = s.ident := by simp [State.countLast]
@[simp] theorem statsClear_ident (v : Nat) (s : State) :
    (statsClear v s).ident = s.ident := by unfold statsClear; (repeat' split) <;> simp [ident_foldl, ident_each]
@[simp] theorem plnLoRead_ident (a : Agent) (which : Nat) (s : State) :
    (plnLoRead a which s).ident = s.ident := by unfold plnLoRead; split <;> simp

end Sys2Proof.Machine
end

