-- ==== Sys2Proof/Laws/KeptTile.lean ====
section
/-! SUPPORT. The queue, the fused values and the life-cycle transition are kept by the operations on tiles, tiers and scratchpads. -/

namespace Sys2Proof.Machine

/-! ### TileOps -/

@[simp] theorem State_setTile_ident (s : State) (t : Nat) (x : Tile) :
    (State.setTile s t x).ident = s.ident := by simp [State.setTile]
@[simp] theorem State_modTile_ident (s : State) (t : Nat) (f : Tile → Tile) :
    (State.modTile s t f).ident = s.ident := by simp [State.modTile]
@[simp] theorem State_putUnit_ident (s : State) (t : Nat) (u : Nat) (bytes : List Byte) :
    (State.putUnit s t u bytes).ident = s.ident := by unfold State.putUnit; split <;> simp
@[simp] theorem State_flushTests_ident (s : State) :
    (State.flushTests s).ident = s.ident := by
  unfold State.flushTests; (repeat' split) <;> simp [ident_foldl, ident_each]
@[simp] theorem State_refillTests_ident (s : State) :
    (State.refillTests s).ident = s.ident := by simp [State.refillTests]
@[simp] theorem commitWrites_ident (t : Nat) (spadW : Table (List Byte)) (s : State) :
    (commitWrites t spadW s).ident = s.ident := by
  unfold commitWrites; (repeat' split) <;> simp [ident_foldl, ident_each]
@[simp] theorem State_eccRead_ident (s : State) (t : Nat) (u : Nat) :
    (State.eccRead s t u).2.ident = s.ident := by
  unfold State.eccRead; extract_lets v1; clear_value v1; (first | (simp [ident_foldl, ident_each]; done) | ((repeat' split) <;> simp [ident_foldl, ident_each]))
@[simp] theorem State_stopTile_ident (s : State) (t : Nat) :
    (State.stopTile s t).ident = s.ident := by
  unfold State.stopTile; extract_lets v1 v2; clear_value v2 v1; (first | (simp [ident_foldl, ident_each]; done) | ((repeat' split) <;> simp [ident_foldl, ident_each]))
@[simp] theorem State_recordHalt_ident (s : State) (t : Nat) (c : Cond) :
    (State.recordHalt s t c).ident = s.ident := by simp [State.recordHalt]
@[simp] theorem State_haltTile_ident (s : State) (t : Nat) (c : Cond) :
    (State.haltTile s t c).ident = s.ident := by simp [State.haltTile]
@[simp] theorem State_waitEnded_ident (s : State) (t : Nat) (st : Stall) :
    (State.waitEnded s t st).ident = s.ident := by simp [State.waitEnded]
@[simp] theorem State_dnAdvance_ident (s : State) (src : Nat) (x0 : List Item) :
    (State.dnAdvance s src x0).2.ident = s.ident := by
  induction x0 generalizing s with
  | nil => rfl
  | cons i rest ih =>
    unfold State.dnAdvance
    split
    · rfl
    · split
      · dsimp only; split <;> simp
      · rw [ih]; simp
@[simp] theorem State_moveOut_ident (s : State) (t : Nat) (q : Nat) :
    (State.moveOut s t q).ident = s.ident := by simp [State.moveOut]
@[simp] theorem State_dnWake_ident (s : State) (k : Nat) :
    (State.dnWake s k).ident = s.ident := by unfold State.dnWake; split <;> simp
@[simp] theorem State_send_ident (s : State) (t : Nat) (q : Nat) (i : Item) :
    (State.send s t q i).ident = s.ident := by simp [State.send]

/-! ### MemOps -/

@[simp] theorem State_putTier_ident (s : State) (tier : Nat) (a : Nat) (b : List Byte) :
    (State.putTier s tier a b).ident = s.ident := by simp [State.putTier]
@[simp] theorem State_countMoved_ident (s : State) (tier : Nat) (kind : Nat) (a : Nat) :
    (State.countMoved s tier kind a).ident = s.ident := by
  unfold State.countMoved; extract_lets v1; clear_value v1; (first | (simp [ident_foldl, ident_each]; done) | ((repeat' split) <;> simp [ident_foldl, ident_each]))
@[simp] theorem State_countRun_ident (s : State) (tier : Nat) (kind : Nat) (a : Nat) (n : Nat) :
    (State.countRun s tier kind a n).ident = s.ident := by
  unfold State.countRun; extract_lets v1; clear_value v1; (first | (simp [ident_foldl, ident_each]; done) | ((repeat' split) <;> simp [ident_foldl, ident_each]))
@[simp] theorem State_t1Error_ident (s : State) (a : Nat) :
    (State.t1Error s a).ident = s.ident := by simp [State.t1Error]
@[simp] theorem State_t2Error_ident (s : State) (a : Nat) :
    (State.t2Error s a).ident = s.ident := by
  unfold State.t2Error; extract_lets v1; clear_value v1; (first | (simp [ident_foldl, ident_each]; done) | ((repeat' split) <;> simp [ident_foldl, ident_each]))
@[simp] theorem State_tierCe_ident (s : State) (tier : Nat) (a : Nat) :
    (State.tierCe s tier a).ident = s.ident := by simp [State.tierCe]
@[simp] theorem State_tierRead_ident (s : State) (tier : Nat) (a : Nat) (ce : Bool) (ue : Bool) :
    (State.tierRead s tier a ce ue).2.ident = s.ident := by
  unfold State.tierRead; (repeat' split) <;> simp [ident_foldl, ident_each]

end Sys2Proof.Machine
end

