-- ==== Sys2Proof/Laws/KeptRouter.lean ====
section
/-! SUPPORT. The queue, the fused values and the life-cycle transition are kept by the operations on the router, and completions of host commands. -/

namespace Sys2Proof.Machine

/-! ### RouterOps -/

@[simp] theorem State_tableFind_ident (s : State) (f : TableFind) :
    (State.tableFind s f).ident = s.ident := by
  unfold State.tableFind; (repeat' split) <;> simp [ident_foldl, ident_each]
@[simp] theorem State_readEntry_ident (s : State) (rim : Nat) (table : Nat) (index : Nat) (port : Nat) :
    (State.readEntry s rim table index port).2.ident = s.ident := by unfold State.readEntry; split <;> simp
@[simp] theorem State_flaw_ident (s : State) (f : TableFind) :
    (State.flaw s f).ident = s.ident := by
  unfold State.flaw; extract_lets v1; clear_value v1; (first | (simp [ident_foldl, ident_each]; done) | ((repeat' split) <;> simp [ident_foldl, ident_each]))
@[simp] theorem State_writeEntries_ident (s : State) (q : TableFind → Bool) :
    (State.writeEntries s q).ident = s.ident := by simp [State.writeEntries]
@[simp] theorem State_crossChain_ident (s : State) (a : Nat) (b : Nat) (vc0 : Bool) (n : Nat) :
    (State.crossChain s a b vc0 n).ident = s.ident := by
  unfold State.crossChain; extract_lets v1; clear_value v1; (first | (simp [ident_foldl, ident_each]; done) | ((repeat' split) <;> simp [ident_foldl, ident_each]))
@[simp] theorem State_fenceDrop_ident (s : State) (p : Nat) :
    (State.fenceDrop s p).ident = s.ident := by
  unfold State.fenceDrop; dsimp only; (repeat' split) <;> simp [ident_foldl, ident_each]
@[simp] theorem State_holdFlit_ident (s : State) (p : Nat) (h : HeldFlit) :
    (State.holdFlit s p h).ident = s.ident := by simp [State.holdFlit]
@[simp] theorem State_takeSlot_ident (s : State) (p : Nat) (tag : Nat) (idx : Nat) :
    (State.takeSlot s p tag idx).2.ident = s.ident := by
  unfold State.takeSlot; extract_lets v1 v2; clear_value v2 v1; (first | (simp [ident_foldl, ident_each]; done) | ((repeat' split) <;> simp [ident_foldl, ident_each]))
@[simp] theorem State_vc0Out_ident (s : State) (inside : Nat) (p : Nat) (f : Flit) :
    (State.vc0Out s inside p f).ident = s.ident := by
  unfold State.vc0Out; dsimp only; (repeat' split) <;> simp [ident_foldl, ident_each]
@[simp] theorem State_vc0Local_ident (s : State) (p : Nat) (route : Nat) (f : Flit) :
    (State.vc0Local s p route f).ident = s.ident := by simp [State.vc0Local]
@[simp] theorem State_pealOut_ident (s : State) (p : Nat) (peal : Nat) (f : Flit) :
    (State.pealOut s p peal f).ident = s.ident := by
  unfold State.pealOut; (repeat' split) <;> simp [ident_foldl, ident_each]
@[simp] theorem State_vc0Item_ident (s : State) (p : Nat) (i : ItemEntry) (f : Flit) :
    (State.vc0Item s p i f).ident = s.ident := by simp [State.vc0Item]
@[simp] theorem State_vc0In_ident (s : State) (p : Nat) (f : Flit) :
    (State.vc0In s p f).ident = s.ident := by
  unfold State.vc0In; dsimp only; (repeat' split) <;> simp [ident_foldl, ident_each]
@[simp] theorem State_readRoute_ident (s : State) (rim : Nat) (route : Nat) :
    (State.readRoute s rim route).2.ident = s.ident := by
  unfold State.readRoute; (repeat' split) <;> simp [ident_foldl, ident_each]
@[simp] theorem State_dynOut_ident (s : State) (q : Nat) (d : DynFlit) :
    (State.dynOut s q d).ident = s.ident := by simp [State.dynOut]
@[simp] theorem State_launch_ident (s : State) (rim : Nat) (route : Nat) (vc : Nat) (payloads : List (List Byte)) :
    (State.launch s rim route vc payloads).ident = s.ident := by
  unfold State.launch; (repeat' split) <;> simp [ident_foldl, ident_each]
@[simp] theorem State_noteOrder_ident (s : State) (r : Nat) :
    (State.noteOrder s r).ident = s.ident := by simp [State.noteOrder]
@[simp] theorem State_setPair_ident (s : State) (x : Pair) :
    (State.setPair s x).ident = s.ident := by simp [State.setPair]
@[simp] theorem State_setContext_ident (s : State) (x : Context) :
    (State.setContext s x).ident = s.ident := by simp [State.setContext]
@[simp] theorem State_dropContext_ident (s : State) (source : Nat) (vc : Nat) :
    (State.dropContext s source vc).ident = s.ident := by simp [State.dropContext]
@[simp] theorem State_sendPacket_ident (s : State) (dest : Nat) (vc : Nat) (payloads : List (List Byte)) (via : Nat) :
    (State.sendPacket s dest vc payloads via).ident = s.ident := by unfold State.sendPacket; split <;> simp
@[simp] theorem State_unstall_ident (s : State) (dest : Nat) (vc : Nat) :
    (State.unstall s dest vc).ident = s.ident := by
  unfold State.unstall; extract_lets v1 v2; clear_value v2 v1; (first | (simp [ident_foldl, ident_each]; done) | ((repeat' split) <;> simp [ident_foldl, ident_each]))
@[simp] theorem State_sendGrant_ident (s : State) (source : Nat) (vc : Nat) (exp : Nat) (window : Nat) :
    (State.sendGrant s source vc exp window).ident = s.ident := by simp [State.sendGrant]
@[simp] theorem State_covered_ident (s : State) (x : Context) :
    (State.covered s x).2.ident = s.ident := by unfold State.covered; split <;> simp
@[simp] theorem State_freeMany_ident (s : State) (p : Nat) (vc : Nat) (x0 : Nat) :
    (State.freeMany s p vc x0).ident = s.ident := by
  induction x0 generalizing s with
  | zero => rfl
  | succ n ih => unfold State.freeMany; rw [ih]; simp
@[simp] theorem State_forgetKept_ident (s : State) (p : Nat) (vc : Nat) :
    (State.forgetKept s p vc).ident = s.ident := by simp [State.forgetKept]
@[simp] theorem State_freeKept_ident (s : State) (p : Nat) (vc : Nat) :
    (State.freeKept s p vc).ident = s.ident := by simp [State.freeKept]
@[simp] theorem State_keepOne_ident (s : State) (p : Nat) (vc : Nat) :
    (State.keepOne s p vc).ident = s.ident := by simp [State.keepOne]
@[simp] theorem State_deliver_ident (s : State) (p : Nat) (vc : Nat) (home : Nat) (payloads : List (List Byte)) :
    (State.deliver s p vc home payloads).ident = s.ident := by simp [State.deliver]
@[simp] theorem State_deliverHeld_ident (p : Nat) (x0 : Nat) (x1 : Context) (x2 : State) :
    (State.deliverHeld p x0 x1 x2).2.ident = x2.ident := by
  induction x0 generalizing x1 x2 with
  | zero => rfl
  | succ n ih =>
    unfold State.deliverHeld
    split
    · rfl
    · rw [ih]; split <;> simp
@[simp] theorem State_orderIn_ident (s : State) (p : Nat) (x : Context) (k : Packet) :
    (State.orderIn s p x k).ident = s.ident := by simp [State.orderIn]

/-! ### Router -/

@[simp] theorem State_modRx_ident (s : State) (p : Nat) (vc : Nat) (f : Packet → Option Packet) :
    (State.modRx s p vc f).ident = s.ident := by simp [State.modRx]
@[simp] theorem State_arrived_ident (s : State) (p : Nat) (k : Packet) :
    (State.arrived s p k).ident = s.ident := by unfold State.arrived; split <;> simp
@[simp] theorem State_useSeq_ident (s : State) (p : Nat) (k : Packet) :
    (State.useSeq s p k).ident = s.ident := by unfold State.useSeq; split <;> simp
@[simp] theorem State_localFlit_ident (s : State) (p : Nat) (vc : Nat) (k : Packet) (f : Flit) :
    (State.localFlit s p vc k f).ident = s.ident := by simp [State.localFlit]
@[simp] theorem State_throughFlit_ident (s : State) (p : Nat) (vc : Nat) (q : Nat) (k : Packet) (first : Bool) (f : Flit) :
    (State.throughFlit s p vc q k first f).ident = s.ident := by simp [State.throughFlit]
@[simp] theorem State_goneFlit_ident (s : State) (p : Nat) (vc : Nat) (k : Packet) (f : Flit) :
    (State.goneFlit s p vc k f).ident = s.ident := by simp [State.goneFlit]
@[simp] theorem State_dynFlitOn_ident (s : State) (p : Nat) (vc : Nat) (k : Packet) (first : Bool) (f : Flit) :
    (State.dynFlitOn s p vc k first f).ident = s.ident := by simp [State.dynFlitOn]
@[simp] theorem State_dynFirst_ident (s : State) (p : Nat) (f : Flit) (route : Nat) (out : Nat) :
    (State.dynFirst s p f route out).ident = s.ident := by
  unfold State.dynFirst; extract_lets v1 v2; clear_value v2 v1; (first | (simp [ident_foldl, ident_each]; done) | ((repeat' split) <;> simp [ident_foldl, ident_each]))
@[simp] theorem State_dynIn_ident (s : State) (p : Nat) (f : Flit) :
    (State.dynIn s p f).ident = s.ident := by unfold State.dynIn; split <;> simp
@[simp] theorem State_deliverFlit_ident (s : State) (p : Nat) (f : Flit) :
    (State.deliverFlit s p f).ident = s.ident := by simp [State.deliverFlit]
@[simp] theorem State_acceptOne_ident (s : State) (p : Nat) (f : Flit) :
    (State.acceptOne s p f).ident = s.ident := by simp [State.acceptOne]
@[simp] theorem State_drainHeld_ident (p : Nat) (x0 : Nat) (x1 : State) :
    (State.drainHeld p x0 x1).ident = x1.ident := by
  induction x0 generalizing x1 with
  | zero => rfl
  | succ n ih =>
    unfold State.drainHeld
    split
    · rfl
    · rw [ih]; simp
@[simp] theorem State_holdEarly_ident (s : State) (p : Nat) (f : Flit) :
    (State.holdEarly s p f).ident = s.ident := by simp [State.holdEarly]
@[simp] theorem State_dataFlitIn_ident (s : State) (p : Nat) (replay : Bool) (f : Flit) :
    (State.dataFlitIn s p replay f).ident = s.ident := by
  unfold State.dataFlitIn; extract_lets v1 v2; clear_value v2 v1; (first | (simp [ident_foldl, ident_each]; done) | ((repeat' split) <;> simp [ident_foldl, ident_each]))
@[simp] theorem State_ctrlIn_ident (s : State) (p : Nat) (c : Ctrl) :
    (State.ctrlIn s p c).ident = s.ident := by simp [State.ctrlIn]
@[simp] theorem State_badFlit_ident (s : State) (p : Nat) :
    (State.badFlit s p).ident = s.ident := by simp [State.badFlit]
@[simp] theorem State_codeword_ident (s : State) (p : Nat) (cw : Nat) :
    (State.codeword s p cw).ident = s.ident := by simp [State.codeword]
@[simp] theorem State_goodFlit_ident (s : State) (p : Nat) (b : List Byte) :
    (State.goodFlit s p b).ident = s.ident := by
  unfold State.goodFlit; dsimp only; (repeat' split) <;> simp [ident_foldl, ident_each]
@[simp] theorem State_syncFlit_ident (s : State) (p : Nat) (good : Bool) :
    (State.syncFlit s p good).ident = s.ident := by simp [State.syncFlit]
@[simp] theorem flitRx_ident (p : Nat) (b : List Byte) (cw : Nat) (s : State) :
    (flitRx p b cw s).ident = s.ident := by simp [flitRx]
@[simp] theorem State_sendData_ident (s : State) (p : Nat) (f : Flit) :
    (State.sendData s p f).ident = s.ident := by
  unfold State.sendData; extract_lets v1 v2; clear_value v2 v1; (first | (simp [ident_foldl, ident_each]; done) | ((repeat' split) <;> simp [ident_foldl, ident_each]))
@[simp] theorem State_bindPacket_ident (s : State) (p : Nat) (n : Nat) :
    (State.bindPacket s p n).ident = s.ident := by
  unfold State.bindPacket; (repeat' split) <;> simp [ident_foldl, ident_each]
@[simp] theorem State_sendDyn_ident (s : State) (p : Nat) (vc : Nat) (d : DynFlit) :
    (State.sendDyn s p vc d).ident = s.ident := by
  unfold State.sendDyn; (repeat' split) <;> simp [ident_foldl, ident_each]
@[simp] theorem State_sampleTime_ident (s : State) (p : Nat) :
    (State.sampleTime s p).ident = s.ident := by
  unfold State.sampleTime; extract_lets v1; clear_value v1; (first | (simp [ident_foldl, ident_each]; done) | ((repeat' split) <;> simp [ident_foldl, ident_each]))
@[simp] theorem State_sendIdle_ident (s : State) (p : Nat) :
    (State.sendIdle s p).ident = s.ident := by simp [State.sendIdle]
@[simp] theorem State_fillRest_ident (s : State) (p : Nat) (x : LinkPort) (room : Bool) :
    (State.fillRest s p x room).ident = s.ident := by
  unfold State.fillRest; (repeat' split) <;> simp [ident_foldl, ident_each]
@[simp] theorem State_sendHeld_ident (s : State) (p : Nat) (ft : Nat) (h : HeldFlit) :
    (State.sendHeld s p ft h).ident = s.ident := by simp [State.sendHeld]
@[simp] theorem State_fillNew_ident (s : State) (p : Nat) (ft : Nat) :
    (State.fillNew s p ft).ident = s.ident := by
  unfold State.fillNew; extract_lets v1 v2; clear_value v2 v1; (first | (simp [ident_foldl, ident_each]; done) | ((repeat' split) <;> simp [ident_foldl, ident_each]))
@[simp] theorem State_fillData_ident (s : State) (p : Nat) (ft : Nat) :
    (State.fillData s p ft).ident = s.ident := by
  unfold State.fillData; dsimp only; (repeat' split) <;> simp [ident_foldl, ident_each]
@[simp] theorem State_fenceWords_ident (s : State) (p : Nat) :
    (State.fenceWords s p).ident = s.ident := by simp [State.fenceWords]
@[simp] theorem flitTime_ident (p : Nat) (ft : Nat) (s : State) :
    (flitTime p ft s).ident = s.ident := by simp [flitTime]
@[simp] theorem linkBroken_ident (p : Nat) (s : State) :
    (linkBroken p s).ident = s.ident := by simp [linkBroken]
@[simp] theorem State_formFlit_ident (s : State) (p : Nat) (tag : Nat) (word : List Byte) :
    (State.formFlit s p tag word).ident = s.ident := by simp [State.formFlit]
@[simp] theorem tileWordToFlit_ident (t : Nat) (q : Nat) (s : State) :
    (tileWordToFlit t q s).ident = s.ident := by unfold tileWordToFlit; split <;> simp
@[simp] theorem tableScrub_ident (r : Nat) (s : State) :
    (tableScrub r s).ident = s.ident := by unfold tableScrub; (repeat' split) <;> simp [ident_foldl, ident_each]
@[simp] theorem contextRequest_ident (k : Packet) (s : State) :
    (contextRequest k s).ident = s.ident := by
  unfold contextRequest; extract_lets v1 v2; clear_value v2 v1; (first | (simp [ident_foldl, ident_each]; done) | ((repeat' split) <;> simp [ident_foldl, ident_each]))
@[simp] theorem agentSend_ident (a : Nat) (dest : Nat) (vc : Nat) (payloads : List (List Byte)) (via : Nat) (s : State) :
    (agentSend a dest vc payloads via s).ident = s.ident := by simp [agentSend]
@[simp] theorem grant_ident (k : Packet) (s : State) :
    (grant k s).ident = s.ident := by
  unfold grant; extract_lets v1 v2 v3 v4; clear_value v4 v3 v2 v1; (first | (simp [ident_foldl, ident_each]; done) | ((repeat' split) <;> simp [ident_foldl, ident_each]))
@[simp] theorem grantSend_ident (x : Context) (s : State) :
    (grantSend x s).ident = s.ident := by simp [grantSend]
@[simp] theorem orderRestoration_ident (p : Nat) (k : Packet) (s : State) :
    (orderRestoration p k s).ident = s.ident := by unfold orderRestoration; split <;> simp
@[simp] theorem idleRelease_ident (x : Pair) (s : State) :
    (idleRelease x s).ident = s.ident := by simp [idleRelease]
@[simp] theorem State_escapeFlit_ident (det : Nat) (s : State) (d : DynFlit) :
    (State.escapeFlit det s d).ident = s.ident := by
  unfold State.escapeFlit; dsimp only; (repeat' split) <;> simp [ident_foldl, ident_each]
@[simp] theorem escape_ident (d : DynFlit) (s : State) :
    (escape d s).ident = s.ident := by unfold escape; (repeat' split) <;> simp [ident_foldl, ident_each]
@[simp] theorem State_fenceOn_ident (s : State) (p : Nat) :
    (State.fenceOn s p).ident = s.ident := by
  unfold State.fenceOn
  dsimp only
  rw [ident_each (by intros; simp), State_modPort_ident, ident_foldl (by intro s d; split <;> simp),
    ident_each (by intros; simp), ident_each (by intros; simp)]
@[simp] theorem State_setFences_ident (s : State) (mask : Nat) :
    (State.setFences s mask).ident = s.ident := by
  unfold State.setFences; (repeat' split) <;> simp [ident_foldl, ident_each]
@[simp] theorem State_writeFences_ident (s : State) (mask : Nat) :
    (State.writeFences s mask).ident = s.ident := by simp [State.writeFences]
@[simp] theorem rteFenceWrite_ident (a : Agent) (hi : Bool) (v : Nat) (s : State) :
    (rteFenceWrite a hi v s).ident = s.ident := by simp [rteFenceWrite]
@[simp] theorem rteTblAddrWrite_ident (v : Nat) (s : State) :
    (rteTblAddrWrite v s).ident = s.ident := by
  unfold rteTblAddrWrite; dsimp only; (repeat' split) <;> simp [ident_foldl, ident_each]
@[simp] theorem rteTblDataHiWrite_ident (v : Nat) (s : State) :
    (rteTblDataHiWrite v s).ident = s.ident := by simp [rteTblDataHiWrite]
@[simp] theorem State_congestionRecord_ident (s : State) (b : List Byte) :
    (State.congestionRecord s b).ident = s.ident := by simp [State.congestionRecord]
@[simp] theorem congestionSample_ident (stalls : List (BitVec 16)) (s : State) :
    (congestionSample stalls s).ident = s.ident := by
  unfold congestionSample; (repeat' split) <;> simp [ident_foldl, ident_each]

/-! ### HostOps -/

@[simp] theorem State_setQueue_ident (s : State) (q : Nat) (x : Queue) :
    (State.setQueue s q x).ident = s.ident := by simp [State.setQueue]
@[simp] theorem State_start_ident (s : State) (f : Fetched) (done : Option (Nat × Nat)) :
    (State.start s f done).ident = s.ident := by simp [State.start]
@[simp] theorem State_completeRaw_ident (s : State) (f : Fetched) (code : Nat) (result : Nat) :
    (State.completeRaw s f code result).ident = s.ident := by
  unfold State.completeRaw; dsimp only; (repeat' split) <;> simp [ident_foldl, ident_each]
@[simp] theorem State_reap_ident (s : State) (q : Nat) :
    (State.reap s q).ident = s.ident := by
  unfold State.reap; dsimp only; (repeat' split) <;> simp [ident_foldl, ident_each]
@[simp] theorem State_completeNum_ident (s : State) (f : Fetched) (code : Nat) (result : Nat) :
    (State.completeNum s f code result).ident = s.ident := by simp [State.completeNum]
@[simp] theorem State_complete_ident (s : State) (f : Fetched) (c : Cc) (result : Nat) :
    (State.complete s f c result).ident = s.ident := by simp [State.complete]
@[simp] theorem State_toHost_ident (s : State) (addr : Nat) (b : List Byte) :
    (State.toHost s addr b).ident = s.ident := by simp [State.toHost]
@[simp] theorem State_dmaToHost_ident (s : State) (addr : Nat) (b : List Byte) :
    (State.dmaToHost s addr b).ident = s.ident := by simp [State.dmaToHost]

end Sys2Proof.Machine
end

