-- ==== Sys2Proof/Laws/KeptEngine.lean ====
section
/-! SUPPORT. The queue, the fused values and the life-cycle transition are kept by the operations on tile cycles, sequencers and queues. -/

namespace Sys2Proof.Machine

/-! ### Engine -/

@[simp] theorem Cycle_mod_ident (x : Cycle) (t : Nat) (f : Tile → Tile) :
    (Cycle.mod x t f).s.ident = x.s.ident := by simp [Cycle.mod]
@[simp] theorem Cycle_add_ident (x : Cycle) (cs : List Cond) :
    (Cycle.add x cs).s.ident = x.s.ident := by simp [Cycle.add]
@[simp] theorem Cycle_claim_ident (x : Cycle) (pc : Nat) (u : Nat) :
    (Cycle.claim x pc u).s.ident = x.s.ident := by
  unfold Cycle.claim; extract_lets v1; clear_value v1; (first | (simp [ident_foldl, ident_each]; done) | ((repeat' split) <;> simp [ident_foldl, ident_each]))
@[simp] theorem Cycle_ecc_ident (x : Cycle) (t : Nat) (port : Nat) (pc : Nat) (u : Nat) :
    (Cycle.ecc x t port pc u).s.ident = x.s.ident := by simp [Cycle.ecc]
@[simp] theorem Cycle_readA_ident (x : Cycle) (t : Nat) (pc : Nat) (u : Nat) :
    (Cycle.readA x t pc u).2.s.ident = x.s.ident := by simp [Cycle.readA]
@[simp] theorem Cycle_claimB_ident (x : Cycle) (u : Nat) :
    (Cycle.claimB x u).s.ident = x.s.ident := by simp [Cycle.claimB]
@[simp] theorem Cycle_readB_ident (x : Cycle) (t : Nat) (pc : Nat) (u : Nat) :
    (Cycle.readB x t pc u).2.s.ident = x.s.ident := by simp [Cycle.readB]
@[simp] theorem Cycle_readAs_ident (x : Cycle) (t : Nat) (pc : Nat) (x0 : List Nat) :
    (Cycle.readAs x t pc x0).2.s.ident = x.s.ident := by
  induction x0 generalizing x with
  | nil => rfl
  | cons u us ih => unfold Cycle.readAs; dsimp only; rw [ih]; simp
theorem runOps_keeps {α : Type} {f : Cycle → α → Cycle × Option α} (hf : ∀ x a, (f x a).1.s.ident = x.s.ident) (l : List α)
    (x : Cycle) : (runOps f l x).2.s.ident = x.s.ident := by
  induction l generalizing x with
  | nil => rfl
  | cons o os ih => unfold runOps; simp only [ih, hf]
@[simp] theorem pushCycle_ident (t : Nat) (c : Nat) (x : Cycle) (p : PushOp) :
    (pushCycle t c x p).1.s.ident = x.s.ident := by
  unfold pushCycle; dsimp only; (repeat' split) <;> simp [ident_foldl, ident_each]
theorem Cycle_take_ident {x x' : Cycle} {t q : Nat} {w : RxWord} (h : x.take t q = some (w, x')) :
    x'.s.ident = x.s.ident := by
  unfold Cycle.take at h
  split at h
  · cases h
  · cases h; split <;> simp
@[simp] theorem pullCycle_ident (t : Nat) (c : Nat) (x : Cycle) (p : PullOp) :
    (pullCycle t c x p).1.s.ident = x.s.ident := by
  unfold pullCycle
  split
  · rfl
  · split
    · rfl
    · split
      · rfl
      · next h => rw [← Cycle_take_ident h]; (repeat' split) <;> simp
@[simp] theorem Cycle_writeB_ident (x : Cycle) (t : Nat) (pc : Nat) (u : Nat) (bytes : List Byte) :
    (Cycle.writeB x t pc u bytes).s.ident = x.s.ident := by
  unfold Cycle.writeB; dsimp only; (repeat' split) <;> simp [ident_foldl, ident_each]
@[simp] theorem bwriteCycle_ident (t : Nat) (c : Nat) (x : Cycle) :
    (bwriteCycle t c x).s.ident = x.s.ident := by
  unfold bwriteCycle
  dsimp only
  rw [foldl_keeps (fun x : Cycle => x.s.ident) (by intro x w; simp)]
  simp
@[simp] theorem landUnits_ident (t : Nat) (pc : Nat) (x0 : List (Nat × List Byte)) (x1 : Cycle) :
    (landUnits t pc x0 x1).2.s.ident = x1.s.ident := by
  induction x0 generalizing x1 with
  | nil => rfl
  | cons w ws ih =>
    unfold landUnits
    split
    · exact ih _
    · rw [ih, Cycle_writeB_ident]
@[simp] theorem landAccess_ident (t : Nat) (x : Cycle) (a : TierAccess) :
    (landAccess t x a).1.s.ident = x.s.ident := by unfold landAccess; split <;> simp
@[simp] theorem voiceCycle_ident (t : Nat) (c : Nat) (x : Cycle) :
    (voiceCycle t c x).s.ident = x.s.ident := by
  unfold voiceCycle; dsimp only; (repeat' split) <;> simp [ident_foldl, ident_each]
@[simp] theorem voiceStart_ident (t : Nat) (c : Nat) (x : Cycle) :
    (voiceStart t c x).s.ident = x.s.ident := by unfold voiceStart; (repeat' split) <;> simp [ident_foldl, ident_each]
@[simp] theorem planeCycle_ident (t : Nat) (c : Nat) (x : Cycle) :
    (planeCycle t c x).s.ident = x.s.ident := by
  unfold planeCycle; dsimp only; (repeat' split) <;> simp [ident_foldl, ident_each]
@[simp] theorem countOverflow_ident (t : Nat) (n : Nat) (s : State) :
    (countOverflow t n s).ident = s.ident := by simp [countOverflow]
@[simp] theorem enterRow_ident (t : Nat) (m : MmaOp) (pl : Plane) (acts : List (Val × Nat)) (x : Cycle) :
    (enterRow t m pl acts x).s.ident = x.s.ident := by simp [enterRow]
@[simp] theorem mmaDone_ident (t : Nat) (c : Nat) (m : MmaOp) (x : Cycle) :
    (mmaDone t c m x).s.ident = x.s.ident := by simp [mmaDone]
@[simp] theorem mmaRow_ident (t : Nat) (c : Nat) (m : MmaOp) (pl : Plane) (x : Cycle) :
    (mmaRow t c m pl x).s.ident = x.s.ident := by unfold mmaRow; split <;> simp
@[simp] theorem mmaFeed_ident (t : Nat) (q : Nat) (n : Nat) (total : Nat) (m : MmaOp) (x : Cycle) :
    (mmaFeed t q n total m x).2.2.s.ident = x.s.ident := by
  unfold mmaFeed
  split
  · split
    · rfl
    · next h => rw [← Cycle_take_ident h]; dsimp only; split <;> simp
  · rfl
@[simp] theorem mmaEnter_ident (t : Nat) (m : MmaOp) (pl : Plane) (x : Cycle) :
    (mmaEnter t m pl x).2.2.s.ident = x.s.ident := by
  unfold mmaEnter; extract_lets v1; clear_value v1; (first | (simp [ident_foldl, ident_each]; done) | ((repeat' split) <;> simp [ident_foldl, ident_each]))
@[simp] theorem mmaStream_ident (t : Nat) (c : Nat) (q : Nat) (n : Nat) (m : MmaOp) (pl : Plane) (x : Cycle) :
    (mmaStream t c q n m pl x).s.ident = x.s.ident := by
  unfold mmaStream; dsimp only; (repeat' split) <;> simp [ident_foldl, ident_each]
@[simp] theorem mmaCycle_ident (t : Nat) (c : Nat) (x : Cycle) :
    (mmaCycle t c x).s.ident = x.s.ident := by unfold mmaCycle; (repeat' split) <;> simp [ident_foldl, ident_each]
@[simp] theorem canaryBlock_ident (t : Nat) (c : Nat) (f : Fmt) (xs : List Val) (b : Block) (s : State) :
    (canaryBlock t c f xs b s).ident = s.ident := by
  unfold canaryBlock; dsimp only; (repeat' split) <;> simp [ident_foldl, ident_each]
@[simp] theorem countConv_ident (t : Nat) (sats : Nat) (nans : Nat) (s : State) :
    (countConv t sats nans s).ident = s.ident := by simp [countConv]
@[simp] theorem vcvtPlain_ident (t : Nat) (f : Fmt) (as : List Lane) (s : State) :
    (vcvtPlain t f as s).2.ident = s.ident := by unfold vcvtPlain; split <;> simp
@[simp] theorem vcvtBlock_ident (t : Nat) (c : Nat) (f : Fmt) (j0 : Nat) (as : List Lane) (s : State) :
    (vcvtBlock t c f j0 as s).2.ident = s.ident := by simp [vcvtBlock]
@[simp] theorem sourceLanes_ident (t : Nat) (v : VrunOp) (m : Micro) (sel : Nat) (x : Cycle) :
    (sourceLanes t v m sel x).2.s.ident = x.s.ident := by
  unfold sourceLanes
  dsimp only
  (repeat' split) <;> simp
@[simp] theorem writePass_ident (t : Nat) (v : VrunOp) (m : Micro) (bytes : List Byte) (x : Cycle) :
    (writePass t v m bytes x).2.s.ident = x.s.ident := by
  unfold writePass
  dsimp only
  simp only [ident_mk]
  exact foldl_keeps (fun x : Cycle => x.s.ident) (by intro x w; simp) _ _
@[simp] theorem writeLanes_ident (t : Nat) (v : VrunOp) (m : Micro) (ws : List Nat) (x : Cycle) :
    (writeLanes t v m ws x).2.s.ident = x.s.ident := by unfold writeLanes; split <;> simp
@[simp] theorem finishMicro_ident (t : Nat) (c : Nat) (img : List Byte) (v : VrunOp) (m : Micro) (as : List Lane) (bs : List Lane) (cs : List Lane) (x : Cycle) :
    (finishMicro t c img v m as bs cs x).2.s.ident = x.s.ident := by
  unfold finishMicro; dsimp only; (repeat' split) <;> simp [ident_foldl, ident_each]
@[simp] theorem nextMicro_ident (t : Nat) (c : Nat) (img : List Byte) (v : VrunOp) (x : Cycle) :
    (nextMicro t c img v x).s.ident = x.s.ident := by
  unfold nextMicro; dsimp only; (repeat' split) <;> simp [ident_foldl, ident_each]
@[simp] theorem sendWords_ident (t : Nat) (q : Nat) (dest : Dest) (x0 : Nat) (x1 : List RxWord) (x2 : Cycle) :
    (sendWords t q dest x0 x1 x2).2.s.ident = x2.s.ident := by
  induction x0 generalizing x1 x2 with
  | zero => rfl
  | succ n ih =>
    unfold sendWords
    split
    · rfl
    · rfl
    · split
      · rfl
      · next e _ => cases e; rw [ih]; simp
@[simp] theorem sendCycle_ident (t : Nat) (c : Nat) (img : List Byte) (v : VrunOp) (m : Micro) (ws : List RxWord) (allow : Nat) (x : Cycle) :
    (sendCycle t c img v m ws allow x).s.ident = x.s.ident := by
  unfold sendCycle; dsimp only; (repeat' split) <;> simp [ident_foldl, ident_each]
theorem streamCycle_ident {t q : Nat} {img : List Byte} {v v' : VrunOp} {m : Micro} {x x' : Cycle}
    (h : streamCycle t img v m q x = some (v', x')) : x'.s.ident = x.s.ident := by
  unfold streamCycle at h
  dsimp only at h
  split at h
  · cases h; rfl
  · split at h
    · cases h
    · next w y hy =>
      rw [← Cycle_take_ident hy]
      cases h
      simp only [Cycle_add_ident]
      split <;> simp
@[simp] theorem microSource_ident (t : Nat) (v : VrunOp) (m : Micro) (queued : List Lane) (sel : Nat) (used : Bool) (x : Cycle) :
    (microSource t v m queued sel used x).2.s.ident = x.s.ident := by
  unfold microSource; (repeat' split) <;> simp [ident_foldl, ident_each]
@[simp] theorem microLanes_ident (t : Nat) (v : VrunOp) (m : Micro) (queued : List Lane) (x : Cycle) :
    (microLanes t v m queued x).2.s.ident = x.s.ident := by simp [microLanes]
@[simp] theorem runMicro_ident (t : Nat) (c : Nat) (img : List Byte) (v : VrunOp) (m : Micro) (x : Cycle) :
    (runMicro t c img v m x).s.ident = x.s.ident := by simp [runMicro]
@[simp] theorem readyMicro_ident (t : Nat) (c : Nat) (img : List Byte) (v : VrunOp) (m : Micro) (x : Cycle) :
    (readyMicro t c img v m x).s.ident = x.s.ident := by
  unfold readyMicro; extract_lets v1; clear_value v1; (first | (simp [ident_foldl, ident_each]; done) | ((repeat' split) <;> simp [ident_foldl, ident_each]))
@[simp] theorem feedMicro_ident (t : Nat) (c : Nat) (img : List Byte) (v : VrunOp) (m : Micro) (x : Cycle) :
    (feedMicro t c img v m x).s.ident = x.s.ident := by
  unfold feedMicro
  split
  · simp
  · split
    · simp
    · next h => rw [← streamCycle_ident h]; simp
@[simp] theorem vrunCycle_ident (t : Nat) (c : Nat) (x : Cycle) :
    (vrunCycle t c x).s.ident = x.s.ident := by unfold vrunCycle; (repeat' split) <;> simp [ident_foldl, ident_each]
@[simp] theorem State_releaseAt_ident (s : State) (t : Nat) (c : Nat) :
    (State.releaseAt s t c).ident = s.ident := by
  unfold State.releaseAt; extract_lets v1; clear_value v1; (first | (simp [ident_foldl, ident_each]; done) | ((repeat' split) <;> simp [ident_foldl, ident_each]))
@[simp] theorem coreStart_ident (t : Nat) (c : Nat) (x : Cycle) :
    (coreStart t c x).s.ident = x.s.ident := by
  unfold coreStart; dsimp only; (repeat' split) <;> simp [ident_foldl, ident_each]
@[simp] theorem cycleStart_ident (t : Nat) (c : Nat) (x : Cycle) :
    (cycleStart t c x).s.ident = x.s.ident := by
  unfold cycleStart; dsimp only; (repeat' split) <;> simp [ident_foldl, ident_each]
@[simp] theorem cyclePosts_ident (t : Nat) (c : Nat) (x : Cycle) :
    (cyclePosts t c x).s.ident = x.s.ident := by
  unfold cyclePosts
  dsimp only
  rw [foldl_keeps (fun x : Cycle => x.s.ident) (by intro x w; simp)]
  simp
@[simp] theorem flagsCycle_ident (t : Nat) (x : Cycle) :
    (flagsCycle t x).s.ident = x.s.ident := by
  unfold flagsCycle; extract_lets v1; clear_value v1; (first | (simp [ident_foldl, ident_each]; done) | ((repeat' split) <;> simp [ident_foldl, ident_each]))
@[simp] theorem State_endTest_ident (s : State) (t : Nat) (b : Nat) (st : TestStep) :
    (State.endTest s t b st).ident = s.ident := by simp [State.endTest]
@[simp] theorem testCycle_ident (t : Nat) (x : Cycle) :
    (testCycle t x).s.ident = x.s.ident := by
  unfold testCycle
  rw [foldl_keeps (fun x : Cycle => x.s.ident) (by intro x e; dsimp only; (repeat' split) <;> simp)]
@[simp] theorem coreCycle_ident (t : Nat) (c : Nat) (x : Cycle) :
    (coreCycle t c x).s.ident = x.s.ident := by unfold coreCycle; split <;> simp
@[simp] theorem unitsCycle_ident (t : Nat) (c : Nat) (x : Cycle) :
    (unitsCycle t c x).s.ident = x.s.ident := by
  simp [unitsCycle, runOps_keeps (pushCycle_ident _ _), runOps_keeps (pullCycle_ident _ _), runOps_keeps (landAccess_ident _)]
@[simp] theorem haltLowest_ident (t : Nat) (x : Cycle) :
    (haltLowest t x).ident = x.s.ident := by unfold haltLowest; split <;> simp
@[simp] theorem Cycle_begin_ident (s : State) (t : Nat) (conds : List Cond) :
    (Cycle.begin s t conds).s.ident = s.ident := by
  unfold Cycle.begin; extract_lets v1; clear_value v1; (first | (simp [ident_foldl, ident_each]; done) | ((repeat' split) <;> simp [ident_foldl, ident_each]))
@[simp] theorem tileCycle_ident (s : State) (t : Nat) (conds : List Cond) :
    (tileCycle s t conds).ident = s.ident := by
  unfold tileCycle; extract_lets v1; clear_value v1; (first | (simp [ident_foldl, ident_each]; done) | ((repeat' split) <;> simp [ident_foldl, ident_each]))
@[simp] theorem runCycles_ident (t : Nat) (x0 : Nat) (x1 : State) :
    (runCycles t x0 x1).ident = x1.ident := by
  induction x0 generalizing x1 with
  | zero => rfl
  | succ n ih =>
    unfold runCycles
    split
    · simp
    · rw [ih]; simp
@[simp] theorem State_runTo_ident (s : State) (t : Nat) (c : Nat) :
    (State.runTo s t c).ident = s.ident := by
  unfold State.runTo; extract_lets v1; clear_value v1; (first | (simp [ident_foldl, ident_each]; done) | ((repeat' split) <;> simp [ident_foldl, ident_each]))
@[simp] theorem State_enterCycle_ident (s : State) (t : Nat) (c : Nat) :
    (State.enterCycle s t c).ident = s.ident := by simp [State.enterCycle]

/-! ### Sequencer -/

@[simp] theorem Issue_complete_ident (i : Issue) (s : State) (extra : Nat) :
    (Issue.complete i s extra).2.ident = s.ident := by simp [Issue.complete]
@[simp] theorem Issue_background_ident (i : Issue) (s : State) :
    (Issue.background i s).ident = s.ident := by simp [Issue.background]
@[simp] theorem Issue_postAt_ident (i : Issue) (s : State) (cycle : Nat) :
    (Issue.postAt i s cycle).ident = s.ident := by simp [Issue.postAt]

/-! ### Queues -/

@[simp] theorem State_haltCycle_ident (s : State) (t : Nat) (c : Nat → Cond) :
    (State.haltCycle s t c).ident = s.ident := by simp [State.haltCycle]
@[simp] theorem State_haltClear_ident (s : State) (t : Nat) :
    (State.haltClear s t).ident = s.ident := by
  unfold State.haltClear; extract_lets v1; clear_value v1; (first | (simp [ident_foldl, ident_each]; done) | ((repeat' split) <;> simp [ident_foldl, ident_each]))
@[simp] theorem tileHaltClear_ident (t : Nat) (s : State) :
    (tileHaltClear t s).ident = s.ident := by simp [tileHaltClear]
@[simp] theorem forceHalt_ident (t : Nat) (s : State) :
    (forceHalt t s).ident = s.ident := by simp [forceHalt]

/-! ### Tier -/

@[simp] theorem gatherRows_ident (s : State) (t : Nat) (tier : Nat) (pc : Nat) (taddr : Nat) (tcount : Nat) (x0 : List Nat) :
    (gatherRows s t tier pc taddr tcount x0).2.2.ident = s.ident := by
  induction x0 generalizing s with
  | nil => rfl
  | cons byte rest ih =>
    unfold gatherRows
    dsimp only
    (repeat' split) <;> simp [ih]
@[simp] theorem startAccess_ident (i : Issue) (tier : Nat) (store : Bool) (taddrs : List Nat) (units : List Nat) (dueDelta : Nat) (stop : Option Cond) (s : State) :
    (startAccess i tier store taddrs units dueDelta stop s).ident = s.ident := by
  unfold startAccess; extract_lets v1; clear_value v1; (first | (simp [ident_foldl, ident_each]; done) | ((repeat' split) <;> simp [ident_foldl, ident_each]))
@[simp] theorem gatherList_ident (tier : Nat) (i : Issue) :
    (gatherList tier i).2.2.ident = i.s.ident := by
  unfold gatherList; extract_lets v1 v2; clear_value v2 v1; (first | (simp [ident_foldl, ident_each]; done) | ((repeat' split) <;> simp [ident_foldl, ident_each]))

/-! ### Memory -/

@[simp] theorem State_startTest_ident (s : State) (t : Nat) (b : Nat) (found : Nat) :
    (State.startTest s t b found).ident = s.ident := by simp [State.startTest]
@[simp] theorem fldSpadSecureWrite_ident (a : Agent) (d : Nat) (n : Nat) (s : State) :
    (fldSpadSecureWrite a d n s).ident = s.ident := by simp [fldSpadSecureWrite]

/-! ### Beat -/

@[simp] theorem State_innerSpad_ident (s : State) (security : Bool) (t : Nat) (u : Nat) (data : Option (Vector Byte 32)) :
    (State.innerSpad s security t u data).ident = s.ident := by
  unfold State.innerSpad; (repeat' split) <;> simp [ident_foldl, ident_each]
@[simp] theorem State_innerTier_ident (s : State) (tier2 : Bool) (a : Nat) (data : Option (Vector Byte 32)) :
    (State.innerTier s tier2 a data).ident = s.ident := by
  unfold State.innerTier; extract_lets v1; clear_value v1; (first | (simp [ident_foldl, ident_each]; done) | ((repeat' split) <;> simp [ident_foldl, ident_each]))
@[simp] theorem State_inner_ident (s : State) (a : InnerAccess) :
    (State.inner s a).ident = s.ident := by unfold State.inner; split <;> simp
@[simp] theorem State_upset_ident (s : State) (x : Upset) :
    (State.upset s x).ident = s.ident := by
  unfold State.upset; extract_lets v1; clear_value v1; (first | (simp [ident_foldl, ident_each]; done) | ((repeat' split) <;> simp [ident_foldl, ident_each]))
@[simp] theorem State_packageErrors_ident (s : State) (k : Nat) (n : Nat) :
    (State.packageErrors s k n).ident = s.ident := by simp [State.packageErrors]
@[simp] theorem State_runClocks_ident (s : State) (x : BeatIn) :
    (State.runClocks s x).ident = s.ident := by simp [State.runClocks]
@[simp] theorem State_runTile_ident (s : State) (t : Nat) :
    (State.runTile s t).ident = s.ident := by simp [State.runTile]
@[simp] theorem State_runTiles_ident (s : State) (x : BeatIn) :
    (State.runTiles s x).ident = s.ident := by unfold State.runTiles; (repeat' split) <;> simp [ident_foldl, ident_each]
@[simp] theorem State_endBeat_ident (s : State) (x : BeatIn) :
    (State.endBeat s x).ident = s.ident := by unfold State.endBeat; (repeat' split) <;> simp [ident_foldl, ident_each]

end Sys2Proof.Machine
end

