-- ==== Sys2Proof/Laws/KeptHost.lean ====
section
/-! SUPPORT. The queue, the fused values and the life-cycle transition are kept by the operations on the host interface, plans and serving. -/

namespace Sys2Proof.Machine

/-! ### Host -/

@[simp] theorem interfaceEnable_ident (s : State) :
    (interfaceEnable s).ident = s.ident := by unfold interfaceEnable; (repeat' split) <;> simp [ident_foldl, ident_each]
@[simp] theorem State_closeQueues_ident (s : State) :
    (State.closeQueues s).ident = s.ident := by simp [State.closeQueues]
@[simp] theorem State_badDoorbell_ident (s : State) :
    (State.badDoorbell s).ident = s.ident := by simp [State.badDoorbell]
@[simp] theorem sqDoorbell_ident (q : Nat) (v : Nat) (s : State) :
    (sqDoorbell q v s).ident = s.ident := by unfold sqDoorbell; split <;> simp
@[simp] theorem cqDoorbell_ident (q : Nat) (v : Nat) (s : State) :
    (cqDoorbell q v s).ident = s.ident := by unfold cqDoorbell; split <;> simp
@[simp] theorem eventRingDoorbell_ident (v : Nat) (s : State) :
    (eventRingDoorbell v s).ident = s.ident := by simp [eventRingDoorbell]
@[simp] theorem commandFetch_ident (q : Nat) (x : Queue) (packet : List Byte) (s : State) :
    (commandFetch q x packet s).ident = s.ident := by
  unfold commandFetch; dsimp only; (repeat' split) <;> simp [ident_foldl, ident_each]
@[simp] theorem featureGet_ident (f : Fetched) (s : State) :
    (featureGet f s).ident = s.ident := by
  unfold featureGet; extract_lets v1 v2; clear_value v2 v1; (first | (simp [ident_foldl, ident_each]; done) | ((repeat' split) <;> simp [ident_foldl, ident_each]))
@[simp] theorem queueCreate_ident (f : Fetched) (s : State) :
    (queueCreate f s).ident = s.ident := by
  unfold queueCreate; extract_lets v1 v2 v3; clear_value v3 v2 v1; (first | (simp [ident_foldl, ident_each]; done) | ((repeat' split) <;> simp [ident_foldl, ident_each]))
@[simp] theorem queueDelete_ident (f : Fetched) (s : State) :
    (queueDelete f s).ident = s.ident := by
  unfold queueDelete; extract_lets v1; clear_value v1; (first | (simp [ident_foldl, ident_each]; done) | ((repeat' split) <;> simp [ident_foldl, ident_each]))
@[simp] theorem portStatus_ident (f : Fetched) (s : State) :
    (portStatus f s).ident = s.ident := by
  unfold portStatus; extract_lets v1; clear_value v1; (first | (simp [ident_foldl, ident_each]; done) | ((repeat' split) <;> simp [ident_foldl, ident_each]))
@[simp] theorem State_portReject_ident (s : State) (f : Fetched) (p : Nat) :
    (State.portReject s f p).ident = s.ident := by simp [State.portReject]
@[simp] theorem portResetCmd_ident (f : Fetched) (s : State) :
    (portResetCmd f s).ident = s.ident := by
  unfold portResetCmd; extract_lets v1; clear_value v1; (first | (simp [ident_foldl, ident_each]; done) | ((repeat' split) <;> simp [ident_foldl, ident_each]))
@[simp] theorem portEnableCmd_ident (f : Fetched) (s : State) :
    (portEnableCmd f s).ident = s.ident := by
  unfold portEnableCmd; extract_lets v1; clear_value v1; (first | (simp [ident_foldl, ident_each]; done) | ((repeat' split) <;> simp [ident_foldl, ident_each]))
@[simp] theorem haltClearCmd_ident (f : Fetched) (s : State) :
    (haltClearCmd f s).ident = s.ident := by
  unfold haltClearCmd; extract_lets v1; clear_value v1; (first | (simp [ident_foldl, ident_each]; done) | ((repeat' split) <;> simp [ident_foldl, ident_each]))
@[simp] theorem State_dmaPut_ident (s : State) (space : Nat) (dev : Nat) (data : List Byte) (x0 : Nat) :
    (State.dmaPut s space dev data x0).ident = s.ident := by
  induction x0 with
  | zero => rfl
  | succ n ih =>
    unfold State.dmaPut
    dsimp only
    split
    · split <;> simp [ih]
    · split <;> simp [ih]
@[simp] theorem State_dmaSpad_ident (s : State) (dev : Nat) (total : Nat) (n : Nat) (data : List Byte) (e : DmaIn) :
    (State.dmaSpad s dev total n data e).1.ident = s.ident := by
  unfold State.dmaSpad; dsimp only; (repeat' split) <;> simp [ident_foldl, ident_each]
@[simp] theorem State_dmaWriteRun_ident (s : State) (f : Fetched) (e : DmaIn) :
    (State.dmaWriteRun s f e).1.ident = s.ident := by
  unfold State.dmaWriteRun; dsimp only; (repeat' split) <;> simp [ident_foldl, ident_each]
@[simp] theorem dmaWrite_ident (e : DmaIn) (f : Fetched) (s : State) :
    (dmaWrite e f s).ident = s.ident := by unfold dmaWrite; split <;> simp
@[simp] theorem State_dmaGet_ident (f : Fetched) (space : Nat) (dev : Nat) (e : TierIn) (x0 : Nat) (x1 : Nat) (x2 : State) :
    (State.dmaGet f space dev e x0 x1 x2).1.ident = x2.ident := by
  induction x0 generalizing x1 x2 with
  | zero => rfl
  | succ n ih =>
    unfold State.dmaGet
    dsimp only
    (repeat' split) <;> simp [ih]
@[simp] theorem dmaRead_ident (e : TierIn) (f : Fetched) (s : State) :
    (dmaRead e f s).ident = s.ident := by unfold dmaRead; dsimp only; (repeat' split) <;> simp [ident_foldl, ident_each]
@[simp] theorem State_bar2Byte_ident (s : State) (a : Nat) (b : Byte) (whole : Bool) :
    (State.bar2Byte s a b whole).ident = s.ident := by simp [State.bar2Byte]
@[simp] theorem State_bar2Put_ident (s : State) (a : Nat) (z : Nat) (x0 : Nat) (x1 : List Byte) :
    (State.bar2Put s a z x0 x1).ident = s.ident := by
  induction x1 generalizing x0 s with
  | nil => rfl
  | cons b bs ih => unfold State.bar2Put; rw [ih]; simp
@[simp] theorem State_clearPoison_ident (s : State) (a : Nat) (z : Nat) :
    (State.clearPoison s a z).ident = s.ident := by simp [State.clearPoison]
@[simp] theorem bar2Write_ident (a : Nat) (data : List Byte) (s : State) :
    (bar2Write a data s).ident = s.ident := by unfold bar2Write; (repeat' split) <;> simp [ident_foldl, ident_each]
@[simp] theorem State_bar2Units_ident (s : State) (e : TierIn) (us : List Nat) :
    (State.bar2Units s e us).ident = s.ident := by
  unfold State.bar2Units; (repeat' split) <;> simp [ident_foldl, ident_each]
@[simp] theorem bar2Read_ident (a : Nat) (n : Nat) (e : TierIn) (s : State) :
    (bar2Read a n e s).ident = s.ident := by simp [bar2Read]
@[simp] theorem bar2Access_ident (off : Nat) (n : Nat) (write : Bool) (data : List Byte) (e : TierIn) (s : State) :
    (bar2Access off n write data e s).ident = s.ident := by simp [bar2Access]
@[simp] theorem hstLoRead_ident (a : Agent) (which : Nat) (s : State) :
    (hstLoRead a which s).ident = s.ident := by unfold hstLoRead; split <;> simp
@[simp] theorem State_setIngest_ident (s : State) (x : Ingest) :
    (State.setIngest s x).ident = s.ident := by simp [State.setIngest]
@[simp] theorem State_ingestDrop_ident (s : State) (stream : Nat) (reason : Nat) :
    (State.ingestDrop s stream reason).ident = s.ident := by
  unfold State.ingestDrop; dsimp only; (repeat' split) <;> simp [ident_foldl, ident_each]
@[simp] theorem ingestPush_ident (data : List Byte) (hostFail : Option (BitVec 64)) (f : Fetched) (s : State) :
    (ingestPush data hostFail f s).ident = s.ident := by
  unfold ingestPush; extract_lets v1 v2; clear_value v2 v1; (first | (simp [ident_foldl, ident_each]; done) | ((repeat' split) <;> simp [ident_foldl, ident_each]))
@[simp] theorem ingestWindowClose_ident (e : StreamEntry) (x : Ingest) (part : List Byte) (s : State) :
    (ingestWindowClose e x part s).ident = s.ident := by
  unfold ingestWindowClose; (repeat' split) <;> simp [ident_foldl, ident_each]
@[simp] theorem State_latePushes_ident (s : State) (fs : List Fetched) :
    (State.latePushes s fs).ident = s.ident := by
  unfold State.latePushes
  exact ident_foldl (by intro s i; split <;> simp) _ _
@[simp] theorem pcieLinkDown_ident (s : State) :
    (pcieLinkDown s).ident = s.ident := by unfold pcieLinkDown; (repeat' split) <;> simp [ident_foldl, ident_each]

/-! ### Plan -/

@[simp] theorem State_movePlan_ident (s : State) (p : PlanState) :
    (State.movePlan s p).ident = s.ident := by unfold State.movePlan; split <;> simp
@[simp] theorem State_recordLoad_ident (s : State) (c : LoadCode) (detail : Nat) :
    (State.recordLoad s c detail).ident = s.ident := by simp [State.recordLoad]
@[simp] theorem State_refusePlan_ident (s : State) (f : Fetched) (c : LoadCode) (detail : Nat) :
    (State.refusePlan s f c detail).ident = s.ident := by simp [State.refusePlan]
@[simp] theorem State_loadHeader_ident (s : State) (h : Header) :
    (State.loadHeader s h).ident = s.ident := by simp [State.loadHeader]
@[simp] theorem State_loadGive_ident (s : State) (p : PortRec) :
    (State.loadGive s p).ident = s.ident := by simp [State.loadGive]
@[simp] theorem State_zeroSpads_ident (s : State) :
    (State.zeroSpads s).ident = s.ident := by
  unfold State.zeroSpads; extract_lets v1; clear_value v1; (first | (simp [ident_foldl, ident_each]; done) | ((repeat' split) <;> simp [ident_foldl, ident_each]))
@[simp] theorem State_writeSpad_ident (s : State) (t : Nat) (byte : Nat) (b : List Byte) :
    (State.writeSpad s t byte b).ident = s.ident := by simp [State.writeSpad]
@[simp] theorem State_fillDie_ident (m : Image) (s : State) (d : Nat) :
    (State.fillDie m s d).ident = s.ident := by unfold State.fillDie; (repeat' split) <;> simp [ident_foldl, ident_each]
@[simp] theorem State_unplaceTiles_ident (s : State) :
    (State.unplaceTiles s).ident = s.ident := by simp [State.unplaceTiles]
@[simp] theorem State_placePrograms_ident (m : Image) (s : State) (d : Nat) :
    (State.placePrograms m s d).ident = s.ident := by
  unfold State.placePrograms; extract_lets v1; clear_value v1; (first | (simp [ident_foldl, ident_each]; done) | ((repeat' split) <;> simp [ident_foldl, ident_each]))
@[simp] theorem State_loadLayout_ident (s : State) (y : Option Layout) :
    (State.loadLayout s y).ident = s.ident := by unfold State.loadLayout; split <;> simp
@[simp] theorem State_install_ident (s : State) (m : Image) (start : Nat) :
    (State.install s m start).ident = s.ident := by
  unfold State.install
  dsimp only
  rw [State_movePlan_ident, ident_mk, ident_each (by intro s i; rw [State_modPort_ident]),
    ident_foldl (by intro s d; rw [State_placePrograms_ident]), State_unplaceTiles_ident, State_refillTests_ident,
    ident_foldl (by intro s d; rw [State_fillDie_ident])]
  simp only [State_zeroSpads_ident, State_flushTests_ident, State_recordLoad_ident, State_loadLayout_ident, State_set_ident]
  rw [ident_foldl (by intro s d; rw [State_loadGive_ident]), ident_mk, ident_each (by intro s i; rw [State_clearAll_ident]),
    State_loadHeader_ident]
@[simp] theorem planLoad_ident (f : Fetched) (s : State) :
    (planLoad f s).ident = s.ident := by
  unfold planLoad; extract_lets v1; clear_value v1; (first | (simp [ident_foldl, ident_each]; done) | ((repeat' split) <;> simp [ident_foldl, ident_each]))
@[simp] theorem planArm_ident (f : Fetched) (s : State) :
    (planArm f s).ident = s.ident := by unfold planArm; (repeat' split) <;> simp [ident_foldl, ident_each]
@[simp] theorem planStart_ident (s : State) :
    (planStart s).ident = s.ident := by simp [planStart]
@[simp] theorem rimStart_ident (s : State) :
    (rimStart s).ident = s.ident := by simp [rimStart]
@[simp] theorem startBeat_ident (s : State) :
    (startBeat s).ident = s.ident := by simp [startBeat]
@[simp] theorem stopAtMeasure_ident (f : Fetched) (s : State) :
    (stopAtMeasure f s).ident = s.ident := by
  unfold stopAtMeasure; extract_lets v1; clear_value v1; (first | (simp [ident_foldl, ident_each]; done) | ((repeat' split) <;> simp [ident_foldl, ident_each]))
@[simp] theorem State_clearPlan_ident (s : State) :
    (State.clearPlan s).ident = s.ident := by unfold State.clearPlan; (repeat' split) <;> simp [ident_foldl, ident_each]
@[simp] theorem State_clearRouter_ident (s : State) :
    (State.clearRouter s).ident = s.ident := by
  unfold State.clearRouter
  rw [ident_mk, ident_each (by intro s i; rw [State_modPort_ident]), State_set_ident, State_set_ident, State_set_ident]
@[simp] theorem planUnload_ident (f : Fetched) (s : State) :
    (planUnload f s).ident = s.ident := by unfold planUnload; split <;> simp
@[simp] theorem State_lateRegion_ident (b : Nat) (s : State) (r : Nat) :
    (State.lateRegion b s r).ident = s.ident := by simp [State.lateRegion]
@[simp] theorem State_noteLate_ident (late : List Nat) (s : State) (d : Nat) :
    (State.noteLate late s d).ident = s.ident := by unfold State.noteLate; split <;> simp
@[simp] theorem State_sendFinish_ident (s : State) (m : Nat) (margin : Int) :
    (State.sendFinish s m margin).ident = s.ident := by
  unfold State.sendFinish; (repeat' split) <;> simp [ident_foldl, ident_each]
@[simp] theorem State_checkRegions_ident (s : State) (m : Nat) (late : List Nat) (margin : Int) :
    (State.checkRegions s m late margin).ident = s.ident := by
  unfold State.checkRegions; (repeat' split) <;> simp [ident_foldl, ident_each]
@[simp] theorem regionCheck_ident (ps : Word) (s : State) :
    (regionCheck ps s).ident = s.ident := by
  unfold regionCheck; extract_lets v1 v2; clear_value v2 v1; (first | (simp [ident_foldl, ident_each]; done) | ((repeat' split) <;> simp [ident_foldl, ident_each]))
@[simp] theorem State_itemLate_ident (x : Plan) (s : State) (e : DueEntry) :
    (State.itemLate x s e).ident = s.ident := by simp [State.itemLate]
@[simp] theorem State_accessLate_ident (s : State) (a : TierAccess) :
    (State.accessLate s a).ident = s.ident := by simp [State.accessLate]
@[simp] theorem dueBeatCheck_ident (x : Plan) (s : State) :
    (dueBeatCheck x s).ident = s.ident := by unfold dueBeatCheck; (repeat' split) <;> simp [ident_foldl, ident_each]
@[simp] theorem secondCheck_ident (x : Plan) (s : State) :
    (secondCheck x s).ident = s.ident := by unfold secondCheck; (repeat' split) <;> simp [ident_foldl, ident_each]

/-! ### Serving -/

@[simp] theorem State_setSlot_ident (s : State) (n : Nat) (x : ServeSlot) :
    (State.setSlot s n x).ident = s.ident := by simp [State.setSlot]
@[simp] theorem State_hubWrite_ident (s : State) (unit' : Nat) (b : List Byte) :
    (State.hubWrite s unit' b).ident = s.ident := by simp [State.hubWrite]
@[simp] theorem State_stage_ident (s : State) (f : Fetched) (n : Nat) (kind : Nat) (r : List Byte) :
    (State.stage s f n kind r).ident = s.ident := by simp [State.stage]
@[simp] theorem slotWrite_ident (f : Fetched) (s : State) :
    (slotWrite f s).ident = s.ident := by
  unfold slotWrite; extract_lets v1 v2; clear_value v2 v1; (first | (simp [ident_foldl, ident_each]; done) | ((repeat' split) <;> simp [ident_foldl, ident_each]))
@[simp] theorem slotClear_ident (f : Fetched) (s : State) :
    (slotClear f s).ident = s.ident := by unfold slotClear; (repeat' split) <;> simp [ident_foldl, ident_each]
@[simp] theorem headsGate_ident (f : Fetched) (s : State) :
    (headsGate f s).ident = s.ident := by
  unfold headsGate; extract_lets v1; clear_value v1; (first | (simp [ident_foldl, ident_each]; done) | ((repeat' split) <;> simp [ident_foldl, ident_each]))
@[simp] theorem slotRead_ident (f : Fetched) (s : State) :
    (slotRead f s).ident = s.ident := by unfold slotRead; split <;> simp
@[simp] theorem State_completeStaged_ident (s : State) (e : Staged) (c : Cc) (result : Nat) :
    (State.completeStaged s e c result).ident = s.ident := by
  unfold State.completeStaged; (repeat' split) <;> simp [ident_foldl, ident_each]
@[simp] theorem State_failStaged_ident (s : State) :
    (State.failStaged s).ident = s.ident := by
  unfold State.failStaged; extract_lets v1; clear_value v1; (first | (simp [ident_foldl, ident_each]; done) | ((repeat' split) <;> simp [ident_foldl, ident_each]))
@[simp] theorem State_applyStaged_ident (s : State) (e : Staged) (stands : Bool) :
    (State.applyStaged s e stands).ident = s.ident := by unfold State.applyStaged; split <;> simp
@[simp] theorem applySlots_ident (x0 : List Staged) (x1 : State) :
    (applySlots x0 x1).ident = x1.ident := by
  induction x0 generalizing x1 with
  | nil => rfl
  | cons e es ih => unfold applySlots; rw [ih]; simp
@[simp] theorem State_slotDownbeat_ident (s : State) (m : Nat) :
    (State.slotDownbeat s m).ident = s.ident := by
  unfold State.slotDownbeat; (repeat' split) <;> simp [ident_foldl, ident_each]
@[simp] theorem walkComplete_ident (y : Layout) (w : Walk) (rest : List Walk) (s : State) :
    (walkComplete y w rest s).ident = s.ident := by simp [walkComplete]
@[simp] theorem State_outRecord_ident (s : State) (y : Layout) (n : Nat) (step : Nat) (out : List Nat) (acc : Nat) (stop : Bool) (max' : Bool) :
    (State.outRecord s y n step out acc stop max').ident = s.ident := by simp [State.outRecord]
@[simp] theorem State_finishSlot_ident (s : State) (y : Layout) (n : Nat) (j : Nat) (r : Nat) (k : Nat) (acc : Nat) (all : List Nat) :
    (State.finishSlot s y n j r k acc all).ident = s.ident := by simp [State.finishSlot]
@[simp] theorem State_autoGate_ident (s : State) (n : Nat) :
    (State.autoGate s n).ident = s.ident := by simp [State.autoGate]
@[simp] theorem State_decodeSlot_ident (s : State) (y : Layout) (n : Nat) (j : Nat) (r : Nat) :
    (State.decodeSlot s y n j r).ident = s.ident := by simp [State.decodeSlot]
@[simp] theorem State_verifySlot_ident (y : Layout) (g : GroupEntry) (j : Nat) (s : State) (k : Nat) :
    (State.verifySlot y g j s k).ident = s.ident := by simp [State.verifySlot]
@[simp] theorem State_admitSlot_ident (s : State) (n : Nat) :
    (State.admitSlot s n).ident = s.ident := by
  unfold State.admitSlot; extract_lets v1; clear_value v1; (first | (simp [ident_foldl, ident_each]; done) | ((repeat' split) <;> simp [ident_foldl, ident_each]))
@[simp] theorem State_loseAdapter_ident (s : State) (y : Layout) (n : Nat) (j : Nat) :
    (State.loseAdapter s y n j).ident = s.ident := by
  unfold State.loseAdapter; extract_lets v1; clear_value v1; (first | (simp [ident_foldl, ident_each]; done) | ((repeat' split) <;> simp [ident_foldl, ident_each]))
@[simp] theorem State_buildSlot_ident (y : Layout) (g : GroupEntry) (j : Nat) (adapters : List Nat) (s : State) (k : Nat) :
    (State.buildSlot y g j adapters s k).ident = s.ident := by simp [State.buildSlot]
@[simp] theorem State_build_ident (s : State) (y : Layout) (g : GroupEntry) (j : Nat) :
    (State.build s y g j).ident = s.ident := by unfold State.build; (repeat' split) <;> simp [ident_foldl, ident_each]
@[simp] theorem verifyBeat_ident (y : Layout) (k : Nat) (g : GroupEntry) (beats : Nat) (s : State) :
    (verifyBeat y k g beats s).ident = s.ident := by
  unfold verifyBeat; (repeat' split) <;> simp [ident_foldl, ident_each]
@[simp] theorem srvOutHeadWrite_ident (v : Nat) (s : State) :
    (srvOutHeadWrite v s).ident = s.ident := by simp [srvOutHeadWrite]

end Sys2Proof.Machine
end

