-- ==== Sys2Proof/Laws/KeptMgmt.lean ====
section
/-! SUPPORT. The queue, the fused values and the life-cycle transition are kept by the operations on power, faults, telemetry, boot and the management plane. -/

namespace Sys2Proof.Machine

/-! ### Power -/

@[simp] theorem State_lostSpads_ident (s : State) :
    (State.lostSpads s).ident = s.ident := by simp [State.lostSpads]
@[simp] theorem State_drawNonce_ident (s : State) :
    (State.drawNonce s).ident = s.ident := by simp [State.drawNonce]
@[simp] theorem State_restartAccum_ident (s : State) (p : Held → Bool) :
    (State.restartAccum s p).ident = s.ident := by simp [State.restartAccum]
@[simp] theorem State_loseField_ident (s : State) :
    (State.loseField s).ident = s.ident := by simp [State.loseField]
@[simp] theorem State_dropParked_ident (s : State) :
    (State.dropParked s).ident = s.ident := by
  unfold State.dropParked; (repeat' split) <;> simp [ident_foldl, ident_each]
@[simp] theorem State_unpark_ident (s : State) :
    (State.unpark s).ident = s.ident := by
  unfold State.unpark; extract_lets v1; clear_value v1; (first | (simp [ident_foldl, ident_each]; done) | ((repeat' split) <;> simp [ident_foldl, ident_each]))
@[simp] theorem State_failDma_ident (s : State) :
    (State.failDma s).ident = s.ident := by unfold State.failDma; (repeat' split) <;> simp [ident_foldl, ident_each]
@[simp] theorem State_beginFieldReset_ident (s : State) :
    (State.beginFieldReset s).ident = s.ident := by simp [State.beginFieldReset]
@[simp] theorem State_acceptFieldReset_ident (s : State) :
    (State.acceptFieldReset s).ident = s.ident := by simp [State.acceptFieldReset]
@[simp] theorem State_fieldResetRequest_ident (s : State) :
    (State.fieldResetRequest s).2.ident = s.ident := by
  unfold State.fieldResetRequest; (repeat' split) <;> simp [ident_foldl, ident_each]
@[simp] theorem State_beginEntry_ident (s : State) (t : Nat) :
    (State.beginEntry s t).ident = s.ident := by simp [State.beginEntry]
@[simp] theorem State_leaveHush_ident (s : State) :
    (State.leaveHush s).ident = s.ident := by simp [State.leaveHush]
@[simp] theorem State_powerReject_ident (s : State) :
    (State.powerReject s).ident = s.ident := by simp [State.powerReject]
@[simp] theorem State_powerRequest_ident (s : State) (t : Nat) :
    (State.powerRequest s t).ident = s.ident := by simp [State.powerRequest]
@[simp] theorem fltCtrlWrite_ident (v : Nat) (s : State) :
    (fltCtrlWrite v s).ident = s.ident := by
  unfold fltCtrlWrite
  dsimp only
  split
  · split
    · next h => simpa using congrArg (fun p => State.ident p.2) h.symm
    · next h => simpa using congrArg (fun p => State.ident p.2) h.symm
  · simp
@[simp] theorem State_enterRelay_ident (s : State) :
    (State.enterRelay s).ident = s.ident := by simp [State.enterRelay]
@[simp] theorem State_completeResets_ident (s : State) :
    (State.completeResets s).ident = s.ident := by
  unfold State.completeResets; (repeat' split) <;> simp [ident_foldl, ident_each]
@[simp] theorem State_endRestart_ident (s : State) :
    (State.endRestart s).ident = s.ident := by simp [State.endRestart]
@[simp] theorem resetField_ident (f : Fetched) (s : State) :
    (resetField f s).ident = s.ident := by
  unfold resetField
  split
  · simp
  · split
    · simp
    · next h => simpa using congrArg (fun p => State.ident p.2) h.symm
@[simp] theorem State_packageResetIn_ident (s : State) (cause : Nat) (beats : Nat) :
    (State.packageResetIn s cause beats).ident = s.ident := by unfold State.packageResetIn; split <;> simp
@[simp] theorem perstAssert_ident (s : State) :
    (perstAssert s).ident = s.ident := by simp [perstAssert]

/-! ### Dump -/

@[simp] theorem State_dumpWrite_ident (s : State) (off : Nat) (b : List Byte) :
    (State.dumpWrite s off b).ident = s.ident := by simp [State.dumpWrite]
@[simp] theorem State_writeDump_ident (s : State) (secs : List (Nat × List Byte)) (flags : Nat) :
    (State.writeDump s secs flags).2.ident = s.ident := by
  unfold State.writeDump; (repeat' split) <;> simp [ident_foldl, ident_each]
@[simp] theorem State_noteDump_ident (s : State) (length : Nat) (summaries : Bool) :
    (State.noteDump s length summaries).ident = s.ident := by simp [State.noteDump]
@[simp] theorem State_summaryDump_ident (s : State) :
    (State.summaryDump s).ident = s.ident := by simp [State.summaryDump]

/-! ### Downbeat -/

@[simp] theorem State_endMeasure_ident (s : State) (r : Nat) (cycles : Nat) (current : Nat) :
    (State.endMeasure s r cycles current).ident = s.ident := by
  unfold State.endMeasure; dsimp only; (repeat' split) <;> simp [ident_foldl, ident_each]
@[simp] theorem State_endMeasures_ident (s : State) (x : DownIn) :
    (State.endMeasures s x).ident = s.ident := by
  unfold State.endMeasures; (repeat' split) <;> simp [ident_foldl, ident_each]
@[simp] theorem State_latchOcc_ident (s : State) (u : Nat) (busy : Nat) :
    (State.latchOcc s u busy).ident = s.ident := by simp [State.latchOcc]
@[simp] theorem State_latchItems_ident (s : State) (t : Nat) :
    (State.latchItems s t).ident = s.ident := by simp [State.latchItems]
@[simp] theorem State_latchTiers_ident (s : State) (x : DownIn) :
    (State.latchTiers s x).ident = s.ident := by
  unfold State.latchTiers; (repeat' split) <;> simp [ident_foldl, ident_each]
@[simp] theorem State_acquireMeasure_ident (s : State) :
    (State.acquireMeasure s).ident = s.ident := by simp [State.acquireMeasure]
@[simp] theorem State_slew_ident (s : State) :
    (State.slew s).ident = s.ident := by
  unfold State.slew; extract_lets v1; clear_value v1; (first | (simp [ident_foldl, ident_each]; done) | ((repeat' split) <;> simp [ident_foldl, ident_each]))
@[simp] theorem State_sendTimeWords_ident (s : State) (x : DownIn) :
    (State.sendTimeWords s x).ident = s.ident := by
  unfold State.sendTimeWords; (repeat' split) <;> simp [ident_foldl, ident_each]
@[simp] theorem State_applyCode_ident (s : State) (r : Nat) (code : Nat) :
    (State.applyCode s r code).ident = s.ident := by simp [State.applyCode]
@[simp] theorem State_applyRows_ident (s : State) (late : List DieIx) (m : Nat) :
    (State.applyRows s late m).ident = s.ident := by
  unfold State.applyRows; extract_lets v1; clear_value v1; (first | (simp [ident_foldl, ident_each]; done) | ((repeat' split) <;> simp [ident_foldl, ident_each]))
@[simp] theorem State_changeFreq_ident (s : State) (late : List DieIx) (m : Nat) (e : FreqEntry) :
    (State.changeFreq s late m e).ident = s.ident := by
  unfold State.changeFreq; extract_lets v1; clear_value v1; (first | (simp [ident_foldl, ident_each]; done) | ((repeat' split) <;> simp [ident_foldl, ident_each]))
@[simp] theorem State_handCodes_ident (s : State) (m : Nat) :
    (State.handCodes s m).ident = s.ident := by
  unfold State.handCodes; extract_lets v1; clear_value v1; (first | (simp [ident_foldl, ident_each]; done) | ((repeat' split) <;> simp [ident_foldl, ident_each]))
@[simp] theorem State_stopPlan_ident (s : State) :
    (State.stopPlan s).ident = s.ident := by simp [State.stopPlan]
@[simp] theorem State_restMeasure_ident (s : State) :
    (State.restMeasure s).ident = s.ident := by
  unfold State.restMeasure; (repeat' split) <;> simp [ident_foldl, ident_each]
@[simp] theorem State_planMeasure_ident (s : State) (late : List DieIx) (m : Nat) :
    (State.planMeasure s late m).ident = s.ident := by
  unfold State.planMeasure; (repeat' split) <;> simp [ident_foldl, ident_each]
@[simp] theorem State_countAt_ident (s : State) (m : Nat) :
    (State.countAt s m).ident = s.ident := by simp [State.countAt]
@[simp] theorem State_hubDownbeat_ident (s : State) (late : List DieIx) :
    (State.hubDownbeat s late).ident = s.ident := by
  unfold State.hubDownbeat; dsimp only; (repeat' split) <;> simp [ident_foldl, ident_each]
@[simp] theorem State_rimDownbeat_ident (s : State) :
    (State.rimDownbeat s).ident = s.ident := by
  unfold State.rimDownbeat; extract_lets v1; clear_value v1; (first | (simp [ident_foldl, ident_each]; done) | ((repeat' split) <;> simp [ident_foldl, ident_each]))
@[simp] theorem State_notePower_ident (s : State) :
    (State.notePower s).ident = s.ident := by simp [State.notePower]
@[simp] theorem State_reloadCopies_ident (s : State) (done : Bool) :
    (State.reloadCopies s done).ident = s.ident := by unfold State.reloadCopies; split <;> simp
@[simp] theorem downbeat_ident (x : DownIn) (s : State) :
    (downbeat x s).ident = s.ident := by simp [downbeat]

/-! ### Boot -/

@[simp] theorem State_putCopy_ident (s : State) (copy : Nat) (b : CfgBlock) :
    (State.putCopy s copy b).ident = s.ident := by simp [State.putCopy]
@[simp] theorem State_loadBlock_ident (s : State) (id : Nat) :
    (State.loadBlock s id).ident = s.ident := by
  unfold State.loadBlock; (repeat' split) <;> simp [ident_foldl, ident_each]
@[simp] theorem State_linkDefaults_ident (s : State) :
    (State.linkDefaults s).ident = s.ident := by
  unfold State.linkDefaults; (repeat' split) <;> simp [ident_foldl, ident_each]
@[simp] theorem State_loadConfig_ident (s : State) :
    (State.loadConfig s).ident = s.ident := by
  unfold State.loadConfig; dsimp only; (repeat' split) <;> simp [ident_foldl, ident_each]
@[simp] theorem State_romRecovery_ident (s : State) :
    (State.romRecovery s).ident = s.ident := by simp [State.romRecovery]
@[simp] theorem State_firmware_ident (s : State) (image : Nat) (fallback : Bool) (version : Nat) :
    (State.firmware s image fallback version).ident = s.ident := by simp [State.firmware]
@[simp] theorem State_openPorts_ident (s : State) :
    (State.openPorts s).ident = s.ident := by unfold State.openPorts; (repeat' split) <;> simp [ident_foldl, ident_each]
@[simp] theorem hubReady_ident (b : BootIn) (s : State) :
    (hubReady b s).ident = s.ident := by unfold hubReady; dsimp only; (repeat' split) <;> simp [ident_foldl, ident_each]
@[simp] theorem State_startWipe_ident (s : State) (cause : Nat) :
    (State.startWipe s cause).ident = s.ident := by
  unfold State.startWipe; (repeat' split) <;> simp [ident_foldl, ident_each]
@[simp] theorem wipe_ident (s : State) :
    (wipe s).ident = s.ident := by unfold wipe; (repeat' split) <;> simp [ident_foldl, ident_each]
@[simp] theorem tamper_ident (s : State) :
    (tamper s).ident = s.ident := by simp [tamper]
@[simp] theorem thermalWarning_ident (s : State) :
    (thermalWarning s).ident = s.ident := by simp [thermalWarning]
@[simp] theorem thermalTrip_ident (cls : Nat) (unit' : Nat) (sensor : Nat) (temp : Nat) (s : State) :
    (thermalTrip cls unit' sensor temp s).ident = s.ident := by simp [thermalTrip]
@[simp] theorem pmbusPoll_ident (vin : Nat) (iin : Nat) (temp : Nat) (fault : Bool) (s : State) :
    (pmbusPoll vin iin temp fault s).ident = s.ident := by simp [pmbusPoll]

/-! ### Faults -/

@[simp] theorem State_laterReason_ident (s : State) (r : Raised) :
    (State.laterReason s r).ident = s.ident := by simp [State.laterReason]
@[simp] theorem State_latchFatal_ident (s : State) (r : Raised) :
    (State.latchFatal s r).ident = s.ident := by simp [State.latchFatal]
@[simp] theorem State_openFault_ident (s : State) (r : Raised) :
    (State.openFault s r).ident = s.ident := by simp [State.openFault]
@[simp] theorem State_stopWork_ident (s : State) :
    (State.stopWork s).ident = s.ident := by simp [State.stopWork]
@[simp] theorem State_enterFatal_ident (s : State) (r : Raised) :
    (State.enterFatal s r).ident = s.ident := by simp [State.enterFatal]
@[simp] theorem fatalEntry_ident (at' : List Nat) (s : State) :
    (fatalEntry at' s).ident = s.ident := by
  unfold fatalEntry; dsimp only; (repeat' split) <;> simp [ident_foldl, ident_each]
@[simp] theorem fatalReport_ident (s : State) :
    (fatalReport s).ident = s.ident := by simp [fatalReport]
@[simp] theorem flashSummary_ident (s : State) :
    (flashSummary s).ident = s.ident := by simp [flashSummary]
@[simp] theorem dumpWrite_ident (s : State) :
    (dumpWrite s).ident = s.ident := by
  unfold dumpWrite
  extract_lets s1
  have h : s1.ident = s.ident := State_draw_ident s
  clear_value s1
  generalize hr : s1.writeDump s1.sections (s1.flags true s1.dumpLimited false) = r
  have h2 : r.2.ident = s.ident := by rw [← hr, State_writeDump_ident, h]
  clear hr
  obtain ⟨n, s2⟩ := r
  dsimp only
  split
  · rw [State_beginFieldReset_ident, ident_mk, State_noteDump_ident, h2]
  · rw [ident_mk, State_noteDump_ident, h2]
@[simp] theorem faultStatus_ident (f : Fetched) (s : State) :
    (faultStatus f s).ident = s.ident := by simp [faultStatus]
@[simp] theorem faultClear_ident (f : Fetched) (s : State) :
    (faultClear f s).ident = s.ident := by simp [faultClear]
@[simp] theorem State_dumpGet_ident (host : Nat) (base : Nat) (e : TierIn) (x0 : Nat) (x1 : Nat) (x2 : State) :
    (State.dumpGet host base e x0 x1 x2).1.ident = x2.ident := by
  induction x0 generalizing x1 x2 with
  | zero => rfl
  | succ n ih =>
    unfold State.dumpGet
    dsimp only
    split <;> simp [ih]
@[simp] theorem dumpRead_ident (e : TierIn) (f : Fetched) (s : State) :
    (dumpRead e f s).ident = s.ident := by
  unfold dumpRead; extract_lets v1 v2; clear_value v2 v1; (first | (simp [ident_foldl, ident_each]; done) | ((repeat' split) <;> simp [ident_foldl, ident_each]))

/-! ### Telemetry -/

@[simp] theorem State_ringModule_ident (s : State) (b : List Byte) :
    (State.ringModule s b).ident = s.ident := by simp [State.ringModule]
@[simp] theorem State_streamModule_ident (s : State) (n : Nat) (b : List Byte) :
    (State.streamModule s n b).ident = s.ident := by simp [State.streamModule]
@[simp] theorem State_nextPeriod_ident (s : State) :
    (State.nextPeriod s).ident = s.ident := by simp [State.nextPeriod]
@[simp] theorem moduleRecord_ident (s : State) :
    (moduleRecord s).ident = s.ident := by simp [moduleRecord]
@[simp] theorem State_readAges_ident (s : State) (xs : List (BitVec 16 × BitVec 16)) :
    (State.readAges s xs).ident = s.ident := by
  unfold State.readAges; (repeat' split) <;> simp [ident_foldl, ident_each]
@[simp] theorem State_publishLife_ident (s : State) :
    (State.publishLife s).ident = s.ident := by simp [State.publishLife]
@[simp] theorem State_writeHistory_ident (s : State) :
    (State.writeHistory s).ident = s.ident := by simp [State.writeHistory]
@[simp] theorem ageingReading_ident (xs : List (BitVec 16 × BitVec 16)) (s : State) :
    (ageingReading xs s).ident = s.ident := by simp [ageingReading]
@[simp] theorem telRead_ident (f : Fetched) (s : State) :
    (telRead f s).ident = s.ident := by unfold telRead; split <;> simp

/-! ### Mailbox -/

@[simp] theorem State_lockDenied_ident (s : State) (m : Nat) :
    (State.lockDenied s m).ident = s.ident := by simp [State.lockDenied]
@[simp] theorem lockRead_ident (a : Agent) (m : Nat) (s : State) :
    (lockRead a m s).ident = s.ident := by
  unfold lockRead; extract_lets v1; clear_value v1; (first | (simp [ident_foldl, ident_each]; done) | ((repeat' split) <;> simp [ident_foldl, ident_each]))
@[simp] theorem lockWrite_ident (a : Agent) (m : Nat) (v : Nat) (s : State) :
    (lockWrite a m v s).ident = s.ident := by
  unfold lockWrite; extract_lets v1; clear_value v1; (first | (simp [ident_foldl, ident_each]; done) | ((repeat' split) <;> simp [ident_foldl, ident_each]))
@[simp] theorem doorbell_ident (a : Agent) (m : Nat) (len : Nat) (s : State) :
    (doorbell a m len s).ident = s.ident := by simp [doorbell]
@[simp] theorem bufferWrite_ident (a : Agent) (m : Nat) (k : Nat) (v : Word) (s : State) :
    (bufferWrite a m k v s).ident = s.ident := by simp [bufferWrite]
@[simp] theorem State_answer_ident (s : State) (m : Nat) (status : Nat) (body : List Byte) :
    (State.answer s m status body).ident = s.ident := by simp [State.answer]
@[simp] theorem State_endRequest_ident (s : State) (m : Nat) :
    (State.endRequest s m).ident = s.ident := by
  unfold State.endRequest; dsimp only; (repeat' split) <;> simp [ident_foldl, ident_each]
@[simp] theorem respond_ident (m : Nat) (x : Answer) (s : State) :
    (respond m x s).ident = s.ident := by simp [respond]
@[simp] theorem fwWrite_ident (m : Nat) (off : Nat) (data : List Byte) (s : State) :
    (fwWrite m off data s).ident = s.ident := by simp [fwWrite]
@[simp] theorem fwCommit_ident (m : Nat) (x : ImageCheck) (s : State) :
    (fwCommit m x s).ident = s.ident := by simp [fwCommit]
@[simp] theorem cfgRead_ident (m : Nat) (id : Nat) (s : State) :
    (cfgRead m id s).ident = s.ident := by
  unfold cfgRead; extract_lets v1; clear_value v1; (first | (simp [ident_foldl, ident_each]; done) | ((repeat' split) <;> simp [ident_foldl, ident_each]))
@[simp] theorem cfgWrite_ident (m : Nat) (id : Nat) (version : Nat) (body : List Byte) (done : Nat) (s : State) :
    (cfgWrite m id version body done s).ident = s.ident := by
  unfold cfgWrite; (repeat' split) <;> simp [ident_foldl, ident_each]
@[simp] theorem fenceService_ident (m : Nat) (mask : Nat) (set' : Bool) (s : State) :
    (fenceService m mask set' s).ident = s.ident := by
  unfold fenceService; extract_lets v1; clear_value v1; (first | (simp [ident_foldl, ident_each]; done) | ((repeat' split) <;> simp [ident_foldl, ident_each]))
@[simp] theorem State_lcDenied_ident (s : State) (reason : Nat) :
    (State.lcDenied s reason).ident = s.ident := by simp [State.lcDenied]
@[simp] theorem secureWrite_ident (m : Nat) (off : Nat) (data : List Byte) (s : State) :
    (secureWrite m off data s).ident = s.ident := by simp [secureWrite]
@[simp] theorem secureRead_ident (m : Nat) (off : Nat) (n : Nat) (s : State) :
    (secureRead m off n s).ident = s.ident := by simp [secureRead]

/-! ### RegAccess -/

@[simp] theorem State_clearRead_ident (s : State) (r : Reg) (i : Nat) :
    (State.clearRead s r i).ident = s.ident := by simp [State.clearRead]
@[simp] theorem readReg_ident (a : Agent) (r : Reg) (i : Nat) (s : State) :
    (readReg a r i s).ident = s.ident := by simp [readReg]
@[simp] theorem State_writeField_ident (s : State) (f : RegField) (i : Nat) (v : Nat) :
    (State.writeField s f i v).ident = s.ident := by unfold State.writeField; split <;> simp
@[simp] theorem State_writeReg_ident (s : State) (r : Reg) (i : Nat) (v : Nat) :
    (State.writeReg s r i v).ident = s.ident := by
  unfold State.writeReg; (repeat' split) <;> simp [ident_foldl, ident_each]
@[simp] theorem writeKind_ident (r : Reg) (i : Nat) (v : Nat) (s : State) :
    (writeKind r i v s).ident = s.ident := by unfold writeKind; split <;> simp
@[simp] theorem State_secDenied_ident (s : State) (a : Agent) :
    (State.secDenied s a).ident = s.ident := by simp [State.secDenied]
@[simp] theorem registerWrite_ident (a : Agent) (r : Reg) (i : Nat) (v : Nat) (s : State) :
    (registerWrite a r i v s).ident = s.ident := by simp [registerWrite]

end Sys2Proof.Machine
end

