-- ==== Sys2Proof/Laws/KeptExec.lean ====
section
/-! SUPPORT. The commands that keep the queue, the fused values and the life-cycle transition; and what the others make of them. -/

namespace Sys2Proof.Machine

@[simp] theorem snd_ite_ident {α : Type} (c : Prop) [Decidable c] (a b : α × State) :
    (if c then a else b).2.ident = if c then a.2.ident else b.2.ident := by split <;> rfl

theorem snd_ite_of {α : Type} {c : Prop} [Decidable c] {a b : α × State} {r : List Instr × Fused × Option Transition}
    (h : a.2.ident = r) (k : b.2.ident = r) : (if c then a else b).2.ident = r := by split <;> assumption

/-- A meaning that, where it answers a next state, leaves the queue, the fused values and the transition as they were. -/
def Kept (s : State) (o : Host.Outcome State Fault Refusal) : Prop := ∀ t, o = .next t → t.ident = s.ident

theorem fault_kept {s : State} {f : Fault} : Kept s (.fault f) := by intro t h; cases h
theorem next_kept {s t : State} (h : t.ident = s.ident) : Kept s (.next t) := by intro u e; cases e; exact h

theorem occurs_kept {g : Bool} {f : State → State} {s : State} (hf : ∀ s, (f s).ident = s.ident) :
    Kept s (occurs g f s) := by
  unfold occurs
  split
  · exact next_kept (by rw [hf]; rfl)
  · exact next_kept rfl

theorem hostCommand_kept {op : Nat} {q : QueueIx} {cid : Cid} {body : Fetched → State → State} {s : State}
    (hf : ∀ f s, (body f s).ident = s.ident) : Kept s (hostCommand op q cid body s) := by
  unfold hostCommand
  split
  · exact occurs_kept (fun _ => rfl)
  · exact occurs_kept (hf _)

theorem issueAt_kept {t e op : Nat} {body : Issue → List Cond × State} {s : State}
    (hf : ∀ i, (body i).2.ident = i.s.ident) : Kept s (issueAt t e op body s) := by
  have h0 : (s.begin.enterCycle t e).ident = s.ident := by simp
  unfold issueAt
  dsimp only
  split
  · exact next_kept rfl
  · generalize s.begin.enterCycle t e = s1 at h0
    split
    · exact next_kept h0
    · split
      · exact next_kept (by simp [h0])
      · split
        · exact next_kept (by simp [h0])
        · exact next_kept (by simp [h0])
        · next y _ =>
          split
          · next h =>
            refine next_kept ?_
            have h2 := hf ⟨s1.setTile t { y with tokenStall := false }, t, e, (s1.tile t).pc, s1.spadWord t (s1.tile t).pc,
              (List.range (extOf (s1.spadWord t (s1.tile t).pc))).map (fun k => s1.spadWord t ((s1.tile t).pc + 1 + k))⟩
            rw [h] at h2
            exact h2.trans (by simp [h0])
          · exact next_kept (by simp [h0])

theorem execRefLost_kept (s : State) : Kept s (execRefLost s) := by
  unfold execRefLost; exact occurs_kept (by intros; simp)
theorem execRefclkPodReturn_kept (s : State) : Kept s (execRefclkPodReturn s) := by
  unfold execRefclkPodReturn; exact occurs_kept (by intros; simp)
theorem execTimeWord_kept (p : PortIx) (frac : BitVec 16) (s : State) : Kept s (execTimeWord p frac s) := by
  unfold execTimeWord; split; exacts [occurs_kept (by intros; rfl), occurs_kept (by intros; simp)]
theorem execHoldover_kept (s : State) : Kept s (execHoldover s) := by
  unfold execHoldover; exact occurs_kept (by intros; simp)
theorem execBeatCtrlWrite_kept (a : Agent) (v : Word) (s : State) : Kept s (execBeatCtrlWrite a v s) := by
  unfold execBeatCtrlWrite; exact occurs_kept (by intros; simp)
theorem execLimitLock_kept (a : Agent) (s : State) : Kept s (execLimitLock a s) := by
  unfold execLimitLock; exact occurs_kept (by intros; simp)
theorem execBeatCountLoRead_kept (a : Agent) (frac : BitVec 16) (s : State) :
    Kept s (execBeatCountLoRead a frac s) := by
  unfold execBeatCountLoRead; exact occurs_kept (by intros; simp)
theorem execFsetWrite_kept (r : RegionIx) (v : Word) (s : State) : Kept s (execFsetWrite r v s) := by
  unfold execFsetWrite; exact occurs_kept (by intros; simp)
theorem execRegionClockRestart_kept (r : RegionIx) (s : State) : Kept s (execRegionClockRestart r s) := by
  unfold execRegionClockRestart; split; exacts [occurs_kept (by intros; rfl), occurs_kept (by intros; simp)]
theorem execCrossingOverflow_kept (r : RegionIx) (s : State) : Kept s (execCrossingOverflow r s) := by
  unfold execCrossingOverflow; exact occurs_kept (by intros; simp)
theorem execLinkDetect_kept (p : PortIx) (s : State) : Kept s (execLinkDetect p s) := by
  unfold execLinkDetect; exact occurs_kept (by intros; simp)
theorem execIdentifyBlock_kept (p : PortIx) (b : Vector Byte 64) (s : State) : Kept s (execIdentifyBlock p b s) := by
  unfold execIdentifyBlock; exact occurs_kept (by intros; simp)
theorem execEqualizeDone_kept (p : PortIx) (ok : Bool) (s : State) : Kept s (execEqualizeDone p ok s) := by
  unfold execEqualizeDone; exact occurs_kept (by intros; simp)
theorem execLaneCheckDone_kept (p : PortIx) (mask : BitVec 8) (s : State) : Kept s (execLaneCheckDone p mask s) := by
  unfold execLaneCheckDone; exact occurs_kept (by intros; simp)
theorem execFecAlignDone_kept (p : PortIx) (s : State) : Kept s (execFecAlignDone p s) := by
  unfold execFecAlignDone; exact occurs_kept (by intros; simp)
theorem execFlitSyncDone_kept (p : PortIx) (s : State) : Kept s (execFlitSyncDone p s) := by
  unfold execFlitSyncDone; exact occurs_kept (by intros; simp)
theorem execTrainingTimeout_kept (p : PortIx) (s : State) : Kept s (execTrainingTimeout p s) := by
  unfold execTrainingTimeout; split; exacts [occurs_kept (by intros; rfl), occurs_kept (by intros; simp)]
theorem execIdleHoldExpiry_kept (p : PortIx) (s : State) : Kept s (execIdleHoldExpiry p s) := by
  unfold execIdleHoldExpiry; exact occurs_kept (by intros; simp)
theorem execLnkCtrlReset_kept (p : PortIx) (v : Word) (s : State) : Kept s (execLnkCtrlReset p v s) := by
  unfold execLnkCtrlReset; exact occurs_kept (by intros; simp)
theorem execLnkCtrlEnable_kept (p : PortIx) (v : Word) (s : State) : Kept s (execLnkCtrlEnable p v s) := by
  unfold execLnkCtrlEnable; exact occurs_kept (by intros; simp)
theorem execCfgLock_kept (p : PortIx) (v : Word) (s : State) : Kept s (execCfgLock p v s) := by
  unfold execCfgLock; exact occurs_kept (by intros; simp)
theorem execLnkCfgWrite_kept (p : PortIx) (v : Word) (s : State) : Kept s (execLnkCfgWrite p v s) := by
  unfold execLnkCfgWrite; exact occurs_kept (by intros; simp)
theorem execLnkTimerWrite_kept (p : PortIx) (v : Word) (s : State) : Kept s (execLnkTimerWrite p v s) := by
  unfold execLnkTimerWrite; exact occurs_kept (by intros; simp)
theorem execLnkPeerLoRead_kept (a : Agent) (p : PortIx) (s : State) : Kept s (execLnkPeerLoRead a p s) := by
  unfold execLnkPeerLoRead; exact occurs_kept (by intros; simp)
theorem execLaneLockLost_kept (p : PortIx) (lane : Fin 8) (s : State) : Kept s (execLaneLockLost p lane s) := by
  unfold execLaneLockLost; exact occurs_kept (by intros; simp)
theorem execLaneLockRegained_kept (p : PortIx) (lane : Fin 8) (s : State) : Kept s (execLaneLockRegained p lane s) := by
  unfold execLaneLockRegained; exact occurs_kept (by intros; simp)
theorem execLockLoss_kept (p : PortIx) (s : State) : Kept s (execLockLoss p s) := by
  unfold execLockLoss; exact occurs_kept (by intros; simp)
theorem execEyeMarginUpdate_kept (p : PortIx) (margin : BitVec 8) (lane : Fin 8) (s : State) :
    Kept s (execEyeMarginUpdate p margin lane s) := by
  unfold execEyeMarginUpdate; exact occurs_kept (by intros; simp)
theorem onCtrl_kept {p typ : Nat} {f : Ctrl → State → State} {s : State} (hf : ∀ c s, (f c s).ident = s.ident) :
    Kept s (onCtrl p typ f s) := by
  unfold onCtrl
  split
  · exact occurs_kept (fun _ => rfl)
  · exact occurs_kept (by intro s; simp [hf])

theorem execRepeatSend_kept (p : PortIx) (s : State) : Kept s (execRepeatSend p s) := by
  unfold execRepeatSend; exact occurs_kept (by intros; simp)
theorem execNak_kept (p : PortIx) (s : State) : Kept s (execNak p s) := onCtrl_kept (by intros; simp)
theorem execSnak_kept (p : PortIx) (s : State) : Kept s (execSnak p s) := onCtrl_kept (by intros; simp)
theorem execCredit_kept (p : PortIx) (s : State) : Kept s (execCredit p s) := onCtrl_kept (by intros; simp)
theorem execCreditQuery_kept (p : PortIx) (s : State) : Kept s (execCreditQuery p s) := onCtrl_kept (by intros; simp)
theorem execCreditSend_kept (p : PortIx) (s : State) : Kept s (execCreditSend p s) := by
  unfold execCreditSend; exact occurs_kept (by intros; simp)
theorem execCreditTimeout_kept (p : PortIx) (v : Fin 8) (s : State) : Kept s (execCreditTimeout p v s) := by
  unfold execCreditTimeout; exact occurs_kept (by intros; simp)
theorem execResetReq_kept (p : PortIx) (s : State) : Kept s (execResetReq p s) := by
  unfold execResetReq; split; exacts [occurs_kept (by intros; rfl), occurs_kept (by intros; simp)]
theorem execReplayTimeout_kept (p : PortIx) (s : State) : Kept s (execReplayTimeout p s) := by
  unfold execReplayTimeout; exact occurs_kept (by intros; simp)
theorem execGapTimeout_kept (p : PortIx) (s : State) : Kept s (execGapTimeout p s) := by
  unfold execGapTimeout; exact occurs_kept (by intros; simp)
theorem execToll_kept (r : RimIx) (s : State) : Kept s (execToll r s) := by
  unfold execToll; split; exacts [occurs_kept (by intros; rfl), occurs_kept (by intros; simp)]
theorem execHubTollReceive_kept (s : State) : Kept s (execHubTollReceive s) := by
  unfold execHubTollReceive; split; exacts [occurs_kept (by intros; rfl), occurs_kept (by intros; simp)]
theorem execSeenEntryRetire_kept (r : RimIx) (s : State) : Kept s (execSeenEntryRetire r s) := by
  unfold execSeenEntryRetire; exact occurs_kept (by intros; simp)
theorem execFinish_kept (p : PortIx) (s : State) : Kept s (execFinish p s) := by
  unfold execFinish; split; exacts [occurs_kept (by intros; rfl), occurs_kept (by intros; simp)]
theorem execStatsClear_kept (v : Word) (s : State) : Kept s (execStatsClear v s) := by
  unfold execStatsClear; exact occurs_kept (by intros; simp)
theorem execPlnLoRead_kept (a : Agent) (which : Fin 3) (s : State) : Kept s (execPlnLoRead a which s) := by
  unfold execPlnLoRead; exact occurs_kept (by intros; simp)
theorem execFlitRx_kept (p : PortIx) (b : Vector Byte 256) (cw : Fin 3) (s : State) : Kept s (execFlitRx p b cw s) := by
  unfold execFlitRx; exact occurs_kept (by intros; simp)
theorem execFlitTime_kept (p : PortIx) (ft : Fin 512) (s : State) : Kept s (execFlitTime p ft s) := by
  unfold execFlitTime; exact occurs_kept (by intros; simp)
theorem execLinkBroken_kept (p : PortIx) (s : State) : Kept s (execLinkBroken p s) := by
  unfold execLinkBroken; exact occurs_kept (by intros; simp)
theorem execTileWordToFlit_kept (t : TileIx) (low : Bool) (s : State) : Kept s (execTileWordToFlit t low s) := by
  unfold execTileWordToFlit; exact occurs_kept (by intros; simp)
theorem execTableScrub_kept (r : RimIx) (s : State) : Kept s (execTableScrub r s) := by
  unfold execTableScrub; exact occurs_kept (by intros; simp)
theorem onArrival_kept {q : Nat → Bool} {f : Nat → Packet → State → State} {s : State}
    (hf : ∀ p k s, (f p k s).ident = s.ident) : Kept s (onArrival q f s) := by
  unfold onArrival
  split
  · exact occurs_kept (fun _ => rfl)
  · exact occurs_kept (by intro s; simp [hf])

theorem execContextRequest_kept (c : ContextSide) (s : State) : Kept s (execContextRequest c s) := by
  unfold execContextRequest
  split
  · exact occurs_kept (by intros; simp)
  · exact onArrival_kept (by intros; simp)
theorem execGrant_kept (s : State) : Kept s (execGrant s) := onArrival_kept (by intros; simp)
theorem execGrantSend_kept (source : BitVec 16) (vc : Fin 8) (s : State) : Kept s (execGrantSend source vc s) := by
  unfold execGrantSend; split; exacts [occurs_kept (by intros; rfl), occurs_kept (by intros; simp)]
theorem execOrderRestoration_kept (s : State) : Kept s (execOrderRestoration s) := onArrival_kept (by intros; simp)
theorem execRelease_kept (s : State) : Kept s (execRelease s) := onArrival_kept (by intros; simp)
theorem execIdleRelease_kept (dest : BitVec 16) (vc : Fin 8) (s : State) : Kept s (execIdleRelease dest vc s) := by
  unfold execIdleRelease; split; exacts [occurs_kept (by intros; rfl), occurs_kept (by intros; simp)]
theorem execAbort_kept (s : State) : Kept s (execAbort s) := onArrival_kept (by intros; simp)
theorem execEscape_kept (vc : Fin 8) (s : State) : Kept s (execEscape vc s) := by
  unfold execEscape; split; exacts [occurs_kept (by intros; rfl), occurs_kept (by intros; simp)]
theorem execRteFenceWrite_kept (a : Agent) (hi : Bool) (v : Word) (s : State) :
    Kept s (execRteFenceWrite a hi v s) := by
  unfold execRteFenceWrite; exact occurs_kept (by intros; simp)
theorem execRteTblAddrWrite_kept (a : Agent) (v : Word) (s : State) : Kept s (execRteTblAddrWrite a v s) := by
  unfold execRteTblAddrWrite; exact occurs_kept (by intros; simp)
theorem execRteTblDataHiWrite_kept (a : Agent) (v : Word) (s : State) : Kept s (execRteTblDataHiWrite a v s) := by
  unfold execRteTblDataHiWrite; exact occurs_kept (by intros; simp)
theorem execCongestionSample_kept (stalls : Vector (BitVec 16) 10) (s : State) :
    Kept s (execCongestionSample stalls s) := by
  unfold execCongestionSample; exact occurs_kept (by intros; simp)
theorem execNop_kept (t : TileIx) (e : Nat) (s : State) : Kept s (execNop t e s) := by
  unfold execNop; exact issueAt_kept (by intros; simp)
theorem execHalt_kept (t : TileIx) (e : Nat) (s : State) : Kept s (execHalt t e s) := by
  unfold execHalt; exact issueAt_kept (by intros; simp)
theorem execSeed_kept (t : TileIx) (e : Nat) (s : State) : Kept s (execSeed t e s) := by
  unfold execSeed; exact issueAt_kept (by intros; simp)
theorem execCanary_kept (t : TileIx) (e : Nat) (s : State) : Kept s (execCanary t e s) := by
  unfold execCanary; exact issueAt_kept (by intros; simp)
theorem execSetc_kept (t : TileIx) (e : Nat) (s : State) : Kept s (execSetc t e s) := by
  unfold execSetc; exact issueAt_kept (by intros; simp)
theorem execSetcS_kept (t : TileIx) (e : Nat) (s : State) : Kept s (execSetcS t e s) := by
  unfold execSetcS; exact issueAt_kept (by intros; simp)
theorem execRoll_kept (t : TileIx) (e : Nat) (s : State) : Kept s (execRoll t e s) := by
  unfold execRoll; exact issueAt_kept (by intros; simp)
theorem execWaitBeat_kept (t : TileIx) (e : Nat) (s : State) : Kept s (execWaitBeat t e s) := by
  unfold execWaitBeat; exact issueAt_kept (by intros; simp)
theorem execWaitBeatRelease_kept (t : TileIx) (e : Nat) (s : State) : Kept s (execWaitBeatRelease t e s) := by
  unfold execWaitBeatRelease; dsimp only; (repeat' split) <;>
    (first | exact fault_kept | exact occurs_kept (by intros; simp)  | exact occurs_kept (by intros; split <;> simp) | exact next_kept (by simp) | exact next_kept (by split <;> simp))
theorem execSetFlag_kept (t : TileIx) (e : Nat) (s : State) : Kept s (execSetFlag t e s) := by
  unfold execSetFlag; exact issueAt_kept (by intros; simp)
theorem execWaitFlag_kept (t : TileIx) (e : Nat) (s : State) : Kept s (execWaitFlag t e s) := by
  unfold execWaitFlag; exact issueAt_kept (by intros; simp)
theorem execClrFlag_kept (t : TileIx) (e : Nat) (s : State) : Kept s (execClrFlag t e s) := by
  unfold execClrFlag; exact issueAt_kept (by intros; simp)
theorem execVoice_kept (t : TileIx) (e : Nat) (s : State) : Kept s (execVoice t e s) := by
  unfold execVoice; exact issueAt_kept (by intros; simp)
theorem cycleEvent_kept {t e : Nat} {due : State → Bool} {s : State} : Kept s (cycleEvent t e due s) := by
  unfold cycleEvent
  dsimp only
  split
  · exact next_kept rfl
  · split <;> exact next_kept (by simp)

theorem execVoiceLoadComplete_kept (t : TileIx) (e : Nat) (s : State) : Kept s (execVoiceLoadComplete t e s) := by
  unfold execVoiceLoadComplete; exact cycleEvent_kept
theorem execPush_kept (t : TileIx) (e : Nat) (s : State) : Kept s (execPush t e s) := by
  unfold execPush; exact issueAt_kept (by intros; simp)
theorem execPull_kept (t : TileIx) (e : Nat) (s : State) : Kept s (execPull t e s) := by
  unfold execPull; exact issueAt_kept (by intros; simp)
theorem arriving_ident {s s' : State} {t q : Nat} {w : RxWord} (h : s.arriving t q = some (w, s')) : s'.ident = s.ident := by
  unfold State.arriving at h
  dsimp only at h
  (repeat' split at h) <;> cases h <;> simp

theorem execQueueWordArrival_kept (t : TileIx) (q : Fin 6) (e : Nat) (s : State) :
    Kept s (execQueueWordArrival t q e s) := by
  unfold execQueueWordArrival
  dsimp only
  split
  · exact next_kept rfl
  · split
    · exact next_kept (by simp)
    · split
      · exact next_kept (by simp)
      · next h => exact next_kept (by simp [arriving_ident h])
theorem arrivingFlag_ident {s s' : State} {t q f : Nat} (h : s.arrivingFlag t q = some (f, s')) : s'.ident = s.ident := by
  unfold State.arrivingFlag at h
  dsimp only at h
  split at h
  · split at h
    · cases h
    · split at h
      · cases h; simp
      · split at h
        · cases h
        · obtain ⟨r, -, e⟩ := Option.map_eq_some_iff.mp h
          cases e; simp
  · obtain ⟨r, -, e⟩ := Option.map_eq_some_iff.mp h
    cases e; simp

theorem execFlagSetArrival_kept (t : TileIx) (q : Fin 6) (e : Nat) (s : State) :
    Kept s (execFlagSetArrival t q e s) := by
  unfold execFlagSetArrival
  dsimp only
  split
  · exact next_kept rfl
  · split
    · exact next_kept (by simp)
    · next h => exact next_kept (by simp [arrivingFlag_ident h])
theorem execQueueWaitBound_kept (t : TileIx) (e : Nat) (s : State) : Kept s (execQueueWaitBound t e s) := by
  unfold execQueueWaitBound; exact cycleEvent_kept
theorem execFlagWaitBound_kept (t : TileIx) (e : Nat) (s : State) : Kept s (execFlagWaitBound t e s) := by
  unfold execFlagWaitBound; exact cycleEvent_kept
theorem execSequencerParity_kept (t : TileIx) (structure' : Word) (s : State) :
    Kept s (execSequencerParity t structure' s) := by
  unfold execSequencerParity; exact occurs_kept (by intros; simp)
theorem execDatapathParity_kept (t : TileIx) (vector : Bool) (structure' : Word) (s : State) :
    Kept s (execDatapathParity t vector structure' s) := by
  unfold execDatapathParity; exact occurs_kept (by intros; simp)
theorem execTileHaltClear_kept (t : TileIx) (s : State) : Kept s (execTileHaltClear t s) := by
  unfold execTileHaltClear; exact occurs_kept (by intros; simp)
theorem execForceHalt_kept (t : TileIx) (s : State) : Kept s (execForceHalt t s) := by
  unfold execForceHalt; exact occurs_kept (by intros; simp)
theorem execTilHaltBeatLoRead_kept (a : Agent) (t : TileIx) (s : State) : Kept s (execTilHaltBeatLoRead a t s) := by
  unfold execTilHaltBeatLoRead; exact occurs_kept (by intros; simp)
theorem execMmaPlane_kept (t : TileIx) (e : Nat) (s : State) : Kept s (execMmaPlane t e s) := by
  unfold execMmaPlane; exact issueAt_kept (by intros; simp)
theorem execMmaPlaneComplete_kept (t : TileIx) (e : Nat) (s : State) : Kept s (execMmaPlaneComplete t e s) := by
  unfold execMmaPlaneComplete; exact cycleEvent_kept
theorem execMma_kept (t : TileIx) (e : Nat) (s : State) : Kept s (execMma t e s) := by
  unfold execMma; exact issueAt_kept (by intros; simp)
theorem execMmaComplete_kept (t : TileIx) (e : Nat) (s : State) : Kept s (execMmaComplete t e s) := by
  unfold execMmaComplete; exact cycleEvent_kept
theorem execVrun_kept (t : TileIx) (e : Nat) (s : State) : Kept s (execVrun t e s) := by
  unfold execVrun; exact issueAt_kept (by intros; simp)
theorem execVrunComplete_kept (t : TileIx) (e : Nat) (s : State) : Kept s (execVrunComplete t e s) := by
  unfold execVrunComplete; exact cycleEvent_kept
theorem loadStore_kept (t e op tier : Nat) (store : Bool) (s : State) : Kept s (loadStore t e op tier store s) := by
  unfold loadStore; exact issueAt_kept (by intros; simp)
theorem gatherScatter_kept (t e op tier : Nat) (store : Bool) (s : State) :
    Kept s (gatherScatter t e op tier store s) := by
  unfold gatherScatter
  refine issueAt_kept ?_
  intro i
  dsimp only
  exact snd_ite_of (by simp) (by simp)
theorem execLoadT1_kept (t : TileIx) (e : Nat) (s : State) : Kept s (execLoadT1 t e s) := by
  unfold execLoadT1; exact issueAt_kept (by intros; simp)
theorem execStoreT1_kept (t : TileIx) (e : Nat) (s : State) : Kept s (execStoreT1 t e s) := by
  unfold execStoreT1; exact issueAt_kept (by intros; simp)
theorem execGatherT1_kept (t : TileIx) (e : Nat) (s : State) :
    Kept s (execGatherT1 t e s) := gatherScatter_kept t e 0x32 1 false s
theorem execLoadT2_kept (t : TileIx) (e : Nat) (s : State) : Kept s (execLoadT2 t e s) := by
  unfold execLoadT2; exact issueAt_kept (by intros; simp)
theorem execStoreT2_kept (t : TileIx) (e : Nat) (s : State) : Kept s (execStoreT2 t e s) := by
  unfold execStoreT2; exact issueAt_kept (by intros; simp)
theorem execGatherT2_kept (t : TileIx) (e : Nat) (s : State) :
    Kept s (execGatherT2 t e s) := gatherScatter_kept t e 0x36 2 false s
theorem execScatterT2_kept (t : TileIx) (e : Nat) (s : State) :
    Kept s (execScatterT2 t e s) := gatherScatter_kept t e 0x37 2 true s
theorem fence_kept (t e op tier : Nat) (s : State) : Kept s (fence t e op tier s) := by
  unfold fence
  exact issueAt_kept (by intro i; split <;> simp)
theorem execFenceT1_kept (t : TileIx) (e : Nat) (s : State) : Kept s (execFenceT1 t e s) := fence_kept t e 0x33 1 s
theorem execFenceT2_kept (t : TileIx) (e : Nat) (s : State) : Kept s (execFenceT2 t e s) := fence_kept t e 0x38 2 s
theorem moveUnit_ident (t : Nat) (a : TierAccess) (late : Nat) (ce ue : List Nat)
    (acc : List (Nat × List Byte) × List Cond × State) (k : Nat) :
    (moveUnit t a late ce ue acc k).2.2.ident = acc.2.2.ident := by
  unfold moveUnit
  dsimp only
  (repeat' split) <;> simp

theorem execTierAccessComplete_kept (t : TileIx) (k e late : Nat) (ce ue : List Nat) (s : State) :
    Kept s (execTierAccessComplete t k e late ce ue s) := by
  unfold execTierAccessComplete
  dsimp only
  split
  · exact next_kept rfl
  · split
    · exact next_kept (by simp)
    · next a _ =>
      have h (l : List Nat) (r : List (Nat × List Byte) × List Cond × State) :
          (l.foldl (moveUnit t a late ce ue) r).2.2.ident = r.2.2.ident :=
        foldl_keeps (fun r : List (Nat × List Byte) × List Cond × State => r.2.2.ident) (moveUnit_ident t a late ce ue) l r
      split
      · exact next_kept (by simp)
      · exact next_kept (by simp [h])
theorem execT1AccessTimeout_kept (t : TileIx) (k : Nat) (s : State) : Kept s (execT1AccessTimeout t k s) := by
  unfold execT1AccessTimeout; exact occurs_kept (by intros; simp)
theorem execBackgroundTestStep_kept (t : TileIx) (b : Fin 8) (found : Fin 3) (s : State) :
    Kept s (execBackgroundTestStep t b found s) := by
  unfold execBackgroundTestStep; exact occurs_kept (by intros; simp)
theorem execPatrolScrub_kept (st : StackIx) (unit' : Nat) (found : Fin 3) (s : State) :
    Kept s (execPatrolScrub st unit' found s) := by
  unfold execPatrolScrub; exact occurs_kept (by intros; simp)
theorem execT1StackFail_kept (st : StackIx) (s : State) : Kept s (execT1StackFail st s) := by
  unfold execT1StackFail; exact occurs_kept (by intros; simp)
theorem execT2ChannelFail_kept (c : ChannelIx) (s : State) : Kept s (execT2ChannelFail c s) := by
  unfold execT2ChannelFail; exact occurs_kept (by intros; simp)
theorem execFldSpadSecureWrite_kept (a : Agent) (d : DieIx) (v : Word) (s : State) :
    Kept s (execFldSpadSecureWrite a d v s) := by
  unfold execFldSpadSecureWrite; exact occurs_kept (by intros; simp)
theorem execPlanLimitLoWrite_kept (tier2 : Bool) (v : Word) (s : State) : Kept s (execPlanLimitLoWrite tier2 v s) := by
  unfold execPlanLimitLoWrite; exact occurs_kept (by intros; simp)
theorem execPlanLimitHiWrite_kept (tier2 : Bool) (v : Word) (s : State) : Kept s (execPlanLimitHiWrite tier2 v s) := by
  unfold execPlanLimitHiWrite; exact occurs_kept (by intros; simp)
theorem execHbmTtmLoRead_kept (a : Agent) (r : TierLo) (s : State) : Kept s (execHbmTtmLoRead a r s) := by
  unfold execHbmTtmLoRead
  exact occurs_kept (by intro s; split <;> (try split) <;> simp)
theorem execMachineBeat_kept (x : BeatIn) (s : State) : Kept s (execMachineBeat x s) := by
  unfold execMachineBeat; exact occurs_kept (by intros; simp)
theorem execInterfaceEnable_kept (s : State) : Kept s (execInterfaceEnable s) := by
  unfold execInterfaceEnable; exact occurs_kept (by intros; simp)
theorem execInterfaceDisable_kept (s : State) : Kept s (execInterfaceDisable s) := by
  unfold execInterfaceDisable; exact occurs_kept (by intros; simp)
theorem execSqDoorbell_kept (q : QueueIx) (v : Word) (s : State) : Kept s (execSqDoorbell q v s) := by
  unfold execSqDoorbell; exact occurs_kept (by intros; simp)
theorem execCqDoorbell_kept (q : QueueIx) (v : Word) (s : State) : Kept s (execCqDoorbell q v s) := by
  unfold execCqDoorbell; exact occurs_kept (by intros; simp)
theorem execEventRingDoorbell_kept (v : Word) (s : State) : Kept s (execEventRingDoorbell v s) := by
  unfold execEventRingDoorbell; exact occurs_kept (by intros; simp)
theorem execCommandFetch_kept (q : QueueIx) (slots : Vector Byte 128) (heads : Vector (Fin 4) 64) (s : State) :
    Kept s (execCommandFetch q slots heads s) := by
  unfold execCommandFetch; split; exacts [occurs_kept (by intros; rfl), occurs_kept (by intros; simp)]
theorem execNopCommand_kept (q : QueueIx) (cid : Cid) (s : State) : Kept s (execNopCommand q cid s) := by
  unfold execNopCommand; exact hostCommand_kept (by intros; simp)
theorem execIdentify_kept (q : QueueIx) (cid : Cid) (s : State) : Kept s (execIdentify q cid s) := by
  unfold execIdentify; exact hostCommand_kept (by intros; simp)
theorem execFeatureGet_kept (q : QueueIx) (cid : Cid) (s : State) : Kept s (execFeatureGet q cid s) := by
  unfold execFeatureGet; exact hostCommand_kept (by intros; simp)
theorem execQueueCreate_kept (q : QueueIx) (cid : Cid) (s : State) : Kept s (execQueueCreate q cid s) := by
  unfold execQueueCreate; exact hostCommand_kept (by intros; simp)
theorem execQueueDelete_kept (q : QueueIx) (cid : Cid) (s : State) : Kept s (execQueueDelete q cid s) := by
  unfold execQueueDelete; exact hostCommand_kept (by intros; simp)
theorem execFence_kept (q : QueueIx) (cid : Cid) (s : State) : Kept s (execFence q cid s) := by
  unfold execFence; exact hostCommand_kept (by intros; simp)
theorem execPortStatus_kept (q : QueueIx) (cid : Cid) (s : State) : Kept s (execPortStatus q cid s) := by
  unfold execPortStatus; exact hostCommand_kept (by intros; simp)
theorem execPortReset_kept (q : QueueIx) (cid : Cid) (s : State) : Kept s (execPortReset q cid s) := by
  unfold execPortReset; exact hostCommand_kept (by intros; simp)
theorem execPortEnable_kept (q : QueueIx) (cid : Cid) (s : State) : Kept s (execPortEnable q cid s) := by
  unfold execPortEnable; exact hostCommand_kept (by intros; simp)
theorem execHaltClear_kept (q : QueueIx) (cid : Cid) (s : State) : Kept s (execHaltClear q cid s) := by
  unfold execHaltClear; exact hostCommand_kept (by intros; simp)
theorem execDmaWrite_kept (q : QueueIx) (cid : Cid) (e : DmaIn) (s : State) : Kept s (execDmaWrite q cid e s) := by
  unfold execDmaWrite; exact hostCommand_kept (by intros; simp)
theorem execDmaRead_kept (q : QueueIx) (cid : Cid) (e : TierIn) (s : State) : Kept s (execDmaRead q cid e s) := by
  unfold execDmaRead; exact hostCommand_kept (by intros; simp)
theorem execDmaComplete_kept (q : QueueIx) (cid : Cid) (s : State) : Kept s (execDmaComplete q cid s) := by
  unfold execDmaComplete; split; exacts [occurs_kept (by intros; rfl), occurs_kept (by intros; simp)]
theorem execBar2Access_kept (off : BitVec 36) (last : Fin 4096) (write : Bool) (data : Vector Byte 4096) (e : TierIn) (s : State) :
    Kept s (execBar2Access off last write data e s) := by
  unfold execBar2Access; exact occurs_kept (by intros; simp)
theorem execBar0InvalidAccess_kept (write : Bool) (s : State) : Kept s (execBar0InvalidAccess write s) := by
  unfold execBar0InvalidAccess; exact occurs_kept (by intros; simp)
theorem execReservedOffsetAccess_kept (write : Bool) (s : State) : Kept s (execReservedOffsetAccess write s) := by
  unfold execReservedOffsetAccess; exact occurs_kept (by intros; simp)
theorem execHstLoRead_kept (a : Agent) (which : Fin 3) (s : State) : Kept s (execHstLoRead a which s) := by
  unfold execHstLoRead; exact occurs_kept (by intros; simp)
theorem execIngestPush_kept (q : QueueIx) (cid : Cid) (data : List Byte) (hostFail : Option (BitVec 64)) (s : State) :
    Kept s (execIngestPush q cid data hostFail s) := by
  unfold execIngestPush; exact hostCommand_kept (by intros; simp)
theorem execIngestWindowClose_kept (stream : Fin 16) (part : List Byte) (s : State) :
    Kept s (execIngestWindowClose stream part s) := by
  unfold execIngestWindowClose; split <;> (first | exact fault_kept | exact occurs_kept (by intros; simp))
theorem execPcieLinkDown_kept (s : State) : Kept s (execPcieLinkDown s) := by
  unfold execPcieLinkDown; exact occurs_kept (by intros; simp)
theorem execPlanLoad_kept (q : QueueIx) (cid : Cid) (s : State) : Kept s (execPlanLoad q cid s) := by
  unfold execPlanLoad; (repeat' split) <;>
    (first | exact fault_kept | exact occurs_kept (by intros; simp) | exact hostCommand_kept (by intros; simp) | exact next_kept (by simp))
theorem execPlanArm_kept (q : QueueIx) (cid : Cid) (s : State) : Kept s (execPlanArm q cid s) := by
  unfold execPlanArm; exact hostCommand_kept (by intros; simp)
theorem execStartBeat_kept (s : State) : Kept s (execStartBeat s) := by
  unfold execStartBeat; exact occurs_kept (by intros; simp)
theorem execStopAtMeasure_kept (q : QueueIx) (cid : Cid) (s : State) : Kept s (execStopAtMeasure q cid s) := by
  unfold execStopAtMeasure; exact hostCommand_kept (by intros; simp)
theorem execPlanStatus_kept (q : QueueIx) (cid : Cid) (s : State) : Kept s (execPlanStatus q cid s) := by
  unfold execPlanStatus; exact hostCommand_kept (by intros; simp)
theorem execPlanUnload_kept (q : QueueIx) (cid : Cid) (s : State) : Kept s (execPlanUnload q cid s) := by
  unfold execPlanUnload; exact hostCommand_kept (by intros; simp)
theorem execRegionCheck_kept (ps : Word) (s : State) : Kept s (execRegionCheck ps s) := by
  unfold execRegionCheck; exact occurs_kept (by intros; simp)
theorem execDueBeatCheck_kept (s : State) : Kept s (execDueBeatCheck s) := by
  unfold execDueBeatCheck; split; exacts [occurs_kept (by intros; rfl), occurs_kept (by intros; simp)]
theorem execSecondCheck_kept (s : State) : Kept s (execSecondCheck s) := by
  unfold execSecondCheck; split; exacts [occurs_kept (by intros; rfl), occurs_kept (by intros; simp)]
theorem execStopDrainComplete_kept (s : State) : Kept s (execStopDrainComplete s) := by
  unfold execStopDrainComplete; split; exacts [occurs_kept (by intros; rfl), occurs_kept (by intros; simp)]
theorem execStopDrainTimeout_kept (s : State) : Kept s (execStopDrainTimeout s) := by
  unfold execStopDrainTimeout; split; exacts [occurs_kept (by intros; rfl), occurs_kept (by intros; simp)]
theorem execSlotWrite_kept (q : QueueIx) (cid : Cid) (s : State) : Kept s (execSlotWrite q cid s) := by
  unfold execSlotWrite; exact hostCommand_kept (by intros; simp)
theorem execSlotClear_kept (q : QueueIx) (cid : Cid) (s : State) : Kept s (execSlotClear q cid s) := by
  unfold execSlotClear; exact hostCommand_kept (by intros; simp)
theorem execHeadsGate_kept (q : QueueIx) (cid : Cid) (s : State) : Kept s (execHeadsGate q cid s) := by
  unfold execHeadsGate; exact hostCommand_kept (by intros; simp)
theorem execSlotRead_kept (q : QueueIx) (cid : Cid) (s : State) : Kept s (execSlotRead q cid s) := by
  unfold execSlotRead; exact hostCommand_kept (by intros; simp)
theorem execWalkComplete_kept (s : State) : Kept s (execWalkComplete s) := by
  unfold execWalkComplete; split <;> (first | exact fault_kept | exact occurs_kept (by intros; simp))
theorem execVerifyBeat_kept (k : Fin 64) (beats : BitVec 16) (s : State) : Kept s (execVerifyBeat k beats s) := by
  unfold execVerifyBeat; split; exacts [occurs_kept (by intros; rfl), occurs_kept (by intros; simp)]
theorem execServingResultLost_kept (k : Fin 64) (s : State) : Kept s (execServingResultLost k s) := by
  unfold execServingResultLost; split; exacts [occurs_kept (by intros; rfl), occurs_kept (by intros; simp)]
theorem execServingBuildLate_kept (k : Fin 64) (s : State) : Kept s (execServingBuildLate k s) := by
  unfold execServingBuildLate; split; exacts [occurs_kept (by intros; rfl), occurs_kept (by intros; simp)]
theorem execSrvOutHeadWrite_kept (v : Word) (s : State) : Kept s (execSrvOutHeadWrite v s) := by
  unfold execSrvOutHeadWrite; exact occurs_kept (by intros; simp)
theorem execFieldReset_kept (a : Agent) (v : Word) (s : State) : Kept s (execFieldReset a v s) := by
  unfold execFieldReset; exact occurs_kept (by intros; simp)
theorem execHushEntry_kept (a : Agent) (v : Word) (s : State) : Kept s (execHushEntry a v s) := by
  unfold execHushEntry; exact occurs_kept (by intros; simp)
theorem execRelayEntry_kept (a : Agent) (v : Word) (s : State) : Kept s (execRelayEntry a v s) := by
  unfold execRelayEntry; exact occurs_kept (by intros; simp)
theorem execReturnToActive_kept (a : Agent) (v : Word) (s : State) : Kept s (execReturnToActive a v s) := by
  unfold execReturnToActive; exact occurs_kept (by intros; simp)
theorem execTiersSelfRefresh_kept (s : State) : Kept s (execTiersSelfRefresh s) := by
  unfold execTiersSelfRefresh; split; exacts [occurs_kept (by intros; rfl), occurs_kept (by intros; simp)]
theorem execFieldResetComplete_kept (s : State) : Kept s (execFieldResetComplete s) := by
  unfold execFieldResetComplete; exact occurs_kept (by intros; simp)
theorem execResetField_kept (q : QueueIx) (cid : Cid) (s : State) : Kept s (execResetField q cid s) := by
  unfold execResetField; (repeat' split) <;>
    (first | exact fault_kept | exact occurs_kept (by intros; simp) | exact hostCommand_kept (by intros; simp) | exact next_kept (by simp))
theorem execResetPackage_kept (q : QueueIx) (cid : Cid) (s : State) : Kept s (execResetPackage q cid s) := by
  unfold execResetPackage; (repeat' split) <;>
    (first | exact fault_kept | exact occurs_kept (by intros; simp) | exact hostCommand_kept (by intros; simp) | exact next_kept (by simp))
theorem execUndervoltage_kept (s : State) : Kept s (execUndervoltage s) := by
  unfold execUndervoltage; exact occurs_kept (by intros; simp)
theorem execPerstAssert_kept (s : State) : Kept s (execPerstAssert s) := by
  unfold execPerstAssert; exact occurs_kept (by intros; simp)
theorem execPerstRelease_kept (s : State) : Kept s (execPerstRelease s) := by
  unfold execPerstRelease; exact occurs_kept (by intros; simp)
theorem execDownbeat_kept (x : DownIn) (s : State) : Kept s (execDownbeat x s) := by
  unfold execDownbeat; exact occurs_kept (by intros; simp)
theorem execHubReady_kept (b : BootIn) (s : State) : Kept s (execHubReady b s) := by
  unfold execHubReady; exact occurs_kept (by intros; simp)
theorem execAttention_kept (s : State) : Kept s (execAttention s) := by
  unfold execAttention; exact occurs_kept (by intros; simp)
theorem execWipe_kept (s : State) : Kept s (execWipe s) := by unfold execWipe; exact occurs_kept (by intros; simp)
theorem execTamper_kept (s : State) : Kept s (execTamper s) := by unfold execTamper; exact occurs_kept (by intros; simp)
theorem execTamperDeassert_kept (s : State) : Kept s (execTamperDeassert s) := by
  unfold execTamperDeassert; exact occurs_kept (by intros; simp)
theorem execThermalWarning_kept (cls : Fin 7) (temp : BitVec 8) (s : State) :
    Kept s (execThermalWarning cls temp s) := by
  unfold execThermalWarning; exact occurs_kept (by intros; simp)
theorem execThermalTrip_kept (cls : Fin 7) (unit' : Fin 16) (sensor : Fin 128) (temp : BitVec 8) (s : State) :
    Kept s (execThermalTrip cls unit' sensor temp s) := by
  unfold execThermalTrip; exact occurs_kept (by intros; simp)
theorem execPowerStageOff_kept (s : State) : Kept s (execPowerStageOff s) := by
  unfold execPowerStageOff; exact occurs_kept (by intros; simp)
theorem execPmbusPoll_kept (vin iin temp : BitVec 8) (fault : Bool) (s : State) :
    Kept s (execPmbusPoll vin iin temp fault s) := by
  unfold execPmbusPoll; exact occurs_kept (by intros; simp)
theorem execFatalEntry_kept (at' : List Nat) (s : State) : Kept s (execFatalEntry at' s) := by
  unfold execFatalEntry; exact occurs_kept (by intros; simp)
theorem execFatalReport_kept (s : State) : Kept s (execFatalReport s) := by
  unfold execFatalReport; exact occurs_kept (by intros; simp)
theorem execReportRepeat_kept (s : State) : Kept s (execReportRepeat s) := by
  unfold execReportRepeat; split; exacts [occurs_kept (by intros; rfl), occurs_kept (by intros; simp)]
theorem execFlashSummary_kept (s : State) : Kept s (execFlashSummary s) := by
  unfold execFlashSummary; exact occurs_kept (by intros; simp)
theorem execDumpWrite_kept (s : State) : Kept s (execDumpWrite s) := by
  unfold execDumpWrite; exact occurs_kept (by intros; simp)
theorem execFaultStatus_kept (q : QueueIx) (cid : Cid) (s : State) : Kept s (execFaultStatus q cid s) := by
  unfold execFaultStatus; exact hostCommand_kept (by intros; simp)
theorem execFaultClear_kept (q : QueueIx) (cid : Cid) (s : State) : Kept s (execFaultClear q cid s) := by
  unfold execFaultClear; exact hostCommand_kept (by intros; simp)
theorem execDumpRead_kept (q : QueueIx) (cid : Cid) (e : TierIn) (s : State) : Kept s (execDumpRead q cid e s) := by
  unfold execDumpRead; exact hostCommand_kept (by intros; simp)
theorem execFltFatalBeatLoRead_kept (a : Agent) (s : State) : Kept s (execFltFatalBeatLoRead a s) := by
  unfold execFltFatalBeatLoRead; exact occurs_kept (by intros; simp)
theorem execModuleRecord_kept (s : State) : Kept s (execModuleRecord s) := by
  unfold execModuleRecord; exact occurs_kept (by intros; simp)
theorem execAgeingReading_kept (xs : Vector (BitVec 16 × BitVec 16) 576) (s : State) :
    Kept s (execAgeingReading xs s) := by
  unfold execAgeingReading; exact occurs_kept (by intros; simp)
theorem execTelRead_kept (q : QueueIx) (cid : Cid) (s : State) : Kept s (execTelRead q cid s) := by
  unfold execTelRead; exact hostCommand_kept (by intros; simp)
theorem execMailboxLockRead_kept (a : Agent) (m : MbxIx) (s : State) : Kept s (execMailboxLockRead a m s) := by
  unfold execMailboxLockRead; exact occurs_kept (by intros; simp)
theorem execMailboxLockWrite_kept (a : Agent) (m : MbxIx) (v : Word) (s : State) :
    Kept s (execMailboxLockWrite a m v s) := by
  unfold execMailboxLockWrite; exact occurs_kept (by intros; simp)
theorem execMailboxDoorbell_kept (a : Agent) (m : MbxIx) (v : Word) (s : State) :
    Kept s (execMailboxDoorbell a m v s) := by
  unfold execMailboxDoorbell; exact occurs_kept (by intros; simp)
theorem execMailboxBufferWrite_kept (a : Agent) (m : MbxIx) (k : Fin 1008) (v : Word) (s : State) :
    Kept s (execMailboxBufferWrite a m k v s) := by
  unfold execMailboxBufferWrite; exact occurs_kept (by intros; simp)
theorem execMailboxResponse_kept (m : MbxIx) (s : State) : Kept s (execMailboxResponse m s) := by
  unfold execMailboxResponse; split; exacts [occurs_kept (by intros; rfl), occurs_kept (by intros; simp)]
theorem execFwUpdateWrite_kept (m : MbxIx) (off : Word) (data : List Byte) (s : State) :
    Kept s (execFwUpdateWrite m off data s) := by
  unfold execFwUpdateWrite; exact occurs_kept (by intros; simp)
theorem execFwUpdateCommit_kept (m : MbxIx) (x : ImageCheck) (s : State) : Kept s (execFwUpdateCommit m x s) := by
  unfold execFwUpdateCommit; exact occurs_kept (by intros; simp)
theorem execCfgBlockRead_kept (m : MbxIx) (id : BitVec 16) (s : State) : Kept s (execCfgBlockRead m id s) := by
  unfold execCfgBlockRead; exact occurs_kept (by intros; simp)
theorem execCfgBlockWrite_kept (m : MbxIx) (id version : BitVec 16) (body : List Byte) (done : Fin 4) (s : State) :
    Kept s (execCfgBlockWrite m id version body done s) := by
  unfold execCfgBlockWrite; exact occurs_kept (by intros; simp)
theorem execFenceService_kept (m : MbxIx) (mask : BitVec 36) (set' : Bool) (s : State) :
    Kept s (execFenceService m mask set' s) := by
  unfold execFenceService; exact occurs_kept (by intros; simp)
theorem execHealth_kept (m : MbxIx) (s : State) : Kept s (execHealth m s) := by
  unfold execHealth; exact occurs_kept (by intros; simp)
theorem execLcQuery_kept (q : QueueIx) (cid : Cid) (s : State) : Kept s (execLcQuery q cid s) := by
  unfold execLcQuery; exact hostCommand_kept (by intros; simp)
theorem execSecureStoreWrite_kept (m : MbxIx) (off : Word) (data : List Byte) (s : State) :
    Kept s (execSecureStoreWrite m off data s) := by
  unfold execSecureStoreWrite; exact occurs_kept (by intros; simp)
theorem execSecureStoreRead_kept (m : MbxIx) (off n : Word) (s : State) : Kept s (execSecureStoreRead m off n s) := by
  unfold execSecureStoreRead; exact occurs_kept (by intros; simp)
theorem execRcRead_kept (a : Agent) (bar4 : Bool) (off : BitVec 26) (s : State) : Kept s (execRcRead a bar4 off s) := by
  unfold execRcRead; split; exacts [occurs_kept (by intros; rfl), occurs_kept (by intros; simp)]
theorem execRegisterWrite_kept (a : Agent) (bar4 : Bool) (off : BitVec 26) (v : Word) (s : State) :
    Kept s (execRegisterWrite a bar4 off v s) := by
  unfold execRegisterWrite; split; exacts [occurs_kept (by intros; rfl), occurs_kept (by intros; simp)]

/-! ### Resets and life-cycle transitions -/

/-- An accepted request is the transition in progress (R427). -/
theorem lcAccept_ident (s : State) (t : Transition) : (s.lcAccept t).ident = (s.pending, s.fused, some t) := by
  unfold State.lcAccept
  rw [State_drawNonce_ident, State_startWipe_ident]
  rfl

/-- A record that no reason refuses names a target to which R424 lets the module move. -/
theorem lcReason_none {s : State} {r : List Byte} (h : s.lcReason r = none) :
    mayMove s.fused.lifeCycle (leAt r 9 1) = true := by
  unfold State.lcReason at h
  repeat' split at h
  all_goals try cases h
  next hc hm _ _ => simp_all

/-- The fuses take the target of the transition (R427). -/
theorem lcFuse_ident (t : Transition) (s : State) :
    (lcFuse t s).ident = (s.pending, { s.fused with lifeCycle := t.target }, none) := by
  unfold lcFuse
  dsimp only
  rw [State_packageResetIn_ident]
  (repeat' split) <;> simp <;> rfl

/-- A package or cold reset keeps the queue and the fused values, and ends a transition. -/
theorem restart_ident (s : State) (e : Ev) : (s.restart e).ident = (s.pending, s.fused, none) := by
  unfold State.restart
  dsimp only
  rw [State_drawNonce_ident]
  rfl

theorem packageReset_ident (x : PkgReset) (s : State) : (packageReset x s).ident = (s.pending, s.fused, none) := by
  unfold packageReset
  dsimp only
  rw [State_bump_ident, State_set_ident, ident_mk, restart_ident]

end Sys2Proof.Machine
end

