-- ==== Sys2Proof/Laws/Ops.lean ====
section
/-! SUPPORT. Laws of events, reports and warnings: they change the outputs, the registers that count them, and the numbers of events
and reports, and nothing else. -/

namespace Sys2Proof.Machine

/-- What events, reports and warnings leave alone. -/
def State.quiet (s : State) : State :=
  { s with
    out := [], regs := [], accum := [], free := 0, reportSeq := 0
    host := { s.host with evtWritten := 0, evtSeq := 0, evtLost := 0 } }

@[simp] theorem quiet_set (s : State) (f : RegField) (i v : Nat) : (s.set f i v).quiet = s.quiet := rfl
@[simp] theorem quiet_bump (s : State) (f : RegField) (i n : Nat) : (s.bump f i n).quiet = s.quiet := rfl
@[simp] theorem quiet_emit (s : State) (o : Output) : (s.emit o).quiet = s.quiet := rfl
@[simp] theorem quiet_emitAll (s : State) (os : List Output) : (s.emitAll os).quiet = s.quiet := rfl
@[simp] theorem quiet_sendMsix (s : State) (v : Nat) : (s.sendMsix v).quiet = s.quiet := by unfold State.sendMsix; split <;> rfl
@[simp] theorem quiet_draw (s : State) : s.draw.2.quiet = s.quiet := rfl
@[simp] theorem quiet_begin (s : State) : s.begin.quiet = s.quiet := rfl

@[simp] theorem quiet_sendReport (s : State) (b : List Byte) : (s.sendReport b).quiet = s.quiet := by unfold State.sendReport; split <;> simp
@[simp] theorem quiet_newReport (s : State) (a b c d e : Nat) : (s.newReport a b c d e).quiet = s.quiet := by
  unfold State.newReport
  dsimp only
  split
  · simp only [quiet_sendReport, quiet_set]; rfl
  · rfl
@[simp] theorem quiet_writeEvent (s : State) (k : Nat) (b : List Byte) : (s.writeEvent k b).quiet = s.quiet := by
  unfold State.writeEvent State.sendMsix
  dsimp only
  split <;> rfl
@[simp] theorem quiet_flushLost (s : State) : s.flushLost.quiet = s.quiet := by
  unfold State.flushLost
  split
  · dsimp only; rw [quiet_writeEvent]; rfl
  · rfl
@[simp] theorem quiet_event (s : State) (k : Nat) (b : List Byte) : (s.event k b).quiet = s.quiet := by
  unfold State.event
  dsimp only
  split
  · split
    · simp
    · rw [← quiet_flushLost s]; rfl
  · rfl
@[simp] theorem quiet_warnWith (s : State) (w : Warn) (d : Nat) : (s.warnWith w d).quiet = s.quiet := by unfold State.warnWith; dsimp only; split <;> simp
@[simp] theorem quiet_warn (s : State) (w : Warn) : (s.warn w).quiet = s.quiet := by unfold State.warn; simp
@[simp] theorem quiet_setPlanState (s : State) (p : PlanState) : (s.setPlanState p).quiet = s.quiet := by unfold State.setPlanState; split <;> simp

theorem quiet_powered {s t : State} (h : t.quiet = s.quiet) : t.powered = s.powered := by injection h
theorem quiet_perst {s t : State} (h : t.quiet = s.quiet) : t.perst = s.perst := by injection h
theorem quiet_pcie {s t : State} (h : t.quiet = s.quiet) : t.pcie = s.pcie := by injection h
theorem quiet_pkgReset {s t : State} (h : t.quiet = s.quiet) : t.pkgReset = s.pkgReset := by injection h
theorem quiet_readyTick {s t : State} (h : t.quiet = s.quiet) : t.readyTick = s.readyTick := by injection h
theorem quiet_deviceId {s t : State} (h : t.quiet = s.quiet) : t.deviceId = s.deviceId := by injection h
theorem quiet_fused {s t : State} (h : t.quiet = s.quiet) : t.fused = s.fused := by injection h
theorem quiet_latches {s t : State} (h : t.quiet = s.quiet) : t.latches = s.latches := by injection h
theorem quiet_raised {s t : State} (h : t.quiet = s.quiet) : t.raised = s.raised := by injection h
theorem quiet_time {s t : State} (h : t.quiet = s.quiet) : t.time = s.time := by injection h
theorem quiet_plan {s t : State} (h : t.quiet = s.quiet) : t.plan = s.plan := by injection h
theorem quiet_ports {s t : State} (h : t.quiet = s.quiet) : t.ports = s.ports := by injection h
theorem quiet_router {s t : State} (h : t.quiet = s.quiet) : t.router = s.router := by injection h
theorem quiet_serving {s t : State} (h : t.quiet = s.quiet) : t.serving = s.serving := by injection h
theorem quiet_cfg {s t : State} (h : t.quiet = s.quiet) : t.cfg = s.cfg := by injection h
theorem quiet_mgmt {s t : State} (h : t.quiet = s.quiet) : t.mgmt = s.mgmt := by injection h
theorem quiet_fault {s t : State} (h : t.quiet = s.quiet) : t.fault = s.fault := by injection h
theorem quiet_pwr {s t : State} (h : t.quiet = s.quiet) : t.pwr = s.pwr := by injection h
theorem quiet_tel {s t : State} (h : t.quiet = s.quiet) : t.tel = s.tel := by injection h
theorem quiet_tiles {s t : State} (h : t.quiet = s.quiet) : t.tiles = s.tiles := by injection h
theorem quiet_spad {s t : State} (h : t.quiet = s.quiet) : t.spad = s.spad := by injection h
theorem quiet_tier1 {s t : State} (h : t.quiet = s.quiet) : t.tier1 = s.tier1 := by injection h
theorem quiet_tier2 {s t : State} (h : t.quiet = s.quiet) : t.tier2 = s.tier2 := by injection h

@[simp] theorem State.sendReport_powered (s : State) (b : List Byte) : (s.sendReport b).powered = s.powered :=
  quiet_powered (quiet_sendReport s b)
@[simp] theorem State.sendReport_perst (s : State) (b : List Byte) : (s.sendReport b).perst = s.perst :=
  quiet_perst (quiet_sendReport s b)
@[simp] theorem State.sendReport_pcie (s : State) (b : List Byte) : (s.sendReport b).pcie = s.pcie :=
  quiet_pcie (quiet_sendReport s b)
@[simp] theorem State.sendReport_pkgReset (s : State) (b : List Byte) : (s.sendReport b).pkgReset = s.pkgReset :=
  quiet_pkgReset (quiet_sendReport s b)
@[simp] theorem State.sendReport_readyTick (s : State) (b : List Byte) : (s.sendReport b).readyTick = s.readyTick :=
  quiet_readyTick (quiet_sendReport s b)
@[simp] theorem State.sendReport_deviceId (s : State) (b : List Byte) : (s.sendReport b).deviceId = s.deviceId :=
  quiet_deviceId (quiet_sendReport s b)
@[simp] theorem State.sendReport_fused (s : State) (b : List Byte) : (s.sendReport b).fused = s.fused :=
  quiet_fused (quiet_sendReport s b)
@[simp] theorem State.sendReport_latches (s : State) (b : List Byte) : (s.sendReport b).latches = s.latches :=
  quiet_latches (quiet_sendReport s b)
@[simp] theorem State.sendReport_raised (s : State) (b : List Byte) : (s.sendReport b).raised = s.raised :=
  quiet_raised (quiet_sendReport s b)
@[simp] theorem State.sendReport_time (s : State) (b : List Byte) : (s.sendReport b).time = s.time :=
  quiet_time (quiet_sendReport s b)
@[simp] theorem State.sendReport_plan (s : State) (b : List Byte) : (s.sendReport b).plan = s.plan :=
  quiet_plan (quiet_sendReport s b)
@[simp] theorem State.sendReport_ports (s : State) (b : List Byte) : (s.sendReport b).ports = s.ports :=
  quiet_ports (quiet_sendReport s b)
@[simp] theorem State.sendReport_router (s : State) (b : List Byte) : (s.sendReport b).router = s.router :=
  quiet_router (quiet_sendReport s b)
@[simp] theorem State.sendReport_serving (s : State) (b : List Byte) : (s.sendReport b).serving = s.serving :=
  quiet_serving (quiet_sendReport s b)
@[simp] theorem State.sendReport_cfg (s : State) (b : List Byte) : (s.sendReport b).cfg = s.cfg :=
  quiet_cfg (quiet_sendReport s b)
@[simp] theorem State.sendReport_mgmt (s : State) (b : List Byte) : (s.sendReport b).mgmt = s.mgmt :=
  quiet_mgmt (quiet_sendReport s b)
@[simp] theorem State.sendReport_fault (s : State) (b : List Byte) : (s.sendReport b).fault = s.fault :=
  quiet_fault (quiet_sendReport s b)
@[simp] theorem State.sendReport_pwr (s : State) (b : List Byte) : (s.sendReport b).pwr = s.pwr :=
  quiet_pwr (quiet_sendReport s b)
@[simp] theorem State.sendReport_tel (s : State) (b : List Byte) : (s.sendReport b).tel = s.tel :=
  quiet_tel (quiet_sendReport s b)
@[simp] theorem State.sendReport_tiles (s : State) (b : List Byte) : (s.sendReport b).tiles = s.tiles :=
  quiet_tiles (quiet_sendReport s b)
@[simp] theorem State.sendReport_spad (s : State) (b : List Byte) : (s.sendReport b).spad = s.spad :=
  quiet_spad (quiet_sendReport s b)
@[simp] theorem State.sendReport_tier1 (s : State) (b : List Byte) : (s.sendReport b).tier1 = s.tier1 :=
  quiet_tier1 (quiet_sendReport s b)
@[simp] theorem State.sendReport_tier2 (s : State) (b : List Byte) : (s.sendReport b).tier2 = s.tier2 :=
  quiet_tier2 (quiet_sendReport s b)

@[simp] theorem State.newReport_powered (s : State) (a b c d e : Nat) : (s.newReport a b c d e).powered = s.powered :=
  quiet_powered (quiet_newReport s a b c d e)
@[simp] theorem State.newReport_perst (s : State) (a b c d e : Nat) : (s.newReport a b c d e).perst = s.perst :=
  quiet_perst (quiet_newReport s a b c d e)
@[simp] theorem State.newReport_pcie (s : State) (a b c d e : Nat) : (s.newReport a b c d e).pcie = s.pcie :=
  quiet_pcie (quiet_newReport s a b c d e)
@[simp] theorem State.newReport_pkgReset (s : State) (a b c d e : Nat) : (s.newReport a b c d e).pkgReset = s.pkgReset :=
  quiet_pkgReset (quiet_newReport s a b c d e)
@[simp] theorem State.newReport_readyTick (s : State) (a b c d e : Nat) : (s.newReport a b c d e).readyTick = s.readyTick :=
  quiet_readyTick (quiet_newReport s a b c d e)
@[simp] theorem State.newReport_deviceId (s : State) (a b c d e : Nat) : (s.newReport a b c d e).deviceId = s.deviceId :=
  quiet_deviceId (quiet_newReport s a b c d e)
@[simp] theorem State.newReport_fused (s : State) (a b c d e : Nat) : (s.newReport a b c d e).fused = s.fused :=
  quiet_fused (quiet_newReport s a b c d e)
@[simp] theorem State.newReport_latches (s : State) (a b c d e : Nat) : (s.newReport a b c d e).latches = s.latches :=
  quiet_latches (quiet_newReport s a b c d e)
@[simp] theorem State.newReport_raised (s : State) (a b c d e : Nat) : (s.newReport a b c d e).raised = s.raised :=
  quiet_raised (quiet_newReport s a b c d e)
@[simp] theorem State.newReport_time (s : State) (a b c d e : Nat) : (s.newReport a b c d e).time = s.time :=
  quiet_time (quiet_newReport s a b c d e)
@[simp] theorem State.newReport_plan (s : State) (a b c d e : Nat) : (s.newReport a b c d e).plan = s.plan :=
  quiet_plan (quiet_newReport s a b c d e)
@[simp] theorem State.newReport_ports (s : State) (a b c d e : Nat) : (s.newReport a b c d e).ports = s.ports :=
  quiet_ports (quiet_newReport s a b c d e)
@[simp] theorem State.newReport_router (s : State) (a b c d e : Nat) : (s.newReport a b c d e).router = s.router :=
  quiet_router (quiet_newReport s a b c d e)
@[simp] theorem State.newReport_serving (s : State) (a b c d e : Nat) : (s.newReport a b c d e).serving = s.serving :=
  quiet_serving (quiet_newReport s a b c d e)
@[simp] theorem State.newReport_cfg (s : State) (a b c d e : Nat) : (s.newReport a b c d e).cfg = s.cfg :=
  quiet_cfg (quiet_newReport s a b c d e)
@[simp] theorem State.newReport_mgmt (s : State) (a b c d e : Nat) : (s.newReport a b c d e).mgmt = s.mgmt :=
  quiet_mgmt (quiet_newReport s a b c d e)
@[simp] theorem State.newReport_fault (s : State) (a b c d e : Nat) : (s.newReport a b c d e).fault = s.fault :=
  quiet_fault (quiet_newReport s a b c d e)
@[simp] theorem State.newReport_pwr (s : State) (a b c d e : Nat) : (s.newReport a b c d e).pwr = s.pwr :=
  quiet_pwr (quiet_newReport s a b c d e)
@[simp] theorem State.newReport_tel (s : State) (a b c d e : Nat) : (s.newReport a b c d e).tel = s.tel :=
  quiet_tel (quiet_newReport s a b c d e)
@[simp] theorem State.newReport_tiles (s : State) (a b c d e : Nat) : (s.newReport a b c d e).tiles = s.tiles :=
  quiet_tiles (quiet_newReport s a b c d e)
@[simp] theorem State.newReport_spad (s : State) (a b c d e : Nat) : (s.newReport a b c d e).spad = s.spad :=
  quiet_spad (quiet_newReport s a b c d e)
@[simp] theorem State.newReport_tier1 (s : State) (a b c d e : Nat) : (s.newReport a b c d e).tier1 = s.tier1 :=
  quiet_tier1 (quiet_newReport s a b c d e)
@[simp] theorem State.newReport_tier2 (s : State) (a b c d e : Nat) : (s.newReport a b c d e).tier2 = s.tier2 :=
  quiet_tier2 (quiet_newReport s a b c d e)

@[simp] theorem State.writeEvent_powered (s : State) (k : Nat) (b : List Byte) : (s.writeEvent k b).powered = s.powered :=
  quiet_powered (quiet_writeEvent s k b)
@[simp] theorem State.writeEvent_perst (s : State) (k : Nat) (b : List Byte) : (s.writeEvent k b).perst = s.perst :=
  quiet_perst (quiet_writeEvent s k b)
@[simp] theorem State.writeEvent_pcie (s : State) (k : Nat) (b : List Byte) : (s.writeEvent k b).pcie = s.pcie :=
  quiet_pcie (quiet_writeEvent s k b)
@[simp] theorem State.writeEvent_pkgReset (s : State) (k : Nat) (b : List Byte) : (s.writeEvent k b).pkgReset = s.pkgReset :=
  quiet_pkgReset (quiet_writeEvent s k b)
@[simp] theorem State.writeEvent_readyTick (s : State) (k : Nat) (b : List Byte) : (s.writeEvent k b).readyTick = s.readyTick :=
  quiet_readyTick (quiet_writeEvent s k b)
@[simp] theorem State.writeEvent_deviceId (s : State) (k : Nat) (b : List Byte) : (s.writeEvent k b).deviceId = s.deviceId :=
  quiet_deviceId (quiet_writeEvent s k b)
@[simp] theorem State.writeEvent_fused (s : State) (k : Nat) (b : List Byte) : (s.writeEvent k b).fused = s.fused :=
  quiet_fused (quiet_writeEvent s k b)
@[simp] theorem State.writeEvent_latches (s : State) (k : Nat) (b : List Byte) : (s.writeEvent k b).latches = s.latches :=
  quiet_latches (quiet_writeEvent s k b)
@[simp] theorem State.writeEvent_raised (s : State) (k : Nat) (b : List Byte) : (s.writeEvent k b).raised = s.raised :=
  quiet_raised (quiet_writeEvent s k b)
@[simp] theorem State.writeEvent_time (s : State) (k : Nat) (b : List Byte) : (s.writeEvent k b).time = s.time :=
  quiet_time (quiet_writeEvent s k b)
@[simp] theorem State.writeEvent_plan (s : State) (k : Nat) (b : List Byte) : (s.writeEvent k b).plan = s.plan :=
  quiet_plan (quiet_writeEvent s k b)
@[simp] theorem State.writeEvent_ports (s : State) (k : Nat) (b : List Byte) : (s.writeEvent k b).ports = s.ports :=
  quiet_ports (quiet_writeEvent s k b)
@[simp] theorem State.writeEvent_router (s : State) (k : Nat) (b : List Byte) : (s.writeEvent k b).router = s.router :=
  quiet_router (quiet_writeEvent s k b)
@[simp] theorem State.writeEvent_serving (s : State) (k : Nat) (b : List Byte) : (s.writeEvent k b).serving = s.serving :=
  quiet_serving (quiet_writeEvent s k b)
@[simp] theorem State.writeEvent_cfg (s : State) (k : Nat) (b : List Byte) : (s.writeEvent k b).cfg = s.cfg :=
  quiet_cfg (quiet_writeEvent s k b)
@[simp] theorem State.writeEvent_mgmt (s : State) (k : Nat) (b : List Byte) : (s.writeEvent k b).mgmt = s.mgmt :=
  quiet_mgmt (quiet_writeEvent s k b)
@[simp] theorem State.writeEvent_fault (s : State) (k : Nat) (b : List Byte) : (s.writeEvent k b).fault = s.fault :=
  quiet_fault (quiet_writeEvent s k b)
@[simp] theorem State.writeEvent_pwr (s : State) (k : Nat) (b : List Byte) : (s.writeEvent k b).pwr = s.pwr :=
  quiet_pwr (quiet_writeEvent s k b)
@[simp] theorem State.writeEvent_tel (s : State) (k : Nat) (b : List Byte) : (s.writeEvent k b).tel = s.tel :=
  quiet_tel (quiet_writeEvent s k b)
@[simp] theorem State.writeEvent_tiles (s : State) (k : Nat) (b : List Byte) : (s.writeEvent k b).tiles = s.tiles :=
  quiet_tiles (quiet_writeEvent s k b)
@[simp] theorem State.writeEvent_spad (s : State) (k : Nat) (b : List Byte) : (s.writeEvent k b).spad = s.spad :=
  quiet_spad (quiet_writeEvent s k b)
@[simp] theorem State.writeEvent_tier1 (s : State) (k : Nat) (b : List Byte) : (s.writeEvent k b).tier1 = s.tier1 :=
  quiet_tier1 (quiet_writeEvent s k b)
@[simp] theorem State.writeEvent_tier2 (s : State) (k : Nat) (b : List Byte) : (s.writeEvent k b).tier2 = s.tier2 :=
  quiet_tier2 (quiet_writeEvent s k b)

@[simp] theorem State.flushLost_powered (s : State) : s.flushLost.powered = s.powered :=
  quiet_powered (quiet_flushLost s)
@[simp] theorem State.flushLost_perst (s : State) : s.flushLost.perst = s.perst :=
  quiet_perst (quiet_flushLost s)
@[simp] theorem State.flushLost_pcie (s : State) : s.flushLost.pcie = s.pcie :=
  quiet_pcie (quiet_flushLost s)
@[simp] theorem State.flushLost_pkgReset (s : State) : s.flushLost.pkgReset = s.pkgReset :=
  quiet_pkgReset (quiet_flushLost s)
@[simp] theorem State.flushLost_readyTick (s : State) : s.flushLost.readyTick = s.readyTick :=
  quiet_readyTick (quiet_flushLost s)
@[simp] theorem State.flushLost_deviceId (s : State) : s.flushLost.deviceId = s.deviceId :=
  quiet_deviceId (quiet_flushLost s)
@[simp] theorem State.flushLost_fused (s : State) : s.flushLost.fused = s.fused :=
  quiet_fused (quiet_flushLost s)
@[simp] theorem State.flushLost_latches (s : State) : s.flushLost.latches = s.latches :=
  quiet_latches (quiet_flushLost s)
@[simp] theorem State.flushLost_raised (s : State) : s.flushLost.raised = s.raised :=
  quiet_raised (quiet_flushLost s)
@[simp] theorem State.flushLost_time (s : State) : s.flushLost.time = s.time :=
  quiet_time (quiet_flushLost s)
@[simp] theorem State.flushLost_plan (s : State) : s.flushLost.plan = s.plan :=
  quiet_plan (quiet_flushLost s)
@[simp] theorem State.flushLost_ports (s : State) : s.flushLost.ports = s.ports :=
  quiet_ports (quiet_flushLost s)
@[simp] theorem State.flushLost_router (s : State) : s.flushLost.router = s.router :=
  quiet_router (quiet_flushLost s)
@[simp] theorem State.flushLost_serving (s : State) : s.flushLost.serving = s.serving :=
  quiet_serving (quiet_flushLost s)
@[simp] theorem State.flushLost_cfg (s : State) : s.flushLost.cfg = s.cfg :=
  quiet_cfg (quiet_flushLost s)
@[simp] theorem State.flushLost_mgmt (s : State) : s.flushLost.mgmt = s.mgmt :=
  quiet_mgmt (quiet_flushLost s)
@[simp] theorem State.flushLost_fault (s : State) : s.flushLost.fault = s.fault :=
  quiet_fault (quiet_flushLost s)
@[simp] theorem State.flushLost_pwr (s : State) : s.flushLost.pwr = s.pwr :=
  quiet_pwr (quiet_flushLost s)
@[simp] theorem State.flushLost_tel (s : State) : s.flushLost.tel = s.tel :=
  quiet_tel (quiet_flushLost s)
@[simp] theorem State.flushLost_tiles (s : State) : s.flushLost.tiles = s.tiles :=
  quiet_tiles (quiet_flushLost s)
@[simp] theorem State.flushLost_spad (s : State) : s.flushLost.spad = s.spad :=
  quiet_spad (quiet_flushLost s)
@[simp] theorem State.flushLost_tier1 (s : State) : s.flushLost.tier1 = s.tier1 :=
  quiet_tier1 (quiet_flushLost s)
@[simp] theorem State.flushLost_tier2 (s : State) : s.flushLost.tier2 = s.tier2 :=
  quiet_tier2 (quiet_flushLost s)

@[simp] theorem State.event_powered (s : State) (k : Nat) (b : List Byte) : (s.event k b).powered = s.powered :=
  quiet_powered (quiet_event s k b)
@[simp] theorem State.event_perst (s : State) (k : Nat) (b : List Byte) : (s.event k b).perst = s.perst :=
  quiet_perst (quiet_event s k b)
@[simp] theorem State.event_pcie (s : State) (k : Nat) (b : List Byte) : (s.event k b).pcie = s.pcie :=
  quiet_pcie (quiet_event s k b)
@[simp] theorem State.event_pkgReset (s : State) (k : Nat) (b : List Byte) : (s.event k b).pkgReset = s.pkgReset :=
  quiet_pkgReset (quiet_event s k b)
@[simp] theorem State.event_readyTick (s : State) (k : Nat) (b : List Byte) : (s.event k b).readyTick = s.readyTick :=
  quiet_readyTick (quiet_event s k b)
@[simp] theorem State.event_deviceId (s : State) (k : Nat) (b : List Byte) : (s.event k b).deviceId = s.deviceId :=
  quiet_deviceId (quiet_event s k b)
@[simp] theorem State.event_fused (s : State) (k : Nat) (b : List Byte) : (s.event k b).fused = s.fused :=
  quiet_fused (quiet_event s k b)
@[simp] theorem State.event_latches (s : State) (k : Nat) (b : List Byte) : (s.event k b).latches = s.latches :=
  quiet_latches (quiet_event s k b)
@[simp] theorem State.event_raised (s : State) (k : Nat) (b : List Byte) : (s.event k b).raised = s.raised :=
  quiet_raised (quiet_event s k b)
@[simp] theorem State.event_time (s : State) (k : Nat) (b : List Byte) : (s.event k b).time = s.time :=
  quiet_time (quiet_event s k b)
@[simp] theorem State.event_plan (s : State) (k : Nat) (b : List Byte) : (s.event k b).plan = s.plan :=
  quiet_plan (quiet_event s k b)
@[simp] theorem State.event_ports (s : State) (k : Nat) (b : List Byte) : (s.event k b).ports = s.ports :=
  quiet_ports (quiet_event s k b)
@[simp] theorem State.event_router (s : State) (k : Nat) (b : List Byte) : (s.event k b).router = s.router :=
  quiet_router (quiet_event s k b)
@[simp] theorem State.event_serving (s : State) (k : Nat) (b : List Byte) : (s.event k b).serving = s.serving :=
  quiet_serving (quiet_event s k b)
@[simp] theorem State.event_cfg (s : State) (k : Nat) (b : List Byte) : (s.event k b).cfg = s.cfg :=
  quiet_cfg (quiet_event s k b)
@[simp] theorem State.event_mgmt (s : State) (k : Nat) (b : List Byte) : (s.event k b).mgmt = s.mgmt :=
  quiet_mgmt (quiet_event s k b)
@[simp] theorem State.event_fault (s : State) (k : Nat) (b : List Byte) : (s.event k b).fault = s.fault :=
  quiet_fault (quiet_event s k b)
@[simp] theorem State.event_pwr (s : State) (k : Nat) (b : List Byte) : (s.event k b).pwr = s.pwr :=
  quiet_pwr (quiet_event s k b)
@[simp] theorem State.event_tel (s : State) (k : Nat) (b : List Byte) : (s.event k b).tel = s.tel :=
  quiet_tel (quiet_event s k b)
@[simp] theorem State.event_tiles (s : State) (k : Nat) (b : List Byte) : (s.event k b).tiles = s.tiles :=
  quiet_tiles (quiet_event s k b)
@[simp] theorem State.event_spad (s : State) (k : Nat) (b : List Byte) : (s.event k b).spad = s.spad :=
  quiet_spad (quiet_event s k b)
@[simp] theorem State.event_tier1 (s : State) (k : Nat) (b : List Byte) : (s.event k b).tier1 = s.tier1 :=
  quiet_tier1 (quiet_event s k b)
@[simp] theorem State.event_tier2 (s : State) (k : Nat) (b : List Byte) : (s.event k b).tier2 = s.tier2 :=
  quiet_tier2 (quiet_event s k b)

@[simp] theorem State.warnWith_powered (s : State) (w : Warn) (d : Nat) : (s.warnWith w d).powered = s.powered :=
  quiet_powered (quiet_warnWith s w d)
@[simp] theorem State.warnWith_perst (s : State) (w : Warn) (d : Nat) : (s.warnWith w d).perst = s.perst :=
  quiet_perst (quiet_warnWith s w d)
@[simp] theorem State.warnWith_pcie (s : State) (w : Warn) (d : Nat) : (s.warnWith w d).pcie = s.pcie :=
  quiet_pcie (quiet_warnWith s w d)
@[simp] theorem State.warnWith_pkgReset (s : State) (w : Warn) (d : Nat) : (s.warnWith w d).pkgReset = s.pkgReset :=
  quiet_pkgReset (quiet_warnWith s w d)
@[simp] theorem State.warnWith_readyTick (s : State) (w : Warn) (d : Nat) : (s.warnWith w d).readyTick = s.readyTick :=
  quiet_readyTick (quiet_warnWith s w d)
@[simp] theorem State.warnWith_deviceId (s : State) (w : Warn) (d : Nat) : (s.warnWith w d).deviceId = s.deviceId :=
  quiet_deviceId (quiet_warnWith s w d)
@[simp] theorem State.warnWith_fused (s : State) (w : Warn) (d : Nat) : (s.warnWith w d).fused = s.fused :=
  quiet_fused (quiet_warnWith s w d)
@[simp] theorem State.warnWith_latches (s : State) (w : Warn) (d : Nat) : (s.warnWith w d).latches = s.latches :=
  quiet_latches (quiet_warnWith s w d)
@[simp] theorem State.warnWith_raised (s : State) (w : Warn) (d : Nat) : (s.warnWith w d).raised = s.raised :=
  quiet_raised (quiet_warnWith s w d)
@[simp] theorem State.warnWith_time (s : State) (w : Warn) (d : Nat) : (s.warnWith w d).time = s.time :=
  quiet_time (quiet_warnWith s w d)
@[simp] theorem State.warnWith_plan (s : State) (w : Warn) (d : Nat) : (s.warnWith w d).plan = s.plan :=
  quiet_plan (quiet_warnWith s w d)
@[simp] theorem State.warnWith_ports (s : State) (w : Warn) (d : Nat) : (s.warnWith w d).ports = s.ports :=
  quiet_ports (quiet_warnWith s w d)
@[simp] theorem State.warnWith_router (s : State) (w : Warn) (d : Nat) : (s.warnWith w d).router = s.router :=
  quiet_router (quiet_warnWith s w d)
@[simp] theorem State.warnWith_serving (s : State) (w : Warn) (d : Nat) : (s.warnWith w d).serving = s.serving :=
  quiet_serving (quiet_warnWith s w d)
@[simp] theorem State.warnWith_cfg (s : State) (w : Warn) (d : Nat) : (s.warnWith w d).cfg = s.cfg :=
  quiet_cfg (quiet_warnWith s w d)
@[simp] theorem State.warnWith_mgmt (s : State) (w : Warn) (d : Nat) : (s.warnWith w d).mgmt = s.mgmt :=
  quiet_mgmt (quiet_warnWith s w d)
@[simp] theorem State.warnWith_fault (s : State) (w : Warn) (d : Nat) : (s.warnWith w d).fault = s.fault :=
  quiet_fault (quiet_warnWith s w d)
@[simp] theorem State.warnWith_pwr (s : State) (w : Warn) (d : Nat) : (s.warnWith w d).pwr = s.pwr :=
  quiet_pwr (quiet_warnWith s w d)
@[simp] theorem State.warnWith_tel (s : State) (w : Warn) (d : Nat) : (s.warnWith w d).tel = s.tel :=
  quiet_tel (quiet_warnWith s w d)
@[simp] theorem State.warnWith_tiles (s : State) (w : Warn) (d : Nat) : (s.warnWith w d).tiles = s.tiles :=
  quiet_tiles (quiet_warnWith s w d)
@[simp] theorem State.warnWith_spad (s : State) (w : Warn) (d : Nat) : (s.warnWith w d).spad = s.spad :=
  quiet_spad (quiet_warnWith s w d)
@[simp] theorem State.warnWith_tier1 (s : State) (w : Warn) (d : Nat) : (s.warnWith w d).tier1 = s.tier1 :=
  quiet_tier1 (quiet_warnWith s w d)
@[simp] theorem State.warnWith_tier2 (s : State) (w : Warn) (d : Nat) : (s.warnWith w d).tier2 = s.tier2 :=
  quiet_tier2 (quiet_warnWith s w d)

@[simp] theorem State.warn_powered (s : State) (w : Warn) : (s.warn w).powered = s.powered :=
  quiet_powered (quiet_warn s w)
@[simp] theorem State.warn_perst (s : State) (w : Warn) : (s.warn w).perst = s.perst :=
  quiet_perst (quiet_warn s w)
@[simp] theorem State.warn_pcie (s : State) (w : Warn) : (s.warn w).pcie = s.pcie :=
  quiet_pcie (quiet_warn s w)
@[simp] theorem State.warn_pkgReset (s : State) (w : Warn) : (s.warn w).pkgReset = s.pkgReset :=
  quiet_pkgReset (quiet_warn s w)
@[simp] theorem State.warn_readyTick (s : State) (w : Warn) : (s.warn w).readyTick = s.readyTick :=
  quiet_readyTick (quiet_warn s w)
@[simp] theorem State.warn_deviceId (s : State) (w : Warn) : (s.warn w).deviceId = s.deviceId :=
  quiet_deviceId (quiet_warn s w)
@[simp] theorem State.warn_fused (s : State) (w : Warn) : (s.warn w).fused = s.fused :=
  quiet_fused (quiet_warn s w)
@[simp] theorem State.warn_latches (s : State) (w : Warn) : (s.warn w).latches = s.latches :=
  quiet_latches (quiet_warn s w)
@[simp] theorem State.warn_raised (s : State) (w : Warn) : (s.warn w).raised = s.raised :=
  quiet_raised (quiet_warn s w)
@[simp] theorem State.warn_time (s : State) (w : Warn) : (s.warn w).time = s.time :=
  quiet_time (quiet_warn s w)
@[simp] theorem State.warn_plan (s : State) (w : Warn) : (s.warn w).plan = s.plan :=
  quiet_plan (quiet_warn s w)
@[simp] theorem State.warn_ports (s : State) (w : Warn) : (s.warn w).ports = s.ports :=
  quiet_ports (quiet_warn s w)
@[simp] theorem State.warn_router (s : State) (w : Warn) : (s.warn w).router = s.router :=
  quiet_router (quiet_warn s w)
@[simp] theorem State.warn_serving (s : State) (w : Warn) : (s.warn w).serving = s.serving :=
  quiet_serving (quiet_warn s w)
@[simp] theorem State.warn_cfg (s : State) (w : Warn) : (s.warn w).cfg = s.cfg :=
  quiet_cfg (quiet_warn s w)
@[simp] theorem State.warn_mgmt (s : State) (w : Warn) : (s.warn w).mgmt = s.mgmt :=
  quiet_mgmt (quiet_warn s w)
@[simp] theorem State.warn_fault (s : State) (w : Warn) : (s.warn w).fault = s.fault :=
  quiet_fault (quiet_warn s w)
@[simp] theorem State.warn_pwr (s : State) (w : Warn) : (s.warn w).pwr = s.pwr :=
  quiet_pwr (quiet_warn s w)
@[simp] theorem State.warn_tel (s : State) (w : Warn) : (s.warn w).tel = s.tel :=
  quiet_tel (quiet_warn s w)
@[simp] theorem State.warn_tiles (s : State) (w : Warn) : (s.warn w).tiles = s.tiles :=
  quiet_tiles (quiet_warn s w)
@[simp] theorem State.warn_spad (s : State) (w : Warn) : (s.warn w).spad = s.spad :=
  quiet_spad (quiet_warn s w)
@[simp] theorem State.warn_tier1 (s : State) (w : Warn) : (s.warn w).tier1 = s.tier1 :=
  quiet_tier1 (quiet_warn s w)
@[simp] theorem State.warn_tier2 (s : State) (w : Warn) : (s.warn w).tier2 = s.tier2 :=
  quiet_tier2 (quiet_warn s w)

@[simp] theorem State.setPlanState_powered (s : State) (p : PlanState) : (s.setPlanState p).powered = s.powered :=
  quiet_powered (quiet_setPlanState s p)
@[simp] theorem State.setPlanState_perst (s : State) (p : PlanState) : (s.setPlanState p).perst = s.perst :=
  quiet_perst (quiet_setPlanState s p)
@[simp] theorem State.setPlanState_pcie (s : State) (p : PlanState) : (s.setPlanState p).pcie = s.pcie :=
  quiet_pcie (quiet_setPlanState s p)
@[simp] theorem State.setPlanState_pkgReset (s : State) (p : PlanState) : (s.setPlanState p).pkgReset = s.pkgReset :=
  quiet_pkgReset (quiet_setPlanState s p)
@[simp] theorem State.setPlanState_readyTick (s : State) (p : PlanState) : (s.setPlanState p).readyTick = s.readyTick :=
  quiet_readyTick (quiet_setPlanState s p)
@[simp] theorem State.setPlanState_deviceId (s : State) (p : PlanState) : (s.setPlanState p).deviceId = s.deviceId :=
  quiet_deviceId (quiet_setPlanState s p)
@[simp] theorem State.setPlanState_fused (s : State) (p : PlanState) : (s.setPlanState p).fused = s.fused :=
  quiet_fused (quiet_setPlanState s p)
@[simp] theorem State.setPlanState_latches (s : State) (p : PlanState) : (s.setPlanState p).latches = s.latches :=
  quiet_latches (quiet_setPlanState s p)
@[simp] theorem State.setPlanState_raised (s : State) (p : PlanState) : (s.setPlanState p).raised = s.raised :=
  quiet_raised (quiet_setPlanState s p)
@[simp] theorem State.setPlanState_time (s : State) (p : PlanState) : (s.setPlanState p).time = s.time :=
  quiet_time (quiet_setPlanState s p)
@[simp] theorem State.setPlanState_plan (s : State) (p : PlanState) : (s.setPlanState p).plan = s.plan :=
  quiet_plan (quiet_setPlanState s p)
@[simp] theorem State.setPlanState_ports (s : State) (p : PlanState) : (s.setPlanState p).ports = s.ports :=
  quiet_ports (quiet_setPlanState s p)
@[simp] theorem State.setPlanState_router (s : State) (p : PlanState) : (s.setPlanState p).router = s.router :=
  quiet_router (quiet_setPlanState s p)
@[simp] theorem State.setPlanState_serving (s : State) (p : PlanState) : (s.setPlanState p).serving = s.serving :=
  quiet_serving (quiet_setPlanState s p)
@[simp] theorem State.setPlanState_cfg (s : State) (p : PlanState) : (s.setPlanState p).cfg = s.cfg :=
  quiet_cfg (quiet_setPlanState s p)
@[simp] theorem State.setPlanState_mgmt (s : State) (p : PlanState) : (s.setPlanState p).mgmt = s.mgmt :=
  quiet_mgmt (quiet_setPlanState s p)
@[simp] theorem State.setPlanState_fault (s : State) (p : PlanState) : (s.setPlanState p).fault = s.fault :=
  quiet_fault (quiet_setPlanState s p)
@[simp] theorem State.setPlanState_pwr (s : State) (p : PlanState) : (s.setPlanState p).pwr = s.pwr :=
  quiet_pwr (quiet_setPlanState s p)
@[simp] theorem State.setPlanState_tel (s : State) (p : PlanState) : (s.setPlanState p).tel = s.tel :=
  quiet_tel (quiet_setPlanState s p)
@[simp] theorem State.setPlanState_tiles (s : State) (p : PlanState) : (s.setPlanState p).tiles = s.tiles :=
  quiet_tiles (quiet_setPlanState s p)
@[simp] theorem State.setPlanState_spad (s : State) (p : PlanState) : (s.setPlanState p).spad = s.spad :=
  quiet_spad (quiet_setPlanState s p)
@[simp] theorem State.setPlanState_tier1 (s : State) (p : PlanState) : (s.setPlanState p).tier1 = s.tier1 :=
  quiet_tier1 (quiet_setPlanState s p)
@[simp] theorem State.setPlanState_tier2 (s : State) (p : PlanState) : (s.setPlanState p).tier2 = s.tier2 :=
  quiet_tier2 (quiet_setPlanState s p)

/-! ### Register fields -/

theorem State.get_draw (s : State) (f : RegField) (i : Nat) : s.draw.2.get f i = s.get f i := rfl

theorem State.get_sendReport (s : State) (b : List Byte) {f : RegField} (i : Nat) (h : f ≠ .FLT_REPORT_sent) :
    (s.sendReport b).get f i = s.get f i := by
  unfold State.sendReport
  split
  · simp only
    rw [State.get_bump_other _ _ (Or.inl h)]; rfl
  · rfl

theorem State.get_newReport (s : State) (a b c d e : Nat) {f : RegField} (i : Nat) (h : f ≠ .FLT_REPORT_sent)
    (k : f ≠ .FLT_REPORT_last_seq) : (s.newReport a b c d e).get f i = s.get f i := by
  unfold State.newReport
  dsimp only
  split
  · rw [State.get_sendReport _ _ _ h, State.get_set_other _ _ (Or.inl k)]; rfl
  · rfl

@[simp] theorem State.get_writeEvent (s : State) (t : Nat) (b : List Byte) (f : RegField) (i : Nat) :
    (s.writeEvent t b).get f i = s.get f i := by
  unfold State.writeEvent State.sendMsix
  dsimp only
  split <;> rfl

@[simp] theorem State.get_flushLost (s : State) (f : RegField) (i : Nat) : s.flushLost.get f i = s.get f i := by
  unfold State.flushLost
  split
  · dsimp only
    rw [State.get_writeEvent]
    rfl
  · rfl

/-- An event changes no register but the count of lost events. -/
theorem State.get_event (s : State) (t : Nat) (b : List Byte) {f : RegField} (i : Nat) (h : f ≠ .HST_ERR_events_lost) :
    (s.event t b).get f i = s.get f i := by
  unfold State.event
  dsimp only
  split
  · split
    · simp
    · refine (State.get_congr (s := s.flushLost.bump .HST_ERR_events_lost 0 1) rfl rfl f i).trans ?_
      rw [State.get_bump_other _ _ (Or.inl h), State.get_flushLost]
  · rfl

/-- A warning changes no register but its own pending bit and the counts of reports and lost events. -/
theorem State.get_warnWith (s : State) (w : Warn) (d : Nat) {f : RegField} (i : Nat) (h : f ≠ .FLT_REPORT_sent)
    (k : f ≠ .FLT_REPORT_last_seq) (l : f ≠ .HST_ERR_events_lost) (m : f ≠ .FLT_WARN_pending) :
    (s.warnWith w d).get f i = s.get f i := by
  unfold State.warnWith
  dsimp only
  split
  · rfl
  · rw [State.get_newReport _ _ _ _ _ _ _ h k, State.get_event _ _ _ _ l, State.get_set_other _ _ (Or.inl m)]

theorem State.get_warn (s : State) (w : Warn) {f : RegField} (i : Nat) (h : f ≠ .FLT_REPORT_sent)
    (k : f ≠ .FLT_REPORT_last_seq) (l : f ≠ .HST_ERR_events_lost) (m : f ≠ .FLT_WARN_pending) :
    (s.warn w).get f i = s.get f i := (State.get_warnWith _ _ _ _ h k l m).trans rfl

/-- After a warning its source is pending (R444, R459). -/
theorem State.warnWith_pending (s : State) (w : Warn) (d : Nat) :
    bit ((s.warnWith w d).get .FLT_WARN_pending 0) w.bit = true := by
  unfold State.warnWith
  dsimp only
  split
  · assumption
  · next hb =>
    rw [State.get_newReport _ _ _ _ _ _ _ (by decide) (by decide), State.get_event _ _ _ _ (by decide), State.get_set_same]
    have hw : RegField.width .FLT_WARN_pending = 12 := rfl
    rw [hw]
    unfold bit at hb ⊢
    cases w <;> simp only [Warn.bit, beq_iff_eq, Bool.not_eq_true, beq_eq_false_iff_ne] at hb ⊢ <;> omega

theorem State.warn_pending (s : State) (w : Warn) : bit ((s.warn w).get .FLT_WARN_pending 0) w.bit = true :=
  State.warnWith_pending _ _ _

/-- A warning leaves another source's pending bit as it was. -/
theorem State.warnWith_other (s : State) (w v : Warn) (d : Nat) (h : bit (s.get .FLT_WARN_pending 0) v.bit = true) :
    bit ((s.warnWith w d).get .FLT_WARN_pending 0) v.bit = true := by
  unfold State.warnWith
  dsimp only
  split
  · exact h
  · next hb =>
    rw [State.get_newReport _ _ _ _ _ _ _ (by decide) (by decide), State.get_event _ _ _ _ (by decide), State.get_set_same]
    have hw : RegField.width .FLT_WARN_pending = 12 := rfl
    rw [hw]
    unfold bit at hb h ⊢
    cases w <;> cases v <;> simp only [Warn.bit, beq_iff_eq, Bool.not_eq_true, beq_eq_false_iff_ne] at hb h ⊢ <;> omega

/-- A change of the plan state is the state after it, and changes no other register but the count of lost events. -/
theorem State.get_setPlanState (s : State) (p : PlanState) {f : RegField} (i : Nat) (h : f ≠ .HST_ERR_events_lost)
    (k : f ≠ .PLN_STATUS_state) : (s.setPlanState p).get f i = s.get f i := by
  unfold State.setPlanState
  split
  · rfl
  · rw [State.get_event _ _ _ _ h, State.get_set_other _ _ (Or.inl k)]

@[simp] theorem State.setPlanState_planState (s : State) (p : PlanState) : (s.setPlanState p).planState = p := by
  unfold State.setPlanState
  split
  · assumption
  · unfold State.planState
    rw [State.get_event _ _ _ _ (by decide), State.get_set_same]
    cases p <;> rfl

/-! ### Completion -/

/-- A command whose condition holds answers what its effect makes of the state. -/
theorem occurs_runs {g : Bool} {f : State → State} {s : State} {P : State → Prop} (hg : g = true) (h : P (f s.begin)) :
    ∃ t, occurs g f s = .next t ∧ P t := by
  subst hg
  exact ⟨_, rfl, h⟩

end Sys2Proof.Machine
end

