-- ==== Sys2Proof/Tests/Slice0.lean ====
section
/-! SUPPORT. Tests: an ill-formed command for each check of `Instr.wf`; worked examples of the manual, whose expected figures are the
manual's; and, for each statement, a witness: states and operands that meet all the hypotheses of each of its clauses together. -/

namespace Sys2Proof.Machine

set_option maxRecDepth 20000
set_option Elab.async false

/-! ### Well-formed commands -/

theorem test_wf_chunk : Instr.wf (.fwUpdateWrite 0 0 (zeros 1977)) = false := by decide +kernel
theorem test_wf_block : Instr.wf (.cfgBlockWrite 0 1 1 (zeros 1977) 3) = false := by decide +kernel
theorem test_wf_secret : Instr.wf (.secureStoreWrite 0 0 (zeros 1977)) = false := by decide +kernel
theorem test_wf_fits : Instr.wf (.secureStoreWrite 0 0 (zeros 1976)) = true := by decide +kernel
theorem test_wf_others : Instr.wf .attention = true := by decide

/-! ### Worked examples of the manual -/

/-- R101's example: B = 3,200,007 and K = 256 give I = 3,200,256. -/
theorem test_insertion_beat : insertionBeat 3200007 256 = 3200256 := by decide

/-- R9's example: B = 2,001,000 and K = 256 give rest from 2,001,248. -/
theorem test_insertion_beat_late : insertionBeat 2001000 256 = 2001248 := by decide

/-- R152's example: byte 0xA7 holds the weights +1, 0, -1, -1, +1, and scale byte 0x79 makes the third -1/64. -/
theorem test_ternary_byte : (List.range 5).map (elemAt .tern (fun _ => 0xA7)) = [2, 1, 0, 0, 2]
    ∧ scaled (Fmt.tern.decode 0) 0x79 = .fin true 1 (-6) := by decide

/-- The block of R163's example: 21.5, -3.1, 0.9, 10.0 and 28 zeros. -/
def exampleBlock : List Val := [fp 0x41AC0000, fp 0xC0466666, fp 0x3F666666, fp 0x41200000] ++ List.replicate 28 .zero

/-- R163's example: the scale is 0x81, the codes are 0x7, 0xA, 0x0, 0x4, and no element saturates. -/
theorem test_mxfp4_block : (toMx false .mxfp4 0 exampleBlock ⟨[], 0⟩).1.scale = 0x81
    ∧ packElems .mxfp4 (toMx false .mxfp4 0 exampleBlock ⟨[], 0⟩).1.codes = [0xA7, 0x40] ++ zeros 14
    ∧ (toMx false .mxfp4 0 exampleBlock ⟨[], 0⟩).2.sats = 0 := by decide +kernel

/-- R163's example: a tie at fraction 1/2 that draws 0x9C41 in round_sr rounds 2.5 up to 3. -/
theorem test_stochastic_up : roundSr .mxfp4 0x9C41 (.fin false 5 (-1)) = .fin false 3 0 := by decide +kernel

/-- R171's example: the shadow in E4M3 has scale 0x7B, div is 1/11, and TIL_CANARY_WORST records 0x0174. -/
theorem test_canary : (toMx false .e4m3 0 exampleBlock ⟨[], 0⟩).1.scale = 0x7B
    ∧ canaryWorst (canaryDiv (toMx false .mxfp4 0 exampleBlock ⟨[], 0⟩).1 (toMx false .e4m3 0 exampleBlock ⟨[], 0⟩).1) = 0x0174
    ∧ canaryDiverged 1 (canaryDiv (toMx false .mxfp4 0 exampleBlock ⟨[], 0⟩).1 (toMx false .e4m3 0 exampleBlock ⟨[], 0⟩).1) = false := by
  decide +kernel

/-- R168's example: parts 10 and -2 aligned by 4 and 1 add up to 156. -/
theorem test_aligned_parts : alignPart 10 4 + alignPart (-2) 1 = 156 := by decide

/-- R187's example: base 0x7FE0, run_m1 1, stride 12, ring_q 1 with count 8; and SPAD_RANGE at element 6 without the ring. -/
theorem test_descriptor : Desc.units ⟨0x7FE0, 8, 12, 2, 1⟩ = [0x7FE0, 0x7FE1, 0x7FEC, 0x7FED, 0x7FF8, 0x7FF9, 0x7FE4, 0x7FE5]
    ∧ Desc.fault? ⟨0x7FE0, 8, 12, 2, 0⟩ false = some 6 := by decide

/-- R253's example: unit 0x1_4000_0100 lies in HS5. -/
theorem test_tier1_stack : t1Stack 0x140000100 = 5 := by decide

/-- R468's example: 168 readings with slope 0.39 and σ = 0.02, and a gap of 656, predict 1,682, 1,551 and 1,837 hours. -/
theorem test_prediction : Fit.predict ⟨168, 10000, 3900, 2185⟩ 656 0 = ⟨1682, 1551, 1837⟩ := by decide +kernel

/-- The check value of CRC-32 (R37's polynomial): the digits 1 to 9. -/
theorem test_crc : crc32 [0x31, 0x32, 0x33, 0x34, 0x35, 0x36, 0x37, 0x38, 0x39] = 0xCBF43926 := by decide +kernel

/-! ### States that witnesses and tests start from -/

/-- The hub is ready, PCIe trained, with a tile, a port and bytes of both tiers that are not as reset leaves them. -/
def up : State :=
  { (State.reset.set .HST_STATUS_hub_ready 0 1) with
    pcie := true, perst := true, readyTick := some 0, deviceId := 0x214
    tiles := [(0, { Tile.reset with running := true, pc := 5 })]
    spad := Memory.empty.writeBytes 64 [1, 2, 3]
    tier1 := Memory.empty.writeBytes 32 [4, 5, 6]
    tier2 := Memory.empty.writeBytes 0 [7]
    ports := [(3, { LinkPort.reset with cfgGen := 1 })] }

/-- A state in a plan state. -/
def State.withPlan (s : State) (p : PlanState) : State := s.set .PLN_STATUS_state 0 p.code

/-- A state at a tick and a machine beat. -/
def State.atBeat (s : State) (tick beat : Nat) : State := { s with time := { s.time with tick := tick, beat := beat } }

/-- Port 3 in a training state, with this record. -/
def lnk (t : Train) (x : LinkPort) : State := { (up.set .LNK_STATUS_state 3 t.code) with ports := [(3, x)] }

/-- Port 3 ACTIVE with a control word received. -/
def gotCtrl (typ : Nat) (short body : List Byte) (x : LinkPort) : State :=
  lnk .active { x with rxCtrl := [⟨typ, false, padTo 6 short, padTo 32 body⟩] }

/-- A flit and a kept one. -/
def aFlit (n : Nat) : Flit := ⟨n, 0, true, 7, [1, 2]⟩

/-- An identify block of a module with this serial and these generations. -/
def identBytes (serial gens : Nat) : List Byte :=
  withCrc (toLE 8 serial ++ toLE 2 0x101 ++ [4, 0] ++ [BitVec.ofNat 8 gens, 7, 0, 8] ++ zeros 44)

def anIdent : Ident := ⟨9, 0x101, 4, 3, 7, 0, 8⟩

/-- A time word whose flags are `f`. -/
def timeBytes (f : Nat) : List Byte := toLE 8 100 ++ toLE 2 50 ++ zeros 2 ++ toLE 8 98 ++ toLE 2 40 ++ [BitVec.ofNat 8 f, 0] ++ toLE 4 30000

/-- Bytes as the operand of a command. -/
def vec (n : Nat) (l : List Byte) : Vector Byte n := Vector.ofFn (fun i => l.getD i 0)

/-- What a machine beat takes: 64 cycles in every region, and nothing else. -/
def beatIn : BeatIn := ⟨Vector.replicate 576 64, [], [], Vector.replicate 2 0, []⟩

/-- What a downbeat takes. -/
def down : DownIn := ⟨Vector.replicate 576 1000, [], Vector.replicate 10 3, Vector.replicate 36 7, true⟩

/-! ### Host commands -/

/-- A command packet of queue 1 with identifier 5: opcode, format and parameters from byte 8 on. -/
def packet (op fmt : Nat) (params : List Byte) : List Byte :=
  padTo 128 ([BitVec.ofNat 8 op, BitVec.ofNat 8 fmt] ++ toLE 2 5 ++ zeros 4 ++ params)

def fetched (op fmt : Nat) (params : List Byte) : Fetched := ⟨1, 5, packet op fmt params, 3, false, false, none, 0⟩

/-- A state in which this command of queue 1 has been fetched and may start. -/
def State.withFetched (s : State) (f : Fetched) : State :=
  { s with host := { s.host with fetched := [f]
                                 queues := [(0, newQueue 0x4000 0x5000 16 1), (1, newQueue 0x1000 0x2000 16 7)] } }

/-- The serial console of the tests: running, command fetched. -/
def State.withCmd (s : State) (op fmt : Nat) (params : List Byte) : State := s.withFetched (fetched op fmt params)

/-! ### Plans -/

/-- A plan image's header: no sections, this length. -/
def header (grade reach : Nat) : List Byte :=
  withCrc (planMagic ++ toLE 2 9 ++ toLE 2 0x214 ++ [BitVec.ofNat 8 grade, 2] ++ toLE 2 reach ++ [8, 2, 1, 0] ++ toLE 2 4 ++ toLE 4 1
    ++ toLE 4 4 ++ toLE 4 3 ++ zeros 4 ++ toLE 8 77 ++ toLE 8 256 ++ toLE 4 0)

/-- A plan image at the start of the plan area. -/
def withImage (s : State) (b : List Byte) : State := { s with tier1 := s.tier1.writeBytes (32 * planAreaBase) b }

def aDue : DueEntry := ⟨5, 4, 77, 3, 3, 2, 1⟩

def aPlan : Plan :=
  { epoch := 9, prologue := 1, body := 4, repeats := 3, hash := 77, derateN := 2, neighbours := none, forecast := [], freq := []
    due := [aDue], ingest := [], serving := none, start := planAreaBase, length := 256 }

/-- A module whose hub runs a plan at this plan beat. -/
def running (beat : Nat) : State :=
  { ((((up.withPlan .running).set .PLN_EPOCH_epoch 0 9).set .RTE_EPOCH_epoch 0 9).set .RTE_PLAN_rstate 0 3).atBeat (beat + 100) (beat + 100)
    with plan := { PlanEngine.reset with plan := some aPlan, beat := beat } }

/-- A toll. -/
def aToll (cause d : Nat) : Toll := ⟨1000, 3, 7, 9, d, cause, 1, 60, 0⟩

/-- A module with this toll at Rim 2. -/
def tollAt (r : Nat) (own : Bool) (t : Toll) (x : State) : State := { x with router := { x.router with tollIn := [⟨r, own, t⟩] } }

/-- A module whose hub is sent this toll. -/
def hubGets (t : Toll) (x : State) : State := { x with router := { x.router with hubTolls := [t] } }

/-- A tile program entry. -/
def aProg : ProgEntry := ⟨0, true, 0, 0, 0, 16, 4, 0, 32⟩

/-! ### Tiles -/

/-- An instruction word: opcode, extension words, wait and post tokens, and fields at their low bits. -/
def word (op ext wait post : Nat) (fields : List (Nat × Nat)) : Nat :=
  op + 2 ^ 8 * ext + 2 ^ 10 * wait + 2 ^ 14 * post + (fields.map (fun f => 2 ^ f.1 * f.2)).sum

/-- A voice image: its mode and its micro-ops. -/
def voiceImg (mode : Nat) (micros : List Nat) : List Byte :=
  padTo 256 [5, 0, BitVec.ofNat 8 mode, 0, BitVec.ofNat 8 micros.length] ++ micros.flatMap (fun w => toLE 8 w ++ toLE 8 0)

/-- A voice image of mode 0 with one micro-op and its extension word. -/
def microImg (w x : Nat) : List Byte := padTo 256 [5, 0, 0, 0, 1] ++ toLE 8 w ++ toLE 8 x

/-- A tile in the body of its program, at its first word, in cycle 3. -/
def coder : Tile := { Tile.reset with prog := some ⟨0, 0, 0, 64, 0⟩, running := true, inBody := true, now := 3 }

/-- A running plan with this tile as tile 0, and these words in its scratchpad. -/
def withCode (x : Tile) (ws : List Nat) : State :=
  { running 100 with tiles := [(0, x)], spad := Memory.empty.writeBytes 0 (ws.flatMap (toLE 8)) }

/-- A plane of FP32 weights, and a tile that has it. -/
def aPlane : Plane := ⟨1, 8, 8, 0, List.replicate 32 (List.replicate 8 Val.zero), List.replicate 32 127⟩
def macTile : Tile := { coder with voice := some (voiceImg 8 []), planes := [some aPlane, none] }
def vecTile : Tile := { coder with voice := some (voiceImg 0 [word 0x80 1 0 0 [(28, 1)]]) }

/-- A tile whose one micro-op moves the lane numbers to a destination. -/
def moveTile (dst x : Nat) : Tile := { coder with voice := some (microImg (word 0x80 1 0 0 [(22, dst), (28, 0x19)]) x) }

/-- An outstanding access of tier 1 or 2: one unit. -/
def anAccess (tier : Nat) (store : Bool) : TierAccess := ⟨tier, store, [9], [5], [List.replicate 32 3], 120, false, false, 150, 2, 0, none, none⟩

/-! ### Flits and packets -/

/-- A flit of 256 bytes: its type, sequence number, acknowledgement, VC and route field. -/
def aFlitBytes (typ seq ack vc route : Nat) : List Byte :=
  withCrc (toLE 4 (typ + 2 ^ 2 * seq + 2 ^ 14 * ack + 2 ^ 26 * vc + 2 ^ 29) ++ toLE 8 route ++ zeros 240)

/-- A VC0 flit held for a slot. -/
def aHeld : HeldFlit := ⟨aFlit 0, 1, 3, 100⟩

/-- A port ACTIVE while a plan runs at plan beat 100 in hub and router. -/
def linked (x : LinkPort) : State :=
  let s := (((running 100).set .LNK_STATUS_state 3 7).set .RTE_FENCE_LO_fence_lo 0 0).set .RTE_FENCE_HI_fence_hi 0 0
  { ((s.set .LNK_STATUS_vc_count 3 7).set .LNK_STATUS_mode 3 0) with ports := [(3, x)], router := { s.router with planBeat := 100, plan := some (1, 4) } }

/-- The router with an item of tag 77, its slot on port 3, and a route to device 0x215 by port 3. -/
def routed (s : State) : State :=
  { (s.set .RTE_FENCE_LO_fence_lo 0 0) with router := { s.router with
      ports := [⟨3, 1, 2, 1⟩], slots := [⟨3, 1, 6, 2, 77, 0⟩], items := [⟨77, 0xFFFF, 0, 0x3F⟩], routes := [(277, 2 ^ 42 + 2 ^ 36 * 3 + 8)] } }

/-- An adaptive packet of VC 2 that waits at port 4 since tick 0. -/
def aDyn : DynFlit := ⟨⟨0, 2, true, mkRoute 0x215 9 1 false 0 0 4, [1]⟩, true, 5, none, 0, 0⟩

/-- A whole packet of this kind from device 9 that waits at its home Rim. -/
def aPacket (kind seq : Nat) (payload : List Byte) : Packet := ⟨2, mkRoute 0x214 9 kind false 3 seq 4, [payload], 36, 1⟩
def withPacket (k : Packet) (s : State) : State := { s with router := { s.router with arrivals := [(3, k)] } }
def aContext : Context := ⟨9, 2, 4, 64, [], 0, 0⟩
def withContext (c : Context) (s : State) : State := { s with router := { s.router with contexts := [c] } }
def withPair (c : Pair) (s : State) : State := { s with router := { s.router with pairs := [c] } }

/-! ### Ingest and serving -/

def aStream : StreamEntry := ⟨2, 4, 8, 2, 1, 1000, 10⟩
def aLayout : Layout := ⟨4, 2, 2, 20000, 64, 2, 2, 30000, 40000, 1, 100, [⟨0, 2, 4, 12, 1, 100⟩, ⟨2, 2, 6, 12, 1, 200⟩]⟩
def servePlan : Plan := { aPlan with ingest := [aStream], serving := some aLayout }

/-- A module that runs a plan with a stream and a serving layout. -/
def serving (beat : Nat) : State :=
  let s := running beat
  { s with plan := { s.plan with plan := some servePlan }, host := { s.host with ingest := [⟨2, 3, 1, false⟩] } }

/-- A slot record: tag, no adapter, prompt length and rest. -/
def slotRecord (len : Nat) : List Byte := padTo 64 (toLE 4 7 ++ toLE 2 0xFFFF ++ zeros 10 ++ toLE 4 len ++ toLE 4 5)

/-! ### Slots, mailboxes and the fatal path -/

/-- The words of a GATHER of one index, and its issue. -/
def gWords (op : Nat) : List Nat := [word op 3 0 3 [], 9 + 2^35*2, 128 + 2^15*1, 64 + 2^16*2 + 2^32]

def gIssue (op : Nat) : Issue := (withCode coder (gWords op)).issue 0 3 (word op 3 0 3 []) coder

/-- A push whose path is full, 9 counted beats after its stall. -/
def queueFull : State :=
  { withCode { coder with push := [⟨1, [4], 3, .tile 36 3, 9, 0, 0, some ⟨0, 190⟩⟩], out := [(1, ⟨List.replicate 2 (.word (zeros 64) 0 (.tile 36 3)), List.replicate 80 (.word (zeros 64) 0 (.tile 36 3))⟩)] } [] with time := { (running 100).time with counted := 9 } }

/-- A tile with a word in an in queue. -/
def rxMac : Tile := { macTile with rx := [(1, [⟨List.replicate 64 0x3F, 0⟩])] }

/-- A flit as operand. -/
def flitOf (typ seq ack vc route : Nat) : Vector Byte 256 := vec 256 (aFlitBytes typ seq ack vc route)

/-- A message of 4 bytes. -/
def msg : Vector Byte 960 := vec 960 [0, 1, 2, 3]

/-- A router with an adaptive packet that no port has credit for. -/
def escaping : State :=
  let s := (routed (linked { LinkPort.reset with sent := [(2, (linked LinkPort.reset).allotment 3)] })).atBeat 9999 9999;
    { s with router := { s.router with adaptive := [aDyn] } }

/-- A host interface that may fetch from queue 1. -/
def fetching1 : State :=
  ({ up with host := { up.host with queues := [(1, { newQueue 0x1000 0x2000 16 7 with sqTail := 3 })] } }).set .HST_STATUS_running 0
    1

/-- A host interface with a queue 2, free or in use. -/
def withQueue2 (s : State) : State :=
  { s with host := { s.host with queues := s.host.queues ++ [(2, newQueue 0x6000 0x7000 16 3)] } }

def busyQueue2 : State :=
  { withQueue2 (up.withCmd 4 0 [2]) with host := { (withQueue2 (up.withCmd 4 0 [2])).host with fetched := [{ fetched 0x20 1 [] with q := 2, started := true }, { fetched 0 0 [] with q := 2 }, fetched 4 0 [2]] } }

/-- A slot with a record that waits for its walk. -/
def pendingSlot : ServeSlot := { ServeSlot.reset with record := slotRecord 20, state := 1, gen := 3 }

/-- A state with this slot. -/
def withSlot (n : Nat) (x : ServeSlot) (s : State) : State := { s with serving := { s.serving with slots := [(n, x)] } }

/-- A state with a walk of slot 1 under way, of this gen. -/
def walking (g : Nat) (s : State) : State := { s with serving := { s.serving with walks := [⟨1, g⟩, ⟨2, 0⟩] } }

/-- Slots in PREFILL and in DECODE. -/
def prefilling : ServeSlot := { ServeSlot.reset with record := slotRecord 20, state := 2, gen := 3, fed := 8, pos := 8 }

def decoding : ServeSlot :=
  { ServeSlot.reset with record := slotRecord 20, state := 3, gen := 3, fed := 20, pos := 20, generated := 1, last := 9 }

/-- A state in whose step slot 0 has this input record, with its results in tier 1. -/
def stepIn (x : ServeSlot) (r : InRecord) (n : Nat) (s : State) : State :=
  { s with serving := { s.serving with slots := [(0, x)], step := [(0, n)], inputs := [(0, r)] }, tier1 := s.tier1.writeBytes (32 * 106) (toLE 8 n ++ toLE 2 0 ++ [3] ++ zeros 21 ++ toLE 4 11 ++ toLE 4 12) }

/-- Mailbox `m` with this owner and busy bit. -/
def locked (m : Nat) (o b : Nat) : State := (up.set .MGT_MBX_STATUS_owner m o).set .MGT_MBX_STATUS_busy m b

/-- Mailbox `m` with a request of this owner. -/
def asks (m owner svc op : Nat) (body : List Byte) (s : State) : State :=
  { ((s.set .MGT_MBX_STATUS_owner m owner).set .MGT_MBX_STATUS_busy m 1) with mgmt := { s.mgmt with boxes := s.mgmt.boxes.writeBytes (4096 * m + 64) ([BitVec.ofNat 8 svc, BitVec.ofNat 8 op, 7, 0] ++ zeros 4 ++ body), lengths := [(m, 8 + body.length)] } }

/-- ... whose service has answered. -/
def answered (m st : Nat) (b : List Byte) (s : State) : State := { s with mgmt := { s.mgmt with answers := [(m, ⟨st, b⟩)] } }

/-- ... to be released at its end. -/
def releasing (m : Nat) (s : State) : State := { s with mgmt := { s.mgmt with releases := [m] } }

/-- Directories that prefer this image. -/
def withDirs (p : Nat) (s : State) : State := { s with mgmt := { s.mgmt with dirs := [⟨4, p, true⟩, ⟨3, 0, true⟩] } }

/-- A part in another life-cycle state. -/
def deployed (s : State) : State := { s with fused := { s.fused with lifeCycle := 2 } }

def returned (s : State) : State := { s with fused := { s.fused with lifeCycle := 3 } }

/-- A life-cycle record with no good HMAC. -/
def noMac (ser old new' nonce : Nat) : List Byte :=
  toLE 8 ser ++ [BitVec.ofNat 8 old, BitVec.ofNat 8 new', 0, 0] ++ toLE 4 nonce ++ zeros 48

/-- LC_REQUEST with this target and record. -/
def lcCmd (t : Nat) (r : List Byte) (s : State) : State := s.withCmd 0x71 2 ([BitVec.ofNat 8 t] ++ zeros 55 ++ r)

def lcF (t : Nat) (r : List Byte) : Fetched := fetched 0x71 2 ([BitVec.ofNat 8 t] ++ zeros 55 ++ r)

/-- A transition under way. -/
def moving (x : Transition) (s : State) : State := { s with mgmt := { s.mgmt with transition := some x } }

/-- Fatal conditions on their way. -/
def raising (l : List Raised) (s : State) : State := { s with raised := l }

/-- A change of the fatal path. -/
def withFault (f : FaultPath → FaultPath) (s : State) : State := { s with fault := f s.fault }

/-! ### A signed life-cycle record (its HMAC has no value that Lean can see) -/

theorem slice_append_left (b x : List Byte) (off n : Nat) (h : off + n ≤ b.length) : slice (b ++ x) off n = slice b off n := by
  unfold slice
  rw [List.drop_append_of_le_length (by omega), List.take_append_of_le_length (by simp; omega)]

theorem leAt_append_left (b x : List Byte) (off n : Nat) (h : off + n ≤ b.length) : leAt (b ++ x) off n = leAt b off n :=
  congrArg ofLE (slice_append_left b x off n h)

/-- A record whose fields are right, with its HMAC, is refused for no reason. -/
theorem lcReason_signed {s : State} (b : List Byte) (hb : b.length = 16) (h1 : s.planLoaded = false)
    (h2 : s.mgmt.transition.isSome = false) (h3 : leAt b 0 8 = s.fused.serial % 2 ^ 64) (h4 : leAt b 8 1 = s.fused.lifeCycle)
    (h5 : mayMove (leAt b 8 1) (leAt b 9 1) = true) (h6 : leAt b 12 4 = s.get .SEC_LC_NONCE_nonce 0) :
    s.lcReason (b ++ (Config.hmacSha384 s.fused.key b).toList) = none := by
  have e (off n : Nat) (h : off + n ≤ 16) := leAt_append_left b (Config.hmacSha384 s.fused.key b).toList off n (by omega)
  have t : (b ++ (Config.hmacSha384 s.fused.key b).toList).take 16 = b := by rw [← hb]; exact List.take_left
  have d : slice (b ++ (Config.hmacSha384 s.fused.key b).toList) 16 48 = (Config.hmacSha384 s.fused.key b).toList := by
    unfold slice; rw [← hb, List.drop_left]; exact List.take_of_length_le (by simp)
  simp only [State.lcReason, h1, h2, e 0 8 (by omega), e 8 1 (by omega), e 9 1 (by omega), e 12 4 (by omega), h3, h4, h6, t, d]
  rw [← h4, h5]; simp

/-- The console with a known nonce; a record of it that asks for Scrapped, and its HMAC. -/
def lcUp : State := { up with regs := up.regs.put (regKey .SEC_LC_NONCE_nonce 0) 5 }
def scrap : List Byte := toLE 8 up.fused.serial ++ [BitVec.ofNat 8 up.fused.lifeCycle, 4, 0, 0] ++ toLE 4 5
def signed : List Byte := scrap ++ (Config.hmacSha384 lcUp.fused.key scrap).toList

theorem signed_length : signed.length = 64 := by
  have : scrap.length = 16 := by decide +kernel
  simp [signed, this]

/-- LC_REQUEST of queue 1 with the signed record. -/
def lcFetched : Fetched := { fetched 0x71 2 [4] with packet := packet 0x71 2 [4] |>.take 64 |> (· ++ signed) }

theorem lcFetched_ready : (lcUp.withFetched lcFetched).Ready 1 5 0x71 lcFetched :=
  ⟨by decide +kernel, rfl, by decide +kernel, by decide +kernel⟩

theorem slice_append_right (b r : List Byte) (h : b.length = 64) (l : r.length = 64) : slice (b ++ r) 64 64 = r := by
  unfold slice
  rw [List.drop_left' h]
  exact List.take_of_length_le (by omega)

theorem lcFetched_signed : signed = slice lcFetched.packet 64 64 :=
  (slice_append_right _ _ (by decide +kernel) signed_length).symm

/-- Mailbox 28 with a LIFE_CYCLE request of the host that carries the signed record. -/
def lcAsked : State :=
  { ((lcUp.set .MGT_MBX_STATUS_owner 28 1).set .MGT_MBX_STATUS_busy 28 1) with
    mgmt := { lcUp.mgmt with boxes := (Memory.empty.writeBytes 114752 [5, 1]).writeBytes 114760 signed, lengths := [(28, 72)] } }

theorem lcAsked_request : signed = lcAsked.request 28 8 64 := by
  have h := Memory.readBytes_writeBytes signed (Memory.empty.writeBytes 114752 [5, 1]) 114760
  rw [signed_length] at h
  have e : 4096 * 28 + 64 + 8 = 114760 := rfl
  simp only [State.request, lcAsked, e, h]

theorem lcAsked_byte (a : Nat) (h : a < 114760) (x : Byte) (e : (Memory.empty.writeBytes 114752 [5, 1]).read a = x) :
    lcAsked.mgmt.boxes.readBytes a 1 = [x] := by
  have := Memory.read_writeBytes_out signed (Memory.empty.writeBytes 114752 [5, 1]) (b := a) (.inl h)
  unfold lcAsked
  simp only [Memory.readBytes, this, e]

theorem lcAsked_serves : lcAsked.serves 28 5 1 = true := by
  have a : lcAsked.service 28 = 5 := congrArg ofLE (lcAsked_byte 114752 (by decide) 5 (by decide +kernel))
  have b : lcAsked.opcode 28 = 1 := congrArg ofLE (lcAsked_byte 114753 (by decide) 1 (by decide +kernel))
  unfold State.serves
  rw [a, b]; decide +kernel

theorem lcAsked_reason : lcAsked.lcReason signed = none :=
  lcReason_signed scrap (by decide +kernel) (by decide +kernel) (by decide +kernel) (by decide +kernel) (by decide +kernel)
    (by decide +kernel) (by decide +kernel)

theorem lcFetched_reason : (lcUp.withFetched lcFetched).lcReason signed = none :=
  lcReason_signed scrap (by decide +kernel) (by decide +kernel) (by decide +kernel) (by decide +kernel) (by decide +kernel)
    (by decide +kernel) (by decide +kernel)

theorem lcFetched_target : lcFetched.par 8 1 = leAt signed 9 1 := by decide +kernel

/-! ### How a witness meets a hypothesis -/

theorem ready_of {s : State} {q : QueueIx} {cid : Cid} {op : Nat} {f : Fetched}
    (h : s.hubUp = true ∧ s.command? q.val cid.toNat = some f ∧ f.op = op ∧ s.canStart f = true) : s.Ready q cid op f := h

theorem canPost_of {y : Tile} {w : Nat} (h : postOf w = 0 ∨ bit y.board (postOf w) = false) : y.canPost w := h

theorem lifeOk_of {s : State} (h : s.mgmt.transition = none) : s.LifeOk := by
  intro t e; rw [h] at e; cases e

/-- A part of state 1 whose transition to 2 is ready to be programmed, and the command that does it. -/
def programming : State :=
  { up with fused := { up.fused with lifeCycle := 1 }, pending := [.lcFuseProgram], mgmt := { up.mgmt with transition := some ⟨2, none, 28⟩ } }

theorem programming_ok : programming.LifeOk := by
  intro t e
  have h : programming.mgmt.transition = some ⟨2, none, 28⟩ := by decide +kernel
  rw [h] at e; cases e; decide +kernel

/-- The wait token lets the instruction go, with this tile. -/
def goesB (o : Waited) (y : Tile) : Bool :=
  match o with
  | .go z => decide (y = { z with tokenStall := false })
  | _ => false

theorem goes_of {o : Waited} {y : Tile} (h : goesB o y = true) : ∃ z, o = .go z ∧ y = { z with tokenStall := false } := by
  unfold goesB at h
  split at h
  · exact ⟨_, rfl, of_decide_eq_true h⟩
  · cases h

theorem issues_of {s : State} {t : TileIx} {e op w : Nat} {y : Tile}
    (h : s.tileEvent t e = true ∧ (s.entered t e).canIssue t e = true ∧ (s.entered t e).spadWord t ((s.entered t e).tile t).pc = w
      ∧ opcodeOf w = op ∧ decodeConds ((s.entered t e).tile t) ((s.entered t e).tile t).pc w = []
      ∧ goesB (tokenWait ((s.entered t e).tile t) ((s.entered t e).tile t).pc w) y = true) : s.Issues t e op w y :=
  let ⟨a, b, c, d, f, g⟩ := h
  ⟨a, _, _, rfl, rfl, b, c, d, f, goes_of g⟩

theorem forall_some {α : Type} {o : Option α} {P : α → Prop} [DecidablePred P] (h : (o.all fun x => decide (P x)) = true) :
    ∀ x, o = some x → P x := by
  intro x e
  rw [e] at h
  exact of_decide_eq_true h

theorem unitsGood_of {s : State} {t : Nat} {us : List Nat} (h : ∀ u ∈ us, s.spadErr.find? (2 ^ 15 * t + u) = none) :
    s.unitsGood t us := h

theorem rowsGood_of {s : State} {t : Nat} {m : MmaOp} {pl : Plane}
    (h : ∀ k, k < m.rows → (∀ u ∈ m.rowUnits pl k, s.spadErr.find? (2 ^ 15 * t + u) = none)
      ∧ ((m.rowUnits pl k).map (fun u => u / 4096)).Nodup) :
    ∀ k, k < m.rows → s.unitsGood t (m.rowUnits pl k) ∧ ((m.rowUnits pl k).map (fun u => u / 4096)).Nodup := h

theorem onRegs_of {m : Micro} (h : m.opcode ≠ 0x98 ∧ m.dst < 16 ∧ ∀ r ∈ m.sources, r < 16 ∨ r = 0x18 ∨ r = 0x19) : m.onRegs := h

theorem allOnRegs_of {ms : List Micro}
    (h : ∀ m ∈ ms, m.opcode ≠ 0x98 ∧ m.dst < 16 ∧ ∀ r ∈ m.sources, r < 16 ∨ r = 0x18 ∨ r = 0x19) : ∀ m ∈ ms, m.onRegs := h

theorem forall_index {P : Nat → Nat → Prop} {l : List Nat} (h : ∀ k, k < l.length → P k (l.getD k 0)) :
    ∀ k u, l[k]? = some u → P k u := by
  intro k u e
  obtain ⟨hk, rfl⟩ := List.getElem?_eq_some_iff.mp e
  have := h k hk
  rwa [List.getD_eq_getElem?_getD, e] at this

/-! ### Witnesses -/

theorem witness_StepRunsFrontCommand :
    (∃ c, ∃ rest, ∃ (s : State), s.pending = c :: rest) ∧
    (∃ (s : State), s.pending = []) :=
  ⟨by refine ⟨.attention, [], { up with pending := [.attention] }, ?_⟩ <;> decide +kernel,
   by refine ⟨up, ?_⟩ <;> decide +kernel⟩

theorem witness_CommandsCompleteAndKeepQueue :
    (∃ (c : Instr), ∃ (s t : State), exec c s = .next t) ∧
    (∃ (s t : State), step s = .next t) :=
  ⟨⟨.attention, up, _, rfl⟩,
   ⟨{ up with pending := [.attention] }, _, rfl⟩⟩

theorem witness_LifeCycleInvariantKept :
    ∃ (s t : State), s.LifeOk ∧ step s = .next t :=
  ⟨{ up with pending := [.attention] }, _, lifeOk_of (by decide +kernel), rfl⟩

theorem witness_LifeCycleOnlyMovesForward :
    (∃ (s t : State), s.LifeOk ∧ step s = .next t ∧ t.fused.lifeCycle ≠ s.fused.lifeCycle) ∧
    (∃ (c : Instr), ∃ (s t : State), exec c s = .next t ∧ t.fused ≠ s.fused) :=
  ⟨⟨programming, _, programming_ok, rfl, by decide +kernel⟩,
   ⟨.lcFuseProgram, programming, _, rfl, by decide +kernel⟩⟩

theorem witness_ResetsAndPowerLoss :
    (∃ (s : State), s.powered = false) ∧
    (∃ (s : State), ∃ x, s.pkgReset = some x ∧ s.powered = true ∧ s.tripped = false ∧ x.due ≤ s.time.tick) ∧
    (∃ (s : State), s.powered = true) ∧
    (∃ (s : State), ∃ k, s.powered = true ∧ s.tripTick = some k ∧ k + 1250000 ≤ s.time.tick) :=
  ⟨by refine ⟨{ up with powered := false }, ?_⟩ <;> decide +kernel,
   by refine ⟨{ up with pkgReset := some ⟨2, 0⟩ }, ⟨2, 0⟩, ?_, ?_, ?_, ?_⟩ <;> decide +kernel,
   by refine ⟨up, ?_⟩ <;> decide +kernel,
   by refine ⟨{ up with tripTick := some 7, time := { up.time with tick := 1250007 } }, 7, ?_, ?_, ?_⟩ <;> decide +kernel⟩

theorem witness_HubReadyBoots :
    ∃ (s : State), s.powered = true ∧ s.get .HST_STATUS_hub_ready 0 = 0 :=
  by refine ⟨{ up with regs := [] }, ?_, ?_⟩ <;> decide +kernel

theorem witness_PcieResetAndAttention :
    (∃ (s : State), s.perst = true) ∧
    (∃ (s : State), s.perst = false) ∧
    (∃ (s : State), s.hubUp = true) :=
  ⟨by refine ⟨up, ?_⟩ <;> decide +kernel,
   by refine ⟨{ up with perst := false }, ?_⟩ <;> decide +kernel,
   by refine ⟨up, ?_⟩ <;> decide +kernel⟩

theorem witness_TamperWipes :
    (∃ (s : State), ∃ k, s.hubUp = true ∧ s.readyTick = some k ∧ k + 250000 ≤ s.time.tick ∧ s.get .SEC_TAMPER_level 0 = 0) ∧
    (∃ (s : State), s.powered = true ∧ s.get .SEC_STATUS_wipe_busy 0 = 1) ∧
    (∃ (s : State), s.powered = true ∧ s.get .SEC_TAMPER_level 0 = 1) :=
  ⟨by refine ⟨up.atBeat 250000 0, 0, ?_, ?_, ?_, ?_⟩ <;> decide +kernel,
   by refine ⟨up.set .SEC_STATUS_wipe_busy 0 1, ?_, ?_⟩ <;> decide +kernel,
   by refine ⟨up.set .SEC_TAMPER_level 0 1, ?_, ?_⟩ <;> decide +kernel⟩

theorem witness_TemperatureAndPowerStage :
    (∃ (k : Fin 7), ∃ (c : BitVec 8), ∃ (s : State), s.powered = true ∧ (tempLimits k).1 ≤ c.toNat) ∧
    (∃ (k : Fin 7), ∃ (c : BitVec 8), ∃ (s : State), s.powered = true ∧ (tempLimits k).2 ≤ c.toNat) ∧
    (∃ (s : State), s.hubUp = true) :=
  ⟨by refine ⟨1, 90, up, ?_, ?_⟩ <;> decide +kernel,
   by refine ⟨6, 50, up, ?_, ?_⟩ <;> decide +kernel,
   by refine ⟨up, ?_⟩ <;> decide +kernel⟩

theorem witness_PowerStatesChange :
    (∃ (a : Agent), ∃ (v : Word), ∃ (s : State), s.agentUp a = true ∧ writesFlt a = true ∧ bit v.toNat 2 = true ∧ s.power = .active
      ∧ s.resetting = false ∧ bits v.toNat 1 0 = 0 ∧ s.quietPlan = true ∧ s.get .FLT_DUMP_busy 0 = 0) ∧
    (∃ (a : Agent), ∃ (v : Word), ∃ (s : State), s.agentUp a = true ∧ writesFlt a = true ∧ bit v.toNat 2 = true ∧ s.power = .active
      ∧ s.resetting = false ∧ bits v.toNat 1 0 = 0 ∧ s.quietPlan = false ∧ s.forwardingImage = false) ∧
    (∃ (a : Agent), ∃ (v : Word), ∃ (s : State), s.agentUp a = true ∧ writesFlt a = true ∧ bit v.toNat 2 = false ∧ s.power = .active
      ∧ s.resetting = false ∧ s.pwr.entry = none ∧ bits v.toNat 1 0 = 1 ∧ (s.planState = .idle ∨ s.planState = .loaded ∨ s.planState
      = .stopped)) ∧
    (∃ (a : Agent), ∃ (v : Word), ∃ (s : State), s.agentUp a = true ∧ writesFlt a = true ∧ bit v.toNat 2 = false ∧ s.power = .active
      ∧ s.resetting = false ∧ s.pwr.entry = none ∧ bits v.toNat 1 0 = 1 ∧ s.planState = .running) ∧
    (∃ (a : Agent), ∃ (v : Word), ∃ (s : State), s.agentUp a = true ∧ writesFlt a = true ∧ bit v.toNat 2 = false ∧ s.power = .active
      ∧ s.resetting = false ∧ s.pwr.entry = none ∧ bits v.toNat 1 0 = 2 ∧ s.quietPlan = true) ∧
    (∃ (a : Agent), ∃ (v : Word), ∃ (s : State), s.agentUp a = true ∧ writesFlt a = true ∧ bit v.toNat 2 = false ∧ s.power = .active
      ∧ s.resetting = false ∧ s.pwr.entry = none ∧ bits v.toNat 1 0 = 2 ∧ s.quietPlan = false ∧ s.forwardingImage = false) ∧
    (∃ (a : Agent), ∃ (v : Word), ∃ (s : State), s.agentUp a = true ∧ writesFlt a = true ∧ bit v.toNat 2 = false ∧ bits v.toNat 1 0
      = 0 ∧ s.resetting = false ∧ s.power = .hush) ∧
    (∃ (a : Agent), ∃ (v : Word), ∃ (s : State), s.agentUp a = true ∧ writesFlt a = true ∧ bit v.toNat 2 = false ∧ bits v.toNat 1 0
      = 0 ∧ s.resetting = false ∧ s.power = .relay) ∧
    (∃ (s : State), s.powered = true ∧ s.accessesDone = true ∧ s.get .FLT_DUMP_busy 0 = 0 ∧ s.pwr.entry = some 1) ∧
    (∃ (s : State), s.powered = true ∧ s.accessesDone = true ∧ s.get .FLT_DUMP_busy 0 = 0 ∧ s.pwr.entry = some 2) ∧
    (∃ (s : State), s.hubUp = true ∧ (s.power = .fieldReset ∨ (s.power = .relay ∧ s.pwr.restarting = true))) :=
  ⟨by refine ⟨.mc0, 4, up, ?_, ?_, ?_, ?_, ?_, ?_, ?_, ?_⟩ <;> decide +kernel,
   by refine ⟨.mc0, 4, up.withPlan .running, ?_, ?_, ?_, ?_, ?_, ?_, ?_, ?_⟩ <;> decide +kernel,
   by refine ⟨.mc0, 1, up, ?_, ?_, ?_, ?_, ?_, ?_, ?_, ?_⟩ <;> decide +kernel,
   by refine ⟨.host, 1, up.withPlan .running, ?_, ?_, ?_, ?_, ?_, ?_, ?_, ?_⟩ <;> decide +kernel,
   by refine ⟨.mc1, 2, up.withPlan .faulted, ?_, ?_, ?_, ?_, ?_, ?_, ?_, ?_⟩ <;> decide +kernel,
   by refine ⟨.mc1, 2, up.withPlan .running, ?_, ?_, ?_, ?_, ?_, ?_, ?_, ?_, ?_⟩ <;> decide +kernel,
   by refine ⟨.mc1, 0, up.set .FLT_STATUS_pwr_state 0 1, ?_, ?_, ?_, ?_, ?_, ?_⟩ <;> decide +kernel,
   by refine ⟨.mc1, 0, up.set .FLT_STATUS_pwr_state 0 2, ?_, ?_, ?_, ?_, ?_, ?_⟩ <;> decide +kernel,
   by refine ⟨{ up with pwr := { up.pwr with entry := some 1 } }, ?_, ?_, ?_, ?_⟩ <;> decide +kernel,
   by refine ⟨{ up with pwr := { up.pwr with entry := some 2 } }, ?_, ?_, ?_, ?_⟩ <;> decide +kernel,
   by refine ⟨up.set .FLT_STATUS_pwr_state 0 3, ?_, ?_⟩ <;> decide +kernel⟩

theorem witness_MachineBeatAdvances :
    (∃ (s : State), s.powered = true) ∧
    (∃ (x : BeatIn), ∃ (s : State), s.powered = true ∧ (∀ e ∈ s.tiles, e.2.quiet = true) ∧ x.upsets = [] ∧ x.tables = [] ∧ x.inner =
      [] ∧ (∀ k, (x.ecs.toList.getD k 0).toNat = 0)) ∧
    (∃ (x : BeatIn), ∃ (s : State), s.powered = true ∧ (∀ e ∈ s.tiles, e.2.quiet = true) ∧ ∃ (tier2 : Bool), ∃ (a : BitVec 35), ∃ (b
      : Vector Byte 32), x.inner = [.tier tier2 a (some b)] ∧ s.tiersServe = true ∧ firmwareRights tier2 a.toNat = 2) ∧
    (∃ (x : BeatIn), ∃ (s : State), s.powered = true ∧ (∀ e ∈ s.tiles, e.2.quiet = true) ∧ ∃ (g : Bool), ∃ (k : TileIx), ∃ (u :
      BitVec 15), ∃ (b : Vector Byte 32), x.inner = [.spad g k u (some b)] ∧ s.tiersServe = true ∧ (g = true ∨ s.inWindow (tileDie
      k) u.toNat = false) ∧ s.testOn k u.toNat = none) ∧
    (∃ (x : BeatIn), ∃ (s : State), s.powered = true ∧ (∀ e ∈ s.tiles, e.2.quiet = true) ∧ ∃ (u : Upset), x.inner = [] ∧ x.upsets =
      [u]) ∧
    (∃ (x : BeatIn), ∃ (s : State), s.powered = true ∧ (∀ e ∈ s.tiles, e.2.quiet = true) ∧ x.inner = []) :=
  ⟨by refine ⟨up.withPlan .running, ?_⟩ <;> decide +kernel,
   by refine ⟨beatIn, running 100, ?_, ?_, ?_, ?_, ?_, fun k => by rcases k with _ | _ | k <;> rfl⟩ <;> decide +kernel,
   by refine ⟨{ beatIn with inner := [.tier true 9 (some (Vector.replicate 32 3))] }, up, ?_, ?_, true, 9, Vector.replicate 32 3,
     ?_, ?_, ?_⟩ <;> decide +kernel,
   by refine ⟨{ beatIn with inner := [.spad true 0 2 (some (Vector.replicate 32 3))] }, up, ?_, ?_, true, 0, 2, Vector.replicate 32
     3, ?_, ?_, ?_, ?_⟩ <;> decide +kernel,
   by refine ⟨{ beatIn with upsets := [⟨0, 5, true⟩] }, up, ?_, ?_, ⟨0, 5, true⟩, ?_, ?_⟩ <;> decide +kernel,
   by refine ⟨{ beatIn with ecs := Vector.replicate 2 3 }, up, ?_, ?_, ?_⟩ <;> decide +kernel⟩

theorem witness_ReferenceAndHoldover :
    (∃ (s : State), s.powered = true ∧ s.time.standby = false) ∧
    (∃ (s : State), s.powered = true ∧ s.time.standby = true) ∧
    (∃ (s : State), ∃ k, s.powered = true ∧ (s.timeState = .acquire ∨ s.timeState = .locked) ∧ s.get .BEAT_CTRL_time_root 0 = 0 ∧
      s.time.lastParent = some k ∧ k + 64 ≤ s.time.tick) :=
  ⟨by refine ⟨up.withPlan .loaded, ?_, ?_⟩ <;> decide +kernel,
   by refine ⟨{ (up.set .BEAT_CTRL_time_root 0 1) with time := { up.time with standby := true } }, ?_, ?_⟩ <;> decide +kernel,
   by refine ⟨{ (up.set .BEAT_STATUS_state 0 2) with time := { up.time with lastParent := some 5, tick := 69 } }, 5, ?_, ?_, ?_, ?_,
     ?_⟩ <;> decide +kernel⟩

theorem witness_TimeWordsCorrectTime :
    (∃ (p : PortIx), ∃ (s : State), ∃ (c : Ctrl), ∃ rest, ∃ (w : TimeWord), s.hubUp = true ∧ takeCtrl 1 (s.port p).rxCtrl = some (c,
      rest) ∧ w = parseTimeWord c.body ∧ w.echoValid = false) ∧
    (∃ (p : PortIx), ∃ (fr : BitVec 16), ∃ (s : State), ∃ (c : Ctrl), ∃ rest, ∃ (w : TimeWord), s.hubUp = true ∧ takeCtrl 1 (s.port
      p).rxCtrl = some (c, rest) ∧ w = parseTimeWord c.body ∧ w.echoValid = true ∧ ∃ d, ∃ o, delayOffset w s.time.beat fr.toNat =
      (d, o)) :=
  ⟨by refine ⟨3, gotCtrl 1 [] (timeBytes 2) LinkPort.reset, ⟨1, false, padTo 6 [], padTo 32 (timeBytes 2)⟩, [], _, ?_, ?_, rfl, ?_⟩
     <;> decide +kernel,
   by refine ⟨3, 9, (gotCtrl 1 [] (timeBytes 0x86) LinkPort.reset).atBeat 102 102, ⟨1, false, padTo 6 [], padTo 32 (timeBytes
     0x86)⟩, [], _, ?_, ?_, rfl, ?_, (delayOffset (parseTimeWord (padTo 32 (timeBytes 0x86))) 102 9).1, (delayOffset (parseTimeWord
     (padTo 32 (timeBytes 0x86))) 102 9).2, ?_⟩ <;> decide +kernel⟩

theorem witness_TimeTreeWrites :
    (∃ (s : State), s.agentUp .host = true) ∧
    (∃ (s : State), s.agentUp .host = true) ∧
    (∃ (a : Agent), ∃ (s : State), s.agentUp a = true ∧ a ≠ .host) ∧
    (∃ (a : Agent), ∃ (v : Word), ∃ (s : State), s.agentUp a = true ∧ a ≠ .host ∧ (s.get .BEAT_CTRL_time_root 0 ≠ bits v.toNat 0 0 ∨
      s.get .BEAT_CTRL_parent_port 0 ≠ bits v.toNat 6 1 ∨ s.get .BEAT_CTRL_parent_valid 0 ≠ bits v.toNat 7 7) ∧ s.planLoaded = true)
      ∧
    (∃ (a : Agent), ∃ (v : Word), ∃ (s : State), s.agentUp a = true ∧ a ≠ .host ∧ (s.get .BEAT_CTRL_time_root 0 ≠ bits v.toNat 0 0 ∨
      s.get .BEAT_CTRL_parent_port 0 ≠ bits v.toNat 6 1 ∨ s.get .BEAT_CTRL_parent_valid 0 ≠ bits v.toNat 7 7) ∧ s.planLoaded =
      false) :=
  ⟨by refine ⟨up, ?_⟩ <;> decide +kernel,
   by refine ⟨up, ?_⟩ <;> decide +kernel,
   by refine ⟨.mc0, up, ?_, ?_⟩ <;> decide +kernel,
   by refine ⟨.mc0, 0x10001, up.withPlan .loaded, ?_, ?_, ?_, ?_⟩ <;> decide +kernel,
   by refine ⟨.mc0, 0x10001, up, ?_, ?_, ?_, ?_⟩ <;> decide +kernel⟩

theorem witness_RegionFrequency :
    (∃ (r : RegionIx), ∃ (v : Word), ∃ (s : State), s.hubUp = true ∧ s.fieldUp = true ∧ s.planLoaded = false ∧ bits v.toNat 6 0 ≤ 80
      ∧ bits v.toNat 6 0 ≤ s.fused.fmaxOf r) ∧
    (∃ (r : RegionIx), ∃ (v : Word), ∃ (s : State), s.hubUp = true ∧ s.fieldUp = true ∧ ((80 < bits v.toNat 6 0 ∨ s.fused.fmaxOf r <
      bits v.toNat 6 0) ∧ s.planLoaded = false ∨ s.planLoaded = true ∧ bits v.toNat 6 0 ≠ s.get .BEAT_REG_FSET_fset_code r)) ∧
    (∃ (r : RegionIx), ∃ (v : Word), ∃ (s : State), s.hubUp = true ∧ s.fieldUp = true ∧ s.planLoaded = true ∧ bits v.toNat 6 0 =
      s.get .BEAT_REG_FSET_fset_code r) ∧
    (∃ (r : RegionIx), ∃ (x : RegionStop), ∃ (s : State), s.fieldUp = true ∧ s.time.stops = [x] ∧ x.region = r ∧ x.code < 128 ∧
      x.at' + 2 ≤ s.time.tick) ∧
    (∃ (s : State), s.fieldUp = true) :=
  ⟨by refine ⟨575, 80, up, ?_, ?_, ?_, ?_, ?_⟩ <;> decide +kernel,
   by refine ⟨575, 81, up, ?_, ?_, ?_⟩ <;> decide +kernel,
   by refine ⟨575, 0x10040, up.withPlan .loaded, ?_, ?_, ?_, ?_⟩ <;> decide +kernel,
   by refine ⟨4, ⟨4, 60, 7, 9⟩, { up with time := { up.time with stops := [⟨4, 60, 7, 9⟩], tick := 9 } }, ?_, ?_, ?_, ?_, ?_⟩
     <;> decide +kernel,
   by refine ⟨up, ?_⟩ <;> decide +kernel⟩

theorem witness_DownbeatActs :
    ∃ (s : State), s.powered = true ∧ s.time.beat % 16 = 0 ∧ s.time.lastDown ≠ some s.time.beat ∧ s.planState ≠ .armed ∧ s.rimArmed
      = false :=
  by refine ⟨up.atBeat 5 32, ?_, ?_, ?_, ?_, ?_⟩ <;> decide +kernel

theorem witness_TrainingIdentifiesNeighbour :
    (∃ (p : PortIx), ∃ (s : State), s.powered = true ∧ s.train p = .detect) ∧
    (∃ (p : PortIx), ∃ (v : Vector Byte 64), ∃ (b : List Byte), ∃ (s : State), s.powered = true ∧ b = v.toList ∧ crcOk b = true ∧
      s.train p = .identify ∧ (parseIdent b).serial = s.fused.serial) ∧
    (∃ (p : PortIx), ∃ (v : Vector Byte 64), ∃ (b : List Byte), ∃ (s : State), s.powered = true ∧ b = v.toList ∧ crcOk b = true ∧
      s.train p = .identify ∧ (parseIdent b).serial ≠ s.fused.serial ∧ (gensOf (s.port p).cfgGen &&& (parseIdent b).gens) &&& 3 = 0)
      ∧
    (∃ (p : PortIx), ∃ (v : Vector Byte 64), ∃ (b : List Byte), ∃ (s : State), s.powered = true ∧ b = v.toList ∧ crcOk b = true ∧
      s.train p = .identify ∧ (parseIdent b).serial ≠ s.fused.serial ∧ (gensOf (s.port p).cfgGen &&& (parseIdent b).gens) &&& 3 ≠ 0)
      ∧
    (∃ (p : PortIx), ∃ (v : Vector Byte 64), ∃ (b : List Byte), ∃ (s : State), s.powered = true ∧ b = v.toList ∧ crcOk b = true ∧
      s.train p = .laneCheck ∧ (s.port p).ownMask = none) ∧
    (∃ (p : PortIx), ∃ (v : Vector Byte 64), ∃ (b : List Byte), ∃ (s : State), s.powered = true ∧ b = v.toList ∧ (crcOk b = false ∨
      (s.train p ≠ .identify ∧ s.train p ≠ .laneCheck))) :=
  ⟨by refine ⟨3, lnk .detect LinkPort.reset, ?_, ?_⟩ <;> decide +kernel,
   by refine ⟨3, vec 64 (identBytes 0 3), _, lnk .identify LinkPort.reset, ?_, rfl, ?_, ?_, ?_⟩ <;> decide +kernel,
   by refine ⟨3, vec 64 (identBytes 9 0), _, lnk .identify LinkPort.reset, ?_, rfl, ?_, ?_, ?_, ?_⟩ <;> decide +kernel,
   by refine ⟨3, vec 64 (identBytes 9 1), _, lnk .identify LinkPort.reset, ?_, rfl, ?_, ?_, ?_, ?_⟩ <;> decide +kernel,
   by refine ⟨3, vec 64 (identBytes 9 1), _, lnk .laneCheck LinkPort.reset, ?_, rfl, ?_, ?_, ?_⟩ <;> decide +kernel,
   by refine ⟨3, vec 64 (zeros 64), _, lnk .identify LinkPort.reset, ?_, rfl, ?_⟩ <;> decide +kernel⟩

theorem witness_TrainingReachesActive :
    (∃ (p : PortIx), ∃ (s : State), s.powered = true ∧ s.train p = .equalize) ∧
    (∃ (p : PortIx), ∃ (s : State), s.powered = true ∧ s.train p = .equalize ∧ (s.get .LNK_STATUS_gen p = 1 ∧ bothTlk2 (s.port p) =
      true ∧ (s.port p).fellBack = false)) ∧
    (∃ (p : PortIx), ∃ (s : State), s.powered = true ∧ s.train p = .equalize ∧ (¬ (s.get .LNK_STATUS_gen p = 1 ∧ bothTlk2 (s.port p)
      = true ∧ (s.port p).fellBack = false))) ∧
    (∃ (p : PortIx), ∃ (s : State), s.powered = true ∧ s.train p = .laneCheck ∧ (s.port p).peerMask = none) ∧
    (∃ (p : PortIx), ∃ (m : BitVec 8), ∃ (s : State), s.powered = true ∧ s.train p = .laneCheck ∧ ∃ i, ∃ b, ∃ w, ∃ lanes, (s.port
      p).peer = some i ∧ (s.port p).peerMask = some b ∧ chooseWidth (widthsOf (s.port p).cfgMin (s.port p).cfgMax &&& i.widths)
      (m.toNat &&& b) = some (w, lanes)) ∧
    (∃ (p : PortIx), ∃ (s : State), s.powered = true ∧ s.train p = .fecAlign) ∧
    (∃ (p : PortIx), ∃ (s : State), s.powered = true ∧ s.train p = .flitSync ∧ (s.port p).rxGood < 16) ∧
    (∃ (p : PortIx), ∃ (s : State), s.powered = true ∧ s.train p = .flitSync ∧ 16 ≤ (s.port p).rxGood) ∧
    (∃ (p : PortIx), ∃ (s : State), ∃ n, ∃ code, s.powered = true ∧ trainTimer (s.train p) = some (n, code) ∧ s.train p ≠ .equalize
      ∧ (s.port p).entered + n ≤ s.time.tick) ∧
    (∃ (p : PortIx), ∃ (s : State), s.powered = true ∧ s.train p = .down ∧ (s.port p).stuck = false ∧ s.get .LNK_CTRL_auto_retrain p
      = 1 ∧ (s.port p).entered + idleHold (s.port p) ≤ s.time.tick) :=
  ⟨by refine ⟨3, lnk .equalize LinkPort.reset, ?_, ?_⟩ <;> decide +kernel,
   by refine ⟨3, (lnk .equalize { LinkPort.reset with peer := some anIdent }).set .LNK_STATUS_gen 3 1, ?_, ?_, ?_⟩
     <;> decide +kernel,
   by refine ⟨3, lnk .equalize LinkPort.reset, ?_, ?_, ?_⟩ <;> decide +kernel,
   by refine ⟨3, lnk .laneCheck LinkPort.reset, ?_, ?_, ?_⟩ <;> decide +kernel,
   by refine ⟨3, 0xF, lnk .laneCheck { LinkPort.reset with peer := some anIdent, peerMask := some 0xFF }, ?_, ?_, anIdent, 0xFF, 1,
     0xF, ?_, ?_, ?_⟩ <;> decide +kernel,
   by refine ⟨3, lnk .fecAlign LinkPort.reset, ?_, ?_⟩ <;> decide +kernel,
   by refine ⟨3, lnk .flitSync { LinkPort.reset with rxGood := 15 }, ?_, ?_, ?_⟩ <;> decide +kernel,
   by refine ⟨3, lnk .flitSync { LinkPort.reset with nxt := 5, una := 5, kept := [aFlit 5], rxGood := 16 }, ?_, ?_, ?_⟩
     <;> decide +kernel,
   by refine ⟨3, (lnk .flitSync LinkPort.reset).atBeat 25000 0, 25000, 7, ?_, ?_, ?_, ?_⟩ <;> decide +kernel,
   by refine ⟨3, (lnk .down { LinkPort.reset with failed := true }).atBeat 250000 0, ?_, ?_, ?_, ?_, ?_⟩ <;> decide +kernel⟩

theorem witness_ControlWordsActOnPort :
    (∃ (p : PortIx), ∃ (s : State), ∃ (c : Ctrl), ∃ rest, s.powered = true ∧ s.train p = .active ∧ takeCtrl 4 (s.port p).rxCtrl =
      some (c, rest) ∧ ∃ d, d = (leAt c.short 0 2 % 4096 + 4096 - (s.port p).una) % 4096 ∧ d > (s.port p).kept.length) ∧
    (∃ (p : PortIx), ∃ (s : State), ∃ (c : Ctrl), ∃ rest, s.powered = true ∧ s.train p = .active ∧ takeCtrl 4 (s.port p).rxCtrl =
      some (c, rest) ∧ ∃ d, d = (leAt c.short 0 2 % 4096 + 4096 - (s.port p).una) % 4096 ∧ d = (s.port p).kept.length) ∧
    (∃ (p : PortIx), ∃ (s : State), ∃ (c : Ctrl), ∃ rest, s.powered = true ∧ s.train p = .active ∧ takeCtrl 4 (s.port p).rxCtrl =
      some (c, rest) ∧ ∃ d, d = (leAt c.short 0 2 % 4096 + 4096 - (s.port p).una) % 4096 ∧ 0 < d ∧ d < (s.port p).kept.length ∧
      (s.port p).pass = none ∧ 0 < s.get .LNK_TIMER_replay_limit p) ∧
    (∃ (p : PortIx), ∃ (s : State), ∃ (c : Ctrl), ∃ rest, s.powered = true ∧ s.train p = .active ∧ takeCtrl 5 (s.port p).rxCtrl =
      some (c, rest)) ∧
    (∃ (p : PortIx), ∃ (s : State), ∃ (c : Ctrl), ∃ rest, s.powered = true ∧ s.train p = .active ∧ takeCtrl 6 (s.port p).rxCtrl =
      some (c, rest)) ∧
    (∃ (p : PortIx), ∃ (s : State), ∃ (c : Ctrl), ∃ rest, s.powered = true ∧ s.train p = .active ∧ takeCtrl 7 (s.port p).rxCtrl =
      some (c, rest)) :=
  ⟨by refine ⟨3, gotCtrl 4 [9] [] { LinkPort.reset with kept := [aFlit 0] , nxt := 1 }, ⟨4, false, padTo 6 [9], padTo 32 []⟩, [],
     ?_, ?_, ?_, _, rfl, ?_⟩ <;> decide +kernel,
   by refine ⟨3, gotCtrl 4 [1] [] { LinkPort.reset with kept := [aFlit 0], nxt := 1 }, ⟨4, false, padTo 6 [1], padTo 32 []⟩, [], ?_,
     ?_, ?_, _, rfl, rfl⟩ <;> decide +kernel,
   by refine ⟨3, gotCtrl 4 [1] [] { LinkPort.reset with kept := [aFlit 0, aFlit 1], nxt := 2 }, ⟨4, false, padTo 6 [1], padTo 32
     []⟩, [], ?_, ?_, ?_, _, rfl, ?_, ?_, ?_, ?_⟩ <;> decide +kernel,
   by refine ⟨3, gotCtrl 5 [0, 0, 1] [] { LinkPort.reset with kept := [aFlit 0], nxt := 1 }, ⟨5, false, padTo 6 [0, 0, 1], padTo 32
     []⟩, [], ?_, ?_, ?_⟩ <;> decide +kernel,
   by refine ⟨3, gotCtrl 6 [] [5] LinkPort.reset, ⟨6, false, padTo 6 [], padTo 32 [5]⟩, [], ?_, ?_, ?_⟩ <;> decide +kernel,
   by refine ⟨3, gotCtrl 7 [] [5] { LinkPort.reset with freed := [(2, 5)] }, ⟨7, false, padTo 6 [], padTo 32 [5]⟩, [], ?_, ?_, ?_⟩
     <;> decide +kernel⟩

theorem witness_LinkTimersAct :
    (∃ (p : PortIx), ∃ (s : State), s.powered = true ∧ s.train p = .active ∧ s.creditDue p = true) ∧
    (∃ (p : PortIx), ∃ (s : State), s.powered = true ∧ s.train p = .active ∧ ∃ (v : Fin 8), s.creditStalled p v = true) ∧
    (∃ (p : PortIx), ∃ (s : State), s.powered = true ∧ s.train p = .active ∧ s.replayDue p = true ∧ (s.port p).passUna ≠ some
      (s.port p).una ∧ 0 < s.get .LNK_TIMER_replay_limit p) ∧
    (∃ (p : PortIx), ∃ (s : State), s.powered = true ∧ s.train p = .active ∧ s.replayDue p = true ∧ (s.port p).passUna = some
      (s.port p).una ∧ s.get .LNK_TIMER_replay_limit p ≤ (s.port p).passes) ∧
    (∃ (p : PortIx), ∃ (s : State), s.powered = true ∧ s.train p = .active ∧ s.gapDue p = true) ∧
    (∃ (p : PortIx), ∃ (s : State), s.powered = true ∧ s.train p = .active ∧ s.lockExpired p = true) ∧
    (∃ (p : PortIx), ∃ (s : State), s.powered = true ∧ s.train p = .active ∧ (s.port p).due s.time.tick ≠ [] ∧ (s.port p).closing =
      none) ∧
    (∃ (p : PortIx), ∃ (s : State), s.powered = true ∧ s.train p = .active ∧ (s.port p).due s.time.tick ≠ [] ∧ ∃ c, (s.port
      p).closing = some c ∧ (∃ r ∈ ((s.port p).due s.time.tick).take 6, r.word.typ = 8)) ∧
    (∃ (p : PortIx), ∃ (s : State), s.powered = true ∧ s.train p = .active) ∧
    (∃ (p : PortIx), ∃ (l : Fin 8), ∃ (s : State), s.powered = true ∧ s.laneUsed p l = true ∧ (s.port p).lockLost.find? l.val =
      none) ∧
    (∃ (p : PortIx), ∃ (l : Fin 8), ∃ (s : State), s.powered = true ∧ s.laneUsed p l = true) ∧
    (∃ (p : PortIx), ∃ (s : State), ∃ (c : Ctrl), ∃ rest, s.powered = true ∧ takeCtrl 8 (s.port p).rxCtrl = some (c, rest) ∧ s.train
      p = .active) ∧
    (∃ (p : PortIx), ∃ (s : State), ∃ (c : Ctrl), ∃ rest, s.powered = true ∧ takeCtrl 8 (s.port p).rxCtrl = some (c, rest) ∧ s.train
      p ≠ .active) :=
  ⟨by refine ⟨3, lnk .active { LinkPort.reset with freed := [(2, 8)] }, ?_, ?_, ?_⟩ <;> decide +kernel,
   by refine ⟨3, (lnk .active { LinkPort.reset with zeroAt := [(2, 0)] }).atBeat 2500000 0, ?_, ?_, 2, ?_⟩ <;> decide +kernel,
   by refine ⟨3, (lnk .active { LinkPort.reset with kept := [aFlit 0], nxt := 1 }).atBeat 1000 0, ?_, ?_, ?_, ?_, ?_⟩
     <;> decide +kernel,
   by refine ⟨3, (lnk .active { LinkPort.reset with kept := [aFlit 0], nxt := 1, passUna := some 0, passes := 255 }).atBeat 1000 0,
     ?_, ?_, ?_, ?_, ?_⟩ <;> decide +kernel,
   by refine ⟨3, (lnk .active { LinkPort.reset with gaps := [⟨3, 1, 0⟩] }).atBeat 1000 0, ?_, ?_, ?_⟩ <;> decide +kernel,
   by refine ⟨3, (lnk .active { LinkPort.reset with kept := [aFlit 0], lockLost := [(0, 0)] }).atBeat 1000 0, ?_, ?_, ?_⟩
     <;> decide +kernel,
   by refine ⟨3, (lnk .active { LinkPort.reset with repeats := [⟨⟨2, false, padTo 6 [], padTo 32 []⟩, 0⟩] }).atBeat 2 0, ?_, ?_, ?_,
     ?_⟩ <;> decide +kernel,
   by refine ⟨3, (lnk .active
     { LinkPort.reset with closing := some .localReset, repeats := [⟨⟨8, false, padTo 6 [], padTo 32 []⟩, 0⟩] }).atBeat 2 0, ?_, ?_,
     ?_, .localReset, ?_, ?_⟩ <;> decide +kernel,
   by refine ⟨3, lnk .active LinkPort.reset, ?_, ?_⟩ <;> decide +kernel,
   by refine ⟨3, 7, (lnk .active LinkPort.reset).set .LNK_STATUS_lanes 3 0xFF, ?_, ?_, ?_⟩ <;> decide +kernel,
   by refine ⟨3, 7, (lnk .active { LinkPort.reset with lockLost := [(7, 4)] }).set .LNK_STATUS_lanes 3 0xFF, ?_, ?_⟩
     <;> decide +kernel,
   by refine ⟨3, gotCtrl 8 [] [] LinkPort.reset, ⟨8, false, padTo 6 [], padTo 32 []⟩, [], ?_, ?_, ?_⟩ <;> decide +kernel,
   by refine ⟨3, (gotCtrl 8 [] [] LinkPort.reset).set .LNK_STATUS_state 3 6, ⟨8, false, padTo 6 [], padTo 32 []⟩, [], ?_, ?_, ?_⟩
     <;> decide +kernel⟩

theorem witness_PortRegisterWrites :
    (∃ (p : PortIx), ∃ (v : Word), ∃ (s : State), s.hubUp = true ∧ bits v.toNat 3 0 = 3 ∧ s.get .LNK_CTRL_enable p = 1 ∧
      s.portRefused p = true) ∧
    (∃ (p : PortIx), ∃ (v : Word), ∃ (s : State), s.hubUp = true ∧ bits v.toNat 3 0 = 3 ∧ s.get .LNK_CTRL_enable p = 1 ∧
      s.portRefused p = false ∧ s.train p = .active ∧ (s.port p).closing = none) ∧
    (∃ (p : PortIx), ∃ (v : Word), ∃ (s : State), s.hubUp = true ∧ bits v.toNat 3 0 = 3 ∧ s.get .LNK_CTRL_enable p = 1 ∧
      s.portRefused p = false ∧ s.train p = .down ∧ (s.port p).failed = true) ∧
    (∃ (p : PortIx), ∃ (v : Word), ∃ (s : State), s.hubUp = true ∧ bits v.toNat 3 0 = 0 ∧ s.get .LNK_CTRL_enable p = 1 ∧
      s.portRefused p = true) ∧
    (∃ (p : PortIx), ∃ (v : Word), ∃ (s : State), s.hubUp = true ∧ bits v.toNat 3 0 = 0 ∧ s.get .LNK_CTRL_enable p = 1 ∧
      s.portRefused p = false ∧ s.train p ≠ .active) ∧
    (∃ (p : PortIx), ∃ (v : Word), ∃ (s : State), s.hubUp = true ∧ bits v.toNat 3 0 = 0 ∧ s.get .LNK_CTRL_enable p = 1 ∧
      s.portRefused p = false ∧ s.train p = .active ∧ (s.port p).closing = none) ∧
    (∃ (p : PortIx), ∃ (v : Word), ∃ (s : State), s.hubUp = true ∧ bits v.toNat 3 0 = 1 ∧ s.get .LNK_CTRL_enable p = 0 ∧ s.train p =
      .disabled) ∧
    (∃ (p : PortIx), ∃ (v : Word), ∃ (s : State), s.hubUp = true ∧ bits v.toNat 3 0 = 9 ∧ s.get .LNK_CTRL_enable p = 1) ∧
    (∃ (p : PortIx), ∃ (s : State), s.hubUp = true ∧ s.get .LNK_CTRL_cfg_lock p = 1) ∧
    (∃ (p : PortIx), ∃ (s : State), s.hubUp = true ∧ s.get .LNK_CTRL_cfg_lock p = 1) ∧
    (∃ (p : PortIx), ∃ (s : State), s.hubUp = true ∧ s.get .LNK_CTRL_cfg_lock p = 0) ∧
    (∃ (p : PortIx), ∃ (s : State), s.hubUp = true ∧ s.get .LNK_CTRL_cfg_lock p = 0) :=
  ⟨by refine ⟨3, 3,
     { ((lnk .active LinkPort.reset).withPlan .running).set .LNK_GIVE_in_plan 3 1 with router := { Router.reset with ports := [⟨3, 1, 2, 1⟩] } },
     ?_, ?_, ?_, ?_⟩ <;> decide +kernel,
   by refine ⟨3, 3, lnk .active LinkPort.reset, ?_, ?_, ?_, ?_, ?_, ?_⟩ <;> decide +kernel,
   by refine ⟨3, 3, lnk .down { LinkPort.reset with failed := true }, ?_, ?_, ?_, ?_, ?_, ?_⟩ <;> decide +kernel,
   by refine ⟨3, 0,
     { ((lnk .active LinkPort.reset).withPlan .running).set .LNK_GIVE_in_plan 3 1 with router := { Router.reset with ports := [⟨3, 1, 2, 1⟩] } },
     ?_, ?_, ?_, ?_⟩ <;> decide +kernel,
   by refine ⟨3, 0, lnk .down LinkPort.reset, ?_, ?_, ?_, ?_, ?_⟩ <;> decide +kernel,
   by refine ⟨3, 0, lnk .active LinkPort.reset, ?_, ?_, ?_, ?_, ?_, ?_⟩ <;> decide +kernel,
   by refine ⟨35, 1, (lnk .disabled LinkPort.reset).set .LNK_CTRL_enable 35 0, ?_, ?_, ?_, ?_⟩ <;> decide +kernel,
   by refine ⟨3, 9, lnk .active LinkPort.reset, ?_, ?_, ?_⟩ <;> decide +kernel,
   by refine ⟨3, (lnk .active LinkPort.reset).set .LNK_CTRL_cfg_lock 3 1, ?_, ?_⟩ <;> decide +kernel,
   by refine ⟨3, (lnk .active LinkPort.reset).set .LNK_CTRL_cfg_lock 3 1, ?_, ?_⟩ <;> decide +kernel,
   by refine ⟨3, lnk .active LinkPort.reset, ?_, ?_⟩ <;> decide +kernel,
   by refine ⟨3, lnk .active LinkPort.reset, ?_, ?_⟩ <;> decide +kernel⟩

theorem witness_CommandsLeaveBytesAndTiles :
    ∃ (c : Instr), ∃ (s t : State), leavesField c = true ∧ exec c s = .next t ∧ t ≠ s :=
  ⟨.attention, up, _, by decide +kernel, rfl, by decide +kernel⟩

theorem witness_RegisterReads :
    (∃ (a : Agent), ∃ (bar4 : Bool), ∃ (off : BitVec 26), ∃ (r : Reg), ∃ (i : Nat), ∃ (s : State), barReg bar4 off.toNat = some (r,
      i) ∧ s.agentUp a = true ∧ ownRead r = false ∧ s.offline r = true) ∧
    (∃ (a : Agent), ∃ (bar4 : Bool), ∃ (off : BitVec 26), ∃ (r : Reg), ∃ (i : Nat), ∃ (s : State), barReg bar4 off.toNat = some (r,
      i) ∧ s.agentUp a = true ∧ ownRead r = false ∧ s.offline r = false ∧ latchedReg r = true) ∧
    (∃ (a : Agent), ∃ (bar4 : Bool), ∃ (off : BitVec 26), ∃ (r : Reg), ∃ (i : Nat), ∃ (s : State), barReg bar4 off.toNat = some (r,
      i) ∧ s.agentUp a = true ∧ ownRead r = false ∧ s.offline r = false ∧ latchedReg r = false) ∧
    (∃ (a : Agent), ∃ (s : State), s.agentUp a = true) ∧
    (∃ (a : Agent), ∃ (s : State), s.agentUp a = true) ∧
    (∃ (a : Agent), ∃ (s : State), s.agentUp a = true) ∧
    (∃ (a : Agent), ∃ (s : State), s.agentUp a = true) ∧
    (∃ (a : Agent), ∃ (s : State), s.agentUp a = true) ∧
    (∃ (a : Agent), ∃ (s : State), s.agentUp a = true ∧ s.fieldUp = true) ∧
    (∃ (a : Agent), ∃ (s : State), s.agentUp a = true) ∧
    (∃ (a : Agent), ∃ (s : State), s.agentUp a = true ∧ s.power ≠ .fieldReset) ∧
    (∃ (a : Agent), ∃ (s : State), s.agentUp a = true) ∧
    (∃ (a : Agent), ∃ (s : State), s.agentUp a = true) ∧
    (∃ (a : Agent), ∃ (s : State), s.agentUp a = true) ∧
    (∃ (a : Agent), ∃ (s : State), s.agentUp a = true) ∧
    (∃ (a : Agent), ∃ (s : State), s.agentUp a = true ∧ s.fieldUp = true) ∧
    (∃ (a : Agent), ∃ (s : State), s.agentUp a = true ∧ s.fieldUp = false) ∧
    (∃ (a : Agent), ∃ (s : State), s.agentUp a = true) :=
  ⟨by refine ⟨.host, false, 2097156, .TIL_STATUS, 0, up.set .FLT_STATUS_pwr_state 0 2, ?_, ?_, ?_, ?_⟩ <;> decide +kernel,
   by refine ⟨.mc0, false, 458764, .BEAT_COUNT_HI, 0, up.set .FLT_STATUS_pwr_state 0 2, ?_, ?_, ?_, ?_, ?_⟩ <;> decide +kernel,
   by refine ⟨.mc0, false, 2097156, .TIL_STATUS, 0, up, ?_, ?_, ?_, ?_, ?_⟩ <;> decide +kernel,
   by refine ⟨.mc0, up, ?_⟩ <;> decide +kernel,
   by refine ⟨.host, up, ?_⟩ <;> decide +kernel,
   by refine ⟨.host, up, ?_⟩ <;> decide +kernel,
   by refine ⟨.host, up, ?_⟩ <;> decide +kernel,
   by refine ⟨.host, up, ?_⟩ <;> decide +kernel,
   by refine ⟨.host, up, ?_, ?_⟩ <;> decide +kernel,
   by refine ⟨.host, up, ?_⟩ <;> decide +kernel,
   by refine ⟨.host, up, ?_, ?_⟩ <;> decide +kernel,
   by refine ⟨.host, up, ?_⟩ <;> decide +kernel,
   by refine ⟨.host, up, ?_⟩ <;> decide +kernel,
   by refine ⟨.host, up, ?_⟩ <;> decide +kernel,
   by refine ⟨.host, up, ?_⟩ <;> decide +kernel,
   by refine ⟨.host, up, ?_, ?_⟩ <;> decide +kernel,
   by refine ⟨.host, up.set .FLT_STATUS_pwr_state 0 2, ?_, ?_⟩ <;> decide +kernel,
   by refine ⟨.host, up, ?_⟩ <;> decide +kernel⟩

theorem witness_RegisterWrites :
    (∃ (a : Agent), ∃ (bar4 : Bool), ∃ (off : BitVec 26), ∃ (r : Reg), ∃ (i : Nat), ∃ (s : State), barReg bar4 off.toNat = some (r,
      i) ∧ s.agentUp a = true ∧ ownWrite r = false ∧ s.offline r = false ∧ bar4 = false ∧ inBlock 0x20000 r = true ∧ isSecure a =
      false) ∧
    (∃ (a : Agent), ∃ (bar4 : Bool), ∃ (off : BitVec 26), ∃ (r : Reg), ∃ (i : Nat), ∃ (s : State), barReg bar4 off.toNat = some (r,
      i) ∧ s.agentUp a = true ∧ ownWrite r = false ∧ s.offline r = false ∧ negotiated r = true ∧ s.get .HST_CTRL_enable 0 = 1) ∧
    (∃ (a : Agent), ∃ (bar4 : Bool), ∃ (off : BitVec 26), ∃ (r : Reg), ∃ (i : Nat), ∃ (s : State), barReg bar4 off.toNat = some (r,
      i) ∧ s.agentUp a = true ∧ ownWrite r = false ∧ s.offline r = false ∧ actingWrite r = false ∧ (negotiated r = false ∨ s.get
      .HST_CTRL_enable 0 ≠ 1) ∧ (inBlock 0x20000 r = false ∨ isSecure a = true) ∧ (inBlock 0x30000 r = false ∨ writesFlt a = true))
      ∧
    (∃ (s : State), s.hostUp = true) ∧
    (∃ (s : State), s.hostUp = true) ∧
    (∃ (v : Word), ∃ (s : State), s.hubUp = true ∧ bit v.toNat 1 = true) :=
  ⟨by refine ⟨.host, false, 131072, .SEC_CTRL, 0, up, ?_, ?_, ?_, ?_, ?_, ?_, ?_⟩ <;> decide +kernel,
   by refine ⟨.host, false, 80, .HST_AQ_CFG, 0, up.set .HST_CTRL_enable 0 1, ?_, ?_, ?_, ?_, ?_, ?_⟩ <;> decide +kernel,
   by refine ⟨.mc0, false, 458776, .BEAT_SKEW_LIMIT, 0, up, ?_, ?_, ?_, ?_, ?_, ?_, ?_, ?_⟩ <;> decide +kernel,
   by refine ⟨up, ?_⟩ <;> decide +kernel,
   by refine ⟨up, ?_⟩ <;> decide +kernel,
   by refine ⟨3, up, ?_, ?_⟩ <;> decide +kernel⟩

theorem witness_PlanLoadChecksAndLoads :
    (∃ (q : QueueIx), ∃ (cid : Cid), ∃ (f : Fetched), ∃ (s : State), s.Ready q cid 0x10 f ∧ s.planAreaWritten = false ∧
      (s.fatalActive = true ∨ s.noPlans = true)) ∧
    (∃ (q : QueueIx), ∃ (cid : Cid), ∃ (f : Fetched), ∃ (s : State), s.Ready q cid 0x10 f ∧ s.planAreaWritten = false ∧
      s.fatalActive = false ∧ s.noPlans = false ∧ planAreaBase ≤ f.par 8 8 ∧ f.par 8 8 ≤ planAreaTop ∧ s.planState ≠ .idle) ∧
    (∃ (q : QueueIx), ∃ (cid : Cid), ∃ (f : Fetched), ∃ (s : State), s.Ready q cid 0x10 f ∧ s.planAreaWritten = false ∧
      s.fatalActive = false ∧ s.noPlans = false ∧ planAreaBase ≤ f.par 8 8 ∧ f.par 8 8 ≤ planAreaTop ∧ s.planState = .idle ∧
      s.tiersServe = true ∧ ∃ c, ∃ d, s.imageRefusal (s.image (f.par 8 8)) = some (c, d)) ∧
    (∃ (q : QueueIx), ∃ (cid : Cid), ∃ (f : Fetched), ∃ (s : State), s.Ready q cid 0x10 f ∧ s.planAreaWritten = false ∧
      s.fatalActive = false ∧ s.noPlans = false ∧ planAreaBase ≤ f.par 8 8 ∧ f.par 8 8 ≤ planAreaTop ∧ s.planState = .idle ∧
      s.tiersServe = true ∧ s.imageRefusal (s.image (f.par 8 8)) = none) :=
  ⟨by refine ⟨1, 5, fetched 0x10 0 [], up.withCmd 0x10 0 [] |>.set .FLT_FATAL_active 0 1, ready_of ?_, ?_, ?_⟩ <;> decide +kernel,
   by refine ⟨1, 5, fetched 0x10 0 (toLE 8 planAreaBase), (up.withPlan .loaded).withCmd 0x10 0 (toLE 8 planAreaBase), ready_of ?_,
     ?_, ?_, ?_, ?_, ?_, ?_⟩ <;> decide +kernel,
   by refine ⟨1, 5, fetched 0x10 0 (toLE 8 planAreaBase), withImage (up.withCmd 0x10 0 (toLE 8 planAreaBase)) (header 0x42 64),
     ready_of ?_, ?_, ?_, ?_, ?_, ?_, ?_, ?_, .gradeMismatch, 0, ?_⟩ <;> decide +kernel,
   by refine ⟨1, 5, fetched 0x10 0 (toLE 8 planAreaBase), withImage (up.withCmd 0x10 0 (toLE 8 planAreaBase)) (header 0x41 64),
     ready_of ?_, ?_, ?_, ?_, ?_, ?_, ?_, ?_, ?_⟩ <;> decide +kernel⟩

theorem witness_PlansArmAndStart :
    (∃ (q : QueueIx), ∃ (cid : Cid), ∃ (f : Fetched), ∃ (s : State), s.Ready q cid 0x11 f ∧ (s.fatalActive = true ∨ s.planState ≠
      .loaded ∨ s.tiersServe = false)) ∧
    (∃ (q : QueueIx), ∃ (cid : Cid), ∃ (f : Fetched), ∃ (s : State), s.Ready q cid 0x11 f ∧ s.fatalActive = false ∧ s.planState =
      .loaded ∧ s.tiersServe = true ∧ (f.par 8 8 % 16 ≠ 0 ∨ f.par 8 8 < s.time.beat + 1024)) ∧
    (∃ (q : QueueIx), ∃ (cid : Cid), ∃ (f : Fetched), ∃ (s : State), s.Ready q cid 0x11 f ∧ s.fatalActive = false ∧ s.planState =
      .loaded ∧ s.tiersServe = true ∧ f.par 8 8 % 16 = 0 ∧ s.time.beat + 1024 ≤ f.par 8 8 ∧ s.timeState ≠ .locked) ∧
    (∃ (q : QueueIx), ∃ (cid : Cid), ∃ (f : Fetched), ∃ (s : State), s.Ready q cid 0x11 f ∧ s.fatalActive = false ∧ s.planState =
      .loaded ∧ s.tiersServe = true ∧ f.par 8 8 % 16 = 0 ∧ s.time.beat + 1024 ≤ f.par 8 8 ∧ ∃ x, s.timeState = .locked ∧ x ∈
      s.router.ports ∧ s.fenced x.port = true) ∧
    (∃ (q : QueueIx), ∃ (cid : Cid), ∃ (f : Fetched), ∃ (s : State), s.Ready q cid 0x11 f ∧ s.fatalActive = false ∧ s.planState =
      .loaded ∧ s.tiersServe = true ∧ f.par 8 8 % 16 = 0 ∧ s.time.beat + 1024 ≤ f.par 8 8 ∧ s.timeState = .locked ∧ (∀ x ∈
      s.router.ports, s.portNotReady x = false)) ∧
    (∃ (s : State), s.powered = true ∧ s.time.beat = s.startBeat ∧ s.planState = .armed) ∧
    (∃ (s : State), s.powered = true ∧ s.time.beat = s.startBeat ∧ s.planState = .faulted ∧ s.get .FLT_FATAL_PLAN_plan_state 0 = 2)
      ∧
    (∃ (s : State), s.powered = true ∧ s.hubStarts = false ∧ s.rimArmed = true) :=
  ⟨by refine ⟨1, 5, fetched 0x11 0 [], up.withCmd 0x11 0 [], ready_of ?_, ?_⟩ <;> decide +kernel,
   by refine ⟨1, 5, fetched 0x11 0 (toLE 8 2001), (up.withPlan .loaded).withCmd 0x11 0 (toLE 8 2001), ready_of ?_, ?_, ?_, ?_, ?_⟩
     <;> decide +kernel,
   by refine ⟨1, 5, fetched 0x11 0 (toLE 8 1024), (up.withPlan .loaded).withCmd 0x11 0 (toLE 8 1024), ready_of ?_, ?_, ?_, ?_, ?_,
     ?_, ?_⟩ <;> decide +kernel,
   by refine ⟨1, 5, fetched 0x11 0 (toLE 8 1024),
     (let s := (((up.withPlan .loaded).withCmd 0x11 0 (toLE 8 1024)).set .BEAT_STATUS_state 0 2).set .RTE_FENCE_LO_fence_lo 0 8; { s with router := { s.router with ports := [⟨3, 1, 2, 3⟩] } }),
     ready_of ?_, ?_, ?_, ?_, ?_, ?_, ⟨3, 1, 2, 3⟩, ?_, ?_, ?_⟩ <;> decide +kernel,
   by refine ⟨1, 5, fetched 0x11 0 (toLE 8 1024), ((up.withPlan .loaded).withCmd 0x11 0 (toLE 8 1024)).set .BEAT_STATUS_state 0 2,
     ready_of ?_, ?_, ?_, ?_, ?_, ?_, ?_, ?_⟩ <;> decide +kernel,
   by refine
     ⟨{ (((up.withPlan .armed).atBeat 1024 1024).set .PLN_START_LO_start_beat 0 1024) with plan := { PlanEngine.reset with plan := some aPlan } },
     ?_, ?_, ?_⟩ <;> decide +kernel,
   by refine ⟨(((up.withPlan .faulted).atBeat 1024 1024).set .PLN_START_LO_start_beat 0 1024).set .FLT_FATAL_PLAN_plan_state 0 2,
     ?_, ?_, ?_, ?_⟩ <;> decide +kernel,
   by refine
     ⟨(let s := ((up.atBeat 1024 1024).set .RTE_PLAN_forwarding_only 0 1).set .RTE_PLAN_rstate 0 2; { s with router := { s.router with start := some 1024 } }),
     ?_, ?_, ?_⟩ <;> decide +kernel⟩

theorem witness_PlanCommands :
    (∃ (q : QueueIx), ∃ (cid : Cid), ∃ (f : Fetched), ∃ (s : State), s.Ready q cid 0x12 f ∧ s.fatalActive = false ∧ (s.planState =
      .running ∨ s.planState = .resting) ∧ 0 < s.get .PLN_CFG_toll_reach 0 ∧ s.plan.beat / 16 + ceilDiv (s.get .PLN_CFG_toll_reach
      0) 16 + 1 ≤ f.par 8 8) ∧
    (∃ (q : QueueIx), ∃ (cid : Cid), ∃ (f : Fetched), ∃ (s : State), s.Ready q cid 0x12 f ∧ s.fatalActive = false ∧ ((s.planState ≠
      .running ∧ s.planState ≠ .resting) ∨ f.par 8 8 < s.plan.beat / 16 + ceilDiv (s.get .PLN_CFG_toll_reach 0) 16 + 1)) ∧
    (∃ (q : QueueIx), ∃ (cid : Cid), ∃ (f : Fetched), ∃ (s : State), s.Ready q cid 0x13 f ∧ (s.planState = .loaded ∨ s.planState =
      .stopped)) ∧
    (∃ (q : QueueIx), ∃ (cid : Cid), ∃ (f : Fetched), ∃ (s : State), s.Ready q cid 0x13 f ∧ s.planState = .idle ∧ s.get
      .RTE_PLAN_rstate 0 ≠ 0) ∧
    (∃ (q : QueueIx), ∃ (cid : Cid), ∃ (f : Fetched), ∃ (s : State), s.Ready q cid 0x13 f ∧ s.planState = .idle ∧ s.get
      .RTE_PLAN_rstate 0 = 0) ∧
    (∃ (q : QueueIx), ∃ (cid : Cid), ∃ (f : Fetched), ∃ (s : State), s.Ready q cid 0x13 f ∧ s.planState ≠ .loaded ∧ s.planState ≠
      .stopped ∧ s.planState ≠ .idle) ∧
    (∃ (q : QueueIx), ∃ (cid : Cid), ∃ (f : Fetched), ∃ (s : State), s.Ready q cid 0x14 f) :=
  ⟨by refine ⟨1, 5, fetched 0x12 0 (toLE 8 60), (running 100).withCmd 0x12 0 (toLE 8 60), ready_of ?_, ?_, ?_, ?_, ?_⟩
     <;> decide +kernel,
   by refine ⟨1, 5, fetched 0x12 0 (toLE 8 6), (running 100).withCmd 0x12 0 (toLE 8 6), ready_of ?_, ?_, ?_⟩ <;> decide +kernel,
   by refine ⟨1, 5, fetched 0x13 0 [], ((running 100).withPlan .stopped).withCmd 0x13 0 [], ready_of ?_, ?_⟩ <;> decide +kernel,
   by refine ⟨1, 5, fetched 0x13 0 [], ((running 100).withPlan .idle).withCmd 0x13 0 [], ready_of ?_, ?_, ?_⟩ <;> decide +kernel,
   by refine ⟨1, 5, fetched 0x13 0 [], up.withCmd 0x13 0 [], ready_of ?_, ?_, ?_⟩ <;> decide +kernel,
   by refine ⟨1, 5, fetched 0x13 0 [], (running 100).withCmd 0x13 0 [], ready_of ?_, ?_, ?_, ?_⟩ <;> decide +kernel,
   by refine ⟨1, 5, fetched 0x14 0 [], (running 100).withCmd 0x14 0 [], ready_of ?_⟩ <;> decide +kernel⟩

theorem witness_ChecksToll :
    (∃ (s : State), ∃ (m : Nat), s.planState = .running ∧ s.beatExecutes = true ∧ s.plan.beat = 16 * (m + 1) ∧ s.plan.lastRegion ≠
      some m ∧ s.lateRegions m = []) ∧
    (∃ (s : State), ∃ (m : Nat), s.planState = .running ∧ s.beatExecutes = true ∧ s.plan.beat = 16 * (m + 1) ∧ s.plan.lastRegion ≠
      some m ∧ ∃ r, s.lateRegions m = [r] ∧ s.plan.lateRegions = [] ∧ s.plan.originated = [] ∧ s.fatalActive = false) ∧
    (∃ (x : Plan), ∃ (e : DueEntry), ∃ (s : State), s.plan.plan = some x ∧ s.beatExecutes = true ∧ s.plan.lastDue ≠ some s.plan.beat
      ∧ x.dueAt s.plan.beat = [e] ∧ s.tier2Items (fun a => a.due == s.plan.beat) = [] ∧ s.fatalActive = false ∧ s.plan.originated =
      []) ∧
    (∃ (x : Plan), ∃ (e : DueEntry), ∃ (s : State), s.plan.plan = some x ∧ s.beatExecutes = true ∧ s.plan.lastSecond ≠ some
      s.plan.beat ∧ x.secondAt s.plan.beat = [e] ∧ s.tier2Items (fun a => a.due + s.get .PLN_CFG_toll_reach 0 == s.plan.beat) = [])
      :=
  ⟨by refine ⟨running 32, 1, ?_, ?_, ?_, ?_, ?_⟩ <;> decide +kernel,
   by refine ⟨{ running 32 with tiles := [(1152, { Tile.reset with prog := some ⟨0, 0, 0, 9, 2⟩, running := true })] }, 1, ?_, ?_,
     ?_, ?_, 72, ?_, ?_, ?_, ?_⟩ <;> decide +kernel,
   by refine ⟨aPlan, aDue, running 5, ?_, ?_, ?_, ?_, ?_, ?_, ?_⟩ <;> decide +kernel,
   by refine ⟨aPlan, aDue, running 9, ?_, ?_, ?_, ?_, ?_⟩ <;> decide +kernel⟩

theorem witness_TollsSpread :
    (∃ (r : RimIx), ∃ (x : TollIn), ∃ rest, ∃ (s : State), s.powered = true ∧ takeToll r s.router.tollIn = some (x, rest) ∧ (s.get
      .RTE_EPOCH_epoch 0 = 0 ∨ x.toll.epoch ≠ s.get .RTE_EPOCH_epoch 0)) ∧
    (∃ (r : RimIx), ∃ (x : TollIn), ∃ rest, ∃ (s : State), s.powered = true ∧ takeToll r s.router.tollIn = some (x, rest) ∧ s.get
      .RTE_EPOCH_epoch 0 ≠ 0 ∧ x.toll.epoch = s.get .RTE_EPOCH_epoch 0 ∧ x.toll.seenIn (s.seenOf r) = true) ∧
    (∃ (r : RimIx), ∃ (x : TollIn), ∃ rest, ∃ (s : State), s.powered = true ∧ takeToll r s.router.tollIn = some (x, rest) ∧ s.get
      .RTE_EPOCH_epoch 0 ≠ 0 ∧ x.toll.epoch = s.get .RTE_EPOCH_epoch 0 ∧ x.toll.seenIn (s.seenOf r) = false ∧ (s.seenOf r).length <
      512) ∧
    (∃ (r : RimIx), ∃ (s : State), s.powered = true ∧ (∃ e ∈ s.seenOf r, e.retire ≤ s.time.beat)) :=
  ⟨by refine ⟨2, ⟨2, false, aToll 1 3⟩, [], tollAt 2 false (aToll 1 3) up, ?_, ?_, ?_⟩ <;> decide +kernel,
   by refine ⟨2, ⟨2, false, aToll 1 3⟩, [],
     (let s := tollAt 2 false (aToll 1 3) (running 100); { s with router := { s.router with seen := [(2, [⟨3, 7, 9, 1400⟩])] } }),
     ?_, ?_, ?_, ?_, ?_⟩ <;> decide +kernel,
   by refine ⟨0, ⟨0, false, aToll 1 3⟩, [],
     (let s := tollAt 0 false (aToll 1 3) ((running 100).set .LNK_STATUS_state 3 7); { s with ports := [(3, LinkPort.reset)] }), ?_,
     ?_, ?_, ?_, ?_, ?_⟩ <;> decide +kernel,
   by refine ⟨2, { (running 1500) with router := { Router.reset with seen := [(2, [⟨3, 7, 9, 1400⟩, ⟨3, 8, 9, 14000⟩])] } }, ?_, ?_⟩
     <;> decide +kernel⟩

theorem witness_StopDrains :
    (∃ (k : Nat), ∃ (s : State), s.powered = true ∧ s.planState = .stopping ∧ s.plan.stopTick = some k ∧ s.drained = true ∧ k + 16 ≤
      s.time.tick) ∧
    (∃ (k : Nat), ∃ (s : State), s.powered = true ∧ s.planState = .stopping ∧ s.plan.stopTick = some k ∧ (s.drained = false ∨
      s.time.tick < k + 16)) ∧
    (∃ (k : Nat), ∃ (s : State), s.powered = true ∧ s.planState = .stopping ∧ s.plan.stopTick = some k ∧ s.drained = false ∧ k + 16
      * 1024 ≤ s.time.tick) ∧
    (∃ (k : Nat), ∃ (s : State), s.powered = true ∧ s.planState = .stopping ∧ s.plan.stopTick = some k ∧ (s.drained = true ∨
      s.time.tick < k + 16 * 1024)) :=
  ⟨by refine ⟨5, (let s := (running 100).withPlan .stopping; { s with plan := { s.plan with stopTick := some 5 }, tiles := [] }),
     ?_, ?_, ?_, ?_, ?_⟩ <;> decide +kernel,
   by refine ⟨195, (let s := (running 100).withPlan .stopping; { s with plan := { s.plan with stopTick := some 195 } }), ?_, ?_, ?_,
     ?_⟩ <;> decide +kernel,
   by refine ⟨195, (let s := (running 50000).withPlan .stopping; { s with plan := { s.plan with stopTick := some 195 } }), ?_, ?_,
     ?_, ?_, ?_⟩ <;> decide +kernel,
   by refine ⟨195, (let s := (running 500).withPlan .stopping; { s with plan := { s.plan with stopTick := some 195 } }), ?_, ?_, ?_,
     ?_⟩ <;> decide +kernel⟩

theorem witness_TollsInsertRests :
    (∃ (x : Toll), ∃ rest, ∃ (s : State), s.powered = true ∧ s.router.hubTolls = x :: rest ∧ s.hubActs = true ∧ s.rimActs = false ∧
      x.epoch = s.get .PLN_EPOCH_epoch 0 ∧ x.malformed = true) ∧
    (∃ (x : Toll), ∃ rest, ∃ (s : State), s.powered = true ∧ s.router.hubTolls = x :: rest ∧ s.hubActs = true ∧ s.rimActs = false ∧
      x.epoch = s.get .PLN_EPOCH_epoch 0 ∧ x.malformed = false ∧ x.cause ≠ 4 ∧ s.time.beat + 1 ≥ 16 * ((x.beatB + s.get
      .PLN_CFG_toll_reach 0) / 16)) ∧
    (∃ (x : Toll), ∃ rest, ∃ (s : State), s.powered = true ∧ s.router.hubTolls = x :: rest ∧ s.hubActs = true ∧ s.rimActs = false ∧
      x.epoch = s.get .PLN_EPOCH_epoch 0 ∧ x.malformed = false ∧ x.cause ≠ 4 ∧ ∃ i, i = 16 * ((x.beatB + s.get .PLN_CFG_toll_reach
      0) / 16) ∧ s.time.beat + 1 < i ∧ restFull i s.plan.rests = false) ∧
    (∃ (x : Toll), ∃ rest, ∃ (s : State), s.powered = true ∧ s.router.hubTolls = x :: rest ∧ s.hubActs = true ∧ s.rimActs = false ∧
      x.epoch = s.get .PLN_EPOCH_epoch 0 ∧ x.malformed = false ∧ x.cause = 4 ∧ s.time.beat + 1 < executionBeat s.plan.rests
      s.time.beat s.plan.beat (16 * x.stopMeasure)) ∧
    (∃ (p : PortIx), ∃ (s : State), ∃ (c : Ctrl), ∃ rest, s.powered = true ∧ takeCtrl 3 (s.port p).rxCtrl = some (c, rest)) :=
  ⟨by refine ⟨aToll 5 3, [], hubGets (aToll 5 3) (running 100), ?_, ?_, ?_, ?_, ?_, ?_⟩ <;> decide +kernel,
   by refine ⟨aToll 1 3, [], hubGets (aToll 1 3) (running 1500), ?_, ?_, ?_, ?_, ?_, ?_, ?_, ?_⟩ <;> decide +kernel,
   by refine ⟨aToll 1 3, [], hubGets (aToll 1 3) (running 100), ?_, ?_, ?_, ?_, ?_, ?_, ?_, _, rfl, ?_, ?_⟩ <;> decide +kernel,
   by refine ⟨aToll 4 0, [], hubGets (aToll 4 0) (running 100), ?_, ?_, ?_, ?_, ?_, ?_, ?_, ?_⟩ <;> decide +kernel,
   by refine ⟨3, { up with ports := [(3, { LinkPort.reset with rxCtrl := [⟨3, false, padTo 6 [], padTo 32 []⟩] })] }, ⟨3, false,
     padTo 6 [], padTo 32 []⟩, [], ?_, ?_⟩ <;> decide +kernel⟩

theorem witness_IssueDecodesAndWaits :
    (∃ (op : Nat), ∃ (t : TileIx), ∃ (e : Nat), ∃ (s : State), ∃ (v : State), op ∈ opcodes ∧ s.tileEvent t e = true ∧ v = s.entered
      t e ∧ (s.tile t).quiet = true) ∧
    (∃ (op : Nat), ∃ (t : TileIx), ∃ (e : Nat), ∃ (w : Nat), ∃ (pc : Nat), ∃ (s : State), ∃ (v : State), op ∈ opcodes ∧ s.tileEvent
      t e = true ∧ v = s.entered t e ∧ v.canIssue t e = true ∧ pc = (v.tile t).pc ∧ w = v.spadWord t pc ∧ opcodeOf w ∈ opcodes ∧
      opcodeOf w ≠ op) ∧
    (∃ (op : Nat), ∃ (t : TileIx), ∃ (e : Nat), ∃ (w : Nat), ∃ (pc : Nat), ∃ (s : State), ∃ (v : State), op ∈ opcodes ∧ s.tileEvent
      t e = true ∧ v = s.entered t e ∧ v.canIssue t e = true ∧ pc = (v.tile t).pc ∧ w = v.spadWord t pc ∧ opcodeOf w ∉ opcodes ∧
      (v.tile t).quiet = true) ∧
    (∃ (op : Nat), ∃ (t : TileIx), ∃ (e : Nat), ∃ (w : Nat), ∃ (pc : Nat), ∃ (s : State), ∃ (v : State), op ∈ opcodes ∧ s.tileEvent
      t e = true ∧ v = s.entered t e ∧ v.canIssue t e = true ∧ pc = (v.tile t).pc ∧ w = v.spadWord t pc ∧ opcodeOf w = op ∧ extOf w
      ≠ extNeeded w ∧ (v.tile t).quiet = true) ∧
    (∃ (op : Nat), ∃ (t : TileIx), ∃ (e : Nat), ∃ (w : Nat), ∃ (pc : Nat), ∃ (s : State), ∃ (v : State), op ∈ opcodes ∧ s.tileEvent
      t e = true ∧ v = s.entered t e ∧ v.canIssue t e = true ∧ pc = (v.tile t).pc ∧ w = v.spadWord t pc ∧ opcodeOf w = op ∧ op ≠ 1 ∧
      decodeConds (v.tile t) pc w = [] ∧ waitOf w ≠ 0 ∧ bit (v.tile t).board (waitOf w) = false ∧ (v.tile t).willPost (waitOf w)
      (v.tile t).vrunLocal = true) ∧
    (∃ (op : Nat), ∃ (t : TileIx), ∃ (e : Nat), ∃ (w : Nat), ∃ (pc : Nat), ∃ (s : State), ∃ (v : State), op ∈ opcodes ∧ s.tileEvent
      t e = true ∧ v = s.entered t e ∧ v.canIssue t e = true ∧ pc = (v.tile t).pc ∧ w = v.spadWord t pc ∧ opcodeOf w = op ∧ op ≠ 1 ∧
      decodeConds (v.tile t) pc w = [] ∧ waitOf w ≠ 0 ∧ bit (v.tile t).board (waitOf w) = false ∧ (v.tile t).willPost (waitOf w)
      (v.tile t).vrunLocal = false ∧ (v.tile t).quiet = true) :=
  ⟨by refine ⟨1, 0, 3, withCode coder [word 0 0 0 0 []], _, ?_, ?_, rfl, ?_⟩ <;> decide +kernel,
   by refine ⟨1, 0, 3, word 0 0 0 0 [], 0, withCode coder [word 0 0 0 0 []], _, ?_, ?_, rfl, ?_, ?_, ?_, ?_, ?_⟩ <;> decide +kernel,
   by refine ⟨0, 0, 3, 0x77, 0, withCode coder [0x77], _, ?_, ?_, rfl, ?_, ?_, ?_, ?_, ?_⟩ <;> decide +kernel,
   by refine ⟨0, 0, 3, word 0 1 0 0 [], 0, withCode coder [word 0 1 0 0 []], _, ?_, ?_, rfl, ?_, ?_, ?_, ?_, ?_, ?_⟩
     <;> decide +kernel,
   by refine ⟨0, 0, 3, word 0 0 2 0 [], 0, withCode { coder with accesses := [anAccess 1 true] } [word 0 0 2 0 []], _, ?_, ?_, rfl,
     ?_, ?_, ?_, ?_, ?_, ?_, ?_, ?_, ?_⟩ <;> decide +kernel,
   by refine ⟨0, 0, 3, word 0 0 2 0 [], 0, withCode coder [word 0 0 2 0 []], _, ?_, ?_, rfl, ?_, ?_, ?_, ?_, ?_, ?_, ?_, ?_, ?_, ?_⟩
     <;> decide +kernel⟩

theorem witness_FailedChecksHaltTheTile :
    (∃ (i : Issue), bits i.w 42 29 = 0) ∧
    (∃ (i : Issue), bits i.w 42 29 = 0) ∧
    (∃ (i : Issue), bits i.w 51 38 = 0) ∧
    (∃ (i : Issue), bit i.w 54 = true ∧ (qctlOf (i.ext 0)).bound = 0) ∧
    (∃ (i : Issue), vrunEmpty i = false ∧ i.x.voiceLoad = none ∧ bits i.w 61 48 = 0 ∧ (∃ m ∈ vrunMicros i, m.inQueue ≠ none ∨
      m.outQueue ≠ none)) ∧
    (∃ (i : Issue), vrunEmpty i = false ∧ i.x.voiceLoad = none ∧ bits i.w 61 48 = 0 ∧ (∀ m ∈ vrunMicros i, m.inQueue = none ∧
      m.outQueue = none) ∧ ∃ c, c ∈ checksOf 0x28 i) ∧
    (∃ (op : Nat), ∃ (t : TileIx), ∃ (e : Nat), ∃ (w : Nat), ∃ (y : Tile), ∃ (c : Cond), ∃ (s : State), ∃ (v : State), op ∈ opcodes
      ∧ s.Issues t e op w y ∧ v = s.entered t e ∧ lowest (checksOf op (s.issue t e w y)) = some c) ∧
    (∃ (op : Nat), ∃ (t : TileIx), ∃ (e : Nat), ∃ (w : Nat), ∃ (y : Tile), ∃ (c : Cond), ∃ (s : State), ∃ (v : State), op ∈ opcodes
      ∧ s.Issues t e op w y ∧ v = s.entered t e ∧ lowest (checksOf op (s.issue t e w y)) = some c ∧ (v.tile t).quiet = true ∧ bit
      y.board (postOf w) = false) :=
  ⟨by refine ⟨(withCode coder [word 0x10 1 0 0 [], 0]).issue 0 3 (word 0x10 1 0 0 []) coder, ?_⟩ <;> decide +kernel,
   by refine ⟨(withCode coder [word 0x11 1 0 0 [], 0]).issue 0 3 (word 0x11 1 0 0 []) coder, ?_⟩ <;> decide +kernel,
   by refine ⟨(withCode coder [word 0x19 0 0 0 []]).issue 0 3 (word 0x19 0 0 0 []) coder, ?_⟩ <;> decide +kernel,
   by refine ⟨(withCode coder [word 0x20 1 0 0 [(54, 1)], 0]).issue 0 3 (word 0x20 1 0 0 [(54, 1)]) coder, ?_, ?_⟩
     <;> decide +kernel,
   by refine ⟨(withCode vecTile [word 0x28 0 0 0 [(29,1),(36,1)]]).issue 0 3 (word 0x28 0 0 0 [(29,1),(36,1)])
     { vecTile with voice := some (voiceImg 0 [word 0x80 1 0 0 [(28, 0x13)]]) }, ?_, ?_, ?_, ?_⟩ <;> decide +kernel,
   by refine ⟨(withCode vecTile [word 0x28 0 0 0 [(29,1),(36,1)]]).issue 0 3 (word 0x28 0 0 0 [(29,1),(36,1),(18,1)]) vecTile, ?_,
     ?_, ?_, ?_, cond .expectContext 0 1, ?_⟩ <;> decide +kernel,
   by refine ⟨1, 0, 3, word 1 0 0 0 [(22, 9)], coder, cond .programHalt 0 9, withCode coder [word 1 0 0 0 [(22, 9)]], _, ?_,
     issues_of ?_, rfl, ?_⟩ <;> decide +kernel,
   by refine ⟨1, 0, 3, word 1 0 0 0 [(22, 9)], coder, cond .programHalt 0 9, withCode coder [word 1 0 0 0 [(22, 9)]], _, ?_,
     issues_of ?_, rfl, ?_, ?_, ?_⟩ <;> decide +kernel⟩

theorem witness_SequencerInstructions :
    (∃ (t : TileIx), ∃ (e : Nat), ∃ (w : Nat), ∃ (y : Tile), ∃ (s : State), ∃ (v : State), v = s.entered t e ∧ ∃ (goes : Bool), goes
      = (y.quiet && !(y.goOn (y.pc + 1) (e + 1) (e + 1)).finished) ∧ s.Issues t e 0x00 w y ∧ y.canPost w) ∧
    (∃ (t : TileIx), ∃ (e : Nat), ∃ (w : Nat), ∃ (y : Tile), ∃ (s : State), ∃ (v : State), v = s.entered t e ∧ ∃ (goes : Bool), goes
      = (y.quiet && !(y.goOn (y.pc + 1) (e + 1) (e + 1)).finished) ∧ s.Issues t e 0x03 w y ∧ y.canPost w) ∧
    (∃ (t : TileIx), ∃ (e : Nat), ∃ (w : Nat), ∃ (y : Tile), ∃ (s : State), ∃ (v : State), v = s.entered t e ∧ ∃ (goes : Bool), goes
      = (y.quiet && !(y.goOn (y.pc + 1) (e + 1) (e + 1)).finished) ∧ s.Issues t e 0x04 w y ∧ y.canPost w) ∧
    (∃ (t : TileIx), ∃ (e : Nat), ∃ (w : Nat), ∃ (y : Tile), ∃ (s : State), ∃ (v : State), v = s.entered t e ∧ ∃ (goes : Bool), goes
      = (y.quiet && !(y.goOn (y.pc + 1) (e + 1) (e + 1)).finished) ∧ s.Issues t e 0x05 w y ∧ y.canPost w) ∧
    (∃ (t : TileIx), ∃ (e : Nat), ∃ (w : Nat), ∃ (y : Tile), ∃ (s : State), ∃ (v : State), v = s.entered t e ∧ ∃ (goes : Bool), goes
      = (y.quiet && !(y.goOn (y.pc + 1) (e + 1) (e + 1)).finished) ∧ s.Issues t e 0x06 w y ∧ y.canPost w ∧ v.secureHit t [bits w 40
      26] = none ∧ v.spadErr.find? (2 ^ 15 * t + bits w 40 26) = none) ∧
    (∃ (t : TileIx), ∃ (e : Nat), ∃ (w : Nat), ∃ (y : Tile), ∃ (s : State), ∃ (v : State), v = s.entered t e ∧ ∃ (goes : Bool), goes
      = (y.quiet && !(y.goOn (y.pc + 1) (e + 1) (e + 1)).finished) ∧ s.Issues t e 0x1A w y ∧ y.canPost w) ∧
    (∃ (t : TileIx), ∃ (e : Nat), ∃ (w : Nat), ∃ (y : Tile), ∃ (s : State), ∃ (v : State), v = s.entered t e ∧ ∃ (goes : Bool), goes
      = (y.quiet && !(y.goOn (y.pc + 1) (e + 1) (e + 1)).finished) ∧ s.Issues t e 0x02 w y ∧ voiceConds (s.issue t e w y) = []) :=
  ⟨by refine ⟨0, 3, word 0 0 0 3 [(22, 7)], coder, withCode coder [word 0 0 0 3 [(22, 7)]], _, rfl, _, rfl, issues_of ?_, canPost_of
     ?_⟩ <;> decide +kernel,
   by refine ⟨0, 3, word 3 0 0 3 [(22, 7)], coder, withCode coder [word 3 0 0 3 [(22, 7)]], _, rfl, _, rfl, issues_of ?_, canPost_of
     ?_⟩ <;> decide +kernel,
   by refine ⟨0, 3, word 4 0 0 3 [(22, 7)], coder, withCode coder [word 4 0 0 3 [(22, 7)]], _, rfl, _, rfl, issues_of ?_, canPost_of
     ?_⟩ <;> decide +kernel,
   by refine ⟨0, 3, word 5 0 0 3 [(22, 7)], coder, withCode coder [word 5 0 0 3 [(22, 7)]], _, rfl, _, rfl, issues_of ?_, canPost_of
     ?_⟩ <;> decide +kernel,
   by refine ⟨0, 3, word 6 0 0 3 [(22, 7)], coder, withCode coder [word 6 0 0 3 [(22, 7)]], _, rfl, _, rfl, issues_of ?_, canPost_of
     ?_, ?_, ?_⟩ <;> decide +kernel,
   by refine ⟨0, 3, word 0x1A 0 0 3 [(22, 7)], { coder with flags := 128 }, withCode { coder with flags := 128 } [word 0x1A 0 0 3
     [(22, 7)]], _, rfl, _, rfl, issues_of ?_, canPost_of ?_⟩ <;> decide +kernel,
   by refine ⟨0, 3, word 2 0 0 3 [(22, 256)], vecTile, withCode vecTile [word 2 0 0 3 [(22, 256)]], _, rfl, _, rfl, issues_of ?_,
     ?_⟩ <;> decide +kernel⟩

theorem witness_ProgramOrder :
    (∃ (x : Tile), ∃ (p : Prog), ∃ (pc : Nat), x.prog = some p ∧ x.loops = [] ∧ x.inBody = true ∧ pc ≠ p.body + p.bodyWords) ∧
    (∃ (x : Tile), ∃ (p : Prog), ∃ (pc : Nat), x.prog = some p ∧ x.loops = [] ∧ x.inBody = true ∧ pc ≠ p.body + p.bodyWords) ∧
    (∃ (x : Tile), ∃ (p : Prog), ∃ (pc : Nat), x.prog = some p ∧ x.loops = [] ∧ x.inBody = true ∧ pc ≠ p.body + p.bodyWords) ∧
    (∃ (x : Tile), ∃ (p : Prog), ∃ (pc : Nat), x.prog = some p ∧ x.loops = [] ∧ x.inBody = true ∧ pc ≠ p.body + p.bodyWords) ∧
    (∃ (x : Tile), ∃ (p : Prog), ∃ (pc : Nat), x.prog = some p ∧ x.loops = [] ∧ x.inBody = false ∧ pc = p.prologue +
      p.prologueWords) ∧
    (∃ (x : Tile), ∃ (p : Prog), ∃ (pc : Nat), x.prog = some p ∧ x.loops = [] ∧ x.inBody = false ∧ pc = p.prologue +
      p.prologueWords) ∧
    (∃ (x : Tile), ∃ (p : Prog), ∃ (pc : Nat), x.prog = some p ∧ x.loops = [] ∧ x.inBody = true ∧ pc = p.body + p.bodyWords) ∧
    (∃ (x : Tile), ∃ (p : Prog), ∃ (pc : Nat), x.prog = some p ∧ x.loops = [] ∧ x.inBody = true ∧ pc = p.body + p.bodyWords ∧
      (p.repeats = 0 ∨ x.passes + 1 < p.repeats)) ∧
    (∃ (x : Tile), ∃ (p : Prog), ∃ (pc : Nat), x.prog = some p ∧ x.loops = [] ∧ x.inBody = true ∧ pc = p.body + p.bodyWords ∧
      (p.repeats = 0 ∨ x.passes + 1 < p.repeats)) ∧
    (∃ (x : Tile), ∃ (p : Prog), ∃ (pc : Nat), x.prog = some p ∧ x.loops = [] ∧ x.inBody = true ∧ pc = p.body + p.bodyWords ∧
      p.repeats ≠ 0 ∧ p.repeats ≤ x.passes + 1) ∧
    (∃ (x : Tile), ∃ (p : Prog), ∃ (pc : Nat), x.prog = some p ∧ ∃ l, ∃ ls, x.loops = l :: ls ∧ pc = l.be ∧ 1 < l.left) ∧
    (∃ (x : Tile), ∃ (p : Prog), ∃ (pc : Nat), x.prog = some p ∧ ∃ l, ∃ ls, x.loops = l :: ls ∧ pc = l.be ∧ 1 < l.left) ∧
    (∃ (x : Tile), ∃ (p : Prog), ∃ (pc : Nat), x.prog = some p ∧ ∃ l, ∃ ls, x.loops = l :: ls ∧ pc = l.be ∧ 1 < l.left) ∧
    (∃ (x : Tile), ∃ (p : Prog), ∃ (pc : Nat), x.prog = some p ∧ ∃ l, x.loops = [l] ∧ pc = l.be ∧ l.left ≤ 1) ∧
    (∃ (x : Tile), ∃ (p : Prog), ∃ (pc : Nat), x.prog = some p ∧ ∃ l, x.loops = [l] ∧ pc = l.be ∧ l.left ≤ 1) ∧
    (∃ (t : TileIx), ∃ (e : Nat), ∃ (w : Nat), ∃ (y : Tile), ∃ (s : State), ∃ (v : State), v = s.entered t e ∧ s.Issues t e 0x08 w y
      ∧ y.canPost w ∧ rollConds (s.issue t e w y) = [] ∧ ∃ i, i = s.issue t e w y ∧ 0 < rollCount i) ∧
    (∃ (t : TileIx), ∃ (e : Nat), ∃ (w : Nat), ∃ (y : Tile), ∃ (s : State), ∃ (v : State), v = s.entered t e ∧ s.Issues t e 0x08 w y
      ∧ y.canPost w ∧ rollConds (s.issue t e w y) = [] ∧ ∃ i, i = s.issue t e w y ∧ rollCount i = 0) ∧
    (∃ (t : TileIx), ∃ (e : Nat), ∃ (w : Nat), ∃ (y : Tile), ∃ (s : State), ∃ (v : State), v = s.entered t e ∧ s.Issues t e 0x09 w y
      ∧ ∃ tm, tm = (if bit w 26 then (y.tm + 1) % 2 ^ 60 else y.tm) ∧ ∃ b, b = 16 * tm + bits w 25 22 ∧ v.beatBegun b = true ∧
      y.canPost w) ∧
    (∃ (t : TileIx), ∃ (e : Nat), ∃ (w : Nat), ∃ (y : Tile), ∃ (s : State), ∃ (v : State), v = s.entered t e ∧ s.Issues t e 0x09 w y
      ∧ ∃ tm, tm = (if bit w 26 then (y.tm + 1) % 2 ^ 60 else y.tm) ∧ ∃ b, b = 16 * tm + bits w 25 22 ∧ v.beatBegun b = false) ∧
    (∃ (t : TileIx), ∃ (e : Nat), ∃ (s : State), ∃ (v : State), v = s.entered t e ∧ ∃ b, ∃ target, s.tileEvent t e = true ∧ s.nowOf
      t = e ∧ (s.tile t).block = some b ∧ b.wait = .beat target ∧ { s.tile t with block := none }.quiet = true ∧ s.beatBegun target
      = true) ∧
    (∃ (t : TileIx), ∃ (e : Nat), ∃ (s : State), ∃ (v : State), v = s.entered t e ∧ ∃ b, ∃ target, s.tileEvent t e = true ∧ s.nowOf
      t = e ∧ (s.tile t).block = some b ∧ b.wait = .beat target ∧ { s.tile t with block := none }.quiet = true ∧ s.beatBegun target
      = false) :=
  ⟨by refine ⟨coder, ⟨0, 0, 0, 64, 0⟩, 5, ?_, ?_, ?_, ?_⟩ <;> decide +kernel,
   by refine ⟨coder, ⟨0, 0, 0, 64, 0⟩, 5, ?_, ?_, ?_, ?_⟩ <;> decide +kernel,
   by refine ⟨coder, ⟨0, 0, 0, 64, 0⟩, 5, ?_, ?_, ?_, ?_⟩ <;> decide +kernel,
   by refine ⟨coder, ⟨0, 0, 0, 64, 0⟩, 5, ?_, ?_, ?_, ?_⟩ <;> decide +kernel,
   by refine ⟨{ coder with inBody := false, prog := some ⟨0, 4, 8, 4, 2⟩ }, ⟨0, 4, 8, 4, 2⟩, 4, ?_, ?_, ?_, ?_⟩ <;> decide +kernel,
   by refine ⟨{ coder with inBody := false, prog := some ⟨0, 4, 8, 4, 2⟩ }, ⟨0, 4, 8, 4, 2⟩, 4, ?_, ?_, ?_, ?_⟩ <;> decide +kernel,
   by refine ⟨{ coder with prog := some ⟨0, 4, 8, 4, 2⟩ }, ⟨0, 4, 8, 4, 2⟩, 12, ?_, ?_, ?_, ?_⟩ <;> decide +kernel,
   by refine ⟨{ coder with prog := some ⟨0, 4, 8, 4, 2⟩ }, ⟨0, 4, 8, 4, 2⟩, 12, ?_, ?_, ?_, ?_, ?_⟩ <;> decide +kernel,
   by refine ⟨{ coder with prog := some ⟨0, 4, 8, 4, 2⟩ }, ⟨0, 4, 8, 4, 2⟩, 12, ?_, ?_, ?_, ?_, ?_⟩ <;> decide +kernel,
   by refine ⟨{ coder with prog := some ⟨0, 4, 8, 4, 2⟩, passes := 1 }, ⟨0, 4, 8, 4, 2⟩, 12, ?_, ?_, ?_, ?_, ?_, ?_⟩
     <;> decide +kernel,
   by refine ⟨{ coder with loops := [⟨2, 6, 3, 4, 10, 0⟩] }, ⟨0, 0, 0, 64, 0⟩, 6, ?_, ⟨2, 6, 3, 4, 10, 0⟩, [], ?_, ?_, ?_⟩
     <;> decide +kernel,
   by refine ⟨{ coder with loops := [⟨2, 6, 3, 4, 10, 0⟩] }, ⟨0, 0, 0, 64, 0⟩, 6, ?_, ⟨2, 6, 3, 4, 10, 0⟩, [], ?_, ?_, ?_⟩
     <;> decide +kernel,
   by refine ⟨{ coder with loops := [⟨2, 6, 3, 4, 10, 0⟩] }, ⟨0, 0, 0, 64, 0⟩, 6, ?_, ⟨2, 6, 3, 4, 10, 0⟩, [], ?_, ?_, ?_⟩
     <;> decide +kernel,
   by refine ⟨{ coder with loops := [⟨2, 6, 1, 4, 10, 5⟩] }, ⟨0, 0, 0, 64, 0⟩, 6, ?_, ⟨2, 6, 1, 4, 10, 5⟩, ?_, ?_, ?_⟩
     <;> decide +kernel,
   by refine ⟨{ coder with loops := [⟨2, 6, 1, 4, 10, 5⟩] }, ⟨0, 0, 0, 64, 0⟩, 6, ?_, ⟨2, 6, 1, 4, 10, 5⟩, ?_, ?_, ?_⟩
     <;> decide +kernel,
   by refine ⟨0, 3, word 8 1 0 3 [(22, 2), (43, 4)], coder, withCode coder [word 8 1 0 3 [(22, 2), (43, 4)], 10], _, rfl, issues_of
     ?_, canPost_of ?_, ?_, _, rfl, ?_⟩ <;> decide +kernel,
   by refine ⟨0, 3, word 8 1 0 3 [(43, 4)], coder, withCode coder [word 8 1 0 3 [(43, 4)], 10], _, rfl, issues_of ?_, canPost_of ?_,
     ?_, _, rfl, ?_⟩ <;> decide +kernel,
   by refine ⟨0, 3, word 9 0 0 3 [(22, 4), (26, 1)], { coder with tm := 5 }, withCode { coder with tm := 5 } [word 9 0 0 3 [(22, 4),
     (26, 1)]], _, rfl, issues_of ?_, _, rfl, _, rfl, ?_, canPost_of ?_⟩ <;> decide +kernel,
   by refine ⟨0, 3, word 9 0 0 3 [(22, 5), (26, 1)], { coder with tm := 5 }, withCode { coder with tm := 5 } [word 9 0 0 3 [(22, 5),
     (26, 1)]], _, rfl, issues_of ?_, _, rfl, _, rfl, ?_⟩ <;> decide +kernel,
   by refine ⟨0, 3, withCode { coder with block := some ⟨.beat 100, 3, 0, ⟨0, 190⟩⟩ } [], _, rfl, ⟨.beat 100, 3, 0, ⟨0, 190⟩⟩, 100,
     ?_, ?_, ?_, ?_, ?_, ?_⟩ <;> decide +kernel,
   by refine ⟨0, 3, withCode { coder with block := some ⟨.beat 101, 3, 0, ⟨0, 190⟩⟩ } [], _, rfl, ⟨.beat 101, 3, 0, ⟨0, 190⟩⟩, 101,
     ?_, ?_, ?_, ?_, ?_, ?_⟩ <;> decide +kernel⟩

theorem witness_FlagsSetAndWait :
    (∃ (t : TileIx), ∃ (e : Nat), ∃ (w : Nat), ∃ (y : Tile), ∃ (s : State), ∃ (v : State), v = s.entered t e ∧ s.Issues t e 0x18 w y
      ∧ bits w 32 30 = 6 ∧ y.canPost w ∧ bit y.flags (bits w 29 22) = false ∧ (∀ k ∈ y.sets, k.f ≠ bits w 29 22)) ∧
    (∃ (t : TileIx), ∃ (e : Nat), ∃ (w : Nat), ∃ (y : Tile), ∃ (s : State), ∃ (v : State), v = s.entered t e ∧ s.Issues t e 0x18 w y
      ∧ bits w 32 30 = 6 ∧ bit y.flags (bits w 29 22) = true ∧ bits w 29 22 ∉ y.clears) ∧
    (∃ (t : TileIx), ∃ (e : Nat), ∃ (w : Nat), ∃ (y : Tile), ∃ (s : State), ∃ (v : State), v = s.entered t e ∧ s.Issues t e 0x18 w y
      ∧ bits w 32 30 < 4 ∧ y.canPost w ∧ v.queueAbsent t (bits w 32 30) = false ∧ (y.outQ (bits w 32 30)).stage = [] ∧ ∃ n,
      v.neighbour t (bits w 32 30) = some n) ∧
    (∃ (t : TileIx), ∃ (e : Nat), ∃ (w : Nat), ∃ (y : Tile), ∃ (s : State), ∃ (v : State), v = s.entered t e ∧ s.Issues t e 0x19 w y
      ∧ bits w 51 38 ≠ 0 ∧ ∃ f, f = bits w 29 22 ∧ bit y.flags f = true ∧ y.canPost w) ∧
    (∃ (t : TileIx), ∃ (e : Nat), ∃ (w : Nat), ∃ (y : Tile), ∃ (s : State), ∃ (v : State), v = s.entered t e ∧ s.Issues t e 0x19 w y
      ∧ bits w 51 38 ≠ 0 ∧ ∃ f, f = bits w 29 22 ∧ bit y.flags f = false) ∧
    (∃ (t : TileIx), ∃ (e : Nat), ∃ (s : State), ∃ (v : State), v = s.entered t e ∧ ∃ (q : Fin 6), ∃ f, ∃ l, s.tileEvent t e = true
      ∧ 4 ≤ q.val ∧ firstDnFlag (Table.get [] v.dn (2 * t + (1 - (q.val - 4)))) [] (Table.get [] v.dn (2 * t + (q.val - 4))) = some
      (f, l)) ∧
    (∃ (t : TileIx), ∃ (e : Nat), ∃ (s : State), ∃ (v : State), v = s.entered t e ∧ ∃ b, ∃ f, ∃ c, ∃ n, s.tileEvent t e = true ∧
      s.nowOf t = e ∧ (s.tile t).block = some b ∧ b.wait = .flag f c n ∧ (s.tile t).halted = false ∧
      { s.tile t with block := none }.quiet = true ∧ b.stall.counted + n ≤ s.time.counted) :=
  ⟨by refine ⟨0, 3, word 0x18 0 0 3 [(22, 7), (30, 6)], coder, withCode coder [word 0x18 0 0 3 [(22, 7), (30, 6)]], _, rfl,
     issues_of ?_, ?_, canPost_of ?_, ?_, ?_⟩ <;> decide +kernel,
   by refine ⟨0, 3, word 0x18 0 0 3 [(22, 7), (30, 6)], { coder with flags := 128 }, withCode { coder with flags := 128 } [word 0x18
     0 0 3 [(22, 7), (30, 6)]], _, rfl, issues_of ?_, ?_, ?_, ?_⟩ <;> decide +kernel,
   by refine ⟨0, 3, word 0x18 0 0 3 [(22, 7), (30, 1)], coder, withCode coder [word 0x18 0 0 3 [(22, 7), (30, 1)]], _, rfl,
     issues_of ?_, ?_, canPost_of ?_, ?_, ?_, 36, ?_⟩ <;> decide +kernel,
   by refine ⟨0, 3, word 0x19 0 0 3 [(22, 7), (37, 1), (38, 9)], { coder with flags := 128 }, withCode { coder with flags := 128 }
     [word 0x19 0 0 3 [(22, 7), (37, 1), (38, 9)]], _, rfl, issues_of ?_, ?_, _, rfl, ?_, canPost_of ?_⟩ <;> decide +kernel,
   by refine ⟨0, 3, word 0x19 0 0 3 [(22, 7), (37, 1), (38, 9)], coder, withCode coder [word 0x19 0 0 3 [(22, 7), (37, 1), (38,
     9)]], _, rfl, issues_of ?_, ?_, _, rfl, ?_⟩ <;> decide +kernel,
   by refine ⟨0, 3, { withCode coder [] with dn := [(1, [⟨5, 0, .flag 7 (.tile 0 5)⟩])] }, _, rfl, 5, 7, [], ?_, ?_, ?_⟩
     <;> decide +kernel,
   by refine ⟨0, 3, withCode { coder with block := some ⟨.flag 7 true 0, 3, 0, ⟨0, 190⟩⟩ } [], _, rfl, ⟨.flag 7 true 0, 3, 0, ⟨0,
     190⟩⟩, 7, true, 0, ?_, ?_, ?_, ?_, ?_, ?_, ?_⟩ <;> decide +kernel⟩

theorem witness_UnitsStart :
    (∃ (t : TileIx), ∃ (e : Nat), ∃ (w : Nat), ∃ (y : Tile), ∃ (s : State), ∃ (v : State), ∃ (i : Issue), ∃ (d : Desc), v =
      s.entered t e ∧ i = s.issue t e w y ∧ d = descOf (i.ext 0) ∧ ∃ (onlyPosts : Tile), onlyPosts =
      { y with posts := if postOf w = 0 then y.posts else y.posts ++ [Post.mk (postOf w) (e + 1) y.pc false] } ∧ s.Issues t e 0x10 w
      y ∧ pushConds i = []) ∧
    (∃ (t : TileIx), ∃ (e : Nat), ∃ (w : Nat), ∃ (y : Tile), ∃ (s : State), ∃ (v : State), ∃ (i : Issue), ∃ (d : Desc), v =
      s.entered t e ∧ i = s.issue t e w y ∧ d = descOf (i.ext 0) ∧ ∃ (onlyPosts : Tile), onlyPosts =
      { y with posts := if postOf w = 0 then y.posts else y.posts ++ [Post.mk (postOf w) (e + 1) y.pc false] } ∧ s.Issues t e 0x11 w
      y ∧ pullConds i = []) ∧
    (∃ (t : TileIx), ∃ (e : Nat), ∃ (w : Nat), ∃ (y : Tile), ∃ (s : State), ∃ (v : State), ∃ (i : Issue), ∃ (d : Desc), v =
      s.entered t e ∧ i = s.issue t e w y ∧ d = descOf (i.ext 0) ∧ ∃ (onlyPosts : Tile), onlyPosts =
      { y with posts := if postOf w = 0 then y.posts else y.posts ++ [Post.mk (postOf w) (e + 1) y.pc false] } ∧ s.Issues t e 0x21 w
      y ∧ planeConds i = []) ∧
    (∃ (t : TileIx), ∃ (e : Nat), ∃ (w : Nat), ∃ (y : Tile), ∃ (s : State), ∃ (v : State), ∃ (i : Issue), ∃ (d : Desc), v =
      s.entered t e ∧ i = s.issue t e w y ∧ d = descOf (i.ext 0) ∧ ∃ (onlyPosts : Tile), onlyPosts =
      { y with posts := if postOf w = 0 then y.posts else y.posts ++ [Post.mk (postOf w) (e + 1) y.pc false] } ∧ s.Issues t e 0x20 w
      y ∧ mmaConds i = []) ∧
    (∃ (t : TileIx), ∃ (e : Nat), ∃ (w : Nat), ∃ (y : Tile), ∃ (s : State), ∃ (v : State), ∃ (i : Issue), ∃ (d : Desc), v =
      s.entered t e ∧ i = s.issue t e w y ∧ d = descOf (i.ext 0) ∧ ∃ (onlyPosts : Tile), onlyPosts =
      { y with posts := if postOf w = 0 then y.posts else y.posts ++ [Post.mk (postOf w) (e + 1) y.pc false] } ∧ s.Issues t e 0x28 w
      y ∧ vrunConds i = [] ∧ bits w 35 29 ≠ 0 ∧ bits w 47 36 ≠ 0) ∧
    (∃ (t : TileIx), ∃ (e : Nat), ∃ (w : Nat), ∃ (y : Tile), ∃ (s : State), ∃ (v : State), ∃ (i : Issue), ∃ (d : Desc), v =
      s.entered t e ∧ i = s.issue t e w y ∧ d = descOf (i.ext 0) ∧ ∃ (onlyPosts : Tile), onlyPosts =
      { y with posts := if postOf w = 0 then y.posts else y.posts ++ [Post.mk (postOf w) (e + 1) y.pc false] } ∧ s.Issues t e 0x28 w
      y ∧ vrunConds i = [] ∧ (bits w 35 29 = 0 ∨ bits w 47 36 = 0)) :=
  ⟨by refine ⟨0, 3, word 0x10 1 0 3 [(22, 1), (29, 50)], coder, withCode coder [word 0x10 1 0 3 [(22, 1), (29, 50)], 64 + 2^16*4 +
     2^33], _, _, _, rfl, rfl, rfl, _, rfl, issues_of ?_, ?_⟩ <;> decide +kernel,
   by refine ⟨0, 3, word 0x11 1 0 3 [(22, 1), (29, 50)], coder, withCode coder [word 0x11 1 0 3 [(22, 1), (29, 50)], 64 + 2^16*4 +
     2^33], _, _, _, rfl, rfl, rfl, _, rfl, issues_of ?_, ?_⟩ <;> decide +kernel,
   by refine ⟨0, 3, word 0x21 1 0 3 [(22, 0), (23, 1), (27, 8)], { macTile with planes := [none, none] }, withCode
     { macTile with planes := [none, none] } [word 0x21 1 0 3 [(22, 0), (23, 1), (27, 8)], 0], _, _, _, rfl, rfl, rfl, _, rfl,
     issues_of ?_, ?_⟩ <;> decide +kernel,
   by refine ⟨0, 3, word 0x20 1 0 3 [(34, 1), (36, 1), (40, 1)], macTile, withCode macTile [word 0x20 1 0 3 [(34, 1), (36, 1), (40,
     1)], 64 + 2^16*1 + 2^32], _, _, _, rfl, rfl, rfl, _, rfl, issues_of ?_, ?_⟩ <;> decide +kernel,
   by refine ⟨0, 3, word 0x28 0 0 3 [(29, 1), (36, 2), (48, 9)], vecTile, withCode vecTile [word 0x28 0 0 3 [(29, 1), (36, 2), (48,
     9)]], _, _, _, rfl, rfl, rfl, _, rfl, issues_of ?_, ?_, ?_, ?_⟩ <;> decide +kernel,
   by refine ⟨0, 3, word 0x28 0 0 3 [(29, 0), (36, 2), (48, 9)], vecTile, withCode vecTile [word 0x28 0 0 3 [(29, 0), (36, 2), (48,
     9)]], _, _, _, rfl, rfl, rfl, _, rfl, issues_of ?_, ?_, ?_⟩ <;> decide +kernel⟩

theorem witness_UnitsWork :
    (∃ (t : TileIx), ∃ (e : Nat), ∃ (w : Nat), ∃ (y : Tile), ∃ (s : State), ∃ (v : State), ∃ (i : Issue), ∃ (d : Desc), v =
      s.entered t e ∧ i = s.issue t e w y ∧ d = descOf (i.ext 0) ∧ y.quiet = true ∧ y.canPost w ∧ y.halted = false ∧ ∃ q, ∃ u, ∃ us,
      ∃ (b : Item), s.Issues t e 0x10 w y ∧ pushConds i = [] ∧ q = bits w 24 22 ∧ d.units = u :: us ∧ i.s.pathFull t q = false ∧
      v.unitsGood t [u, u + 1] ∧ ∃ dest, dest = i.s.destOf t q (bits w 28 25) ∧ b = .word (v.spadUnit t u ++ v.spadUnit t (u + 1))
      (if us = [] then postOf w else 0) dest) ∧
    (∃ (t : TileIx), ∃ (e : Nat), ∃ (w : Nat), ∃ (y : Tile), ∃ (s : State), ∃ (v : State), ∃ (i : Issue), ∃ (d : Desc), v =
      s.entered t e ∧ i = s.issue t e w y ∧ d = descOf (i.ext 0) ∧ y.quiet = true ∧ y.canPost w ∧ y.halted = false ∧ ∃ q, ∃ r, ∃ rs,
      s.Issues t e 0x11 w y ∧ pullConds i = [] ∧ q = bits w 24 22 ∧ y.rxQ q = r :: rs ∧ r.bytes.length = 64 ∧ ∃ n, ∃ us, d.units = n
      :: us ∧ (expectOf w = 0 ∨ (us = [] ∧ r.tag = expectOf w) ∨ (us ≠ [] ∧ r.tag = 0))) ∧
    (∃ (t : TileIx), ∃ (e : Nat), ∃ (w : Nat), ∃ (y : Tile), ∃ (s : State), ∃ (v : State), ∃ (i : Issue), ∃ (d : Desc), v =
      s.entered t e ∧ i = s.issue t e w y ∧ d = descOf (i.ext 0) ∧ y.quiet = true ∧ y.canPost w ∧ y.halted = false ∧ ∃ p, ∃ f,
      s.Issues t e 0x21 w y ∧ planeConds i = [] ∧ p = planeLoadOf i ∧ f = (Fmt.ofCode p.fmt).getD .mxfp4 ∧ v.unitsGood t p.units ∧
      (∀ k u, p.units[k]? = some u → planeFault f p k u (v.spadUnit t u) = []) ∧ (y.goOn (y.pc + 2) (e + 1) (e + 1)).finished =
      false) ∧
    (∃ (t : TileIx), ∃ (e : Nat), ∃ (w : Nat), ∃ (y : Tile), ∃ (s : State), ∃ (v : State), ∃ (i : Issue), ∃ (d : Desc), v =
      s.entered t e ∧ i = s.issue t e w y ∧ d = descOf (i.ext 0) ∧ y.quiet = true ∧ y.canPost w ∧ y.halted = false ∧ ∃ m, ∃ pl,
      s.Issues t e 0x20 w y ∧ mmaConds i = [] ∧ m = mmaOf i ∧ (y.planes[m.plane]?).join = some pl ∧ (y.goOn (y.pc + (1 + extOf w))
      (e + 1) (e + 1)).finished = false ∧ bit w 54 = false ∧ (∀ k, k < m.rows → v.unitsGood t (m.rowUnits pl k) ∧ ((m.rowUnits pl
      k).map (fun u => u / 4096)).Nodup)) ∧
    (∃ (t : TileIx), ∃ (e : Nat), ∃ (w : Nat), ∃ (y : Tile), ∃ (s : State), ∃ (v : State), ∃ (i : Issue), ∃ (d : Desc), v =
      s.entered t e ∧ i = s.issue t e w y ∧ d = descOf (i.ext 0) ∧ y.quiet = true ∧ y.canPost w ∧ y.halted = false ∧ ∃ m, ∃ pl,
      s.Issues t e 0x20 w y ∧ mmaConds i = [] ∧ m = mmaOf i ∧ (y.planes[m.plane]?).join = some pl ∧ (y.goOn (y.pc + (1 + extOf w))
      (e + 1) (e + 1)).finished = false ∧ ∃ q, ∃ n, ∃ bound, ∃ r, ∃ rs, ∃ st, bit w 54 = true ∧ m.queue = some (q, n, bound) ∧ y.rxQ
      q = r :: rs ∧ expectOf w = 0 ∧ st = InStream.none'.feed ((Fmt.ofCode m.afmt).getD .mxfp4) n r.bytes ∧ modeDepth m.mode ≤
      st.elems.length) ∧
    (∃ (t : TileIx), ∃ (e : Nat), ∃ (w : Nat), ∃ (y : Tile), ∃ (s : State), ∃ (v : State), ∃ (i : Issue), ∃ (d : Desc), v =
      s.entered t e ∧ i = s.issue t e w y ∧ d = descOf (i.ext 0) ∧ y.quiet = true ∧ y.canPost w ∧ y.halted = false ∧ ∃ img, ∃ start,
      ∃ count, ∃ passes, ∃ ms, s.Issues t e 0x28 w y ∧ vrunConds i = [] ∧ y.voice = some img ∧ start = bits w 28 22 ∧ count = bits w
      35 29 ∧ passes = bits w 47 36 ∧ count ≠ 0 ∧ passes ≠ 0 ∧ ms = rangeMicros img start count ∧ (y.goOn (y.pc + 1) (e + 1) (e +
      1)).finished = false ∧ ∃ c, c = e + count * passes + rangeLatency img start count ∧ (∀ m ∈ ms, m.onRegs)) ∧
    (∃ (t : TileIx), ∃ (e : Nat), ∃ (w : Nat), ∃ (y : Tile), ∃ (s : State), ∃ (v : State), ∃ (i : Issue), ∃ (d : Desc), v =
      s.entered t e ∧ i = s.issue t e w y ∧ d = descOf (i.ext 0) ∧ y.quiet = true ∧ y.canPost w ∧ y.halted = false ∧ ∃ img, ∃ start,
      ∃ count, ∃ passes, ∃ ms, s.Issues t e 0x28 w y ∧ vrunConds i = [] ∧ y.voice = some img ∧ start = bits w 28 22 ∧ count = bits w
      35 29 ∧ passes = bits w 47 36 ∧ count ≠ 0 ∧ passes ≠ 0 ∧ ms = rangeMicros img start count ∧ (y.goOn (y.pc + 1) (e + 1) (e +
      1)).finished = false ∧ ∃ c, c = e + count * passes + rangeLatency img start count ∧ ∃ m, ms = [m] ∧ passes = 1 ∧
      { m with dst := 0 }.onRegs ∧ m.dst = 0x10) ∧
    (∃ (t : TileIx), ∃ (e : Nat), ∃ (w : Nat), ∃ (y : Tile), ∃ (s : State), ∃ (v : State), ∃ (i : Issue), ∃ (d : Desc), v =
      s.entered t e ∧ i = s.issue t e w y ∧ d = descOf (i.ext 0) ∧ y.quiet = true ∧ y.canPost w ∧ y.halted = false ∧ ∃ img, ∃ start,
      ∃ count, ∃ passes, ∃ ms, s.Issues t e 0x28 w y ∧ vrunConds i = [] ∧ y.voice = some img ∧ start = bits w 28 22 ∧ count = bits w
      35 29 ∧ passes = bits w 47 36 ∧ count ≠ 0 ∧ passes ≠ 0 ∧ ms = rangeMicros img start count ∧ (y.goOn (y.pc + 1) (e + 1) (e +
      1)).finished = false ∧ ∃ c, c = e + count * passes + rangeLatency img start count ∧ ∃ m, ∃ k, ms = [m] ∧ passes = 1 ∧
      { m with dst := 0 }.onRegs ∧ m.dst = 0x11 ∧ k < 8 ∧ (((descOf m.word).units.take 8).map (fun u => u / 4096)).Nodup) :=
  ⟨by refine ⟨0, 3, word 0x10 1 0 3 [(22, 1), (29, 50)], coder, withCode coder [word 0x10 1 0 3 [(22, 1), (29, 50)], 64 + 2^16*4 +
     2^33], _, _, _, rfl, rfl, rfl, ?_, canPost_of ?_, ?_, 1, 64, [66, 68, 70], Item.word (zeros 64) 0 (.tile 36 3), issues_of ?_,
     ?_, ?_, ?_, ?_, unitsGood_of ?_, _, rfl, ?_⟩ <;> decide +kernel,
   by refine ⟨0, 3, word 0x11 1 0 3 [(22, 1), (29, 50)], { coder with rx := [(1, [⟨List.replicate 64 9, 0⟩])] }, withCode
     { coder with rx := [(1, [⟨List.replicate 64 9, 0⟩])] } [word 0x11 1 0 3 [(22, 1), (29, 50)], 64 + 2^16*1 + 2^33], _, _, _, rfl,
     rfl, rfl, ?_, canPost_of ?_, ?_, 1, ⟨List.replicate 64 9, 0⟩, [], issues_of ?_, ?_, ?_, ?_, ?_, 64, [], ?_, ?_⟩
     <;> decide +kernel,
   by refine ⟨0, 3, word 0x21 1 0 3 [(22, 0), (23, 1), (27, 8)], { macTile with planes := [none, none] }, withCode
     { macTile with planes := [none, none] } [word 0x21 1 0 3 [(22, 0), (23, 1), (27, 8)], 0], _, _, _, rfl, rfl, rfl, ?_,
     canPost_of ?_, ?_, _, _, issues_of ?_, ?_, rfl, rfl, unitsGood_of ?_, forall_index ?_, ?_⟩ <;> decide +kernel,
   by refine ⟨0, 3, word 0x20 1 0 3 [(34, 1), (36, 1), (40, 1)], macTile, withCode macTile [word 0x20 1 0 3 [(34, 1), (36, 1), (40,
     1)], 64 + 2^16*1 + 2^32], _, _, _, rfl, rfl, rfl, ?_, canPost_of ?_, ?_, _, aPlane, issues_of ?_, ?_, rfl, ?_, ?_, ?_,
     rowsGood_of ?_⟩ <;> decide +kernel,
   by refine ⟨0, 3, word 0x20 1 0 3 [(34, 1), (36, 1), (40, 1), (54, 1), (55, 1)], rxMac, withCode rxMac [word 0x20 1 0 3 [(34, 1),
     (36, 1), (40, 1), (54, 1), (55, 1)], 9 + 2 ^ 14], _, _, _, rfl, rfl, rfl, ?_, canPost_of ?_, ?_, _, aPlane, issues_of ?_, ?_,
     rfl, ?_, ?_, 1, 1, 9, ⟨List.replicate 64 0x3F, 0⟩, [], _, ?_, ?_, ?_, ?_, rfl, ?_⟩ <;> decide +kernel,
   by refine ⟨0, 3, word 0x28 0 0 3 [(29, 1), (36, 2)], moveTile 1 0, withCode (moveTile 1 0) [word 0x28 0 0 3 [(29, 1), (36, 2)]],
     _, _, _, rfl, rfl, rfl, ?_, canPost_of ?_, ?_, microImg (word 0x80 1 0 0 [(22, 1), (28, 0x19)]) 0, 0, 1, 2, _, issues_of ?_,
     ?_, ?_, ?_, ?_, ?_, ?_, ?_, rfl, ?_, _, rfl, allOnRegs_of ?_⟩ <;> decide +kernel,
   by refine ⟨0, 3, word 0x28 0 0 3 [(29, 1), (36, 1)], moveTile 0x10 0, withCode (moveTile 0x10 0) [word 0x28 0 0 3 [(29, 1), (36,
     1)]], _, _, _, rfl, rfl, rfl, ?_, canPost_of ?_, ?_, microImg (word 0x80 1 0 0 [(22, 0x10), (28, 0x19)]) 0, 0, 1, 1, _,
     issues_of ?_, ?_, ?_, ?_, ?_, ?_, ?_, ?_, rfl, ?_, _, rfl, ⟨0x80, 1, 0x10, 0x19, 0, 0, 0, 0, 0⟩, rfl, ?_, onRegs_of ?_, ?_⟩
     <;> decide +kernel,
   by refine ⟨0, 3, word 0x28 0 0 3 [(29, 1), (36, 1)], moveTile 0x11 (4 + 2 ^ 16 * 8 + 2 ^ 32 * 4096), withCode (moveTile 0x11 (4 +
     2 ^ 16 * 8 + 2 ^ 32 * 4096)) [word 0x28 0 0 3 [(29, 1), (36, 1)]], _, _, _, rfl, rfl, rfl, ?_, canPost_of ?_, ?_, microImg
     (word 0x80 1 0 0 [(22, 0x11), (28, 0x19)]) (4 + 2 ^ 16 * 8 + 2 ^ 32 * 4096), 0, 1, 1, _, issues_of ?_, ?_, ?_, ?_, ?_, ?_, ?_,
     ?_, rfl, ?_, _, rfl, ⟨0x80, 1, 0x11, 0x19, 0, 0, 0, 0, 4 + 2 ^ 16 * 8 + 2 ^ 32 * 4096⟩, 3, rfl, ?_, onRegs_of ?_, ?_, ?_, ?_⟩
     <;> decide +kernel⟩

theorem witness_TierInstructionsStart :
    (∃ (t : TileIx), ∃ (e : Nat), ∃ (w : Nat), ∃ (y : Tile), ∃ (s : State), ∃ (v : State), ∃ (i : Issue), v = s.entered t e ∧ i =
      s.issue t e w y ∧ ∃ op, ∃ tier, ∃ store, (op, tier, store) ∈ [(0x30, 1, false), (0x31, 1, true), (0x34, 2, false), (0x35, 2,
      true)] ∧ s.Issues t e op w y ∧ loadConds tier i = [] ∧ (tierOf (i.ext 0)).tcount ≠ 0) ∧
    (∃ (t : TileIx), ∃ (e : Nat), ∃ (w : Nat), ∃ (y : Tile), ∃ (s : State), ∃ (v : State), ∃ (i : Issue), v = s.entered t e ∧ i =
      s.issue t e w y ∧ ∃ op, ∃ tier, ∃ store, (op, tier, store) ∈ [(0x30, 1, false), (0x31, 1, true), (0x34, 2, false), (0x35, 2,
      true)] ∧ s.Issues t e op w y ∧ loadConds tier i = [] ∧ (tierOf (i.ext 0)).tcount = 0) ∧
    (∃ (t : TileIx), ∃ (e : Nat), ∃ (w : Nat), ∃ (y : Tile), ∃ (s : State), ∃ (v : State), ∃ (i : Issue), v = s.entered t e ∧ i =
      s.issue t e w y ∧ ∃ op, ∃ tier, ∃ store, (op, tier, store) ∈ [(0x32, 1, false), (0x36, 2, false), (0x37, 2, true)] ∧ s.Issues
      t e op w y ∧ gatherConds tier i = [] ∧ gatherEmpty i = false ∧ ∃ rows, ∃ cs, ∃ z, gatherList tier i = (rows, cs, z)) ∧
    (∃ (t : TileIx), ∃ (e : Nat), ∃ (w : Nat), ∃ (y : Tile), ∃ (s : State), ∃ (v : State), ∃ (i : Issue), v = s.entered t e ∧ i =
      s.issue t e w y ∧ ∃ op, ∃ tier, (op, tier) ∈ [(0x33, 1), (0x38, 2)] ∧ s.Issues t e op w y ∧ y.storesOut tier = true) ∧
    (∃ (t : TileIx), ∃ (e : Nat), ∃ (w : Nat), ∃ (y : Tile), ∃ (s : State), ∃ (v : State), ∃ (i : Issue), v = s.entered t e ∧ i =
      s.issue t e w y ∧ ∃ op, ∃ tier, (op, tier) ∈ [(0x33, 1), (0x38, 2)] ∧ s.Issues t e op w y ∧ y.storesOut tier = false ∧
      y.canPost w) :=
  ⟨by refine ⟨0, 3, word 0x30 2 0 3 [], coder, withCode coder [word 0x30 2 0 3 [], 9 + 2^35*2, 64 + 2^16*2 + 2^32], _, _, rfl, rfl,
     0x30, 1, false, ?_, issues_of ?_, ?_, ?_⟩ <;> decide +kernel,
   by refine ⟨0, 3, word 0x30 2 0 3 [], coder, withCode coder [word 0x30 2 0 3 [], 9, 64 + 2^32], _, _, rfl, rfl, 0x30, 1, false,
     ?_, issues_of ?_, ?_, ?_⟩ <;> decide +kernel,
   by refine ⟨0, 3, word 0x32 3 0 3 [], coder, withCode coder (gWords 0x32), _, _, rfl, rfl, 0x32, 1, false, ?_, issues_of ?_, ?_,
     ?_, [9], [], (gatherList 1 (gIssue 0x32)).2.2, ?_⟩ <;> decide +kernel,
   by refine ⟨0, 3, word 0x33 0 0 3 [], { coder with accesses := [anAccess 1 true] }, withCode
     { coder with accesses := [anAccess 1 true] } [word 0x33 0 0 3 []], _, _, rfl, rfl, 0x33, 1, ?_, issues_of ?_, ?_⟩
     <;> decide +kernel,
   by refine ⟨0, 3, word 0x38 0 0 3 [], { coder with accesses := [anAccess 1 true] }, withCode
     { coder with accesses := [anAccess 1 true] } [word 0x38 0 0 3 []], _, _, rfl, rfl, 0x38, 2, ?_, issues_of ?_, ?_, canPost_of
     ?_⟩ <;> decide +kernel⟩

theorem witness_TierAccessesComplete :
    (∃ (t : TileIx), ∃ (e : Nat), ∃ (a : TierAccess), ∃ (s : State), ∃ (v : State), s.tileEvent t e = true ∧ v = s.entered t e ∧
      (v.tile t).quiet = true ∧ (v.tile t).halted = false ∧ (v.tile t).accesses = [a] ∧ a.landing = none ∧ a.stop = none ∧
      a.taddrs.length = a.units.length ∧ a.early.length = a.units.length ∧ (∀ b ∈ a.early, b.length = 32) ∧ (a.tier = 1 ∨ a.tier =
      2) ∧ v.spadErr = [] ∧ v.poison = [] ∧ (a.post = 0 ∨ bit (v.tile t).board a.post = false) ∧ ∃ done : State → Prop, (∀ u, done u
      ↔ (u.tile t).accesses = [] ∧ (u.tile t).halted = false ∧ (u.tile t).board = (if a.post = 0 then (v.tile t).board else (v.tile
      t).board + 2 ^ a.post)) ∧ a.store = true ∧ a.taddrs.Nodup) ∧
    (∃ (t : TileIx), ∃ (e : Nat), ∃ (a : TierAccess), ∃ (s : State), ∃ (v : State), s.tileEvent t e = true ∧ v = s.entered t e ∧
      (v.tile t).quiet = true ∧ (v.tile t).halted = false ∧ (v.tile t).accesses = [a] ∧ a.landing = none ∧ a.stop = none ∧
      a.taddrs.length = a.units.length ∧ a.early.length = a.units.length ∧ (∀ b ∈ a.early, b.length = 32) ∧ (a.tier = 1 ∨ a.tier =
      2) ∧ v.spadErr = [] ∧ v.poison = [] ∧ (a.post = 0 ∨ bit (v.tile t).board a.post = false) ∧ ∃ done : State → Prop, (∀ u, done u
      ↔ (u.tile t).accesses = [] ∧ (u.tile t).halted = false ∧ (u.tile t).board = (if a.post = 0 then (v.tile t).board else (v.tile
      t).board + 2 ^ a.post)) ∧ a.store = false) ∧
    (∃ (t : TileIx), ∃ (k : Nat), ∃ (a : TierAccess), ∃ (s : State), (s.tile t).accesses[k]? = some a ∧ a.tier = 1 ∧ a.tick + 4096 ≤
      s.time.tick) ∧
    (∃ (t : TileIx), ∃ (k : Nat), ∃ (a : TierAccess), ∃ (s : State), (s.tile t).accesses[k]? = some a ∧ (a.tier ≠ 1 ∨ s.time.tick <
      a.tick + 4096)) :=
  ⟨by refine ⟨0, 3, anAccess 1 true, withCode { coder with accesses := [anAccess 1 true] } [1, 2, 3], _, ?_, rfl, ?_, ?_, ?_, ?_,
     ?_, ?_, ?_, ?_, ?_, ?_, ?_, ?_, _, fun _ => Iff.rfl, ?_, ?_⟩ <;> decide +kernel,
   by refine ⟨0, 3, anAccess 1 false, withCode { coder with accesses := [anAccess 1 false] } [1, 2, 3], _, ?_, rfl, ?_, ?_, ?_, ?_,
     ?_, ?_, ?_, ?_, ?_, ?_, ?_, ?_, _, fun _ => Iff.rfl, ?_⟩ <;> decide +kernel,
   by refine ⟨0, 0, anAccess 1 true, (withCode { coder with accesses := [anAccess 1 true] } []).atBeat 4246 4246, ?_, ?_, ?_⟩
     <;> decide +kernel,
   by refine ⟨0, 0, anAccess 1 true, (withCode { coder with accesses := [anAccess 1 true] } []).atBeat 4245 4245, ?_, ?_⟩
     <;> decide +kernel⟩

theorem witness_UnitsComplete :
    (∃ (t : TileIx), ∃ (e : Nat), ∃ (post : Nat), ∃ (s : State), ∃ (x : Tile), x = s.tile t ∧ s.tileEvent t e = true ∧ x.halted =
      false ∧ { x with voiceLoad := none, planeLoad := none, mmaResults := [], vrunResults := [], posts := [] }.quiet = true ∧ post
      ≠ 0 ∧ bit x.board post = false ∧ ∃ done : State → Prop, (∀ u, done u ↔ (u.tile t).board = x.board + 2 ^ post ∧ (u.tile
      t).posts = [] ∧ (u.tile t).now = e + 1 ∧ (u.tile t).halted = false ∧ SameBytes s u) ∧ ∃ v, x.voiceLoad = some v ∧ x.planeLoad
      = none ∧ x.mmaResults = [] ∧ x.vrunResults = [] ∧ x.posts = [] ∧ s.nowOf t + 1 = e ∧ v.issue + 256 = e ∧ v.got.length = 32 *
      255 ∧ v.post = post ∧ s.spadErr.find? (2 ^ 15 * t + (v.image + 255)) = none ∧ voiceBad (v.got ++ s.spadUnit t (v.image + 255))
      = none) ∧
    (∃ (t : TileIx), ∃ (e : Nat), ∃ (post : Nat), ∃ (s : State), ∃ (x : Tile), x = s.tile t ∧ s.tileEvent t e = true ∧ x.halted =
      false ∧ { x with voiceLoad := none, planeLoad := none, mmaResults := [], vrunResults := [], posts := [] }.quiet = true ∧ post
      ≠ 0 ∧ bit x.board post = false ∧ ∃ done : State → Prop, (∀ u, done u ↔ (u.tile t).board = x.board + 2 ^ post ∧ (u.tile
      t).posts = [] ∧ (u.tile t).now = e + 1 ∧ (u.tile t).halted = false ∧ SameBytes s u) ∧ ∃ v, x.voiceLoad = some v ∧ x.planeLoad
      = none ∧ x.mmaResults = [] ∧ x.vrunResults = [] ∧ x.posts = [] ∧ s.nowOf t + 1 = e ∧ v.issue + 256 = e ∧ v.got.length = 32 *
      255 ∧ v.post = post ∧ s.spadErr.find? (2 ^ 15 * t + (v.image + 255)) = none ∧ ∃ b, voiceBad (v.got ++ s.spadUnit t (v.image +
      255)) = some b) ∧
    (∃ (t : TileIx), ∃ (e : Nat), ∃ (post : Nat), ∃ (s : State), ∃ (x : Tile), x = s.tile t ∧ s.tileEvent t e = true ∧ x.halted =
      false ∧ { x with voiceLoad := none, planeLoad := none, mmaResults := [], vrunResults := [], posts := [] }.quiet = true ∧ post
      ≠ 0 ∧ bit x.board post = false ∧ ∃ done : State → Prop, (∀ u, done u ↔ (u.tile t).board = x.board + 2 ^ post ∧ (u.tile
      t).posts = [] ∧ (u.tile t).now = e + 1 ∧ (u.tile t).halted = false ∧ SameBytes s u) ∧ ∃ p, x.planeLoad = some p ∧ x.voiceLoad
      = none ∧ x.mmaResults = [] ∧ x.vrunResults = [] ∧ x.posts = [⟨post, e, p.pc, true⟩] ∧ x.finished = false ∧ s.nowOf t + 1 = e ∧
      p.next = e ∧ p.got.length = p.units.length) ∧
    (∃ (t : TileIx), ∃ (e : Nat), ∃ (post : Nat), ∃ (s : State), ∃ (x : Tile), x = s.tile t ∧ s.tileEvent t e = true ∧ x.halted =
      false ∧ { x with voiceLoad := none, planeLoad := none, mmaResults := [], vrunResults := [], posts := [] }.quiet = true ∧ post
      ≠ 0 ∧ bit x.board post = false ∧ ∃ done : State → Prop, (∀ u, done u ↔ (u.tile t).board = x.board + 2 ^ post ∧ (u.tile
      t).posts = [] ∧ (u.tile t).now = e + 1 ∧ (u.tile t).halted = false ∧ SameBytes s u) ∧ ∃ r, x.mmaResults = [r] ∧ x.voiceLoad =
      none ∧ x.planeLoad = none ∧ x.vrunResults = [] ∧ x.posts = [⟨post, e, r.pc, true⟩] ∧ x.finished = false ∧ s.nowOf t = e ∧
      r.cycle = e) ∧
    (∃ (t : TileIx), ∃ (e : Nat), ∃ (post : Nat), ∃ (s : State), ∃ (x : Tile), x = s.tile t ∧ s.tileEvent t e = true ∧ x.halted =
      false ∧ { x with voiceLoad := none, planeLoad := none, mmaResults := [], vrunResults := [], posts := [] }.quiet = true ∧ post
      ≠ 0 ∧ bit x.board post = false ∧ ∃ done : State → Prop, (∀ u, done u ↔ (u.tile t).board = x.board + 2 ^ post ∧ (u.tile
      t).posts = [] ∧ (u.tile t).now = e + 1 ∧ (u.tile t).halted = false ∧ SameBytes s u) ∧ ∃ r, x.vrunResults = [r] ∧ x.voiceLoad =
      none ∧ x.planeLoad = none ∧ x.mmaResults = [] ∧ x.posts = [⟨post, e, r.pc, true⟩] ∧ x.finished = false ∧ s.nowOf t = e ∧
      r.cycle = e ∧ r.spadW = []) :=
  ⟨by refine ⟨0, 259, 3, withCode { coder with now := 258, voiceLoad := some ⟨256, 3, List.replicate 8160 1, 3, 0⟩ } [], _, rfl, ?_,
     ?_, ?_, ?_, ?_, _, fun _ => Iff.rfl, ⟨256, 3, List.replicate 8160 1, 3, 0⟩, ?_, ?_, ?_, ?_, ?_, ?_, ?_, ?_, ?_, ?_, ?_⟩
     <;> decide +kernel,
   by refine ⟨0, 259, 3, withCode { coder with now := 258, voiceLoad := some ⟨256, 3, List.replicate 8160 0xFF, 3, 0⟩ } [], _, rfl,
     ?_, ?_, ?_, ?_, ?_, _, fun _ => Iff.rfl, ⟨256, 3, List.replicate 8160 0xFF, 3, 0⟩, ?_, ?_, ?_, ?_, ?_, ?_, ?_, ?_, ?_, ?_, 0,
     ?_⟩ <;> decide +kernel,
   by refine ⟨0, 4, 3, withCode
     { macTile with planeLoad := some ⟨1, 1, 8, 8, 0, 0, 0, 0, 0, 0, [], [], 4, 3, 0⟩, posts := [⟨3, 4, 0, true⟩] } [], _, rfl, ?_,
     ?_, ?_, ?_, ?_, _, fun _ => Iff.rfl, ⟨1, 1, 8, 8, 0, 0, 0, 0, 0, 0, [], [], 4, 3, 0⟩, ?_, ?_, ?_, ?_, ?_, ?_, ?_, ?_, ?_⟩
     <;> decide +kernel,
   by refine ⟨0, 3, 3, withCode { macTile with mmaResults := [⟨0, 1, 3, 3, 0⟩], posts := [⟨3, 3, 0, true⟩] } [], _, rfl, ?_, ?_, ?_,
     ?_, ?_, _, fun _ => Iff.rfl, ⟨0, 1, 3, 3, 0⟩, ?_, ?_, ?_, ?_, ?_, ?_, ?_, ?_⟩ <;> decide +kernel,
   by refine ⟨0, 3, 3, withCode
     { macTile with vrunResults := [⟨3, [], [(2, ⟨true, 1, 0, List.replicate 32 7⟩)], [1], 2, 3, 0⟩], posts := [⟨3, 3, 0, true⟩] }
     [], _, rfl, ?_, ?_, ?_, ?_, ?_, _, fun _ => Iff.rfl, ⟨3, [], [(2, ⟨true, 1, 0, List.replicate 32 7⟩)], [1], 2, 3, 0⟩, ?_, ?_,
     ?_, ?_, ?_, ?_, ?_, ?_, ?_⟩ <;> decide +kernel⟩

theorem witness_QueueWordsAndHalts :
    (∃ (t : TileIx), ∃ (s : State), ∃ (x : Tile), x = s.tile t ∧ ∃ (q : Fin 6), ∃ e, ∃ v, s.tileEvent t e = true ∧ s.pathClocked t q
      = true ∧ v = s.entered t e ∧ 16 ≤ ((v.tile t).rxQ q).length) ∧
    (∃ (t : TileIx), ∃ (s : State), ∃ (x : Tile), x = s.tile t ∧ ∃ (q : Fin 6), ∃ e, ∃ v, s.tileEvent t e = true ∧ s.pathClocked t q
      = true ∧ v = s.entered t e ∧ ∃ src, ∃ n, ∃ b, ∃ g, ∃ d, ∃ l, ((v.tile t).rxQ q).length < 16 ∧ 4 ≤ q.val ∧ takeItem (fun (i :
      DnItem) => i.item.isWord) (Table.get [] v.dn (2 * t + (q - 4))) = some (⟨src, n, .word b g d⟩, l)) ∧
    (∃ (t : TileIx), ∃ (s : State), ∃ (x : Tile), x = s.tile t ∧ ∃ (q : Fin 6), ∃ e, ∃ v, s.tileEvent t e = true ∧ s.pathClocked t q
      = true ∧ v = s.entered t e ∧ ∃ n, ∃ b, ∃ g, ∃ d, ∃ l, ((v.tile t).rxQ q).length < 16 ∧ q.val < 4 ∧ v.neighbour t q = some n ∧
      takeItem Item.isWord ((v.tile n).outQ (opposite q)).mid = some (.word b g d, l)) ∧
    (∃ (t : TileIx), ∃ (s : State), ∃ (x : Tile), x = s.tile t ∧ ∃ e, s.tileEvent t e = true ∧ s.nowOf t = e ∧ s.expiredQueues t ≠
      []) ∧
    (∃ (t : TileIx), ∃ (s : State), ∃ (x : Tile), x = s.tile t ∧ ∃ e, s.tileEvent t e = true ∧ s.nowOf t = e ∧ ∃ p, ∃ b, x.push =
      [p] ∧ { x with push := [] }.quiet = true ∧ p.stall = some b ∧ b.counted + p.bound ≤ s.time.counted ∧ x.halted = false ∧
      p.units ≠ [] ∧ p.next ≤ e ∧ s.pathFull t p.q = true) ∧
    (∃ (t : TileIx), ∃ (s : State), ∃ (x : Tile), x = s.tile t ∧ ∃ e, s.tileEvent t e = true ∧ s.nowOf t = e ∧ ∃ p, ∃ b, x.pull =
      [p] ∧ { x with pull := [] }.quiet = true ∧ p.stall = some b ∧ b.counted + p.bound ≤ s.time.counted ∧ x.halted = false ∧ x.rxQ
      p.q = []) ∧
    (∃ (t : TileIx), ∃ (s : State), ∃ (x : Tile), x = s.tile t ∧ ∃ e, s.tileEvent t e = true ∧ s.nowOf t = e ∧ s.expiredQueues t =
      []) ∧
    (∃ (t : TileIx), ∃ (s : State), ∃ (x : Tile), x = s.tile t ∧ ∃ pc, pc = x.nextPc ∧ x.halted = false ∧ (x.quiet = true ∨ ∃ b f c
      n, x.block = some b ∧ b.wait = .flag f c n ∧ bit x.flags f = false ∧ { x with block := none }.quiet = true ∧ s.expiredFlag t =
      []) ∧ s.tilesUp = true) ∧
    (∃ (t : TileIx), ∃ (s : State), ∃ (x : Tile), x = s.tile t ∧ ∃ pc, pc = x.nextPc ∧ x.halted = false ∧ (x.quiet = true ∨ ∃ b f c
      n, x.block = some b ∧ b.wait = .flag f c n ∧ bit x.flags f = false ∧ { x with block := none }.quiet = true ∧ s.expiredFlag t =
      []) ∧ s.tilesUp = true) ∧
    (∃ (t : TileIx), ∃ (s : State), ∃ (x : Tile), x = s.tile t ∧ ∃ pc, pc = x.nextPc ∧ x.halted = false ∧ (x.quiet = true ∨ ∃ b f c
      n, x.block = some b ∧ b.wait = .flag f c n ∧ bit x.flags f = false ∧ { x with block := none }.quiet = true ∧ s.expiredFlag t =
      []) ∧ s.fieldUp = true ∧ (s.planState = .idle ∨ s.planState = .loaded ∨ s.planState = .stopped)) ∧
    (∃ (t : TileIx), ∃ (s : State), ∃ (x : Tile), x = s.tile t ∧ s.fieldUp = true ∧ (s.planState = .idle ∨ s.planState = .loaded ∨
      s.planState = .stopped ∨ s.planState = .faulted)) ∧
    (∃ (t : TileIx), ∃ (s : State), ∃ (x : Tile), x = s.tile t ∧ s.fieldUp = true ∧ (s.planState = .armed ∨ s.planState = .running ∨
      s.planState = .resting ∨ s.planState = .stopping)) ∧
    (∃ (t : TileIx), ∃ (s : State), ∃ (x : Tile), x = s.tile t ∧ s.fieldUp = true ∧ (s.planState = .armed ∨ s.planState = .running ∨
      s.planState = .resting ∨ s.planState = .stopping)) :=
  ⟨by refine ⟨0, withCode { coder with rx := [(1, List.replicate 16 ⟨zeros 64, 0⟩)] } [], _, rfl, 1, 3, _, ?_, ?_, rfl, ?_⟩
     <;> decide +kernel,
   by refine ⟨0, { withCode coder [] with dn := [(1, [⟨5, 0, .flag 7 (.tile 0 5)⟩, ⟨5, 1, .word (zeros 64) 2 (.tile 0 5)⟩])] }, _,
     rfl, 5, 3, _, ?_, ?_, rfl, 5, 1, zeros 64, 2, .tile 0 5, [⟨5, 0, .flag 7 (.tile 0 5)⟩], ?_, ?_, ?_⟩ <;> decide +kernel,
   by refine ⟨0,
     { withCode coder [] with tiles := [(0, coder), (36, { coder with out := [(3, ⟨[], [.word (zeros 64) 2 (.tile 0 1)]⟩)] })] }, _,
     rfl, 1, 3, _, ?_, ?_, rfl, 36, zeros 64, 2, .tile 0 1, [], ?_, ?_, ?_, ?_⟩ <;> decide +kernel,
   by refine ⟨0, queueFull, _, rfl, 3, ?_, ?_, ?_⟩ <;> decide +kernel,
   by refine ⟨0, queueFull, _, rfl, 3, ?_, ?_, ⟨1, [4], 3, .tile 36 3, 9, 0, 0, some ⟨0, 190⟩⟩, ⟨0, 190⟩, ?_, ?_, ?_, ?_, ?_, ?_,
     ?_, ?_⟩ <;> decide +kernel,
   by refine ⟨0,
     { withCode { coder with pull := [⟨1, [4], 0, 3, 9, 0, 0, 0, some ⟨0, 190⟩⟩] } [] with time := { (running 100).time with counted := 9 } },
     _, rfl, 3, ?_, ?_, ⟨1, [4], 0, 3, 9, 0, 0, 0, some ⟨0, 190⟩⟩, ⟨0, 190⟩, ?_, ?_, ?_, ?_, ?_, ?_⟩ <;> decide +kernel,
   by refine ⟨0, withCode coder [], _, rfl, 3, ?_, ?_, ?_⟩ <;> decide +kernel,
   by refine ⟨0, withCode coder [], _, rfl, _, rfl, ?_, .inl ?_, ?_⟩ <;> decide +kernel,
   by refine ⟨0, withCode coder [], _, rfl, _, rfl, ?_, .inl ?_, ?_⟩ <;> decide +kernel,
   by refine ⟨0, (withCode coder []).withPlan .loaded, _, rfl, _, rfl, ?_, .inl ?_, ?_, ?_⟩ <;> decide +kernel,
   by refine ⟨0, (withCode { coder with halted := true, board := 4, rx := [(1, [⟨zeros 64, 0⟩])] } []).withPlan .faulted, _, rfl,
     ?_, ?_⟩ <;> decide +kernel,
   by refine ⟨0, withCode coder [], _, rfl, ?_, ?_⟩ <;> decide +kernel,
   by refine ⟨0, withCode coder [], _, rfl, ?_, ?_⟩ <;> decide +kernel⟩

theorem witness_MemoryCommandsAct :
    (∃ (t : TileIx), ∃ (b : Fin 8), ∃ (s : State), ∃ n, ∃ u, s.tileClocked t = true ∧ s.get .FLD_SPAD_TEST_test_en (tileDie t) = 1 ∧
      s.get .FLD_SPAD_SECURE_wipe_busy (tileDie t) = 0 ∧ (s.tileStatus t = 0 ∨ s.tileStatus t = 4 ∨ s.tileStatus t = 6) ∧ s.power ≠
      .hush ∧ (s.tile t).tests.find? b = none ∧ n = Table.get 0 s.testPos (8 * t + b) ∧ u = 4096 * b.val + n % 4096) ∧
    (∃ (k : StackIx), ∃ u, ∃ (s : State), ∃ a, s.tilesUp = true ∧ s.get .HBM_CTRL_scrub_hours k ≠ 0 ∧ u < 0xA0000000 ∧ a = (7 -
      k.val) * 0xA0000000 + u) ∧
    (∃ (s : State), s.tilesUp = true) ∧
    (∃ (s : State), s.tilesUp = true) ∧
    (∃ (a : Agent), ∃ (s : State), s.fieldUp = true ∧ isSecure a = false) ∧
    (∃ (a : Agent), ∃ (v : Word), ∃ (s : State), s.fieldUp = true ∧ isSecure a = true ∧ windowOk (bits v.toNat 6 0) (bits v.toNat 11
      7) = false) ∧
    (∃ (a : Agent), ∃ (v : Word), ∃ (s : State), s.fieldUp = true ∧ isSecure a = true ∧ windowOk (bits v.toNat 6 0) (bits v.toNat 11
      7) = true ∧ s.planState = .idle ∧ (bit v.toNat 12 = false ∨ s.secretsRefused = false)) ∧
    (∃ (s : State), s.hubUp = true) ∧
    (∃ (s : State), s.hubUp = true) ∧
    (∃ (v : Word), ∃ (lo : Nat), ∃ (s : State), s.hubUp = true ∧ lo < 2 ^ 32 ∧ s.t1Lo = some lo ∧ s.planState = .idle ∧ lo + 2 ^ 32
      * bits v.toNat 2 0 ≤ 0x4E6000000) ∧
    (∃ (v : Word), ∃ (lo : Nat), ∃ (s : State), s.hubUp = true ∧ lo < 2 ^ 32 ∧ s.t1Lo = some lo ∧ (s.planState ≠ .idle ∨ 0x4E6000000
      < lo + 2 ^ 32 * bits v.toNat 2 0)) ∧
    (∃ (v : Word), ∃ (lo : Nat), ∃ (s : State), s.hubUp = true ∧ lo < 2 ^ 32 ∧ s.t2Lo = some lo ∧ s.planState = .idle ∧ lo + 2 ^ 32
      * bits v.toNat 3 0 ≤ 0x800000000) ∧
    (∃ (v : Word), ∃ (lo : Nat), ∃ (s : State), s.hubUp = true ∧ lo < 2 ^ 32 ∧ s.t2Lo = some lo ∧ (s.planState ≠ .idle ∨ 0x800000000
      < lo + 2 ^ 32 * bits v.toNat 3 0)) :=
  ⟨by refine ⟨0, 2, { (withCode Tile.reset []).set .FLD_SPAD_TEST_test_en 0 1 with spadErr := [(8192, 1)] }, _, _, ?_, ?_, ?_, ?_,
     ?_, ?_, rfl, rfl⟩ <;> decide +kernel,
   by refine ⟨2, 100, up.set .HBM_CTRL_scrub_hours 2 24, _, ?_, ?_, ?_, rfl⟩ <;> decide +kernel,
   by refine ⟨up, ?_⟩ <;> decide +kernel,
   by refine ⟨up, ?_⟩ <;> decide +kernel,
   by refine ⟨.host, up, ?_, ?_⟩ <;> decide +kernel,
   by refine ⟨.security, 0xFFF, up, ?_, ?_, ?_⟩ <;> decide +kernel,
   by refine ⟨.security, 0x81, up, ?_, ?_, ?_, ?_, ?_⟩ <;> decide +kernel,
   by refine ⟨up, ?_⟩ <;> decide +kernel,
   by refine ⟨up, ?_⟩ <;> decide +kernel,
   by refine ⟨4, 0xE6000000, { up with t1Lo := some 0xE6000000 }, ?_, ?_, ?_, ?_, ?_⟩ <;> decide +kernel,
   by refine ⟨5, 0xE6000000, { up with t1Lo := some 0xE6000000 }, ?_, ?_, ?_, ?_⟩ <;> decide +kernel,
   by refine ⟨8, 0, { up with t2Lo := some 0 }, ?_, ?_, ?_, ?_, ?_⟩ <;> decide +kernel,
   by refine ⟨8, 1, { up with t2Lo := some 1 }, ?_, ?_, ?_, ?_⟩ <;> decide +kernel⟩

theorem witness_FlitsCross :
    (∃ (p : PortIx), ∃ (v : Vector Byte 256), ∃ (b : List Byte), ∃ (cw : Fin 3), ∃ (s : State), ∃ (x : LinkPort), ∃ (y : LinkPort),
      x = s.port p ∧ b = v.toList ∧ s.powered = true ∧ y =
      { x with rxBits := (x.rxBits + flitBits) % codewordBits, rxBad := if x.nextBegins then decide (cw.val = 2) else x.rxBad } ∧
      s.train p = .flitSync ∧ ∃ good, good = (!x.inBad cw && crcOk b)) ∧
    (∃ (p : PortIx), ∃ (v : Vector Byte 256), ∃ (b : List Byte), ∃ (cw : Fin 3), ∃ (s : State), ∃ (x : LinkPort), ∃ (y : LinkPort),
      x = s.port p ∧ b = v.toList ∧ s.powered = true ∧ y =
      { x with rxBits := (x.rxBits + flitBits) % codewordBits, rxBad := if x.nextBegins then decide (cw.val = 2) else x.rxBad } ∧
      s.train p = .active ∧ (x.inBad cw = true ∨ crcOk b = false)) ∧
    (∃ (p : PortIx), ∃ (v : Vector Byte 256), ∃ (b : List Byte), ∃ (cw : Fin 3), ∃ (s : State), ∃ (x : LinkPort), ∃ (y : LinkPort),
      x = s.port p ∧ b = v.toList ∧ s.powered = true ∧ y =
      { x with rxBits := (x.rxBits + flitBits) % codewordBits, rxBad := if x.nextBegins then decide (cw.val = 2) else x.rxBad } ∧
      s.train p = .active ∧ x.inBad cw = false ∧ crcOk b = true ∧ bits (leAt b 0 4) 1 0 = 2 ∧ s.selectiveNow p = false ∧ ∃ d, d =
      (bits (leAt b 0 4) 25 14 + 4096 - x.una) % 4096) ∧
    (∃ (p : PortIx), ∃ (v : Vector Byte 256), ∃ (b : List Byte), ∃ (cw : Fin 3), ∃ (s : State), ∃ (x : LinkPort), ∃ (y : LinkPort),
      x = s.port p ∧ b = v.toList ∧ s.powered = true ∧ y =
      { x with rxBits := (x.rxBits + flitBits) % codewordBits, rxBad := if x.nextBegins then decide (cw.val = 2) else x.rxBad } ∧
      s.train p = .active ∧ x.inBad cw = false ∧ crcOk b = true ∧ bits (leAt b 0 4) 1 0 = 0 ∧ bits (leAt b 0 4) 13 2 = x.exp ∧
      x.reorder = []) ∧
    (∃ (p : PortIx), ∃ (v : Vector Byte 256), ∃ (b : List Byte), ∃ (cw : Fin 3), ∃ (s : State), ∃ (x : LinkPort), ∃ (y : LinkPort),
      x = s.port p ∧ b = v.toList ∧ s.powered = true ∧ y =
      { x with rxBits := (x.rxBits + flitBits) % codewordBits, rxBad := if x.nextBegins then decide (cw.val = 2) else x.rxBad } ∧
      s.train p = .active ∧ x.inBad cw = false ∧ crcOk b = true ∧ bits (leAt b 0 4) 1 0 = 0 ∧ bits (leAt b 0 4) 13 2 = x.exp ∧
      x.reorder = [] ∧ bits (leAt b 0 4) 28 26 = 0 ∧ s.carries p 0 = true ∧ s.fenced p = false ∧ ∃ r, r = leAt b 4 8 ∧ (s.get
      .RTE_EPOCH_epoch 0 = 0 ∨ bits r 15 0 ≠ s.get .RTE_EPOCH_epoch 0)) ∧
    (∃ (p : PortIx), ∃ (v : Vector Byte 256), ∃ (b : List Byte), ∃ (cw : Fin 3), ∃ (s : State), ∃ (x : LinkPort), ∃ (y : LinkPort),
      x = s.port p ∧ b = v.toList ∧ s.powered = true ∧ y =
      { x with rxBits := (x.rxBits + flitBits) % codewordBits, rxBad := if x.nextBegins then decide (cw.val = 2) else x.rxBad } ∧
      s.train p = .active ∧ x.inBad cw = false ∧ crcOk b = true ∧ bits (leAt b 0 4) 1 0 = 0 ∧ bits (leAt b 0 4) 13 2 = x.exp ∧
      x.reorder = [] ∧ bits (leAt b 0 4) 28 26 = 0 ∧ s.carries p 0 = true ∧ s.fenced p = false ∧ ∃ r, r = leAt b 4 8 ∧ ∃ i, s.get
      .RTE_EPOCH_epoch 0 ≠ 0 ∧ bits r 15 0 = s.get .RTE_EPOCH_epoch 0 ∧ 2 ≤ s.rstate ∧ s.afterStopWindow = false ∧ s.router.flaws =
      [] ∧ (s.rimItems (p.val / 6)).find? (fun i => i.tag == bits r 35 16) = some i ∧ i.peal = 0xFFFF) ∧
    (∃ (p : PortIx), ∃ (v : Vector Byte 256), ∃ (b : List Byte), ∃ (cw : Fin 3), ∃ (s : State), ∃ (x : LinkPort), ∃ (y : LinkPort),
      x = s.port p ∧ b = v.toList ∧ s.powered = true ∧ y =
      { x with rxBits := (x.rxBits + flitBits) % codewordBits, rxBad := if x.nextBegins then decide (cw.val = 2) else x.rxBad } ∧
      s.train p = .active ∧ x.inBad cw = false ∧ crcOk b = true ∧ ∃ vc, ∃ r, bits (leAt b 0 4) 1 0 = 0 ∧ bits (leAt b 0 4) 13 2 =
      x.exp ∧ x.reorder = [] ∧ vc = bits (leAt b 0 4) 28 26 ∧ vc ≠ 0 ∧ bit (leAt b 0 4) 29 = true ∧ s.carries p vc = true ∧ s.fenced
      p = false ∧ s.router.flaws = [] ∧ r = leAt b 4 8 ∧ x.rxPackets = [] ∧ routeDest' r = s.deviceId ∧ routeKind r = 0 ∧ routeFlag
      r = false ∧ bits r 63 56 < 240 ∧ leAt b 12 1 = 0) ∧
    (∃ (p : PortIx), ∃ (v : Vector Byte 256), ∃ (b : List Byte), ∃ (cw : Fin 3), ∃ (s : State), ∃ (x : LinkPort), ∃ (y : LinkPort),
      x = s.port p ∧ b = v.toList ∧ s.powered = true ∧ y =
      { x with rxBits := (x.rxBits + flitBits) % codewordBits, rxBad := if x.nextBegins then decide (cw.val = 2) else x.rxBad } ∧
      s.train p = .active ∧ x.inBad cw = false ∧ crcOk b = true ∧ bits (leAt b 0 4) 1 0 = 0 ∧ 3072 ≤ (bits (leAt b 0 4) 13 2 + 4096
      - x.exp) % 4096) ∧
    (∃ (p : PortIx), ∃ (v : Vector Byte 256), ∃ (b : List Byte), ∃ (cw : Fin 3), ∃ (s : State), ∃ (x : LinkPort), ∃ (y : LinkPort),
      x = s.port p ∧ b = v.toList ∧ s.powered = true ∧ y =
      { x with rxBits := (x.rxBits + flitBits) % codewordBits, rxBad := if x.nextBegins then decide (cw.val = 2) else x.rxBad } ∧
      s.train p = .active ∧ x.inBad cw = false ∧ crcOk b = true ∧ bits (leAt b 0 4) 1 0 = 3) ∧
    (∃ (p : PortIx), ∃ (s : State), ∃ (x : LinkPort), x = s.port p ∧ s.powered = true ∧ s.train p = .flitSync) ∧
    (∃ (p : PortIx), ∃ (s : State), ∃ (x : LinkPort), x = s.port p ∧ s.powered = true ∧ s.train p = .active ∧ ∃ ws, ws =
      x.urgentWords s.time.tick ∧ ws ≠ [] ∧ s.fenced p = false ∧ x.closing = none) ∧
    (∃ (p : PortIx), ∃ (s : State), ∃ (x : LinkPort), x = s.port p ∧ s.powered = true ∧ s.train p = .active ∧ x.urgentWords
      s.time.tick = [] ∧ ∃ f, x.nextResend = some f) ∧
    (∃ (p : PortIx), ∃ (s : State), ∃ (x : LinkPort), x = s.port p ∧ s.powered = true ∧ s.train p = .active ∧ x.urgentWords
      s.time.tick = [] ∧ ∃ f, x.nextResend = none ∧ x.passFlit = some f) ∧
    (∃ (p : PortIx), ∃ (ft : Fin 512), ∃ (s : State), ∃ (x : LinkPort), x = s.port p ∧ s.powered = true ∧ s.train p = .active ∧
      x.urgentWords s.time.tick = [] ∧ x.nextResend = none ∧ x.passFlit = none ∧ ∃ h, ∃ hs, x.hold = h :: hs ∧ x.kept.length < 1024
      ∧ s.vc0Ready p ft h = true) ∧
    (∃ (p : PortIx), ∃ (s : State), ∃ (x : LinkPort), x = s.port p ∧ s.powered = true ∧ s.train p = .active ∧ x.urgentWords
      s.time.tick = [] ∧ x.nextResend = none ∧ x.passFlit = none ∧ x.hold = [] ∧ ∃ c, ∃ cs, x.normal = c :: cs ∧ s.fenced p = false)
      ∧
    (∃ (p : PortIx), ∃ (s : State), ∃ (x : LinkPort), x = s.port p ∧ s.powered = true ∧ s.train p = .active ∧ x.urgentWords
      s.time.tick = [] ∧ x.nextResend = none ∧ x.passFlit = none ∧ x.hold = [] ∧ ∃ v, ∃ d, x.normal = [] ∧ x.kept.length < 1024 ∧
      s.dynPick p = some (v, d)) ∧
    (∃ (p : PortIx), ∃ (s : State), ∃ (x : LinkPort), x = s.port p ∧ s.powered = true ∧ s.train p = .active ∧ x.urgentWords
      s.time.tick = [] ∧ x.nextResend = none ∧ x.passFlit = none ∧ x.hold = [] ∧ x.normal = [] ∧ s.dynPick p = none) ∧
    (∃ (p : PortIx), ∃ (s : State), s.powered = true ∧ s.train p = .active ∧ s.broken p = true) ∧
    (∃ (p : PortIx), ∃ (s : State), s.broken p = false) :=
  ⟨by refine ⟨3, flitOf 0 0 0 0 9, _, 0, (linked { LinkPort.reset with rxGood := 3 }).set .LNK_STATUS_state 3 6, _, _, rfl, rfl, ?_,
     rfl, ?_, _, rfl⟩ <;> decide +kernel,
   by refine ⟨3, vec 256 (zeros 256), _, 0, linked { LinkPort.reset with nakOpen := true }, _, _, rfl, rfl, ?_, rfl, ?_, ?_⟩
     <;> decide +kernel,
   by refine ⟨3, flitOf 2 0 0 0 0, _, 0, linked { LinkPort.reset with kept := [aFlit 0, aFlit 1], nxt := 2 }, _, _, rfl, rfl, ?_,
     rfl, ?_, ?_, ?_, ?_, ?_, _, rfl⟩ <;> decide +kernel,
   by refine ⟨3, flitOf 0 0 0 0 9, _, 0, linked LinkPort.reset, _, _, rfl, rfl, ?_, rfl, ?_, ?_, ?_, ?_, ?_, ?_⟩ <;> decide +kernel,
   by refine ⟨3, flitOf 0 0 0 0 8, _, 0, routed (linked LinkPort.reset), _, _, rfl, rfl, ?_, rfl, ?_, ?_, ?_, ?_, ?_, ?_, ?_, ?_,
     ?_, _, rfl, ?_⟩ <;> decide +kernel,
   by refine ⟨3, flitOf 0 0 0 0 (9 + 2^16*77), _, 0, routed (linked LinkPort.reset), _, _, rfl, rfl, ?_, rfl, ?_, ?_, ?_, ?_, ?_,
     ?_, ?_, ?_, ?_, _, rfl, ⟨77, 0xFFFF, 0, 0x3F⟩, ?_, ?_, ?_, ?_, ?_, ?_, ?_⟩ <;> decide +kernel,
   by refine ⟨3, flitOf 0 0 0 2 (mkRoute 0x214 9 0 false 0 0 4), _, 0, linked LinkPort.reset, _, _, rfl, rfl, ?_, rfl, ?_, ?_, ?_,
     2, mkRoute 0x214 9 0 false 0 0 4, ?_, ?_, ?_, ?_, ?_, ?_, ?_, ?_, ?_, ?_, ?_, ?_, ?_, ?_, ?_, ?_⟩ <;> decide +kernel,
   by refine ⟨3, flitOf 0 4095 0 0 9, _, 0, linked LinkPort.reset, _, _, rfl, rfl, ?_, rfl, ?_, ?_, ?_, ?_, ?_⟩ <;> decide +kernel,
   by refine ⟨3, flitOf 3 0 0 0 9, _, 0, linked LinkPort.reset, _, _, rfl, rfl, ?_, rfl, ?_, ?_, ?_, ?_⟩ <;> decide +kernel,
   by refine ⟨3, (linked LinkPort.reset).set .LNK_STATUS_state 3 6, _, rfl, ?_, ?_⟩ <;> decide +kernel,
   by refine ⟨3, linked { LinkPort.reset with urgent := [⟨2, false, padTo 6 [], padTo 32 []⟩] }, _, rfl, ?_, ?_, _, rfl, ?_, ?_, ?_⟩
     <;> decide +kernel,
   by refine ⟨3, linked { LinkPort.reset with kept := [aFlit 0], nxt := 1, resend := [0] }, _, rfl, ?_, ?_, ?_, aFlit 0, ?_⟩
     <;> decide +kernel,
   by refine ⟨3, linked { LinkPort.reset with kept := [aFlit 0], nxt := 1, pass := some 0 }, _, rfl, ?_, ?_, ?_, aFlit 0, ?_, ?_⟩
     <;> decide +kernel,
   by refine ⟨3, 5, linked { LinkPort.reset with hold := [aHeld] }, _, rfl, ?_, ?_, ?_, ?_, ?_, aHeld, [], ?_, ?_, ?_⟩
     <;> decide +kernel,
   by refine ⟨3, linked { LinkPort.reset with normal := [⟨6, false, padTo 6 [], padTo 32 []⟩] }, _, rfl, ?_, ?_, ?_, ?_, ?_, ?_, ⟨6,
     false, padTo 6 [], padTo 32 []⟩, [], ?_, ?_⟩ <;> decide +kernel,
   by refine ⟨3, linked { LinkPort.reset with dyn := [aDyn], peerFreed := [(2, 8)] }, _, rfl, ?_, ?_, ?_, ?_, ?_, ?_, 2, aDyn, ?_,
     ?_, ?_⟩ <;> decide +kernel,
   by refine ⟨3, linked LinkPort.reset, _, rfl, ?_, ?_, ?_, ?_, ?_, ?_, ?_, ?_⟩ <;> decide +kernel,
   by refine ⟨3, (linked { LinkPort.reset with overflow := true }).set .LNK_GIVE_in_plan 3 1, ?_, ?_, ?_⟩ <;> decide +kernel,
   by refine ⟨3, up, ?_⟩ <;> decide +kernel⟩

theorem witness_RouterForwards :
    (∃ (t : TileIx), ∃ (low : Bool), ∃ (s : State), ∃ q, ∃ b, ∃ p, ∃ tag, ∃ rest, q = (if low then 4 else 5) ∧ s.fieldUp = true ∧
      frontLink ((s.tile t).outQ q).mid = some (b, p, tag, rest) ∧ (s.get .RTE_EPOCH_epoch 0 = 0 ∨ s.tagSlots p tag = [])) ∧
    (∃ (t : TileIx), ∃ (low : Bool), ∃ (s : State), ∃ q, ∃ b, ∃ p, ∃ tag, ∃ rest, q = (if low then 4 else 5) ∧ s.fieldUp = true ∧
      frontLink ((s.tile t).outQ q).mid = some (b, p, tag, rest) ∧ ∃ idx, ∃ m, ∃ slot, ∃ ent, 0 < s.get .RTE_EPOCH_epoch 0 ∧ s.get
      .RTE_EPOCH_epoch 0 < 2 ^ 16 ∧ (s.rstate = 3 ∨ s.rstate = 4 ∨ s.rstate = 5) ∧ s.router.stopMeasure = none ∧ s.tagSlots p tag ≠
      [] ∧ idx = Table.get 0 (s.port p).wordIndex tag ∧ idx < 2 ^ 20 ∧ tag < 2 ^ 20 ∧ s.occurrence p tag idx (Table.get 0 (s.port
      p).slotUse (slotKey tag idx)) = some (m, slot, ent) ∧ s.router.flaws = [] ∧ s.fenced p = false ∧ s.train p = .active ∧ s.get
      .LNK_STATUS_mode p ≠ 1 ∧ (s.port p).hold.length < 2048) ∧
    (∃ (t : TileIx), ∃ (low : Bool), ∃ (s : State), ∃ q, ∃ b, ∃ p, ∃ tag, ∃ rest, q = (if low then 4 else 5) ∧ s.fieldUp = true ∧
      frontLink ((s.tile t).outQ q).mid = some (b, p, tag, rest) ∧ ∃ idx, ∃ m, ∃ slot, ∃ ent, 0 < s.get .RTE_EPOCH_epoch 0 ∧ s.get
      .RTE_EPOCH_epoch 0 < 2 ^ 16 ∧ (s.rstate = 3 ∨ s.rstate = 4 ∨ s.rstate = 5) ∧ s.router.stopMeasure = none ∧ s.tagSlots p tag ≠
      [] ∧ idx = Table.get 0 (s.port p).wordIndex tag ∧ idx < 2 ^ 20 ∧ tag < 2 ^ 20 ∧ s.occurrence p tag idx (Table.get 0 (s.port
      p).slotUse (slotKey tag idx)) = some (m, slot, ent) ∧ s.router.flaws = [] ∧ s.fenced p = true) ∧
    (∃ (vc : Fin 8), ∃ (s : State), ∃ d, ∃ det, ∃ mine, s.powered = true ∧ s.escaper vc = some d ∧ det = entryDet (s.routeEntry
      d.flit.route) ∧ det < 36 ∧ mine = s.router.adaptive.filter (fun y => y.packet == d.packet)) ∧
    (∃ (s : State), ∃ n, s.powered = true ∧ s.get .RTE_SAMPLE_CFG_enable 0 = 1 ∧ isDownbeat s.time.beat = true ∧ s.time.beat / 16 %
      max 1 (s.get .RTE_SAMPLE_CFG_period_measures 0) = 0 ∧ s.router.sampleAt ≠ some s.time.beat ∧ n = s.get .TEL_CONG_COUNT_written
      0) :=
  ⟨by refine ⟨0, true,
     (let s := withCode { coder with out := [(4, ⟨[], [.word (zeros 64) 0 (.link 3 77)]⟩)] } []; s.set .RTE_EPOCH_epoch 0 0), _,
     zeros 64, 3, 77, [], rfl, ?_, ?_, ?_⟩ <;> decide +kernel,
   by refine ⟨0, true,
     { routed (linked LinkPort.reset) with tiles := [(0, { coder with out := [(4, ⟨[], [.word (zeros 64) 0 (.link 3 77)]⟩)] })] },
     _, zeros 64, 3, 77, [], rfl, ?_, ?_, _, 1, 6, ⟨3, 1, 6, 2, 77, 0⟩, ?_, ?_, ?_, ?_, ?_, rfl, ?_, ?_, ?_, ?_, ?_, ?_, ?_, ?_⟩
     <;> decide +kernel,
   by refine ⟨0, true,
     { routed (linked LinkPort.reset) with tiles := [(0, { coder with out := [(4, ⟨[], [.word (zeros 64) 0 (.link 3 77)]⟩)] })] }
     |>.set .RTE_FENCE_LO_fence_lo 0 8, _, zeros 64, 3, 77, [], rfl, ?_, ?_, _, 1, 6, ⟨3, 1, 6, 2, 77, 0⟩, ?_, ?_, ?_, ?_, ?_, rfl,
     ?_, ?_, ?_, ?_, ?_⟩ <;> decide +kernel,
   by refine ⟨2, escaping, aDyn, _, _, ?_, ?_, rfl, ?_, rfl⟩ <;> decide +kernel,
   by refine ⟨((running 12).set .RTE_SAMPLE_CFG_enable 0 1).set .RTE_SAMPLE_CFG_period_measures 0 7, _, ?_, ?_, ?_, ?_, ?_, rfl⟩
     <;> decide +kernel⟩

theorem witness_FencesAndTables :
    (∃ (r : RimIx), ∃ (s : State), s.powered = true ∧ s.get .RTE_CTRL_scrub_en 0 = 1 ∧ s.router.flaws.filter (fun f => f.rim.val ==
      r.val) = []) ∧
    (∃ (r : RimIx), ∃ (s : State), s.powered = true ∧ s.get .RTE_CTRL_scrub_en 0 = 1 ∧ ∃ f, s.router.flaws.filter (fun f =>
      f.rim.val == r.val) = [f] ∧ f.result.val ≤ 1) ∧
    (∃ (r : RimIx), ∃ (s : State), s.powered = true ∧ s.get .RTE_CTRL_scrub_en 0 = 1 ∧ ∃ f, s.router.flaws.filter (fun f =>
      f.rim.val == r.val) = [f] ∧ (f.result = 2 ∨ f.result = 3)) ∧
    (∃ (a : Agent), ∃ (s : State), s.agentUp a = true ∧ isManagement a = false) ∧
    (∃ (a : Agent), ∃ (s : State), s.agentUp a = true ∧ isManagement a = true ∧ s.fencesHeld = false) ∧
    (∃ (a : Agent), ∃ (s : State), s.agentUp a = true ∧ isManagement a = true ∧ s.fencesHeld = false) ∧
    (∃ (a : Agent), ∃ (v : Word), ∃ (s : State), s.agentUp a = true ∧ isManagement a = true ∧ s.fencesHeld = true ∧ (∃ p : PortIx,
      p.val < 32 ∧ s.fenced p = true ∧ bit v.toNat p = false)) ∧
    (∃ (a : Agent), ∃ (v : Word), ∃ (s : State), s.agentUp a = true ∧ ∃ i, s.router.flaws = [] ∧ bits v.toNat 2 0 = 3 ∧ i = bits
      v.toNat 11 3) ∧
    (∃ (a : Agent), ∃ (v : Word), ∃ (s : State), s.agentUp a = true ∧ ∃ i, s.router.flaws = [] ∧ bits v.toNat 2 0 = 4 ∧ i = bits
      v.toNat 11 3) ∧
    (∃ (a : Agent), ∃ (v : Word), ∃ (s : State), s.agentUp a = true ∧ bits v.toNat 2 0 ≠ 3 ∧ bits v.toNat 2 0 ≠ 4) ∧
    (∃ (a : Agent), ∃ (v : Word), ∃ (s : State), s.agentUp a = true ∧ ∃ e, e = s.get .RTE_TBL_DATA_LO_data_lo 0 + 2 ^ 32 * v.toNat ∧
      ∃ i, i = s.get .RTE_TBL_ADDR_index 0 ∧ (s.rstate ≠ 0 ∨ (s.get .RTE_TBL_ADDR_table 0 = 3 ∧ entryValid e = true ∧ 35 < entryDet
      e))) ∧
    (∃ (a : Agent), ∃ (v : Word), ∃ (s : State), s.agentUp a = true ∧ ∃ e, e = s.get .RTE_TBL_DATA_LO_data_lo 0 + 2 ^ 32 * v.toNat ∧
      ∃ i, i = s.get .RTE_TBL_ADDR_index 0 ∧ s.rstate = 0 ∧ s.get .RTE_TBL_ADDR_table 0 = 3 ∧ (entryValid e = false ∨ entryDet e ≤
      35)) ∧
    (∃ (a : Agent), ∃ (v : Word), ∃ (s : State), s.agentUp a = true ∧ ∃ e, e = s.get .RTE_TBL_DATA_LO_data_lo 0 + 2 ^ 32 * v.toNat ∧
      ∃ i, i = s.get .RTE_TBL_ADDR_index 0 ∧ s.rstate = 0 ∧ s.get .RTE_TBL_ADDR_table 0 = 4) :=
  ⟨by refine ⟨2, up.set .RTE_CTRL_scrub_en 0 1, ?_, ?_, ?_⟩ <;> decide +kernel,
   by refine ⟨2, (let s := up.set .RTE_CTRL_scrub_en 0 1; { s with router := { s.router with flaws := [⟨2, 1, 9, 3, 0⟩] } }), ?_,
     ?_, ⟨2, 1, 9, 3, 0⟩, ?_, ?_⟩ <;> decide +kernel,
   by refine ⟨2, (let s := up.set .RTE_CTRL_scrub_en 0 1; { s with router := { s.router with flaws := [⟨2, 1, 9, 3, 3⟩] } }), ?_,
     ?_, ⟨2, 1, 9, 3, 3⟩, ?_, ?_⟩ <;> decide +kernel,
   by refine ⟨.host, up, ?_, ?_⟩ <;> decide +kernel,
   by refine ⟨.i3c, { up with ports := [(3, { LinkPort.reset with hold := [aHeld] })] }, ?_, ?_, ?_⟩ <;> decide +kernel,
   by refine ⟨.ethernet, { up with ports := [(35, { LinkPort.reset with hold := [aHeld] })] }, ?_, ?_, ?_⟩ <;> decide +kernel,
   by refine ⟨.mc0, 0, (up.set .MGT_STATUS_safe 0 1).set .RTE_FENCE_LO_fence_lo 0 8, ?_, ?_, ?_, ?_⟩ <;> decide +kernel,
   by refine ⟨.mc0, 3 + 8 * 277, routed up, ?_, _, ?_, ?_, rfl⟩ <;> decide +kernel,
   by refine ⟨.mc0, 4 + 8 * 2, routed up, ?_, _, ?_, ?_, rfl⟩ <;> decide +kernel,
   by refine ⟨.mc0, 2 + 8 * 2, routed up, ?_, ?_, ?_⟩ <;> decide +kernel,
   by refine ⟨.mc0, 0x640, (routed up).set .RTE_TBL_ADDR_table 0 3, ?_, _, rfl, _, rfl, ?_⟩ <;> decide +kernel,
   by refine ⟨.mc0, 0x410, ((routed up).set .RTE_TBL_ADDR_table 0 3).set .RTE_TBL_ADDR_index 0 277, ?_, _, rfl, _, rfl, ?_, ?_, ?_⟩
     <;> decide +kernel,
   by refine ⟨.host, 0, (((routed up).set .RTE_TBL_ADDR_table 0 4).set .RTE_TBL_ADDR_index 0 3).set .RTE_TBL_DATA_LO_data_lo 0 77,
     ?_, _, rfl, _, rfl, ?_, ?_⟩ <;> decide +kernel⟩

theorem witness_OrderedPackets :
    (∃ (a : Fin 11), ∃ (dest : BitVec 16), ∃ (vc : Fin 8), ∃ (n : Fin 4), ∃ (len : Fin 240), ∃ (data : Vector Byte 960), ∃ (via :
      Fin 16), ∃ (s : State), ∃ (c : Instr), ∃ (ps : List (List Byte)), c = .contextRequest (.send a dest vc n len data via) ∧ ps =
      payloadsOf data.toList (n.val + 1) (len.val + 1) ∧ s.powered = true ∧ 1 ≤ vc.val ∧ dest.toNat ≠ s.deviceId ∧ s.deviceId < 2 ^
      16 ∧ ∃ r, s.pair? dest.toNat vc = none ∧ s.policy vc = 0 ∧ r = mkRoute dest.toNat s.deviceId 0 false 0 0 (len.val + 1)) ∧
    (∃ (a : Fin 11), ∃ (dest : BitVec 16), ∃ (vc : Fin 8), ∃ (n : Fin 4), ∃ (len : Fin 240), ∃ (data : Vector Byte 960), ∃ (via :
      Fin 16), ∃ (s : State), ∃ (c : Instr), ∃ (ps : List (List Byte)), c = .contextRequest (.send a dest vc n len data via) ∧ ps =
      payloadsOf data.toList (n.val + 1) (len.val + 1) ∧ s.powered = true ∧ 1 ≤ vc.val ∧ dest.toNat ≠ s.deviceId ∧ s.deviceId < 2 ^
      16 ∧ ∃ r, s.pair? dest.toNat vc = none ∧ s.policy vc ≠ 0 ∧ (s.router.pairs.filter (fun y => y.dest % 6 == dest.toNat %
      6)).length < 1024 ∧ r = mkRoute dest.toNat s.deviceId 0 true 0 0 (len.val + 1)) ∧
    (∃ (a : Fin 11), ∃ (dest : BitVec 16), ∃ (vc : Fin 8), ∃ (n : Fin 4), ∃ (len : Fin 240), ∃ (data : Vector Byte 960), ∃ (via :
      Fin 16), ∃ (s : State), ∃ (c : Instr), ∃ (ps : List (List Byte)), c = .contextRequest (.send a dest vc n len data via) ∧ ps =
      payloadsOf data.toList (n.val + 1) (len.val + 1) ∧ s.powered = true ∧ 1 ≤ vc.val ∧ dest.toNat ≠ s.deviceId ∧ s.deviceId < 2 ^
      16 ∧ ∃ x, ∃ r, s.pair? dest.toNat vc = some x ∧ x.ord = true ∧ (x.next + 2 ^ 16 - x.base) % 2 ^ 16 < x.window ∧ x.dest =
      dest.toNat ∧ x.vc = vc.val ∧ s.policy vc = 0 ∧ r = mkRoute dest.toNat s.deviceId 0 false 0 x.next (len.val + 1)) ∧
    (∃ (a : Fin 11), ∃ (dest : BitVec 16), ∃ (vc : Fin 8), ∃ (n : Fin 4), ∃ (len : Fin 240), ∃ (data : Vector Byte 960), ∃ (via :
      Fin 16), ∃ (s : State), ∃ (c : Instr), ∃ (ps : List (List Byte)), c = .contextRequest (.send a dest vc n len data via) ∧ ps =
      payloadsOf data.toList (n.val + 1) (len.val + 1) ∧ s.powered = true ∧ 1 ≤ vc.val ∧ dest.toNat ≠ s.deviceId ∧ s.deviceId < 2 ^
      16 ∧ ∃ x, ∃ r, s.pair? dest.toNat vc = some x ∧ x.ord = true ∧ (x.next + 2 ^ 16 - x.base) % 2 ^ 16 < x.window ∧ x.dest =
      dest.toNat ∧ x.vc = vc.val ∧ s.policy vc = 1 ∧ r = mkRoute dest.toNat s.deviceId 1 false 0 x.next (len.val + 1) ∧ entryValid
      (s.routeEntry r) = true ∧ s.router.flaws = []) ∧
    (∃ (a : Fin 11), ∃ (dest : BitVec 16), ∃ (vc : Fin 8), ∃ (n : Fin 4), ∃ (len : Fin 240), ∃ (data : Vector Byte 960), ∃ (via :
      Fin 16), ∃ (s : State), ∃ (c : Instr), ∃ (ps : List (List Byte)), c = .contextRequest (.send a dest vc n len data via) ∧ ps =
      payloadsOf data.toList (n.val + 1) (len.val + 1) ∧ s.powered = true ∧ 1 ≤ vc.val ∧ dest.toNat ≠ s.deviceId ∧ s.deviceId < 2 ^
      16 ∧ ∃ x, s.pair? dest.toNat vc = some x ∧ x.ord = true ∧ x.window ≤ (x.next + 2 ^ 16 - x.base) % 2 ^ 16) ∧
    (∃ (s : State), ∃ p, ∃ k, ∃ rest, s.powered = true ∧ takeArrival (fun r => routeKind r == 0) s.router.arrivals = some ((p, k),
      rest) ∧ ∃ src, src = routeSource k.route ∧ ∃ x, s.context? src k.vc = some x) ∧
    (∃ (s : State), ∃ p, ∃ k, ∃ rest, s.powered = true ∧ takeArrival (fun r => routeKind r == 0) s.router.arrivals = some ((p, k),
      rest) ∧ ∃ src, src = routeSource k.route ∧ ∃ free, ∃ exp, s.context? src k.vc = none ∧ (s.router.contexts.filter (fun c =>
      c.source % 6 == src % 6)).length < 1024 ∧ free = 4096 - ((s.router.contexts.filter (fun c => c.source % 6 == src % 6)).map
      (fun c => c.window)).sum ∧ 4 ≤ free ∧ exp = (routeSeq k.route + 1) % 2 ^ 16) ∧
    (∃ (s : State), ∃ p, ∃ k, ∃ rest, s.powered = true ∧ takeArrival (fun r => routeKind r == 0) s.router.arrivals = some ((p, k),
      rest) ∧ ∃ src, src = routeSource k.route ∧ s.context? src k.vc = none ∧ 1024 ≤ (s.router.contexts.filter (fun c => c.source %
      6 == src % 6)).length) ∧
    (∃ (s : State), ∃ p, ∃ k, ∃ rest, s.powered = true ∧ takeArrival (fun r => routeKind r == 4) s.router.arrivals = some ((p, k),
      rest) ∧ ∃ dest, ∃ vc, ∃ w, dest = routeSource k.route ∧ vc = routeVia k.route ∧ w = leAt (k.payloads.headD []) 0 2 ∧ w ≠ 0 ∧
      (∀ x, s.pair? dest vc = some x → x.ord = false)) ∧
    (∃ (s : State), ∃ p, ∃ k, ∃ rest, s.powered = true ∧ takeArrival (fun r => routeKind r == 4) s.router.arrivals = some ((p, k),
      rest) ∧ ∃ dest, ∃ vc, ∃ w, dest = routeSource k.route ∧ vc = routeVia k.route ∧ w = leAt (k.payloads.headD []) 0 2 ∧ ∃ x, w ≠
      0 ∧ s.pair? dest vc = some x ∧ x.ord = true ∧ s.router.stalled = []) ∧
    (∃ (s : State), ∃ p, ∃ k, ∃ rest, s.powered = true ∧ takeArrival (fun r => routeKind r == 4) s.router.arrivals = some ((p, k),
      rest) ∧ ∃ dest, ∃ vc, ∃ w, dest = routeSource k.route ∧ vc = routeVia k.route ∧ w = leAt (k.payloads.headD []) 0 2 ∧ ∃ x, w =
      0 ∧ s.pair? dest vc = some x ∧ x.ord = true ∧ s.router.stalled = []) ∧
    (∃ (s : State), ∃ p, ∃ k, ∃ rest, s.powered = true ∧ takeArrival (fun r => routeKind r == 1 || routeKind r == 2 || routeKind r
      == 3) s.router.arrivals = some ((p, k), rest) ∧ s.context? (routeSource k.route) k.vc = none) ∧
    (∃ (s : State), ∃ p, ∃ k, ∃ rest, s.powered = true ∧ takeArrival (fun r => routeKind r == 1 || routeKind r == 2 || routeKind r
      == 3) s.router.arrivals = some ((p, k), rest) ∧ ∃ x, s.context? (routeSource k.route) k.vc = some x ∧ x.held = [] ∧ routeSeq
      k.route = x.exp ∧ 0 < x.window ∧ k.payloads ≠ [] ∧ leAt (k.payloads.headD []) 0 1 = 0) ∧
    (∃ (s : State), ∃ p, ∃ k, ∃ rest, s.powered = true ∧ takeArrival (fun r => routeKind r == 1 || routeKind r == 2 || routeKind r
      == 3) s.router.arrivals = some ((p, k), rest) ∧ ∃ x, ∃ d, s.context? (routeSource k.route) k.vc = some x ∧ d = (routeSeq
      k.route + 2 ^ 16 - x.exp) % 2 ^ 16 ∧ d ≠ 0 ∧ d < x.window ∧ x.held.any (fun j => routeSeq j.route == routeSeq k.route) =
      false) ∧
    (∃ (s : State), ∃ p, ∃ k, ∃ rest, s.powered = true ∧ takeArrival (fun r => routeKind r == 5) s.router.arrivals = some ((p, k),
      rest)) ∧
    (∃ (s : State), ∃ p, ∃ k, ∃ rest, s.powered = true ∧ takeArrival (fun r => routeKind r == 6) s.router.arrivals = some ((p, k),
      rest) ∧ s.context? (routeSource k.route) k.vc = none) ∧
    (∃ (s : State), ∃ p, ∃ k, ∃ rest, s.powered = true ∧ takeArrival (fun r => routeKind r == 6) s.router.arrivals = some ((p, k),
      rest) ∧ ∃ x, s.context? (routeSource k.route) k.vc = some x ∧ x.held = [] ∧ routeSeq k.route = x.exp ∧ 0 < x.window ∧
      x.uncovered < 15) ∧
    (∃ (src : BitVec 16), ∃ (vc : Fin 8), ∃ (s : State), s.powered = true ∧ ∃ x, s.context? src.toNat vc = some x ∧ 0 < x.uncovered)
      ∧
    (∃ (src : BitVec 16), ∃ (vc : Fin 8), ∃ (s : State), s.powered = true ∧ ∃ x, s.pair? src.toNat vc = some x ∧ s.idlePair x =
      true) :=
  ⟨by refine ⟨4, 0x215, 2, 1, 3, msg, 0, (routed up).set .RTE_DYN_CFG_policy 0 0, _, _, rfl, rfl, ?_, ?_, ?_, ?_, _, ?_, ?_, rfl⟩
     <;> decide +kernel,
   by refine ⟨4, 0x215, 2, 1, 3, msg, 0, routed (up.set .RTE_DYN_CFG_policy 0 4), _, _, rfl, rfl, ?_, ?_, ?_, ?_, _, ?_, ?_, ?_,
     rfl⟩ <;> decide +kernel,
   by refine ⟨4, 0x215, 2, 1, 3, msg, 0, withPair ⟨0x215, 2, true, 7, 0, 64, none, 0⟩ (routed (up.set .RTE_DYN_CFG_policy 0 0)), _,
     _, rfl, rfl, ?_, ?_, ?_, ?_, ⟨0x215, 2, true, 7, 0, 64, none, 0⟩, _, ?_, ?_, ?_, ?_, ?_, ?_, rfl⟩ <;> decide +kernel,
   by refine ⟨4, 0x215, 2, 1, 3, msg, 0, withPair ⟨0x215, 2, true, 7, 0, 64, none, 0⟩ (routed (up.set .RTE_DYN_CFG_policy 0 4)), _,
     _, rfl, rfl, ?_, ?_, ?_, ?_, ⟨0x215, 2, true, 7, 0, 64, none, 0⟩, mkRoute 0x215 0x214 1 false 0 7 4, ?_, ?_, ?_, ?_, ?_, ?_,
     ?_, ?_, ?_⟩ <;> decide +kernel,
   by refine ⟨4, 0x215, 2, 1, 3, msg, 0, withPair ⟨0x215, 2, true, 64, 0, 64, none, 0⟩ (routed up), _, _, rfl, rfl, ?_, ?_, ?_, ?_,
     ⟨0x215, 2, true, 64, 0, 64, none, 0⟩, ?_, ?_, ?_⟩ <;> decide +kernel,
   by refine ⟨withPacket (aPacket 0 4 []) (withContext aContext up), 3, aPacket 0 4 [], [], ?_, ?_, _, rfl, aContext, ?_⟩
     <;> decide +kernel,
   by refine ⟨withPacket (aPacket 0 4 []) up, 3, aPacket 0 4 [], [], ?_, ?_, _, rfl, _, _, ?_, ?_, rfl, ?_, rfl⟩ <;> decide +kernel,
   by refine ⟨withPacket (aPacket 0 4 [])
     { up with router := { Router.reset with contexts := (List.range 1024).map (fun i => ⟨6 * i + 3, 1, 0, 2, [], 0, 0⟩) } }, 3,
     aPacket 0 4 [], [], ?_, ?_, _, rfl, ?_, ?_⟩ <;> decide +kernel,
   by refine ⟨withPacket (aPacket 4 7 [5, 0]) up, 3, aPacket 4 7 [5, 0], [], ?_, ?_, _, _, _, rfl, rfl, rfl, ?_, forall_some ?_⟩
     <;> decide +kernel,
   by refine ⟨withPacket (aPacket 4 7 [5, 0]) (withPair ⟨9, 3, true, 1, 1, 9, none, 0⟩ up), 3, aPacket 4 7 [5, 0], [], ?_, ?_, _, _,
     _, rfl, rfl, rfl, ⟨9, 3, true, 1, 1, 9, none, 0⟩, ?_, ?_, ?_, ?_⟩ <;> decide +kernel,
   by refine ⟨withPacket (aPacket 4 7 [0, 0]) (withPair ⟨9, 3, true, 1, 1, 9, none, 0⟩ up), 3, aPacket 4 7 [0, 0], [], ?_, ?_, _, _,
     _, rfl, rfl, rfl, ⟨9, 3, true, 1, 1, 9, none, 0⟩, rfl, ?_, ?_, ?_⟩ <;> decide +kernel,
   by refine ⟨withPacket (aPacket 1 4 [5]) up, 3, aPacket 1 4 [5], [], ?_, ?_, ?_⟩ <;> decide +kernel,
   by refine ⟨withPacket (aPacket 1 4 [0, 7]) (withContext aContext up), 3, aPacket 1 4 [0, 7], [], ?_, ?_, aContext, ?_, ?_, ?_,
     ?_, ?_, ?_⟩ <;> decide +kernel,
   by refine ⟨withPacket (aPacket 1 6 [0, 7]) (withContext aContext up), 3, aPacket 1 6 [0, 7], [], ?_, ?_, aContext, _, ?_, rfl,
     ?_, ?_, ?_⟩ <;> decide +kernel,
   by refine ⟨withPacket (aPacket 5 6 [0]) (withContext { aContext with vc := 3 } up), 3, aPacket 5 6 [0], [], ?_, ?_⟩
     <;> decide +kernel,
   by refine ⟨withPacket (aPacket 6 6 []) up, 3, aPacket 6 6 [], [], ?_, ?_, ?_⟩ <;> decide +kernel,
   by refine ⟨withPacket (aPacket 6 4 []) (withContext aContext up), 3, aPacket 6 4 [], [], ?_, ?_, aContext, ?_, ?_, ?_, ?_, ?_⟩
     <;> decide +kernel,
   by refine ⟨9, 2, withContext { aContext with uncovered := 3 } (routed up), ?_, { aContext with uncovered := 3 }, ?_, ?_⟩
     <;> decide +kernel,
   by refine ⟨9, 3, (withPair ⟨9, 3, true, 1, 1, 9, none, 0⟩ up).atBeat 99999999 9, ?_, ⟨9, 3, true, 1, 1, 9, none, 0⟩, ?_, ?_⟩
     <;> decide +kernel⟩

theorem witness_InterfaceAndQueues :
    (∃ (s : State), s.hostUp = true ∧ s.get .HST_CTRL_enable 0 = 0 ∧ ∃ b, s.negotiation = some b) ∧
    (∃ (s : State), s.hostUp = true ∧ s.get .HST_CTRL_enable 0 = 0 ∧ s.negotiation = none) ∧
    (∃ (s : State), s.hostUp = true ∧ s.get .HST_CTRL_enable 0 = 1) ∧
    (∃ (q : QueueIx), ∃ (s : State), s.hostUp = true ∧ s.queue? q = none) ∧
    (∃ (q : QueueIx), ∃ (s : State), s.hostUp = true ∧ s.queue? q = none) ∧
    (∃ (q : QueueIx), ∃ (v : Word), ∃ (s : State), s.hostUp = true ∧ ∃ x, s.queue? q = some x ∧ x.n ≤ v.toNat) ∧
    (∃ (q : QueueIx), ∃ (v : Word), ∃ (s : State), s.hostUp = true ∧ ∃ x, s.queue? q = some x ∧ x.n ≤ v.toNat) ∧
    (∃ (q : QueueIx), ∃ (v : Word), ∃ (s : State), s.hostUp = true ∧ ∃ x, s.queue? q = some x ∧ v.toNat < x.n) ∧
    (∃ (q : QueueIx), ∃ (v : Word), ∃ (s : State), s.hostUp = true ∧ ∃ x, s.queue? q = some x ∧ v.toNat < x.n ∧ ∃ k, k = (v.toNat +
      x.n - x.cqHead) % x.n ∧ k ≤ x.waiting) ∧
    (∃ (q : QueueIx), ∃ (v : Word), ∃ (s : State), s.hostUp = true ∧ ∃ x, s.queue? q = some x ∧ v.toNat < x.n ∧ ∃ k, k = (v.toNat +
      x.n - x.cqHead) % x.n ∧ x.waiting < k) ∧
    (∃ (v : Word), ∃ (s : State), s.hostUp = true ∧ (s.evtRing = false ∨ s.get .HST_EVT_CFG_entries 0 ≤ v.toNat)) ∧
    (∃ (v : Word), ∃ (s : State), s.hostUp = true ∧ ∃ n, ∃ k, n = s.get .HST_EVT_CFG_entries 0 ∧ k = (v.toNat + n - s.host.evtRead %
      n) % n ∧ s.evtRing = true ∧ v.toNat < n ∧ s.host.evtRead + k ≤ s.host.evtWritten ∧ s.host.evtLost = 0) ∧
    (∃ (q : QueueIx), ∃ (slots : Vector Byte 128), ∃ (heads : Vector (Fin 4) 64), ∃ (s : State), ∃ x, ∃ fmt, ∃ b, ∃ head, s.queue? q
      = some x ∧ fmt = leAt slots.toList 1 1 % 4 ∧ b = slots.toList.take (32 * packetSlots fmt) ∧ s.fetching = true ∧ s.turn q
      heads.toList = true ∧ 0 < x.available ∧ packetSlots fmt ≤ x.available ∧ x.hasEntry = true ∧ x.deleting = none ∧ head =
      (x.sqHead + packetSlots fmt) % x.n ∧ s.headerCode q b = none) ∧
    (∃ (q : QueueIx), ∃ (slots : Vector Byte 128), ∃ (heads : Vector (Fin 4) 64), ∃ (s : State), ∃ x, ∃ fmt, ∃ b, ∃ head, s.queue? q
      = some x ∧ fmt = leAt slots.toList 1 1 % 4 ∧ b = slots.toList.take (32 * packetSlots fmt) ∧ s.fetching = true ∧ s.turn q
      heads.toList = true ∧ 0 < x.available ∧ packetSlots fmt ≤ x.available ∧ x.hasEntry = true ∧ x.deleting = none ∧ head =
      (x.sqHead + packetSlots fmt) % x.n ∧ ∃ c, ∃ r, s.headerCode q b = some (c, r)) :=
  ⟨by refine ⟨up.set .HST_FEAT_REQ_req 0 0xFFFFFFFF, ?_, ?_, 22, ?_⟩ <;> decide +kernel,
   by refine ⟨(up.set .HST_AQ_CFG_n 0 16).set .HST_FEAT_REQ_req 0 1, ?_, ?_, ?_⟩ <;> decide +kernel,
   by refine ⟨(up.withCmd 0 0 []).set .HST_CTRL_enable 0 1, ?_, ?_⟩ <;> decide +kernel,
   by refine ⟨5, up, ?_, ?_⟩ <;> decide +kernel,
   by refine ⟨5, up, ?_, ?_⟩ <;> decide +kernel,
   by refine ⟨1, 16, up.withCmd 0 0 [], ?_, newQueue 0x1000 0x2000 16 7, ?_, ?_⟩ <;> decide +kernel,
   by refine ⟨1, 16, up.withCmd 0 0 [], ?_, newQueue 0x1000 0x2000 16 7, ?_, ?_⟩ <;> decide +kernel,
   by refine ⟨1, 15, up.withCmd 0 0 [], ?_, newQueue 0x1000 0x2000 16 7, ?_, ?_⟩ <;> decide +kernel,
   by refine ⟨1, 2, { up with host := { up.host with queues := [(1, { newQueue 0x1000 0x2000 16 7 with waiting := 3 })] } }, ?_,
     { newQueue 0x1000 0x2000 16 7 with waiting := 3 }, ?_, ?_, _, rfl, ?_⟩ <;> decide +kernel,
   by refine ⟨1, 2, up.withCmd 0 0 [], ?_, newQueue 0x1000 0x2000 16 7, ?_, ?_, _, rfl, ?_⟩ <;> decide +kernel,
   by refine ⟨3, up, ?_, ?_⟩ <;> decide +kernel,
   by refine ⟨3, { (up.set .HST_EVT_CFG_entries 0 64) with host := { up.host with evtWritten := 10 } }, ?_, _, _, rfl, rfl, ?_, ?_,
     ?_, ?_⟩ <;> decide +kernel,
   by refine ⟨1, vec 128 (packet 0 0 []), Vector.replicate 64 0, fetching1.set .HST_FEAT_EN_en 0 1,
     { newQueue 0x1000 0x2000 16 7 with sqTail := 3 }, _, _, _, ?_, rfl, rfl, ?_, ?_, ?_, ?_, ?_, ?_, rfl, ?_⟩ <;> decide +kernel,
   by refine ⟨1, vec 128 (packet 0 3 []), Vector.replicate 64 0, fetching1, { newQueue 0x1000 0x2000 16 7 with sqTail := 3 }, _, _,
     _, ?_, rfl, rfl, ?_, ?_, ?_, ?_, ?_, ?_, rfl, .formatInvalid, 0, ?_⟩ <;> decide +kernel⟩

theorem witness_HostCommandsComplete :
    (∃ (q : QueueIx), ∃ (cid : Cid), ∃ (f : Fetched), ∃ (s : State), s.command? q cid.toNat = some f ∧ s.Ready q cid 0x00 f) ∧
    (∃ (q : QueueIx), ∃ (cid : Cid), ∃ (f : Fetched), ∃ (s : State), s.command? q cid.toNat = some f ∧ s.Ready q cid 0x22 f) ∧
    (∃ (q : QueueIx), ∃ (cid : Cid), ∃ (f : Fetched), ∃ (s : State), s.command? q cid.toNat = some f ∧ s.Ready q cid 0x01 f) ∧
    (∃ (q : QueueIx), ∃ (cid : Cid), ∃ (f : Fetched), ∃ (s : State), s.command? q cid.toNat = some f ∧ s.Ready q cid 0x02 f ∧ f.par
      8 1 = 0) ∧
    (∃ (q : QueueIx), ∃ (cid : Cid), ∃ (f : Fetched), ∃ (s : State), s.command? q cid.toNat = some f ∧ s.Ready q cid 0x02 f ∧ f.par
      8 1 = 2) ∧
    (∃ (q : QueueIx), ∃ (cid : Cid), ∃ (f : Fetched), ∃ (s : State), s.command? q cid.toNat = some f ∧ s.Ready q cid 0x02 f ∧ 4 ≤
      f.par 8 1) ∧
    (∃ (q : QueueIx), ∃ (cid : Cid), ∃ (f : Fetched), ∃ (s : State), s.command? q cid.toNat = some f ∧ s.Ready q cid 0x03 f ∧ ∃ p, p
      = f.par 8 1 ∧ (p = 0 ∨ 63 < p ∨ s.queue? p ≠ none)) ∧
    (∃ (q : QueueIx), ∃ (cid : Cid), ∃ (f : Fetched), ∃ (s : State), s.command? q cid.toNat = some f ∧ s.Ready q cid 0x03 f ∧ ∃ p, p
      = f.par 8 1 ∧ 1 ≤ p ∧ p ≤ 63 ∧ s.queue? p = none ∧ p ≠ f.q ∧ (∀ x, s.queue? f.q = some x → x.deleting = none) ∧ f.par 9 1 ≤ 63
      ∧ ringSize (f.par 10 2) = true ∧ f.par 16 8 % 4096 = 0 ∧ f.par 24 8 % 4096 = 0) ∧
    (∃ (q : QueueIx), ∃ (cid : Cid), ∃ (f : Fetched), ∃ (s : State), s.command? q cid.toNat = some f ∧ s.Ready q cid 0x04 f ∧ ∃ p, p
      = f.par 8 1 ∧ s.queue? p = none) ∧
    (∃ (q : QueueIx), ∃ (cid : Cid), ∃ (f : Fetched), ∃ (s : State), s.command? q cid.toNat = some f ∧ s.Ready q cid 0x04 f ∧ ∃ p, p
      = f.par 8 1 ∧ ∃ x, ∃ y, ∃ n, p ≠ 0 ∧ p ≠ f.q ∧ s.queue? p = some x ∧ x.deleting = none ∧ s.queue? f.q = some y ∧ y.deleting =
      none ∧ f.mute = false ∧ n = (s.host.fetched.filter (fun g => g.q == p && !g.started)).length ∧ (∀ g ∈ s.host.fetched,
      g.started = true → g.q ≠ p ∧ ¬(g.op = 0x04 ∧ g.par 8 1 = p))) ∧
    (∃ (q : QueueIx), ∃ (cid : Cid), ∃ (f : Fetched), ∃ (s : State), s.command? q cid.toNat = some f ∧ s.Ready q cid 0x04 f ∧ ∃ p, p
      = f.par 8 1 ∧ ∃ x, ∃ y, ∃ n, p ≠ 0 ∧ p ≠ f.q ∧ s.queue? p = some x ∧ x.deleting = none ∧ s.queue? f.q = some y ∧ y.deleting =
      none ∧ f.mute = false ∧ n = (s.host.fetched.filter (fun g => g.q == p && !g.started)).length ∧ (∃ g ∈ s.host.fetched,
      g.started = true ∧ g.q = p)) ∧
    (∃ (q : QueueIx), ∃ (cid : Cid), ∃ (f : Fetched), ∃ (s : State), s.command? q cid.toNat = some f ∧ s.Ready q cid 0x30 f ∧ f.par
      8 1 ≤ 35 ∧ ∃ p, p = f.par 8 1) ∧
    (∃ (q : QueueIx), ∃ (cid : Cid), ∃ (f : Fetched), ∃ (s : State), s.command? q cid.toNat = some f ∧ s.Ready q cid 0x31 f ∧ ∃ p, p
      = f.par 8 1 ∧ 35 < p) ∧
    (∃ (q : QueueIx), ∃ (cid : Cid), ∃ (f : Fetched), ∃ (s : State), s.command? q cid.toNat = some f ∧ s.Ready q cid 0x31 f ∧ ∃ p, p
      = f.par 8 1 ∧ p ≤ 35 ∧ s.portRefused p = true) ∧
    (∃ (q : QueueIx), ∃ (cid : Cid), ∃ (f : Fetched), ∃ (s : State), s.command? q cid.toNat = some f ∧ s.Ready q cid 0x31 f ∧ ∃ p, p
      = f.par 8 1 ∧ p ≤ 35 ∧ s.portRefused p = false ∧ s.train p = .active ∧ (s.port p).closing = none) ∧
    (∃ (q : QueueIx), ∃ (cid : Cid), ∃ (f : Fetched), ∃ (s : State), s.command? q cid.toNat = some f ∧ s.Ready q cid 0x32 f ∧ ∃ p, p
      = f.par 8 1 ∧ p ≤ 35 ∧ f.par 9 1 % 2 = 1 ∧ s.get .LNK_CTRL_enable p = 0 ∧ s.train p = .disabled) ∧
    (∃ (q : QueueIx), ∃ (cid : Cid), ∃ (f : Fetched), ∃ (s : State), s.command? q cid.toNat = some f ∧ s.Ready q cid 0x32 f ∧ ∃ p, p
      = f.par 8 1 ∧ p ≤ 35 ∧ f.par 9 1 % 2 = 0 ∧ s.get .LNK_CTRL_enable p ≠ 0 ∧ s.portRefused p = false ∧ s.train p ≠ .active) ∧
    (∃ (q : QueueIx), ∃ (cid : Cid), ∃ (f : Fetched), ∃ (s : State), s.command? q cid.toNat = some f ∧ s.Ready q cid 0x32 f ∧ ∃ p, p
      = f.par 8 1 ∧ p ≤ 35 ∧ f.par 9 1 % 2 = 0 ∧ s.get .LNK_CTRL_enable p ≠ 0 ∧ s.portRefused p = false ∧ s.train p = .active ∧
      (s.port p).closing = none) ∧
    (∃ (q : QueueIx), ∃ (cid : Cid), ∃ (f : Fetched), ∃ (s : State), s.command? q cid.toNat = some f ∧ s.Ready q cid 0x32 f ∧ ∃ p, p
      = f.par 8 1 ∧ p ≤ 35 ∧ f.par 9 1 % 2 = 0 ∧ s.get .LNK_CTRL_enable p ≠ 0 ∧ s.portRefused p = true) :=
  ⟨by refine ⟨1, 5, fetched 0 0 [], up.withCmd 0 0 [], ?_, ready_of ?_⟩ <;> decide +kernel,
   by refine ⟨1, 5, fetched 0x22 0 [], up.withCmd 0x22 0 [], ?_, ready_of ?_⟩ <;> decide +kernel,
   by refine ⟨1, 5, fetched 1 1 (toLE 8 0x8000), up.withCmd 1 1 (toLE 8 0x8000), ?_, ready_of ?_⟩ <;> decide +kernel,
   by refine ⟨1, 5, fetched 2 0 [0], (up.withCmd 2 0 [0]).set .HST_FEAT_EN_en 1 7, ?_, ready_of ?_, ?_⟩ <;> decide +kernel,
   by refine ⟨1, 5, fetched 2 0 [2], up.withCmd 2 0 [2], ?_, ready_of ?_, ?_⟩ <;> decide +kernel,
   by refine ⟨1, 5, fetched 2 0 [4], up.withCmd 2 0 [4], ?_, ready_of ?_, ?_⟩ <;> decide +kernel,
   by refine ⟨1, 5, fetched 3 1 [1], up.withCmd 3 1 [1], ?_, ready_of ?_, _, rfl, ?_⟩ <;> decide +kernel,
   by refine ⟨1, 5, fetched 3 1 ([2, 9] ++ toLE 2 16 ++ zeros 4 ++ toLE 8 0x6000 ++ toLE 8 0x7000), up.withCmd 3 1 ([2, 9] ++ toLE 2
     16 ++ zeros 4 ++ toLE 8 0x6000 ++ toLE 8 0x7000), ?_, ready_of ?_, _, rfl, ?_, ?_, ?_, ?_, forall_some ?_, ?_, ?_, ?_, ?_⟩
     <;> decide +kernel,
   by refine ⟨1, 5, fetched 4 0 [2], up.withCmd 4 0 [2], ?_, ready_of ?_, _, rfl, ?_⟩ <;> decide +kernel,
   by refine ⟨1, 5, fetched 4 0 [2], withQueue2 (up.withCmd 4 0 [2]), ?_, ready_of ?_, _, rfl, newQueue 0x6000 0x7000 16 3, newQueue
     0x1000 0x2000 16 7, _, ?_, ?_, ?_, ?_, ?_, ?_, ?_, rfl, ?_⟩ <;> decide +kernel,
   by refine ⟨1, 5, fetched 4 0 [2], busyQueue2, ?_, ready_of ?_, _, rfl, newQueue 0x6000 0x7000 16 3, newQueue 0x1000 0x2000 16 7,
     _, ?_, ?_, ?_, ?_, ?_, ?_, ?_, rfl, ?_⟩ <;> decide +kernel,
   by refine ⟨1, 5, fetched 0x30 0 [3], up.withCmd 0x30 0 [3], ?_, ready_of ?_, ?_, _, rfl⟩ <;> decide +kernel,
   by refine ⟨1, 5, fetched 0x31 0 [36], up.withCmd 0x31 0 [36], ?_, ready_of ?_, _, rfl, ?_⟩ <;> decide +kernel,
   by refine ⟨1, 5, fetched 0x31 0 [3], ((linked LinkPort.reset).set .LNK_GIVE_in_plan 3 1).withCmd 0x31 0 [3], ?_, ready_of ?_, _,
     rfl, ?_, ?_⟩ <;> decide +kernel,
   by refine ⟨1, 5, fetched 0x31 0 [3], (linked LinkPort.reset).withCmd 0x31 0 [3], ?_, ready_of ?_, _, rfl, ?_, ?_, ?_, ?_⟩
     <;> decide +kernel,
   by refine ⟨1, 5, fetched 0x32 0 [3, 1], ((lnk .disabled LinkPort.reset).set .LNK_CTRL_enable 3 0).withCmd 0x32 0 [3, 1], ?_,
     ready_of ?_, _, rfl, ?_, ?_, ?_, ?_⟩ <;> decide +kernel,
   by refine ⟨1, 5, fetched 0x32 0 [3, 0], (lnk .down LinkPort.reset |>.set .LNK_CTRL_enable 3 1).withCmd 0x32 0 [3, 0], ?_,
     ready_of ?_, _, rfl, ?_, ?_, ?_, ?_, ?_⟩ <;> decide +kernel,
   by refine ⟨1, 5, fetched 0x32 0 [3, 0], (linked LinkPort.reset |>.set .LNK_CTRL_enable 3 1).withCmd 0x32 0 [3, 0], ?_, ready_of
     ?_, _, rfl, ?_, ?_, ?_, ?_, ?_, ?_⟩ <;> decide +kernel,
   by refine ⟨1, 5, fetched 0x32 0 [3, 0], ((linked LinkPort.reset |>.set .LNK_CTRL_enable 3 1).set .LNK_GIVE_in_plan 3 1).withCmd
     0x32 0 [3, 0], ?_, ready_of ?_, _, rfl, ?_, ?_, ?_, ?_⟩ <;> decide +kernel⟩

theorem witness_FaultAndResetCommands :
    (∃ (q : QueueIx), ∃ (cid : Cid), ∃ (f : Fetched), ∃ (s : State), s.command? q cid.toNat = some f ∧ s.Ready q cid 0x70 f) ∧
    (∃ (q : QueueIx), ∃ (cid : Cid), ∃ (f : Fetched), ∃ (s : State), s.command? q cid.toNat = some f ∧ s.Ready q cid 0x60 f) ∧
    (∃ (q : QueueIx), ∃ (cid : Cid), ∃ (f : Fetched), ∃ (s : State), s.command? q cid.toNat = some f ∧ s.Ready q cid 0x61 f ∧ s.get
      .FLT_DUMP_busy 0 = 1) ∧
    (∃ (q : QueueIx), ∃ (cid : Cid), ∃ (f : Fetched), ∃ (s : State), s.command? q cid.toNat = some f ∧ s.Ready q cid 0x61 f ∧ s.get
      .FLT_DUMP_busy 0 ≠ 1 ∧ s.fatalActive = true) ∧
    (∃ (q : QueueIx), ∃ (cid : Cid), ∃ (f : Fetched), ∃ (s : State), s.command? q cid.toNat = some f ∧ s.Ready q cid 0x62 f ∧ ∃ off,
      ∃ n, off = f.par 8 8 ∧ n = f.par 24 4 ∧ off % 32 = 0 ∧ 1 ≤ n ∧ off + 32 * n ≤ 2 ^ 28 ∧ s.get .FLT_DUMP_busy 0 ≠ 1 ∧ s.get
      .FLT_DUMP_pending 0 ≠ 1 ∧ s.get .FLT_DUMP_valid 0 = 0) ∧
    (∃ (q : QueueIx), ∃ (cid : Cid), ∃ (f : Fetched), ∃ (s : State), s.command? q cid.toNat = some f ∧ s.Ready q cid 0x62 f ∧ ∃ off,
      ∃ n, off = f.par 8 8 ∧ n = f.par 24 4 ∧ off % 32 = 0 ∧ 1 ≤ n ∧ off + 32 * n ≤ 2 ^ 28 ∧ s.get .FLT_DUMP_busy 0 ≠ 1 ∧ s.get
      .FLT_DUMP_pending 0 ≠ 1 ∧ s.get .FLT_DUMP_valid 0 ≠ 0 ∧ s.tiersServe = true ∧ s.poison = []) ∧
    (∃ (q : QueueIx), ∃ (cid : Cid), ∃ (f : Fetched), ∃ (s : State), s.command? q cid.toNat = some f ∧ s.Ready q cid 0x63 f ∧
      s.planRuns = true ∧ f.par 8 1 ≠ 0) ∧
    (∃ (q : QueueIx), ∃ (cid : Cid), ∃ (f : Fetched), ∃ (s : State), s.command? q cid.toNat = some f ∧ s.Ready q cid 0x63 f ∧
      s.planRuns = false) ∧
    (∃ (q : QueueIx), ∃ (cid : Cid), ∃ (f : Fetched), ∃ (s : State), s.command? q cid.toNat = some f ∧ s.Ready q cid 0x64 f ∧ f.par
      8 1 = 0 ∧ s.resetting = false ∧ s.quietPlan = true ∧ s.power = .active ∧ s.get .FLT_DUMP_busy 0 ≠ 1) ∧
    (∃ (q : QueueIx), ∃ (cid : Cid), ∃ (f : Fetched), ∃ (s : State), s.command? q cid.toNat = some f ∧ s.Ready q cid 0x64 f ∧ f.par
      8 1 = 0 ∧ s.resetting = false ∧ s.quietPlan = false ∧ s.forwardingImage = false) ∧
    (∃ (q : QueueIx), ∃ (cid : Cid), ∃ (f : Fetched), ∃ (s : State), s.command? q cid.toNat = some f ∧ s.Ready q cid 0x64 f ∧ f.par
      8 1 = 1 ∧ s.pkgReset = none) ∧
    (∃ (q : QueueIx), ∃ (cid : Cid), ∃ (f : Fetched), ∃ (s : State), s.command? q cid.toNat = some f ∧ s.Ready q cid 0x50 f ∧ 5 ≤
      f.par 8 1) ∧
    (∃ (q : QueueIx), ∃ (cid : Cid), ∃ (f : Fetched), ∃ (s : State), s.command? q cid.toNat = some f ∧ s.Ready q cid 0x50 f ∧ ∃ b,
      s.telRecord (f.par 8 1) = some b ∧ f.par 24 4 < b.length) ∧
    (∃ (q : QueueIx), ∃ (cid : Cid), ∃ (f : Fetched), ∃ (s : State), s.command? q cid.toNat = some f ∧ s.Ready q cid 0x50 f ∧ ∃ b,
      s.telRecord (f.par 8 1) = some b ∧ b.length ≤ f.par 24 4) :=
  ⟨by refine ⟨1, 5, fetched 0x70 0 [], up.withCmd 0x70 0 [], ?_, ready_of ?_⟩ <;> decide +kernel,
   by refine ⟨1, 5, fetched 0x60 0 [], (up.withCmd 0x60 0 []).set .FLT_FATAL_reason 0 9, ?_, ready_of ?_⟩ <;> decide +kernel,
   by refine ⟨1, 5, fetched 0x61 0 [], (up.withCmd 0x61 0 []).set .FLT_DUMP_busy 0 1, ?_, ready_of ?_, ?_⟩ <;> decide +kernel,
   by refine ⟨1, 5, fetched 0x61 0 [], ((((up.withPlan .faulted).withCmd 0x61 0 []).set .FLT_FATAL_active 0 1).set
     .FLT_STATUS_alert0 0 1).set .FLT_FATAL_reason 0 9, ?_, ready_of ?_, ?_, ?_⟩ <;> decide +kernel,
   by refine ⟨1, 5, fetched 0x62 1 (toLE 8 64 ++ toLE 8 0x9000 ++ toLE 4 3), up.withCmd 0x62 1 (toLE 8 64 ++ toLE 8 0x9000 ++ toLE 4
     3), ?_, ready_of ?_, _, _, rfl, rfl, ?_, ?_, ?_, ?_, ?_, ?_⟩ <;> decide +kernel,
   by refine ⟨1, 5, fetched 0x62 1 (toLE 8 64 ++ toLE 8 0x9000 ++ toLE 4 3), (up.withCmd 0x62 1 (toLE 8 64 ++ toLE 8 0x9000 ++ toLE
     4 3)).set .FLT_DUMP_valid 0 1, ?_, ready_of ?_, _, _, rfl, rfl, ?_, ?_, ?_, ?_, ?_, ?_, ?_, ?_⟩ <;> decide +kernel,
   by refine ⟨1, 5, fetched 0x63 0 [255], (running 100).withCmd 0x63 0 [255], ?_, ready_of ?_, ?_, ?_⟩ <;> decide +kernel,
   by refine ⟨1, 5, fetched 0x63 0 [1],
     (({ up with tiles := [(0, { coder with halted := true }), (1152, { coder with halted := true })] }).set .TIL_HALT_REASON_valid
     0 1).withCmd 0x63 0 [1], ?_, ready_of ?_, ?_⟩ <;> decide +kernel,
   by refine ⟨1, 5, fetched 0x64 0 [0], up.withCmd 0x64 0 [0], ?_, ready_of ?_, ?_, ?_, ?_, ?_, ?_⟩ <;> decide +kernel,
   by refine ⟨1, 5, fetched 0x64 0 [0], (running 100).withCmd 0x64 0 [0], ?_, ready_of ?_, ?_, ?_, ?_, ?_⟩ <;> decide +kernel,
   by refine ⟨1, 5, fetched 0x64 0 [1], (running 100).withCmd 0x64 0 [1], ?_, ready_of ?_, ?_, ?_⟩ <;> decide +kernel,
   by refine ⟨1, 5, fetched 0x50 1 [5], up.withCmd 0x50 1 [5], ?_, ready_of ?_, ?_⟩ <;> decide +kernel,
   by refine ⟨1, 5, fetched 0x50 1 [3], up.withCmd 0x50 1 [3], ?_, ready_of ?_, ((up.withCmd 0x50 1 [3]).telRecord 3).get!, ?_, ?_⟩
     <;> decide +kernel,
   by refine ⟨1, 5, fetched 0x50 1 ([3] ++ zeros 7 ++ toLE 8 0x9000 ++ toLE 4 9999), up.withCmd 0x50 1 ([3] ++ zeros 7 ++ toLE 8
     0x9000 ++ toLE 4 9999), ?_, ready_of ?_, ((up.withCmd 0x50 1 ([3] ++ zeros 7 ++ toLE 8 0x9000 ++ toLE 4 9999)).telRecord
     3).get!, ?_, ?_⟩ <;> decide +kernel⟩

theorem witness_HostDataMoves :
    (∃ (q : QueueIx), ∃ (cid : Cid), ∃ (f : Fetched), ∃ (s : State), ∃ space, ∃ dev, ∃ tile, ∃ u, ∃ n, space = f.par 28 1 ∧ dev =
      f.dev ∧ tile = devTile dev ∧ u = bits dev 14 0 ∧ n = ((dmaParts f).map Prod.snd).sum ∧ s.Ready q cid 0x20 f ∧ ∃ c, ∃ r,
      s.dmaRefusal f = some (c, r)) ∧
    (∃ (q : QueueIx), ∃ (cid : Cid), ∃ (f : Fetched), ∃ (s : State), ∃ space, ∃ dev, ∃ tile, ∃ u, ∃ n, space = f.par 28 1 ∧ dev =
      f.dev ∧ tile = devTile dev ∧ u = bits dev 14 0 ∧ n = ((dmaParts f).map Prod.snd).sum ∧ ∃ (e : DmaIn), s.Ready q cid 0x20 f ∧
      s.dmaRefusal f = none ∧ space < 2 ∧ e.fail = none ∧ (space = 0 → s.firstDenied dev n = none)) ∧
    (∃ (q : QueueIx), ∃ (cid : Cid), ∃ (f : Fetched), ∃ (s : State), ∃ space, ∃ dev, ∃ tile, ∃ u, ∃ n, space = f.par 28 1 ∧ dev =
      f.dev ∧ tile = devTile dev ∧ u = bits dev 14 0 ∧ n = ((dmaParts f).map Prod.snd).sum ∧ ∃ (e : DmaIn), s.Ready q cid 0x20 f ∧
      s.dmaRefusal f = none ∧ space = 2 ∧ e.fail = none ∧ s.windowHit (bits dev 28 26) u n = none ∧ e.meets = []) ∧
    (∃ (q : QueueIx), ∃ (cid : Cid), ∃ (f : Fetched), ∃ (s : State), ∃ space, ∃ dev, ∃ tile, ∃ u, ∃ n, space = f.par 28 1 ∧ dev =
      f.dev ∧ tile = devTile dev ∧ u = bits dev 14 0 ∧ n = ((dmaParts f).map Prod.snd).sum ∧ s.Ready q cid 0x21 f ∧ ∃ c, ∃ r,
      s.dmaRefusal f = some (c, r)) ∧
    (∃ (q : QueueIx), ∃ (cid : Cid), ∃ (f : Fetched), ∃ (s : State), ∃ space, ∃ dev, ∃ tile, ∃ u, ∃ n, space = f.par 28 1 ∧ dev =
      f.dev ∧ tile = devTile dev ∧ u = bits dev 14 0 ∧ n = ((dmaParts f).map Prod.snd).sum ∧ s.Ready q cid 0x21 f ∧ s.dmaRefusal f =
      none ∧ space < 2 ∧ s.poison = []) ∧
    (∃ (q : QueueIx), ∃ (cid : Cid), ∃ (f : Fetched), ∃ (s : State), ∃ space, ∃ dev, ∃ tile, ∃ u, ∃ n, space = f.par 28 1 ∧ dev =
      f.dev ∧ tile = devTile dev ∧ u = bits dev 14 0 ∧ n = ((dmaParts f).map Prod.snd).sum ∧ s.Ready q cid 0x21 f ∧ s.dmaRefusal f =
      none ∧ space = 2 ∧ s.windowHit (bits dev 28 26) u n = none ∧ s.unitsGood tile (List.range' u n)) ∧
    (∃ (q : QueueIx), ∃ (cid : Cid), ∃ (f : Fetched), ∃ c, ∃ r, ∃ x, ∃ (s : State), s.hubUp = true ∧ s.runningDma q cid.toNat = some
      (f, c, r) ∧ s.queue? f.q = some x ∧ x.deleting = none ∧ f.mute = false) ∧
    (∃ (off : BitVec 36), ∃ (last : Fin 4096), ∃ n, ∃ a, ∃ (s : State), n = min (last.val + 1) (4096 - off.toNat % 4096) ∧ s.hostUp
      = true ∧ a = 2 ^ 30 * s.get .HST_BAR2_BASE_base_gib 0 + off.toNat ∧ s.poison = [] ∧ s.feature 9 = true ∧ s.tiersServe = true ∧
      a + n ≤ 32 * planAreaBase) ∧
    (∃ (off : BitVec 36), ∃ (last : Fin 4096), ∃ n, ∃ a, ∃ (s : State), n = min (last.val + 1) (4096 - off.toNat % 4096) ∧ s.hostUp
      = true ∧ a = 2 ^ 30 * s.get .HST_BAR2_BASE_base_gib 0 + off.toNat ∧ s.poison = [] ∧ s.feature 9 = true ∧ s.tiersServe = true ∧
      a + n ≤ 32 * planAreaBase) ∧
    (∃ (off : BitVec 36), ∃ (last : Fin 4096), ∃ n, ∃ a, ∃ (s : State), n = min (last.val + 1) (4096 - off.toNat % 4096) ∧ s.hostUp
      = true ∧ a = 2 ^ 30 * s.get .HST_BAR2_BASE_base_gib 0 + off.toNat ∧ s.poison = [] ∧ s.feature 9 = false) ∧
    (∃ (off : BitVec 36), ∃ (last : Fin 4096), ∃ n, ∃ a, ∃ (s : State), n = min (last.val + 1) (4096 - off.toNat % 4096) ∧ s.hostUp
      = true ∧ a = 2 ^ 30 * s.get .HST_BAR2_BASE_base_gib 0 + off.toNat ∧ s.poison = [] ∧ s.feature 9 = false) ∧
    (∃ (q : QueueIx), ∃ (cid : Cid), ∃ (f : Fetched), ∃ (e : StreamEntry), ∃ (x : Ingest), ∃ i, ∃ n, ∃ (s : State), s.Ready q cid
      0x23 f ∧ i = f.par 20 1 ∧ i ≤ 15 ∧ n = f.par 16 4 ∧ s.stream? i = some e ∧ s.ingest? i = some x ∧ s.ingestOpen = false) ∧
    (∃ (q : QueueIx), ∃ (cid : Cid), ∃ (f : Fetched), ∃ (e : StreamEntry), ∃ (x : Ingest), ∃ i, ∃ n, ∃ (s : State), s.Ready q cid
      0x23 f ∧ i = f.par 20 1 ∧ i ≤ 15 ∧ n = f.par 16 4 ∧ s.stream? i = some e ∧ s.ingest? i = some x ∧ ∃ u, s.ingestOpen = true ∧ 1
      ≤ n ∧ x.used + n ≤ e.slotUnits - 1 ∧ u = e.slot x.window + 1 + x.used ∧ u + n ≤ planAreaBase) ∧
    (∃ (i : Fin 16), ∃ (e : StreamEntry), ∃ (x : Ingest), ∃ (s : State), s.stream? i = some e ∧ s.ingest? i = some x ∧ s.planState =
      .running ∧ s.beatBegun (e.close x.window) = true ∧ s.openPushes i = []) ∧
    (∃ (s : State), s.hostUp = true) :=
  ⟨by refine ⟨1, 5, fetched 0x20 1 (toLE 8 2), up.withCmd 0x20 1 (toLE 8 2), _, _, _, _, _, rfl, rfl, rfl, rfl, rfl, ready_of ?_,
     .paramInvalid, 8, ?_⟩ <;> decide +kernel,
   by refine ⟨1, 5, fetched 0x20 1 (toLE 8 0x9000 ++ toLE 8 70 ++ toLE 4 2 ++ [0]), up.withCmd 0x20 1 (toLE 8 0x9000 ++ toLE 8 70 ++
     toLE 4 2 ++ [0]), _, _, _, _, _, rfl, rfl, rfl, rfl, rfl, ⟨List.replicate 64 8, none, [], false⟩, ready_of ?_, ?_, ?_, ?_, ?_⟩
     <;> decide +kernel,
   by refine ⟨1, 5, fetched 0x20 1 (toLE 8 0x9000 ++ toLE 8 70 ++ toLE 4 2 ++ [2]), (up.withCmd 0x20 1 (toLE 8 0x9000 ++ toLE 8 70
     ++ toLE 4 2 ++ [2])).set .HST_FEAT_EN_en 0 0x3FFFFF, _, _, _, _, _, rfl, rfl, rfl, rfl, rfl, ⟨List.replicate 64 8, none, [],
     false⟩, ready_of ?_, ?_, rfl, ?_, ?_, ?_⟩ <;> decide +kernel,
   by refine ⟨1, 5, fetched 0x21 1 (toLE 8 2), up.withCmd 0x21 1 (toLE 8 2), _, _, _, _, _, rfl, rfl, rfl, rfl, rfl, ready_of ?_,
     .paramInvalid, 8, ?_⟩ <;> decide +kernel,
   by refine ⟨1, 5, fetched 0x21 1 (toLE 8 0x9000 ++ toLE 8 0 ++ toLE 4 2 ++ [0]), up.withCmd 0x21 1 (toLE 8 0x9000 ++ toLE 8 0 ++
     toLE 4 2 ++ [0]), _, _, _, _, _, rfl, rfl, rfl, rfl, rfl, ready_of ?_, ?_, ?_, ?_⟩ <;> decide +kernel,
   by refine ⟨1, 5, fetched 0x21 1 (toLE 8 0x9000 ++ toLE 8 1 ++ toLE 4 2 ++ [2]), (up.withCmd 0x21 1 (toLE 8 0x9000 ++ toLE 8 1 ++
     toLE 4 2 ++ [2])).set .HST_FEAT_EN_en 0 0x3FFFFF, _, _, _, _, _, rfl, rfl, rfl, rfl, rfl, ready_of ?_, ?_, rfl, ?_,
     unitsGood_of ?_⟩ <;> decide +kernel,
   by refine ⟨1, 5, { fetched 0x21 1 [] with started := true, done := some (0, 7) }, 0, 7, newQueue 0x1000 0x2000 16 7,
     up.withFetched { fetched 0x21 1 [] with started := true, done := some (0, 7) }, ?_, ?_, ?_, ?_, ?_⟩ <;> decide +kernel,
   by refine ⟨33, 2, _, 33, up.set .HST_FEAT_EN_en 0 512, rfl, ?_, ?_, ?_, ?_, ?_, ?_⟩ <;> decide +kernel,
   by refine ⟨33, 2, _, 33, up.set .HST_FEAT_EN_en 0 512, rfl, ?_, ?_, ?_, ?_, ?_, ?_⟩ <;> decide +kernel,
   by refine ⟨33, 2, _, 33, up, rfl, ?_, ?_, ?_, ?_⟩ <;> decide +kernel,
   by refine ⟨33, 2, _, 33, up, rfl, ?_, ?_, ?_, ?_⟩ <;> decide +kernel,
   by refine ⟨1, 5, fetched 0x23 1 (toLE 8 0x9000 ++ toLE 4 2 ++ [2]), aStream, ⟨2, 3, 1, false⟩, _, _, ((serving 100).withPlan
     .stopping).withCmd 0x23 1 (toLE 8 0x9000 ++ toLE 4 2 ++ [2]), ready_of ?_, rfl, ?_, rfl, ?_, ?_, ?_⟩ <;> decide +kernel,
   by refine ⟨1, 5, fetched 0x23 1 (toLE 8 0x9000 ++ toLE 4 2 ++ [2]), aStream, ⟨2, 3, 1, false⟩, _, _, (serving 100).withCmd 0x23 1
     (toLE 8 0x9000 ++ toLE 4 2 ++ [2]), ready_of ?_, rfl, ?_, rfl, ?_, ?_, _, ?_, ?_, ?_, rfl, ?_⟩ <;> decide +kernel,
   by refine ⟨2, aStream, ⟨2, 3, 1, false⟩, serving 116, ?_, ?_, ?_, ?_, ?_⟩ <;> decide +kernel,
   by refine ⟨up.withCmd 0 0 [], ?_⟩ <;> decide +kernel⟩

theorem witness_SlotCommandsAct :
    (∃ (q : QueueIx), ∃ (cid : Cid), ∃ (f : Fetched), ∃ (n : Nat), ∃ (s : State), s.command? q cid.toNat = some f ∧ n = f.par 8 2 ∧
      ∃ r, s.Ready q cid 0x40 f ∧ r = padTo 64 (slice f.packet 64 64) ∧ s.slotsOpen = false) ∧
    (∃ (q : QueueIx), ∃ (cid : Cid), ∃ (f : Fetched), ∃ (n : Nat), ∃ (s : State), s.command? q cid.toNat = some f ∧ n = f.par 8 2 ∧
      ∃ r, s.Ready q cid 0x40 f ∧ r = padTo 64 (slice f.packet 64 64) ∧ s.slotsOpen = true ∧ 2 ^ 20 < recLen r) ∧
    (∃ (q : QueueIx), ∃ (cid : Cid), ∃ (f : Fetched), ∃ (n : Nat), ∃ (s : State), s.command? q cid.toNat = some f ∧ n = f.par 8 2 ∧
      ∃ r, s.Ready q cid 0x40 f ∧ r = padTo 64 (slice f.packet 64 64) ∧ ∃ c, s.slotsOpen = true ∧ recLen r ≤ 2 ^ 20 ∧ s.writeRefusal
      n r = some c) ∧
    (∃ (q : QueueIx), ∃ (cid : Cid), ∃ (f : Fetched), ∃ (n : Nat), ∃ (s : State), s.command? q cid.toNat = some f ∧ n = f.par 8 2 ∧
      ∃ r, s.Ready q cid 0x40 f ∧ r = padTo 64 (slice f.packet 64 64) ∧ s.slotsOpen = true ∧ recLen r ≤ 2 ^ 20 ∧ s.writeRefusal n r
      = none) ∧
    (∃ (q : QueueIx), ∃ (cid : Cid), ∃ (f : Fetched), ∃ (n : Nat), ∃ (s : State), s.command? q cid.toNat = some f ∧ n = f.par 8 2 ∧
      s.Ready q cid 0x41 f ∧ s.slotsOpen = false) ∧
    (∃ (q : QueueIx), ∃ (cid : Cid), ∃ (f : Fetched), ∃ (n : Nat), ∃ (s : State), s.command? q cid.toNat = some f ∧ n = f.par 8 2 ∧
      s.Ready q cid 0x41 f ∧ ∃ c, s.slotsOpen = true ∧ s.slotRefusal n false = some c) ∧
    (∃ (q : QueueIx), ∃ (cid : Cid), ∃ (f : Fetched), ∃ (n : Nat), ∃ (s : State), s.command? q cid.toNat = some f ∧ n = f.par 8 2 ∧
      s.Ready q cid 0x41 f ∧ s.slotsOpen = true ∧ s.slotRefusal n false = none) ∧
    (∃ (q : QueueIx), ∃ (cid : Cid), ∃ (f : Fetched), ∃ (n : Nat), ∃ (s : State), s.command? q cid.toNat = some f ∧ n = f.par 8 2 ∧
      ∃ (gate : Bool), s.Ready q cid 0x43 f ∧ gate = (f.par 10 1 % 2 == 1) ∧ s.slotsOpen = false) ∧
    (∃ (q : QueueIx), ∃ (cid : Cid), ∃ (f : Fetched), ∃ (n : Nat), ∃ (s : State), s.command? q cid.toNat = some f ∧ n = f.par 8 2 ∧
      ∃ (gate : Bool), s.Ready q cid 0x43 f ∧ gate = (f.par 10 1 % 2 == 1) ∧ ∃ c, s.slotsOpen = true ∧ s.slotRefusal n (!gate) =
      some c) ∧
    (∃ (q : QueueIx), ∃ (cid : Cid), ∃ (f : Fetched), ∃ (n : Nat), ∃ (s : State), s.command? q cid.toNat = some f ∧ n = f.par 8 2 ∧
      ∃ (gate : Bool), s.Ready q cid 0x43 f ∧ gate = (f.par 10 1 % 2 == 1) ∧ s.slotsOpen = true ∧ s.slotRefusal n (!gate) = none) ∧
    (∃ (q : QueueIx), ∃ (cid : Cid), ∃ (f : Fetched), ∃ (n : Nat), ∃ (s : State), s.command? q cid.toNat = some f ∧ n = f.par 8 2 ∧
      s.Ready q cid 0x42 f ∧ ∃ c, s.slotRefusal n false = some c) ∧
    (∃ (q : QueueIx), ∃ (cid : Cid), ∃ (f : Fetched), ∃ (n : Nat), ∃ (s : State), s.command? q cid.toNat = some f ∧ n = f.par 8 2 ∧
      s.Ready q cid 0x42 f ∧ s.slotRefusal n false = none) ∧
    (∃ (v : Word), ∃ (s : State), ∃ h, s.hubUp = true ∧ h = s.get .SRV_OUT_HEAD_head 0 ∧ (v.toNat + 2 ^ 32 - h) % 2 ^ 32 ≤ (s.get
      .SRV_OUT_TAIL_tail 0 + 2 ^ 32 - h) % 2 ^ 32) ∧
    (∃ (v : Word), ∃ (s : State), ∃ h, s.hubUp = true ∧ h = s.get .SRV_OUT_HEAD_head 0 ∧ (s.get .SRV_OUT_TAIL_tail 0 + 2 ^ 32 - h) %
      2 ^ 32 < (v.toNat + 2 ^ 32 - h) % 2 ^ 32) :=
  ⟨by refine ⟨1, 5, fetched 0x40 2 (toLE 2 1 ++ zeros 54 ++ slotRecord 20), 1, up.withCmd 0x40 2 (toLE 2 1 ++ zeros 54 ++ slotRecord
     20), ?_, ?_, _, ready_of ?_, rfl, ?_⟩ <;> decide +kernel,
   by refine ⟨1, 5, fetched 0x40 2 (toLE 2 1 ++ zeros 54 ++ slotRecord 1048577), 1, (serving 100).withCmd 0x40 2 (toLE 2 1 ++ zeros
     54 ++ slotRecord 1048577), ?_, ?_, _, ready_of ?_, rfl, ?_, ?_⟩ <;> decide +kernel,
   by refine ⟨1, 5, fetched 0x40 2 (toLE 2 1 ++ zeros 54 ++ slotRecord 0), 1, (serving 100).withCmd 0x40 2 (toLE 2 1 ++ zeros 54 ++
     slotRecord 0), ?_, ?_, _, ready_of ?_, rfl, 5, ?_, ?_, ?_⟩ <;> decide +kernel,
   by refine ⟨1, 5, fetched 0x40 2 (toLE 2 1 ++ zeros 54 ++ slotRecord 20), 1, (serving 100).withCmd 0x40 2 (toLE 2 1 ++ zeros 54 ++
     slotRecord 20), ?_, ?_, _, ready_of ?_, rfl, ?_, ?_, ?_⟩ <;> decide +kernel,
   by refine ⟨1, 5, fetched 0x41 0 (toLE 2 1), 1, up.withCmd 0x41 0 (toLE 2 1), ?_, ?_, ready_of ?_, ?_⟩ <;> decide +kernel,
   by refine ⟨1, 5, fetched 0x41 0 (toLE 2 4), 4, (serving 100).withCmd 0x41 0 (toLE 2 4), ?_, ?_, ready_of ?_, 2, ?_, ?_⟩
     <;> decide +kernel,
   by refine ⟨1, 5, fetched 0x41 0 (toLE 2 3), 3, (serving 100).withCmd 0x41 0 (toLE 2 3), ?_, ?_, ready_of ?_, ?_, ?_⟩
     <;> decide +kernel,
   by refine ⟨1, 5, fetched 0x43 0 (toLE 2 1 ++ [1]), 1, up.withCmd 0x43 0 (toLE 2 1 ++ [1]), ?_, ?_, true, ready_of ?_, ?_, ?_⟩
     <;> decide +kernel,
   by refine ⟨1, 5, fetched 0x43 0 (toLE 2 9 ++ [1]), 9, (serving 100).withCmd 0x43 0 (toLE 2 9 ++ [1]), ?_, ?_, true, ready_of ?_,
     ?_, 2, ?_, ?_⟩ <;> decide +kernel,
   by refine ⟨1, 5, fetched 0x43 0 (toLE 2 1 ++ [0]), 1, (serving 100).withCmd 0x43 0 (toLE 2 1 ++ [0]), ?_, ?_, false, ready_of ?_,
     ?_, ?_, ?_⟩ <;> decide +kernel,
   by refine ⟨1, 5, fetched 0x42 1 (toLE 2 1), 1, up.withCmd 0x42 1 (toLE 2 1), ?_, ?_, ready_of ?_, 1, ?_⟩ <;> decide +kernel,
   by refine ⟨1, 5, fetched 0x42 1 (toLE 2 1), 1, (serving 100).withCmd 0x42 1 (toLE 2 1), ?_, ?_, ready_of ?_, ?_⟩
     <;> decide +kernel,
   by refine ⟨5, up.set .SRV_OUT_TAIL_tail 0 9, _, ?_, rfl, ?_⟩ <;> decide +kernel,
   by refine ⟨10, up.set .SRV_OUT_TAIL_tail 0 9, _, ?_, rfl, ?_⟩ <;> decide +kernel⟩

theorem witness_ServingStepsRun :
    (∃ y, ∃ w, ∃ rest, ∃ x, ∃ (s : State), s.layout? = some y ∧ s.serving.walks = w :: rest ∧ s.tilesUp = true ∧ x = s.slot w.slot ∧
      (x.gen ≠ w.gen ∨ x.state ≠ 1)) ∧
    (∃ y, ∃ w, ∃ rest, ∃ x, ∃ (s : State), s.layout? = some y ∧ s.serving.walks = w :: rest ∧ s.tilesUp = true ∧ x = s.slot w.slot ∧
      ∃ e, ∃ u, ∃ b, x.gen = w.gen ∧ x.state = 1 ∧ e = s.walk y x.record ∧ u = 32 * (y.mapArea + y.mapUnits * w.slot) ∧ b = mapBytes
      e w.gen) ∧
    (∃ (k : Fin 64), ∃ y, ∃ g, ∃ j, ∃ v, ∃ (s : State), s.group? k = some (y, g) ∧ j = s.groupStep k ∧ v = y.verifyBeat g j ∧
      s.planState = .running ∧ s.beatExecutes = true ∧ s.beatBegun v = true ∧ s.plan.beat ≤ v + s.get .PLN_CFG_toll_reach 0 ∧
      s.resultsPresent y g j = true) ∧
    (∃ (k : Fin 64), ∃ y, ∃ g, ∃ j, ∃ v, ∃ (s : State), s.group? k = some (y, g) ∧ j = s.groupStep k ∧ v = y.verifyBeat g j ∧
      s.planState = .running ∧ s.beatExecutes = true ∧ s.beatBegun (v + s.get .PLN_CFG_toll_reach 0) = true ∧ s.resultsPresent y g j
      = false) ∧
    (∃ (k : Fin 64), ∃ y, ∃ g, ∃ j, ∃ v, ∃ (s : State), s.group? k = some (y, g) ∧ j = s.groupStep k ∧ v = y.verifyBeat g j ∧
      s.planState = .running ∧ s.beatExecutes = true ∧ s.beatBegun (y.inBeat g (j + 1)) = true) :=
  ⟨by refine ⟨aLayout, ⟨1, 4⟩, [⟨2, 0⟩], pendingSlot, walking 4 (withSlot 1 pendingSlot (serving 100)), ?_, ?_, ?_, ?_, ?_⟩
     <;> decide +kernel,
   by refine ⟨aLayout, ⟨1, 3⟩, [⟨2, 0⟩], pendingSlot, walking 3 (withSlot 1 pendingSlot (serving 100)), ?_, ?_, ?_, ?_, _, _, _, ?_,
     ?_, rfl, rfl, rfl⟩ <;> decide +kernel,
   by refine ⟨0, aLayout, ⟨0, 2, 4, 12, 1, 100⟩, 2, 92, stepIn prefilling ⟨true, 3, true, 0, 8, 8, 0, List.replicate 8 1⟩ 2 (serving
     100), ?_, ?_, ?_, ?_, ?_, ?_, ?_, ?_⟩ <;> decide +kernel,
   by refine ⟨0, aLayout, ⟨0, 2, 4, 12, 1, 100⟩, 3, 124,
     { (stepIn prefilling ⟨true, 3, true, 0, 8, 8, 0, List.replicate 8 1⟩ 3 (serving 160)).set .PLN_CFG_toll_reach 0 32 with tier1 := Memory.empty },
     ?_, ?_, ?_, ?_, ?_, ?_, ?_⟩ <;> decide +kernel,
   by refine ⟨0, aLayout, ⟨0, 2, 4, 12, 1, 100⟩, 0, 28, serving 100, ?_, ?_, ?_, ?_, ?_, ?_⟩ <;> decide +kernel⟩

theorem witness_MailboxesAct :
    (∃ (a : Agent), ∃ (m : MbxIx), ∃ (s : State), ∃ o, o = s.get .MGT_MBX_STATUS_owner m ∧ s.reaches a m = true ∧ o = 0) ∧
    (∃ (a : Agent), ∃ (m : MbxIx), ∃ (s : State), ∃ o, o = s.get .MGT_MBX_STATUS_owner m ∧ s.reaches a m = true ∧ o ≠ 0) ∧
    (∃ (a : Agent), ∃ (m : MbxIx), ∃ (v : Word), ∃ (s : State), ∃ o, o = s.get .MGT_MBX_STATUS_owner m ∧ s.reaches a m = true ∧ bits
      v.toNat 7 0 = 0 ∧ o = agentNumber a ∧ s.get .MGT_MBX_STATUS_busy m ≠ 1) ∧
    (∃ (a : Agent), ∃ (m : MbxIx), ∃ (v : Word), ∃ (s : State), ∃ o, o = s.get .MGT_MBX_STATUS_owner m ∧ s.reaches a m = true ∧ bits
      v.toNat 7 0 = 0 ∧ o = agentNumber a ∧ s.get .MGT_MBX_STATUS_busy m = 1) ∧
    (∃ (a : Agent), ∃ (m : MbxIx), ∃ (v : Word), ∃ (s : State), ∃ o, o = s.get .MGT_MBX_STATUS_owner m ∧ s.reaches a m = true ∧ bits
      v.toNat 7 0 = 0xFF ∧ isSecure a = true ∧ s.get .MGT_MBX_STATUS_busy m ≠ 1) ∧
    (∃ (a : Agent), ∃ (m : MbxIx), ∃ (v : Word), ∃ (s : State), ∃ o, o = s.get .MGT_MBX_STATUS_owner m ∧ s.reaches a m = true ∧ bits
      v.toNat 7 0 = 0 ∧ o ≠ 0 ∧ o ≠ agentNumber a) ∧
    (∃ (a : Agent), ∃ (m : MbxIx), ∃ (s : State), ∃ o, o = s.get .MGT_MBX_STATUS_owner m ∧ s.reaches a m = true ∧ o ≠ agentNumber a)
      ∧
    (∃ (a : Agent), ∃ (m : MbxIx), ∃ (s : State), ∃ o, o = s.get .MGT_MBX_STATUS_owner m ∧ s.reaches a m = true ∧ o ≠ agentNumber a)
      ∧
    (∃ (a : Agent), ∃ (m : MbxIx), ∃ (v : Word), ∃ (s : State), ∃ o, o = s.get .MGT_MBX_STATUS_owner m ∧ s.reaches a m = true ∧ o =
      agentNumber a ∧ (s.get .MGT_MBX_STATUS_busy m = 1 ∨ bits v.toNat 10 0 = 0 ∨ 1984 < bits v.toNat 10 0)) ∧
    (∃ (a : Agent), ∃ (m : MbxIx), ∃ (v : Word), ∃ (s : State), ∃ o, o = s.get .MGT_MBX_STATUS_owner m ∧ s.reaches a m = true ∧ o =
      agentNumber a ∧ s.get .MGT_MBX_STATUS_busy m ≠ 1 ∧ 1 ≤ bits v.toNat 10 0 ∧ bits v.toNat 10 0 ≤ 1984) ∧
    (∃ (a : Agent), ∃ (m : MbxIx), ∃ (s : State), ∃ o, o = s.get .MGT_MBX_STATUS_owner m ∧ s.reaches a m = true ∧ o = agentNumber a)
      ∧
    (∃ (m : MbxIx), ∃ x, ∃ b, ∃ (s : State), s.hubUp = true ∧ s.get .MGT_MBX_STATUS_busy m = 1 ∧ s.response m = some x ∧ b =
      s.responseBytes m x) :=
  ⟨by refine ⟨.mc0, 3, up, _, rfl, ?_, rfl⟩ <;> decide +kernel,
   by refine ⟨.host, 3, locked 3 1 0, _, rfl, ?_, ?_⟩ <;> decide +kernel,
   by refine ⟨.host, 3, 0, locked 3 1 0, _, rfl, ?_, ?_, rfl, ?_⟩ <;> decide +kernel,
   by refine ⟨.host, 3, 0, locked 3 1 1, _, rfl, ?_, ?_, rfl, ?_⟩ <;> decide +kernel,
   by refine ⟨.security, 3, 0xFF, locked 3 1 0, _, rfl, ?_, ?_, ?_, ?_⟩ <;> decide +kernel,
   by refine ⟨.host, 3, 0, locked 3 0x10 0, _, rfl, ?_, ?_, ?_, ?_⟩ <;> decide +kernel,
   by refine ⟨.host, 3, locked 3 0x10 0, _, rfl, ?_, ?_⟩ <;> decide +kernel,
   by refine ⟨.host, 3, locked 3 0x10 0, _, rfl, ?_, ?_⟩ <;> decide +kernel,
   by refine ⟨.host, 3, 8, locked 3 1 1, _, rfl, ?_, rfl, ?_⟩ <;> decide +kernel,
   by refine ⟨.host, 3, 8, (locked 3 1 0).set .MGT_MBX_STATUS_done 3 1, _, rfl, ?_, rfl, ?_, ?_, ?_⟩ <;> decide +kernel,
   by refine ⟨.host, 3, locked 3 1 0, _, rfl, ?_, rfl⟩ <;> decide +kernel,
   by refine ⟨3, ⟨0, [5, 6]⟩, (answered 3 0 [5, 6] (asks 3 1 4 1 [] up)).responseBytes 3 ⟨0, [5, 6]⟩, answered 3 0 [5, 6] (asks 3 1
     4 1 [] up), ?_, ?_, ?_, ?_⟩ <;> decide +kernel⟩

theorem witness_ServicesAnswer :
    (∃ (m : MbxIx), ∃ (sent : List Byte), ∃ (data : List Byte), ∃ (s : State), data = sent.take 1976 ∧ ∃ (off : Word), ∃ a, s.serves
      m 1 1 = true ∧ a = 2 ^ 25 * s.spareImage + off.toNat ∧ 2 ^ 25 < off.toNat + data.length) ∧
    (∃ (m : MbxIx), ∃ (sent : List Byte), ∃ (data : List Byte), ∃ (s : State), data = sent.take 1976 ∧ ∃ (off : Word), ∃ a, s.serves
      m 1 1 = true ∧ a = 2 ^ 25 * s.spareImage + off.toNat ∧ off.toNat + data.length ≤ 2 ^ 25) ∧
    (∃ (m : MbxIx), ∃ (sent : List Byte), ∃ (data : List Byte), ∃ (s : State), data = sent.take 1976 ∧ s.serves m 1 2 = true ∧
      prefers s.mgmt.dirs s.spareImage = true) ∧
    (∃ (m : MbxIx), ∃ (sent : List Byte), ∃ (data : List Byte), ∃ (s : State), data = sent.take 1976 ∧ ∃ (x : ImageCheck), s.serves
      m 1 2 = true ∧ prefers s.mgmt.dirs s.spareImage = false ∧ imagePasses s.fused.minSecurity x = true) ∧
    (∃ (m : MbxIx), ∃ (sent : List Byte), ∃ (data : List Byte), ∃ (s : State), data = sent.take 1976 ∧ ∃ (x : ImageCheck), s.serves
      m 1 2 = true ∧ prefers s.mgmt.dirs s.spareImage = false ∧ imagePasses s.fused.minSecurity x = false) ∧
    (∃ (m : MbxIx), ∃ (sent : List Byte), ∃ (data : List Byte), ∃ (s : State), data = sent.take 1976 ∧ s.serves m 2 1 = true) ∧
    (∃ (m : MbxIx), ∃ (sent : List Byte), ∃ (data : List Byte), ∃ (s : State), data = sent.take 1976 ∧ ∃ (id : BitVec 16), s.serves
      m 2 2 = true ∧ s.mgmt.copies.length = 3 ∧ id.toNat = 0xFFFF) ∧
    (∃ (m : MbxIx), ∃ (sent : List Byte), ∃ (data : List Byte), ∃ (s : State), data = sent.take 1976 ∧ ∃ (id : BitVec 16), s.serves
      m 2 2 = true ∧ s.mgmt.copies.length = 3 ∧ id.toNat ≠ 0xFFFF) ∧
    (∃ (m : MbxIx), ∃ (sent : List Byte), ∃ (data : List Byte), ∃ (s : State), data = sent.take 1976 ∧ s.serves m 3 1 = true ∧
      s.fencesHeld = false ∧ s.get .RTE_FENCE_LO_fence_lo 0 < 2 ^ 32) ∧
    (∃ (m : MbxIx), ∃ (sent : List Byte), ∃ (data : List Byte), ∃ (s : State), data = sent.take 1976 ∧ s.serves m 4 1 = true) ∧
    (∃ (m : MbxIx), ∃ (sent : List Byte), ∃ (data : List Byte), ∃ (s : State), data = sent.take 1976 ∧ s.serves m 6 1 = true ∧
      s.secretsRefused = true) ∧
    (∃ (m : MbxIx), ∃ (sent : List Byte), ∃ (data : List Byte), ∃ (s : State), data = sent.take 1976 ∧ ∃ (off : Word), s.serves m 6
      1 = true ∧ s.secretsRefused = false ∧ 2 ^ 18 < off.toNat + data.length) ∧
    (∃ (m : MbxIx), ∃ (sent : List Byte), ∃ (data : List Byte), ∃ (s : State), data = sent.take 1976 ∧ ∃ (off : Word), s.serves m 6
      1 = true ∧ s.secretsRefused = false ∧ off.toNat + data.length ≤ 2 ^ 18) ∧
    (∃ (m : MbxIx), ∃ (sent : List Byte), ∃ (data : List Byte), ∃ (s : State), data = sent.take 1976 ∧ s.serves m 6 2 = true ∧
      s.secretsRefused = true) ∧
    (∃ (m : MbxIx), ∃ (sent : List Byte), ∃ (data : List Byte), ∃ (s : State), data = sent.take 1976 ∧ ∃ (off : Word), ∃ (n : Word),
      s.serves m 6 2 = true ∧ s.secretsRefused = false ∧ off.toNat + n.toNat ≤ 2 ^ 18 ∧ n.toNat ≤ 2036) :=
  ⟨by refine ⟨3, [1, 2], _, asks 3 1 1 1 [] up, rfl, 0x1FFFFFF, _, ?_, rfl, ?_⟩ <;> decide +kernel,
   by refine ⟨3, [1, 2], _, asks 3 1 1 1 [] up, rfl, 0x1FFFFFE, _, ?_, rfl, ?_⟩ <;> decide +kernel,
   by refine ⟨3, [], _, withDirs 1 (asks 3 1 1 2 [] up), rfl, ?_, ?_⟩ <;> decide +kernel,
   by refine ⟨3, [], _, withDirs 0 (asks 3 1 1 2 [] up), rfl, ⟨true, true, 5, 1⟩, ?_, ?_, ?_⟩ <;> decide +kernel,
   by refine ⟨3, [], _, withDirs 0 (asks 3 1 1 2 [] up), rfl, ⟨false, true, 5, 1⟩, ?_, ?_, ?_⟩ <;> decide +kernel,
   by refine ⟨3, [], _, asks 3 1 2 1 [] up, rfl, ?_⟩ <;> decide +kernel,
   by refine ⟨3, [1, 2], _, asks 3 1 2 2 [] up, rfl, 0xFFFF, ?_, ?_, ?_⟩ <;> decide +kernel,
   by refine ⟨3, [1, 2], _, asks 3 1 2 2 [] up, rfl, 0xFFFE, ?_, ?_, ?_⟩ <;> decide +kernel,
   by refine ⟨3, [], _, asks 3 0x11 3 1 [] up, rfl, ?_, ?_, ?_⟩ <;> decide +kernel,
   by refine ⟨3, [], _, asks 3 0x11 4 1 [] up, rfl, ?_⟩ <;> decide +kernel,
   by refine ⟨28, [1], _, returned (asks 28 0x10 6 1 [] up), rfl, ?_, ?_⟩ <;> decide +kernel,
   by refine ⟨28, [1, 2], _, deployed (asks 28 0x10 6 1 [] up), rfl, 0x3FFFF, ?_, ?_, ?_⟩ <;> decide +kernel,
   by refine ⟨28, [1, 2], _, deployed (asks 28 0x11 6 1 [] up), rfl, 0x3FFFE, ?_, ?_, ?_⟩ <;> decide +kernel,
   by refine ⟨28, [], _, returned (asks 28 0x10 6 2 [] up), rfl, ?_, ?_⟩ <;> decide +kernel,
   by refine ⟨28, [], _, deployed (asks 28 0x10 6 2 [] up), rfl, 0x3FFFE, 2, ?_, ?_, ?_, ?_⟩ <;> decide +kernel⟩

theorem witness_LifeCycleRequests :
    (∃ (m : MbxIx), ∃ r, ∃ (s : State), s.serves m 5 1 = true ∧ s.lcWaits m = false ∧ r = s.request m 8 64 ∧ s.requestLength m < 72)
      ∧
    (∃ (m : MbxIx), ∃ r, ∃ (s : State), s.serves m 5 1 = true ∧ s.lcWaits m = false ∧ r = s.request m 8 64 ∧ ∃ n, 72 ≤
      s.requestLength m ∧ s.lcReason r = some n) ∧
    (∃ (m : MbxIx), ∃ r, ∃ (s : State), s.serves m 5 1 = true ∧ s.lcWaits m = false ∧ r = s.request m 8 64 ∧ 72 ≤ s.requestLength m
      ∧ s.lcReason r = none) ∧
    (∃ (q : QueueIx), ∃ (cid : Cid), ∃ (f : Fetched), ∃ r, ∃ (s : State), s.Ready q cid 0x71 f ∧ r = slice f.packet 64 64 ∧ f.par 8
      1 ≠ leAt r 9 1) ∧
    (∃ (q : QueueIx), ∃ (cid : Cid), ∃ (f : Fetched), ∃ r, ∃ (s : State), s.Ready q cid 0x71 f ∧ r = slice f.packet 64 64 ∧ ∃ n,
      f.par 8 1 = leAt r 9 1 ∧ s.lcReason r = some n) ∧
    (∃ (q : QueueIx), ∃ (cid : Cid), ∃ (f : Fetched), ∃ r, ∃ (s : State), s.Ready q cid 0x71 f ∧ r = slice f.packet 64 64 ∧ f.par 8
      1 = leAt r 9 1 ∧ s.lcReason r = none) ∧
    (∃ x, ∃ (s : State), s.mgmt.transition = some x ∧ s.powered = true ∧ s.get .SEC_STATUS_wipe_busy 0 = 0) :=
  ⟨by refine ⟨28, (asks 28 1 5 1 [1] up).request 28 8 64, asks 28 1 5 1 [1] up, ?_, ?_, ?_, ?_⟩ <;> decide +kernel,
   by refine ⟨28, (asks 28 1 5 1 (noMac (up.fused.serial + 1) 2 3 0) up).request 28 8 64, asks 28 1 5 1 (noMac (up.fused.serial + 1)
     2 3 0) up, ?_, ?_, ?_, 3, ?_, ?_⟩ <;> decide +kernel,
   ⟨28, signed, lcAsked, lcAsked_serves, by decide +kernel, lcAsked_request, by decide +kernel, lcAsked_reason⟩,
   by refine ⟨1, 5, lcF 2 (noMac 0 0 1 0), slice (lcF 2 (noMac 0 0 1 0)).packet 64 64, lcCmd 2 (noMac 0 0 1 0) up, ready_of ?_, ?_,
     ?_⟩ <;> decide +kernel,
   by refine ⟨1, 5, lcF 1 (noMac up.fused.serial up.fused.lifeCycle 1 0), slice (lcF 1 (noMac up.fused.serial up.fused.lifeCycle 1
     0)).packet 64 64, lcCmd 1 (noMac up.fused.serial up.fused.lifeCycle 1 0) up, ready_of ?_, ?_, 5, ?_, ?_⟩ <;> decide +kernel,
   ⟨1, 5, lcFetched, signed, lcUp.withFetched lcFetched, lcFetched_ready, lcFetched_signed, lcFetched_target, lcFetched_reason⟩,
   by refine ⟨⟨1, none, 28⟩, moving ⟨1, none, 28⟩ (up.set .SEC_LC_busy 0 1), ?_, ?_, ?_⟩ <;> decide +kernel⟩

theorem witness_FatalPathRuns :
    (∃ (r : Raised), ∃ (s : State), s.powered = true ∧ s.raised = [r] ∧ s.fatalActive = false) ∧
    (∃ (r : Raised), ∃ (s : State), s.powered = true ∧ ∃ (x : Raised), s.raised = [r, x] ∧ s.fatalActive = false) ∧
    (∃ (r : Raised), ∃ (s : State), s.powered = true ∧ s.raised = [r] ∧ s.fatalActive = true) ∧
    (∃ (s : State), s.hubUp = true ∧ s.fault.reportDue = true ∧ s.get .FLT_CTRL_report_en 0 = 1) ∧
    (∃ (s : State), s.hubUp = true ∧ s.fault.reportDue = true ∧ s.get .FLT_CTRL_report_en 0 ≠ 1) ∧
    (∃ (s : State), s.hubUp = true ∧ ∃ b, s.fault.report = some b ∧ s.fatalActive = true ∧ s.fault.sentAt + repeatGap
      s.fault.sendings ≤ s.time.tick ∧ s.get .FLT_CTRL_report_en 0 = 1) ∧
    (∃ (s : State), s.hubUp = true ∧ s.fault.summaryDue = true ∧ (s.fault.reportDue = false ∨ s.get .FLT_DUMP_pending 0 = 1)) ∧
    (∃ (s : State), s.hubUp = true ∧ s.fault.dumpDue = true ∧ s.fault.summaryDue = false ∧ s.fault.tooHot = false ∧ s.fieldUp = true
      ∧ s.pwr.waiting = false) :=
  ⟨by refine ⟨⟨.tileHalt, 7⟩, raising [⟨.tileHalt, 7⟩] (running 100), ?_, ?_, ?_⟩ <;> decide +kernel,
   by refine ⟨⟨.tileHalt, 7⟩, raising [⟨.tileHalt, 7⟩, ⟨.refLost, 8⟩] (running 100), ?_, ⟨.refLost, 8⟩, ?_, ?_⟩ <;> decide +kernel,
   by refine ⟨⟨.tileHalt, 7⟩, raising [⟨.tileHalt, 7⟩] ((running 100).set .FLT_FATAL_active 0 1), ?_, ?_, ?_⟩ <;> decide +kernel,
   by refine ⟨withFault (fun x => { x with reportDue := true }) ((running 100).set .FLT_CTRL_report_en 0 1), ?_, ?_, ?_⟩
     <;> decide +kernel,
   by refine ⟨withFault (fun x => { x with reportDue := true }) ((running 100).set .FLT_CTRL_report_en 0 0), ?_, ?_, ?_⟩
     <;> decide +kernel,
   by refine ⟨withFault (fun x => { x with report := some (List.replicate 64 1), sendings := 2, sentAt := 0 }) ((((running
     100).atBeat (2 ^ 40) 100).set .FLT_CTRL_report_en 0 1).set .FLT_FATAL_active 0 1), ?_, List.replicate 64 1, ?_, ?_, ?_, ?_⟩
     <;> decide +kernel,
   by refine ⟨withFault (fun x => { x with summaryDue := true }) (running 100), ?_, ?_, ?_⟩ <;> decide +kernel,
   by refine ⟨withFault (fun x => { x with dumpDue := true }) (running 100), ?_, ?_, ?_, ?_, ?_, ?_⟩ <;> decide +kernel⟩

theorem witness_TelemetryRecords :
    (∃ n, ∃ u, ∃ (s : State), s.firmwareRuns = true ∧ s.get .TEL_CTRL_collect_en 0 = 1 ∧ isDownbeat s.time.beat = true ∧ s.time.beat
      / 16 % max 1 (s.get .TEL_CTRL_period_measures 0) = 0 ∧ s.tel.ended ≠ some s.time.tick ∧ n = s.get .TEL_MOD_COUNT_written 0 ∧ u
      = 32 * (moduleRing + 4 * (n % 65536))) ∧
    (∃ (s : State), s.firmwareRuns = true ∧ s.get .TEL_CTRL_collect_en 0 ≠ 1 ∧ isDownbeat s.time.beat = true ∧ s.time.beat / 16 %
      max 1 (s.get .TEL_CTRL_period_measures 0) = 0 ∧ s.tel.ended ≠ some s.time.tick) ∧
    (∃ (s : State), s.firmwareRuns = true ∧ s.readingDue = true) :=
  ⟨by refine ⟨0, _, ((up.atBeat 1600 1600).set .TEL_CTRL_collect_en 0 1).set .TEL_CTRL_period_measures 0 1, ?_, ?_, ?_, ?_, ?_, ?_,
     rfl⟩ <;> decide +kernel,
   by refine ⟨((up.atBeat 1600 1600).set .TEL_CTRL_collect_en 0 0).set .TEL_CTRL_period_measures 0 1, ?_, ?_, ?_, ?_, ?_⟩
     <;> decide +kernel,
   by refine ⟨up.atBeat (2 ^ 40) 100, ?_, ?_⟩ <;> decide +kernel⟩

end Sys2Proof.Machine
end

namespace Sys2Proof.Machine

/-! ### Everything but the registers -/

/-- The state without its outputs, registers, latches and hidden accumulators. -/
def State.apart (s : State) : State := { s with out := [], regs := [], latches := [], accum := [] }

@[simp] theorem apart_set (s : State) (f : RegField) (i v : Nat) : (s.set f i v).apart = s.apart := rfl
@[simp] theorem apart_bump (s : State) (f : RegField) (i n : Nat) : (s.bump f i n).apart = s.apart := rfl
@[simp] theorem apart_begin (s : State) : s.begin.apart = s.apart := rfl
@[simp] theorem apart_unlatch (s : State) (r : Reg) (i : Nat) : (s.unlatch r i).apart = s.apart := rfl

@[simp] theorem apart_clearAll (s : State) (fs : List RegField) (i : Nat) : (s.clearAll fs i).apart = s.apart :=
  foldl_keeps State.apart (g := fun s f => s.clear f i) (fun _ _ => rfl) fs s

@[simp] theorem apart_writeField (s : State) (f : RegField) (i v : Nat) : (s.writeField f i v).apart = s.apart := by
  unfold State.writeField
  split
  case h_3 => split <;> rfl
  all_goals rfl

@[simp] theorem apart_writeReg (s : State) (r : Reg) (i v : Nat) : (s.writeReg r i v).apart = s.apart := by
  unfold State.writeReg
  rw [foldl_keeps State.apart (fun s f => apart_writeField s f i _), apart_unlatch]

@[simp] theorem apart_hostDenied (s : State) : s.hostDenied.apart = s.apart := by simp [State.hostDenied]

@[simp] theorem apart_secDenied (s : State) (a : Agent) : (s.secDenied a).apart = s.apart := by
  rw [State.secDenied, apart_set]
  split
  · exact apart_hostDenied s
  · rfl

theorem SameEngines.of_apart {s t : State} (h : t.apart = s.apart) : SameEngines s t := by
  injection h with _ _ _ _ _ _ _ _ _ _ _ _ _ _ _ _ time plan ports router host serving
  exact ⟨time, plan, ports, router, host, serving⟩

theorem SameMgmt.of_apart {s t : State} (h : t.apart = s.apart) : SameMgmt s t := by
  injection h with _ _ _ _ _ _ _ _ _ _ _ _ _ _ _ _ _ _ _ _ _ _ _ _ mgmt fault pwr tel
  exact ⟨mgmt, fault, pwr, tel⟩

theorem field_of_apart {s t : State} (h : t.apart = s.apart) : t.field = s.field :=
  (congrArg State.field h : t.apart.field = s.apart.field)

/-! ### What changes registers alone -/

theorem SameRegs.refl (fs : List RegField) (s : State) : SameRegs fs s s := fun _ _ _ => rfl

theorem SameRegs.set {fs : List RegField} {s t : State} (h : SameRegs fs s t) {f : RegField} (hf : f ∈ fs) (i v : Nat) :
    SameRegs fs s (t.set f i v) := fun g j hg =>
  (State.get_set_other t v (.inl (ne_of_mem_of_not_mem hf hg).symm)).trans (h g j hg)

theorem SameRegs.bump {fs : List RegField} {s t : State} (h : SameRegs fs s t) {f : RegField} (hf : f ∈ fs) (i n : Nat) :
    SameRegs fs s (t.bump f i n) := fun g j hg =>
  (State.get_bump_other t n (.inl (ne_of_mem_of_not_mem hf hg).symm)).trans (h g j hg)

theorem clearAll_fused (s : State) (fs : List RegField) (i : Nat) : (s.clearAll fs i).fused = s.fused :=
  foldl_keeps State.fused (g := fun s f => s.clear f i) (fun _ _ => rfl) fs s

/-- A field outside the list, or of another index, is not cleared. -/
theorem State.get_clearAll_other (s : State) {fs : List RegField} {f : RegField} {i j : Nat} (h : f ∉ fs ∨ j ≠ i) :
    (s.clearAll fs i).get f j = s.get f j := by
  induction fs generalizing s with
  | nil => rfl
  | cons g fs ih =>
    have hrest : f ∉ fs ∨ j ≠ i := h.imp_left (fun hf hm => hf (List.mem_cons_of_mem g hm))
    have hfirst : f ≠ g ∨ j ≠ i := h.imp_left List.ne_of_not_mem_cons
    exact (ih (s.clear g i) hrest).trans (State.get_set_other s _ hfirst)

/-- A field of the list holds its reset value. -/
theorem State.get_clearAll_mem (s : State) {fs : List RegField} {f : RegField} (i : Nat) (h : f ∈ fs) :
    (s.clearAll fs i).get f i = defaultOf s.fused f i % 2 ^ f.width := by
  induction fs generalizing s with
  | nil => simp at h
  | cons g fs ih =>
    show ((s.clear g i).clearAll fs i).get f i = _
    by_cases hf : f ∈ fs
    · exact ih (s.clear g i) hf
    · rw [State.get_clearAll_other _ (.inl hf)]
      rcases List.mem_cons.1 h with rfl | h
      · exact State.get_set_same ..
      · exact absurd h hf

theorem SameRegs.clearAll {fs gs : List RegField} {s t : State} (h : SameRegs fs s t) (hg : gs ⊆ fs) (i : Nat) :
    SameRegs fs s (t.clearAll gs i) := fun f j hf =>
  (State.get_clearAll_other t (.inl (fun hm => hf (hg hm)))).trans (h f j hf)

/-! ### Commands under a condition -/

/-- A command whose meaning is an effect under a condition that holds runs to what the effect makes of the state. -/
theorem State.runs_of_occurs {c : Instr} {g : Bool} {f : State → State} {s : State} {P : State → Prop}
    (hc : exec c s = occurs g f s) (hg : g = true) (h : P (f s.begin)) : s.Runs c P := by
  unfold State.Runs
  rw [hc]
  exact occurs_runs hg h

end Sys2Proof.Machine

namespace Sys2Proof.Machine

/-- The fence registers' reset values fence every port (R340). -/
theorem reset_fenced {p : Nat} (h : p < 36) : State.reset.fenced p = true := by
  have hports : ∀ q : Fin 36, State.reset.fenced q = true := by decide
  exact hports ⟨p, h⟩

/-- Settles O6: the reset state is a literal, and a field that it does not list reads as its reset value. -/
theorem resetState : Obligations.ResetState := by
  unfold Obligations.ResetState
  exact ⟨rfl, rfl, rfl, rfl, rfl, rfl, rfl, rfl, fun p hp => ⟨rfl, reset_fenced hp⟩, State.reset_get, rfl, rfl⟩

end Sys2Proof.Machine

namespace Sys2Proof.Machine

/-! ### Addresses -/

/-- An address names a register of the BAR it lies in. -/
theorem bar_of_barReg {bar4 : Bool} {off i : Nat} {r : Reg} (h : barReg bar4 off = some (r, i)) : r.info.bar = barOf bar4 := by
  unfold barReg at h
  split at h
  case isFalse => simp at h
  case isTrue =>
    obtain ⟨q, -, hq⟩ := List.exists_of_findSome?_eq_some h
    unfold Reg.at? at hq
    split at hq
    case isFalse => simp at hq
    case isTrue hbar =>
      obtain ⟨k, -, hk⟩ := Option.map_eq_some_iff.1 hq
      rw [← (Prod.mk.inj hk).1]
      exact hbar.1

theorem execRcRead_at {a : Agent} {bar4 : Bool} {off : BitVec 26} {r : Reg} {i : Nat} (h : barReg bar4 off.toNat = some (r, i))
    (s : State) : exec (.rcRead a bar4 off) s = occurs (s.agentUp a && !ownRead r) (readReg a r i) s := by
  show execRcRead a bar4 off s = _
  rw [execRcRead, h]

theorem execRegisterWrite_at {a : Agent} {bar4 : Bool} {off : BitVec 26} {v : Word} {r : Reg} {i : Nat}
    (h : barReg bar4 off.toNat = some (r, i)) (s : State) :
    exec (.registerWrite a bar4 off v) s = occurs (s.agentUp a && !ownWrite r) (registerWrite a r i v.toNat) s := by
  show execRegisterWrite a bar4 off v s = _
  rw [execRegisterWrite, h]

/-! ### Writes by access code (R12) -/

theorem Reg.fields_nodup (r : Reg) : r.fields.Nodup := by cases r <;> decide

/-- No register with a locked field holds a lock. -/
theorem Reg.locks_elsewhere (r : Reg) : ∀ f ∈ r.fields, f.access = .RWL →
    .BEAT_CTRL_limit_lock ∉ r.fields ∧ .LNK_CTRL_cfg_lock ∉ r.fields := by cases r <;> decide

theorem negotiated_not_secure (r : Reg) : negotiated r = true → inBlock 0x20000 r = false := by cases r <;> decide

theorem State.get_writeField_other (s : State) {f g : RegField} {i j : Nat} (v : Nat) (h : g ≠ f ∨ j ≠ i) :
    (s.writeField f i v).get g j = s.get g j := by
  unfold State.writeField
  split
  case h_1 | h_2 | h_4 | h_5 => exact State.get_set_other s _ h
  case h_3 =>
    split
    · rfl
    · exact State.get_set_other s _ h
  case h_6 | h_7 | h_8 => rfl

/-- The fields of one index written, each with its own value. -/
def State.writeFields (s : State) (fs : List RegField) (i : Nat) (val : RegField → Nat) : State :=
  fs.foldl (fun s f => s.writeField f i (val f)) s

theorem State.get_writeFields_other (s : State) {fs : List RegField} {f : RegField} {i j : Nat} (val : RegField → Nat)
    (h : f ∉ fs ∨ j ≠ i) : (s.writeFields fs i val).get f j = s.get f j := by
  induction fs generalizing s with
  | nil => rfl
  | cons g fs ih =>
    have hrest : f ∉ fs ∨ j ≠ i := h.imp_left (fun hf hm => hf (List.mem_cons_of_mem g hm))
    have hfirst : f ≠ g ∨ j ≠ i := h.imp_left List.ne_of_not_mem_cons
    exact (ih (s.writeField g i (val g)) hrest).trans (State.get_writeField_other s _ hfirst)

/-- A field of the list is written once, in a state that reads as `s` everywhere but at the other fields of the list. -/
theorem State.get_writeFields_mem (s : State) {fs : List RegField} (hfs : fs.Nodup) {f : RegField} (hf : f ∈ fs) (i : Nat)
    (val : RegField → Nat) : ∃ u : State, (∀ g j, g ∉ fs ∨ g = f → u.get g j = s.get g j) ∧
      (s.writeFields fs i val).get f i = (u.writeField f i (val f)).get f i := by
  induction fs generalizing s with
  | nil => simp at hf
  | cons g fs ih =>
    obtain ⟨hg, hfs⟩ := List.nodup_cons.1 hfs
    rcases List.mem_cons.1 hf with rfl | hf
    · exact ⟨s, fun _ _ _ => rfl, State.get_writeFields_other _ val (.inl hg)⟩
    · obtain ⟨u, hu, hget⟩ := ih (s.writeField g i (val g)) hfs hf
      refine ⟨u, fun k j hk => ?_, hget⟩
      have hkg : k ≠ g := by
        rcases hk with hk | rfl
        · exact List.ne_of_not_mem_cons hk
        · exact ne_of_mem_of_not_mem hf hg
      exact (hu k j (hk.imp_left (fun h hm => h (List.mem_cons_of_mem g hm)))).trans
        (State.get_writeField_other s _ (.inl hkg))

theorem State.writeReg_eq (s : State) (r : Reg) (i v : Nat) :
    s.writeReg r i v = (s.unlatch r i).writeFields r.fields i (fun f => bits v (f.lo + f.width - 1) f.lo) := rfl

/-- What a plain write of a register makes of its fields: each as its access code says (R12). -/
theorem State.get_writeReg_mem (s : State) {r : Reg} (i v : Nat) {f : RegField} (hf : f ∈ r.fields) {x : Nat}
    (hx : x = bits v (f.lo + f.width - 1) f.lo) :
    (f.access = .RW ∨ f.access = .RWS → (s.writeReg r i v).get f i = s.stored f i x % 2 ^ f.width) ∧
    (f.access = .RWL → s.lockedField f i = true → (s.writeReg r i v).get f i = s.get f i) ∧
    (f.access = .W1S → (s.writeReg r i v).get f i = (s.get f i ||| x) % 2 ^ f.width) ∧
    (f.access = .W1C → (s.writeReg r i v).get f i = (s.get f i - (s.get f i &&& x)) % 2 ^ f.width) ∧
    (f.access = .RO ∨ f.access = .RC → (s.writeReg r i v).get f i = s.get f i) := by
  obtain ⟨u, hu, hget⟩ := (s.unlatch r i).get_writeFields_mem r.fields_nodup hf i (fun f => bits v (f.lo + f.width - 1) f.lo)
  rw [State.writeReg_eq, hget, ← hx]
  have hold : u.get f i = s.get f i := hu f i (.inr rfl)
  refine ⟨fun ha => ?_, fun ha hlock => ?_, fun ha => ?_, fun ha => ?_, fun ha => ?_⟩
  · have hstored : u.stored f i x = s.stored f i x := by
      unfold State.stored
      split
      case h_2 => rcases ha with ha | ha <;> exact absurd ha (by decide)
      all_goals rfl
    rcases ha with ha | ha <;> simp [State.writeField, ha, hstored]
  · obtain ⟨hlimit, hcfg⟩ := r.locks_elsewhere f hf ha
    have hsame : u.lockedField f i = true := by
      rw [← hlock, State.lockedField, State.lockedField, hu _ _ (.inl hlimit), hu _ _ (.inl hcfg)]
      rfl
    simp [State.writeField, ha, hsame, hold]
  · simp [State.writeField, ha, hold]
  · simp [State.writeField, ha, hold]
  · rcases ha with ha | ha <;> simp [State.writeField, ha, hold]

theorem State.get_writeReg_other (s : State) {r : Reg} {i j : Nat} (v : Nat) {f : RegField} (h : f ∉ r.fields ∨ j ≠ i) :
    (s.writeReg r i v).get f j = s.get f j :=
  State.get_writeFields_other (s.unlatch r i) (fun f => bits v (f.lo + f.width - 1) f.lo) h

theorem writeKind_plain {r : Reg} (h : actingWrite r = false) (i v : Nat) (s : State) : writeKind r i v s = s.writeReg r i v := by
  unfold writeKind
  split
  case h_6 => rfl
  all_goals exact absurd h (by decide)

/-! ### Which write it is -/

section
variable {a : Agent} {r : Reg} {i v : Nat} {s : State}

theorem registerWrite_negotiated (h : negotiated r = true) (hen : s.get .HST_CTRL_enable 0 = 1) : registerWrite a r i v s = s := by
  simp [registerWrite, h, hen]

theorem registerWrite_secDenied (hon : s.offline r = false) (hsec : inBlock 0x20000 r = true) (hbar : r.info.bar = 0)
    (ha : isSecure a = false) : registerWrite a r i v s = s.secDenied a := by
  have hneg : negotiated r = false := by
    by_contra hn
    rw [negotiated_not_secure r (by simpa using hn)] at hsec
    cases hsec
  simp [registerWrite, hon, hneg, hsec, hbar, ha]

theorem registerWrite_writes (hon : s.offline r = false) (hneg : negotiated r = false ∨ s.get .HST_CTRL_enable 0 ≠ 1)
    (hsec : inBlock 0x20000 r = false ∨ isSecure a = true) (hflt : inBlock 0x30000 r = false ∨ writesFlt a = true) :
    registerWrite a r i v s = writeKind r i v s := by
  have h1 : (negotiated r && s.get .HST_CTRL_enable 0 == 1) = false := by rcases hneg with h | h <;> simp [h]
  have h2 : (inBlock 0x20000 r && r.info.bar == 0 && !isSecure a) = false := by rcases hsec with h | h <;> simp [h]
  have h3 : (inBlock 0x30000 r && r.info.bar == 0 && !writesFlt a) = false := by rcases hflt with h | h <;> simp [h]
  simp [registerWrite, hon, h1, h2, h3]

end

theorem secDenied_sameRegs (s : State) (a : Agent) :
    SameRegs [.SEC_STATUS_nonsec_denied, .MGT_STATUS_host_denied, .MGT_ERR_access_denied] s (s.secDenied a) := by
  unfold State.secDenied
  split
  · exact (((SameRegs.refl _ s).set (by simp) 0 1).bump (by simp) 0 1).set (by simp) 0 1
  · exact (SameRegs.refl _ s).set (by simp) 0 1

/-! ### The statistics of the plan engine (R109) -/

/-- Fields cleared at several indices: the others keep their values. -/
theorem State.get_clearEach_other (s : State) (fs : List RegField) (is : List Nat) {f : RegField} {j : Nat} (h : f ∉ fs ∨ j ∉ is) :
    (s.each is (fun s i => s.clearAll fs i)).get f j = s.get f j := by
  induction is generalizing s with
  | nil => rfl
  | cons i is ih =>
    have hrest : f ∉ fs ∨ j ∉ is := h.imp_right (fun hj hm => hj (List.mem_cons_of_mem i hm))
    exact (ih (s.clearAll fs i) hrest).trans (State.get_clearAll_other s (h.imp_right List.ne_of_not_mem_cons))

theorem State.get_clearEach_mem (s : State) {fs : List RegField} {is : List Nat} {f : RegField} {j : Nat} (hf : f ∈ fs) (hj : j ∈ is) :
    (s.each is (fun s i => s.clearAll fs i)).get f j = defaultOf s.fused f j % 2 ^ f.width := by
  induction is generalizing s with
  | nil => simp at hj
  | cons i is ih =>
    show ((s.clearAll fs i).each is (fun s i => s.clearAll fs i)).get f j = _
    by_cases hm : j ∈ is
    · rw [ih _ hm, clearAll_fused]
    · rcases List.mem_cons.1 hj with rfl | hj
      · rw [State.get_clearEach_other _ _ _ (.inr hm), State.get_clearAll_mem s j hf]
      · exact absurd hj hm

end Sys2Proof.Machine

namespace Sys2Proof.Machine

/-- The statistics of the module, and those of each die. -/
def planStats : List RegField :=
  [.PLN_TOLL_ORIG_region_late, .PLN_TOLL_ORIG_item_late, .PLN_TOLL_ORIG_link, .PLN_TOLL_ORIG_stop, .PLN_TOLL_RX_received,
   .PLN_TOLL_RX_foreign, .PLN_TOLL_RX_merged, .PLN_LAST_last_measures]
def dieStats : List RegField := [.PLN_DIE_LATE_late_measures, .PLN_DIE_LATE_last_region]

theorem statsClear_eq (v : Nat) (s : State) : statsClear v s =
    ((s.set .PLN_CTRL_finish_words 0 (bits v 0 0)).clearAll planStats 0).each (List.range 8) (fun s d => s.clearAll dieStats d) := rfl

@[simp] theorem apart_statsClear (v : Nat) (s : State) : (statsClear v s).apart = s.apart := by
  rw [statsClear_eq, State.each, foldl_keeps State.apart (fun s d => apart_clearAll s dieStats d), apart_clearAll, apart_set]

theorem statsClear_finishWords (v : Nat) (s : State) : (statsClear v s).get .PLN_CTRL_finish_words 0 = bits v 0 0 := by
  rw [statsClear_eq, State.get_clearEach_other _ _ _ (.inl (by decide)), State.get_clearAll_other _ (.inl (by decide)),
    State.get_set_same]
  exact Nat.mod_mod _ _

theorem statsClear_planStats (v : Nat) (s : State) {f : RegField} (hf : f ∈ planStats) (hd : f ∉ dieStats) :
    (statsClear v s).get f 0 = defaultOf s.fused f 0 % 2 ^ f.width := by
  rw [statsClear_eq, State.get_clearEach_other _ _ _ (.inl hd), State.get_clearAll_mem _ _ hf, State.set_fused]

theorem statsClear_dieStats (v : Nat) (s : State) {f : RegField} (hf : f ∈ dieStats) {d : Nat} (hd : d < 8) :
    (statsClear v s).get f d = defaultOf s.fused f d % 2 ^ f.width := by
  rw [statsClear_eq, State.get_clearEach_mem _ hf (List.mem_range.2 hd), clearAll_fused, State.set_fused]

theorem statsClear_sameRegs (v : Nat) (s : State) : SameRegs (.PLN_CTRL_finish_words :: planStats ++ dieStats) s (statsClear v s) := by
  intro f i hf
  simp only [List.cons_append, List.mem_cons, List.mem_append, not_or] at hf
  obtain ⟨hw, hp, hd⟩ := hf
  rw [statsClear_eq, State.get_clearEach_other _ _ _ (.inl hd), State.get_clearAll_other _ (.inl hp), State.get_set_other _ _ (.inl hw)]

/-- A host access that the hub refuses: it is counted, and a read is answered with `o`. -/
def badAccess (write : Bool) (o : Output) (s : State) : State :=
  if write then s.bump .HST_ERR_bad_access 0 1 else (s.bump .HST_ERR_bad_access 0 1).emit o

theorem badAccess_counts (write : Bool) (o : Output) (s : State) :
    (badAccess write o s.begin).out = (if write then [] else [o])
      ∧ (badAccess write o s.begin).get .HST_ERR_bad_access 0
        = min (s.get .HST_ERR_bad_access 0 + 1) (2 ^ RegField.width .HST_ERR_bad_access - 1)
      ∧ SameRegs [.HST_ERR_bad_access] s (badAccess write o s.begin) ∧ SameEngines s (badAccess write o s.begin)
      ∧ SameMgmt s (badAccess write o s.begin) := by
  have hcounted : SameRegs [.HST_ERR_bad_access] s (s.begin.bump .HST_ERR_bad_access 0 1) :=
    SameRegs.bump (t := s.begin) (SameRegs.refl _ s) (by simp) 0 1
  cases write with
  | true => exact ⟨rfl, State.get_bump_same .., hcounted, .of_apart rfl, .of_apart rfl⟩
  | false => exact ⟨rfl, State.get_bump_same (s := s.begin) .., hcounted, .of_apart rfl, .of_apart rfl⟩

/-- Settles O26: by the case of R12 that the register, the agent and the interface make; a plain write goes field by field. -/
theorem registerWrites : Obligations.RegisterWrites := by
  unfold Obligations.RegisterWrites
  refine ⟨fun a bar4 off v r i s hat hup hown hon => ⟨?denied, ?negotiated, ?plain⟩, fun w s hup => ⟨?reserved, ?invalid⟩, ?stats⟩
  case denied =>
    intro hbar hsec ha
    have hbar0 : r.info.bar = 0 := by rw [bar_of_barReg hat, hbar]; rfl
    refine State.runs_of_occurs (execRegisterWrite_at hat s) (by simp [hup, hown]) ?_
    rw [registerWrite_secDenied (s := s.begin) hon hsec hbar0 ha]
    have hapart : (s.begin.secDenied a).apart = s.apart := by simp
    exact ⟨State.get_set_same .., secDenied_sameRegs s.begin a, .of_apart hapart, .of_apart hapart,
      .of_field (field_of_apart hapart), .of_field (field_of_apart hapart)⟩
  case negotiated =>
    intro hneg hen
    rw [execRegisterWrite_at hat, hup, hown]
    exact congrArg Host.Outcome.next (registerWrite_negotiated (s := s.begin) hneg hen)
  case plain =>
    intro hplain hneg hsec hflt
    refine State.runs_of_occurs (execRegisterWrite_at hat s) (by simp [hup, hown]) ?_
    rw [registerWrite_writes (s := s.begin) hon hneg hsec hflt, writeKind_plain hplain]
    have hapart : (s.begin.writeReg r i v.toNat).apart = s.apart := by simp
    exact ⟨fun f hf x hx => State.get_writeReg_mem s.begin i v.toNat hf hx, fun f j h => State.get_writeReg_other s.begin v.toNat h,
      .of_apart hapart, .of_apart hapart, .of_field (field_of_apart hapart), .of_field (field_of_apart hapart)⟩
  case reserved => exact State.runs_of_occurs (g := s.hostUp) rfl hup (badAccess_counts w (.readData 0) s)
  case invalid => exact State.runs_of_occurs (g := s.hostUp) rfl hup (badAccess_counts w .unsupported s)
  case stats =>
    intro v s hup hbit
    refine State.runs_of_occurs (g := s.hubUp && bit v.toNat 1) rfl (by simp [hup, hbit]) ?_
    have hplan {f : RegField} (hf : f ∈ planStats) (hd : f ∉ dieStats) := statsClear_planStats v.toNat s.begin hf hd
    exact ⟨statsClear_finishWords v.toNat s.begin, hplan (by decide) (by decide), hplan (by decide) (by decide),
      hplan (by decide) (by decide), hplan (by decide) (by decide), hplan (by decide) (by decide), hplan (by decide) (by decide),
      hplan (by decide) (by decide), hplan (by decide) (by decide),
      fun d hd => ⟨statsClear_dieStats v.toNat s.begin (by decide) hd, statsClear_dieStats v.toNat s.begin (by decide) hd⟩,
      statsClear_sameRegs v.toNat s.begin, .of_apart (apart_statsClear ..)⟩

end Sys2Proof.Machine

namespace Sys2Proof.Machine

/-! ### Reads -/

/-- The fields that a read clears (R12). -/
def Reg.rcFields (r : Reg) : List RegField := r.fields.filter (fun f => f.access = .RC)

theorem Reg.mem_rcFields {r : Reg} {f : RegField} : f ∈ r.rcFields ↔ f ∈ r.fields ∧ f.access = .RC := by simp [Reg.rcFields]

/-- No HI register has a field that a read clears. -/
theorem latched_no_rc (r : Reg) : latchedReg r = true → r.rcFields = [] := by cases r <;> decide

theorem latched_not_canary {r : Reg} (h : latchedReg r = true) : r ≠ .TIL_CANARY_WORST := by rintro rfl; cases h

/-- Every value of the Reset column fits its field. -/
theorem RegField.reset_lt (f : RegField) : f.info.reset < 2 ^ f.width := by cases f <;> decide

/-- A field that a read clears stands at the value its table gives: the fields whose reset value is fused or given in words are
none of them. -/
theorem defaultOf_rc (x : Fused) {f : RegField} (i : Nat) (h : f.access = .RC) : defaultOf x f i % 2 ^ f.width = f.info.reset := by
  unfold defaultOf
  split
  case h_10 => exact Nat.mod_eq_of_lt f.reset_lt
  all_goals exact absurd h (by decide)

theorem clearRead_latched {r : Reg} (h : latchedReg r = true) (s : State) (i : Nat) : s.clearRead r i = s := by
  have hclear : s.clearAll r.rcFields i = s := by rw [latched_no_rc r h]; rfl
  exact (if_neg (latched_not_canary h)).trans hclear

/-- A read clears fields and, of everything else, only what a tile remembers of its worst canary. -/
theorem clearRead_cases (s : State) (r : Reg) (i : Nat) :
    ∃ ts : Table Tile, s.clearRead r i = { s.clearAll r.rcFields i with tiles := ts } := by
  unfold State.clearRead
  dsimp only
  split
  · exact ⟨_, rfl⟩
  · exact ⟨_, rfl⟩

theorem clearAll_accum (s : State) (fs : List RegField) (i : Nat) : (s.clearAll fs i).accum = s.accum :=
  foldl_keeps State.accum (g := fun s f => s.clear f i) (fun _ _ => rfl) fs s

theorem clearAll_out (s : State) (fs : List RegField) (i : Nat) : (s.clearAll fs i).out = s.out :=
  foldl_keeps State.out (g := fun s f => s.clear f i) (fun _ _ => rfl) fs s

/-- A read that reaches a die which is off: all ones, and it is noted (R472). -/
theorem offlineRead_notes (s : State) : s.begin.offlineRead.out = [.readData 0xFFFFFFFF]
    ∧ s.begin.offlineRead.get .TEL_STATUS_offline_read 0 = 1 ∧ SameRegs [.TEL_STATUS_offline_read] s s.begin.offlineRead := by
  have hget (f : RegField) (i : Nat) : s.begin.offlineRead.get f i = (s.set .TEL_STATUS_offline_read 0 1).get f i := rfl
  refine ⟨rfl, (hget _ _).trans (State.get_set_same ..), fun f i hf => ?_⟩
  rw [hget]
  exact (SameRegs.refl _ s).set (List.mem_singleton_self _) 0 1 f i hf

/-- A read of an ordinary register: its value as it stands, and its RC fields are cleared. -/
theorem readReg_plain {a : Agent} {r : Reg} {i : Nat} {s t : State} (hon : s.offline r = false) (hlatch : latchedReg r = false)
    (ht : t = readReg a r i s.begin) : t.out = [.readData (s.regValue r i)]
      ∧ (∀ f, f ∈ r.fields → f.access = .RC → t.get f i = f.info.reset)
      ∧ (∀ f j, ¬ (f ∈ r.fields ∧ f.access = .RC ∧ j = i) → t.get f j = s.get f j)
      ∧ t.accum = s.accum ∧ SameEngines s t ∧ SameMgmt s t := by
  obtain ⟨ts, hts⟩ := clearRead_cases s.begin r i
  have heq : t = ({ s.begin.clearAll r.rcFields i with tiles := ts } : State).emit (.readData (s.regValue r i)) := by
    rw [ht, readReg, if_neg (by rw [show s.begin.offline r = false from hon]; simp), State.readValue, hlatch, hts]
    rfl
  have hget (f : RegField) (j : Nat) : t.get f j = (s.begin.clearAll r.rcFields i).get f j := by rw [heq]; rfl
  have hapart : (s.begin.clearAll r.rcFields i).apart = s.apart := by simp
  have hengines : SameEngines s (s.begin.clearAll r.rcFields i) := .of_apart hapart
  have hmgmt : SameMgmt s (s.begin.clearAll r.rcFields i) := .of_apart hapart
  refine ⟨?_, fun f hf ha => ?_, fun f j h => ?_, ?_, ?_, ?_⟩
  · rw [heq]
    show (s.begin.clearAll r.rcFields i).out ++ _ = _
    rw [clearAll_out]
    rfl
  · rw [hget, State.get_clearAll_mem _ _ (Reg.mem_rcFields.2 ⟨hf, ha⟩), defaultOf_rc _ _ ha]
  · rw [hget, State.get_clearAll_other]
    · rfl
    · by_contra hn
      simp only [not_or, not_not] at hn
      obtain ⟨hf, ha⟩ := Reg.mem_rcFields.1 hn.1
      exact h ⟨hf, ha, hn.2⟩
  · rw [heq]
    exact clearAll_accum s.begin r.rcFields i
  · rw [heq]
    exact hengines
  · rw [heq]
    exact hmgmt

/-- A latch leaves the agent's latch of another register alone. -/
theorem State.latched_latch_other (s : State) (a : Agent) {r q : Reg} (i v : Nat) (h : q.ctorIdx ≠ r.ctorIdx) :
    (s.latch a r i v).latched a q i = s.latched a q i := by
  have hkey : latchKey a q i ≠ latchKey a r i := by unfold latchKey; omega
  exact Table.get_set_ne none none s.latches (some v) hkey

/-- A read of a LO register latches its HI register and answers. -/
theorem State.runs_loRead {c : Instr} {s : State} {a : Agent} {r : Reg} {i hi lo : Nat}
    (h : exec c s = .next ((s.begin.latch a r i hi).emit (.readData lo))) :
    s.Runs c (fun t => t.out = [.readData lo] ∧ t.latched a r i = some hi ∧ t.regs = s.regs) :=
  ⟨_, h, rfl, State.latched_latch_same s.begin a r i hi, rfl⟩

theorem beatCountLoRead_latches (a : Agent) (fr : Nat) (s : State) :
    (beatCountLoRead a fr s).latched a .BEAT_COUNT_HI 0 = some (s.time.beat / 2 ^ 32)
      ∧ (beatCountLoRead a fr s).latched a .BEAT_FRAC 0 = some fr := by
  refine ⟨?_, State.latched_latch_same (s.latch a .BEAT_COUNT_HI 0 (s.time.beat / 2 ^ 32)) a .BEAT_FRAC 0 fr⟩
  exact (State.latched_latch_other (s.latch a .BEAT_COUNT_HI 0 (s.time.beat / 2 ^ 32)) a 0 fr (by decide)).trans
    (State.latched_latch_same s a .BEAT_COUNT_HI 0 _)

/-- Settles O25: by the case of R11 and R472 that the register makes; every LO read latches and answers. -/
theorem registerReads : Obligations.RegisterReads := by
  unfold Obligations.RegisterReads
  refine ⟨fun a bar4 off r i s hat hup hown => ⟨fun hoff => ?offline, fun hon hlatch => ?latched, fun hon hlatch => ?plain⟩, fun a s hup => ?lo⟩
  case offline =>
    refine State.runs_of_occurs (execRcRead_at hat s) (by simp [hup, hown]) ?_
    rw [readReg, if_pos (show s.begin.offline r = true from hoff)]
    obtain ⟨hout, hset, hregs⟩ := offlineRead_notes s
    exact ⟨hout, hset, hregs, .of_apart rfl, .of_apart rfl⟩
  case latched =>
    refine State.runs_of_occurs (execRcRead_at hat s) (by simp [hup, hown]) ?_
    rw [readReg, if_neg (by rw [show s.begin.offline r = false from hon]; simp), clearRead_latched hlatch, State.readValue, if_pos hlatch]
    exact ⟨rfl, rfl, .of_apart rfl, .of_apart rfl⟩
  case plain => exact State.runs_of_occurs (execRcRead_at hat s) (by simp [hup, hown]) (readReg_plain hon hlatch rfl)
  case lo =>
    refine ⟨fun fr => ?beatCount, State.runs_loRead (if_pos hup), State.runs_loRead (if_pos hup), State.runs_loRead (if_pos hup),
      State.runs_loRead (if_pos hup), fun k hfield => ?t1Ue, State.runs_loRead (if_pos hup), fun k hpower => ?t2Ue,
      fun p => State.runs_loRead (if_pos hup), State.runs_loRead (if_pos hup), State.runs_loRead (if_pos hup),
      State.runs_loRead (if_pos hup), fun k hfield => ?haltBeat, fun k hfield => ?haltBeatOff, State.runs_loRead (if_pos hup)⟩
    case beatCount =>
      obtain ⟨hhi, hfrac⟩ := beatCountLoRead_latches a fr.toNat s.begin
      exact State.runs_of_occurs rfl hup ⟨rfl, hhi, hfrac, rfl⟩
    case t1Ue =>
      refine State.runs_loRead ((if_pos hup).trans (congrArg Host.Outcome.next (if_neg ?_)))
      rw [show s.begin.fieldUp = true from hfield]
      simp
    case t2Ue => exact State.runs_loRead ((if_pos hup).trans (congrArg Host.Outcome.next (if_neg hpower)))
    case haltBeat =>
      refine ⟨_, (if_pos hup).trans (congrArg Host.Outcome.next (if_neg ?_)), rfl, State.latched_latch_same s.begin a _ k _, rfl,
        .of_field rfl, .of_field rfl⟩
      rw [show s.begin.fieldUp = true from hfield]
      simp
    case haltBeatOff =>
      refine ⟨_, (if_pos hup).trans (congrArg Host.Outcome.next (if_pos ?_)), offlineRead_notes s⟩
      rw [show s.begin.fieldUp = false from hfield]
      rfl

end Sys2Proof.Machine

namespace Sys2Proof.Machine

/-! ### What the tiles' cycles leave alone -/

/-- All of the state but the tiles, their scratchpads, the die network and the background tests, and what tiles count, warn of and
raise. -/
def State.offTiles (s : State) : State :=
  { s.quiet with raised := [], tiles := [], spad := Memory.empty, spadErr := [], dn := [], dnSeq := 0, dnWait := [], testPos := [] }

/-- An update of those parts of the state. -/
@[simp] theorem offTiles_mk (s : State) (out : List Output) (regs accum : Table Nat) (free reportSeq : Nat) (raised : List Raised)
    (tiles : Table Tile) (spad : Memory) (spadErr : Table Nat) (dn : Table (List DnItem)) (dnSeq : Nat) (dnWait : Table (List Nat))
    (testPos : Table Nat) :
    State.offTiles { s with
      out := out, regs := regs, accum := accum, free := free, reportSeq := reportSeq, raised := raised, tiles := tiles
      spad := spad, spadErr := spadErr, dn := dn, dnSeq := dnSeq, dnWait := dnWait, testPos := testPos } = s.offTiles := id rfl

@[simp] theorem offTiles_ite (c : Prop) [Decidable c] (s t : State) :
    State.offTiles (if c then s else t) = if c then s.offTiles else t.offTiles := apply_ite _ _ _ _

theorem offTiles_of_quiet {s t : State} (h : t.quiet = s.quiet) : t.offTiles = s.offTiles := by
  unfold State.offTiles
  rw [h]

theorem offTiles_time {s t : State} (h : t.offTiles = s.offTiles) : t.time = s.time := by injection h

@[simp] theorem set_offTiles (s : State) (f : RegField) (i v : Nat) : (s.set f i v).offTiles = s.offTiles := rfl
@[simp] theorem bump_offTiles (s : State) (f : RegField) (i n : Nat) : (s.bump f i n).offTiles = s.offTiles := rfl
@[simp] theorem peak_offTiles (s : State) (f : RegField) (i n : Nat) : (s.peak f i n).offTiles = s.offTiles := rfl
@[simp] theorem emit_offTiles (s : State) (o : Output) : (s.emit o).offTiles = s.offTiles := rfl
@[simp] theorem raiseFatal_offTiles (s : State) (r : Fatal) (d : Nat) : (s.raiseFatal r d).offTiles = s.offTiles := rfl
@[simp] theorem warn_offTiles (s : State) (w : Warn) : (s.warn w).offTiles = s.offTiles := offTiles_of_quiet (quiet_warn s w)

theorem foldl_offTiles {α : Type} {g : State → α → State} (hg : ∀ s x, (g s x).offTiles = s.offTiles) (l : List α) (s : State) :
    (l.foldl g s).offTiles = s.offTiles := foldl_keeps State.offTiles hg l s

/-! #### Operations on tiles -/

@[simp] theorem State_setTile_offTiles (s : State) (t : Nat) (x : Tile) :
    (State.setTile s t x).offTiles = s.offTiles := by simp [State.setTile]
@[simp] theorem State_modTile_offTiles (s : State) (t : Nat) (f : Tile → Tile) :
    (State.modTile s t f).offTiles = s.offTiles := by simp [State.modTile]
@[simp] theorem State_putUnit_offTiles (s : State) (t u : Nat) (bytes : List Byte) :
    (State.putUnit s t u bytes).offTiles = s.offTiles := by unfold State.putUnit; split <;> simp
@[simp] theorem commitWrites_offTiles (t : Nat) (spadW : Table (List Byte)) (s : State) :
    (commitWrites t spadW s).offTiles = s.offTiles :=
  foldl_offTiles (g := fun s (e : Nat × List Byte) => s.putUnit t e.1 e.2) (fun s e => State_putUnit_offTiles s t e.1 e.2) spadW s
@[simp] theorem State_eccRead_offTiles (s : State) (t u : Nat) :
    (State.eccRead s t u).2.offTiles = s.offTiles := by unfold State.eccRead; split <;> simp
@[simp] theorem State_stopTile_offTiles (s : State) (t : Nat) :
    (State.stopTile s t).offTiles = s.offTiles := by
  unfold State.stopTile
  dsimp only
  rw [State_modTile_offTiles, foldl_offTiles (fun s w => commitWrites_offTiles t w s)]
@[simp] theorem State_recordHalt_offTiles (s : State) (t : Nat) (c : Cond) :
    (State.recordHalt s t c).offTiles = s.offTiles := by simp [State.recordHalt]
@[simp] theorem State_haltTile_offTiles (s : State) (t : Nat) (c : Cond) :
    (State.haltTile s t c).offTiles = s.offTiles := by simp [State.haltTile]
@[simp] theorem State_waitEnded_offTiles (s : State) (t : Nat) (st : Stall) :
    (State.waitEnded s t st).offTiles = s.offTiles := by simp [State.waitEnded]
@[simp] theorem State_dnAdvance_offTiles (s : State) (src : Nat) (items : List Item) :
    (State.dnAdvance s src items).2.offTiles = s.offTiles := by
  induction items generalizing s with
  | nil => rfl
  | cons i rest ih =>
    unfold State.dnAdvance
    split
    · rfl
    · split
      · dsimp only; split <;> simp
      · rw [ih]; simp
@[simp] theorem State_moveOut_offTiles (s : State) (t q : Nat) :
    (State.moveOut s t q).offTiles = s.offTiles := by simp [State.moveOut]
@[simp] theorem State_dnWake_offTiles (s : State) (k : Nat) :
    (State.dnWake s k).offTiles = s.offTiles := by unfold State.dnWake; split <;> simp
@[simp] theorem State_send_offTiles (s : State) (t q : Nat) (i : Item) :
    (State.send s t q i).offTiles = s.offTiles := by simp [State.send]

/-! #### A cycle's claims, reads and writes -/

@[simp] theorem Cycle_mod_offTiles (x : Cycle) (t : Nat) (f : Tile → Tile) :
    (Cycle.mod x t f).s.offTiles = x.s.offTiles := by simp [Cycle.mod]
@[simp] theorem Cycle_add_offTiles (x : Cycle) (cs : List Cond) :
    (Cycle.add x cs).s.offTiles = x.s.offTiles := by simp [Cycle.add]
@[simp] theorem Cycle_claim_offTiles (x : Cycle) (pc u : Nat) :
    (Cycle.claim x pc u).s.offTiles = x.s.offTiles := by
  unfold Cycle.claim
  dsimp only
  split <;> simp
@[simp] theorem Cycle_ecc_offTiles (x : Cycle) (t port pc u : Nat) :
    (Cycle.ecc x t port pc u).s.offTiles = x.s.offTiles := by simp [Cycle.ecc]
@[simp] theorem Cycle_readA_offTiles (x : Cycle) (t pc u : Nat) :
    (Cycle.readA x t pc u).2.s.offTiles = x.s.offTiles := by simp [Cycle.readA]
@[simp] theorem Cycle_claimB_offTiles (x : Cycle) (u : Nat) :
    (Cycle.claimB x u).s.offTiles = x.s.offTiles := by simp [Cycle.claimB]
@[simp] theorem Cycle_readB_offTiles (x : Cycle) (t pc u : Nat) :
    (Cycle.readB x t pc u).2.s.offTiles = x.s.offTiles := by simp [Cycle.readB]
@[simp] theorem Cycle_readAs_offTiles (x : Cycle) (t pc : Nat) (us : List Nat) :
    (Cycle.readAs x t pc us).2.s.offTiles = x.s.offTiles := by
  induction us generalizing x with
  | nil => rfl
  | cons u us ih => unfold Cycle.readAs; dsimp only; rw [ih]; simp

/-! #### Queue engines, the access engine, voices and planes -/

theorem runOps_offTiles {α : Type} {f : Cycle → α → Cycle × Option α} (hf : ∀ x a, (f x a).1.s.offTiles = x.s.offTiles) (l : List α)
    (x : Cycle) : (runOps f l x).2.s.offTiles = x.s.offTiles := by
  induction l generalizing x with
  | nil => rfl
  | cons o os ih => unfold runOps; simp only [ih, hf]
@[simp] theorem pushCycle_offTiles (t c : Nat) (x : Cycle) (p : PushOp) :
    (pushCycle t c x p).1.s.offTiles = x.s.offTiles := by
  unfold pushCycle
  dsimp only
  (repeat' split) <;> simp
theorem Cycle_take_offTiles {x x' : Cycle} {t q : Nat} {w : RxWord} (h : x.take t q = some (w, x')) :
    x'.s.offTiles = x.s.offTiles := by
  unfold Cycle.take at h
  split at h
  · cases h
  · cases h; split <;> simp
@[simp] theorem pullCycle_offTiles (t c : Nat) (x : Cycle) (p : PullOp) :
    (pullCycle t c x p).1.s.offTiles = x.s.offTiles := by
  unfold pullCycle
  split
  · rfl
  · split
    · rfl
    · split
      · rfl
      · next h => rw [← Cycle_take_offTiles h]; (repeat' split) <;> simp
@[simp] theorem Cycle_writeB_offTiles (x : Cycle) (t pc u : Nat) (bytes : List Byte) :
    (Cycle.writeB x t pc u bytes).s.offTiles = x.s.offTiles := by
  unfold Cycle.writeB
  dsimp only
  split <;> simp
@[simp] theorem bwriteCycle_offTiles (t c : Nat) (x : Cycle) :
    (bwriteCycle t c x).s.offTiles = x.s.offTiles := by
  unfold bwriteCycle
  dsimp only
  rw [foldl_keeps (fun x : Cycle => x.s.offTiles) (by intro x w; simp)]
  simp
@[simp] theorem landUnits_offTiles (t pc : Nat) (ws : List (Nat × List Byte)) (x : Cycle) :
    (landUnits t pc ws x).2.s.offTiles = x.s.offTiles := by
  induction ws generalizing x with
  | nil => rfl
  | cons w ws ih =>
    unfold landUnits
    split
    · exact ih _
    · rw [ih, Cycle_writeB_offTiles]
@[simp] theorem landAccess_offTiles (t : Nat) (x : Cycle) (a : TierAccess) :
    (landAccess t x a).1.s.offTiles = x.s.offTiles := by unfold landAccess; split <;> simp
@[simp] theorem voiceCycle_offTiles (t c : Nat) (x : Cycle) :
    (voiceCycle t c x).s.offTiles = x.s.offTiles := by
  unfold voiceCycle
  dsimp only
  (repeat' split) <;> simp
@[simp] theorem voiceStart_offTiles (t c : Nat) (x : Cycle) :
    (voiceStart t c x).s.offTiles = x.s.offTiles := by
  unfold voiceStart
  dsimp only
  (repeat' split) <;> simp
@[simp] theorem planeCycle_offTiles (t c : Nat) (x : Cycle) :
    (planeCycle t c x).s.offTiles = x.s.offTiles := by
  unfold planeCycle
  dsimp only
  (repeat' split) <;> simp

/-! #### The MAC array -/

@[simp] theorem countOverflow_offTiles (t n : Nat) (s : State) :
    (countOverflow t n s).offTiles = s.offTiles := by simp [countOverflow]
@[simp] theorem enterRow_offTiles (t : Nat) (m : MmaOp) (pl : Plane) (acts : List (Val × Nat)) (x : Cycle) :
    (enterRow t m pl acts x).s.offTiles = x.s.offTiles := by simp [enterRow]
@[simp] theorem mmaDone_offTiles (t c : Nat) (m : MmaOp) (x : Cycle) :
    (mmaDone t c m x).s.offTiles = x.s.offTiles := by simp [mmaDone]
@[simp] theorem mmaRow_offTiles (t c : Nat) (m : MmaOp) (pl : Plane) (x : Cycle) :
    (mmaRow t c m pl x).s.offTiles = x.s.offTiles := by unfold mmaRow; split <;> simp
@[simp] theorem mmaFeed_offTiles (t q n total : Nat) (m : MmaOp) (x : Cycle) :
    (mmaFeed t q n total m x).2.2.s.offTiles = x.s.offTiles := by
  unfold mmaFeed
  split
  · split
    · rfl
    · next h => rw [← Cycle_take_offTiles h]; dsimp only; split <;> simp
  · rfl
@[simp] theorem mmaEnter_offTiles (t : Nat) (m : MmaOp) (pl : Plane) (x : Cycle) :
    (mmaEnter t m pl x).2.2.s.offTiles = x.s.offTiles := by
  unfold mmaEnter
  dsimp only
  split <;> simp
@[simp] theorem mmaStream_offTiles (t c q n : Nat) (m : MmaOp) (pl : Plane) (x : Cycle) :
    (mmaStream t c q n m pl x).s.offTiles = x.s.offTiles := by
  unfold mmaStream
  dsimp only
  split <;> simp
@[simp] theorem mmaCycle_offTiles (t c : Nat) (x : Cycle) :
    (mmaCycle t c x).s.offTiles = x.s.offTiles := by unfold mmaCycle; (repeat' split) <;> simp

/-! #### The vector unit -/

@[simp] theorem canaryBlock_offTiles (t c : Nat) (f : Fmt) (xs : List Val) (b : Block) (s : State) :
    (canaryBlock t c f xs b s).offTiles = s.offTiles := by
  unfold canaryBlock
  dsimp only
  split <;> simp
@[simp] theorem countConv_offTiles (t sats nans : Nat) (s : State) :
    (countConv t sats nans s).offTiles = s.offTiles := by simp [countConv]
@[simp] theorem vcvtPlain_offTiles (t : Nat) (f : Fmt) (as : List Lane) (s : State) :
    (vcvtPlain t f as s).2.offTiles = s.offTiles := by unfold vcvtPlain; split <;> simp
@[simp] theorem vcvtBlock_offTiles (t c : Nat) (f : Fmt) (j0 : Nat) (as : List Lane) (s : State) :
    (vcvtBlock t c f j0 as s).2.offTiles = s.offTiles := by simp [vcvtBlock]
@[simp] theorem sourceLanes_offTiles (t : Nat) (v : VrunOp) (m : Micro) (sel : Nat) (x : Cycle) :
    (sourceLanes t v m sel x).2.s.offTiles = x.s.offTiles := by
  unfold sourceLanes
  dsimp only
  (repeat' split) <;> simp
@[simp] theorem writePass_offTiles (t : Nat) (v : VrunOp) (m : Micro) (bytes : List Byte) (x : Cycle) :
    (writePass t v m bytes x).2.s.offTiles = x.s.offTiles := by
  unfold writePass
  dsimp only
  simp only [offTiles_mk]
  exact foldl_keeps (fun x : Cycle => x.s.offTiles) (by intro x w; simp) _ _
@[simp] theorem writeLanes_offTiles (t : Nat) (v : VrunOp) (m : Micro) (ws : List Nat) (x : Cycle) :
    (writeLanes t v m ws x).2.s.offTiles = x.s.offTiles := by unfold writeLanes; split <;> simp
@[simp] theorem finishMicro_offTiles (t c : Nat) (img : List Byte) (v : VrunOp) (m : Micro) (as bs cs : List Lane) (x : Cycle) :
    (finishMicro t c img v m as bs cs x).2.s.offTiles = x.s.offTiles := by
  unfold finishMicro
  dsimp only
  (repeat' split) <;> simp
@[simp] theorem nextMicro_offTiles (t c : Nat) (img : List Byte) (v : VrunOp) (x : Cycle) :
    (nextMicro t c img v x).s.offTiles = x.s.offTiles := by
  unfold nextMicro
  dsimp only
  (repeat' split) <;> simp
@[simp] theorem sendWords_offTiles (t q : Nat) (dest : Dest) (n : Nat) (ws : List RxWord) (x : Cycle) :
    (sendWords t q dest n ws x).2.s.offTiles = x.s.offTiles := by
  induction n generalizing ws x with
  | zero => rfl
  | succ n ih =>
    unfold sendWords
    split
    · rfl
    · rfl
    · split
      · rfl
      · next e _ => cases e; rw [ih]; simp
@[simp] theorem sendCycle_offTiles (t c : Nat) (img : List Byte) (v : VrunOp) (m : Micro) (ws : List RxWord)
    (allow : Nat) (x : Cycle) :
    (sendCycle t c img v m ws allow x).s.offTiles = x.s.offTiles := by
  unfold sendCycle
  dsimp only
  (repeat' split) <;> simp
theorem streamCycle_offTiles {t q : Nat} {img : List Byte} {v v' : VrunOp} {m : Micro} {x x' : Cycle}
    (h : streamCycle t img v m q x = some (v', x')) : x'.s.offTiles = x.s.offTiles := by
  unfold streamCycle at h
  dsimp only at h
  split at h
  · cases h; rfl
  · split at h
    · cases h
    · next w y hy =>
      rw [← Cycle_take_offTiles hy]
      cases h
      simp only [Cycle_add_offTiles]
      split <;> simp
@[simp] theorem microSource_offTiles (t : Nat) (v : VrunOp) (m : Micro) (queued : List Lane) (sel : Nat) (used : Bool) (x : Cycle) :
    (microSource t v m queued sel used x).2.s.offTiles = x.s.offTiles := by unfold microSource; (repeat' split) <;> simp
@[simp] theorem microLanes_offTiles (t : Nat) (v : VrunOp) (m : Micro) (queued : List Lane) (x : Cycle) :
    (microLanes t v m queued x).2.s.offTiles = x.s.offTiles := by simp [microLanes]
@[simp] theorem runMicro_offTiles (t c : Nat) (img : List Byte) (v : VrunOp) (m : Micro) (x : Cycle) :
    (runMicro t c img v m x).s.offTiles = x.s.offTiles := by simp [runMicro]
@[simp] theorem readyMicro_offTiles (t c : Nat) (img : List Byte) (v : VrunOp) (m : Micro) (x : Cycle) :
    (readyMicro t c img v m x).s.offTiles = x.s.offTiles := by
  unfold readyMicro
  dsimp only
  (repeat' split) <;> simp
@[simp] theorem feedMicro_offTiles (t c : Nat) (img : List Byte) (v : VrunOp) (m : Micro) (x : Cycle) :
    (feedMicro t c img v m x).s.offTiles = x.s.offTiles := by
  unfold feedMicro
  split
  · simp
  · split
    · simp
    · next h => rw [← streamCycle_offTiles h]; simp
@[simp] theorem vrunCycle_offTiles (t c : Nat) (x : Cycle) :
    (vrunCycle t c x).s.offTiles = x.s.offTiles := by unfold vrunCycle; (repeat' split) <;> simp

/-! #### Cycles -/

@[simp] theorem State_releaseAt_offTiles (s : State) (t c : Nat) :
    (State.releaseAt s t c).offTiles = s.offTiles := by
  unfold State.releaseAt
  dsimp only
  (repeat' split) <;> simp
@[simp] theorem coreStart_offTiles (t c : Nat) (x : Cycle) :
    (coreStart t c x).s.offTiles = x.s.offTiles := by
  unfold coreStart
  dsimp only
  (repeat' split) <;> simp [foldl_offTiles]
@[simp] theorem cycleStart_offTiles (t c : Nat) (x : Cycle) :
    (cycleStart t c x).s.offTiles = x.s.offTiles := by
  unfold cycleStart
  dsimp only
  split <;> simp
@[simp] theorem cyclePosts_offTiles (t c : Nat) (x : Cycle) :
    (cyclePosts t c x).s.offTiles = x.s.offTiles := by
  unfold cyclePosts
  dsimp only
  rw [foldl_keeps (fun x : Cycle => x.s.offTiles) (by intro x w; simp)]
  simp
@[simp] theorem flagsCycle_offTiles (t : Nat) (x : Cycle) :
    (flagsCycle t x).s.offTiles = x.s.offTiles := by simp [flagsCycle]
@[simp] theorem State_endTest_offTiles (s : State) (t b : Nat) (st : TestStep) :
    (State.endTest s t b st).offTiles = s.offTiles := by simp [State.endTest]
@[simp] theorem testCycle_offTiles (t : Nat) (x : Cycle) :
    (testCycle t x).s.offTiles = x.s.offTiles := by
  unfold testCycle
  rw [foldl_keeps (fun x : Cycle => x.s.offTiles) (by intro x e; dsimp only; (repeat' split) <;> simp)]
@[simp] theorem coreCycle_offTiles (t c : Nat) (x : Cycle) :
    (coreCycle t c x).s.offTiles = x.s.offTiles := by unfold coreCycle; split <;> simp
@[simp] theorem unitsCycle_offTiles (t c : Nat) (x : Cycle) :
    (unitsCycle t c x).s.offTiles = x.s.offTiles := by
  simp [unitsCycle, runOps_offTiles (pushCycle_offTiles _ _), runOps_offTiles (pullCycle_offTiles _ _),
    runOps_offTiles (landAccess_offTiles _)]
@[simp] theorem haltLowest_offTiles (t : Nat) (x : Cycle) :
    (haltLowest t x).offTiles = x.s.offTiles := by unfold haltLowest; split <;> simp
@[simp] theorem Cycle_begin_offTiles (s : State) (t : Nat) (conds : List Cond) :
    (Cycle.begin s t conds).s.offTiles = s.offTiles := by simp [Cycle.begin]
@[simp] theorem tileCycle_offTiles (s : State) (t : Nat) (conds : List Cond) :
    (tileCycle s t conds).offTiles = s.offTiles := by simp [tileCycle]
@[simp] theorem runCycles_offTiles (t n : Nat) (s : State) :
    (runCycles t n s).offTiles = s.offTiles := by
  induction n generalizing s with
  | zero => rfl
  | succ n ih =>
    unfold runCycles
    split
    · simp
    · rw [ih]; simp
@[simp] theorem State_runTo_offTiles (s : State) (t c : Nat) :
    (State.runTo s t c).offTiles = s.offTiles := by simp [State.runTo]

end Sys2Proof.Machine

namespace Sys2Proof.Machine

/-! ### The clocks of a beat -/

/-- A table whose entries are added to, each once: an entry named grows by its amount, every other stays. -/
theorem get_foldl_add {g : Table Nat → Nat → Table Nat} {n : Nat → Nat}
    (hsame : ∀ t r, Table.get 0 (g t r) r = Table.get 0 t r + n r)
    (hother : ∀ t r k, k ≠ r → Table.get 0 (g t r) k = Table.get 0 t k) {rs : List Nat} (hrs : rs.Nodup) (t : Table Nat) (k : Nat) :
    Table.get 0 (rs.foldl g t) k = Table.get 0 t k + if k ∈ rs then n k else 0 := by
  induction rs generalizing t with
  | nil => simp
  | cons r rs ih =>
    obtain ⟨hr, hrs⟩ := List.nodup_cons.1 hrs
    rw [List.foldl_cons, ih hrs]
    by_cases hk : k = r
    · subst hk; simp [hsame, hr]
    · simp [hother t r k hk, hk]

/-- Cycles that a region's clock makes in a beat: none while it is stopped to retune (R64). -/
def State.beatCycles (s : State) (x : BeatIn) (r : Nat) : Nat :=
  if s.time.stops.any (fun k => k.region == r) then 0 else (x.cycles.toList.getD r 0).toNat

/-- One region's entry of a table grows by the region's cycles. -/
def State.addCyclesAt (s : State) (x : BeatIn) (t : Table Nat) (r : Nat) : Table Nat :=
  let n := (x.cycles.toList.getD r 0).toNat
  if n = 0 ∨ s.time.stops.any (fun k => k.region == r) then t else Table.set 0 t r (Table.get 0 t r + n)

theorem addCycles_eq (s : State) (x : BeatIn) (t : Table Nat) : s.addCycles x t = (List.range 576).foldl (s.addCyclesAt x) t := rfl

theorem get_addCyclesAt_same (s : State) (x : BeatIn) (t : Table Nat) (r : Nat) :
    Table.get 0 (s.addCyclesAt x t r) r = Table.get 0 t r + s.beatCycles x r := by
  unfold State.addCyclesAt State.beatCycles
  dsimp only
  split
  · next h =>
    rcases h with hn | hstop
    · rw [hn, ite_self]; rfl
    · rw [if_pos hstop]; rfl
  · next h => rw [not_or] at h; rw [if_neg h.2, Table.get_set_same]

theorem get_addCyclesAt_other (s : State) (x : BeatIn) (t : Table Nat) (r k : Nat) (hk : k ≠ r) :
    Table.get 0 (s.addCyclesAt x t r) k = Table.get 0 t k := by
  unfold State.addCyclesAt
  dsimp only
  split
  · rfl
  · exact Table.get_set_ne 0 0 t _ hk

theorem get_addCycles (s : State) (x : BeatIn) (t : Table Nat) {r : Nat} (hr : r < 576) :
    Table.get 0 (s.addCycles x t) r = Table.get 0 t r + s.beatCycles x r := by
  rw [addCycles_eq, get_foldl_add (get_addCyclesAt_same s x) (get_addCyclesAt_other s x) List.nodup_range,
    if_pos (List.mem_range.2 hr)]

theorem runClocks_clock (s : State) (x : BeatIn) {r : Nat} (hr : r < 576) :
    Table.get 0 (s.runClocks x).time.clock r
      = Table.get 0 s.time.clock r + if s.tilesUp then s.beatCycles x r else 0 := by
  unfold State.runClocks
  dsimp only
  split
  · exact get_addCycles s x s.time.clock hr
  · rfl

/-! ### The tiles in a beat -/

theorem runTile_offTiles (s : State) (t : Nat) : (s.runTile t).offTiles = s.offTiles := by
  unfold State.runTile
  split
  · rfl
  · exact State_runTo_offTiles ..

theorem runTiles_time (s : State) (x : BeatIn) : (s.runTiles x).time = (s.runClocks x).time := by
  unfold State.runTiles
  exact offTiles_time (foldl_offTiles runTile_offTiles _ _)

/-- An entry found in a table is one of its entries. -/
theorem Table.mem_of_find? {α : Type} {t : Table α} {i : Nat} {v : α} (h : t.find? i = some v) : (i, v) ∈ t := by
  induction t with
  | nil => cases h
  | cons e t ih =>
    obtain ⟨k, w⟩ := e
    rw [Table.find?_cons] at h
    split at h
    · next hk => cases h; rw [hk]; exact List.mem_cons_self
    · exact List.mem_cons_of_mem _ (ih h)

theorem tile_quiet {s : State} (h : ∀ e ∈ s.tiles, e.2.quiet = true) (t : Nat) : (s.tile t).quiet = true := by
  unfold State.tile Table.get
  cases hf : Table.find? s.tiles t with
  | none => rfl
  | some v => exact h (t, v) (Table.mem_of_find? hf)

/-- Tiles in which nothing moves are left alone. -/
theorem runTiles_quiet {s : State} (h : ∀ e ∈ s.tiles, e.2.quiet = true) (x : BeatIn) : s.runTiles x = s.runClocks x := by
  have hstill (t : Nat) : (s.runClocks x).runTile t = s.runClocks x := by
    unfold State.runTile
    rw [if_pos]
    rw [tile_quiet (s := s.runClocks x) h t]
    rfl
  unfold State.runTiles
  generalize s.tiles.map Prod.fst = ts
  induction ts with
  | nil => rfl
  | cons t ts ih => rw [List.foldl_cons, hstill, ih]

/-! ### What else happens in a beat -/

/-- The upsets, the table findings and the package errors of a beat. -/
def State.endErrors (s : State) (x : BeatIn) : State :=
  let s := x.tables.foldl State.flaw (x.upsets.foldl State.upset s)
  (s.packageErrors 0 (x.ecs.toList.getD 0 0).toNat).packageErrors 1 (x.ecs.toList.getD 1 0).toNat

theorem endBeat_eq (s : State) (x : BeatIn) : s.endBeat x = (x.inner.foldl State.inner (s.runTiles x)).endErrors x := rfl

/-- The time base and the bytes of scratchpads and tiers. -/
def State.timeAndBytes (s : State) : TimeBase × Memory × Memory × Memory := (s.time, s.spad, s.tier1, s.tier2)

theorem flaw_cases (s : State) (f : TableFind) : ∃ fs, s.flaw f = { s with router := { s.router with flaws := fs } } := by
  unfold State.flaw
  dsimp only
  split
  · exact ⟨s.router.flaws, rfl⟩
  · exact ⟨_, rfl⟩

/-- A part of the state that table findings do not touch. -/
theorem flaws_keep {β : Type} (m : State → β) (hm : ∀ (s : State) fs, m { s with router := { s.router with flaws := fs } } = m s)
    (l : List TableFind) (s : State) : m (l.foldl State.flaw s) = m s := by
  refine foldl_keeps m (fun s f => ?_) l s
  obtain ⟨fs, hfs⟩ := flaw_cases s f
  rw [hfs, hm]

/-- A part of the state that upsets do not touch. -/
theorem upsets_keep {β : Type} (m : State → β) (hm : ∀ (s : State) es, m { s with spadErr := es } = m s) (l : List Upset)
    (s : State) : m (l.foldl State.upset s) = m s := foldl_keeps m (fun s _ => hm s _) l s

theorem packageErrors_timeAndBytes (s : State) (k n : Nat) : (s.packageErrors k n).timeAndBytes = s.timeAndBytes := by
  unfold State.packageErrors
  split <;> rfl

theorem packageErrors_spadErr (s : State) (k n : Nat) : (s.packageErrors k n).spadErr = s.spadErr := by
  unfold State.packageErrors
  split <;> rfl

theorem packageErrors_get_other (s : State) {k j : Nat} (n : Nat) (h : j ≠ k) :
    (s.packageErrors k n).get .TTM_ECC_ecs_count j = s.get .TTM_ECC_ecs_count j := by
  unfold State.packageErrors
  split
  · rfl
  · exact State.get_bump_other s n (.inr h)

theorem packageErrors_get_same (s : State) (k : Nat) {n : Nat} (hn : n ≠ 0) :
    (s.packageErrors k n).get .TTM_ECC_ecs_count k
      = min (s.get .TTM_ECC_ecs_count k + n) (2 ^ RegField.width .TTM_ECC_ecs_count - 1) := by
  rw [State.packageErrors, if_neg hn, State.get_bump_same]

theorem endErrors_timeAndBytes (s : State) (x : BeatIn) : (s.endErrors x).timeAndBytes = s.timeAndBytes := by
  unfold State.endErrors
  dsimp only
  rw [packageErrors_timeAndBytes, packageErrors_timeAndBytes, flaws_keep State.timeAndBytes (fun _ _ => rfl),
    upsets_keep State.timeAndBytes (fun _ _ => rfl)]

theorem endErrors_none (s : State) {x : BeatIn} (hu : x.upsets = []) (ht : x.tables = [])
    (he : ∀ k, (x.ecs.toList.getD k 0).toNat = 0) : s.endErrors x = s := by
  unfold State.endErrors State.packageErrors
  rw [hu, ht, he 0, he 1]
  rfl

/-- One upset: the unit's stored copy holds an error, uncorrectable if it is a double one or the second (R244). -/
theorem endErrors_upset (s : State) {x : BeatIn} {u : Upset} (hu : x.upsets = [u]) :
    (s.endErrors x).spadErr.find? (2 ^ 15 * u.tile + u.unit'.toNat)
      = some (if u.double = true ∨ s.spadErr.find? (2 ^ 15 * u.tile + u.unit'.toNat) ≠ none then 2 else 1) := by
  unfold State.endErrors
  dsimp only
  rw [packageErrors_spadErr, packageErrors_spadErr, flaws_keep State.spadErr (fun _ _ => rfl), hu]
  simp [State.upset, Table.find?_put_same, Option.isSome_iff_ne_none]

/-- Errors that a tier-2 controller's packages report are counted (R267). -/
theorem endErrors_ecs (s : State) (x : BeatIn) {k : Nat} (hk : k < 2) (hn : (x.ecs.toList.getD k 0).toNat ≠ 0) :
    (s.endErrors x).get .TTM_ECC_ecs_count k
      = min (s.get .TTM_ECC_ecs_count k + (x.ecs.toList.getD k 0).toNat) (2 ^ RegField.width .TTM_ECC_ecs_count - 1) := by
  have hkept : (x.tables.foldl State.flaw (x.upsets.foldl State.upset s)).get .TTM_ECC_ecs_count k = s.get .TTM_ECC_ecs_count k := by
    rw [flaws_keep (fun s : State => s.get .TTM_ECC_ecs_count k) (fun _ _ => rfl),
      upsets_keep (fun s : State => s.get .TTM_ECC_ecs_count k) (fun _ _ => rfl)]
  unfold State.endErrors
  dsimp only
  obtain rfl | rfl : k = 0 ∨ k = 1 := by omega
  · rw [packageErrors_get_other _ _ (by decide), packageErrors_get_same _ _ hn, hkept]
  · rw [packageErrors_get_same _ _ hn, packageErrors_get_other _ _ (by decide), hkept]

/-! ### Accesses inside the module -/

theorem eccRead_time (s : State) (t u : Nat) : (s.eccRead t u).2.time = s.time := offTiles_time (State_eccRead_offTiles s t u)

theorem putUnit_time (s : State) (t u : Nat) (b : List Byte) : (s.putUnit t u b).time = s.time :=
  offTiles_time (State_putUnit_offTiles s t u b)

theorem tierRead_time (s : State) (tier a : Nat) (ce ue : Bool) : (s.tierRead tier a ce ue).2.time = s.time := by
  unfold State.tierRead State.t1Error State.t2Error State.tierCe
  (repeat' split) <;> simp

theorem inner_time (s : State) (a : InnerAccess) : (s.inner a).time = s.time := by
  cases a with
  | spad security t u data =>
    show (s.innerSpad security t u.toNat data).time = s.time
    unfold State.innerSpad
    (repeat' split) <;> simp [putUnit_time, eccRead_time]
  | tier tier2 a data =>
    show (s.innerTier tier2 a.toNat data).time = s.time
    unfold State.innerTier
    (repeat' split) <;> simp [State.putTier, State.countMoved, tierRead_time]

theorem endBeat_time (s : State) (x : BeatIn) : (s.endBeat x).time = (s.runClocks x).time := by
  have herrors : (s.endBeat x).time = (x.inner.foldl State.inner (s.runTiles x)).time :=
    congrArg Prod.fst (endErrors_timeAndBytes _ x)
  rw [herrors, foldl_keeps State.time inner_time, runTiles_time]

end Sys2Proof.Machine

namespace Sys2Proof.Machine

/-! ### The counters -/

/-- A machine beat moves the counters and the rest lists, and shows REFCLK_POD as present unless the standby oscillator runs. -/
theorem machineBeat_eq (s : State) : machineBeat s =
    { s with
      regs := (if s.time.standby then s else s.set .BEAT_STATUS_ref_present 0 1).regs
      time := { s.time with beat := (s.time.beat + 1) % 2 ^ 64, frac := 0, tick := s.time.tick + 1
                            counted := s.time.counted + ofBool (!isRest s.plan.rests ((s.time.beat + 1) % 2 ^ 64)) }
      plan := { s.plan with beat := s.plan.beat + ofBool s.beatExecutes
                            rests := retireRests ((s.time.beat + 1) % 2 ^ 64) s.plan.rests }
      router := { s.router with planBeat := s.router.planBeat + ofBool s.rimExecutes
                                rests := retireRests ((s.time.beat + 1) % 2 ^ 64) s.router.rests } } := by
  unfold machineBeat
  dsimp only
  split <;> rfl

theorem machineBeat_sameRegs (s : State) : SameRegs [.BEAT_STATUS_ref_present] s (machineBeat s) := by
  intro f i hf
  unfold machineBeat
  dsimp only
  split
  · rfl
  · exact (SameRegs.refl _ s).set (List.mem_singleton_self _) 0 1 f i hf

theorem machineBeat_bytes (s : State) : (machineBeat s).spad = s.spad ∧ (machineBeat s).tier1 = s.tier1
    ∧ (machineBeat s).tier2 = s.tier2 ∧ (machineBeat s).spadErr = s.spadErr := by
  rw [machineBeat_eq]
  exact ⟨rfl, rfl, rfl, rfl⟩

theorem machineBeat_time (s : State) : (machineBeat s).time.beat = (s.time.beat + 1) % 2 ^ 64
    ∧ (machineBeat s).time.tick = s.time.tick + 1 ∧ (machineBeat s).time.frac = 0
    ∧ (machineBeat s).time.clock = s.time.clock := by
  rw [machineBeat_eq]
  exact ⟨rfl, rfl, rfl, rfl⟩

/-- In a rest no plan beat executes (R7, R101). -/
theorem beatExecutes_rest {s : State} (h : isRest s.plan.rests s.time.beat = true) : s.beatExecutes = false := by
  simp [State.beatExecutes, h]

/-! ### The command -/

theorem State.runs_machineBeat {x : BeatIn} {s : State} {P : State → Prop} (hs : s.powered = true)
    (h : P (machineBeat (s.begin.endBeat x))) : s.Runs (.machineBeat x) P :=
  State.runs_of_occurs (g := s.powered) (f := fun s => machineBeat (s.endBeat x)) rfl hs h

section
variable {x : BeatIn} {s : State}

/-- The beat that ends, its tiles still and nothing accessed. -/
theorem endBeat_still (hq : ∀ e ∈ s.tiles, e.2.quiet = true) (hi : x.inner = []) :
    s.begin.endBeat x = (s.begin.runClocks x).endErrors x := by
  rw [endBeat_eq, runTiles_quiet (s := s.begin) hq, hi]
  rfl

/-- The beat that ends, its tiles still and one access made. -/
theorem endBeat_access (hq : ∀ e ∈ s.tiles, e.2.quiet = true) {a : InnerAccess} (hi : x.inner = [a]) :
    s.begin.endBeat x = ((s.begin.runClocks x).inner a).endErrors x := by
  rw [endBeat_eq, runTiles_quiet (s := s.begin) hq, hi]
  rfl

theorem endErrors_bytes (s : State) (x : BeatIn) :
    (s.endErrors x).spad = s.spad ∧ (s.endErrors x).tier1 = s.tier1 ∧ (s.endErrors x).tier2 = s.tier2 := by
  have h := endErrors_timeAndBytes s x
  unfold State.timeAndBytes at h
  simp only [Prod.mk.injEq] at h
  exact h.2

/-- A whole unit written reads back. -/
theorem Memory.readBytes_writeUnit (m : Memory) (a : Nat) (b : Vector Byte 32) :
    (m.writeBytes a b.toList).readBytes a 32 = b.toList := by
  have h := Memory.readBytes_writeBytes b.toList m a
  rwa [b.length_toList] at h

/-- A write of firmware to a tier's unit, where it has the right and the tiers serve. -/
theorem innerTier_write {tier2 : Bool} {a : Nat} (b : Vector Byte 32) (hserve : s.tiersServe = true)
    (hright : firmwareRights tier2 a = 2) :
    (s.innerTier tier2 a (some b)).tierUnit (if tier2 then 2 else 1) a = b.toList
      ∧ (s.innerTier tier2 a (some b)).spad = s.spad := by
  unfold State.innerTier
  dsimp only
  rw [if_neg (by simp [hserve]), if_pos hright]
  cases tier2 with
  | true => exact ⟨s.tier2.readBytes_writeUnit (32 * a) b, rfl⟩
  | false => exact ⟨s.tier1.readBytes_writeUnit (32 * a) b, rfl⟩

/-- A write to a scratchpad unit that is not under test, by the security block or outside the secure window. -/
theorem innerSpad_write {g : Bool} {t u : Nat} (b : Vector Byte 32) (hserve : s.tiersServe = true)
    (hright : g = true ∨ s.inWindow (tileDie t) u = false) (htest : s.testOn t u = none) :
    (s.innerSpad g t u (some b)).spad.readBytes (2 ^ 20 * t + 32 * u) 32 = b.toList
      ∧ (s.innerSpad g t u (some b)).tier1 = s.tier1 ∧ (s.innerSpad g t u (some b)).tier2 = s.tier2 := by
  have hput : s.innerSpad g t u (some b) = s.putUnit t u b.toList := by
    unfold State.innerSpad
    rw [if_neg (by simp [hserve]), if_neg (by rcases hright with h | h <;> simp [h])]
  rw [hput, State.putUnit, htest]
  exact ⟨s.spad.readBytes_writeUnit _ b, rfl, rfl⟩

end

/-- Settles O13: what the tiles, the accesses and the errors of the beat do leaves the time base to the region clocks and the
counters; a beat whose tiles are still comes down to the one thing that happens in it. -/
theorem machineBeatAdvances : Obligations.MachineBeatAdvances := by
  unfold Obligations.MachineBeatAdvances
  intro x s hs
  refine ⟨?counters, fun hq => ⟨?idle, ?tier, ?spad, ?upset, ?packages⟩⟩
  case counters =>
    refine State.runs_machineBeat hs ?_
    obtain ⟨hbeat, htick, hfrac, hclock⟩ := machineBeat_time (s.begin.endBeat x)
    rw [hbeat, htick, hfrac, hclock, endBeat_time]
    refine ⟨rfl, rfl, rfl, fun r hr => ⟨fun hup hstops => ?_, fun hstop => ?_⟩⟩
    · rw [runClocks_clock _ _ hr, if_pos (show s.begin.tilesUp = true from hup), State.beatCycles, if_neg (by simp [hstops])]
      rfl
    · have hnone : s.begin.beatCycles x r = 0 := if_pos (by simpa using hstop)
      rw [runClocks_clock _ _ hr, hnone, ite_self]
      rfl
  case idle =>
    intro hu ht hi he
    refine State.runs_machineBeat hs ?_
    rw [endBeat_still hq hi, endErrors_none _ hu ht he]
    have hexec : (s.begin.runClocks x).beatExecutes = s.beatExecutes := rfl
    have hregs := machineBeat_sameRegs (s.begin.runClocks x)
    rw [machineBeat_eq] at hregs ⊢
    rw [hexec] at hregs ⊢
    refine ⟨rfl, fun hrest => ?_, rfl, rfl, rfl, rfl, rfl, hregs, fun a => ⟨rfl, rfl, rfl, rfl, rfl⟩, ⟨rfl, rfl, rfl, rfl, rfl⟩,
      rfl, rfl, rfl, rfl⟩
    rw [beatExecutes_rest hrest]
    rfl
  case tier =>
    intro tier2 a b hi hserve hright
    refine State.runs_machineBeat hs ?_
    rw [endBeat_access hq hi]
    obtain ⟨hunit, hspad⟩ := innerTier_write (s := s.begin.runClocks x) b hserve hright
    obtain ⟨hs1, ht1, ht2, -⟩ := machineBeat_bytes (((s.begin.runClocks x).inner (.tier tier2 a (some b))).endErrors x)
    obtain ⟨es1, et1, et2⟩ := endErrors_bytes ((s.begin.runClocks x).inner (.tier tier2 a (some b))) x
    unfold State.tierUnit at hunit ⊢
    rw [hs1, ht1, ht2, es1, et1, et2]
    exact ⟨hunit, hspad⟩
  case spad =>
    intro g k u b hi hserve hright htest
    refine State.runs_machineBeat hs ?_
    rw [endBeat_access hq hi]
    obtain ⟨hunit, h1, h2⟩ := innerSpad_write (s := s.begin.runClocks x) b hserve hright htest
    obtain ⟨hs1, ht1, ht2, -⟩ := machineBeat_bytes (((s.begin.runClocks x).inner (.spad g k u (some b))).endErrors x)
    obtain ⟨es1, et1, et2⟩ := endErrors_bytes ((s.begin.runClocks x).inner (.spad g k u (some b))) x
    rw [hs1, ht1, ht2, es1, et1, et2]
    exact ⟨hunit, h1, h2⟩
  case upset =>
    intro u hi hu
    refine State.runs_machineBeat hs ?_
    rw [endBeat_still hq hi]
    obtain ⟨hspad, -, -, herr⟩ := machineBeat_bytes ((s.begin.runClocks x).endErrors x)
    obtain ⟨es, -, -⟩ := endErrors_bytes (s.begin.runClocks x) x
    rw [hspad, herr, es]
    exact ⟨endErrors_upset (s.begin.runClocks x) hu, rfl⟩
  case packages =>
    intro hi
    refine State.runs_machineBeat hs (fun k hk hn => ?_)
    rw [machineBeat_sameRegs _ _ _ (by decide), endBeat_still hq hi]
    exact endErrors_ecs (s.begin.runClocks x) x hk hn

end Sys2Proof.Machine

namespace Sys2Proof.Machine

/-! ### The flags of a time word -/

/-- Byte 22 of a time word is its flags byte (R47). -/
theorem timePayload_flags (s : State) (p frac : Nat) :
    leAt (padTo 32 (s.timePayload p frac)) 22 1
      = (s.timeState.code + 4 * s.get .BEAT_CTRL_time_root 0 + 8 * s.get .BEAT_STATUS_depth 0
          + 128 * ofBool (s.time.echo.find? p).isSome) % 256 := by
  unfold State.timePayload
  cases hp : s.time.echo.find? p <;> simp [toLE, leAt, ofLE, padTo, zeros, ofBool]

/-- What the clause of O18 on the echo flag needs: it says that an echo is held where the fields beside it keep to their widths. -/
theorem timePayload_echoValid (s : State) (p frac : Nat) (hroot : s.get .BEAT_CTRL_time_root 0 < 2)
    (hdepth : s.get .BEAT_STATUS_depth 0 < 16) :
    (parseTimeWord (padTo 32 (s.timePayload p frac))).echoValid = (s.time.echo.find? p).isSome := by
  have hcode : s.timeState.code < 4 := by cases s.timeState <;> decide
  show bit (leAt _ 22 1) 7 = _
  rw [timePayload_flags]
  cases (s.time.echo.find? p).isSome <;> simp only [bit, ofBool, beq_iff_eq, beq_eq_false_iff_ne] <;> simp <;> omega

/-- A module with port 0 ACTIVE whose depth field holds 16, one more than its 4 bits can, and whose beat copies are being
reloaded. -/
def wideDepth : State :=
  { State.reset.set .LNK_STATUS_state 0 Train.active.code with
    regs := (regKey .BEAT_STATUS_depth 0, 16) :: (State.reset.set .LNK_STATUS_state 0 Train.active.code).regs
    time := { TimeBase.reset with reload := some 0 } }

/-- A downbeat in which the environment measures nothing. -/
def idleDown : DownIn :=
  { current := Vector.replicate 576 0, lateRows := [], busy := Vector.replicate 10 0, frac := Vector.replicate 36 0, reloaded := false }

/-- Port 0's time word says that it echoes one, though none has come: the depth has gone into the flag beside it. -/
theorem wideDepth_word : ((downbeat idleDown wideDepth.begin).port 0).urgent.map (fun c => (parseTimeWord c.body).echoValid) = [true] := by
  decide +kernel

theorem exec_downbeat (x : DownIn) (s : State) : exec (.downbeat x) s =
    occurs (s.powered && isDownbeat s.time.beat && s.time.lastDown != some s.time.beat
      && !(s.planState = .armed && s.time.beat == s.startBeat) && !s.rimArmed) (downbeat x) s := rfl

/-- The next state of a command whose condition holds is what its effect makes of the state. -/
theorem eq_of_exec {c : Instr} {g : Bool} {f : State → State} {s t : State} (hc : exec c s = occurs g f s) (hg : g = true)
    (ht : exec c s = .next t) : t = f s.begin := by
  rw [hc, hg, occurs_true] at ht
  injection ht with h
  exact h.symm

/-- Refutes O18: its states are all states, and in one whose BEAT_STATUS.depth holds more than 4 bits (no write of a register leaves
one such) the time word's echo flag is set with no echo held. -/
theorem not_downbeatActs : ¬ Obligations.DownbeatActs := by
  unfold Obligations.DownbeatActs
  intro h
  obtain ⟨t, ht, hacts⟩ := h idleDown wideDepth rfl rfl (by decide) (by decide) (by decide)
  obtain ⟨-, -, -, -, -, -, -, -, -, -, -, -, hports⟩ := hacts
  have hdown : t = downbeat idleDown wideDepth.begin :=
    eq_of_exec (exec_downbeat idleDown wideDepth) (by decide) ht
  obtain ⟨c, hc, -, -, -, hecho⟩ := (hports 0 (by decide)).2 (by decide)
  have hword := wideDepth_word
  rw [← hdown, hc, show (wideDepth.port 0).urgent = [] from rfl] at hword
  have htrue : (parseTimeWord c.body).echoValid = true := by simpa using hword
  rw [hecho] at htrue
  exact absurd htrue (by decide)

end Sys2Proof.Machine

namespace Sys2Proof.Machine

/-! ### Cold and package reset -/

/-- A command whose condition holds answers what its effect makes of the state. -/
theorem exec_eq_of_occurs {c : Instr} {g : Bool} {f : State → State} {s : State} (hc : exec c s = occurs g f s) (hg : g = true) :
    exec c s = .next (f s.begin) := by
  rw [hc, hg, occurs_true]

/-- `t` is `s` started anew (R436, R438): everything stopped, the fuses, flash and the queue kept. -/
def Restarted (s t : State) : Prop :=
  t.powered = true ∧ t.pcie = false ∧ t.tiles = [] ∧ t.ports = [] ∧ t.plan = PlanEngine.reset ∧ t.host = HostIf.reset
    ∧ t.mgmt.secure = Memory.empty ∧ t.mgmt.transition = none ∧ t.pkgReset = none ∧ t.fused = s.fused
    ∧ t.mgmt.images = s.mgmt.images ∧ t.pending = s.pending

theorem restart_restarted (s : State) (e : Ev) : Restarted s (s.restart e) :=
  ⟨rfl, rfl, rfl, rfl, rfl, rfl, rfl, rfl, rfl, rfl, rfl, rfl⟩

/-- To a restart a package reset adds the ticks, a trip under way, and registers. -/
theorem packageReset_restarted (x : PkgReset) (s : State) : Restarted s (packageReset x s) := restart_restarted s .package

/-- The board holds PERST# low at a power-up; a package reset leaves it at its level (R29, R30). -/
theorem restart_perst (s : State) : (s.restart .cold).perst = false ∧ (s.restart .package).perst = s.perst :=
  ⟨Bool.and_false s.perst, Bool.and_true s.perst⟩

/-- After a cold reset every register but the nonce reads as its reset value (R13, R425). -/
theorem restart_cold_get (s : State) {f : RegField} (i : Nat) (hf : f ≠ .SEC_LC_NONCE_nonce) :
    (s.restart .cold).get f i = defaultOf s.fused f i := by
  unfold State.restart State.drawNonce
  rw [State.get_set_other _ _ (.inl hf)]
  rfl

theorem packageReset_cause (x : PkgReset) (s : State) :
    (packageReset x s).get .FLT_LAST_RESET_cause 0 = x.cause % 2 ^ RegField.width .FLT_LAST_RESET_cause := by
  unfold packageReset
  rw [State.get_bump_other _ _ (.inl (by decide)), State.get_set_same]

theorem exec_packageReset {s : State} {x : PkgReset} (hx : s.pkgReset = some x) :
    exec .packageReset s = occurs (s.powered && !s.tripped && decide (x.due ≤ s.time.tick)) (packageReset x) s := by
  show execPackageReset s = _
  unfold execPackageReset
  rw [hx]

theorem switchOffDue_of_tripTick {s : State} {k : Nat} (hk : s.tripTick = some k) (hdue : k + 1250000 ≤ s.time.tick) :
    s.switchOffDue = true := by
  unfold State.switchOffDue
  rw [hk]
  exact decide_eq_true hdue

/-- Settles O7: both resets are a restart, which keeps what R436 and R438 name; a loss of power is one update of the state. -/
theorem resetsAndPowerLoss : Obligations.ResetsAndPowerLoss := by
  unfold Obligations.ResetsAndPowerLoss
  refine ⟨⟨fun s hoff => ?cold, fun s x hx hs htrip hdue => ?package⟩, fun s hs => ?undervoltage, fun s k hs hk hdue => ?stageOff⟩
  case cold =>
    refine State.runs_of_occurs (g := !s.powered) (f := fun s => s.restart .cold) rfl (by rw [hoff]; rfl) ?_
    obtain ⟨hpow, hpcie, htiles, hports, hplan, hhost, hsecure, hlc, -, hfused, himages, hpending⟩ := restart_restarted s.begin .cold
    exact ⟨hpow, (restart_perst s.begin).1, hpcie, htiles, hports, hplan, hhost, hsecure, hlc, hfused, himages, hpending,
      fun f i hf => restart_cold_get s.begin i hf⟩
  case package =>
    refine State.runs_of_occurs (exec_packageReset hx) (by simp [hs, htrip, hdue]) ?_
    obtain ⟨hpow, hpcie, htiles, hports, hplan, hhost, hsecure, hlc, hpkg, hfused, himages, hpending⟩ :=
      packageReset_restarted x s.begin
    exact ⟨hpow, (restart_perst s.begin).2, hpcie, htiles, hports, hplan, hhost, hsecure, hlc, hpkg, hfused, himages, hpending, rfl,
      packageReset_cause x s.begin⟩
  case undervoltage => exact exec_eq_of_occurs (f := fun s => { s with powered := false, pcie := false }) rfl hs
  case stageOff =>
    exact exec_eq_of_occurs (g := s.powered && s.switchOffDue)
      (f := fun s => { s with powered := false, pcie := false, tripTick := none }) rfl
      (by rw [hs, switchOffDue_of_tripTick hk hdue]; rfl)

end Sys2Proof.Machine

namespace Sys2Proof.Machine

/-! ### PERST# -/

/-- A package reset asked for is to start by then, at the latest; a reset already due by then is left as it is. -/
theorem packageResetIn_due (s : State) (cause beats : Nat) :
    ∃ x, (s.packageResetIn cause beats).pkgReset = some x ∧ x.due ≤ s.time.tick + beats := by
  unfold State.packageResetIn
  split
  case h_1 x hx =>
    split
    · next hdue => exact ⟨x, hx, hdue⟩
    · exact ⟨_, rfl, le_rfl⟩
  case h_2 => exact ⟨_, rfl, le_rfl⟩

theorem packageResetIn_first {s : State} (h : s.pkgReset = none) (cause beats : Nat) :
    (s.packageResetIn cause beats).pkgReset = some ⟨cause, s.time.tick + beats⟩ := by
  unfold State.packageResetIn
  rw [h]

/-- Asking for a package reset changes nothing else. -/
theorem packageResetIn_eq (s : State) (cause beats : Nat) :
    s.packageResetIn cause beats = { s with pkgReset := (s.packageResetIn cause beats).pkgReset } := by
  unfold State.packageResetIn
  split
  · split <;> rfl
  · rfl

/-- PERST# low, before hub ready and after it. -/
theorem perstAssert_down {s : State} (h : s.hubUp = false) : perstAssert s = { s with perst := false, pcie := false } := by
  unfold perstAssert
  rw [h]
  rfl

theorem perstAssert_up {s : State} (h : s.hubUp = true) :
    perstAssert s = State.packageResetIn { s with perst := false, pcie := false } 1 0 := by
  unfold perstAssert
  rw [h]
  rfl

/-- PERST# low takes PCIe down and leaves the registers alone, whether it asks for a reset or not. -/
theorem perstAssert_pcie (s : State) :
    (perstAssert s).perst = false ∧ (perstAssert s).pcie = false ∧ (perstAssert s).regs = s.regs := by
  cases hup : s.hubUp with
  | false => rw [perstAssert_down hup]; exact ⟨rfl, rfl, rfl⟩
  | true => rw [perstAssert_up hup, packageResetIn_eq]; exact ⟨rfl, rfl, rfl⟩

/-- Settles O9: PERST# low asks for a reset by way of `packageResetIn`; the other two rows are one update of the state. -/
theorem pcieResetAndAttention : Obligations.PcieResetAndAttention := by
  unfold Obligations.PcieResetAndAttention
  refine ⟨⟨fun s hs => ?assert, fun s hs => ?release⟩, fun s hup => ?attention⟩
  case assert =>
    refine State.runs_of_occurs (g := s.perst) (f := perstAssert) rfl hs ?_
    obtain ⟨hperst, hpcie, hregs⟩ := perstAssert_pcie s.begin
    refine ⟨hperst, hpcie, fun hdown => ?_, fun hup => ?_, SameBytes.of_field ?_, SameTiles.of_field ?_, hregs⟩
    · rw [perstAssert_down (s := s.begin) hdown]; rfl
    · rw [perstAssert_up (s := s.begin) hup]
      exact ⟨packageResetIn_due _ 1 0, fun hnone =>
        packageResetIn_first (s := { s.begin with perst := false, pcie := false }) hnone 1 0⟩
    · rw [perstAssert_field]; rfl
    · rw [perstAssert_field]; rfl
  case release =>
    exact exec_eq_of_occurs (g := !s.perst) (f := fun s => { s with perst := true, pcie := s.hubUp && s.pkgReset.isNone }) rfl
      (by rw [hs]; rfl)
  case attention => exact exec_eq_of_occurs (f := fun s => (s.event 5 []).emit (.firmware 24 0)) rfl hup

end Sys2Proof.Machine

namespace Sys2Proof.Machine

/-! ### Registers that an operation leaves alone -/

theorem SameRegs.trans {fs : List RegField} {s t u : State} (h : SameRegs fs s t) (h' : SameRegs fs t u) : SameRegs fs s u :=
  fun f i hf => (h' f i hf).trans (h f i hf)

theorem SameRegs.mono {fs gs : List RegField} {s t : State} (h : SameRegs fs s t) (hg : fs ⊆ gs) : SameRegs gs s t :=
  fun f i hf => h f i (fun hm => hf (hg hm))

/-- What a warning may write (R444, R449). -/
def warnRegs : List RegField := [.FLT_REPORT_sent, .FLT_REPORT_last_seq, .HST_ERR_events_lost, .FLT_WARN_pending]

theorem warnWith_sameRegs (s : State) (w : Warn) (d : Nat) : SameRegs warnRegs s (s.warnWith w d) := by
  intro f i hf
  simp only [warnRegs, List.mem_cons, List.not_mem_nil, or_false, not_or] at hf
  obtain ⟨hsent, hseq, hlost, hpending⟩ := hf
  exact State.get_warnWith s w d i hsent hseq hlost hpending

theorem warn_sameRegs (s : State) (w : Warn) : SameRegs warnRegs s (s.warn w) := fun f i hf =>
  (warnWith_sameRegs s.draw.2 w _ f i hf).trans rfl

/-! ### The thermal warning -/

theorem bit_eq_testBit (v i : Nat) : bit v i = v.testBit i := by
  rw [Nat.testBit_eq_decide_div_mod_eq, bit, beq_eq_decide]

theorem thermalWarning_pending (s : State) : bit ((thermalWarning s).get .FLT_WARN_pending 0) Warn.thermal.bit = true := by
  unfold thermalWarning
  split
  · exact State.warn_pending s .thermal
  · rw [State.get_set_same, bit_eq_testBit, Nat.testBit_mod_two_pow, Nat.testBit_or, Nat.testBit_two_pow_self, Bool.or_true]
    rfl

theorem thermalWarning_quiet (s : State) : (thermalWarning s).quiet = s.quiet := by
  unfold thermalWarning
  split
  · exact quiet_warn s .thermal
  · rfl

/-! ### The poll of the power stage -/

/-- A finding of the poll: its flag is latched, and firmware warns of the power stage. -/
def State.noteStage (s : State) (found : Prop) [Decidable found] (f : RegField) : State :=
  if found then (s.set f 0 1).warn .powerStage else s

/-- What the poll reads. -/
def State.recordStage (s : State) (vin iin temp : Nat) : State :=
  ((s.set .MGT_PMBUS_vin_q 0 vin).set .MGT_PMBUS_iin_q 0 iin).set .MGT_PMBUS_stage_temp 0 temp

theorem pmbusPoll_eq (vin iin temp : Nat) (fault : Bool) (s : State) : pmbusPoll vin iin temp fault s
    = ((s.recordStage vin iin temp).noteStage (fault = true) .MGT_PMBUS_stage_fault).noteStage (vin < 192) .MGT_PMBUS_vin_low := rfl

section
variable (s : State) (found : Prop) [Decidable found] (f : RegField)

theorem noteStage_quiet : (s.noteStage found f).quiet = s.quiet := by
  unfold State.noteStage
  split
  · exact quiet_warn ..
  · rfl

theorem noteStage_sameRegs : SameRegs (f :: warnRegs) s (s.noteStage found f) := by
  unfold State.noteStage
  split
  · exact ((SameRegs.refl _ s).set List.mem_cons_self 0 1).trans ((warn_sameRegs _ _).mono (List.subset_cons_self _ _))
  · exact SameRegs.refl _ s

variable {s f}

theorem noteStage_keepsPending (h : bit (s.get .FLT_WARN_pending 0) Warn.powerStage.bit = true) :
    bit ((s.noteStage found f).get .FLT_WARN_pending 0) Warn.powerStage.bit = true := by
  unfold State.noteStage
  split
  · exact State.warn_pending ..
  · exact h

variable {found} in
/-- A finding is latched and warned of (R416, R444). -/
theorem noteStage_found (h : found) (hf : f ∉ warnRegs) : (s.noteStage found f).get f 0 = 1 % 2 ^ f.width
    ∧ bit ((s.noteStage found f).get .FLT_WARN_pending 0) Warn.powerStage.bit = true := by
  unfold State.noteStage
  rw [if_pos h]
  exact ⟨(warn_sameRegs _ _ f 0 hf).trans (State.get_set_same ..), State.warn_pending ..⟩

end

theorem pmbusPoll_quiet (vin iin temp : Nat) (fault : Bool) (s : State) : (pmbusPoll vin iin temp fault s).quiet = s.quiet := by
  rw [pmbusPoll_eq, noteStage_quiet, noteStage_quiet]
  rfl

/-- A poll changes no register that it read, once read. -/
theorem pmbusPoll_sameRegs (vin iin temp : Nat) (fault : Bool) (s : State) :
    SameRegs (.MGT_PMBUS_vin_low :: .MGT_PMBUS_stage_fault :: warnRegs) (s.recordStage vin iin temp) (pmbusPoll vin iin temp fault s) := by
  rw [pmbusPoll_eq]
  exact ((noteStage_sameRegs _ _ _).mono (List.subset_cons_self _ _)).trans ((noteStage_sameRegs _ _ _).mono (by decide))

theorem recordStage_reads (s : State) (vin iin temp : BitVec 8) :
    (s.recordStage vin.toNat iin.toNat temp.toNat).get .MGT_PMBUS_vin_q 0 = vin.toNat
      ∧ (s.recordStage vin.toNat iin.toNat temp.toNat).get .MGT_PMBUS_iin_q 0 = iin.toNat
      ∧ (s.recordStage vin.toNat iin.toNat temp.toNat).get .MGT_PMBUS_stage_temp 0 = temp.toNat := by
  have hcut (x : BitVec 8) : x.toNat % 2 ^ 8 = x.toNat := Nat.mod_eq_of_lt x.isLt
  unfold State.recordStage
  refine ⟨?_, ?_, ?_⟩
  · rw [State.get_set_other _ _ (.inl (by decide)), State.get_set_other _ _ (.inl (by decide)), State.get_set_same]
    exact hcut vin
  · rw [State.get_set_other _ _ (.inl (by decide)), State.get_set_same]
    exact hcut iin
  · rw [State.get_set_same]
    exact hcut temp

theorem pmbusPoll_fault (vin iin temp : Nat) (s : State) :
    (pmbusPoll vin iin temp true s).get .MGT_PMBUS_stage_fault 0 = 1
      ∧ bit ((pmbusPoll vin iin temp true s).get .FLT_WARN_pending 0) Warn.powerStage.bit = true := by
  rw [pmbusPoll_eq]
  obtain ⟨hfault, hwarned⟩ := noteStage_found (s := s.recordStage vin iin temp) (f := .MGT_PMBUS_stage_fault) (rfl : true = true)
    (by decide)
  exact ⟨(noteStage_sameRegs _ _ _ _ _ (by decide)).trans hfault, noteStage_keepsPending _ hwarned⟩

theorem pmbusPoll_low {vin : Nat} (h : vin < 192) (iin temp : Nat) (fault : Bool) (s : State) :
    (pmbusPoll vin iin temp fault s).get .MGT_PMBUS_vin_low 0 = 1
      ∧ bit ((pmbusPoll vin iin temp fault s).get .FLT_WARN_pending 0) Warn.powerStage.bit = true := by
  rw [pmbusPoll_eq]
  exact noteStage_found h (by decide)

/-- Settles O11: a warning, a trip and a poll write registers, outputs and the fatal path's queue, and leave the clocks, the tiles
and the memories alone. -/
theorem temperatureAndPowerStage : Obligations.TemperatureAndPowerStage := by
  unfold Obligations.TemperatureAndPowerStage
  refine ⟨fun k c s hs hlimit => ?warning, fun k u n c s hs hlimit => ?trip, fun v i c f s hup => ?poll⟩
  case warning =>
    refine State.runs_of_occurs (g := s.powered && decide ((tempLimits k).1 ≤ c.toNat)) (f := thermalWarning) rfl
      (by simp [hs, hlimit]) ?_
    have hquiet := thermalWarning_quiet s.begin
    have hfield := thermalWarning_field s.begin
    exact ⟨thermalWarning_pending s.begin, quiet_time hquiet, quiet_plan hquiet, SameBytes.of_field hfield, SameTiles.of_field hfield⟩
  case trip =>
    refine State.runs_of_occurs (g := s.powered && decide ((tempLimits k).2 ≤ c.toNat)) (f := thermalTrip k u n c.toNat) rfl
      (by simp [hs, hlimit]) ?_
    have hfield := thermalTrip_field k u n c.toNat s.begin
    exact ⟨rfl, rfl, Option.some_ne_none _, rfl, SameBytes.of_field hfield, SameTiles.of_field hfield⟩
  case poll =>
    refine State.runs_of_occurs (g := s.hubUp) (f := pmbusPoll v.toNat i.toNat c.toNat f) rfl hup ?_
    have hregs := pmbusPoll_sameRegs v.toNat i.toNat c.toNat f s.begin
    have hquiet := pmbusPoll_quiet v.toNat i.toNat c.toNat f s.begin
    have hfield := pmbusPoll_field v.toNat i.toNat c.toNat f s.begin
    obtain ⟨hvin, hiin, htemp⟩ := recordStage_reads s.begin v i c
    refine ⟨(hregs _ _ (by decide)).trans hvin, (hregs _ _ (by decide)).trans hiin, (hregs _ _ (by decide)).trans htemp,
      fun hf => ?_, fun hlow => pmbusPoll_low hlow .., quiet_time hquiet, quiet_plan hquiet, SameBytes.of_field hfield,
      SameTiles.of_field hfield⟩
    subst hf
    exact pmbusPoll_fault ..

end Sys2Proof.Machine

namespace Sys2Proof.Machine

/-! ### What a boot leaves alone -/

/-- A fold of steps that write the listed registers alone writes them alone. -/
theorem SameRegs.foldl {α : Type} {fs : List RegField} {g : State → α → State} (hg : ∀ s x, SameRegs fs s (g s x)) (l : List α)
    (s : State) : SameRegs fs s (l.foldl g s) := by
  induction l generalizing s with
  | nil => exact SameRegs.refl fs s
  | cons x l ih => exact (hg s x).trans (ih (g s x))

/-- Fences are two registers (R340). -/
theorem SameRegs.fenced {fs : List RegField} {s t : State} (h : SameRegs fs s t) (hlo : .RTE_FENCE_LO_fence_lo ∉ fs)
    (hhi : .RTE_FENCE_HI_fence_hi ∉ fs) (p : Nat) : t.fenced p = s.fenced p := by
  unfold State.fenced
  rw [h _ _ hlo, h _ _ hhi]

/-- The parts of the state, beside registers, that firmware at boot leaves alone. (Its laws are not `rfl`-lemmas: a chain of writes is
then rewritten one by one, where unfolding it costs a power of its length.) -/
def State.bootKept (s : State) : Bool × Bool × Nat × TimeBase × Table Tile := (s.powered, s.perst, s.deviceId, s.time, s.tiles)

theorem bootKept_of_quiet {s t : State} (h : t.quiet = s.quiet) : t.bootKept = s.bootKept :=
  (congrArg State.bootKept h : t.quiet.bootKept = s.quiet.bootKept)

@[simp] theorem bootKept_set (s : State) (f : RegField) (i v : Nat) : (s.set f i v).bootKept = s.bootKept :=
  id rfl
@[simp] theorem bootKept_bump (s : State) (f : RegField) (i n : Nat) : (s.bump f i n).bootKept = s.bootKept :=
  id rfl
@[simp] theorem bootKept_dumpWrite (s : State) (off : Nat) (b : List Byte) : (s.dumpWrite off b).bootKept = s.bootKept :=
  id rfl
@[simp] theorem bootKept_modPort (s : State) (p : Nat) (f : LinkPort → LinkPort) : (s.modPort p f).bootKept = s.bootKept :=
  id rfl
@[simp] theorem bootKept_detect (s : State) (p : Nat) : (s.detect p).bootKept = s.bootKept := by
  unfold State.detect State.enter
  simp only [bootKept_modPort, bootKept_set]
@[simp] theorem bootKept_romRecovery (s : State) : s.romRecovery.bootKept = s.bootKept := rfl
@[simp] theorem bootKept_warnWith (s : State) (w : Warn) (d : Nat) : (s.warnWith w d).bootKept = s.bootKept :=
  bootKept_of_quiet (quiet_warnWith s w d)

/-! ### The ports' initial configuration (R412) -/

/-- The fields that LNK_CFG and LNK_TIMER hold. -/
def linkCfgRegs : List RegField :=
  [.LNK_CFG_gen_max, .LNK_CFG_max_width, .LNK_CFG_min_width, .LNK_CFG_mode, .LNK_CFG_vc_count, .LNK_CFG_retx_mode,
   .LNK_TIMER_replay_to, .LNK_TIMER_replay_limit, .LNK_TIMER_lock_loss, .LNK_TIMER_credit_to]

theorem lnkCfgWrite_sameRegs (p v : Nat) (s : State) : SameRegs linkCfgRegs s (lnkCfgWrite p v s) := by
  unfold lnkCfgWrite
  split
  · exact SameRegs.refl _ s
  · exact ((((((SameRegs.refl _ s).set (by decide) p _).set (by decide) p _).set (by decide) p _).set (by decide) p _).set
      (by decide) p _).set (by decide) p _

theorem lnkTimerWrite_sameRegs (p v : Nat) (s : State) : SameRegs linkCfgRegs s (lnkTimerWrite p v s) := by
  unfold lnkTimerWrite
  split
  · exact SameRegs.refl _ s
  · exact ((((SameRegs.refl _ s).set (by decide) p _).set (by decide) p _).set (by decide) p _).set (by decide) p _

@[simp] theorem bootKept_lnkCfgWrite (p v : Nat) (s : State) : (lnkCfgWrite p v s).bootKept = s.bootKept := by
  unfold lnkCfgWrite
  split
  · rfl
  · simp only [bootKept_set]
@[simp] theorem bootKept_lnkTimerWrite (p v : Nat) (s : State) : (lnkTimerWrite p v s).bootKept = s.bootKept := by
  unfold lnkTimerWrite
  split
  · rfl
  · simp only [bootKept_set]

theorem linkDefaults_sameRegs (s : State) : SameRegs linkCfgRegs s s.linkDefaults := by
  unfold State.linkDefaults
  split
  · exact SameRegs.refl _ s
  · exact SameRegs.foldl (fun s p => (lnkCfgWrite_sameRegs p _ s).trans (lnkTimerWrite_sameRegs p _ _)) _ s

@[simp] theorem bootKept_linkDefaults (s : State) : s.linkDefaults.bootKept = s.bootKept := by
  unfold State.linkDefaults
  split
  · rfl
  · exact foldl_keeps State.bootKept (fun s p => by simp) _ s

/-! ### Configuration blocks (R411, R413) -/

/-- What firmware notes of the configuration's copies. -/
def cfgNotes : List RegField :=
  [.MGT_CFG_STATUS_repaired, .MGT_CFG_STATUS_refused_id, .MGT_CFG_STATUS_refused_count, .MGT_STATUS_safe]

theorem loadBlock_sameRegs (s : State) (id : Nat) : SameRegs cfgNotes s (s.loadBlock id) := by
  unfold State.loadBlock
  split
  case h_1 => exact SameRegs.refl _ s
  case h_2 =>
    dsimp only
    split
    · exact SameRegs.refl _ s
    · exact SameRegs.bump (fun _ _ _ => rfl) (by decide) 0 1
  case h_3 =>
    dsimp only
    split
    · exact ((SameRegs.refl _ s).set (by decide) 0 1).bump (by decide) 0 1
    · exact (((SameRegs.refl _ s).set (by decide) 0 id).set (by decide) 0 1).bump (by decide) 0 1

@[simp] theorem bootKept_loadBlock (s : State) (id : Nat) : (s.loadBlock id).bootKept = s.bootKept := by
  unfold State.loadBlock
  dsimp only
  split
  case h_1 => rfl
  case h_2 => split <;> rfl
  case h_3 =>
    rw [bootKept_bump, bootKept_set]
    split
    · rfl
    · exact bootKept_set ..

/-- What the load of the configuration may write. -/
def configRegs : List RegField := cfgNotes ++ linkCfgRegs ++ warnRegs

theorem loadConfig_sameRegs (s : State) : SameRegs configRegs s s.loadConfig := by
  have hblocks : SameRegs configRegs s (([1, 2, 3, 4, 5] : List Nat).foldl State.loadBlock s) :=
    (SameRegs.foldl loadBlock_sameRegs _ s).mono (by simp [configRegs])
  have hlinks := hblocks.trans ((linkDefaults_sameRegs _).mono (by simp [configRegs]))
  unfold State.loadConfig
  dsimp only
  split
  · exact hlinks.trans ((warnWith_sameRegs _ _ _).mono (by simp [configRegs]))
  · exact hlinks

@[simp] theorem bootKept_loadConfig (s : State) : s.loadConfig.bootKept = s.bootKept := by
  have hlinks : (([1, 2, 3, 4, 5] : List Nat).foldl State.loadBlock s).linkDefaults.bootKept = s.bootKept :=
    (bootKept_linkDefaults _).trans (foldl_keeps State.bootKept bootKept_loadBlock _ s)
  unfold State.loadConfig
  dsimp only
  split
  · exact (bootKept_warnWith _ _ _).trans hlinks
  · exact hlinks

/-! ### The dump of summaries (R457) -/

/-- FLT_DUMP's fields that a complete dump writes. -/
def dumpRegs : List RegField :=
  [.FLT_DUMP_valid, .FLT_DUMP_busy, .FLT_DUMP_pending, .FLT_DUMP_summary_only, .FLT_DUMP_field_absent, .FLT_DUMP_length]

theorem dumpWrite_sameRegs (fs : List RegField) (s : State) (off : Nat) (b : List Byte) : SameRegs fs s (s.dumpWrite off b) :=
  fun _ _ _ => rfl

/-- A dump's bytes go to memory: it writes no register. -/
theorem writeDump_sameRegs (fs : List RegField) (s : State) (secs : List (Nat × List Byte)) (flags : Nat) :
    SameRegs fs s (s.writeDump secs flags).2 :=
  (SameRegs.foldl (fun s (x : Nat × Nat × List Byte) => dumpWrite_sameRegs fs s x.2.1 x.2.2) _ s).trans
    ((dumpWrite_sameRegs fs _ 128 _).trans (dumpWrite_sameRegs fs _ 0 _))

@[simp] theorem bootKept_writeDump (s : State) (secs : List (Nat × List Byte)) (flags : Nat) :
    (s.writeDump secs flags).2.bootKept = s.bootKept :=
  (bootKept_dumpWrite _ 0 _).trans ((bootKept_dumpWrite _ 128 _).trans
    (foldl_keeps State.bootKept (fun s (x : Nat × Nat × List Byte) => bootKept_dumpWrite s x.2.1 x.2.2) _ s))

theorem noteDump_sameRegs (s : State) (length : Nat) (summaries : Bool) : SameRegs dumpRegs s (s.noteDump length summaries) := by
  unfold State.noteDump
  dsimp only
  exact ((((((SameRegs.refl _ s).set (by decide) 0 1).set (by decide) 0 0).set (by decide) 0 0).set (by decide) 0 _).set
      (by decide) 0 _).set (by decide) 0 _

@[simp] theorem bootKept_noteDump (s : State) (length : Nat) (summaries : Bool) :
    (s.noteDump length summaries).bootKept = s.bootKept := by
  unfold State.noteDump
  simp only [bootKept_set]

theorem summaryDump_sameRegs (s : State) : SameRegs dumpRegs s s.summaryDump := by
  unfold State.summaryDump
  dsimp only
  exact (writeDump_sameRegs dumpRegs s _ _).trans (noteDump_sameRegs _ _ true)

@[simp] theorem bootKept_summaryDump (s : State) : s.summaryDump.bootKept = s.bootKept :=
  (bootKept_noteDump _ _ true).trans (bootKept_writeDump s _ _)

/-! ### The image that starts (R408, R409) -/

/-- The check of an image. -/
def bootCheck (b : BootIn) (i : Nat) : ImageCheck := if i = 0 then b.image0 else b.image1

/-- The image that a boot of `s` starts. -/
def State.bootChoice (s : State) (b : BootIn) : Option (Nat × Bool) :=
  bootImage s.mgmt.dirs (fun i => imagePasses s.fused.minSecurity (bootCheck b i))

/-- The straps and the preferred image. -/
def State.strapped (b : BootIn) (s : State) : State :=
  State.set { s with deviceId := b.straps.toNat } .MGT_BOOT_preferred 0 ((directory s.mgmt.dirs).elim 0 Directory.preferred)

/-- ROM recovery, or the firmware of the image chosen. -/
def State.starts (b : BootIn) (s : State) : Option (Nat × Bool) → State
  | none => s.romRecovery
  | some (i, f) => s.firmware i f (bootCheck b i).version.toNat

/-- Hub ready itself: its flag and its tick, and PCIe by the level of PERST#. -/
def State.markReady (s : State) : State := { s.set .HST_STATUS_hub_ready 0 1 with readyTick := some s.time.tick, pcie := s.perst }

/-- The end of a boot: its time, the ports, hub ready. -/
def State.readied (b : BootIn) (s : State) : State := (s.set .MGT_BOOT_boot_ms 0 b.ms.toNat).openPorts.markReady

theorem hubReady_eq (b : BootIn) (s : State) : hubReady b s = ((s.strapped b).starts b (s.bootChoice b)).readied b := by
  show State.readied b _ = State.readied b _
  refine congrArg (State.readied b) ?_
  unfold State.strapped State.bootChoice bootCheck
  dsimp only
  cases directory s.mgmt.dirs <;> rfl

/-- What firmware writes before it loads the configuration. -/
def imageRegs : List RegField := [.MGT_BOOT_image, .MGT_BOOT_fallback, .MGT_FW_VERSION_version]

/-- What the start of an image, or of ROM recovery, may write. -/
def startRegs : List RegField := imageRegs ++ configRegs ++ dumpRegs ++ [.MGT_STATUS_rom_recovery, .HST_FEAT_SUP_sup]

/-- The registers that name the image. -/
def State.named (s : State) (image : Nat) (fallback : Bool) (version : Nat) : State :=
  ((s.set .MGT_BOOT_image 0 image).set .MGT_BOOT_fallback 0 (ofBool fallback)).set .MGT_FW_VERSION_version 0 version

theorem named_sameRegs (s : State) (image : Nat) (fallback : Bool) (version : Nat) :
    SameRegs imageRegs s (s.named image fallback version) :=
  (((SameRegs.refl _ s).set (by decide) 0 _).set (by decide) 0 _).set (by decide) 0 _

/-- Firmware keeps the registers that name its image. -/
theorem firmware_keepsName (s : State) (image : Nat) (fallback : Bool) (version : Nat) :
    SameRegs (configRegs ++ dumpRegs) (s.named image fallback version) (s.firmware image fallback version) :=
  ((loadConfig_sameRegs _).mono (List.subset_append_left _ _)).trans
    ((summaryDump_sameRegs _).mono (List.subset_append_right _ _))

theorem firmware_name (s : State) (image : Nat) (fallback : Bool) (version : Word) :
    (s.firmware image fallback version.toNat).get .MGT_BOOT_image 0 = image % 2
      ∧ (s.firmware image fallback version.toNat).get .MGT_BOOT_fallback 0 = ofBool fallback
      ∧ (s.firmware image fallback version.toNat).get .MGT_FW_VERSION_version 0 = version.toNat := by
  have hkeep := firmware_keepsName s image fallback version.toNat
  refine ⟨(hkeep _ _ (by decide)).trans ?image, (hkeep _ _ (by decide)).trans ?fallback, (hkeep _ _ (by decide)).trans ?version⟩
  case image =>
    exact (State.get_set_other _ _ (.inl (by decide))).trans
      ((State.get_set_other _ _ (.inl (by decide))).trans (State.get_set_same ..))
  case fallback =>
    rw [State.named, State.get_set_other _ _ (.inl (by decide)), State.get_set_same]
    cases fallback <;> rfl
  case version => exact (State.get_set_same ..).trans (Nat.mod_eq_of_lt version.isLt)

theorem starts_sameRegs (b : BootIn) (s : State) (r : Option (Nat × Bool)) : SameRegs startRegs s (s.starts b r) := by
  cases r with
  | none => exact ((SameRegs.refl _ s).set (by decide) 0 1).set (by decide) 0 1
  | some r =>
    exact ((named_sameRegs s r.1 r.2 _).mono (by simp [startRegs])).trans
      ((firmware_keepsName s r.1 r.2 _).mono (by decide))

theorem bootKept_starts (b : BootIn) (s : State) (r : Option (Nat × Bool)) : (s.starts b r).bootKept = s.bootKept := by
  cases r with
  | none => exact bootKept_romRecovery s
  | some r => exact (bootKept_summaryDump _).trans (bootKept_loadConfig _)

/-! ### Ports (R31) -/

/-- One port leaves DISABLED. -/
def State.openPort (s : State) (p : Nat) : State := if s.get .LNK_CTRL_enable p = 1 then s.detect p else s

theorem openPorts_eq (s : State) : s.openPorts = (List.range 36).foldl State.openPort s := rfl

/-- Of the registers, DETECT writes the training state alone. -/
theorem detect_get (s : State) (p : Nat) (f : RegField) (i : Nat) :
    (s.detect p).get f i = (s.set .LNK_STATUS_state p Train.detect.code).get f i := by
  unfold State.detect State.enter State.modPort
  rw [State.setPort_get, State.get_set, State.get_set, State.setPort_get]

theorem openPort_sameRegs (s : State) (p : Nat) : SameRegs [.LNK_STATUS_state] s (s.openPort p) := by
  unfold State.openPort
  split
  · exact fun f i hf => (detect_get s p f i).trans ((SameRegs.refl _ s).set List.mem_cons_self p _ f i hf)
  · exact SameRegs.refl _ s

theorem bootKept_openPort (s : State) (p : Nat) : (s.openPort p).bootKept = s.bootKept := by
  unfold State.openPort
  split
  · exact bootKept_detect s p
  · rfl

/-- The training state of a port that enters DETECT is DETECT, and no other port's changes. -/
theorem detect_train (s : State) (p q : Nat) : (s.detect p).train q = if q = p then .detect else s.train q := by
  unfold State.train
  rw [detect_get, State.get_set]
  by_cases hq : q = p
  · rw [if_pos ⟨rfl, hq⟩, if_pos hq]; rfl
  · rw [if_neg (fun h => hq h.2), if_neg hq]

/-- Every enabled port of the list is in DETECT once the list has been gone through. -/
theorem foldl_openPort_train {ps : List Nat} {s : State} {p : Nat} (hen : s.get .LNK_CTRL_enable p = 1)
    (h : p ∈ ps ∨ s.train p = .detect) : (ps.foldl State.openPort s).train p = .detect := by
  induction ps generalizing s with
  | nil => exact h.resolve_left List.not_mem_nil
  | cons q ps ih =>
    have hstep : p = q ∨ s.train p = .detect → (s.openPort q).train p = .detect := by
      intro hpq
      unfold State.openPort
      split
      · rw [detect_train]
        split
        · rfl
        · next hne => exact hpq.resolve_left hne
      · next hoff =>
        rcases hpq with rfl | htrain
        · exact absurd hen hoff
        · exact htrain
    refine ih ((openPort_sameRegs s q _ _ (by decide)).trans hen) ?_
    rcases h with hmem | htrain
    · exact (List.mem_cons.1 hmem).elim (fun hp => .inr (hstep (.inl hp))) .inl
    · exact .inr (hstep (.inr htrain))

/-! ### Hub ready (R29) -/

theorem strapped_sameRegs (b : BootIn) (s : State) : SameRegs [.MGT_BOOT_preferred] s (s.strapped b) :=
  SameRegs.set (t := { s with deviceId := b.straps.toNat }) (fun _ _ _ => rfl) List.mem_cons_self 0 _

theorem strapped_preferred (b : BootIn) (s : State) {d : Directory} (hd : directory s.mgmt.dirs = some d) :
    (s.strapped b).get .MGT_BOOT_preferred 0 = d.preferred % 2 := by
  rw [State.strapped, State.get_set_same, hd]
  rfl

/-- The end of a boot. -/
def readyRegs : List RegField := [.MGT_BOOT_boot_ms, .LNK_STATUS_state, .HST_STATUS_hub_ready]

section
variable (b : BootIn) (s : State)

theorem openPorts_sameRegs : SameRegs [.LNK_STATUS_state] s s.openPorts := by
  rw [openPorts_eq]
  exact SameRegs.foldl openPort_sameRegs _ s

theorem bootKept_openPorts : s.openPorts.bootKept = s.bootKept := by
  rw [openPorts_eq]
  exact foldl_keeps State.bootKept bootKept_openPort _ s

theorem markReady_sameRegs : SameRegs [.HST_STATUS_hub_ready] s s.markReady := (SameRegs.refl _ s).set List.mem_cons_self 0 1

theorem markReady_hubReady : s.markReady.get .HST_STATUS_hub_ready 0 = 1 :=
  State.get_set_same s .HST_STATUS_hub_ready 0 1

theorem readied_sameRegs : SameRegs readyRegs s (s.readied b) :=
  ((SameRegs.refl _ s).set (by decide) 0 b.ms.toNat).trans
    (((openPorts_sameRegs _).mono (by decide)).trans ((markReady_sameRegs _).mono (by decide)))

theorem readied_hubReady : (s.readied b).get .HST_STATUS_hub_ready 0 = 1 := markReady_hubReady _

theorem readied_bootMs : (s.readied b).get .MGT_BOOT_boot_ms 0 = b.ms.toNat :=
  calc (s.readied b).get .MGT_BOOT_boot_ms 0
      = (s.set .MGT_BOOT_boot_ms 0 b.ms.toNat).openPorts.get .MGT_BOOT_boot_ms 0 := markReady_sameRegs _ _ _ (by decide)
    _ = (s.set .MGT_BOOT_boot_ms 0 b.ms.toNat).get .MGT_BOOT_boot_ms 0 := openPorts_sameRegs _ _ _ (by decide)
    _ = b.ms.toNat := (State.get_set_same ..).trans (Nat.mod_eq_of_lt b.ms.isLt)

theorem readied_train {p : Nat} (hp : p < 36) (hen : s.get .LNK_CTRL_enable p = 1) : (s.readied b).train p = .detect := by
  have hopen : (s.set .MGT_BOOT_boot_ms 0 b.ms.toNat).openPorts.train p = .detect := by
    rw [openPorts_eq]
    exact foldl_openPort_train ((State.get_set_other _ _ (.inl (by decide))).trans hen) (.inl (List.mem_range.2 hp))
  exact (congrArg Train.ofCode (markReady_sameRegs _ _ _ (by decide))).trans hopen

theorem markReady_kept : s.markReady.bootKept = s.bootKept ∧ s.markReady.readyTick = some s.time.tick ∧ s.markReady.pcie = s.perst :=
  ⟨rfl, rfl, rfl⟩

theorem readied_kept : (s.readied b).bootKept = s.bootKept ∧ (s.readied b).readyTick = some s.time.tick
    ∧ (s.readied b).pcie = s.perst := by
  have hports : (s.set .MGT_BOOT_boot_ms 0 b.ms.toNat).openPorts.bootKept = s.bootKept := bootKept_openPorts _
  obtain ⟨hkept, htick, hpcie⟩ := markReady_kept (s.set .MGT_BOOT_boot_ms 0 b.ms.toNat).openPorts
  have hfields := hports
  simp only [State.bootKept, Prod.mk.injEq] at hfields
  obtain ⟨-, hperst, -, htime, -⟩ := hfields
  exact ⟨hkept.trans hports, htick.trans (by rw [htime]), hpcie.trans hperst⟩

end

/-- The boot up to the ports. -/
def State.booted (b : BootIn) (s : State) : State := (s.strapped b).starts b (s.bootChoice b)

theorem booted_sameRegs (b : BootIn) (s : State) : SameRegs (.MGT_BOOT_preferred :: startRegs) s (s.booted b) :=
  ((strapped_sameRegs b s).mono (by simp)).trans ((starts_sameRegs b _ _).mono (List.subset_cons_self _ _))

theorem booted_bootKept (b : BootIn) (s : State) :
    (s.booted b).bootKept = (s.powered, s.perst, b.straps.toNat, s.time, s.tiles) := bootKept_starts b (s.strapped b) _

theorem booted_preferred (b : BootIn) (s : State) {d : Directory} (hd : directory s.mgmt.dirs = some d) :
    (s.booted b).get .MGT_BOOT_preferred 0 = d.preferred % 2 :=
  (starts_sameRegs b _ _ _ _ (by decide)).trans (strapped_preferred b s hd)

theorem booted_recovery (b : BootIn) (s : State) (hr : s.bootChoice b = none) :
    (s.booted b).get .MGT_STATUS_rom_recovery 0 = 1 ∧ (s.booted b).get .HST_FEAT_SUP_sup 0 = 1 := by
  rw [State.booted, hr]
  exact ⟨(State.get_set_other _ _ (.inl (by decide))).trans (State.get_set_same ..), State.get_set_same ..⟩

theorem booted_image (b : BootIn) (s : State) {i : Nat} {f : Bool} (hr : s.bootChoice b = some (i, f)) :
    (s.booted b).get .MGT_BOOT_image 0 = i % 2 ∧ (s.booted b).get .MGT_BOOT_fallback 0 = ofBool f
      ∧ (s.booted b).get .MGT_FW_VERSION_version 0 = (bootCheck b i).version.toNat
      ∧ (s.booted b).get .MGT_STATUS_rom_recovery 0 = s.get .MGT_STATUS_rom_recovery 0 := by
  have hfirmware : s.booted b = (s.strapped b).firmware i f (bootCheck b i).version.toNat := by rw [State.booted, hr]; rfl
  obtain ⟨himage, hfallback, hversion⟩ := firmware_name (s.strapped b) i f (bootCheck b i).version
  rw [hfirmware]
  exact ⟨himage, hfallback, hversion, (firmware_keepsName _ _ _ _ _ _ (by decide)).trans
    ((named_sameRegs _ _ _ _ _ _ (by decide)).trans (strapped_sameRegs b s _ _ (by decide)))⟩

/-- What a boot does beside registers: the straps, the tick of hub ready, and PCIe by the level of PERST# (R28 to R30). -/
theorem hubReady_kept (b : BootIn) (s : State) :
    (hubReady b s).powered = s.powered ∧ (hubReady b s).deviceId = b.straps.toNat ∧ (hubReady b s).tiles = s.tiles
      ∧ (hubReady b s).readyTick = some s.time.tick ∧ (hubReady b s).pcie = s.perst := by
  rw [show hubReady b s = (s.booted b).readied b from hubReady_eq b s]
  obtain ⟨hready, htick, hpcie⟩ := readied_kept b (s.booted b)
  have hbooted := booted_bootKept b s
  rw [hbooted] at hready
  simp only [State.bootKept, Prod.mk.injEq] at hbooted hready
  obtain ⟨-, hperst, -, htime, -⟩ := hbooted
  obtain ⟨hpow, -, hid, -, htiles⟩ := hready
  exact ⟨hpow, hid, htiles, htick.trans (by rw [htime]), hpcie.trans hperst⟩

/-- Settles O8: straps, image, ports and hub ready in turn; each step writes its own registers and leaves those of the others
alone. -/
theorem hubReadyBoots : Obligations.HubReadyBoots := by
  unfold Obligations.HubReadyBoots
  intro b s hs hdown
  refine State.runs_of_occurs (g := s.powered && s.get .HST_STATUS_hub_ready 0 = 0) (f := hubReady b) rfl (by simp [hs, hdown]) ?_
  obtain ⟨hpow, hid, htiles, htick, hpcie⟩ := hubReady_kept b s.begin
  rw [show hubReady b s.begin = (s.begin.booted b).readied b from hubReady_eq b s.begin] at hpow hid htiles htick hpcie ⊢
  have hbooted := booted_sameRegs b s.begin
  have hready := readied_sameRegs b (s.begin.booted b)
  have hhub := readied_hubReady b (s.begin.booted b)
  refine ⟨hhub, ?up, htick, hid, hpcie, htiles, readied_bootMs b _,
    fun d hd => (hready _ _ (by decide)).trans (booted_preferred b s.begin hd),
    fun p hp hen => readied_train b _ hp ((hbooted _ _ (by decide)).trans hen),
    fun p _ => (hready.fenced (by decide) (by decide) p).trans (hbooted.fenced (by decide) (by decide) p),
    fun r hr => ⟨fun hnone => ?rom, fun i f hsome => ?image⟩⟩
  case up => rw [State.hubUp, hpow, hhub]; exact Bool.and_eq_true_iff.2 ⟨hs, rfl⟩
  case rom =>
    obtain ⟨hrecovery, hfeature⟩ := booted_recovery b s.begin (hr.symm.trans hnone)
    exact ⟨(hready _ _ (by decide)).trans hrecovery, (hready _ _ (by decide)).trans hfeature⟩
  case image =>
    obtain ⟨himage, hfallback, hversion, hrecovery⟩ := booted_image b s.begin (hr.symm.trans hsome)
    exact ⟨(hready _ _ (by decide)).trans himage, (hready _ _ (by decide)).trans hfallback,
      (hready _ _ (by decide)).trans hversion, (hready _ _ (by decide)).trans hrecovery⟩

end Sys2Proof.Machine

namespace Sys2Proof.Machine

/-! ### The time state and depth -/

/-- Whether a plan is loaded is read from its state alone. -/
theorem SameRegs.planLoaded {fs : List RegField} {s t : State} (h : SameRegs fs s t) (hf : .PLN_STATUS_state ∉ fs) :
    t.planLoaded = s.planLoaded := by
  unfold State.planLoaded State.planState
  rw [h _ _ hf]

theorem setTime_timeState (s : State) (t : TimeState) (depth : Nat) : (s.setTime t depth).timeState = t := by
  unfold State.timeState State.setTime
  rw [State.get_set_other _ _ (.inl (by decide)), State.get_set_same]
  cases t <;> rfl

theorem setTime_depth (s : State) (t : TimeState) (depth : Nat) :
    (s.setTime t depth).get .BEAT_STATUS_depth 0 = if t = .locked then min depth 15 else 15 := by
  unfold State.setTime
  rw [State.get_set_same]
  exact Nat.mod_eq_of_lt (show _ < 16 by split <;> omega)

theorem setTime_sameRegs (s : State) (t : TimeState) (depth : Nat) :
    SameRegs [.BEAT_STATUS_state, .BEAT_STATUS_depth] s (s.setTime t depth) :=
  ((SameRegs.refl _ s).set (by decide) 0 _).set (by decide) 0 _

@[simp] theorem apart_setTime (s : State) (t : TimeState) (depth : Nat) : (s.setTime t depth).apart = s.apart := by
  simp [State.setTime]

/-! ### A new time base -/

theorem time_of_apart {s t : State} (h : t.apart = s.apart) : t.time = s.time := by injection h

theorem raised_of_apart {s t : State} (h : t.apart = s.apart) : t.raised = s.raised := by injection h

theorem SameRegs.withTime {fs : List RegField} {s t : State} (h : SameRegs fs s t) (x : TimeBase) :
    SameRegs fs s { t with time := x } := h

theorem apart_withTime {s t : State} (h : t.apart = s.apart) (x : TimeBase) :
    State.apart { t with time := x } = State.apart { s with time := x } := congrArg (fun u => { u with time := x }) h

/-- A new time base besides registers leaves everything else alone. -/
theorem kept_of_withTime {s t : State} {x : TimeBase} (h : t.apart = State.apart { s with time := x }) :
    t.time = x ∧ t.plan = s.plan ∧ t.ports = s.ports ∧ SameBytes s t ∧ SameTiles s t := by
  obtain ⟨htime, hplan, hports, -⟩ := SameEngines.of_apart h
  have hfield : t.field = s.field := (field_of_apart h).trans rfl
  exact ⟨htime, hplan, hports, SameBytes.of_field hfield, SameTiles.of_field hfield⟩

/-! ### REFCLK_POD (R46) -/

/-- The status bits of a lost reference, and HOLDOVER. -/
def State.noReference (s : State) : State :=
  ((s.set .BEAT_STATUS_ref_lost 0 1).set .BEAT_STATUS_ref_present 0 0).setTime .holdover 15

theorem noReference_sameRegs (s : State) :
    SameRegs [.BEAT_STATUS_ref_lost, .BEAT_STATUS_ref_present, .BEAT_STATUS_state, .BEAT_STATUS_depth] s s.noReference :=
  SameRegs.trans (((SameRegs.refl _ s).set (by decide) 0 1).set (by decide) 0 0)
    ((setTime_sameRegs _ .holdover 15).mono (by decide))

theorem noReference_status (s : State) :
    s.noReference.get .BEAT_STATUS_ref_lost 0 = 1 ∧ s.noReference.get .BEAT_STATUS_ref_present 0 = 0
      ∧ s.noReference.timeState = .holdover ∧ s.noReference.get .BEAT_STATUS_depth 0 = 15 := by
  have hkept := setTime_sameRegs ((s.set .BEAT_STATUS_ref_lost 0 1).set .BEAT_STATUS_ref_present 0 0) .holdover 15
  refine ⟨(hkept _ _ (by decide)).trans ?_, (hkept _ _ (by decide)).trans ?_, setTime_timeState _ .holdover 15,
    setTime_depth _ .holdover 15⟩
  · rw [State.get_set_other _ _ (.inl (by decide)), State.get_set_same]; rfl
  · rw [State.get_set_same]; rfl

@[simp] theorem apart_noReference (s : State) : s.noReference.apart = s.apart := by simp [State.noReference]

/-- The counter on the standby oscillator, what is left of a slew given up. -/
def State.onStandby (s : State) : State :=
  { s.noReference with time := { s.noReference.time with standby := true, slewLeft := 0, slewNow := 0 } }

/-- A loss of the reference is fatal under a plan, and the same in all else without one. -/
theorem refLost_eq (s : State) :
    refLost s = { s.onStandby with
      raised := if s.planLoaded then s.onStandby.raised ++ [⟨.refLost, 0⟩] else s.onStandby.raised } := by
  have hplan : s.onStandby.planLoaded = s.planLoaded := ((noReference_sameRegs s).withTime _).planLoaded (by decide)
  have hraise : refLost s = if s.onStandby.planLoaded then s.onStandby.raiseFatal .refLost 0 else s.onStandby := rfl
  rw [hraise, hplan]
  generalize s.onStandby = u
  split <;> rfl

theorem onStandby_apart (s : State) :
    s.onStandby.apart = State.apart { s with time := { s.time with standby := true, slewLeft := 0, slewNow := 0 } } := by
  unfold State.onStandby
  rw [apart_withTime (apart_noReference s), time_of_apart (apart_noReference s)]

/-- The reference is present again. -/
def State.refPresent (s : State) : State :=
  { s.set .BEAT_STATUS_ref_present 0 1 with time := { s.time with standby := false } }

theorem refPresent_sameRegs (s : State) : SameRegs [.BEAT_STATUS_ref_present] s s.refPresent :=
  ((SameRegs.refl _ s).set (List.mem_singleton_self _) 0 1).withTime _

theorem refPresent_present (s : State) : s.refPresent.get .BEAT_STATUS_ref_present 0 = 1 :=
  State.get_set_same s .BEAT_STATUS_ref_present 0 1

theorem refPresent_apart (s : State) :
    s.refPresent.apart = State.apart { s with time := { s.time with standby := false } } := apart_withTime (apart_set s _ 0 1) _

/-- At its return the time state stays as it is or takes a new one. -/
theorem refReturn_cases (s : State) : refReturn s = s.refPresent ∨ ∃ t depth, refReturn s = s.refPresent.setTime t depth := by
  have heq : refReturn s = if s.refPresent.get .BEAT_CTRL_time_root 0 = 1 then s.refPresent.setTime .locked 0
    else if s.refPresent.time.lastParent.isNone then s.refPresent.setTime .free 15 else s.refPresent := rfl
  rw [heq]
  split
  · exact .inr ⟨.locked, 0, rfl⟩
  · split
    · exact .inr ⟨.free, 15, rfl⟩
    · exact .inl rfl

theorem refReturn_sameRegs (s : State) :
    SameRegs [.BEAT_STATUS_state, .BEAT_STATUS_depth] s.refPresent (refReturn s) := by
  rcases refReturn_cases s with h | ⟨t, depth, h⟩ <;> rw [h]
  · exact SameRegs.refl _ _
  · exact setTime_sameRegs _ t depth

theorem refReturn_apart (s : State) : (refReturn s).apart = s.refPresent.apart := by
  rcases refReturn_cases s with h | ⟨t, depth, h⟩ <;> rw [h]
  exact apart_setTime _ t depth

theorem refReturn_root {s : State} (h : s.get .BEAT_CTRL_time_root 0 = 1) : refReturn s = s.refPresent.setTime .locked 0 :=
  if_pos ((refPresent_sameRegs s _ _ (by decide)).trans h)

/-! ### HOLDOVER (R49) -/

/-- The parent is lost. -/
def State.parentLost (s : State) : State := (s.set .BEAT_STATUS_parent_lost 0 1).setTime .holdover 15

theorem parentLost_sameRegs (s : State) :
    SameRegs [.BEAT_STATUS_parent_lost, .BEAT_STATUS_state, .BEAT_STATUS_depth] s s.parentLost :=
  SameRegs.trans ((SameRegs.refl _ s).set (by decide) 0 1) ((setTime_sameRegs _ .holdover 15).mono (by decide))

theorem parentLost_status (s : State) : s.parentLost.timeState = .holdover ∧ s.parentLost.get .BEAT_STATUS_parent_lost 0 = 1
    ∧ s.parentLost.get .BEAT_STATUS_depth 0 = 15 :=
  ⟨setTime_timeState _ .holdover 15, (setTime_sameRegs _ .holdover 15 _ _ (by decide)).trans
    (State.get_set_same s .BEAT_STATUS_parent_lost 0 1), setTime_depth _ .holdover 15⟩

@[simp] theorem apart_parentLost (s : State) : s.parentLost.apart = s.apart := by simp [State.parentLost]

theorem holdover_eq (s : State) :
    holdover s = { s.parentLost with time := { s.parentLost.time with slewLeft := 0, slewNow := 0, goodRun := 0 } } := rfl

theorem holdover_apart (s : State) :
    (holdover s).apart = State.apart { s with time := { s.time with slewLeft := 0, slewNow := 0, goodRun := 0 } } := by
  rw [holdover_eq, apart_withTime (apart_parentLost s), time_of_apart (apart_parentLost s)]

theorem parentSilent_of_lastParent {s : State} {k : Nat} (hk : s.time.lastParent = some k) (hsilent : k + 64 ≤ s.time.tick) :
    parentSilent s = true := by
  unfold parentSilent
  rw [hk]
  exact decide_eq_true hsilent

/-- Settles O14: each row sets the time state and depth together and changes nothing beside its own status bits and the time base;
the loss of the reference is the one that may be fatal. -/
theorem referenceAndHoldover : Obligations.ReferenceAndHoldover := by
  unfold Obligations.ReferenceAndHoldover
  refine ⟨fun s hs hpresent => ?lost, fun s hs hstandby => ?returns, fun s k hs hstate hroot hk hsilent => ?silent⟩
  case lost =>
    refine State.runs_of_occurs (g := s.powered && !s.time.standby) (f := refLost) rfl (by simp [hs, hpresent]) ?_
    obtain ⟨hlost, href, hstate, hdepth⟩ := noReference_status s.begin
    have hapart := onStandby_apart s.begin
    obtain ⟨htime, hplan, hports, hbytes, htiles⟩ := kept_of_withTime hapart
    have hraised := raised_of_apart hapart
    rw [refLost_eq]
    exact ⟨hlost, href, hstate, hdepth, by rw [htime], by rw [htime]; rfl, by rw [htime], by rw [hraised]; rfl,
      noReference_sameRegs s.begin, hplan, hports, hbytes, htiles⟩
  case returns =>
    refine State.runs_of_occurs (g := s.powered && s.time.standby) (f := refReturn) rfl (by simp [hs, hstandby]) ?_
    obtain ⟨htime, hplan, hports, hbytes, htiles⟩ :=
      kept_of_withTime ((refReturn_apart s.begin).trans (refPresent_apart s.begin))
    have hregs := refReturn_sameRegs s.begin
    refine ⟨by rw [htime], (hregs _ _ (by decide)).trans (refPresent_present s.begin), by rw [htime]; rfl, fun hroot => ?root,
      ((refPresent_sameRegs s.begin).mono (by decide)).trans (hregs.mono (by decide)), hplan, hports, hbytes, htiles⟩
    case root =>
      rw [refReturn_root (s := s.begin) hroot]
      exact ⟨setTime_timeState _ .locked 0, setTime_depth _ .locked 0⟩
  case silent =>
    refine State.runs_of_occurs (g := s.powered && (s.timeState = .acquire || s.timeState = .locked)
      && s.get .BEAT_CTRL_time_root 0 = 0 && parentSilent s) (f := holdover) rfl
      (by simp [hs, hstate, hroot, parentSilent_of_lastParent hk hsilent]) ?_
    obtain ⟨hstate, hlost, hdepth⟩ := parentLost_status s.begin
    obtain ⟨htime, hplan, hports, hbytes, htiles⟩ := kept_of_withTime (holdover_apart s.begin)
    exact ⟨hstate, hlost, hdepth, by rw [htime]; rfl, by rw [htime], parentLost_sameRegs s.begin, hplan, hports, hbytes, htiles⟩

end Sys2Proof.Machine

namespace Sys2Proof.Machine

/-! ### BEAT_CTRL (R73) -/

/-- The host's writes are refused and counted (R406). -/
theorem hostDenied_denies (s : State) : s.hostDenied.get .MGT_STATUS_host_denied 0 = 1
    ∧ SameRegs [.MGT_STATUS_host_denied, .MGT_ERR_access_denied] s s.hostDenied ∧ s.hostDenied.time = s.time :=
  ⟨(State.get_bump_other _ _ (.inl (by decide))).trans (State.get_set_same s .MGT_STATUS_host_denied 0 1),
    ((SameRegs.refl _ s).set (by decide) 0 1).bump (by decide) 0 1, rfl⟩

/-- limit_lock set where the value written has its bit. -/
def State.lockBy (s : State) (v : Nat) : State := if bit v 16 then s.set .BEAT_CTRL_limit_lock 0 1 else s

theorem lockBy_sameRegs (s : State) (v : Nat) : SameRegs [.BEAT_CTRL_limit_lock] s (s.lockBy v) := by
  unfold State.lockBy
  split
  · exact (SameRegs.refl _ s).set (List.mem_singleton_self _) 0 1
  · exact SameRegs.refl _ s

theorem lockBy_locks (s : State) {v : Nat} (h : bit v 16 = true) : (s.lockBy v).get .BEAT_CTRL_limit_lock 0 = 1 := by
  rw [State.lockBy, if_pos h]
  exact State.get_set_same s .BEAT_CTRL_limit_lock 0 1

@[simp] theorem apart_lockBy (s : State) (v : Nat) : (s.lockBy v).apart = s.apart := by
  unfold State.lockBy
  split
  · exact apart_set ..
  · rfl

/-- The tree fields written. -/
def State.writeTree (root port valid : Nat) (s : State) : State :=
  ((s.set .BEAT_CTRL_time_root 0 root).set .BEAT_CTRL_parent_port 0 port).set .BEAT_CTRL_parent_valid 0 valid

theorem writeTree_sameRegs (root port valid : Nat) (s : State) :
    SameRegs [.BEAT_CTRL_time_root, .BEAT_CTRL_parent_port, .BEAT_CTRL_parent_valid] s (s.writeTree root port valid) :=
  (((SameRegs.refl _ s).set (by decide) 0 root).set (by decide) 0 port).set (by decide) 0 valid

theorem writeTree_fields (root port valid : Nat) (s : State) :
    (s.writeTree root port valid).get .BEAT_CTRL_time_root 0 = root % 2
      ∧ (s.writeTree root port valid).get .BEAT_CTRL_parent_port 0 = port % 2 ^ 6
      ∧ (s.writeTree root port valid).get .BEAT_CTRL_parent_valid 0 = valid % 2 := by
  unfold State.writeTree
  refine ⟨?root, ?port, State.get_set_same ..⟩
  case root =>
    rw [State.get_set_other _ _ (.inl (by decide)), State.get_set_other _ _ (.inl (by decide)), State.get_set_same]
    rfl
  case port =>
    rw [State.get_set_other _ _ (.inl (by decide)), State.get_set_same]
    rfl

@[simp] theorem apart_writeTree (root port valid : Nat) (s : State) : (s.writeTree root port valid).apart = s.apart := by
  simp [State.writeTree]

/-- A new place in the tree: the correction towards the old parent is given up. -/
def State.tree (root port valid : Nat) (s : State) : State :=
  { s.writeTree root port valid with
    time := { (s.writeTree root port valid).time with
              slewLeft := 0, slewNow := 0, goodRun := 0, goodNow := false, lastParent := none } }

theorem tree_apart (root port valid : Nat) (s : State) : (s.tree root port valid).apart = State.apart { s with
    time := { s.time with slewLeft := 0, slewNow := 0, goodRun := 0, goodNow := false, lastParent := none } } := by
  unfold State.tree
  rw [apart_withTime (apart_writeTree root port valid s), time_of_apart (apart_writeTree root port valid s)]

/-- The time state in which a module at its new place in the tree starts. -/
def State.treeState (root : Nat) (s : State) : TimeState :=
  if s.time.standby then .holdover else if root = 1 then .locked else .free

/-- The depth of a new place is 0 on a root that is LOCKED and 15 elsewhere. -/
theorem setTree_eq (root port valid : Nat) (s : State) :
    setTree root port valid s = (s.tree root port valid).setTime (s.treeState root) 0 := by
  have hstandby : (s.tree root port valid).time.standby = s.time.standby := by rw [time_of_apart (tree_apart root port valid s)]
  have heq : setTree root port valid s = if (s.tree root port valid).time.standby then (s.tree root port valid).setTime .holdover 15
    else if root = 1 then (s.tree root port valid).setTime .locked 0 else (s.tree root port valid).setTime .free 15 := rfl
  rw [heq, hstandby, State.treeState]
  generalize s.tree root port valid = u
  split
  · rfl
  · split <;> rfl

theorem treeState_locked_iff (s : State) (root : Nat) : s.treeState root = .locked ↔ s.time.standby = false ∧ root = 1 := by
  unfold State.treeState
  cases s.time.standby <;> by_cases hroot : root = 1 <;> simp [hroot]

theorem setTree_time (root port valid : Nat) (s : State) : (setTree root port valid s).time = { s.time with
    slewLeft := 0, slewNow := 0, goodRun := 0, goodNow := false, lastParent := none } := by
  rw [setTree_eq, time_of_apart (apart_setTime ..), time_of_apart (tree_apart root port valid s)]

theorem setTree_status (root port valid : Nat) (s : State) :
    (setTree root port valid s).timeState = (if s.time.standby then .holdover else if root = 1 then .locked else .free)
      ∧ (setTree root port valid s).get .BEAT_STATUS_depth 0 = if s.time.standby = false ∧ root = 1 then 0 else 15 := by
  rw [setTree_eq, setTime_timeState, setTime_depth]
  exact ⟨rfl, if_congr (treeState_locked_iff s root) rfl rfl⟩

theorem setTree_sameRegs (root port valid : Nat) (s : State) :
    SameRegs [.BEAT_CTRL_time_root, .BEAT_CTRL_parent_port, .BEAT_CTRL_parent_valid, .BEAT_STATUS_state, .BEAT_STATUS_depth] s
      (setTree root port valid s) := by
  rw [setTree_eq]
  exact (((writeTree_sameRegs root port valid s).withTime _).mono (by decide)).trans ((setTime_sameRegs _ _ 0).mono (by decide))

theorem setTree_fields (root port valid : Nat) (s : State) :
    (setTree root port valid s).get .BEAT_CTRL_time_root 0 = root % 2
      ∧ (setTree root port valid s).get .BEAT_CTRL_parent_port 0 = port % 2 ^ 6
      ∧ (setTree root port valid s).get .BEAT_CTRL_parent_valid 0 = valid % 2 := by
  have hstatus := setTime_sameRegs (s.tree root port valid) (s.treeState root) 0
  rw [setTree_eq, hstatus _ _ (by decide), hstatus _ _ (by decide), hstatus _ _ (by decide)]
  exact writeTree_fields root port valid s

/-- A write of `v` that moves the module in the tree, limit_lock set on the way where it is asked for. -/
def State.movedInTree (s : State) (v : Nat) : State := setTree (bits v 0 0) (bits v 6 1) (bits v 7 7) (s.lockBy v)

theorem movedInTree_fields (s : State) (v : Nat) :
    (s.movedInTree v).get .BEAT_CTRL_time_root 0 = bits v 0 0 ∧ (s.movedInTree v).get .BEAT_CTRL_parent_port 0 = bits v 6 1
      ∧ (s.movedInTree v).get .BEAT_CTRL_parent_valid 0 = bits v 7 7 := by
  obtain ⟨hroot, hport, hvalid⟩ := setTree_fields (bits v 0 0) (bits v 6 1) (bits v 7 7) (s.lockBy v)
  exact ⟨hroot.trans (Nat.mod_mod ..), hport.trans (Nat.mod_mod ..), hvalid.trans (Nat.mod_mod ..)⟩

theorem movedInTree_locks (s : State) {v : Nat} (h : bit v 16 = true) : (s.movedInTree v).get .BEAT_CTRL_limit_lock 0 = 1 :=
  (setTree_sameRegs _ _ _ _ _ _ (by decide)).trans (lockBy_locks s h)

theorem movedInTree_status (s : State) (v : Nat) :
    (s.movedInTree v).timeState = (if s.time.standby then .holdover else if bits v 0 0 = 1 then .locked else .free)
      ∧ (s.movedInTree v).get .BEAT_STATUS_depth 0 = if s.time.standby = false ∧ bits v 0 0 = 1 then 0 else 15 := by
  rw [← time_of_apart (apart_lockBy s v)]
  exact setTree_status _ _ _ _

theorem movedInTree_time (s : State) (v : Nat) : (s.movedInTree v).time = { s.time with
    slewLeft := 0, slewNow := 0, goodRun := 0, goodNow := false, lastParent := none } := by
  rw [State.movedInTree, setTree_time, time_of_apart (apart_lockBy s v)]

theorem movedInTree_sameRegs (s : State) (v : Nat) :
    SameRegs [.BEAT_CTRL_time_root, .BEAT_CTRL_parent_port, .BEAT_CTRL_parent_valid, .BEAT_CTRL_limit_lock, .BEAT_STATUS_state,
      .BEAT_STATUS_depth] s (s.movedInTree v) :=
  ((lockBy_sameRegs s v).mono (by decide)).trans ((setTree_sameRegs _ _ _ _).mono (by decide))

/-- The value `v` names another place in the time tree than the registers hold. -/
def State.movesTree (s : State) (v : Nat) : Prop :=
  s.get .BEAT_CTRL_time_root 0 ≠ bits v 0 0 ∨ s.get .BEAT_CTRL_parent_port 0 ≠ bits v 6 1
    ∨ s.get .BEAT_CTRL_parent_valid 0 ≠ bits v 7 7

/-- A write of the management plane that moves the module in the tree is refused under a plan, and done without one. -/
theorem beatCtrlWrite_moves {a : Agent} (ha : a ≠ .host) {v : Nat} {s : State} (h : s.movesTree v) :
    beatCtrlWrite a v s = if s.planLoaded then (s.lockBy v).set .BEAT_STATUS_ctrl_reject 0 1 else s.movedInTree v := by
  have hregs := lockBy_sameRegs s v
  have hmoves : ¬((s.lockBy v).get .BEAT_CTRL_time_root 0 = bits v 0 0 && (s.lockBy v).get .BEAT_CTRL_parent_port 0 = bits v 6 1
      && (s.lockBy v).get .BEAT_CTRL_parent_valid 0 = bits v 7 7) = true := by
    rw [hregs _ _ (by decide), hregs _ _ (by decide), hregs _ _ (by decide)]
    rcases h with h | h | h <;> simp [h]
  rw [beatCtrlWrite, if_neg ha, ← hregs.planLoaded (by decide)]
  exact if_neg hmoves

/-- A write of BEAT_CTRL that reaches the hub. -/
theorem State.runs_beatCtrlWrite {a : Agent} {v : Word} {s : State} {P : State → Prop} (hup : s.agentUp a = true)
    (h : P (beatCtrlWrite a v.toNat s.begin)) : s.Runs (.beatCtrlWrite a v) P :=
  State.runs_of_occurs (g := s.agentUp a) (f := beatCtrlWrite a v.toNat) rfl hup h

theorem State.runs_limitLock {a : Agent} {s : State} {P : State → Prop} (hup : s.agentUp a = true)
    (h : P (if a = .host then s.begin.hostDenied else s.begin.set .BEAT_CTRL_limit_lock 0 1)) : s.Runs (.limitLock a) P :=
  State.runs_of_occurs (g := s.agentUp a)
    (f := fun s => if a = .host then s.hostDenied else s.set .BEAT_CTRL_limit_lock 0 1) rfl hup h

/-- Settles O16: the host's writes are denied; the management plane's come down to limit_lock and, where the tree changes, to a
refusal under a plan or a move in the tree without one. -/
theorem timeTreeWrites : Obligations.TimeTreeWrites := by
  unfold Obligations.TimeTreeWrites
  refine ⟨fun v s hup => ⟨?hostWrite, ?hostLock⟩,
    fun a v s hup ha => ⟨?lock, fun hmoves => ⟨fun hplan => ?refused, fun hplan => ?moved⟩⟩⟩
  case hostWrite => exact State.runs_beatCtrlWrite hup (hostDenied_denies s.begin)
  case hostLock => exact State.runs_limitLock hup (hostDenied_denies s.begin)
  case lock =>
    refine State.runs_limitLock hup ?_
    rw [if_neg ha]
    exact ⟨State.get_set_same s.begin .BEAT_CTRL_limit_lock 0 1, (SameRegs.refl _ s).set (List.mem_singleton_self _) 0 1, rfl, rfl⟩
  case refused =>
    refine State.runs_beatCtrlWrite hup ?_
    rw [beatCtrlWrite_moves (s := s.begin) ha hmoves, if_pos (show s.begin.planLoaded = true from hplan)]
    exact ⟨State.get_set_same _ .BEAT_STATUS_ctrl_reject 0 1,
      ((lockBy_sameRegs s.begin v.toNat).mono (by decide)).set (by decide) 0 1, time_of_apart (apart_lockBy s.begin v.toNat)⟩
  case moved =>
    refine State.runs_beatCtrlWrite hup ?_
    rw [beatCtrlWrite_moves (s := s.begin) ha hmoves, if_neg (show ¬s.begin.planLoaded = true from Bool.eq_false_iff.1 hplan)]
    obtain ⟨hroot, hport, hvalid⟩ := movedInTree_fields s.begin v.toNat
    obtain ⟨hstate, hdepth⟩ := movedInTree_status s.begin v.toNat
    have htime := movedInTree_time s.begin v.toNat
    exact ⟨hroot, hport, hvalid, movedInTree_locks s.begin, hstate, hdepth, by rw [htime], by rw [htime], by rw [htime]; rfl,
      movedInTree_sameRegs s.begin v.toNat⟩

end Sys2Proof.Machine

namespace Sys2Proof.Machine

/-! ### BEAT_REG_FSET (R54, R63) -/

/-- fset_reject cleared where the value written has its bit (W1C). -/
def State.ackReject (s : State) (r v : Nat) : State := if bit v 16 then s.set .BEAT_REG_FSET_fset_reject r 0 else s

theorem ackReject_sameRegs (s : State) (r v : Nat) : SameRegs [.BEAT_REG_FSET_fset_reject] s (s.ackReject r v) := by
  unfold State.ackReject
  split
  · exact (SameRegs.refl _ s).set (List.mem_singleton_self _) r 0
  · exact SameRegs.refl _ s

theorem ackReject_reject (s : State) (r v : Nat) : (s.ackReject r v).get .BEAT_REG_FSET_fset_reject r
    = if bit v 16 then 0 else s.get .BEAT_REG_FSET_fset_reject r := by
  unfold State.ackReject
  split
  · exact State.get_set_same s .BEAT_REG_FSET_fset_reject r 0
  · rfl

@[simp] theorem apart_ackReject (s : State) (r v : Nat) : (s.ackReject r v).apart = s.apart := by
  unfold State.ackReject
  split
  · exact apart_set ..
  · rfl

/-- Which write of BEAT_REG_FSET it is. -/
theorem fsetWrite_eq (r v : Nat) (s : State) : fsetWrite r v s =
    if s.planLoaded then
      if bits v 6 0 = s.get .BEAT_REG_FSET_fset_code r then s.ackReject r v
      else (s.ackReject r v).set .BEAT_REG_FSET_fset_reject r 1
    else if bits v 6 0 > 80 ∨ bits v 6 0 > s.fused.fmaxOf r then (s.ackReject r v).set .BEAT_REG_FSET_fset_reject r 1
    else (s.ackReject r v).set .BEAT_REG_FSET_fset_code r (bits v 6 0) := by
  have hregs := ackReject_sameRegs s r v
  have hfused : (s.ackReject r v).fused = s.fused := by unfold State.ackReject; split <;> rfl
  rw [← hregs.planLoaded (by decide), ← hregs _ r (show .BEAT_REG_FSET_fset_code ∉ _ by decide), ← hfused]
  rfl

section
variable {r v : Nat} {s : State}

theorem fsetWrite_sets (hplan : s.planLoaded = false) (hcode : bits v 6 0 ≤ 80) (hrated : bits v 6 0 ≤ s.fused.fmaxOf r) :
    fsetWrite r v s = (s.ackReject r v).set .BEAT_REG_FSET_fset_code r (bits v 6 0) := by
  rw [fsetWrite_eq, hplan, if_neg Bool.false_ne_true, if_neg (by omega)]

theorem fsetWrite_refuses (h : (80 < bits v 6 0 ∨ s.fused.fmaxOf r < bits v 6 0) ∧ s.planLoaded = false
      ∨ s.planLoaded = true ∧ bits v 6 0 ≠ s.get .BEAT_REG_FSET_fset_code r) :
    fsetWrite r v s = (s.ackReject r v).set .BEAT_REG_FSET_fset_reject r 1 := by
  rw [fsetWrite_eq]
  rcases h with ⟨habove, hplan⟩ | ⟨hplan, hother⟩
  · rw [hplan, if_neg Bool.false_ne_true, if_pos habove]
  · rw [hplan, if_pos rfl, if_neg hother]

theorem fsetWrite_inForce (hplan : s.planLoaded = true) (hcode : bits v 6 0 = s.get .BEAT_REG_FSET_fset_code r) :
    fsetWrite r v s = s.ackReject r v := by
  rw [fsetWrite_eq, hplan, if_pos rfl, if_pos hcode]

end

theorem State.runs_fsetWrite {r : RegionIx} {v : Word} {s : State} {P : State → Prop} (hhub : s.hubUp = true)
    (hfield : s.fieldUp = true) (h : P (fsetWrite r v.toNat s.begin)) : s.Runs (.fsetWrite r v) P :=
  State.runs_of_occurs (g := s.hubUp && s.fieldUp) (f := fsetWrite r v.toNat) rfl (by rw [hhub, hfield]; rfl) h

/-! ### The restart of a retuned region (R64) -/

theorem restartable_only {s : State} {x : RegionStop} (hstops : s.time.stops = [x]) (hdue : x.at' + 2 ≤ s.time.tick) :
    restartable x.region s = some x := by
  unfold restartable
  rw [hstops, List.find?_cons_of_pos]
  simpa using hdue

theorem exec_regionClockRestart {r : RegionIx} {s : State} {x : RegionStop} (hx : restartable r s = some x) :
    exec (.regionClockRestart r) s = occurs s.fieldUp (regionRestart x) s := by
  show execRegionClockRestart r s = _
  unfold execRegionClockRestart
  rw [hx]

/-- Settles O17: a write comes down to the acknowledgement of fset_reject and, by the three cases of R54 and R63, a new code, a
refusal or nothing; a restart and a crossing overflow are one update of the state each. -/
theorem regionFrequency : Obligations.RegionFrequency := by
  unfold Obligations.RegionFrequency
  refine ⟨fun r v s hhub hfield => ⟨fun hplan hcode hrated => ?sets, fun hrefused => ?refuses, fun hplan hcode => ?inForce⟩,
    fun r x s hfield hstops hregion hcode hdue => ?restart, fun r s hfield => ?overflow⟩
  case sets =>
    refine State.runs_fsetWrite hhub hfield ?_
    rw [fsetWrite_sets (s := s.begin) hplan hcode hrated]
    exact ⟨(State.get_set_same ..).trans (Nat.mod_mod ..), (State.get_set_other _ _ (.inl (by decide))).trans (ackReject_reject ..),
      ((ackReject_sameRegs s.begin r v.toNat).mono (by decide)).set (by decide) _ _,
      time_of_apart (apart_ackReject s.begin r v.toNat)⟩
  case refuses =>
    refine State.runs_fsetWrite hhub hfield ?_
    rw [fsetWrite_refuses (s := s.begin) hrefused]
    exact ⟨State.get_set_same _ .BEAT_REG_FSET_fset_reject r 1, (ackReject_sameRegs s.begin r v.toNat).set (by decide) _ _,
      time_of_apart (apart_ackReject s.begin r v.toNat)⟩
  case inForce =>
    refine State.runs_fsetWrite hhub hfield ?_
    rw [fsetWrite_inForce (s := s.begin) hplan hcode]
    exact ⟨ackReject_reject .., ackReject_sameRegs s.begin r v.toNat, time_of_apart (apart_ackReject s.begin r v.toNat)⟩
  case restart =>
    have hx : restartable r s = some x := by rw [← hregion]; exact restartable_only hstops hdue
    refine State.runs_of_occurs (exec_regionClockRestart hx) hfield ?_
    rw [← hregion]
    refine ⟨?code, ?stops, Table.get_set_same .., (SameRegs.refl _ s).set (List.mem_singleton_self _) _ _, rfl, rfl⟩
    case code => exact (State.get_set_same s.begin .BEAT_REG_FSET_fset_code x.region x.code).trans (Nat.mod_eq_of_lt hcode)
    case stops =>
      show s.time.stops.filter _ = []
      rw [hstops]
      simp
  case overflow =>
    refine State.runs_of_occurs (g := s.fieldUp) (f := fun s => s.raiseFatal .crossingOverflow (r.val / 72 + 8 * (r.val % 72))) rfl
      hfield ?_
    have hfits : (r.val / 72 + 8 * (r.val % 72)) % 2 ^ 32 = r.val / 72 + 8 * (r.val % 72) := Nat.mod_eq_of_lt (by omega)
    refine ⟨⟨_, rfl, rfl, (congrArg (· % 8) hfits).trans ?die, (congrArg (· / 8) hfits).trans ?region⟩, rfl, rfl⟩
    case die => show (r.val / 72 + 8 * (r.val % 72)) % 8 = r.val / 72; omega
    case region => show (r.val / 72 + 8 * (r.val % 72)) / 8 = r.val % 72; omega

end Sys2Proof.Machine

namespace Sys2Proof.Machine

/-! ### One step of the counter and what a port echoes (R47, R49) -/

/-- A root's word, sent at beat 99 and fraction 8, that echoes the receiver's own word of beat 80 after a hold of 18 beats. -/
def rootWord : List Byte :=
  toLE 8 99 ++ toLE 2 8 ++ zeros 2 ++ toLE 8 80 ++ toLE 2 0 ++ [0x86, 0] ++ toLE 4 720000 ++ zeros 4

/-- `rootWord` as the port takes it. -/
def rootCtrl : Ctrl := ⟨1, false, zeros 6, rootWord⟩

/-- A module in FREE at beat 100, the hub ready, no plan loaded, whose parent port 0 is ACTIVE and has received `rootWord`. -/
def newChild : State :=
  { (((State.reset.set .HST_STATUS_hub_ready 0 1).set .BEAT_CTRL_parent_valid 0 1).set .LNK_STATUS_state 0 Train.active.code) with
    time := { TimeBase.reset with beat := 100, tick := 100 }
    ports := [(0, { LinkPort.reset with rxCtrl := [rootCtrl] })] }

theorem newChild_up : newChild.hubUp = true := by decide

theorem newChild_word : takeCtrl 1 (newChild.port 0).rxCtrl = some (rootCtrl, []) := rfl

/-- The neighbour is 8 fraction steps ahead, less than a beat. -/
theorem newChild_offset : delayOffset (parseTimeWord rootWord) 100 0 = (81920000, 10000) := by decide +kernel

/-- The step to the parent's estimate moves the fraction alone, and the receipt of the word with it. -/
theorem newChild_steps : (timeWord 0 0 rootCtrl [] newChild.begin).time.beat = 100
    ∧ (timeWord 0 0 rootCtrl [] newChild.begin).time.slewLeft = 0
    ∧ (timeWord 0 0 rootCtrl [] newChild.begin).time.echo.find? 0 = some ⟨99, 8, timeUnits 100 8⟩ := by
  decide +kernel

theorem exec_timeWord {p : PortIx} {fr : BitVec 16} {s : State} {c : Ctrl} {rest : List Ctrl}
    (hc : takeCtrl 1 (s.port p).rxCtrl = some (c, rest)) :
    exec (.timeWord p fr) s = occurs s.hubUp (timeWord p fr.toNat c rest) s := by
  show execTimeWord p fr s = _
  unfold execTimeWord
  rw [hc]

/-- Refutes O15: its clause on the echo takes an unchanged beat and slew for a counter that has not stepped. A step of less than a
beat moves the fraction alone, and the receipt held for the echo goes with it, so that it is no longer the instant of receipt. -/
theorem not_timeWordsCorrectTime : ¬ Obligations.TimeWordsCorrectTime := by
  unfold Obligations.TimeWordsCorrectTime
  rintro ⟨-, h⟩
  obtain ⟨-, hvalid⟩ := h 0 0 newChild rootCtrl [] (parseTimeWord rootWord) newChild_up newChild_word rfl
  obtain ⟨t, ht, -, -, hecho, -⟩ := hvalid (by decide +kernel) 81920000 10000 newChild_offset
  have hnext : t = timeWord 0 0 rootCtrl [] newChild.begin :=
    eq_of_exec (exec_timeWord (p := 0) (fr := 0) newChild_word) newChild_up ht
  obtain ⟨hbeat, hslew, hfound⟩ := newChild_steps
  rw [← hnext] at hbeat hslew hfound
  obtain ⟨e, he, -, -, hrx⟩ := hecho
  cases hfound.symm.trans he
  exact absurd (hrx hbeat hslew) (by decide)

end Sys2Proof.Machine

namespace Sys2Proof.Machine

/-! ### Completions (R357, R360, R361) -/

/-- The state without what events, reports and completions change: the outputs, the registers with their accumulators, the numbers
of events, reports and free values, and the host interface. -/
def State.core (s : State) : State :=
  { s with out := [], regs := [], accum := [], free := 0, reportSeq := 0, host := HostIf.reset }

theorem core_of_quiet {s t : State} (h : t.quiet = s.quiet) : t.core = s.core :=
  (congrArg State.core h : t.quiet.core = s.quiet.core)

theorem core_fused {s t : State} (h : t.core = s.core) : t.fused = s.fused := by injection h
theorem core_raised {s t : State} (h : t.core = s.core) : t.raised = s.raised := by injection h
theorem core_time {s t : State} (h : t.core = s.core) : t.time = s.time := by injection h
theorem core_plan {s t : State} (h : t.core = s.core) : t.plan = s.plan := by injection h
theorem core_ports {s t : State} (h : t.core = s.core) : t.ports = s.ports := by injection h
theorem core_router {s t : State} (h : t.core = s.core) : t.router = s.router := by injection h
theorem core_serving {s t : State} (h : t.core = s.core) : t.serving = s.serving := by injection h
theorem core_mgmt {s t : State} (h : t.core = s.core) : t.mgmt = s.mgmt := by injection h
theorem core_field {s t : State} (h : t.core = s.core) : t.field = s.field :=
  (congrArg State.field h : t.core.field = s.core.field)

@[simp] theorem core_begin (s : State) : s.begin.core = s.core := rfl
@[simp] theorem core_set (s : State) (f : RegField) (i v : Nat) : (s.set f i v).core = s.core := rfl
@[simp] theorem core_bump (s : State) (f : RegField) (i n : Nat) : (s.bump f i n).core = s.core := rfl
@[simp] theorem core_emit (s : State) (o : Output) : (s.emit o).core = s.core := rfl
@[simp] theorem core_sendMsix (s : State) (v : Nat) : (s.sendMsix v).core = s.core := core_of_quiet (quiet_sendMsix s v)
@[simp] theorem core_setQueue (s : State) (q : Nat) (x : Queue) : (s.setQueue q x).core = s.core := rfl

/-- The count of commands that completed with an error (R361). -/
def State.countError (s : State) (code : Nat) : State := if Machine.counted code then s.bump .HST_ERR_cmd_errors 0 1 else s

/-- The command has left the list of fetched ones. -/
def State.dropFetched (s : State) (f : Fetched) : State :=
  { s with host := { s.host with fetched := removeFirst (fun g => g.same f) s.host.fetched } }

/-- The entry that a completion writes, its MSI-X message, and the pair's new indices. -/
def State.writeEntry (s : State) (f : Fetched) (code result : Nat) (x : Queue) : State :=
  let t := (x.cqTail + 1) % x.n
  ((s.emit (.hostWrite (x.cqBase + 16 * x.cqTail) (cqe f.q f.cid f.sqHead code x.phase result) false)).sendMsix x.vector).setQueue f.q
    { x with cqTail := t, phase := if t = 0 then !x.phase else x.phase, reserved := x.reserved - 1, waiting := x.waiting + 1 }

theorem countError_host (s : State) (code : Nat) : (s.countError code).host = s.host := by
  unfold State.countError
  split <;> rfl

@[simp] theorem core_countError (s : State) (code : Nat) : (s.countError code).core = s.core := by
  unfold State.countError
  split <;> rfl

@[simp] theorem core_dropFetched (s : State) (f : Fetched) : (s.dropFetched f).core = s.core := rfl

@[simp] theorem core_writeEntry (s : State) (f : Fetched) (code result : Nat) (x : Queue) :
    (s.writeEntry f code result x).core = s.core := by simp [State.writeEntry]

theorem completeRaw_eq (s : State) (f : Fetched) (code result : Nat) :
    s.completeRaw f code result =
      match s.queue? f.q with
      | none => (s.countError code).dropFetched f
      | some x => if f.mute then (s.countError code).dropFetched f else ((s.countError code).dropFetched f).writeEntry f code result x := by
  have hq : ((s.countError code).dropFetched f).queue? f.q = s.queue? f.q := by
    unfold State.queue? State.dropFetched
    rw [countError_host]
  rw [← hq]
  rfl

@[simp] theorem core_completeRaw (s : State) (f : Fetched) (code result : Nat) : (s.completeRaw f code result).core = s.core := by
  rw [completeRaw_eq]
  split
  · simp
  · split <;> simp

@[simp] theorem core_complete (s : State) (f : Fetched) (c : Cc) (result : Nat) : (s.complete f c result).core = s.core := by
  unfold State.complete State.completeNum State.reap
  split
  · exact core_completeRaw ..
  · split
    · exact core_completeRaw ..
    · dsimp only
      split
      · exact core_completeRaw s f c.code result
      · exact (core_completeRaw ..).trans (core_completeRaw s f c.code result)

/-! #### Registers -/

theorem sendMsix_regs (s : State) (v : Nat) : (s.sendMsix v).regs = s.regs := by
  unfold State.sendMsix
  split <;> rfl

theorem writeEntry_regs (s : State) (f : Fetched) (code result : Nat) (x : Queue) : (s.writeEntry f code result x).regs = s.regs :=
  sendMsix_regs _ _

theorem completeRaw_regs (s : State) (f : Fetched) (code result : Nat) :
    (s.completeRaw f code result).regs = (s.countError code).regs := by
  rw [completeRaw_eq]
  split
  · rfl
  · split
    · rfl
    · exact writeEntry_regs ..

/-- The completion of a QUEUE_DELETE that follows counts no error. -/
theorem complete_regs (s : State) (f : Fetched) (c : Cc) (result : Nat) :
    (s.complete f c result).regs = (s.countError c.code).regs := by
  rw [← completeRaw_regs s f c.code result]
  unfold State.complete State.completeNum State.reap
  split
  · rfl
  · split
    · rfl
    · dsimp only
      split
      · rfl
      · exact completeRaw_regs _ _ 0 _

theorem complete_sameRegs (s : State) (f : Fetched) (c : Cc) (result : Nat) :
    SameRegs [.HST_ERR_cmd_errors] s (s.complete f c result) := by
  intro g i hg
  have hfused : (s.complete f c result).fused = s.fused := core_fused (core_complete s f c result)
  have hcount : SameRegs [.HST_ERR_cmd_errors] s (s.countError c.code) := by
    unfold State.countError
    split
    · exact (SameRegs.refl _ s).bump List.mem_cons_self 0 1
    · exact SameRegs.refl _ s
  have hcore : (s.countError c.code).fused = s.fused := core_fused (core_countError s c.code)
  rw [State.get_congr (complete_regs s f c result) (hfused.trans hcore.symm), hcount g i hg]

/-- A completion without an error changes no register. -/
theorem complete_regs_success (s : State) (f : Fetched) (result : Nat) : (s.complete f .success result).regs = s.regs :=
  complete_regs s f .success result

@[simp] theorem complete_get (s : State) (f : Fetched) (c : Cc) (result : Nat) {g : RegField} (i : Nat)
    (hg : g ≠ .HST_ERR_cmd_errors) : (s.complete f c result).get g i = s.get g i :=
  complete_sameRegs s f c result g i (by simpa using hg)

/-! #### The host -/

theorem sendMsix_msix (s : State) (v : Nat) : .msix v ∈ (s.sendMsix v).out := by
  unfold State.sendMsix
  split
  · next h => simpa using h
  · simp

theorem mem_sendMsix_out {s : State} {o : Output} (h : o ∈ s.out) (v : Nat) : o ∈ (s.sendMsix v).out := by
  unfold State.sendMsix
  split
  · exact h
  · simp [h]

theorem sendMsix_host (s : State) (v : Nat) : (s.sendMsix v).host = s.host := by
  unfold State.sendMsix
  split <;> rfl

theorem writeEntry_host (s : State) (f : Fetched) (code result : Nat) (x : Queue) :
    (s.writeEntry f code result x).host.fetched = s.host.fetched
      ∧ ∃ y, (s.writeEntry f code result x).queue? f.q = some y ∧ y.deleting = x.deleting := by
  refine ⟨?_, _, Table.find?_put_same _ _ _, rfl⟩
  show (State.sendMsix _ _).host.fetched = _
  rw [sendMsix_host]
  rfl

/-- A command of a pair that is not being deleted completes: after it, too, the pair is not being deleted. -/
theorem completeRaw_completed (s : State) (f : Fetched) (code result : Nat) (hdel : ∀ x, s.queue? f.q = some x → x.deleting = none) :
    (s.completeRaw f code result).host.fetched = removeFirst (fun g => g.same f) s.host.fetched
      ∧ ((s.completeRaw f code result).queue? f.q).bind (fun x => x.deleting) = none
      ∧ ∀ x, s.queue? f.q = some x → f.mute = false →
        .hostWrite (x.cqBase + 16 * x.cqTail) (cqe f.q f.cid f.sqHead code x.phase result) false ∈ (s.completeRaw f code result).out
          ∧ .msix x.vector ∈ (s.completeRaw f code result).out := by
  have hfetched : ((s.countError code).dropFetched f).host.fetched = removeFirst (fun g => g.same f) s.host.fetched := by
    unfold State.dropFetched
    rw [countError_host]
  have hqueue : ((s.countError code).dropFetched f).queue? f.q = s.queue? f.q := by
    unfold State.queue? State.dropFetched
    rw [countError_host]
  rw [completeRaw_eq]
  cases hq : s.queue? f.q with
  | none => exact ⟨hfetched, by rw [hqueue, hq]; rfl, by simp⟩
  | some x =>
    dsimp only
    cases hm : f.mute with
    | true => exact ⟨hfetched, by rw [if_pos rfl, hqueue, hq]; exact hdel x hq, by simp⟩
    | false =>
      rw [if_neg (by simp)]
      obtain ⟨hf, y, hy, hyd⟩ := writeEntry_host ((s.countError code).dropFetched f) f code result x
      refine ⟨hf.trans hfetched, by rw [hy]; exact hyd.trans (hdel x hq), ?_⟩
      rintro z hz -
      cases hz
      exact ⟨mem_sendMsix_out (by simp) _, sendMsix_msix _ _⟩

/-- What a command of `s` answers at its end, from any state with the queues and commands of `s`. -/
theorem complete_completed {s u : State} (hq : u.host.queues = s.host.queues) (hf : u.host.fetched = s.host.fetched)
    (f : Fetched) (c : Cc) (result : Nat) : Completed f c result s (u.complete f c result) := by
  have hqueue : u.queue? f.q = s.queue? f.q := by unfold State.queue?; rw [hq]
  intro hdel
  obtain ⟨hfetched, hnone, hout⟩ := completeRaw_completed u f c.code result (by rw [hqueue]; exact hdel)
  have hreap : u.complete f c result = u.completeRaw f c.code result := by
    unfold State.complete State.completeNum State.reap
    rw [hnone]
  rw [hreap, ← hf, ← hqueue]
  exact ⟨hfetched, hout⟩

/-- The queues and the commands fetched are kept by what events and reports change. -/
theorem completed_of_quiet {s u : State} (h : u.quiet = s.quiet) (f : Fetched) (c : Cc) (result : Nat) :
    Completed f c result s (u.complete f c result) :=
  complete_completed (congrArg (fun x => x.host.queues) h) (congrArg (fun x => x.host.fetched) h) f c result

/-- A host command that is ready runs its effect. -/
theorem State.runs_hostCommand {i : Instr} {op : Nat} {q : QueueIx} {cid : Cid} {body : Fetched → State → State} {f : Fetched}
    {s : State} {P : State → Prop} (hi : exec i s = hostCommand op q cid body s) (hr : s.Ready q cid op f) (h : P (body f s.begin)) :
    s.Runs i P := by
  obtain ⟨hup, hcmd, hop, hstart⟩ := hr
  have hexec : exec i s = occurs (s.hubUp && f.op == op && s.canStart f) (body f) s := by
    rw [hi]
    unfold hostCommand
    rw [hcmd]
  exact State.runs_of_occurs hexec (by simp [hup, hop, hstart]) h

/-! ### Plan states (R83, R343) -/

@[simp] theorem quiet_movePlan (s : State) (p : PlanState) : (s.movePlan p).quiet = s.quiet := by
  unfold State.movePlan
  split <;> simp

@[simp] theorem movePlan_planState (s : State) (p : PlanState) : (s.movePlan p).planState = p := by
  unfold State.movePlan
  split
  · exact State.setPlanState_planState s p
  · unfold State.planState
    rw [State.get_set_other _ _ (.inl (by decide))]
    exact State.setPlanState_planState s p

theorem movePlan_get (s : State) (p : PlanState) {f : RegField} (i : Nat)
    (hf : f ∉ [RegField.HST_ERR_events_lost, .PLN_STATUS_state, .RTE_PLAN_rstate]) : (s.movePlan p).get f i = s.get f i := by
  simp only [List.mem_cons, List.not_mem_nil, or_false, not_or] at hf
  obtain ⟨hlost, hstate, hrstate⟩ := hf
  unfold State.movePlan
  split
  · exact State.get_setPlanState s p i hlost hstate
  · rw [State.get_set_other _ _ (.inl hrstate), State.get_setPlanState s p i hlost hstate]

theorem movePlan_rstate (s : State) {p : PlanState} {r : Nat} (hp : rstateOf p = some r) :
    (s.movePlan p).get .RTE_PLAN_rstate 0 = r % 2 ^ RegField.width .RTE_PLAN_rstate := by
  unfold State.movePlan
  rw [hp]
  exact State.get_set_same ..

/-! ### The end of a stop (R105) -/

/-- Settles O32: in STOPPING, the two rows' conditions are what R105 gives, and their effects a change of the plan state and a fatal
reason. -/
theorem stopDrains : Obligations.StopDrains := by
  unfold Obligations.StopDrains
  intro k s hpow hstate htick
  have hstopping : s.stopping = some k := by simp [State.stopping, hstate, htick]
  have hcomplete : exec .stopDrainComplete s
      = occurs (s.powered && decide (k + 16 ≤ s.time.tick) && s.drained) (fun s => s.movePlan .stopped) s := by
    show execStopDrainComplete s = _
    unfold execStopDrainComplete
    rw [hstopping]
  have htimeout : exec .stopDrainTimeout s = occurs (s.powered && decide (k + 16 * 1024 ≤ s.time.tick) && !s.drained)
      (fun s => s.raiseFatal .stopDrainTimeout 0) s := by
    show execStopDrainTimeout s = _
    unfold execStopDrainTimeout
    rw [hstopping]
  refine ⟨fun hd hk => ?_, fun h => ?_, fun hd hk => ?_, fun h => ?_⟩
  · have hq := quiet_movePlan s.begin .stopped
    exact State.runs_of_occurs hcomplete (by simp [hpow, hd, hk])
      ⟨movePlan_planState _ _, quiet_plan hq, quiet_raised hq, quiet_time hq⟩
  · have hguard : (s.powered && decide (k + 16 ≤ s.time.tick) && s.drained) = false := by
      rcases h with h | h <;> simp [h]
    rw [hcomplete, hguard, occurs_false]
  · exact State.runs_of_occurs htimeout (by simp [hpow, hd, hk]) ⟨rfl, rfl, rfl⟩
  · have hguard : (s.powered && decide (k + 16 * 1024 ≤ s.time.tick) && !s.drained) = false := by
      rcases h with h | h <;> simp [h]
    rw [htimeout, hguard, occurs_false]

end Sys2Proof.Machine

namespace Sys2Proof.Machine

/-! ### Rest lists (R98) -/

theorem putRest_entered (i d : Nat) (rs : List RestEntry) : ∃ e ∈ putRest i d rs, e.i = i ∧ d ≤ e.d := by
  induction rs with
  | nil => exact ⟨⟨i, d⟩, by simp [putRest], rfl, le_rfl⟩
  | cons r rs ih =>
    unfold putRest
    split
    · obtain ⟨e, he, hi, hd⟩ := ih
      exact ⟨e, List.mem_cons_of_mem _ he, hi, hd⟩
    · split
      · exact ⟨_, List.mem_cons_self, rfl, le_max_right _ _⟩
      · exact ⟨_, List.mem_cons_self, rfl, le_rfl⟩

theorem putRest_keeps (i d : Nat) {rs : List RestEntry} {e : RestEntry} (he : e ∈ rs) :
    ∃ g ∈ putRest i d rs, g.i = e.i ∧ e.d ≤ g.d := by
  induction rs with
  | nil => simp at he
  | cons r rs ih =>
    unfold putRest
    rcases List.mem_cons.1 he with rfl | he
    · split
      · exact ⟨_, List.mem_cons_self, rfl, le_rfl⟩
      · split
        · next hi => exact ⟨_, List.mem_cons_self, hi.symm, le_max_left _ _⟩
        · exact ⟨_, List.mem_cons_of_mem _ List.mem_cons_self, rfl, le_rfl⟩
    · split
      · obtain ⟨g, hg, hgi, hgd⟩ := ih he
        exact ⟨g, List.mem_cons_of_mem _ hg, hgi, hgd⟩
      · split
        · exact ⟨e, List.mem_cons_of_mem _ he, rfl, le_rfl⟩
        · exact ⟨e, List.mem_cons_of_mem _ (List.mem_cons_of_mem _ he), rfl, le_rfl⟩

/-- Every entry stood there before, or is the one put in, merged with one of the same start where there was one. -/
theorem putRest_mem {i d : Nat} {rs : List RestEntry} {g : RestEntry} (hg : g ∈ putRest i d rs) :
    g ∈ rs ∨ (g.i = i ∧ (g.d = d ∨ ∃ e ∈ rs, e.i = i ∧ g.d = max e.d d)) := by
  induction rs with
  | nil =>
    obtain rfl : g = ⟨i, d⟩ := by simpa [putRest] using hg
    exact .inr ⟨rfl, .inl rfl⟩
  | cons r rs ih =>
    unfold putRest at hg
    split at hg
    · rcases List.mem_cons.1 hg with rfl | hg
      · exact .inl List.mem_cons_self
      · rcases ih hg with h | ⟨hi, h | ⟨e, he, hei, hed⟩⟩
        · exact .inl (List.mem_cons_of_mem _ h)
        · exact .inr ⟨hi, .inl h⟩
        · exact .inr ⟨hi, .inr ⟨e, List.mem_cons_of_mem _ he, hei, hed⟩⟩
    · split at hg
      · next hri =>
        rcases List.mem_cons.1 hg with rfl | hg
        · exact .inr ⟨rfl, .inr ⟨r, List.mem_cons_self, hri, rfl⟩⟩
        · exact .inl (List.mem_cons_of_mem _ hg)
      · rcases List.mem_cons.1 hg with rfl | hg
        · exact .inr ⟨rfl, .inl rfl⟩
        · exact .inl hg

/-! ### What the hub does with a toll (R98 to R100, R103) -/

/-- The registers that show the last toll (R109). -/
def lastTollRegs : List RegField :=
  [.PLN_LAST_TOLL0_beat_lo, .PLN_LAST_TOLL1_beat_hi, .PLN_LAST_TOLL2_origin_id, .PLN_LAST_TOLL2_toll_id, .PLN_LAST_TOLL3_epoch
   , .PLN_LAST_TOLL3_rest_d, .PLN_LAST_TOLL3_cause, .PLN_LAST_TOLL3_hops]

/-- The registers that a toll entered by the hub may change. -/
def hubTollRegs : List RegField :=
  lastTollRegs ++ [.HST_ERR_events_lost, .PLN_TOLL_RX_received, .PLN_TOLL_RX_merged, .PLN_REST_LIST_max_entries, .PLN_STOP_LO_stop_lo
   , .PLN_STOP_HI_stop_hi, .PLN_STOP_HI_stop_valid]

/-- The registers of the last toll. -/
def State.showToll (s : State) (t : Toll) : State :=
  let s := ((s.bump .PLN_TOLL_RX_received 0 1).set .PLN_LAST_TOLL0_beat_lo 0 t.beatB).set .PLN_LAST_TOLL1_beat_hi 0 (t.beatB / 2 ^ 32)
  let s := (s.set .PLN_LAST_TOLL2_origin_id 0 t.origin).set .PLN_LAST_TOLL2_toll_id 0 t.tollId
  (((s.set .PLN_LAST_TOLL3_epoch 0 t.epoch).set .PLN_LAST_TOLL3_rest_d 0 t.restD).set .PLN_LAST_TOLL3_cause 0 t.cause).set
    .PLN_LAST_TOLL3_hops 0 t.hops

theorem quiet_showToll (s : State) (t : Toll) : (s.showToll t).quiet = s.quiet := by simp [State.showToll]

theorem noteToll_cases (s : State) (t : Toll) : s.noteToll t = s.showToll t ∨ ∃ b, s.noteToll t = (s.showToll t).event 1 b := by
  unfold State.noteToll
  dsimp only
  split
  · exact .inr ⟨_, rfl⟩
  · exact .inl rfl

@[simp] theorem quiet_noteToll (s : State) (t : Toll) : (s.noteToll t).quiet = s.quiet := by
  rcases noteToll_cases s t with h | ⟨b, h⟩ <;> rw [h]
  · exact quiet_showToll s t
  · exact (quiet_event ..).trans (quiet_showToll s t)

theorem noteToll_get (s : State) (t : Toll) {f : RegField} (i : Nat) (hf : f ≠ .HST_ERR_events_lost) :
    (s.noteToll t).get f i = (s.showToll t).get f i := by
  rcases noteToll_cases s t with h | ⟨b, h⟩ <;> rw [h]
  exact State.get_event _ _ _ _ hf

theorem showToll_sameRegs (s : State) (t : Toll) : SameRegs lastTollRegs (s.bump .PLN_TOLL_RX_received 0 1) (s.showToll t) := by
  unfold State.showToll
  refine SameRegs.set (.set (.set (.set (.set (.set (.set (.set (.refl _ _) ?_ _ _) ?_ _ _) ?_ _ _) ?_ _ _) ?_ _ _) ?_ _ _) ?_ _ _) ?_ _ _
    <;> decide

theorem noteToll_received (s : State) (t : Toll) :
    (s.noteToll t).get .PLN_TOLL_RX_received 0 = min (s.get .PLN_TOLL_RX_received 0 + 1) 65535 := by
  rw [noteToll_get _ _ _ (by decide), showToll_sameRegs s t _ _ (by decide)]
  exact State.get_bump_same ..

theorem noteToll_origin (s : State) (t : Toll) : (s.noteToll t).get .PLN_LAST_TOLL2_origin_id 0 = t.origin % 2 ^ 16 := by
  rw [noteToll_get _ _ _ (by decide)]
  unfold State.showToll
  dsimp only
  iterate 5 rw [State.get_set_other _ _ (.inl (by decide))]
  exact State.get_set_same ..

theorem noteToll_sameRegs (s : State) (t : Toll) : SameRegs hubTollRegs s (s.noteToll t) := by
  intro f i hf
  rw [noteToll_get _ _ _ (ne_of_mem_of_not_mem (by decide) hf).symm,
    (showToll_sameRegs s t).mono (gs := hubTollRegs) (List.subset_append_left _ _) f i hf]
  exact State.get_bump_other _ _ (.inl (ne_of_mem_of_not_mem (by decide) hf).symm)

/-- The machine beat at which a toll is to take effect: its insertion measure, or the downbeat of its S (R98, R103). -/
def State.tollBeat (s : State) (t : Toll) : Nat :=
  if t.cause = 4 then executionBeat s.plan.rests s.time.beat s.plan.beat (16 * t.stopMeasure)
  else insertionBeat t.beatB (s.get .PLN_CFG_toll_reach 0)

/-- The count of tolls that fall in a rest already inserted. -/
def State.noteMerged (s : State) (i : Nat) : State := if isRest s.plan.rests i then s.bump .PLN_TOLL_RX_merged 0 1 else s

/-- The Rims' pending S (R343). -/
def State.rimStop (s : State) (n : Nat) : State := { s with router := { s.router with stopS := smallerStop s.router.stopS n } }

theorem hubToll_eq (s : State) (t : Toll) : s.hubToll t =
    if t.malformed then s.raiseFatal .tollInvalid t.detailWord
    else if s.time.beat + 1 ≥ s.tollBeat t then s.raiseFatal .lateToll t.detailWord
    else if t.cause = 4 then
      ((s.noteToll t).setStop ((smallerStop (s.noteToll t).plan.stop t.stopMeasure).getD 0)).rimStop t.stopMeasure
    else if restFull (s.tollBeat t) ((s.noteToll t).noteMerged (s.tollBeat t)).plan.rests then
      ((s.noteToll t).noteMerged (s.tollBeat t)).raiseFatal .restListFull 0
    else ((s.noteToll t).noteMerged (s.tollBeat t)).hubRest (s.tollBeat t) t.restD := rfl

theorem noteMerged_quiet (s : State) (i : Nat) : (s.noteMerged i).quiet = s.quiet := by
  unfold State.noteMerged
  split <;> rfl

section
variable {s : State} {t : Toll}

theorem hubToll_malformed (hm : t.malformed = true) : s.hubToll t = s.raiseFatal .tollInvalid t.detailWord := by
  rw [hubToll_eq, if_pos hm]

theorem hubToll_late (hm : t.malformed = false) (hlate : s.tollBeat t ≤ s.time.beat + 1) :
    s.hubToll t = s.raiseFatal .lateToll t.detailWord := by
  rw [hubToll_eq, if_neg (by simp [hm]), if_pos hlate]

/-- A stop toll in time makes its measure the pending stop unless a smaller one is. -/
theorem hubToll_stop (hm : t.malformed = false) (hc : t.cause = 4) (hb : s.time.beat + 1 < s.tollBeat t) :
    s.hubToll t = ((s.noteToll t).setStop ((smallerStop s.plan.stop t.stopMeasure).getD 0)).rimStop t.stopMeasure := by
  rw [hubToll_eq, if_neg (by simp [hm]), if_neg (Nat.not_le.2 hb), if_pos hc, quiet_plan (quiet_noteToll s t)]

/-- Any other toll in time, that the list has room for, enters the rest lists. -/
theorem hubToll_rest (hm : t.malformed = false) (hc : t.cause ≠ 4) (hb : s.time.beat + 1 < s.tollBeat t)
    (hfull : restFull (s.tollBeat t) s.plan.rests = false) :
    s.hubToll t = ((s.noteToll t).noteMerged (s.tollBeat t)).hubRest (s.tollBeat t) t.restD := by
  have hplan : ((s.noteToll t).noteMerged (s.tollBeat t)).plan = s.plan :=
    (quiet_plan (noteMerged_quiet _ _)).trans (quiet_plan (quiet_noteToll s t))
  rw [hubToll_eq, if_neg (by simp [hm]), if_neg (Nat.not_le.2 hb), if_neg hc, hplan, if_neg (by simp [hfull])]

end

theorem noteMerged_sameRegs (s : State) (i : Nat) : SameRegs [.PLN_TOLL_RX_merged] s (s.noteMerged i) := by
  unfold State.noteMerged
  split
  · exact (SameRegs.refl _ s).bump List.mem_cons_self 0 1
  · exact SameRegs.refl _ s

theorem hubRest_plan (s : State) (i d : Nat) : (s.hubRest i d).plan = { s.plan with rests := putRest i d s.plan.rests } := rfl
theorem hubRest_router (s : State) (i d : Nat) : (s.hubRest i d).router = { s.router with rests := putRest i d s.router.rests } := rfl
theorem hubRest_raised (s : State) (i d : Nat) : (s.hubRest i d).raised = s.raised := rfl
theorem hubRest_time (s : State) (i d : Nat) : (s.hubRest i d).time = s.time := rfl
theorem hubRest_ports (s : State) (i d : Nat) : (s.hubRest i d).ports = s.ports := rfl

theorem hubRest_sameRegs (s : State) (i d : Nat) : SameRegs [.PLN_REST_LIST_max_entries] s (s.hubRest i d) := fun f j hf =>
  State.get_set_other _ _ (.inl (by simpa using hf))

theorem rimStop_plan (s : State) (n : Nat) : (s.rimStop n).plan = s.plan := rfl
theorem rimStop_raised (s : State) (n : Nat) : (s.rimStop n).raised = s.raised := rfl
theorem setStop_plan (s : State) (n : Nat) : (s.setStop n).plan = { s.plan with stop := some n } := rfl
theorem setStop_raised (s : State) (n : Nat) : (s.setStop n).raised = s.raised := rfl

theorem setStop_sameRegs (s : State) (n : Nat) :
    SameRegs [.PLN_STOP_LO_stop_lo, .PLN_STOP_HI_stop_hi, .PLN_STOP_HI_stop_valid] s (s.setStop n) := by
  unfold State.setStop
  refine SameRegs.set (.set (.set (fun f j _ => rfl) ?_ _ _) ?_ _ _) ?_ _ _ <;> decide

/-! ### The hub takes a toll (R98) -/

/-- The first toll at the hub is taken from those that wait there. -/
def State.leaveTolls (s : State) (rest : List Toll) : State := { s with router := { s.router with hubTolls := rest } }

theorem hubTollReceive_hub {t : Toll} {s : State} (rest : List Toll) (hrim : s.rimActs = false) (hact : s.hubActs = true)
    (hepoch : t.epoch = s.get .PLN_EPOCH_epoch 0) : hubTollReceive t rest s = (s.leaveTolls rest).hubToll t := by
  show (if s.rimActs = true then _ else if (s.hubActs && t.epoch == s.get .PLN_EPOCH_epoch 0) = true then _ else _) = _
  rw [if_neg (by simp [hrim]), if_pos (by simp [hact, hepoch])]
  rfl

theorem exec_hubTollReceive {s : State} {t : Toll} {rest : List Toll} (h : s.router.hubTolls = t :: rest) :
    exec .hubTollReceive s = occurs s.powered (hubTollReceive t rest) s := by
  show execHubTollReceive s = _
  unfold execHubTollReceive
  rw [h]

/-! ### Finish words (R106, R107) -/

theorem exec_finish {p : PortIx} {s : State} {c : Ctrl} {rest : List Ctrl} (h : takeCtrl 3 (s.port p).rxCtrl = some (c, rest)) :
    exec (.finish p) s = occurs s.powered (finish p c rest) s := by
  show execFinish p s = _
  unfold execFinish
  rw [h]

/-- A finish word kept for its measure's count. -/
def State.keepFinish (s : State) (x : Margin) : State := { s with plan := { s.plan with finish := s.plan.finish ++ [x] } }

/-- A word is kept where it comes from a neighbour in the domain, of the plan's epoch, while the plan runs. -/
theorem finish_eq (p : Nat) (c : Ctrl) (rest : List Ctrl) (s : State) :
    finish p c rest s =
      if s.inDomain p = true ∧ leAt c.body 14 2 = s.get .PLN_EPOCH_epoch 0 ∧ (s.planState = .running ∨ s.planState = .resting) then
        (s.modPort p (fun x => { x with rxCtrl := rest })).keepFinish ⟨leAt c.body 0 8, p, toSigned 32 (leAt c.body 8 4)⟩
      else s.modPort p (fun x => { x with rxCtrl := rest }) := by
  show (if (s.inDomain p && leAt c.body 14 2 == s.get .PLN_EPOCH_epoch 0 && (s.planState = .running || s.planState = .resting)) = true
    then _ else _) = _
  refine if_congr ?_ rfl rfl
  simp [and_assoc]

@[simp] theorem port_modPort_same (s : State) (p : Nat) (f : LinkPort → LinkPort) : (s.modPort p f).port p = f (s.port p) :=
  Table.get_set_same ..

theorem port_modPort_other (s : State) {p q : Nat} (f : LinkPort → LinkPort) (h : q ≠ p) : (s.modPort p f).port q = s.port q :=
  Table.get_set_ne _ _ _ _ h

/-- Settles O33: a toll that the hub takes is malformed, late, a stop or a rest, and each of these is one equation of `hubToll`. -/
theorem tollsInsertRests : Obligations.TollsInsertRests := by
  unfold Obligations.TollsInsertRests
  refine ⟨fun x rest s hpow htolls hact hrim hepoch => ?_, fun p s c rest hpow hctrl => ?_⟩
  · have hrun {P : State → Prop} (h : P ((s.begin.leaveTolls rest).hubToll x)) : s.Runs .hubTollReceive P :=
      State.runs_of_occurs (exec_hubTollReceive htolls) hpow
        (by rw [hubTollReceive_hub rest (s := s.begin) hrim hact hepoch]; exact h)
    have hinsert (hc : x.cause ≠ 4) : (s.begin.leaveTolls rest).tollBeat x = 16 * ((x.beatB + s.get .PLN_CFG_toll_reach 0) / 16) :=
      if_neg hc
    have hstop (hc : x.cause = 4) : (s.begin.leaveTolls rest).tollBeat x
        = executionBeat s.plan.rests s.time.beat s.plan.beat (16 * x.stopMeasure) := if_pos hc
    refine ⟨fun hm => hrun ?_, fun hm hc hlate => hrun ?_, fun hm hc i hi hb hfull => hrun ?_, fun hm hc hb => hrun ?_⟩
    · rw [hubToll_malformed hm]
      exact ⟨⟨_, rfl, rfl⟩, rfl, rfl⟩
    · rw [hubToll_late hm (by rw [hinsert hc]; exact hlate)]
      exact ⟨⟨_, rfl, rfl⟩, rfl, rfl⟩
    · have hti := (hinsert hc).trans hi.symm
      rw [hubToll_rest hm hc (by rw [hti]; exact hb) (by rw [hti]; exact hfull), hti]
      generalize hu : ((s.begin.leaveTolls rest).noteToll x).noteMerged i = u
      have hq : u.quiet = (s.begin.leaveTolls rest).quiet := by rw [← hu, noteMerged_quiet, quiet_noteToll]
      have hrests : (u.hubRest i x.restD).plan.rests = putRest i x.restD s.plan.rests := by
        rw [hubRest_plan, quiet_plan hq]
        rfl
      have hget (f : RegField) (h1 : f ∉ [RegField.PLN_REST_LIST_max_entries]) (h2 : f ∉ [RegField.PLN_TOLL_RX_merged]) :
          (u.hubRest i x.restD).get f 0 = ((s.begin.leaveTolls rest).noteToll x).get f 0 := by
        rw [hubRest_sameRegs u i x.restD f 0 h1, ← hu, noteMerged_sameRegs _ i f 0 h2]
      refine ⟨?_, ?_, ?_, ?_, ?_, ?_, ?_, ?_, ?_, ?_⟩
      · rw [hubRest_raised, quiet_raised hq]
        rfl
      · rw [hubRest_router, quiet_router hq]
        rfl
      · rw [hrests]
        exact putRest_entered ..
      · rw [hrests]
        exact fun e he => putRest_keeps _ _ he
      · rw [hrests]
        exact fun g hg => putRest_mem hg
      · rw [hget _ (by decide) (by decide)]
        exact noteToll_received ..
      · rw [hget _ (by decide) (by decide)]
        exact noteToll_origin ..
      · rw [hubRest_plan, quiet_plan hq]
        rfl
      · rw [hubRest_time, quiet_time hq]
        rfl
      · rw [hubRest_ports, quiet_ports hq]
        rfl
    · have hq := quiet_noteToll (s.begin.leaveTolls rest) x
      rw [hubToll_stop hm hc (by rw [hstop hc]; exact hb)]
      refine ⟨?_, ?_, ?_⟩
      · rw [rimStop_plan, setStop_plan]
        show some ((smallerStop s.plan.stop x.stopMeasure).getD 0) = _
        cases s.plan.stop <;> rfl
      · rw [rimStop_plan, setStop_plan, quiet_plan hq]
        rfl
      · rw [rimStop_raised, setStop_raised, quiet_raised hq]
        rfl
  · refine State.runs_of_occurs (exec_finish hctrl) hpow ?_
    have hport : ((s.begin.modPort p (fun x => { x with rxCtrl := rest })).port p).rxCtrl = rest := by rw [port_modPort_same]
    rw [finish_eq, State.begin_get, show s.begin.inDomain p = s.inDomain p from rfl, show s.begin.planState = s.planState from rfl]
    split_ifs
    · exact ⟨hport, rfl, rfl, rfl⟩
    · exact ⟨hport, rfl, rfl, rfl⟩

end Sys2Proof.Machine

namespace Sys2Proof.Machine

/-! ### Control words out of several ports -/

/-- The state without its ports. -/
def State.offPorts (s : State) : State := { s with ports := [] }

theorem offPorts_router {s t : State} (h : t.offPorts = s.offPorts) : t.router = s.router := by injection h
theorem offPorts_regs {s t : State} (h : t.offPorts = s.offPorts) : t.regs = s.regs := by injection h
theorem offPorts_fused {s t : State} (h : t.offPorts = s.offPorts) : t.fused = s.fused := by injection h

theorem offPorts_get {s t : State} (h : t.offPorts = s.offPorts) (f : RegField) (i : Nat) : t.get f i = s.get f i :=
  State.get_congr (offPorts_regs h) (offPorts_fused h) f i

@[simp] theorem offPorts_sendCtrl (s : State) (p typ : Nat) (short body : List Byte) :
    (s.sendCtrl p typ short body).offPorts = s.offPorts := by
  unfold State.sendCtrl
  dsimp only
  split <;> rfl

/-- A toll word with these bytes. -/
def tollWord (b : List Byte) : Ctrl := ⟨2, false, padTo 6 [], padTo 32 b⟩

/-- A toll word goes out of a port that is not fenced. -/
def State.passToll (b : List Byte) (s : State) (p : Nat) : State := if s.fenced p then s else s.sendCtrl p 2 [] b

/-- What a port makes of a toll word that is to go out of it. -/
def State.tollPort (s : State) (b : List Byte) (p : Nat) (x : LinkPort) : LinkPort :=
  if s.fenced p = false ∧ s.train p = .active then { x with urgent := x.urgent ++ [tollWord b] } else x

theorem passToll_offPorts (b : List Byte) (s : State) (p : Nat) : (s.passToll b p).offPorts = s.offPorts := by
  unfold State.passToll
  split
  · rfl
  · exact offPorts_sendCtrl ..

theorem tollPort_congr {s t : State} (h : t.offPorts = s.offPorts) (b : List Byte) (p : Nat) (x : LinkPort) :
    t.tollPort b p x = s.tollPort b p x := by
  have hfenced : t.fenced p = s.fenced p := by simp only [State.fenced, offPorts_get h]
  have htrain : t.train p = s.train p := by simp only [State.train, offPorts_get h]
  unfold State.tollPort
  rw [hfenced, htrain]

theorem passToll_port (b : List Byte) (s : State) (p q : Nat) :
    (s.passToll b p).port q = if q = p then s.tollPort b p (s.port p) else s.port q := by
  by_cases h : s.fenced p = false ∧ s.train p = .active
  · have hpass : s.passToll b p = s.modPort p (fun x => { x with urgent := x.urgent ++ [tollWord b] }) :=
      (if_neg (Bool.eq_false_iff.1 h.1)).trans (if_pos h.2)
    rw [hpass, State.tollPort, if_pos h]
    by_cases hq : q = p
    · rw [if_pos hq, hq, port_modPort_same]
    · rw [if_neg hq, port_modPort_other s _ hq]
  · have hpass : s.passToll b p = s := by
      by_cases hf : s.fenced p = true
      · exact if_pos hf
      · exact (if_neg hf).trans (if_neg (fun ht => h ⟨Bool.eq_false_iff.2 hf, ht⟩))
    rw [hpass, State.tollPort, if_neg h]
    by_cases hq : q = p
    · rw [if_pos hq, hq]
    · rw [if_neg hq]

theorem foldl_passToll_port (b : List Byte) {ps : List Nat} (hps : ps.Nodup) (s : State) (q : Nat) :
    (ps.foldl (State.passToll b) s).port q = if q ∈ ps then s.tollPort b q (s.port q) else s.port q := by
  induction ps generalizing s with
  | nil => simp
  | cons p ps ih =>
    obtain ⟨hp, hps⟩ := List.nodup_cons.1 hps
    rw [List.foldl_cons, ih hps, passToll_port, tollPort_congr (passToll_offPorts b s p)]
    by_cases hq : q = p
    · subst hq
      simp [hp]
    · simp [hq]

/-! ### A new toll at a Rim (R97) -/

/-- The toll is entered in a Rim's seen table. -/
def State.noteSeen (s : State) (r : Nat) (t : Toll) : State :=
  let l := s.seenOf r ++ [Seen.mk t.origin t.tollId t.epoch (t.beatB + 2 * s.router.reach)]
  State.peak { s with router := { s.router with seen := Table.set [] s.router.seen r l } } .RTE_TOLL_SEEN_entries_max 0 l.length

/-- The word for a Rim's neighbours on the chain. -/
def chainWords (r : Nat) (t : TollIn) : List TollIn :=
  (if r = 0 then [] else [TollIn.mk (r - 1) t.own t.toll.hop]) ++ (if r = 5 then [] else [TollIn.mk (r + 1) t.own t.toll.hop])

/-- The word goes to the neighbours, and from RM0 to the hub unless it is the module's own. -/
def State.tellNeighbours (s : State) (r : Nat) (t : TollIn) : State :=
  { s with router := { s.router with
      tollIn := s.router.tollIn ++ chainWords r t
      hubTolls := s.router.hubTolls ++ (if r = 0 ∧ !t.own then [t.toll] else []) } }

/-- The ports of a Rim. -/
def rimPorts (r : Nat) : List Nat := (List.range 6).map (fun i => 6 * r + i)

theorem forwardToll_eq (s : State) (r : Nat) (t : TollIn) :
    s.forwardToll r t = ((rimPorts r).foldl (State.passToll t.toll.hop.bytes) (s.noteSeen r t.toll)).tellNeighbours r t := rfl

theorem mem_rimPorts {r p : Nat} : p ∈ rimPorts r ↔ p / 6 = r := by
  unfold rimPorts
  rw [List.mem_map]
  constructor
  · rintro ⟨i, hi, rfl⟩
    have := List.mem_range.1 hi
    omega
  · intro h
    exact ⟨p % 6, List.mem_range.2 (by omega), by omega⟩

theorem rimPorts_nodup (r : Nat) : (rimPorts r).Nodup :=
  List.Nodup.map (fun a b h => by simpa using h) List.nodup_range

theorem noteSeen_seenOf (s : State) (r : Nat) (t : Toll) :
    (s.noteSeen r t).seenOf r = s.seenOf r ++ [⟨t.origin, t.tollId, t.epoch, t.beatB + 2 * s.router.reach⟩] :=
  Table.get_set_same ..

theorem noteSeen_sameRegs (s : State) (r : Nat) (t : Toll) : SameRegs [.RTE_TOLL_SEEN_entries_max] s (s.noteSeen r t) := fun _ _ hf =>
  State.get_set_other _ _ (.inl (by simpa using hf))

theorem noteSeen_tollPort (s : State) (r : Nat) (t : Toll) (b : List Byte) (p : Nat) (x : LinkPort) :
    (s.noteSeen r t).tollPort b p x = s.tollPort b p x := by
  have hfenced := (noteSeen_sameRegs s r t).fenced (by decide) (by decide) (p := p)
  have htrain : (s.noteSeen r t).train p = s.train p := congrArg Train.ofCode (noteSeen_sameRegs s r t _ _ (by decide))
  unfold State.tollPort
  rw [hfenced, htrain]

theorem forwardToll_router (s : State) (r : Nat) (t : TollIn) :
    (s.forwardToll r t).router = ((s.noteSeen r t.toll).tellNeighbours r t).router := by
  have hrouter : ((rimPorts r).foldl (State.passToll t.toll.hop.bytes) (s.noteSeen r t.toll)).router = (s.noteSeen r t.toll).router :=
    offPorts_router (foldl_keeps State.offPorts (passToll_offPorts _) _ _)
  rw [forwardToll_eq]
  unfold State.tellNeighbours
  rw [hrouter]

theorem forwardToll_port (s : State) (r : Nat) (t : TollIn) (p : Nat) :
    (s.forwardToll r t).port p = if p / 6 = r then s.tollPort t.toll.hop.bytes p (s.port p) else s.port p := by
  rw [forwardToll_eq]
  refine (foldl_passToll_port t.toll.hop.bytes (rimPorts_nodup r) (s.noteSeen r t.toll) p).trans ?_
  rw [noteSeen_tollPort]
  simp only [mem_rimPorts]
  rfl

theorem mem_chainWords {r : Nat} {t n : TollIn} (hr : r < 6) (h : n ∈ chainWords r t) :
    n.toll = t.toll.hop ∧ (n.rim + 1 = r ∨ n.rim = r + 1) ∧ n.rim < 6 := by
  unfold chainWords at h
  rcases List.mem_append.1 h with h | h
  · split at h
    · simp at h
    · obtain rfl := List.mem_singleton.1 h
      exact ⟨rfl, .inl (by dsimp only; omega), by dsimp only; omega⟩
  · split at h
    · simp at h
    · obtain rfl := List.mem_singleton.1 h
      exact ⟨rfl, .inr rfl, by dsimp only; omega⟩

theorem chainWords_length (r : Nat) (t : TollIn) : (chainWords r t).length = if r = 0 ∨ r = 5 then 1 else 2 := by
  unfold chainWords
  by_cases h0 : r = 0
  · simp [h0]
  · by_cases h5 : r = 5 <;> simp [h0, h5]

/-! ### What a Rim does with a word (R97) -/

/-- The words that wait at the Rims. -/
def State.leaveTollIn (s : State) (rest : List TollIn) : State := { s with router := { s.router with tollIn := rest } }

theorem rimTakesToll_eq (r : Nat) (t : TollIn) (rest : List TollIn) (s : State) : rimTakesToll r t rest s =
    if s.get .RTE_EPOCH_epoch 0 = 0 ∨ t.toll.epoch ≠ s.get .RTE_EPOCH_epoch 0 then (s.leaveTollIn rest).bump .PLN_TOLL_RX_foreign 0 1
    else if t.toll.seenIn (s.seenOf r) then s.leaveTollIn rest
    else if (s.seenOf r).length ≥ 512 then (s.leaveTollIn rest).raiseFatal .tollTableFull r
    else (s.leaveTollIn rest).forwardToll r t := rfl

section
variable {r : Nat} {t : TollIn} {s : State} (rest : List TollIn)

theorem rimTakesToll_foreign (h : s.get .RTE_EPOCH_epoch 0 = 0 ∨ t.toll.epoch ≠ s.get .RTE_EPOCH_epoch 0) :
    rimTakesToll r t rest s = (s.leaveTollIn rest).bump .PLN_TOLL_RX_foreign 0 1 := by
  rw [rimTakesToll_eq, if_pos h]

theorem rimTakesToll_seen (h0 : s.get .RTE_EPOCH_epoch 0 ≠ 0) (hepoch : t.toll.epoch = s.get .RTE_EPOCH_epoch 0)
    (hseen : t.toll.seenIn (s.seenOf r) = true) : rimTakesToll r t rest s = s.leaveTollIn rest := by
  rw [rimTakesToll_eq, if_neg (not_or.2 ⟨h0, not_not.2 hepoch⟩), if_pos hseen]

theorem rimTakesToll_new (h0 : s.get .RTE_EPOCH_epoch 0 ≠ 0) (hepoch : t.toll.epoch = s.get .RTE_EPOCH_epoch 0)
    (hnew : t.toll.seenIn (s.seenOf r) = false) (hroom : (s.seenOf r).length < 512) :
    rimTakesToll r t rest s = (s.leaveTollIn rest).forwardToll r t := by
  rw [rimTakesToll_eq, if_neg (not_or.2 ⟨h0, not_not.2 hepoch⟩), if_neg (Bool.eq_false_iff.1 hnew), if_neg (Nat.not_le.2 hroom)]

end

theorem exec_toll {r : RimIx} {s : State} {x : TollIn} {rest : List TollIn} (h : takeToll r s.router.tollIn = some (x, rest)) :
    exec (.toll r) s = occurs s.powered (rimTakesToll r x rest) s := by
  show execToll r s = _
  unfold execToll
  rw [h]

theorem exec_seenEntryRetire (r : RimIx) (s : State) : exec (.seenEntryRetire r) s
    = occurs (s.powered && (s.seenOf r).any (fun e => decide (e.retire ≤ s.time.beat))) (seenRetire r) s := rfl

/-- Settles O31: by the cases of `rimTakesToll`; a new toll goes out of the Rim's ports by a fold that changes each of them once. -/
theorem tollsSpread : Obligations.TollsSpread := by
  unfold Obligations.TollsSpread
  refine ⟨fun r x rest s hpow htake => ?_, fun r s hpow hold => ?_⟩
  · have hrun {P : State → Prop} (h : P (rimTakesToll r x rest s.begin)) : s.Runs (.toll r) P :=
      State.runs_of_occurs (exec_toll htake) hpow h
    refine ⟨fun hforeign => hrun ?_, fun h0 hepoch => ⟨fun hseen => hrun ?_, fun hnew hroom => hrun ?_⟩⟩
    · rw [rimTakesToll_foreign (s := s.begin) rest hforeign]
      exact ⟨rfl, rfl, (SameRegs.refl _ s).bump List.mem_cons_self 0 1, State.get_bump_same ..⟩
    · rw [rimTakesToll_seen (s := s.begin) rest h0 hepoch hseen]
      exact ⟨rfl, rfl, rfl⟩
    · rw [rimTakesToll_new (s := s.begin) rest h0 hepoch hnew hroom]
      have hrouter := forwardToll_router (s.begin.leaveTollIn rest) r x
      refine ⟨?_, ⟨chainWords r x, ?_, fun n hn => mem_chainWords r.isLt hn, chainWords_length r x⟩, ?_, fun p hp hfence htrain => ?_,
        fun p hp => ?_⟩
      · unfold State.seenOf
        rw [hrouter]
        exact noteSeen_seenOf (s.begin.leaveTollIn rest) r x.toll
      · rw [hrouter]
        rfl
      · rw [hrouter]
        simp [State.tellNeighbours, State.noteSeen, State.leaveTollIn, State.peak]
      · rw [forwardToll_port, if_pos hp]
        exact congrArg LinkPort.urgent (if_pos ⟨hfence, htrain⟩)
      · rw [forwardToll_port]
        split
        · next hr =>
          refine if_neg ?_
          rintro ⟨hfence, htrain⟩
          rcases hp with hp | hp | hp
          · exact hp hr
          · exact absurd (hp.symm.trans hfence) (by simp)
          · exact hp htrain
        · rfl
  · have hany : (s.seenOf r).any (fun e => decide (e.retire ≤ s.time.beat)) = true := by simpa using hold
    exact State.runs_of_occurs (exec_seenEntryRetire r s) (by simp only [hpow, hany, Bool.and_self])
      ⟨Table.get_set_same .., rfl, rfl, rfl⟩

end Sys2Proof.Machine

namespace Sys2Proof.Machine

/-! ### What a toll leaves alone -/

/-- The state without what a toll that the hub takes may change: what events do, the fatal reasons raised, the rest lists and the
pending S. -/
def State.offToll (s : State) : State :=
  { s.quiet with
    raised := [], plan := { s.plan with rests := [], stop := none }, router := { s.router with rests := [], stopS := none } }

theorem offToll_of_quiet {s t : State} (h : t.quiet = s.quiet) : t.offToll = s.offToll :=
  (congrArg State.offToll h : t.quiet.offToll = s.quiet.offToll)

theorem offToll_tollIn {s t : State} (h : t.offToll = s.offToll) : t.router.tollIn = s.router.tollIn :=
  (congrArg (fun x => x.router.tollIn) h : t.offToll.router.tollIn = s.offToll.router.tollIn)

theorem offToll_raiseFatal (s : State) (r : Fatal) (d : Nat) : (s.raiseFatal r d).offToll = s.offToll := rfl
theorem offToll_setStop (s : State) (n : Nat) : (s.setStop n).offToll = s.offToll := rfl
theorem offToll_rimStop (s : State) (n : Nat) : (s.rimStop n).offToll = s.offToll := rfl
theorem offToll_hubRest (s : State) (i d : Nat) : (s.hubRest i d).offToll = s.offToll := rfl

theorem hubToll_offToll (s : State) (t : Toll) : (s.hubToll t).offToll = s.offToll := by
  have hnote := offToll_of_quiet (quiet_noteToll s t)
  have hmerged (i : Nat) : ((s.noteToll t).noteMerged i).offToll = s.offToll := (offToll_of_quiet (noteMerged_quiet _ i)).trans hnote
  rw [hubToll_eq]
  split
  · exact offToll_raiseFatal ..
  split
  · exact offToll_raiseFatal ..
  split
  · rw [offToll_rimStop, offToll_setStop, hnote]
  split
  · rw [offToll_raiseFatal, hmerged]
  · rw [offToll_hubRest, hmerged]

theorem hubToll_sameRegs (s : State) (t : Toll) : SameRegs hubTollRegs s (s.hubToll t) := by
  have hnote := noteToll_sameRegs s t
  have hmerged (i : Nat) : SameRegs hubTollRegs s ((s.noteToll t).noteMerged i) :=
    hnote.trans ((noteMerged_sameRegs _ i).mono (by decide))
  rw [hubToll_eq]
  split
  · exact fun _ _ _ => rfl
  split
  · exact fun _ _ _ => rfl
  split
  · exact hnote.trans ((setStop_sameRegs _ _).mono (by decide))
  split
  · exact hmerged _
  · exact (hmerged _).trans ((hubRest_sameRegs _ _ _).mono (by decide))

/-! ### Tolls of the module's own (R96) -/

/-- The toll that the module sends. -/
def State.ownToll (s : State) (cause b d stop detail : Nat) : Toll :=
  { beatB := b, origin := s.deviceId, tollId := s.plan.tollId, epoch := s.get .PLN_EPOCH_epoch 0, restD := d, cause := cause, hops := 0
    stopMeasure := stop, detail := detail % 2 ^ 32 }

/-- A toll of the module's own waits at RM0, and the next one has another number. -/
def State.postToll (s : State) (t : Toll) : State :=
  { s with plan := { s.plan with tollId := (s.plan.tollId + 1) % 2 ^ 16 }
           router := { s.router with tollIn := s.router.tollIn ++ [TollIn.mk 0 true t] } }

theorem postToll_get (s : State) (t : Toll) (f : RegField) (i : Nat) : (s.postToll t).get f i = s.get f i := rfl

theorem sendToll_eq (s : State) (cause b d stop detail : Nat) : s.sendToll cause b d stop detail =
    ((s.bump (origCounter cause) 0 1).postToll (s.ownToll cause b d stop detail)).hubToll (s.ownToll cause b d stop detail) := rfl

theorem sendToll_offToll (s : State) (cause b d stop detail : Nat) :
    (s.sendToll cause b d stop detail).offToll = (s.postToll (s.ownToll cause b d stop detail)).offToll := by
  rw [sendToll_eq, hubToll_offToll]
  rfl

theorem sendToll_tollIn (s : State) (cause b d stop detail : Nat) :
    (s.sendToll cause b d stop detail).router.tollIn = s.router.tollIn ++ [⟨0, true, s.ownToll cause b d stop detail⟩] :=
  offToll_tollIn (sendToll_offToll s cause b d stop detail)

/-- The registers that a toll of the module's own may change. -/
def tollRegs : List RegField :=
  hubTollRegs ++ [.PLN_TOLL_ORIG_region_late, .PLN_TOLL_ORIG_item_late, .PLN_TOLL_ORIG_link, .PLN_TOLL_ORIG_stop]

theorem origCounter_mem (cause : Nat) : origCounter cause ∈ tollRegs := by
  unfold origCounter
  split <;> decide

theorem sendToll_sameRegs (s : State) (cause b d stop detail : Nat) : SameRegs tollRegs s (s.sendToll cause b d stop detail) := by
  have hpost : SameRegs tollRegs s ((s.bump (origCounter cause) 0 1).postToll (s.ownToll cause b d stop detail)) := fun f i hf =>
    (postToll_get ..).trans ((SameRegs.refl tollRegs s).bump (origCounter_mem cause) 0 1 f i hf)
  rw [sendToll_eq]
  exact hpost.trans ((hubToll_sameRegs _ _).mono (List.subset_append_left ..))

/-- The insertion measure and length of a toll originated. -/
def State.noteOriginated (s : State) (i d : Nat) : State :=
  { s with plan := { s.plan with originated := putRest i d (s.plan.originated.filter (fun e => decide (s.time.beat < e.i))) } }

/-- With no toll originated before, lateness tolls. -/
theorem originateToll_first {s : State} (hact : s.hubActs = true) (horig : s.plan.originated = []) (cause b d detail : Nat) :
    s.originateToll cause b d detail
      = (s.noteOriginated (insertionBeat b (s.get .PLN_CFG_toll_reach 0)) d).sendToll cause b d 0 detail := by
  unfold State.originateToll
  dsimp only
  rw [if_neg (by simp [hact]), if_neg (by simp [horig])]
  rfl

/-- It waits at RM0, with the beat at which the lateness was seen and the rest it asks for. -/
theorem originateToll_posts {s : State} (hact : s.hubActs = true) (horig : s.plan.originated = []) (cause b d detail : Nat) :
    ∃ x : TollIn, (s.originateToll cause b d detail).router.tollIn = s.router.tollIn ++ [x] ∧ x.toll.cause = cause ∧ x.toll.beatB = b
      ∧ x.toll.restD = d ∧ x.toll.detail = detail % 2 ^ 32 := by
  rw [originateToll_first hact horig]
  exact ⟨_, sendToll_tollIn .., rfl, rfl, rfl, rfl⟩

theorem originateToll_sameRegs {s : State} (hact : s.hubActs = true) (horig : s.plan.originated = []) (cause b d detail : Nat) :
    SameRegs tollRegs s (s.originateToll cause b d detail) := by
  rw [originateToll_first hact horig]
  exact fun f i hf => (sendToll_sameRegs _ _ _ _ _ _ f i hf).trans rfl

theorem hubActs_of_beatExecutes {s : State} (h : s.beatExecutes = true) (hf : s.fatalActive = false) : s.hubActs = true := by
  unfold State.beatExecutes at h
  unfold State.hubActs
  simp only [Bool.and_eq_true] at h
  obtain ⟨⟨hstate, -⟩, -⟩ := h
  rw [hstate, hf]
  rfl

/-! ### The check of regions (R87, R88, R106) -/

/-- What the check of a measure leaves behind: its margin, and that it has been made. -/
def State.closeCheck (s : State) (m : Nat) (margin : Int) : State :=
  { s with plan := { s.plan with lastRegion := some m, own := s.plan.own ++ [Margin.mk m 0 margin] }, tel := s.tel.noteMargin margin }

/-- Finish words go out where they are enabled. -/
def State.tellFinish (s : State) (m : Nat) (margin : Int) : State :=
  if s.get .PLN_CTRL_finish_words 0 = 1 then s.sendFinish m margin else s

theorem checkRegions_eq (s : State) (m : Nat) (late : List Nat) (margin : Int) : s.checkRegions m late margin =
    ((late.foldl (State.lateRegion s.time.beat) ((List.range 8).foldl (State.noteLate late) s)).closeCheck m margin).tellFinish m margin :=
  rfl

theorem tellFinish_offPorts (s : State) (m : Nat) (margin : Int) : (s.tellFinish m margin).offPorts = s.offPorts := by
  unfold State.tellFinish
  split
  · refine foldl_keeps State.offPorts (fun s p => ?_) _ _
    split
    · exact offPorts_sendCtrl ..
    · rfl
  · rfl

theorem offPorts_plan {s t : State} (h : t.offPorts = s.offPorts) : t.plan = s.plan := by injection h
theorem offPorts_raised {s t : State} (h : t.offPorts = s.offPorts) : t.raised = s.raised := by injection h

/-- A fold of steps of which one alone changes anything. -/
theorem foldl_eq_step {α β : Type} {g : α → β → α} {b : β} (hg : ∀ a c, c ≠ b → g a c = a) {l : List β} (hl : l.Nodup) (hb : b ∈ l)
    (a : α) : l.foldl g a = g a b := by
  have hrest (l : List β) (hl : b ∉ l) (a : α) : l.foldl g a = a := by
    induction l generalizing a with
    | nil => rfl
    | cons c l ih =>
      rw [List.foldl_cons, hg a c (Ne.symm (List.ne_of_not_mem_cons hl)), ih (List.not_mem_of_not_mem_cons hl)]
  induction l generalizing a with
  | nil => simp at hb
  | cons c l ih =>
    obtain ⟨hc, hl⟩ := List.nodup_cons.1 hl
    rw [List.foldl_cons]
    by_cases hcb : c = b
    · subst hcb
      exact hrest l hc _
    · rw [hg a c hcb, ih hl ((List.mem_cons.1 hb).resolve_left (Ne.symm hcb))]

/-- One late region of a die. -/
def State.noteLateOne (s : State) (d g : Nat) : State := (s.bump .PLN_DIE_LATE_late_measures d 1).set .PLN_DIE_LATE_last_region d g

theorem noteLate_none (s : State) (d : Nat) : s.noteLate [] d = s := rfl

theorem noteLate_one {r : Nat} (hr : r < 576) (s : State) :
    (List.range 8).foldl (State.noteLate [r]) s = s.noteLateOne (r / 72) (r % 72) := by
  rw [foldl_eq_step (b := r / 72) _ List.nodup_range (List.mem_range.2 (by omega))]
  · unfold State.noteLate
    simp only [List.filter_cons, beq_self_eq_true, if_pos, List.filter_nil, List.getLast?_singleton]
    rfl
  · intro s d hd
    unfold State.noteLate
    simp only [List.filter_cons, beq_eq_false_iff_ne.2 (Ne.symm hd), List.filter_nil, Bool.false_eq_true, if_false, List.getLast?_nil]

theorem noteLateOne_sameRegs (s : State) (d g : Nat) :
    SameRegs [.PLN_DIE_LATE_late_measures, .PLN_DIE_LATE_last_region] s (s.noteLateOne d g) :=
  ((SameRegs.refl _ s).bump (by decide) d 1).set (by decide) d g

theorem noteLateOne_region (s : State) (d : Nat) {g : Nat} (hg : g < 72) :
    (s.noteLateOne d g).get .PLN_DIE_LATE_last_region d = g :=
  (State.get_set_same ..).trans (Nat.mod_eq_of_lt (lt_trans hg (by decide)))

theorem plan_of_apart {s t : State} (h : t.apart = s.apart) : t.plan = s.plan := by injection h
theorem router_of_apart {s t : State} (h : t.apart = s.apart) : t.router = s.router := by injection h

theorem noteLateOne_apart (s : State) (d g : Nat) : (s.noteLateOne d g).apart = s.apart := by
  rw [State.noteLateOne, apart_set, apart_bump]

/-- A region that has tolled is held until its rest ends. -/
def State.holdRegion (b d r : Nat) (s : State) : State :=
  { s with plan := { s.plan with
      lateRegions := s.plan.lateRegions.filter (fun l => l.region ≠ r)
        ++ [LateRegion.mk r (insertionBeat b (s.get .PLN_CFG_toll_reach 0) + 16 * d)] } }

theorem lateRegion_first {s : State} (h : s.plan.lateRegions = []) (b r : Nat) : s.lateRegion b r =
    (s.originateToll 0 b (s.get .PLN_CFG_region_rest 0) (r % 72 + 2 ^ 7 * (r / 72))).holdRegion b (s.get .PLN_CFG_region_rest 0) r := by
  unfold State.lateRegion
  rw [h, if_neg (by simp)]
  rfl

theorem exec_regionCheck (ps : Word) (s : State) : exec (.regionCheck ps) s =
    occurs (s.planState = .running && s.beatExecutes && isDownbeat s.plan.beat && decide (16 ≤ s.plan.beat)
      && s.plan.lastRegion != some (s.plan.beat / 16 - 1)) (regionCheck ps) s := rfl

theorem regionCheck_eq (ps : Word) {s : State} {m : Nat} (hbeat : s.plan.beat = 16 * (m + 1)) :
    regionCheck ps s = s.checkRegions m (s.lateRegions m) (s.margin m (s.lateRegions m) ps) := by
  have hm : s.plan.beat / 16 - 1 = m := by omega
  unfold regionCheck
  rw [hm]

/-- The check of a measure is made once, at the downbeat that follows it. -/
theorem State.runs_regionCheck {ps : Word} {s : State} {m : Nat} (hstate : s.planState = .running) (hexec : s.beatExecutes = true)
    (hbeat : s.plan.beat = 16 * (m + 1)) (hlast : s.plan.lastRegion ≠ some m) {P : State → Prop}
    (h : P (regionCheck ps s.begin)) : s.Runs (.regionCheck ps) P := by
  have hdown : isDownbeat s.plan.beat = true := by rw [isDownbeat, hbeat, Nat.mul_mod_right]; rfl
  have hfirst : 16 ≤ s.plan.beat := by omega
  have hm : s.plan.beat / 16 - 1 = m := by omega
  exact State.runs_of_occurs (exec_regionCheck ps s) (by simp [hstate, hexec, hdown, hfirst, hm, hlast]) h

/-- With no region late, the check leaves its margin and sends finish words. -/
theorem checkRegions_none (s : State) (m : Nat) (margin : Int) :
    s.checkRegions m [] margin = (s.closeCheck m margin).tellFinish m margin := by
  have hnote : (List.range 8).foldl (State.noteLate []) s = s := foldl_keeps id (g := State.noteLate []) noteLate_none (List.range 8) s
  rw [checkRegions_eq, hnote]
  rfl

/-- With one region late, it tolls, and is its die's last late one. -/
theorem checkRegions_one {s : State} {r : Nat} (hr : r < 576) (hlate : s.plan.lateRegions = []) (m : Nat) (margin : Int) :
    s.checkRegions m [r] margin
      = ((((s.noteLateOne (r / 72) (r % 72)).originateToll 0 s.time.beat (s.get .PLN_CFG_region_rest 0) (r % 72 + 2 ^ 7 * (r / 72))).holdRegion
          s.time.beat (s.get .PLN_CFG_region_rest 0) r).closeCheck m margin).tellFinish m margin := by
  have hplan : (s.noteLateOne (r / 72) (r % 72)).plan = s.plan := plan_of_apart (noteLateOne_apart ..)
  have hrest : (s.noteLateOne (r / 72) (r % 72)).get .PLN_CFG_region_rest 0 = s.get .PLN_CFG_region_rest 0 :=
    noteLateOne_sameRegs _ _ _ _ _ (by decide)
  rw [checkRegions_eq, noteLate_one hr, List.foldl_cons, List.foldl_nil, lateRegion_first (by rw [hplan, hlate]), hrest]

theorem mem_lateRegions {s : State} {m r : Nat} (h : r ∈ s.lateRegions m) : r < 576 :=
  List.mem_range.1 (List.mem_filter.1 h).1

/-- A late region's toll (R88, R95): the machine's present beat, the plan's region rest, and the region's die and number. -/
theorem regionCheck_tolls {ps : Word} {s : State} {m r : Nat} (hbeat : s.plan.beat = 16 * (m + 1)) (hlate : s.lateRegions m = [r])
    (hheld : s.plan.lateRegions = []) (horig : s.plan.originated = []) (hact : s.hubActs = true) :
    (regionCheck ps s).plan.lastRegion = some m
      ∧ (∃ x, (regionCheck ps s).router.tollIn = s.router.tollIn ++ [x] ∧ x.toll.cause = 0 ∧ x.toll.beatB = s.time.beat
          ∧ x.toll.restD = s.get .PLN_CFG_region_rest 0 ∧ x.toll.detail = r % 72 + 2 ^ 7 * (r / 72))
      ∧ (regionCheck ps s).get .PLN_DIE_LATE_last_region (r / 72) = r % 72 := by
  have hr : r < 576 := mem_lateRegions (by rw [hlate]; exact List.mem_singleton_self r)
  rw [regionCheck_eq ps hbeat, hlate, checkRegions_one hr hheld]
  generalize hmargin : s.margin m [r] ps = margin
  generalize hu : s.noteLateOne (r / 72) (r % 72) = u
  have hur := noteLateOne_sameRegs s (r / 72) (r % 72)
  have hua := noteLateOne_apart s (r / 72) (r % 72)
  rw [hu] at hur hua
  have huact : u.hubActs = true := by
    have hstate : u.planState = s.planState := congrArg PlanState.ofCode (hur _ _ (by decide))
    have hfatal : u.fatalActive = s.fatalActive := congrArg (fun n => n == 1) (hur .FLT_FATAL_active 0 (by decide))
    rw [State.hubActs, hstate, hfatal]
    exact hact
  have horigu : u.plan.originated = [] := by rw [plan_of_apart hua, horig]
  obtain ⟨x, hpost, hcause, hbeatB, hrestD, hdetail⟩ :=
    originateToll_posts huact horigu 0 s.time.beat (s.get .PLN_CFG_region_rest 0) (r % 72 + 2 ^ 7 * (r / 72))
  have hregs := originateToll_sameRegs huact horigu 0 s.time.beat (s.get .PLN_CFG_region_rest 0) (r % 72 + 2 ^ 7 * (r / 72))
  generalize u.originateToll 0 s.time.beat (s.get .PLN_CFG_region_rest 0) (r % 72 + 2 ^ 7 * (r / 72)) = w at hpost hregs ⊢
  have hoff := tellFinish_offPorts ((w.holdRegion s.time.beat (s.get .PLN_CFG_region_rest 0) r).closeCheck m margin) m margin
  refine ⟨?_, ⟨x, ?_, hcause, hbeatB, hrestD, ?_⟩, ?_⟩
  · rw [offPorts_plan hoff]
    rfl
  · rw [offPorts_router hoff, ← router_of_apart hua]
    exact hpost
  · rw [hdetail]
    exact Nat.mod_eq_of_lt (by omega)
  · rw [offPorts_get hoff, ← noteLateOne_region s (r / 72) (Nat.mod_lt r (by decide)), hu]
    exact hregs _ _ (by decide)

/-! ### Due items (R92 to R94) -/

/-- The tier-2 accesses of a due beat are late from then on, and the check has been made. -/
def State.closeDue (s : State) (p : Nat) : State :=
  { s with
    tiles := s.tiles.map (fun (e : Nat × Tile) => (e.1, { e.2 with accesses := e.2.accesses.map (fun a =>
      if a.tier = 2 ∧ a.due = p then { a with late := true } else a) }))
    plan := { s.plan with lastDue := some p } }

/-- The tier-2 accesses that are due now are late. -/
def State.lateAccesses (p : Nat) (s : State) : State :=
  (s.tier2Items (fun a => a.due == p)).foldl (fun s a => s.accessLate a.2) s

theorem dueBeatCheck_eq (x : Plan) (s : State) : dueBeatCheck x s =
    (((x.dueAt s.plan.beat).foldl (State.itemLate x) s).lateAccesses s.plan.beat).closeDue s.plan.beat := rfl

theorem tier2Items_congr {s t : State} (h : t.tiles = s.tiles) (p : TierAccess → Bool) : t.tier2Items p = s.tier2Items p := by
  unfold State.tier2Items
  rw [h]

theorem tiles_of_field {s t : State} (h : t.field = s.field) : t.tiles = s.tiles := (SameTiles.of_field h).1

/-- With one item due and no tier-2 access, the check is that item's. -/
theorem dueBeatCheck_one {x : Plan} {e : DueEntry} {s : State} (hdue : x.dueAt s.plan.beat = [e])
    (htier : s.tier2Items (fun a => a.due == s.plan.beat) = []) : dueBeatCheck x s = (s.itemLate x e).closeDue s.plan.beat := by
  have hlate : (s.itemLate x e).tier2Items (fun a => a.due == s.plan.beat) = [] :=
    (tier2Items_congr (tiles_of_field (State_itemLate_field x s e)) _).trans htier
  rw [dueBeatCheck_eq, hdue, List.foldl_cons, List.foldl_nil, State.lateAccesses, hlate, List.foldl_nil]

theorem exec_dueBeatCheck {s : State} {x : Plan} (hx : s.plan.plan = some x) : exec .dueBeatCheck s =
    occurs (s.beatExecutes && s.plan.lastDue != some s.plan.beat
      && (!(x.dueAt s.plan.beat).isEmpty || !(s.tier2Items (fun a => a.due == s.plan.beat)).isEmpty)) (dueBeatCheck x) s := by
  show execDueBeatCheck s = _
  unfold execDueBeatCheck
  rw [hx]

theorem itemLate_present {x : Plan} {e : DueEntry} {s : State} (h : s.missing x e s.plan.beat = false) : s.itemLate x e = s :=
  if_neg (by simp [h])

theorem itemLate_missing {x : Plan} {e : DueEntry} {s : State} (h : s.missing x e s.plan.beat = true) : s.itemLate x e =
    s.originateToll 1 s.time.beat (if e.restD = 0 then s.get .PLN_CFG_item_rest 0 else e.restD) e.tag := if_pos h

/-- The second check of the tier-2 accesses, and that it has been made. -/
def State.closeSecond (s : State) (p k : Nat) : State :=
  { s with
    tiles := s.tiles.map (fun (e : Nat × Tile) => (e.1, { e.2 with accesses := e.2.accesses.map (TierAccess.retire p k) }))
    plan := { s.plan with lastSecond := some p } }

/-- An item still missing immediately before its consumer is lost. -/
def State.itemLost (x : Plan) (p : Nat) (s : State) (e : DueEntry) : State :=
  if s.missing x e (p - e.consume) then s.raiseFatal .itemLost e.tag else s

/-- So is a tier-2 access whose second check this is. -/
def State.loseAccesses (p : Nat) (s : State) : State :=
  (s.tier2Items (fun a => a.due + s.get .PLN_CFG_toll_reach 0 == p)).foldl (fun s a => s.raiseFatal .itemLost (lostAccess a.1)) s

/-- The second check is made with the toll reach K. -/
def State.finishSecond (p : Nat) (s : State) : State := s.closeSecond p (s.get .PLN_CFG_toll_reach 0)

theorem secondCheck_eq (x : Plan) (s : State) : secondCheck x s =
    (((x.secondAt s.plan.beat).foldl (State.itemLost x s.plan.beat) s).loseAccesses s.plan.beat).finishSecond s.plan.beat := rfl

theorem secondCheck_one {x : Plan} {e : DueEntry} {s : State} (hdue : x.secondAt s.plan.beat = [e])
    (htier : s.tier2Items (fun a => a.due + s.get .PLN_CFG_toll_reach 0 == s.plan.beat) = []) :
    secondCheck x s = (s.itemLost x s.plan.beat e).closeSecond s.plan.beat (s.get .PLN_CFG_toll_reach 0) := by
  have hlost : s.itemLost x s.plan.beat e = s ∨ s.itemLost x s.plan.beat e = s.raiseFatal .itemLost e.tag := by
    unfold State.itemLost
    split
    · exact .inr rfl
    · exact .inl rfl
  have hreach : (s.itemLost x s.plan.beat e).get .PLN_CFG_toll_reach 0 = s.get .PLN_CFG_toll_reach 0 := by
    rcases hlost with h | h <;> rw [h]
    rfl
  have htiles : (s.itemLost x s.plan.beat e).tiles = s.tiles := by
    rcases hlost with h | h <;> rw [h]
    rfl
  rw [secondCheck_eq, hdue, List.foldl_cons, List.foldl_nil, State.loseAccesses, hreach, tier2Items_congr htiles, htier, List.foldl_nil,
    State.finishSecond, hreach]

theorem exec_secondCheck {s : State} {x : Plan} (hx : s.plan.plan = some x) : exec .secondCheck s =
    occurs (s.beatExecutes && s.plan.lastSecond != some s.plan.beat
      && (!(x.secondAt s.plan.beat).isEmpty
        || !(s.tier2Items (fun a => a.due + s.get .PLN_CFG_toll_reach 0 == s.plan.beat)).isEmpty)) (secondCheck x) s := by
  show execSecondCheck s = _
  unfold execSecondCheck
  rw [hx]

theorem itemLost_regs (x : Plan) (p : Nat) (s : State) (e : DueEntry) : (s.itemLost x p e).regs = s.regs := by
  unfold State.itemLost
  split <;> rfl

theorem itemLost_raised (x : Plan) (p : Nat) (s : State) (e : DueEntry) : (s.itemLost x p e).raised =
    if s.missing x e (p - e.consume) then s.raised ++ [⟨.itemLost, e.tag % 2 ^ 32⟩] else s.raised := by
  unfold State.itemLost
  split <;> rfl

/-- Settles O30: with one region late, or one item missing, the check is one toll of the module's own, or one fatal reason. -/
theorem checksToll : Obligations.ChecksToll := by
  unfold Obligations.ChecksToll
  refine ⟨fun ps s m hstate hexec hbeat hlast => ⟨fun hlate => ?_, fun r hlate hheld horig hfatal => ?_⟩,
    fun x e s hx hexec hlast hdue htier hfatal horig => ?_, fun x e s hx hexec hlast hdue htier => ?_⟩
  · refine State.runs_regionCheck hstate hexec hbeat hlast ?_
    have hlate' : s.begin.lateRegions m = [] := hlate
    have hmargin : s.begin.margin m [] ps = if s.hasWork m then toSigned 32 ps.toNat else 640000 := rfl
    rw [regionCheck_eq (s := s.begin) ps hbeat, hlate', checkRegions_none, hmargin]
    generalize (if s.hasWork m = true then toSigned 32 ps.toNat else 640000) = margin
    have hoff := tellFinish_offPorts (s.begin.closeCheck m margin) m margin
    refine ⟨?_, ?_, ?_, ?_, ?_⟩
    · rw [offPorts_router hoff]
      rfl
    · rw [offPorts_raised hoff]
      rfl
    · rw [offPorts_plan hoff]
      rfl
    · rw [offPorts_plan hoff]
      rfl
    · rw [offPorts_regs hoff]
      rfl
  · exact State.runs_regionCheck hstate hexec hbeat hlast
      (regionCheck_tolls (s := s.begin) hbeat hlate hheld horig (hubActs_of_beatExecutes hexec hfatal))
  · refine State.runs_of_occurs (exec_dueBeatCheck hx) (by simp [hexec, hlast, hdue]) ?_
    rw [dueBeatCheck_one (s := s.begin) hdue htier]
    refine ⟨rfl, ?_, fun hpresent => ?_, fun hmissing => ?_⟩
    · exact SameBytes.of_field (s := s) (t := s.begin.itemLate x e) (State_itemLate_field x s.begin e)
    · rw [itemLate_present (s := s.begin) hpresent]
      exact ⟨rfl, rfl⟩
    · rw [itemLate_missing (s := s.begin) hmissing]
      obtain ⟨y, hpost, hcause, hbeatB, hrestD, hdetail⟩ := originateToll_posts (s := s.begin) (hubActs_of_beatExecutes hexec hfatal) horig
        1 s.time.beat (if e.restD = 0 then s.get .PLN_CFG_item_rest 0 else e.restD) e.tag
      exact ⟨y, hpost, hcause, hbeatB, hdetail, hrestD⟩
  · refine State.runs_of_occurs (exec_secondCheck hx) (by simp [hexec, hlast, hdue]) ?_
    rw [secondCheck_one (s := s.begin) hdue htier]
    exact ⟨rfl, itemLost_regs x s.plan.beat s.begin e, itemLost_raised x s.plan.beat s.begin e⟩

end Sys2Proof.Machine

namespace Sys2Proof.Machine

/-! ### STOP_AT_MEASURE (R103) -/

/-- Rests on the way only put a beat off. -/
theorem le_passRests (l : List RestEntry) (cur t : Nat) : t ≤ passRests l cur t := by
  induction l generalizing cur t with
  | nil => exact le_rfl
  | cons e l ih =>
    unfold passRests
    dsimp only
    split
    · exact le_trans (Nat.le_add_right _ _) (ih _ _)
    · exact ih _ _

theorem le_executionBeat (rs : List RestEntry) (b pb p : Nat) : b + (p - pb) ≤ executionBeat rs b pb p := le_passRests rs b _

/-- A stop measure that the command takes is more than K beats away. -/
theorem executionBeat_of_stop {k n pb : Nat} (hk : 0 < k) (hn : pb / 16 + ceilDiv k 16 + 1 ≤ n) (rs : List RestEntry) (b : Nat) :
    b + 1 < executionBeat rs b pb (16 * n) := by
  have hreach : 1 ≤ ceilDiv k 16 := by unfold ceilDiv; omega
  have := le_executionBeat rs b pb (16 * n)
  omega

/-- The command's toll waits at RM0, not yet counted. -/
def State.postStop (s : State) (n : Nat) : State :=
  (s.bump .PLN_TOLL_ORIG_stop 0 1).postToll (s.ownToll 4 s.time.beat 0 n 0)

theorem sendToll_stop {s : State} {n : Nat} (hb : s.time.beat + 1 < executionBeat s.plan.rests s.time.beat s.plan.beat (16 * n)) :
    s.sendToll 4 s.time.beat 0 n 0
      = (((s.postStop n).noteToll (s.ownToll 4 s.time.beat 0 n 0)).setStop ((smallerStop s.plan.stop n).getD 0)).rimStop n := by
  have hm : (s.ownToll 4 s.time.beat 0 n 0).malformed = false := rfl
  rw [sendToll_eq]
  exact hubToll_stop (s := s.postStop n) hm rfl hb

theorem rimStop_get (s : State) (n : Nat) (f : RegField) (i : Nat) : (s.rimStop n).get f i = s.get f i := rfl

theorem setStop_valid (s : State) (n : Nat) : (s.setStop n).get .PLN_STOP_HI_stop_valid 0 = 1 := State.get_set_same ..

theorem some_getD_smallerStop (s : Option Nat) (n : Nat) : some ((smallerStop s n).getD 0) = smallerStop s n := by
  cases s <;> rfl

theorem stopAtMeasure_refused {s : State} {f : Fetched} (hfatal : s.fatalActive = false)
    (h : (s.planState ≠ .running ∧ s.planState ≠ .resting) ∨ f.par 8 8 < s.plan.beat / 16 + ceilDiv (s.get .PLN_CFG_toll_reach 0) 16 + 1) :
    stopAtMeasure f s = s.complete f .stopRefused 0 := by
  unfold stopAtMeasure
  dsimp only
  rw [if_neg (by simp [hfatal]), if_pos (by rcases h with ⟨h1, h2⟩ | h <;> simp [*])]

theorem stopAtMeasure_taken {s : State} {f : Fetched} (hfatal : s.fatalActive = false)
    (hstate : s.planState = .running ∨ s.planState = .resting)
    (hn : s.plan.beat / 16 + ceilDiv (s.get .PLN_CFG_toll_reach 0) 16 + 1 ≤ f.par 8 8) :
    stopAtMeasure f s = (s.sendToll 4 s.time.beat 0 (f.par 8 8) 0).complete f .success 0 := by
  unfold stopAtMeasure
  dsimp only
  have hin : ¬ f.par 8 8 < s.plan.beat / 16 + ceilDiv (s.get .PLN_CFG_toll_reach 0) 16 + 1 := Nat.not_lt.2 hn
  rw [if_neg (by simp [hfatal]), if_neg]
  rcases hstate with h | h <;> simp only [h, hin, decide_false] <;> decide

/-- A command in time (R103): its toll goes out, and its measure is the pending stop unless a smaller one is. -/
theorem stopAtMeasure_stops {s : State} {f : Fetched} (hfatal : s.fatalActive = false)
    (hstate : s.planState = .running ∨ s.planState = .resting) (hk : 0 < s.get .PLN_CFG_toll_reach 0)
    (hn : s.plan.beat / 16 + ceilDiv (s.get .PLN_CFG_toll_reach 0) 16 + 1 ≤ f.par 8 8) :
    Completed f .success 0 s (stopAtMeasure f s) ∧ (stopAtMeasure f s).plan.stop = smallerStop s.plan.stop (f.par 8 8)
      ∧ (stopAtMeasure f s).get .PLN_STOP_HI_stop_valid 0 = 1 ∧ (stopAtMeasure f s).planState = s.planState
      ∧ (stopAtMeasure f s).raised = s.raised
      ∧ (∃ x, (stopAtMeasure f s).router.tollIn = s.router.tollIn ++ [x] ∧ x.rim = 0 ∧ x.toll.cause = 4 ∧ x.toll.stopMeasure = f.par 8 8
          ∧ x.toll.restD = 0 ∧ x.toll.beatB = s.time.beat ∧ x.toll.origin = s.deviceId ∧ x.toll.tollId = s.plan.tollId)
      ∧ (stopAtMeasure f s).plan.tollId = (s.plan.tollId + 1) % 2 ^ 16 ∧ (stopAtMeasure f s).plan.rests = s.plan.rests := by
  rw [stopAtMeasure_taken hfatal hstate hn]
  generalize f.par 8 8 = n at hn ⊢
  have hsent := sendToll_stop (executionBeat_of_stop hk hn s.plan.rests s.time.beat)
  have hoff := sendToll_offToll s 4 s.time.beat 0 n 0
  have hin := sendToll_tollIn s 4 s.time.beat 0 n 0
  have hregs := sendToll_sameRegs s 4 s.time.beat 0 n 0
  have hnote := quiet_noteToll (s.postStop n) (s.ownToll 4 s.time.beat 0 n 0)
  have hplan : (s.sendToll 4 s.time.beat 0 n 0).plan = { (s.postStop n).plan with stop := smallerStop s.plan.stop n } := by
    rw [hsent, rimStop_plan, setStop_plan, quiet_plan hnote, some_getD_smallerStop]
  have hraised : (s.sendToll 4 s.time.beat 0 n 0).raised = s.raised := by
    rw [hsent, rimStop_raised, setStop_raised, quiet_raised hnote]
    rfl
  have hvalid : (s.sendToll 4 s.time.beat 0 n 0).get .PLN_STOP_HI_stop_valid 0 = 1 := by
    rw [hsent, rimStop_get, setStop_valid]
  have hstate : (s.sendToll 4 s.time.beat 0 n 0).planState = s.planState := congrArg PlanState.ofCode (hregs .PLN_STATUS_state 0 (by decide))
  generalize s.sendToll 4 s.time.beat 0 n 0 = u at hoff hin hplan hraised hvalid hstate ⊢
  have hcore := core_complete u f .success 0
  refine ⟨?_, ?_, ?_, ?_, ?_, ⟨⟨0, true, s.ownToll 4 s.time.beat 0 n 0⟩, ?_, rfl, rfl, rfl, rfl, rfl, rfl, rfl⟩, ?_, ?_⟩
  · exact complete_completed (congrArg (fun x => x.host.queues) hoff) (congrArg (fun x => x.host.fetched) hoff) f .success 0
  · rw [core_plan hcore, hplan]
  · rw [complete_get _ _ _ _ _ (by decide), hvalid]
  · rw [← hstate]
    exact congrArg PlanState.ofCode (complete_get _ _ _ _ _ (by decide))
  · rw [core_raised hcore, hraised]
  · rw [core_router hcore, hin]
  · rw [core_plan hcore, hplan]
    rfl
  · rw [core_plan hcore, hplan]
    rfl

end Sys2Proof.Machine

namespace Sys2Proof.Machine

/-! ### The registers of a plan, and what goes with it (R86, R347) -/

theorem Table.find?_keep {α : Type} (p : Nat → Bool) (t : Table α) (i : Nat) :
    (Table.keep p t).find? i = if p i then t.find? i else none := by
  induction t with
  | nil => simp [Table.keep]
  | cons e t ih =>
    obtain ⟨k, v⟩ := e
    have hcons : Table.keep p ((k, v) :: t) = if p k then (k, v) :: Table.keep p t else Table.keep p t := List.filter_cons
    by_cases hk : k = i
    · subst hk
      cases hp : p k <;> simp [hcons, hp, ih, Table.find?_cons]
    · cases hp : p k <;> simp [hcons, hp, ih, Table.find?_cons, hk]

/-- A field whose key stays reads as it did. -/
theorem State.get_keep (s : State) {p : Nat → Bool} {f : RegField} {i : Nat} (h : p (regKey f i) = true) :
    ({ s with regs := Table.keep p s.regs } : State).get f i = s.get f i := by
  unfold State.get Table.get
  rw [Table.find?_keep, if_pos h]

theorem regKey_mod (f : RegField) (i : Nat) : regKey f i % 512 = f.ctorIdx := by
  have := f.ctorIdx_lt
  unfold regKey
  omega

theorem armAll_sameRegs (s : State) (code : Nat) : SameRegs [.BEAT_REG_FCST_armed_code] s (s.armAll code) := by
  intro f i hf
  have hne : f ≠ .BEAT_REG_FCST_armed_code := by simpa using hf
  unfold State.armAll
  split
  · refine State.get_keep s (decide_eq_true ?_)
    rw [regKey_mod]
    exact fun h => hne (RegField.ctorIdx_inj h)
  · exact SameRegs.foldl (fs := [.BEAT_REG_FCST_armed_code]) (g := fun s r => s.set .BEAT_REG_FCST_armed_code r code)
      (fun s r => (SameRegs.refl _ s).set List.mem_cons_self r code) _ s f i hf

/-- Back from a derating: every region applies no code, unless the module rests in Hush (R69, R433). -/
def State.liftCodes (s : State) : State := if s.power = .hush || s.pwr.entry = some 1 then s else s.applyAll 0xFF

theorem liftCodes_sameRegs (s : State) : SameRegs [.BEAT_REG_FCST_armed_code] s s.liftCodes := by
  unfold State.liftCodes
  split
  · exact SameRegs.refl _ s
  · exact armAll_sameRegs { s with time := { s.time with applied := [] } } 0xFF

/-- No port has a budget from a plan. -/
def State.clearGives (s : State) : State :=
  s.each (List.range 36) (fun s i => s.clearAll [.LNK_GIVE_give_beats, .LNK_GIVE_in_plan] i)

theorem clearGives_sameRegs (s : State) : SameRegs [.LNK_GIVE_give_beats, .LNK_GIVE_in_plan] s s.clearGives :=
  SameRegs.foldl (fun s i => (SameRegs.refl _ s).clearAll (List.Subset.refl _) i) _ s

/-- The hub's engine, the tiles' programs, the serving state and ingest without a plan. -/
def State.forgetPlan (s : State) : State :=
  { s.unplaceTiles with
    plan := s.plan.fresh none, serving := Serving.reset, host := { s.host with ingest := [] }
    time := { s.time with handed := [], stops := [] } }

theorem clearPlan_eq (s : State) : s.clearPlan = ((s.clearAll planFields 0).clearGives).forgetPlan.liftCodes := rfl

/-- No port has used a slot of a plan. -/
def State.clearSlots (s : State) : State := s.each (List.range 36) (fun s i => s.modPort i (fun x => { x with slotUse := [], wordIndex := [] }))

/-- A router without its plan; its routes and vias stay. -/
def Router.planless (r : Router) : Router :=
  { r with flaws := r.flaws.filter (fun f => decide (f.table.val ≥ 3)), ports := [], slots := [], items := [], peals := [], rests := []
           plan := none, planBeat := 0, start := none, stopS := none, stopTick := none, repeats := 0 }

def State.withRouter (s : State) (r : Router) : State := { s with router := r }

theorem clearRouter_eq (s : State) : s.clearRouter =
    (((s.set .RTE_EPOCH_epoch 0 0).set .RTE_PLAN_rstate 0 0).set .RTE_PLAN_forwarding_only 0 0).clearSlots.withRouter s.router.planless := rfl

theorem clearSlots_offPorts (s : State) : s.clearSlots.offPorts = s.offPorts :=
  foldl_keeps State.offPorts (g := fun s i => s.modPort i (fun x => { x with slotUse := [], wordIndex := [] })) (fun _ _ => rfl) _ s

theorem clearRouter_router (s : State) : s.clearRouter.router = s.router.planless := rfl

theorem withRouter_get (s : State) (r : Router) (f : RegField) (i : Nat) : (s.withRouter r).get f i = s.get f i := rfl

theorem clearRouter_get (s : State) (f : RegField) (i : Nat) : s.clearRouter.get f i
    = (((s.set .RTE_EPOCH_epoch 0 0).set .RTE_PLAN_rstate 0 0).set .RTE_PLAN_forwarding_only 0 0).get f i := by
  rw [clearRouter_eq, withRouter_get, offPorts_get (clearSlots_offPorts _)]

theorem withRouter_plan (s : State) (r : Router) : (s.withRouter r).plan = s.plan := rfl

theorem clearRouter_plan (s : State) : s.clearRouter.plan = s.plan := by
  rw [clearRouter_eq, withRouter_plan, offPorts_plan (clearSlots_offPorts _)]
  rfl

theorem clearRouter_epoch (s : State) : s.clearRouter.get .RTE_EPOCH_epoch 0 = 0 := by
  rw [clearRouter_get, State.get_set_other _ _ (.inl (by decide)), State.get_set_other _ _ (.inl (by decide))]
  exact State.get_set_same ..

theorem clearRouter_rstate (s : State) : s.clearRouter.get .RTE_PLAN_rstate 0 = 0 := by
  rw [clearRouter_get, State.get_set_other _ _ (.inl (by decide))]
  exact State.get_set_same ..

theorem clearRouter_sameRegs (s : State) :
    SameRegs [.RTE_EPOCH_epoch, .RTE_PLAN_rstate, .RTE_PLAN_forwarding_only] s s.clearRouter := by
  intro f i hf
  rw [clearRouter_get]
  exact SameRegs.set (.set (.set (.refl _ s) (by decide) _ _) (by decide) _ _) (by decide) _ _ f i hf

/-- The registers that a hub without its plan shows anew. -/
def clearPlanRegs : List RegField := planFields ++ [.LNK_GIVE_give_beats, .LNK_GIVE_in_plan, .BEAT_REG_FCST_armed_code]

theorem forgetPlan_get (s : State) (f : RegField) (i : Nat) : s.forgetPlan.get f i = s.get f i := rfl

/-- The rest of what goes with a plan changes no register of the plan. -/
theorem clearPlan_get (s : State) {f : RegField} (i : Nat)
    (hf : f ∉ [RegField.LNK_GIVE_give_beats, .LNK_GIVE_in_plan, .BEAT_REG_FCST_armed_code]) :
    s.clearPlan.get f i = (s.clearAll planFields 0).get f i := by
  simp only [List.mem_cons, List.not_mem_nil, or_false, not_or] at hf
  obtain ⟨hgive, hin, harmed⟩ := hf
  rw [clearPlan_eq, liftCodes_sameRegs _ f i (by simpa using harmed), forgetPlan_get, clearGives_sameRegs _ f i (by simp [hgive, hin])]

theorem clearPlan_sameRegs (s : State) : SameRegs clearPlanRegs s s.clearPlan := by
  intro f i hf
  obtain ⟨hplan, hrest⟩ := not_or.1 (mt List.mem_append.2 hf)
  rw [clearPlan_get s i hrest]
  exact State.get_clearAll_other s (.inl hplan)

theorem clearPlan_epoch (s : State) : s.clearPlan.get .PLN_EPOCH_epoch 0 = 0 := by
  rw [clearPlan_get s 0 (by decide)]
  exact State.get_clearAll_mem s 0 (by decide)

/-! #### What stays -/

/-- The state without the plan: neither its engine, its programs, its router tables and slots, its budgets, nor what events change. -/
def State.planless (s : State) : State :=
  { s.quiet with
    tiles := [], plan := PlanEngine.reset, ports := [], router := Router.reset, serving := Serving.reset
    host := { s.host with evtWritten := 0, evtSeq := 0, evtLost := 0, ingest := [] }
    time := { s.time with handed := [], stops := [], applied := [] }, latches := [] }

theorem planless_of_quiet {s t : State} (h : t.quiet = s.quiet) : t.planless = s.planless :=
  (congrArg State.planless h : t.quiet.planless = s.quiet.planless)

theorem planless_of_apart {s t : State} (h : t.apart = s.apart) : t.planless = s.planless :=
  (congrArg State.planless h : t.apart.planless = s.apart.planless)

theorem planless_of_offPorts {s t : State} (h : t.offPorts = s.offPorts) : t.planless = s.planless :=
  (congrArg State.planless h : t.offPorts.planless = s.offPorts.planless)

theorem clearGives_apart (s : State) : s.clearGives.apart = s.apart :=
  foldl_keeps State.apart (g := fun s i => s.clearAll [.LNK_GIVE_give_beats, .LNK_GIVE_in_plan] i) (fun s i => apart_clearAll s _ i) _ s

theorem forgetPlan_planless (s : State) : s.forgetPlan.planless = s.planless := rfl

theorem armAll_apart (s : State) (code : Nat) : (s.armAll code).apart = s.apart := by
  unfold State.armAll
  split
  · rfl
  · exact foldl_keeps State.apart (g := fun s r => s.set .BEAT_REG_FCST_armed_code r code) (fun _ _ => rfl) _ s

/-- The state without its clock, nor its outputs, registers, latches and hidden accumulators. -/
def State.offTime (s : State) : State := { s.apart with time := TimeBase.reset }

theorem offTime_of_apart {s t : State} (h : t.apart = s.apart) : t.offTime = s.offTime :=
  (congrArg State.offTime h : t.apart.offTime = s.apart.offTime)

theorem liftCodes_cases (s : State) : s.liftCodes = s ∨ s.liftCodes.apart = ({ s with time := { s.time with applied := [] } } : State).apart := by
  unfold State.liftCodes
  split
  · exact .inl rfl
  · exact .inr (armAll_apart { s with time := { s.time with applied := [] } } 0xFF)

theorem liftCodes_offTime (s : State) : s.liftCodes.offTime = s.offTime := by
  rcases liftCodes_cases s with h | h
  · rw [h]
  · rw [offTime_of_apart h]
    rfl

theorem liftCodes_planless (s : State) : s.liftCodes.planless = s.planless := by
  rcases liftCodes_cases s with h | h
  · rw [h]
  · rw [planless_of_apart h]
    rfl

theorem clearPlan_planless (s : State) : s.clearPlan.planless = s.planless := by
  rw [clearPlan_eq, liftCodes_planless, forgetPlan_planless, planless_of_apart (clearGives_apart _), planless_of_apart (apart_clearAll _ _ _)]

theorem withRouter_planless (s : State) (r : Router) : (s.withRouter r).planless = s.planless := rfl

theorem clearRouter_planless (s : State) : s.clearRouter.planless = s.planless := by
  rw [clearRouter_eq, withRouter_planless, planless_of_offPorts (clearSlots_offPorts _)]
  rfl

theorem SameBytes.of_planless {s t : State} (h : t.planless = s.planless) : SameBytes s t := by
  have hspad : t.spad = s.spad := (congrArg State.spad h : t.planless.spad = s.planless.spad)
  have htier1 : t.tier1 = s.tier1 := (congrArg State.tier1 h : t.planless.tier1 = s.planless.tier1)
  have htier2 : t.tier2 = s.tier2 := (congrArg State.tier2 h : t.planless.tier2 = s.planless.tier2)
  have hmgmt : t.mgmt = s.mgmt := (congrArg State.mgmt h : t.planless.mgmt = s.planless.mgmt)
  intro a
  rw [hspad, htier1, htier2, hmgmt]
  exact ⟨rfl, rfl, rfl, rfl, rfl⟩

theorem beat_of_planless {s t : State} (h : t.planless = s.planless) : t.time.beat = s.time.beat :=
  (congrArg (fun x => x.time.beat) h : t.planless.time.beat = s.planless.time.beat)

theorem forgetPlan_apart (s : State) : s.forgetPlan.apart = s.apart.forgetPlan := rfl

theorem clearPlan_offTime (s : State) : s.clearPlan.offTime = s.forgetPlan.offTime := by
  have happ : ((s.clearAll planFields 0).clearGives).apart = s.apart := (clearGives_apart _).trans (apart_clearAll _ _ _)
  have hforget : ((s.clearAll planFields 0).clearGives).forgetPlan.apart = s.forgetPlan.apart := by
    rw [forgetPlan_apart, happ, forgetPlan_apart]
  rw [clearPlan_eq, liftCodes_offTime, offTime_of_apart hforget]

/-! ### PLAN_UNLOAD (R86, R343) -/

theorem completeRaw_ingest (s : State) (f : Fetched) (code result : Nat) : (s.completeRaw f code result).host.ingest = s.host.ingest := by
  have hdrop : ((s.countError code).dropFetched f).host.ingest = s.host.ingest := by
    unfold State.dropFetched
    rw [countError_host]
  have hwrite (x : Queue) : (((s.countError code).dropFetched f).writeEntry f code result x).host.ingest
      = ((s.countError code).dropFetched f).host.ingest := by
    show (State.sendMsix _ _).host.ingest = _
    rw [sendMsix_host]
    rfl
  rw [completeRaw_eq]
  split
  · exact hdrop
  · split
    · exact hdrop
    · exact (hwrite _).trans hdrop

theorem complete_ingest (s : State) (f : Fetched) (c : Cc) (result : Nat) : (s.complete f c result).host.ingest = s.host.ingest := by
  rw [← completeRaw_ingest s f c.code result]
  unfold State.complete State.completeNum State.reap
  split
  · rfl
  · split
    · rfl
    · dsimp only
      split
      · rfl
      · exact completeRaw_ingest _ _ 0 _

theorem field_of_core {s t : State} (h : t.core = s.core) : SameBytes s t ∧ SameTiles s t :=
  ⟨.of_field (core_field h), .of_field (core_field h)⟩

theorem SameBytes.trans {s t u : State} (h : SameBytes s t) (h' : SameBytes t u) : SameBytes s u := by
  intro a
  obtain ⟨h1, h2, h3, h4, h5⟩ := h a
  obtain ⟨h1', h2', h3', h4', h5'⟩ := h' a
  exact ⟨h1'.trans h1, h2'.trans h2, h3'.trans h3, h4'.trans h4, h5'.trans h5⟩

theorem completed_of_planless {s u : State} (h : u.planless = s.planless) (f : Fetched) (c : Cc) (result : Nat) :
    Completed f c result s (u.complete f c result) := by
  have hqueues : u.host.queues = s.host.queues := (congrArg (fun x => x.host.queues) h : u.planless.host.queues = s.planless.host.queues)
  have hfetched : u.host.fetched = s.host.fetched :=
    (congrArg (fun x => x.host.fetched) h : u.planless.host.fetched = s.planless.host.fetched)
  exact complete_completed hqueues hfetched f c result

/-- A tile of the module without its plan holds no program. -/
theorem unplaceTiles_prog (s : State) (k : Nat) : (s.unplaceTiles.tile k).prog = none := by
  have hall : ∀ e ∈ s.unplaceTiles.tiles, e.2.prog = none := by
    intro e he
    obtain ⟨he, -⟩ := List.mem_filter.1 he
    obtain ⟨x, -, rfl⟩ := List.mem_map.1 he
    rfl
  unfold State.tile Table.get
  cases h : s.unplaceTiles.tiles.find? k with
  | none => rfl
  | some x => exact hall _ (Table.mem_of_find? h)

/-- The module without its plan: `last` is the epoch it had. -/
def State.unloaded (s : State) (last : Nat) : State :=
  (((s.set .PLN_EPOCH_last_epoch 0 last).clearPlan).clearRouter).setPlanState .idle

theorem planUnload_hub {s : State} (h : s.planState = .loaded ∨ s.planState = .stopped) (f : Fetched) :
    planUnload f s = (s.unloaded (s.get .PLN_EPOCH_epoch 0)).complete f .success (s.get .PLN_EPOCH_epoch 0) := by
  unfold planUnload
  rcases h with h | h <;> rw [h] <;> rfl

theorem planUnload_router {s : State} (h : s.planState = .idle) (hr : s.get .RTE_PLAN_rstate 0 ≠ 0) (f : Fetched) :
    planUnload f s
      = ((s.set .PLN_EPOCH_last_epoch 0 (s.get .RTE_EPOCH_epoch 0)).clearRouter).complete f .success (s.get .RTE_EPOCH_epoch 0) := by
  unfold planUnload
  rw [h]
  exact if_neg hr

theorem planUnload_none {s : State} (h : s.planState = .idle) (hr : s.get .RTE_PLAN_rstate 0 = 0) (f : Fetched) :
    planUnload f s = s.complete f .success (s.get .PLN_EPOCH_last_epoch 0) := by
  unfold planUnload
  rw [h]
  exact if_pos hr

theorem planUnload_state {s : State} (hl : s.planState ≠ .loaded) (hs : s.planState ≠ .stopped) (hi : s.planState ≠ .idle) (f : Fetched) :
    planUnload f s = s.complete f .state s.stateResult := by
  unfold planUnload
  cases h : s.planState <;> simp_all

theorem unloaded_planless (s : State) (last : Nat) : (s.unloaded last).planless = s.planless := by
  unfold State.unloaded
  rw [planless_of_quiet (quiet_setPlanState _ _), clearRouter_planless, clearPlan_planless]
  rfl

theorem unloaded_planState (s : State) (last : Nat) : (s.unloaded last).planState = .idle := State.setPlanState_planState ..

theorem unloaded_get (s : State) (last : Nat) {f : RegField} (i : Nat) (hf : f ∉ [RegField.HST_ERR_events_lost, .PLN_STATUS_state]) :
    (s.unloaded last).get f i = (s.set .PLN_EPOCH_last_epoch 0 last).clearPlan.clearRouter.get f i := by
  simp only [List.mem_cons, List.not_mem_nil, or_false, not_or] at hf
  exact State.get_setPlanState _ _ i hf.1 hf.2

theorem unloaded_lastEpoch (s : State) (last : Nat) : (s.unloaded last).get .PLN_EPOCH_last_epoch 0 = last % 2 ^ 16 := by
  rw [unloaded_get _ _ _ (by decide), clearRouter_sameRegs _ _ _ (by decide), clearPlan_sameRegs _ _ _ (by decide)]
  exact State.get_set_same ..

theorem unloaded_epoch (s : State) (last : Nat) : (s.unloaded last).get .PLN_EPOCH_epoch 0 = 0 := by
  rw [unloaded_get _ _ _ (by decide), clearRouter_sameRegs _ _ _ (by decide), clearPlan_epoch]

theorem unloaded_routerEpoch (s : State) (last : Nat) : (s.unloaded last).get .RTE_EPOCH_epoch 0 = 0 := by
  rw [unloaded_get _ _ _ (by decide), clearRouter_epoch]

theorem unloaded_rstate (s : State) (last : Nat) : (s.unloaded last).get .RTE_PLAN_rstate 0 = 0 := by
  rw [unloaded_get _ _ _ (by decide), clearRouter_rstate]

theorem parts_of_offTime {s t : State} (h : t.offTime = s.offTime) : t.plan = s.plan ∧ t.router = s.router ∧ t.serving = s.serving
    ∧ t.host = s.host ∧ t.tiles = s.tiles := by
  refine ⟨?_, ?_, ?_, ?_, ?_⟩ <;> injection h

/-- What hub and tiles have of a plan that is unloaded. -/
theorem clearPlan_parts (s : State) : s.clearPlan.plan = s.plan.fresh none ∧ s.clearPlan.router = s.router
    ∧ s.clearPlan.serving = Serving.reset ∧ s.clearPlan.host = { s.host with ingest := [] } ∧ s.clearPlan.tiles = s.unplaceTiles.tiles :=
  parts_of_offTime (clearPlan_offTime s)

theorem withRouter_parts (s : State) (r : Router) :
    (s.withRouter r).serving = s.serving ∧ (s.withRouter r).host = s.host ∧ (s.withRouter r).tiles = s.tiles := ⟨rfl, rfl, rfl⟩

theorem clearSlots_parts (s : State) :
    s.clearSlots.serving = s.serving ∧ s.clearSlots.host = s.host ∧ s.clearSlots.tiles = s.tiles := by
  have h := clearSlots_offPorts s
  refine ⟨?_, ?_, ?_⟩ <;> injection h

theorem clearRouter_parts (s : State) :
    s.clearRouter.serving = s.serving ∧ s.clearRouter.host = s.host ∧ s.clearRouter.tiles = s.tiles := by
  have happ : (((s.set .RTE_EPOCH_epoch 0 0).set .RTE_PLAN_rstate 0 0).set .RTE_PLAN_forwarding_only 0 0).apart = s.apart := by simp
  obtain ⟨-, -, -, -, hhost, hserving⟩ := SameEngines.of_apart happ
  have htiles := tiles_of_field (field_of_apart happ)
  rw [clearRouter_eq]
  generalize ((s.set .RTE_EPOCH_epoch 0 0).set .RTE_PLAN_rstate 0 0).set .RTE_PLAN_forwarding_only 0 0 = u at hhost hserving htiles ⊢
  obtain ⟨h1, h2, h3⟩ := withRouter_parts u.clearSlots s.router.planless
  obtain ⟨h1', h2', h3'⟩ := clearSlots_parts u
  exact ⟨h1.trans (h1'.trans hserving), h2.trans (h2'.trans hhost), h3.trans (h3'.trans htiles)⟩

/-- What the module has of a plan that is unloaded. -/
theorem unloaded_parts (s : State) (last : Nat) : (s.unloaded last).plan.plan = none ∧ (s.unloaded last).router = s.router.planless
    ∧ (s.unloaded last).serving = Serving.reset ∧ (s.unloaded last).host.ingest = [] ∧ (s.unloaded last).tiles = s.unplaceTiles.tiles := by
  obtain ⟨hplan, hrouter, hserving, hhost, htiles⟩ := clearPlan_parts (s.set .PLN_EPOCH_last_epoch 0 last)
  unfold State.unloaded
  generalize (s.set .PLN_EPOCH_last_epoch 0 last).clearPlan = u at hplan hrouter hserving hhost htiles ⊢
  obtain ⟨hserving', hhost', htiles'⟩ := clearRouter_parts u
  have hq := quiet_setPlanState u.clearRouter .idle
  refine ⟨?_, ?_, ?_, ?_, ?_⟩
  · rw [quiet_plan hq, clearRouter_plan, hplan]
    rfl
  · rw [quiet_router hq, clearRouter_router, hrouter]
    rfl
  · rw [quiet_serving hq, hserving', hserving]
  · have hingest : (u.clearRouter.setPlanState .idle).host.ingest = u.clearRouter.host.ingest :=
      (congrArg (fun x => x.host.ingest) hq : (u.clearRouter.setPlanState .idle).quiet.host.ingest = u.clearRouter.quiet.host.ingest)
    rw [hingest, hhost', hhost]
  · rw [tiles_of_field (State_setPlanState_field u.clearRouter .idle), htiles', htiles]
    rfl

theorem begin_completed (s : State) (f : Fetched) (c : Cc) (result : Nat) : Completed f c result s (s.begin.complete f c result) :=
  complete_completed (s := s) (u := s.begin) rfl rfl f c result

/-! ### PLAN_STATUS (R362) -/

/-- What PLAN_STATUS answers. -/
def State.planAnswer (s : State) : Nat :=
  s.planState.code + 2 ^ 8 * s.get .PLN_LOAD_STATUS_code 0 + 2 ^ 16 * s.get .PLN_EPOCH_epoch 0 + 2 ^ 32 * s.get .PLN_REST_TOTAL_rest_measures 0

theorem exec_planStatus (q : QueueIx) (cid : Cid) (s : State) :
    exec (.planStatus q cid) s = hostCommand 0x14 q cid (fun f s => s.complete f .success s.planAnswer) s := rfl

theorem complete_parts (s : State) (f : Fetched) (c : Cc) (result : Nat) : (s.complete f c result).plan = s.plan
    ∧ (s.complete f c result).router = s.router ∧ (s.complete f c result).serving = s.serving
    ∧ (s.complete f c result).planState = s.planState ∧ (s.complete f c result).tiles = s.tiles := by
  have h := core_complete s f c result
  exact ⟨core_plan h, core_router h, core_serving h, congrArg PlanState.ofCode (complete_get s f c result 0 (by decide)),
    tiles_of_field (core_field h)⟩

/-- Settles O29: a stop in time is one toll of the module's own; an unload clears what the plan gave; the status is read. -/
theorem planCommands : Obligations.PlanCommands := by
  unfold Obligations.PlanCommands
  refine ⟨fun q cid f s hr hfatal => ⟨fun hstate hk hn => ?_, fun h => ?_⟩, fun q cid f s hr => ⟨fun h => ?_, fun h hrst => ?_, fun h hrst => ?_,
    fun hl hs hi => ?_⟩, fun q cid f s hr => ?_⟩
  · exact State.runs_hostCommand rfl hr (stopAtMeasure_stops (s := s.begin) hfatal hstate hk hn)
  · refine State.runs_hostCommand rfl hr ?_
    rw [stopAtMeasure_refused (s := s.begin) hfatal h]
    obtain ⟨hplan, hrouter, -⟩ := complete_parts s.begin f .stopRefused 0
    exact ⟨begin_completed s f .stopRefused 0, complete_sameRegs s.begin f .stopRefused 0, hplan, hrouter⟩
  · refine State.runs_hostCommand rfl hr ?_
    rw [planUnload_hub (s := s.begin) h]
    rw [State.begin_get]
    generalize s.get .PLN_EPOCH_epoch 0 = last
    have hless := unloaded_planless s.begin last
    have hlast := unloaded_lastEpoch s.begin last
    have hepoch := unloaded_epoch s.begin last
    have hrte := unloaded_routerEpoch s.begin last
    have hrstate := unloaded_rstate s.begin last
    have hstate := unloaded_planState s.begin last
    obtain ⟨hplan, hrouter, hserving, hingest, htiles⟩ := unloaded_parts s.begin last
    generalize s.begin.unloaded last = u at *
    have hcore := core_complete u f .success last
    obtain ⟨hplan', hrouter', hserving', hstate', htiles'⟩ := complete_parts u f .success last
    have hget (g : RegField) (i : Nat) := State.get_congr (complete_regs_success u f last) (core_fused hcore) g i
    have hplanless := hrouter'.trans hrouter
    refine ⟨completed_of_planless hless f .success _, hstate'.trans hstate, (hget _ _).trans hlast, (hget _ _).trans hepoch,
      (hget _ _).trans hrte, (hget _ _).trans hrstate, by rw [hplan', hplan], ?_, ?_, ?_, ?_, hserving'.trans hserving,
      (complete_ingest ..).trans hingest, (SameBytes.of_planless hless).trans (field_of_core hcore).1, ?_, fun k => ?_⟩
    · rw [hplanless]
      rfl
    · rw [hplanless]
      rfl
    · rw [hplanless]
      rfl
    · rw [hplanless]
      rfl
    · rw [core_time hcore]
      exact beat_of_planless hless
    · rw [← unplaceTiles_prog s.begin k]
      unfold State.tile
      rw [htiles', htiles]
  · refine State.runs_hostCommand rfl hr ?_
    rw [planUnload_router (s := s.begin) h hrst, State.begin_get]
    generalize s.get .RTE_EPOCH_epoch 0 = last
    have hless := clearRouter_planless (s.begin.set .PLN_EPOCH_last_epoch 0 last)
    have hplan := clearRouter_plan (s.begin.set .PLN_EPOCH_last_epoch 0 last)
    have hrouter := clearRouter_router (s.begin.set .PLN_EPOCH_last_epoch 0 last)
    have hrte := clearRouter_epoch (s.begin.set .PLN_EPOCH_last_epoch 0 last)
    have hrstate := clearRouter_rstate (s.begin.set .PLN_EPOCH_last_epoch 0 last)
    have hfield := State_clearRouter_field (s.begin.set .PLN_EPOCH_last_epoch 0 last)
    generalize (s.begin.set .PLN_EPOCH_last_epoch 0 last).clearRouter = u at *
    have hcore := core_complete u f .success last
    have hget (g : RegField) (i : Nat) := State.get_congr (complete_regs_success u f last) (core_fused hcore) g i
    have hfield' := (core_field hcore).trans hfield
    refine ⟨completed_of_planless hless f .success _, (hget _ _).trans hrte, (hget _ _).trans hrstate, ?_, (core_plan hcore).trans hplan,
      .of_field (s := s) hfield', .of_field (s := s) hfield'⟩
    rw [core_router hcore, hrouter]
    rfl
  · refine State.runs_hostCommand rfl hr ?_
    rw [planUnload_none (s := s.begin) h hrst]
    have hcore := core_complete s.begin f .success (s.begin.get .PLN_EPOCH_last_epoch 0)
    exact ⟨begin_completed s f .success _, complete_regs_success .., core_plan hcore, field_of_core hcore⟩
  · refine State.runs_hostCommand rfl hr ?_
    rw [planUnload_state (s := s.begin) hl hs hi]
    have hcore := core_complete s.begin f .state s.begin.stateResult
    exact ⟨begin_completed s f .state _, complete_sameRegs s.begin f .state _, core_plan hcore, field_of_core hcore⟩
  · refine State.runs_hostCommand (exec_planStatus q cid s) hr ?_
    exact ⟨begin_completed s f .success _, complete_regs_success .., core_plan (core_complete ..)⟩

end Sys2Proof.Machine

namespace Sys2Proof.Machine

/-! ### Refused loads and arms (R85, R361) -/

theorem recordLoad_sameRegs (s : State) (c : LoadCode) (d : Nat) :
    SameRegs [.PLN_LOAD_STATUS_code, .PLN_LOAD_STATUS_detail] s (s.recordLoad c d) := by
  unfold State.recordLoad
  refine SameRegs.set (.set (.refl _ s) ?_ _ _) ?_ _ _ <;> decide

theorem recordLoad_code (s : State) (c : LoadCode) (d : Nat) : (s.recordLoad c d).get .PLN_LOAD_STATUS_code 0 = c.code := by
  unfold State.recordLoad
  rw [State.get_set_other _ _ (.inl (by decide)), State.get_set_same]
  cases c <;> rfl

theorem core_recordLoad (s : State) (c : LoadCode) (d : Nat) : (s.recordLoad c d).core = s.core := rfl

theorem core_refusePlan (s : State) (f : Fetched) (c : LoadCode) (d : Nat) : (s.refusePlan f c d).core = s.core := by
  unfold State.refusePlan
  rw [core_complete, core_recordLoad]

theorem refusePlan_completed (s : State) (f : Fetched) (c : LoadCode) (d : Nat) :
    Completed f .planRefused (c.code + 2 ^ 16 * d) s (s.refusePlan f c d) :=
  complete_completed (s := s) (u := s.recordLoad c d) rfl rfl f .planRefused _

theorem refusePlan_code (s : State) (f : Fetched) (c : LoadCode) (d : Nat) :
    (s.refusePlan f c d).get .PLN_LOAD_STATUS_code 0 = c.code := by
  unfold State.refusePlan
  rw [complete_get _ _ _ _ _ (by decide), recordLoad_code]

theorem refusePlan_sameRegs (s : State) (f : Fetched) (c : LoadCode) (d : Nat) :
    SameRegs [.HST_ERR_cmd_errors, .PLN_LOAD_STATUS_code, .PLN_LOAD_STATUS_detail] s (s.refusePlan f c d) :=
  ((recordLoad_sameRegs s c d).mono (List.subset_cons_self _ _)).trans ((complete_sameRegs _ f .planRefused _).mono (by decide))

theorem planState_of_sameRegs {fs : List RegField} {s t : State} (h : SameRegs fs s t) (hf : .PLN_STATUS_state ∉ fs) :
    t.planState = s.planState := congrArg PlanState.ofCode (h _ 0 hf)

/-! ### PLAN_ARM (R84, R475) -/

theorem armRefusal_early {s : State} {b : Nat} (h : b % 16 ≠ 0 ∨ b < s.time.beat + 1024) : s.armRefusal b = some (.startTooSoon, 0) := by
  refine if_pos ?_
  rcases h with h | h <;> simp [isDownbeat, h]

section
variable {s : State} {b : Nat}

theorem armRefusal_inTime (hdown : b % 16 = 0) (hb : s.time.beat + 1024 ≤ b) : s.armRefusal b =
    if s.timeState ≠ .locked then some (.timeNotLocked, 0)
    else match (s.router.ports.filter s.portNotReady).map (fun p => p.port) with
      | [] => none
      | p :: ps => some (.portNotReady, ps.foldl min p) :=
  (if_neg (by simp [isDownbeat, hdown, hb]) : _)

theorem armRefusal_unlocked (hdown : b % 16 = 0) (hb : s.time.beat + 1024 ≤ b) (hlock : s.timeState ≠ .locked) :
    s.armRefusal b = some (.timeNotLocked, 0) := by
  rw [armRefusal_inTime hdown hb, if_pos hlock]

theorem armRefusal_ports (hdown : b % 16 = 0) (hb : s.time.beat + 1024 ≤ b) (hlock : s.timeState = .locked) : s.armRefusal b =
    match (s.router.ports.filter s.portNotReady).map (fun p => p.port) with
      | [] => none
      | p :: ps => some (.portNotReady, ps.foldl min p) := by
  rw [armRefusal_inTime hdown hb, if_neg (by simp [hlock])]

theorem armRefusal_notReady {x : PortRec} (hdown : b % 16 = 0) (hb : s.time.beat + 1024 ≤ b) (hlock : s.timeState = .locked)
    (hx : x ∈ s.router.ports) (hnot : s.portNotReady x = true) : ∃ d, s.armRefusal b = some (.portNotReady, d) := by
  rw [armRefusal_ports hdown hb hlock]
  have hmem : x.port ∈ (s.router.ports.filter s.portNotReady).map (fun p => p.port) :=
    List.mem_map_of_mem (List.mem_filter.2 ⟨hx, hnot⟩)
  cases hl : (s.router.ports.filter s.portNotReady).map (fun p => p.port) with
  | nil => simp [hl] at hmem
  | cons p ps => exact ⟨_, rfl⟩

theorem armRefusal_none (hdown : b % 16 = 0) (hb : s.time.beat + 1024 ≤ b) (hlock : s.timeState = .locked)
    (hready : ∀ x ∈ s.router.ports, s.portNotReady x = false) : s.armRefusal b = none := by
  have hnil : s.router.ports.filter s.portNotReady = [] := List.filter_eq_nil_iff.2 (fun x hx => by simp [hready x hx])
  rw [armRefusal_ports hdown hb hlock, hnil]
  rfl

end

/-- The start beat of hub and router (R84). -/
def State.armAt (s : State) (b : Nat) : State :=
  ((s.set .PLN_START_LO_start_beat 0 b).set .PLN_START_HI_start_beat 0 (b / 2 ^ 32)).withRouter { s.router with start := some b }

theorem planArm_state {s : State} {f : Fetched} (h : s.fatalActive = true ∨ s.planState ≠ .loaded ∨ s.tiersServe = false) :
    planArm f s = s.complete f .state s.stateResult := by
  refine if_pos ?_
  simpa using h

section
variable {s : State} {f : Fetched} (hfatal : s.fatalActive = false) (hstate : s.planState = .loaded) (hserve : s.tiersServe = true)
include hfatal hstate hserve

theorem planArm_checked : planArm f s =
    match s.armRefusal (f.par 8 8) with
    | some (c, d) => s.refusePlan f c d
    | none => (((s.armAt (f.par 8 8)).recordLoad .ok 0).movePlan .armed).complete f .success 0 :=
  (if_neg (by simp [hfatal, hstate, hserve]) : _)

theorem planArm_refused {c : LoadCode} {d : Nat} (h : s.armRefusal (f.par 8 8) = some (c, d)) : planArm f s = s.refusePlan f c d := by
  rw [planArm_checked hfatal hstate hserve, h]

theorem planArm_armed (h : s.armRefusal (f.par 8 8) = none) :
    planArm f s = (((s.armAt (f.par 8 8)).recordLoad .ok 0).movePlan .armed).complete f .success 0 := by
  rw [planArm_checked hfatal hstate hserve, h]

end

theorem armAt_quiet (s : State) (b : Nat) : (s.armAt b).quiet = (s.withRouter { s.router with start := some b }).quiet := rfl

theorem quiet_recordLoad (s : State) (c : LoadCode) (d : Nat) : (s.recordLoad c d).quiet = s.quiet := rfl

theorem armAt_startLo (s : State) (b : Nat) : (s.armAt b).get .PLN_START_LO_start_beat 0 = b % 2 ^ 32 := by
  unfold State.armAt
  rw [withRouter_get, State.get_set_other _ _ (.inl (by decide))]
  exact State.get_set_same ..

theorem armAt_startHi (s : State) (b : Nat) : (s.armAt b).get .PLN_START_HI_start_beat 0 = b / 2 ^ 32 % 2 ^ 32 := by
  unfold State.armAt
  rw [withRouter_get]
  exact State.get_set_same ..

/-- An arm that nothing refuses. -/
theorem arm_parts (s : State) (f : Fetched) (b : Nat) {t : State}
    (ht : t = (((s.armAt b).recordLoad .ok 0).movePlan .armed).complete f .success 0) :
    Completed f .success 0 s t ∧ t.planState = .armed ∧ t.startBeat = b % 2 ^ 64 ∧ t.get .RTE_PLAN_rstate 0 = 2
      ∧ t.router = { s.router with start := some b } ∧ t.plan = s.plan ∧ t.time = s.time ∧ t.ports = s.ports := by
  have hq : (((s.armAt b).recordLoad .ok 0).movePlan .armed).quiet = (s.withRouter { s.router with start := some b }).quiet := by
    rw [quiet_movePlan, quiet_recordLoad, armAt_quiet]
  have hcompleted : Completed f .success 0 (s.withRouter { s.router with start := some b }) t := by
    rw [ht]
    exact completed_of_quiet hq f .success 0
  have hcore : t.core = (s.withRouter { s.router with start := some b }).core := by
    rw [ht, core_complete]
    exact core_of_quiet hq
  have hget {g : RegField} (i : Nat) (hg : g ≠ .HST_ERR_cmd_errors) :
      t.get g i = (((s.armAt b).recordLoad .ok 0).movePlan .armed).get g i := by
    rw [ht]
    exact complete_get _ _ _ _ _ hg
  refine ⟨hcompleted, ?_, ?_, ?_, core_router hcore, (core_plan hcore).trans rfl,
    (core_time hcore).trans rfl, (core_ports hcore).trans rfl⟩
  · rw [← movePlan_planState ((s.armAt b).recordLoad .ok 0) .armed]
    exact congrArg PlanState.ofCode (hget 0 (by decide))
  · unfold State.startBeat
    rw [hget 0 (by decide), hget 0 (by decide), movePlan_get _ _ _ (by decide), movePlan_get _ _ _ (by decide),
      recordLoad_sameRegs _ _ _ _ _ (by decide), recordLoad_sameRegs _ _ _ _ _ (by decide), armAt_startLo, armAt_startHi]
    omega
  · rw [hget 0 (by decide)]
    exact movePlan_rstate (p := .armed) (r := 2) _ rfl

/-! ### START_BEAT (R84, R177, R343) -/

theorem exec_startBeat (s : State) : exec .startBeat s = occurs (s.powered && (s.hubStarts || s.rimArmed)) startBeat s := rfl

/-- The tiles of a plan that starts, and the first beat of hub and router. -/
def State.beginPlan (s : State) : State :=
  { s with tiles := s.tiles.map (fun (e : Nat × Tile) => (e.1, e.2.start (s.nowOf e.1)))
           plan := { s.plan with beat := 0, rests := [] }
           router := { s.router with planBeat := 0, rests := [], start := none } }

theorem startBeat_hub {s : State} (hbeat : s.time.beat = s.startBeat) (h : s.planState = .armed) :
    startBeat s = s.beginPlan.movePlan .running := by
  have hstarts : s.hubStarts = true := by simp [State.hubStarts, hbeat, h]
  unfold startBeat
  rw [if_pos hstarts, if_pos h]
  rfl

theorem startBeat_missed {s : State} (hbeat : s.time.beat = s.startBeat) (h : s.planState = .faulted)
    (hfault : s.get .FLT_FATAL_PLAN_plan_state 0 = 2) : startBeat s = s.set .PLN_STATUS_arm_missed 0 1 := by
  have hstarts : s.hubStarts = true := by simp [State.hubStarts, hbeat, h, hfault]
  unfold startBeat
  rw [if_pos hstarts, if_neg (by simp [h])]

theorem startBeat_rim {s : State} (h : s.hubStarts = false) : startBeat s = rimStart s := if_neg (by simp [h])

theorem rimStart_eq (s : State) : rimStart s =
    (s.withRouter { s.router with planBeat := 0, rests := [], start := none }).set .RTE_PLAN_rstate 0 3 := rfl

/-- Settles O28: what an arm is refused for comes before it changes anything, and the start beat has three cases. -/
theorem plansArmAndStart : Obligations.PlansArmAndStart := by
  unfold Obligations.PlansArmAndStart
  refine ⟨fun q cid f s hr => ⟨fun h => ?_, fun hfatal hstate hserve => ⟨fun h => ?_, fun hdown hb => ⟨fun hlock => ?_,
    fun x hlock hx hfenced => ?_, fun hlock hready => ?_⟩⟩⟩, fun s hpow hbeat => ⟨fun h => ?_, fun h hfault => ?_⟩, fun s hpow hhub hrim => ?_⟩
  · refine State.runs_hostCommand rfl hr ?_
    rw [planArm_state (s := s.begin) h]
    exact ⟨begin_completed s f .state _, core_plan (core_complete ..), complete_sameRegs s.begin f .state _⟩
  · refine State.runs_hostCommand rfl hr ?_
    rw [planArm_refused (s := s.begin) hfatal hstate hserve (armRefusal_early h)]
    exact ⟨refusePlan_completed s.begin f .startTooSoon 0,
      (planState_of_sameRegs (refusePlan_sameRegs s.begin f .startTooSoon 0) (by decide)).trans hstate,
      refusePlan_code .., core_plan (core_refusePlan ..)⟩
  · refine State.runs_hostCommand rfl hr ?_
    rw [planArm_refused (s := s.begin) hfatal hstate hserve (armRefusal_unlocked hdown hb hlock)]
    exact ⟨refusePlan_completed s.begin f .timeNotLocked 0,
      (planState_of_sameRegs (refusePlan_sameRegs s.begin f .timeNotLocked 0) (by decide)).trans hstate, core_plan (core_refusePlan ..)⟩
  · refine State.runs_hostCommand rfl hr ?_
    have hnot : s.portNotReady x = true := by simp [State.portNotReady, hfenced]
    obtain ⟨d, hd⟩ := armRefusal_notReady (s := s.begin) hdown hb hlock hx hnot
    rw [planArm_refused (s := s.begin) hfatal hstate hserve hd]
    exact ⟨(planState_of_sameRegs (refusePlan_sameRegs s.begin f .portNotReady d) (by decide)).trans hstate, refusePlan_code ..,
      core_plan (core_refusePlan ..)⟩
  · exact State.runs_hostCommand rfl hr (arm_parts s.begin f (f.par 8 8)
      (planArm_armed (s := s.begin) hfatal hstate hserve (armRefusal_none hdown hb hlock hready)))
  · have hstarts : s.hubStarts = true := by simp [State.hubStarts, hbeat, h]
    refine State.runs_of_occurs (exec_startBeat s) (by simp [hpow, hstarts]) ?_
    rw [startBeat_hub (s := s.begin) hbeat h]
    have hq := quiet_movePlan s.begin.beginPlan .running
    have hfield := State_movePlan_field s.begin.beginPlan .running
    refine ⟨movePlan_planState .., ?_, ?_, ?_, ?_, ?_, ?_, ?_, ?_⟩
    · rw [quiet_plan hq]
      rfl
    · rw [quiet_plan hq]
      rfl
    · rw [quiet_router hq]
      rfl
    · rw [tiles_of_field hfield]
      rfl
    · exact SameBytes.trans (t := s.begin.beginPlan) (fun a => ⟨rfl, rfl, rfl, rfl, rfl⟩) (.of_field hfield)
    · rw [quiet_time hq]
      rfl
    · rw [quiet_ports hq]
      rfl
    · rw [quiet_plan hq]
      rfl
  · have hstarts : s.hubStarts = true := by simp [State.hubStarts, hbeat, h, hfault]
    refine State.runs_of_occurs (exec_startBeat s) (by simp [hpow, hstarts]) ?_
    rw [startBeat_missed (s := s.begin) hbeat h hfault]
    have happ := apart_set s.begin .PLN_STATUS_arm_missed 0 1
    exact ⟨State.get_set_same .., (SameRegs.refl _ s.begin).set List.mem_cons_self 0 1, .of_apart happ, .of_field (field_of_apart happ),
      .of_field (field_of_apart happ)⟩
  · refine State.runs_of_occurs (exec_startBeat s) (by simp [hpow, hrim]) ?_
    rw [startBeat_rim (s := s.begin) hhub, rimStart_eq]
    exact ⟨State.get_set_same .., rfl, rfl, (SameRegs.refl _ s.begin).set List.mem_cons_self 0 3, rfl, rfl,
      fun a => ⟨rfl, rfl, rfl, rfl, rfl⟩, ⟨rfl, rfl, rfl, rfl, rfl⟩⟩

end Sys2Proof.Machine

namespace Sys2Proof.Machine

/-! ### Folds and zeros -/

/-- What one step of a fold brings about, and no step undoes, holds at its end. -/
theorem foldl_establishes {α σ : Type} {P : σ → Prop} {g : σ → α → σ} {l : List α} {e : α} (he : e ∈ l) (hset : ∀ s, P (g s e))
    (hkeep : ∀ s, ∀ x ∈ l, P s → P (g s x)) (s : σ) : P (l.foldl g s) := by
  have hrest (l : List α) (hkeep : ∀ s, ∀ x ∈ l, P s → P (g s x)) : ∀ s, P s → P (l.foldl g s) := by
    induction l with
    | nil => exact fun _ h => h
    | cons x l ih =>
      exact fun s h => ih (fun s y hy => hkeep s y (List.mem_cons_of_mem x hy)) _ (hkeep s x List.mem_cons_self h)
  induction l generalizing s with
  | nil => simp at he
  | cons x l ih =>
    have hkeepl : ∀ s, ∀ y ∈ l, P s → P (g s y) := fun s y hy => hkeep s y (List.mem_cons_of_mem x hy)
    rcases List.mem_cons.1 he with rfl | he
    · exact hrest l hkeepl _ (hset s)
    · exact ih he hkeepl (g s x)

/-- A range made 0 reads 0, and nothing else changes. -/
theorem Memory.read_zero (m : Memory) (lo hi a : Nat) : (m.zero lo hi).read a = if lo ≤ a ∧ a < hi then 0 else m.read a := by
  by_cases hfills : m.fills.isEmpty = true
  · have hblank : m.blank a = 0 := by
      rw [Memory.blank, List.isEmpty_iff.1 hfills]
      rfl
    have hzero : (m.zero lo hi).read a = ((Table.keep (fun a => !(Fill.mk lo hi 0).covers a) m.cells).find? a).getD (m.blank a) := by
      unfold Memory.zero
      rw [if_pos hfills]
      rfl
    rw [hzero, Table.find?_keep]
    by_cases ha : lo ≤ a ∧ a < hi
    · have hcov : (Fill.mk lo hi 0).covers a = true := (Fill.covers_iff _ _).2 ha
      rw [if_pos ha, hcov, hblank]
      rfl
    · have hcov : (Fill.mk lo hi 0).covers a = false := Bool.eq_false_iff.2 (mt (Fill.covers_iff _ _).1 ha)
      rw [if_neg ha, hcov]
      rfl
  · have hzero : m.zero lo hi = m.fill ⟨lo, hi, 0⟩ := if_neg hfills
    rw [hzero]
    by_cases ha : lo ≤ a ∧ a < hi
    · rw [if_pos ha, Memory.read_fill_in m _ ((Fill.covers_iff _ _).2 ha)]
      rfl
    · rw [if_neg ha, Memory.read_fill_out m _ (Bool.eq_false_iff.2 (mt (Fill.covers_iff _ _).1 ha))]

theorem Memory.zero_keeps {m : Memory} {a : Nat} (h : m.read a = 0) (lo hi : Nat) : (m.zero lo hi).read a = 0 := by
  rw [Memory.read_zero, h, ite_self]

/-! ### What depends on the fuses alone -/

theorem virtualRow_congr {s t : State} (h : t.fused = s.fused) (d row : Nat) : t.virtualRow d row = s.virtualRow d row :=
  (congrArg (fun x => ({ s with fused := x } : State).virtualRow d row) h : _)

theorem tileUsed_congr {s t : State} (h : t.fused = s.fused) (k : Nat) : t.tileUsed k = s.tileUsed k := by
  simp only [State.tileUsed, virtualRow_congr h]

theorem progs_congr {s t : State} (h : t.fused = s.fused) (m : Image) (d : Nat) : m.progs t d = m.progs s d := by
  simp only [Image.progs, State.progEntries, State.working, virtualRow_congr h]

/-- The program entries of an image, each with its die. -/
def Image.dieProgs (m : Image) (s : State) (d : Nat) : List (Nat × ProgEntry) := (m.progs s d).map (fun e => (d, e))

theorem dieProgs_congr {s t : State} (h : t.fused = s.fused) (m : Image) : m.dieProgs t = m.dieProgs s := by
  funext d
  simp only [Image.dieProgs, progs_congr h]

def Image.allProgs (m : Image) (s : State) (ds : List Nat) : List (Nat × ProgEntry) := ds.flatMap (m.dieProgs s)

theorem mem_allProgs {m : Image} {s : State} {x : Nat × ProgEntry} :
    x ∈ m.allProgs s (List.range 8) ↔ x.1 < 8 ∧ x.2 ∈ m.progs s x.1 := by
  simp only [Image.allProgs, Image.dieProgs, List.mem_flatMap, List.mem_range, List.mem_map]
  constructor
  · rintro ⟨d, hd, e, he, rfl⟩
    exact ⟨hd, he⟩
  · exact fun ⟨hd, he⟩ => ⟨x.1, hd, x.2, he, rfl⟩

/-- Steps that keep the fuses go through the entries of die after die as through one list. -/
theorem foldl_allProgs {g : State → Nat × ProgEntry → State} (hg : ∀ s x, (g s x).fused = s.fused) (m : Image) (ds : List Nat) (s : State) :
    ds.foldl (fun s d => (m.dieProgs s d).foldl g s) s = (m.allProgs s ds).foldl g s := by
  induction ds generalizing s with
  | nil => rfl
  | cons d ds ih =>
    have hfused : ((m.dieProgs s d).foldl g s).fused = s.fused := foldl_keeps State.fused hg _ s
    have hrest : m.allProgs ((m.dieProgs s d).foldl g s) ds = m.allProgs s ds := by
      unfold Image.allProgs
      rw [dieProgs_congr hfused]
    rw [List.foldl_cons, ih, hrest, ← List.foldl_append]
    rfl

/-! ### Programs placed and filled in (R175, R251) -/

/-- One tile takes its program. -/
def State.place (repeats : Nat) (s : State) (x : Nat × ProgEntry) : State := s.modTile x.2.tile (fun y => y.placed x.2 repeats)

def State.placeAll (m : Image) (s : State) : State := (List.range 8).foldl (State.placePrograms m) s

theorem placeAll_eq (m : Image) (s : State) : s.placeAll m = (m.allProgs s (List.range 8)).foldl (State.place m.header.repeats) s := by
  have hdie : State.placePrograms m = fun s d => (m.dieProgs s d).foldl (State.place m.header.repeats) s := by
    funext s d
    exact (List.foldl_map (f := fun e => (d, e)) (g := State.place m.header.repeats) (l := m.progs s d) (init := s)).symm
  unfold State.placeAll
  rw [hdie]
  exact foldl_allProgs (g := State.place m.header.repeats) (fun _ _ => rfl) m _ s

theorem tile_modTile_same (s : State) (k : Nat) (f : Tile → Tile) : (s.modTile k f).tile k = f (s.tile k) := Table.get_set_same ..

theorem tile_modTile_other (s : State) {k j : Nat} (f : Tile → Tile) (h : j ≠ k) : (s.modTile k f).tile j = s.tile j :=
  Table.get_set_ne _ _ _ _ h

/-- A tile that no entry names stays as it was. -/
theorem placeAll_other {m : Image} {s : State} {k : Nat} (h : ∀ d < 8, ∀ e ∈ m.progs s d, e.tile ≠ k) : (s.placeAll m).tile k = s.tile k := by
  have hne : ∀ x ∈ m.allProgs s (List.range 8), x.2.tile ≠ k := fun x hx => h x.1 (mem_allProgs.1 hx).1 x.2 (mem_allProgs.1 hx).2
  rw [placeAll_eq]
  generalize m.header.repeats = repeats
  generalize m.allProgs s (List.range 8) = l at hne
  clear h
  induction l generalizing s with
  | nil => rfl
  | cons x l ih =>
    rw [List.foldl_cons, ih (s := s.place repeats x) (fun y hy => hne y (List.mem_cons_of_mem x hy))]
    exact tile_modTile_other _ _ (Ne.symm (hne x List.mem_cons_self))

/-- A tile that one entry names has its program. -/
theorem placeAll_prog {m : Image} {s : State} {d : Nat} {e : ProgEntry} (hd : d < 8) (he : e ∈ m.progs s d)
    (hone : ∀ d' < 8, ∀ e' ∈ m.progs s d', e'.tile = e.tile → e' = e) :
    ((s.placeAll m).tile e.tile).prog
        = some (Prog.mk (wordAddress e.prologue) e.prologueWords (wordAddress e.body) e.bodyWords m.header.repeats)
      ∧ ((s.placeAll m).tile e.tile).running = false := by
  rw [placeAll_eq]
  refine foldl_establishes (P := fun t => (t.tile e.tile).prog
    = some (Prog.mk (wordAddress e.prologue) e.prologueWords (wordAddress e.body) e.bodyWords m.header.repeats)
      ∧ (t.tile e.tile).running = false) (mem_allProgs.2 ⟨hd, he⟩ : (d, e) ∈ _) (fun t => ?_) (fun t x hx ht => ?_) s
  · rw [State.place, tile_modTile_same]
    exact ⟨rfl, rfl⟩
  · obtain ⟨hxd, hxe⟩ := mem_allProgs.1 hx
    by_cases hk : x.2.tile = e.tile
    · rw [State.place, hk, tile_modTile_same, hone x.1 hxd x.2 hxe hk]
      exact ⟨rfl, rfl⟩
    · rw [State.place, tile_modTile_other _ _ (Ne.symm hk)]
      exact ht

/-- One program's bytes go into its tile's scratchpad. -/
def State.writeProg (m : Image) (s : State) (x : Nat × ProgEntry) : State :=
  s.writeSpad x.2.tile (8 * x.2.load) ((m.get 1 x.1).bytes x.2.offset x.2.bytes)

def State.fillAll (m : Image) (s : State) : State := (List.range 8).foldl (State.fillDie m) s

/-- With neither initial contents nor voice images, only programs go in. -/
theorem fillDie_progs {m : Image} {d : Nat} (hvoice : (m.get 2 d).len < 8) (hspad : (m.get 0x0B d).len < 8) (s : State) :
    State.fillDie m s d = (m.dieProgs s d).foldl (State.writeProg m) s := by
  unfold State.fillDie
  dsimp only
  rw [if_pos hvoice, if_pos hspad]
  exact (List.foldl_map (f := fun e => (d, e)) (g := State.writeProg m) (l := m.progs s d) (init := s)).symm

theorem fillAll_eq {m : Image} (h : ∀ d < 8, (m.get 2 d).len < 8 ∧ (m.get 0x0B d).len < 8) (s : State) :
    s.fillAll m = (m.allProgs s (List.range 8)).foldl (State.writeProg m) s := by
  have hdies : s.fillAll m = (List.range 8).foldl (fun s d => (m.dieProgs s d).foldl (State.writeProg m) s) s :=
    List.foldl_ext _ _ _ (fun s d hd => fillDie_progs (h d (List.mem_range.1 hd)).1 (h d (List.mem_range.1 hd)).2 s)
  rw [hdies]
  exact foldl_allProgs (g := State.writeProg m) (fun _ _ => rfl) m _ s

theorem writeProg_bytes (m : Image) (s : State) (x : Nat × ProgEntry) :
    (s.writeProg m x).spad.readBytes (2 ^ 20 * x.2.tile + 8 * x.2.load) x.2.bytes = (m.get 1 x.1).bytes x.2.offset x.2.bytes := by
  have hlen : ((m.get 1 x.1).bytes x.2.offset x.2.bytes).length = x.2.bytes := Memory.readBytes_length ..
  have h := Memory.readBytes_writeBytes ((m.get 1 x.1).bytes x.2.offset x.2.bytes) s.spad (2 ^ 20 * x.2.tile + 8 * x.2.load)
  rw [hlen] at h
  exact h

/-- A program that is the image's only one stands in its tile's scratchpad. -/
theorem fillAll_bytes {m : Image} {s : State} (h : ∀ d < 8, (m.get 2 d).len < 8 ∧ (m.get 0x0B d).len < 8) {d : Nat} {e : ProgEntry}
    (hd : d < 8) (he : e ∈ m.progs s d) (hone : ∀ d' < 8, ∀ e' ∈ m.progs s d', d' = d ∧ e' = e) :
    (s.fillAll m).spad.readBytes (2 ^ 20 * e.tile + 8 * e.load) e.bytes = (m.get 1 d).bytes e.offset e.bytes := by
  rw [fillAll_eq h]
  refine foldl_establishes (P := fun t => t.spad.readBytes (2 ^ 20 * e.tile + 8 * e.load) e.bytes = (m.get 1 d).bytes e.offset e.bytes)
    (mem_allProgs.2 ⟨hd, he⟩ : (d, e) ∈ _) (fun t => writeProg_bytes m t (d, e)) (fun t x hx _ => ?_) s
  obtain ⟨hxd, hxe⟩ := mem_allProgs.1 hx
  obtain ⟨h1, h2⟩ := hone x.1 hxd x.2 hxe
  obtain rfl : x = (d, e) := Prod.ext h1 h2
  exact writeProg_bytes m t (d, e)

theorem fillAll_none {m : Image} {s : State} (h : ∀ d < 8, (m.get 2 d).len < 8 ∧ (m.get 0x0B d).len < 8)
    (hnone : ∀ d < 8, m.progs s d = []) : s.fillAll m = s := by
  have hnil : m.allProgs s (List.range 8) = [] := List.eq_nil_iff_forall_not_mem.2 (fun x hx => by
    obtain ⟨hxd, hxe⟩ := mem_allProgs.1 hx
    simp [hnone x.1 hxd] at hxe)
  rw [fillAll_eq h, hnil]
  rfl

/-- One tile's scratchpad made 0 outside its die's secure window. -/
def State.zeroTile (s : State) (m : Memory) (t : Nat) : Memory :=
  (m.zero (2 ^ 20 * t) (2 ^ 20 * t + 32 * (s.window (tileDie t)).1)).zero (2 ^ 20 * t + 32 * (s.window (tileDie t)).2) (2 ^ 20 * (t + 1))

theorem zeroSpads_spad (s : State) : s.zeroSpads.spad = s.usedTiles.foldl s.zeroTile s.spad := by
  unfold State.zeroSpads
  dsimp only
  generalize s.usedTiles = l
  rfl

/-- A unit of a working tile outside the window is 0 (R251). -/
theorem zeroSpads_read {s : State} {k u b : Nat} (hk : k < 9216) (hused : s.tileUsed k = true) (hu : u < 2 ^ 15) (hb : b < 32)
    (hwin : u < (s.window (tileDie k)).1 ∨ (s.window (tileDie k)).2 ≤ u) : s.zeroSpads.spad.read (2 ^ 20 * k + 32 * u + b) = 0 := by
  rw [zeroSpads_spad]
  refine foldl_establishes (P := fun m : Memory => m.read (2 ^ 20 * k + 32 * u + b) = 0) (e := k)
    (List.mem_filter.2 ⟨List.mem_range.2 hk, hused⟩) (fun m => ?_) (fun m t _ h => Memory.zero_keeps (Memory.zero_keeps h ..) ..) _
  rcases hwin with h | h
  · refine Memory.zero_keeps ?_ ..
    rw [Memory.read_zero, if_pos (by omega)]
  · rw [Memory.read_zero, if_pos (by omega)]

end Sys2Proof.Machine

namespace Sys2Proof.Machine

/-! ### An accepted image takes its place (R175, R251, R311, R320, R402) -/

/-- The header's registers, the router tables, and the budgets of the ports in them. -/
def State.loadGives (s : State) (m : Image) (r : Router) : State :=
  r.ports.foldl State.loadGive ((s.loadHeader m.header).clearGives.withRouter r)

/-- The registers and the router tables that an image gives. -/
def State.loadTables (s : State) (m : Image) (y : Option Layout) : State :=
  ((((s.loadGives m (m.router (s.loadHeader m.header).router)).set .RTE_EPOCH_epoch 0 m.header.epoch).set
    .RTE_PLAN_forwarding_only 0 0).loadLayout y).recordLoad .ok 0

/-- The hub's engine, the serving state and ingest with a new plan. -/
def State.takePlan (s : State) (p : Plan) : State :=
  { s with plan := s.plan.fresh (some p), serving := Serving.reset
           host := { s.host with ingest := p.ingest.map (fun (e : StreamEntry) => Ingest.mk e.stream 0 0 false) } }

/-- The scratchpads with an image's contents. -/
def State.loadSpads (s : State) (m : Image) : State := (s.flushTests.zeroSpads).fillAll m

/-- The tiles with an image's programs, and no slot used. -/
def State.loadTiles (s : State) (m : Image) : State := (s.refillTests.unplaceTiles.placeAll m).clearSlots

theorem install_eq (s : State) (m : Image) (start : Nat) : s.install m start =
    ((((s.loadTables m (m.plan start).serving).loadSpads m).loadTiles m).takePlan (m.plan start)).movePlan .loaded := rfl

/-! #### Registers -/

/-- The registers that an image gives. -/
def loadRegs : List RegField :=
  [.PLN_EPOCH_epoch, .PLN_CFG_toll_reach, .PLN_CFG_grace_q, .PLN_CFG_region_rest, .PLN_CFG_item_rest, .PLN_DOMAIN_domain_modules
   , .PLN_DOMAIN_k_required, .BEAT_DERATE_derate_n, .LNK_GIVE_give_beats, .LNK_GIVE_in_plan, .RTE_EPOCH_epoch, .RTE_PLAN_forwarding_only
   , .SRV_STATUS_layout, .SRV_STATUS_slots, .SRV_STATUS_groups, .SRV_STATUS_heads, .PLN_LOAD_STATUS_code, .PLN_LOAD_STATUS_detail]

theorem loadLayout_cases (s : State) (y : Option Layout) : s.loadLayout y = s ∨ ∃ a b c, s.loadLayout y =
    (((s.set .SRV_STATUS_layout 0 1).set .SRV_STATUS_slots 0 a).set .SRV_STATUS_groups 0 b).set .SRV_STATUS_heads 0 c := by
  cases y with
  | none => exact .inl rfl
  | some y => exact .inr ⟨_, _, _, rfl⟩

theorem loadLayout_apart (s : State) (y : Option Layout) : (s.loadLayout y).apart = s.apart := by
  rcases loadLayout_cases s y with h | ⟨a, b, c, h⟩ <;> rw [h]
  simp

theorem loadLayout_sameRegs (s : State) (y : Option Layout) :
    SameRegs [.SRV_STATUS_layout, .SRV_STATUS_slots, .SRV_STATUS_groups, .SRV_STATUS_heads] s (s.loadLayout y) := by
  rcases loadLayout_cases s y with h | ⟨a, b, c, h⟩ <;> rw [h]
  · exact SameRegs.refl _ s
  · refine SameRegs.set (.set (.set (.set (.refl _ s) ?_ _ _) ?_ _ _) ?_ _ _) ?_ _ _ <;> decide

theorem loadHeader_apart (s : State) (h : Header) : (s.loadHeader h).apart = s.apart := by simp [State.loadHeader]

theorem loadHeader_sameRegs (s : State) (h : Header) : SameRegs
    [.PLN_EPOCH_epoch, .PLN_CFG_toll_reach, .PLN_CFG_grace_q, .PLN_CFG_region_rest, .PLN_CFG_item_rest, .PLN_DOMAIN_domain_modules
     , .PLN_DOMAIN_k_required, .BEAT_DERATE_derate_n] s (s.loadHeader h) := by
  unfold State.loadHeader
  refine SameRegs.set (.set (.set (.set (.set (.set (.set (.set (.refl _ s) ?_ _ _) ?_ _ _) ?_ _ _) ?_ _ _) ?_ _ _) ?_ _ _) ?_ _ _) ?_ _ _
    <;> decide

theorem loadHeader_epoch (s : State) (h : Header) : (s.loadHeader h).get .PLN_EPOCH_epoch 0 = h.epoch % 2 ^ 16 := by
  unfold State.loadHeader
  dsimp only
  iterate 7 rw [State.get_set_other _ _ (.inl (by decide))]
  exact State.get_set_same ..

theorem loadGive_sameRegs (s : State) (p : PortRec) : SameRegs [.LNK_GIVE_give_beats, .LNK_GIVE_in_plan] s (s.loadGive p) := by
  unfold State.loadGive
  refine SameRegs.set (.set (.refl _ s) ?_ _ _) ?_ _ _ <;> decide

theorem loadGives_sameRegs (l : List PortRec) (s : State) :
    SameRegs [.LNK_GIVE_give_beats, .LNK_GIVE_in_plan] s (l.foldl State.loadGive s) := SameRegs.foldl loadGive_sameRegs l s

theorem loadGives_apart (l : List PortRec) (s : State) : (l.foldl State.loadGive s).apart = s.apart :=
  foldl_keeps State.apart (g := State.loadGive) (fun _ _ => rfl) l s

theorem loadGivesAll_sameRegs (s : State) (m : Image) (r : Router) :
    SameRegs [.LNK_GIVE_give_beats, .LNK_GIVE_in_plan] (s.loadHeader m.header) (s.loadGives m r) := by
  have hclear : SameRegs [.LNK_GIVE_give_beats, .LNK_GIVE_in_plan] (s.loadHeader m.header) ((s.loadHeader m.header).clearGives.withRouter r) :=
    fun f i hf => (withRouter_get ..).trans (clearGives_sameRegs (s.loadHeader m.header) f i hf)
  exact hclear.trans (loadGives_sameRegs _ _)

theorem withRouter_apart {s t : State} (h : t.apart = s.apart) (r : Router) : (t.withRouter r).apart = (s.withRouter r).apart :=
  (congrArg (fun s => s.withRouter r) h : t.apart.withRouter r = s.apart.withRouter r)

theorem loadGivesAll_apart (s : State) (m : Image) (r : Router) : (s.loadGives m r).apart = (s.withRouter r).apart := by
  unfold State.loadGives
  rw [loadGives_apart]
  exact withRouter_apart ((clearGives_apart _).trans (loadHeader_apart _ _)) r

theorem recordLoad_apart (s : State) (c : LoadCode) (d : Nat) : (s.recordLoad c d).apart = s.apart := rfl

theorem loadTables_apart (s : State) (m : Image) (y : Option Layout) : (s.loadTables m y).apart = (s.withRouter (m.router s.router)).apart := by
  rw [State.loadTables, recordLoad_apart, loadLayout_apart, apart_set, apart_set, loadGivesAll_apart, router_of_apart (loadHeader_apart s m.header)]

theorem loadTables_sameRegs (s : State) (m : Image) (y : Option Layout) : SameRegs loadRegs s (s.loadTables m y) := by
  have hhead : SameRegs loadRegs s (s.loadHeader m.header) := (loadHeader_sameRegs s m.header).mono (by decide)
  have hgive := hhead.trans ((loadGivesAll_sameRegs s m (m.router (s.loadHeader m.header).router)).mono (by decide))
  have hepoch := (hgive.set (f := .RTE_EPOCH_epoch) (by decide) 0 m.header.epoch).set (f := .RTE_PLAN_forwarding_only) (by decide) 0 0
  exact (hepoch.trans ((loadLayout_sameRegs _ y).mono (by decide))).trans ((recordLoad_sameRegs _ .ok 0).mono (by decide))

theorem loadTables_code (s : State) (m : Image) (y : Option Layout) : (s.loadTables m y).get .PLN_LOAD_STATUS_code 0 = 0 :=
  recordLoad_code _ .ok 0

theorem loadTables_routerEpoch (s : State) (m : Image) (y : Option Layout) :
    (s.loadTables m y).get .RTE_EPOCH_epoch 0 = m.header.epoch % 2 ^ 16 := by
  rw [State.loadTables, recordLoad_sameRegs _ _ _ _ _ (by decide), loadLayout_sameRegs _ _ _ _ (by decide),
    State.get_set_other _ _ (.inl (by decide))]
  exact State.get_set_same ..

theorem loadTables_epoch (s : State) (m : Image) (y : Option Layout) :
    (s.loadTables m y).get .PLN_EPOCH_epoch 0 = m.header.epoch % 2 ^ 16 := by
  rw [State.loadTables, recordLoad_sameRegs _ _ _ _ _ (by decide), loadLayout_sameRegs _ _ _ _ (by decide),
    State.get_set_other _ _ (.inl (by decide)), State.get_set_other _ _ (.inl (by decide)), loadGivesAll_sameRegs _ _ _ _ _ (by decide),
    loadHeader_epoch]

end Sys2Proof.Machine

namespace Sys2Proof.Machine

/-! #### What scratchpads, tiles and slots leave alone -/

/-- The state without its scratchpads. -/
def State.offSpad (s : State) : State := { s with spad := Memory.empty, spadErr := [] }

theorem writeSpad_offSpad (s : State) (t byte : Nat) (b : List Byte) : (s.writeSpad t byte b).offSpad = s.offSpad := rfl

theorem flushTests_offSpad (s : State) : s.flushTests.offSpad = s.offSpad := by
  unfold State.flushTests
  refine foldl_keeps State.offSpad (fun s e => ?_) s.tiles s
  refine foldl_keeps State.offSpad (fun s k => ?_) e.2.tests s
  rfl

def State.withSpad (s : State) (m : Memory) (e : Table Nat) : State := { s with spad := m, spadErr := e }

theorem withSpad_offSpad (s : State) (m : Memory) (e : Table Nat) : (s.withSpad m e).offSpad = s.offSpad := rfl

theorem zeroSpads_eq (s : State) : ∃ m e, s.zeroSpads = s.withSpad m e := by
  unfold State.zeroSpads
  exact ⟨_, _, rfl⟩

theorem zeroSpads_offSpad (s : State) : s.zeroSpads.offSpad = s.offSpad := by
  obtain ⟨m, e, h⟩ := zeroSpads_eq s
  rw [h, withSpad_offSpad]

theorem fillDie_offSpad (m : Image) (s : State) (d : Nat) : (State.fillDie m s d).offSpad = s.offSpad := by
  unfold State.fillDie
  refine (foldl_keeps State.offSpad (fun s e => ?_) _ _).trans
    ((foldl_keeps State.offSpad (fun s e => ?_) _ _).trans (foldl_keeps State.offSpad (fun s r => ?_) _ _))
  all_goals exact writeSpad_offSpad ..

theorem fillAll_offSpad (m : Image) (s : State) : (s.fillAll m).offSpad = s.offSpad :=
  foldl_keeps State.offSpad (g := State.fillDie m) (fillDie_offSpad m) _ s

theorem loadSpads_offSpad (s : State) (m : Image) : (s.loadSpads m).offSpad = s.offSpad := by
  rw [State.loadSpads, fillAll_offSpad, zeroSpads_offSpad, flushTests_offSpad]

/-- The state without its tiles and ports. -/
def State.offPlaces (s : State) : State := { s with tiles := [], ports := [] }

theorem offPlaces_of_offPorts {s t : State} (h : t.offPorts = s.offPorts) : t.offPlaces = s.offPlaces :=
  (congrArg State.offPlaces h : t.offPorts.offPlaces = s.offPorts.offPlaces)

theorem placeAll_offPlaces (m : Image) (s : State) : (s.placeAll m).offPlaces = s.offPlaces := by
  rw [placeAll_eq]
  exact foldl_keeps State.offPlaces (g := State.place m.header.repeats) (fun _ _ => rfl) _ s

theorem unplaceTiles_offPlaces (s : State) : s.unplaceTiles.offPlaces = s.offPlaces := rfl
theorem refillTests_offPlaces (s : State) : s.refillTests.offPlaces = s.offPlaces := rfl

theorem loadTiles_offPlaces (s : State) (m : Image) : (s.loadTiles m).offPlaces = s.offPlaces := by
  rw [State.loadTiles, offPlaces_of_offPorts (clearSlots_offPorts _), placeAll_offPlaces, unplaceTiles_offPlaces, refillTests_offPlaces]

theorem spad_of_offPlaces {s t : State} (h : t.offPlaces = s.offPlaces) : t.spad = s.spad := by injection h

theorem loadTiles_tile (s : State) (m : Image) (k : Nat) :
    (s.loadTiles m).tile k = (s.refillTests.unplaceTiles.placeAll m).tile k :=
  congrArg (fun x => Table.get Tile.reset x k) (clearSlots_parts (s.refillTests.unplaceTiles.placeAll m)).2.2

/-- The state without scratchpads, tiles, ports and registers. -/
def State.steady (s : State) : State := { s.apart with spad := Memory.empty, spadErr := [], tiles := [], ports := [] }

theorem steady_of_offSpad {s t : State} (h : t.offSpad = s.offSpad) : t.steady = s.steady :=
  (congrArg State.steady h : t.offSpad.steady = s.offSpad.steady)
theorem steady_of_offPlaces {s t : State} (h : t.offPlaces = s.offPlaces) : t.steady = s.steady :=
  (congrArg State.steady h : t.offPlaces.steady = s.offPlaces.steady)
theorem steady_of_apart {s t : State} (h : t.apart = s.apart) : t.steady = s.steady :=
  (congrArg State.steady h : t.apart.steady = s.apart.steady)

theorem parts_of_steady {s t : State} (h : t.steady = s.steady) : t.fused = s.fused ∧ t.raised = s.raised ∧ t.time = s.time
    ∧ t.plan = s.plan ∧ t.router = s.router ∧ t.host = s.host ∧ t.tier1 = s.tier1 ∧ t.tier2 = s.tier2 ∧ t.mgmt = s.mgmt := by
  refine ⟨?_, ?_, ?_, ?_, ?_, ?_, ?_, ?_, ?_⟩ <;> injection h

theorem regs_of_offSpad {s t : State} (h : t.offSpad = s.offSpad) : t.regs = s.regs := by injection h
theorem regs_of_offPlaces {s t : State} (h : t.offPlaces = s.offPlaces) : t.regs = s.regs := by injection h
theorem fused_of_steady {s t : State} (h : t.steady = s.steady) : t.fused = s.fused := (parts_of_steady h).1

/-! #### The module with an image -/

/-- The module with an image's tables, scratchpads and programs. -/
def State.loadAll (s : State) (m : Image) (y : Option Layout) : State := ((s.loadTables m y).loadSpads m).loadTiles m

theorem loadAll_steady (s : State) (m : Image) (y : Option Layout) :
    (s.loadAll m y).steady = (s.withRouter (m.router s.router)).steady := by
  rw [State.loadAll, steady_of_offPlaces (loadTiles_offPlaces _ m), steady_of_offSpad (loadSpads_offSpad _ m),
    steady_of_apart (loadTables_apart s m y)]

theorem withRouter_fused (s : State) (r : Router) : (s.withRouter r).fused = s.fused := rfl

theorem loadTables_fused (s : State) (m : Image) (y : Option Layout) : (s.loadTables m y).fused = s.fused := by
  rw [fused_of_steady (steady_of_apart (loadTables_apart s m y)), withRouter_fused]

theorem loadAll_get (s : State) (m : Image) (y : Option Layout) (f : RegField) (i : Nat) :
    (s.loadAll m y).get f i = (s.loadTables m y).get f i := by
  have htiles := loadTiles_offPlaces ((s.loadTables m y).loadSpads m) m
  have hspad := loadSpads_offSpad (s.loadTables m y) m
  exact State.get_congr ((regs_of_offPlaces htiles).trans (regs_of_offSpad hspad))
    (fused_of_steady ((steady_of_offPlaces htiles).trans (steady_of_offSpad hspad))) f i

theorem loadAll_spad (s : State) (m : Image) (y : Option Layout) :
    (s.loadAll m y).spad = (((s.loadTables m y).flushTests.zeroSpads).fillAll m).spad :=
  spad_of_offPlaces (loadTiles_offPlaces ((s.loadTables m y).loadSpads m) m)

section
variable (s : State) (m : Image) (y : Option Layout)

/-- The tiles before their programs are placed. -/
theorem loadAll_tile (k : Nat) : ∃ u : State, (s.loadAll m y).tile k = (u.placeAll m).tile k ∧ u.fused = s.fused ∧ (u.tile k).prog = none := by
  refine ⟨((s.loadTables m y).loadSpads m).refillTests.unplaceTiles, ?_, ?_, unplaceTiles_prog _ k⟩
  · rw [State.loadAll, loadTiles_tile]
  · rw [fused_of_steady (steady_of_offPlaces ((unplaceTiles_offPlaces _).trans (refillTests_offPlaces _))),
      fused_of_steady (steady_of_offSpad (loadSpads_offSpad _ m)), loadTables_fused]

theorem filled_fused : (s.loadTables m y).flushTests.zeroSpads.fused = s.fused := by
  have hspad : ((s.loadTables m y).flushTests.zeroSpads).offSpad = (s.loadTables m y).offSpad := by
    rw [zeroSpads_offSpad, flushTests_offSpad]
  rw [fused_of_steady (steady_of_offSpad hspad), loadTables_fused]

theorem window_congr {s t : State} (h : ∀ f ∈ [RegField.FLD_SPAD_SECURE_base_blk, .FLD_SPAD_SECURE_size_blk], ∀ i, t.get f i = s.get f i)
    (d : Nat) : t.window d = s.window d := by
  unfold State.window
  rw [h _ (by decide), h _ (by decide)]

theorem flushed_window (d : Nat) : (s.loadTables m y).flushTests.window d = s.window d := by
  have hflush := flushTests_offSpad (s.loadTables m y)
  refine window_congr (fun f hf i => ?_) d
  rw [State.get_congr (regs_of_offSpad hflush) (fused_of_steady (steady_of_offSpad hflush))]
  refine loadTables_sameRegs s m y f i ?_
  revert f
  decide

end

end Sys2Proof.Machine

namespace Sys2Proof.Machine

/-! ### PLAN_LOAD (R85, R251, R363) -/

theorem exec_planLoad {q : QueueIx} {cid : Cid} {s : State} (h : s.planAreaWritten = false) :
    exec (.planLoad q cid) s = hostCommand 0x10 q cid planLoad s := by
  show execPlanLoad q cid s = _
  unfold execPlanLoad
  rw [if_neg (by simp [h])]

/-- The module after a load. -/
def State.loaded (s : State) (m : Image) (start : Nat) (f : Fetched) : State := (s.install m start).complete f .success 0

theorem planLoad_state {s : State} {f : Fetched} (h : s.fatalActive = true ∨ s.noPlans = true) :
    planLoad f s = s.complete f .state s.stateResult := if_pos h

section
variable {s : State} {f : Fetched} (hfatal : s.fatalActive = false) (hplans : s.noPlans = false) (hbase : planAreaBase ≤ f.par 8 8)
  (htop : f.par 8 8 ≤ planAreaTop)
include hfatal hplans hbase htop

theorem planLoad_inArea : planLoad f s =
    if s.planState ≠ .idle then s.refusePlan f .planPresent 0
    else if !s.tiersServe then s.complete f .powerState 0
    else match s.imageRefusal (s.image (f.par 8 8)) with
      | some (c, d) => s.refusePlan f c d
      | none => s.loaded (s.image (f.par 8 8)) (f.par 8 8) f :=
  (if_neg (by simp [hfatal, hplans])).trans (if_neg (by omega))

theorem planLoad_present (h : s.planState ≠ .idle) : planLoad f s = s.refusePlan f .planPresent 0 := by
  rw [planLoad_inArea hfatal hplans hbase htop, if_pos h]

theorem planLoad_checked (h : s.planState = .idle) (hserve : s.tiersServe = true) : planLoad f s =
    match s.imageRefusal (s.image (f.par 8 8)) with
    | some (c, d) => s.refusePlan f c d
    | none => s.loaded (s.image (f.par 8 8)) (f.par 8 8) f := by
  rw [planLoad_inArea hfatal hplans hbase htop, if_neg (by simp [h]), if_neg (by simp [hserve])]

theorem planLoad_refused (h : s.planState = .idle) (hserve : s.tiersServe = true) {c : LoadCode} {d : Nat}
    (himage : s.imageRefusal (s.image (f.par 8 8)) = some (c, d)) : planLoad f s = s.refusePlan f c d := by
  rw [planLoad_checked hfatal hplans hbase htop h hserve, himage]

theorem planLoad_taken (h : s.planState = .idle) (hserve : s.tiersServe = true)
    (himage : s.imageRefusal (s.image (f.par 8 8)) = none) :
    planLoad f s = s.loaded (s.image (f.par 8 8)) (f.par 8 8) f := by
  rw [planLoad_checked hfatal hplans hbase htop h hserve, himage]

end

/-! #### The plan in force -/

theorem takePlan_get (s : State) (p : Plan) (f : RegField) (i : Nat) : (s.takePlan p).get f i = s.get f i := rfl
theorem takePlan_plan (s : State) (p : Plan) : (s.takePlan p).plan = s.plan.fresh (some p) := rfl

theorem memories_of_field {s t : State} (h : t.field = s.field) : t.spad = s.spad ∧ t.tier1 = s.tier1 ∧ t.tier2 = s.tier2 := by
  unfold State.field at h
  simp only [Prod.mk.injEq] at h
  obtain ⟨⟨hspad, htier1, htier2, -⟩, -⟩ := h
  exact ⟨hspad, htier1, htier2⟩

/-- All that a new plan in the hub leaves alone. -/
theorem takePlan_parts (s : State) (p : Plan) : (s.takePlan p).raised = s.raised ∧ (s.takePlan p).time = s.time
    ∧ (s.takePlan p).router = s.router ∧ (s.takePlan p).host.queues = s.host.queues ∧ (s.takePlan p).host.fetched = s.host.fetched
    ∧ (s.takePlan p).tier1 = s.tier1 ∧ (s.takePlan p).tier2 = s.tier2 ∧ (s.takePlan p).mgmt = s.mgmt ∧ (s.takePlan p).field = s.field :=
  ⟨rfl, rfl, rfl, rfl, rfl, rfl, rfl, rfl, rfl⟩

section
variable (s : State) (m : Image) (start : Nat) (f : Fetched)

theorem loaded_eq : s.loaded m start f
    = (((s.loadAll m (m.plan start).serving).takePlan (m.plan start)).movePlan .loaded).complete f .success 0 :=
  congrArg (fun t => t.complete f .success 0) (install_eq s m start)

theorem loaded_core : (s.loaded m start f).core = ((s.loadAll m (m.plan start).serving).takePlan (m.plan start)).core := by
  rw [loaded_eq, core_complete]
  exact core_of_quiet (quiet_movePlan _ _)

theorem loaded_get {g : RegField} (i : Nat)
    (hg : g ∉ [RegField.HST_ERR_cmd_errors, .HST_ERR_events_lost, .PLN_STATUS_state, .RTE_PLAN_rstate]) :
    (s.loaded m start f).get g i = (s.loadTables m (m.plan start).serving).get g i := by
  have herr := List.ne_of_not_mem_cons hg
  have hmove := List.not_mem_of_not_mem_cons hg
  rw [loaded_eq, complete_get _ _ _ _ _ herr, movePlan_get _ _ _ hmove, takePlan_get, loadAll_get]

theorem loaded_planState : (s.loaded m start f).planState = .loaded := by
  obtain ⟨-, -, -, hstate, -⟩ := complete_parts (((s.loadAll m (m.plan start).serving).takePlan (m.plan start)).movePlan .loaded) f .success 0
  rw [loaded_eq, hstate, movePlan_planState]

theorem loaded_rstate : (s.loaded m start f).get .RTE_PLAN_rstate 0 = 1 := by
  rw [loaded_eq, complete_get _ _ _ _ _ (by decide)]
  exact movePlan_rstate (p := .loaded) (r := 1) _ rfl

theorem loaded_field : (s.loaded m start f).field = (s.loadAll m (m.plan start).serving).field := by
  obtain ⟨-, -, -, -, -, -, -, -, hfield⟩ := takePlan_parts (s.loadAll m (m.plan start).serving) (m.plan start)
  exact (core_field (loaded_core s m start f)).trans hfield

theorem loaded_completed : Completed f .success 0 s (s.loaded m start f) := by
  obtain ⟨-, -, -, -, -, hhost, -⟩ := parts_of_steady (loadAll_steady s m (m.plan start).serving)
  have hq := quiet_movePlan ((s.loadAll m (m.plan start).serving).takePlan (m.plan start)) .loaded
  obtain ⟨-, -, -, hqueues, hfetched, -⟩ := takePlan_parts (s.loadAll m (m.plan start).serving) (m.plan start)
  rw [loaded_eq]
  generalize (s.loadAll m (m.plan start).serving).takePlan (m.plan start) = u at *
  have hqueues' : (u.movePlan .loaded).host.queues = u.host.queues :=
    (congrArg (fun x => x.host.queues) hq : (u.movePlan .loaded).quiet.host.queues = u.quiet.host.queues)
  have hfetched' : (u.movePlan .loaded).host.fetched = u.host.fetched :=
    (congrArg (fun x => x.host.fetched) hq : (u.movePlan .loaded).quiet.host.fetched = u.quiet.host.fetched)
  refine complete_completed ?_ ?_ f .success 0
  · rw [hqueues', hqueues, hhost]
    rfl
  · rw [hfetched', hfetched, hhost]
    rfl

/-- What a load leaves alone, and the router's tables. -/
theorem loaded_parts : (s.loaded m start f).raised = s.raised ∧ (s.loaded m start f).time = s.time
    ∧ (s.loaded m start f).router = m.router s.router ∧ (s.loaded m start f).plan = s.plan.fresh (some (m.plan start))
    ∧ (s.loaded m start f).mgmt = s.mgmt := by
  have hcore := loaded_core s m start f
  obtain ⟨-, hraised, htime, hplan, hrouter, -, -, -, hmgmt⟩ := parts_of_steady (loadAll_steady s m (m.plan start).serving)
  obtain ⟨hraised', htime', hrouter', -, -, -, -, hmgmt', -⟩ := takePlan_parts (s.loadAll m (m.plan start).serving) (m.plan start)
  have hplan' := takePlan_plan (s.loadAll m (m.plan start).serving) (m.plan start)
  refine ⟨?_, ?_, ?_, ?_, ?_⟩
  · rw [core_raised hcore, hraised', hraised]
    rfl
  · rw [core_time hcore, htime', htime]
    rfl
  · rw [core_router hcore, hrouter', hrouter]
    rfl
  · rw [core_plan hcore, hplan', hplan]
    rfl
  · rw [core_mgmt hcore, hmgmt', hmgmt]
    rfl

theorem loaded_tiers : (s.loaded m start f).tier1 = s.tier1 ∧ (s.loaded m start f).tier2 = s.tier2 := by
  have hfield := loaded_field s m start f
  obtain ⟨-, -, -, -, -, -, h1, h2, -⟩ := parts_of_steady (loadAll_steady s m (m.plan start).serving)
  obtain ⟨-, h1', h2'⟩ := memories_of_field hfield
  refine ⟨?_, ?_⟩
  · rw [h1', h1]
    rfl
  · rw [h2', h2]
    rfl

theorem loaded_spad : (s.loaded m start f).spad = ((s.loadTables m (m.plan start).serving).flushTests.zeroSpads.fillAll m).spad := by
  rw [(memories_of_field (loaded_field s m start f)).1, loadAll_spad]

theorem loaded_tile (k : Nat) : (s.loaded m start f).tile k = (s.loadAll m (m.plan start).serving).tile k :=
  congrArg (fun x => Table.get Tile.reset x k) (tiles_of_field (loaded_field s m start f))

theorem loaded_prog {d : Nat} {e : ProgEntry} (hd : d < 8) (he : e ∈ m.progs s d)
    (hone : ∀ d' < 8, ∀ e' ∈ m.progs s d', e'.tile = e.tile → e' = e) :
    ((s.loaded m start f).tile e.tile).prog
        = some (Prog.mk (wordAddress e.prologue) e.prologueWords (wordAddress e.body) e.bodyWords m.header.repeats)
      ∧ ((s.loaded m start f).tile e.tile).running = false := by
  obtain ⟨u, htile, hfused, -⟩ := loadAll_tile s m (m.plan start).serving e.tile
  rw [loaded_tile, htile]
  have hprogs (d : Nat) : m.progs u d = m.progs s d := progs_congr hfused m d
  exact placeAll_prog hd (by rw [hprogs]; exact he) (fun d' hd' e' he' => hone d' hd' e' (by rw [← hprogs]; exact he'))

theorem loaded_noProg {k : Nat} (h : ∀ d < 8, ∀ e ∈ m.progs s d, e.tile ≠ k) : ((s.loaded m start f).tile k).prog = none := by
  obtain ⟨u, htile, hfused, hnone⟩ := loadAll_tile s m (m.plan start).serving k
  rw [loaded_tile, htile, placeAll_other, hnone]
  exact fun d hd e he => h d hd e (by rw [← progs_congr hfused]; exact he)

section
variable (hbare : ∀ d < 8, (m.get 2 d).len < 8 ∧ (m.get 0x0B d).len < 8)
include hbare

theorem loaded_bytes {d : Nat} {e : ProgEntry} (hd : d < 8) (he : e ∈ m.progs s d)
    (hone : ∀ d' < 8, ∀ e' ∈ m.progs s d', d' = d ∧ e' = e) :
    (s.loaded m start f).spad.readBytes (2 ^ 20 * e.tile + 8 * e.load) e.bytes = (m.get 1 d).bytes e.offset e.bytes := by
  have hprogs (d : Nat) := progs_congr (filled_fused s m (m.plan start).serving) m d
  rw [loaded_spad]
  exact fillAll_bytes hbare hd (by rw [hprogs]; exact he) (fun d' hd' e' he' => hone d' hd' e' (by rw [← hprogs]; exact he'))

theorem loaded_zero (hnone : ∀ d < 8, m.progs s d = []) {k u b : Nat} (hk : k < 9216) (hused : s.tileUsed k = true) (hu : u < 2 ^ 15)
    (hwin : u < (s.window (tileDie k)).1 ∨ (s.window (tileDie k)).2 ≤ u) (hb : b < 32) :
    (s.loaded m start f).spad.read (2 ^ 20 * k + 32 * u + b) = 0 := by
  have hflush := flushTests_offSpad (s.loadTables m (m.plan start).serving)
  have hfused : (s.loadTables m (m.plan start).serving).flushTests.fused = s.fused := by
    rw [fused_of_steady (steady_of_offSpad hflush), loadTables_fused]
  rw [loaded_spad, fillAll_none hbare (fun d hd => by rw [progs_congr (filled_fused ..)]; exact hnone d hd)]
  exact zeroSpads_read hk (by rw [tileUsed_congr hfused]; exact hused) hu hb (by rw [flushed_window]; exact hwin)

end

end

/-! #### The checks look at nothing that the start of a row changes -/

theorem image_begin (s : State) (start : Nat) : s.begin.image start = s.image start := rfl

theorem sectionOk_begin (s : State) (m : Image) (l : List Section) (e : Section) : s.begin.sectionOk m l e = s.sectionOk m l e := rfl

theorem sectionRefusal_begin (s : State) (m : Image) (i : Nat) (l es : List Section) :
    s.begin.sectionRefusal m i l es = s.sectionRefusal m i l es := by
  induction es generalizing i l with
  | nil => rfl
  | cons e es ih =>
    unfold State.sectionRefusal
    rw [sectionOk_begin, ih]

theorem imageRefusal_begin (s : State) (m : Image) : s.begin.imageRefusal m = s.imageRefusal m := by
  unfold State.imageRefusal
  dsimp only
  rw [sectionRefusal_begin]
  rfl

/-- Settles O27: refusals complete before anything changes, and an accepted image is installed step by step (R251). -/
theorem planLoadChecksAndLoads : Obligations.PlanLoadChecksAndLoads := by
  unfold Obligations.PlanLoadChecksAndLoads
  intro q cid f s hr hwritten
  have hrun {P : State → Prop} (h : P (planLoad f s.begin)) : s.Runs (.planLoad q cid) P :=
    State.runs_hostCommand (exec_planLoad hwritten) hr h
  have hbegin : s.begin.imageRefusal (s.begin.image (f.par 8 8)) = s.imageRefusal (s.image (f.par 8 8)) := by
    rw [imageRefusal_begin, image_begin]
  refine ⟨fun h => hrun ?_, fun hfatal hplans hbase htop => ⟨fun hpresent => hrun ?_,
    fun hidle hserve => ⟨fun c d himage => hrun ?_, fun himage => hrun ?_⟩⟩⟩
  · rw [planLoad_state (s := s.begin) h]
    have hcore := core_complete s.begin f .state s.begin.stateResult
    obtain ⟨hbytes, htiles⟩ := field_of_core hcore
    exact ⟨begin_completed s f .state _, complete_sameRegs s.begin f .state _, hbytes, htiles, core_plan hcore⟩
  · rw [planLoad_present (s := s.begin) hfatal hplans hbase htop hpresent]
    have hcore := core_refusePlan s.begin f .planPresent 0
    have hregs := refusePlan_sameRegs s.begin f .planPresent 0
    obtain ⟨hbytes, htiles⟩ := field_of_core hcore
    exact ⟨refusePlan_completed s.begin f .planPresent 0, refusePlan_code .., planState_of_sameRegs hregs (by decide), hbytes, htiles, hregs,
      core_plan hcore⟩
  · rw [planLoad_refused (s := s.begin) hfatal hplans hbase htop hidle hserve (hbegin.trans himage)]
    have hcore := core_refusePlan s.begin f c d
    have hregs := refusePlan_sameRegs s.begin f c d
    obtain ⟨hbytes, htiles⟩ := field_of_core hcore
    exact ⟨refusePlan_completed s.begin f c d, (planState_of_sameRegs hregs (by decide)).trans hidle, refusePlan_code .., hbytes, htiles,
      core_plan hcore, hregs⟩
  · rw [planLoad_taken (s := s.begin) hfatal hplans hbase htop hidle hserve (hbegin.trans himage)]
    have hprogs (m : Image) (d : Nat) : m.progs s d = m.progs s.begin d := progs_congr (s := s.begin) rfl m d
    rw [image_begin]
    clear himage hbegin
    generalize s.image (f.par 8 8) = m
    generalize f.par 8 8 = start
    obtain ⟨hraised, htime, hrouter, hplan, hmgmt⟩ := loaded_parts s.begin m start f
    obtain ⟨htier1, htier2⟩ := loaded_tiers s.begin m start f
    simp only [hprogs]
    refine ⟨loaded_completed s.begin m start f, loaded_planState .., ?_, ?_, ?_, loaded_rstate .., hrouter,
      fun d hd e he hone => loaded_prog s.begin m start f hd he hone, fun k h => loaded_noProg s.begin m start f h,
      fun hbare => ⟨fun d hd e he hone => loaded_bytes s.begin m start f hbare hd he hone,
        fun hnone k hk hused u hu hwin b hb => loaded_zero s.begin m start f hbare hnone hk hused hu hwin hb⟩, ?_, ?_, ?_, htime,
      hraised, htier1, htier2, hmgmt⟩
    · exact (loaded_get s.begin m start f 0 (by decide)).trans (loadTables_code ..)
    · exact (loaded_get s.begin m start f 0 (by decide)).trans (loadTables_epoch ..)
    · exact (loaded_get s.begin m start f 0 (by decide)).trans (loadTables_routerEpoch ..)
    · rw [hplan]
      rfl
    · rw [hplan]
      rfl
    · rw [hplan]
      rfl

end Sys2Proof.Machine

namespace Sys2Proof.Machine

/-! ### A state with one tile changed -/

@[simp] theorem tile_setTile_same (s : State) (t : Nat) (y : Tile) : (s.setTile t y).tile t = y := Table.get_set_same ..

theorem tile_setTile_other (s : State) {t k : Nat} (y : Tile) (h : k ≠ t) : (s.setTile t y).tile k = s.tile k :=
  Table.get_set_ne _ _ _ _ h

/-- The state without its tiles, and without what the last command put out. -/
def State.tileless (s : State) : State := { s with out := [], tiles := [] }

/-- `u` is `s` with `y` as its tile `t`, but for the outputs. Two tables that read alike may list their tiles differently, so this
says how tiles read, not how they are held. -/
structure TileIs (t : Nat) (s : State) (y : Tile) (u : State) : Prop where
  rest : u.tileless = s.tileless
  others : ∀ k, k ≠ t → u.tile k = s.tile k
  tile : u.tile t = y

namespace TileIs
variable {t : Nat} {s u w : State} {y z : Tile}

theorem refl (t : Nat) (s : State) : TileIs t s (s.tile t) s := ⟨rfl, fun _ _ => rfl, rfl⟩

theorem trans (h : TileIs t s y u) (h' : TileIs t u z w) : TileIs t s z w :=
  ⟨h'.rest.trans h.rest, fun k hk => (h'.others k hk).trans (h.others k hk), h'.tile⟩

theorem setTile (h : TileIs t s y u) (z : Tile) : TileIs t s z (u.setTile t z) :=
  ⟨h.rest, fun k hk => (tile_setTile_other u z hk).trans (h.others k hk), tile_setTile_same u t z⟩

theorem modTile (h : TileIs t s y u) (f : Tile → Tile) : TileIs t s (f y) (u.modTile t f) := by
  unfold State.modTile
  rw [h.tile]
  exact h.setTile (f y)

theorem begin (h : TileIs t s y u) : TileIs t s y u.begin := ⟨h.rest, h.others, h.tile⟩

/-- A part of the state other than its tiles and outputs is as it was. -/
theorem part {α : Type} (h : TileIs t s y u) (f : State → α) (hf : ∀ x, f x.tileless = f x := by exact fun _ => rfl) :
    f u = f s := by rw [← hf u, h.rest, hf s]

theorem get (h : TileIs t s y u) (f : RegField) (i : Nat) : u.get f i = s.get f i := h.part (fun x => x.get f i)

/-- A register written on both sides. -/
theorem set (h : TileIs t s y u) (f : RegField) (i v : Nat) : TileIs t (s.set f i v) y (u.set f i v) :=
  ⟨congrArg (fun x => State.set x f i v) h.rest, h.others, h.tile⟩

/-- The units of scratchpad read as they did, where no test of a bank has begun or ended. -/
theorem spadUnit (h : TileIs t s y u) (ht : y.tests = (s.tile t).tests) (n : Nat) : u.spadUnit t n = s.spadUnit t n := by
  unfold State.spadUnit State.testOn
  rw [h.tile, ht, h.part State.spad]

theorem sameBytes (h : TileIs t s y u) : SameBytes s u := by
  intro a
  rw [h.part State.spad, h.part State.tier1, h.part State.tier2, h.part State.mgmt]
  exact ⟨rfl, rfl, rfl, rfl, rfl⟩

theorem onlyTile (h : TileIs t s y u) : OnlyTile t s u :=
  ⟨h.others, h.sameBytes, h.part State.regs,
    ⟨h.part State.time, h.part State.plan, h.part State.ports, h.part State.router, h.part State.host, h.part State.serving⟩,
    ⟨h.part State.mgmt, h.part State.fault, h.part State.pwr, h.part State.tel⟩, h.part State.dn, h.part State.spadErr,
    h.part State.raised⟩

end TileIs

/-! ### What the sequencer changes of its tile -/

/-- What comes in the tile's record after an instruction: the program address, the time, the loops, the passes. -/
theorem goOn_eq (x : Tile) (pc c n : Nat) : ∃ a m ls p b f, x.goOn pc c n
    = { x with pc := a, nextIssue := m, loops := ls, passes := p, inBody := b, finished := f } := by
  unfold Tile.goOn Tile.regionOn
  dsimp only
  split
  · exact ⟨_, _, _, _, _, _, rfl⟩
  · (repeat' split) <;> exact ⟨_, _, _, _, _, _, rfl⟩

/-! ### Tiles whose units do nothing -/

/-- The units that gating stops have nothing to do. -/
structure Tile.CoreIdle (x : Tile) : Prop where
  cpend : x.cpend = []
  voiceLoad : x.voiceLoad = none
  planeLoad : x.planeLoad = none
  mma : x.mma = none
  mmaResults : x.mmaResults = []
  vrun : x.vrun = none
  vrunResults : x.vrunResults = []
  seed : x.seed = none

/-- No unit of the tile has anything to do; its sequencer, flags and posts may have. -/
structure Tile.Idle (x : Tile) : Prop extends x.CoreIdle where
  push : x.push = []
  pull : x.pull = []
  bwrites : x.bwrites = []
  claim : x.claim = none
  tests : x.tests = []
  landing : ∀ a ∈ x.accesses, a.landing = none

/-- A quiet tile's units are idle, and neither posts nor flags nor a wait are left. -/
theorem quiet_iff (x : Tile) : x.quiet = true ↔
    x.Idle ∧ x.posts = [] ∧ x.sets = [] ∧ x.clears = [] ∧ x.block = none ∧ (x.finished = true → x.endedBy ≠ none) := by
  have hend : (!(x.finished && x.endedBy.isNone)) = true ↔ (x.finished = true → x.endedBy ≠ none) := by
    cases x.finished <;> cases x.endedBy <;> simp
  unfold Tile.quiet
  simp only [Bool.and_eq_true, List.isEmpty_iff, Option.isNone_iff_eq_none, List.all_eq_true, hend]
  constructor
  · rintro ⟨⟨⟨⟨⟨⟨⟨⟨⟨⟨⟨⟨⟨⟨⟨⟨⟨⟨hcpend, hposts⟩, hvoice⟩, hplane⟩, hmma⟩, hmmaR⟩, hvrun⟩, hvrunR⟩, hpush⟩, hpull⟩, hbw⟩, hseed⟩, hclaim⟩, hsets⟩,
      hclears⟩, htests⟩, hblock⟩, hland⟩, hfin⟩
    exact ⟨⟨⟨hcpend, hvoice, hplane, hmma, hmmaR, hvrun, hvrunR, hseed⟩, hpush, hpull, hbw, hclaim, htests, hland⟩, hposts, hsets, hclears,
      hblock, hfin⟩
  · rintro ⟨h, hposts, hsets, hclears, hblock, hfin⟩
    exact ⟨⟨⟨⟨⟨⟨⟨⟨⟨⟨⟨⟨⟨⟨⟨⟨⟨⟨h.cpend, hposts⟩, h.voiceLoad⟩, h.planeLoad⟩, h.mma⟩, h.mmaResults⟩, h.vrun⟩, h.vrunResults⟩, h.push⟩, h.pull⟩,
      h.bwrites⟩, h.seed⟩, h.claim⟩, hsets⟩, hclears⟩, h.tests⟩, hblock⟩, h.landing⟩, hfin⟩

end Sys2Proof.Machine

namespace Sys2Proof.Machine

/-! ### The stages of a tile's cycle -/

/-- The PUSHes' part of a cycle. -/
def pushStage (t c : Nat) (x : Cycle) : Cycle :=
  let p := runOps (pushCycle t c) (x.s.tile t).push x
  p.2.mod t (fun y => { y with push := p.1 })

/-- The access engine's part of a cycle. -/
def landStage (t c : Nat) (x : Cycle) : Cycle :=
  let a := runOps (landAccess t) (x.s.tile t).accesses x
  let x := a.2.mod t (fun y => { y with accesses := a.1 })
  let x := x.add ((x.s.tile t).accesses.flatMap (fun a => if a.landing == some [] then a.stop.toList else []))
  x.mod t (fun y => y.completeAccesses c)

/-- The PULLs' part of a cycle. -/
def pullStage (t c : Nat) (x : Cycle) : Cycle :=
  let p := runOps (pullCycle t c) (x.s.tile t).pull x
  p.2.mod t (fun y => { y with pull := p.1 })

/-- A tile at the end of cycle `c`; `n` is the first plan beat of the next measure. -/
def Tile.ended (y : Tile) (c n : Nat) : Tile :=
  { y with now := c + 1, claim := none, endedBy := if y.finished then some (y.endedBy.getD n) else none }

/-- The cycle is past. -/
def endStage (t c : Nat) (x : Cycle) : Cycle := x.mod t (fun y => y.ended c x.s.nextMeasureBeat)

theorem unitsCycle_eq (t c : Nat) (x : Cycle) : unitsCycle t c x
    = endStage t c (testCycle t (flagsCycle t (cyclePosts t c (pullStage t c (landStage t c (bwriteCycle t c (coreCycle t c
      (pushStage t c x)))))))) := rfl

/-- What gated units would see of a cycle's beginning. -/
def startCore (t c : Nat) (x : Cycle) : Cycle := if x.s.gated t then x else coreStart t c x

/-- A cycle whose waiting sequencer has been looked at. -/
def Cycle.released (x : Cycle) (t c : Nat) : Cycle := { x with s := x.s.releaseAt t c }

theorem cycleStart_eq (t c : Nat) (x : Cycle) : cycleStart t c x
    = startCore t c ((x.add (x.s.expiredQueues t ++ x.s.expiredFlag t)).released t c) := rfl

/-- What count registers and results make of a tile at the beginning of cycle `c` (R211, R229). -/
def Tile.ripen (y : Tile) (c : Nat) : Tile :=
  { y with
    creg := (y.cpend.filter (fun w => decide (w.cycle ≤ c))).foldl (fun l w => l.set w.reg w.value) y.creg
    cpend := y.cpend.filter (fun w => decide (w.cycle > c))
    acc := (y.vrunResults.filter (fun r => decide (r.cycle ≤ c))).foldl (fun a r => Table.over AccRow.reset r.accW a) y.acc
    vrunResults := y.vrunResults.filter (fun r => decide (r.cycle > c))
    mmaResults := y.mmaResults.filter (fun r => decide (r.cycle > c)) }

/-- Nothing ripens where nothing is to come. -/
theorem Tile.ripen_none {y : Tile} (hcpend : y.cpend = []) (hmma : y.mmaResults = []) (hvrun : y.vrunResults = []) (c : Nat) :
    y.ripen c = y := by
  obtain ⟨prog, running, finished, endedBy, halted, now, nextIssue, pc, inBody, passes, tm, reached, loops, creg, cpend, board⟩ := y
  cases hcpend
  cases hmma
  cases hvrun
  rfl

theorem Tile.CoreIdle.ripen {y : Tile} (h : y.CoreIdle) (c : Nat) : y.ripen c = y := Tile.ripen_none h.cpend h.mmaResults h.vrunResults c

theorem Tile.CoreIdle.hold {y : Tile} (h : y.CoreIdle) (hp : ∀ p ∈ y.posts, p.core = false) : y.hold = y := by
  have hposts : y.posts.map (fun p => if p.core then { p with cycle := p.cycle + 1 } else p) = y.posts := by
    refine (List.map_congr_left (fun p hm => ?_)).trans (List.map_id y.posts)
    rw [hp p hm]
    rfl
  unfold Tile.hold
  rw [hposts, h.cpend, h.mma, h.mmaResults, h.vrun, h.vrunResults, h.planeLoad]
  obtain ⟨hcpend, -, hplane, hmma, hmmaR, hvrun, hvrunR, -⟩ := h
  cases y
  cases hcpend
  cases hmma
  cases hmmaR
  cases hplane
  cases hvrun
  cases hvrunR
  rfl

/-! ### A cycle in which the state differs in one tile -/

/-- The cycle's state is `s` with `y` as tile `t`; its conditions are `cs`, and port A has been claimed in the banks `bs`. -/
structure Cycle.At (t : Nat) (s : State) (y : Tile) (cs : List Cond) (bs : List Nat) (x : Cycle) : Prop where
  state : TileIs t s y x.s
  conds : x.conds = cs
  banks : x.banks = bs

namespace Cycle.At
variable {t c : Nat} {s : State} {y z : Tile} {cs ds : List Cond} {bs : List Nat} {x : Cycle} {u : State}

theorem begin (h : TileIs t s y u) (hclaim : y.claim = none) (cs : List Cond) : At t s y cs [] (Cycle.begin u t cs) := by
  refine ⟨h, rfl, ?_⟩
  unfold Cycle.begin
  dsimp only
  rw [h.tile, hclaim]

theorem mod (h : At t s y cs bs x) (f : Tile → Tile) : At t s (f y) cs bs (x.mod t f) := ⟨h.state.modTile f, h.conds, h.banks⟩

/-- An update that leaves the tile as it is. -/
theorem mod_same (h : At t s y cs bs x) {f : Tile → Tile} (hf : f y = y) : At t s y cs bs (x.mod t f) := by
  have := h.mod f
  rwa [hf] at this

theorem add (h : At t s y cs bs x) (ds : List Cond) : At t s y (cs ++ ds) bs (x.add ds) :=
  ⟨h.state, congrArg (· ++ ds) h.conds, h.banks⟩

theorem add_none (h : At t s y cs bs x) : At t s y cs bs (x.add []) := by
  have := h.add []
  rwa [List.append_nil] at this

/-! #### Stages in which nothing happens -/

theorem pushStage_none (h : At t s y cs bs x) (hp : y.push = []) : At t s y cs bs (pushStage t c x) := by
  unfold pushStage
  rw [h.state.tile, hp]
  exact h.mod_same (congrArg (fun l => { y with push := l }) hp.symm)

theorem pullStage_none (h : At t s y cs bs x) (hp : y.pull = []) : At t s y cs bs (pullStage t c x) := by
  unfold pullStage
  rw [h.state.tile, hp]
  exact h.mod_same (congrArg (fun l => { y with pull := l }) hp.symm)

theorem bwriteCycle_none (h : At t s y cs bs x) (hw : y.bwrites = []) : At t s y cs bs (bwriteCycle t c x) := by
  unfold bwriteCycle
  dsimp only
  rw [h.state.tile, hw]
  exact h.mod_same (by rw [hw]; exact congrArg (fun l => { y with bwrites := l }) hw.symm)

theorem voiceCycle_none (h : At t s y cs bs x) (hv : y.voiceLoad = none) : At t s y cs bs (voiceCycle t c x) := by
  unfold voiceCycle
  rwa [h.state.tile, hv]

theorem mmaCycle_none (h : At t s y cs bs x) (hm : y.mma = none) : At t s y cs bs (mmaCycle t c x) := by
  unfold mmaCycle
  rwa [h.state.tile, hm]

theorem planeCycle_none (h : At t s y cs bs x) (hp : y.planeLoad = none) : At t s y cs bs (planeCycle t c x) := by
  unfold planeCycle
  rwa [h.state.tile, hp]

theorem vrunCycle_none (h : At t s y cs bs x) (hv : y.vrun = none) : At t s y cs bs (vrunCycle t c x) := by
  unfold vrunCycle
  rwa [h.state.tile, hv]

/-- Accesses that wait for their tier write nothing and complete nothing. -/
theorem landStage_none (h : At t s y cs bs x) (ha : ∀ a ∈ y.accesses, a.landing = none) : At t s y cs bs (landStage t c x) := by
  have hrun : ∀ l : List TierAccess, (∀ a ∈ l, a.landing = none) → runOps (landAccess t) l x = (l, x) := by
    intro l hl
    induction l with
    | nil => rfl
    | cons a l ih =>
      have hone : landAccess t x a = (x, some a) := by
        unfold landAccess
        rw [hl a List.mem_cons_self]
      unfold runOps
      dsimp only
      rw [hone, ih (fun b hb => hl b (List.mem_cons_of_mem a hb))]
      rfl
  have hconds : y.accesses.flatMap (fun a => if a.landing == some [] then a.stop.toList else []) = [] := by
    refine List.flatMap_eq_nil_iff.2 (fun a hm => ?_)
    rw [ha a hm]
    rfl
  have hended : y.accesses.filter (fun a => a.landing == some []) = [] := by
    refine List.filter_eq_nil_iff.2 (fun a hm => ?_)
    rw [ha a hm]
    decide
  have hsame : y.completeAccesses c = y := by
    unfold Tile.completeAccesses
    rw [hended]
    rfl
  unfold landStage
  rw [h.state.tile, hrun _ ha]
  have hmod := h.mod_same (f := fun z => { z with accesses := y.accesses }) rfl
  dsimp only
  rw [hmod.state.tile, hconds]
  exact hmod.add_none.mod_same hsame

theorem cyclePosts_none (h : At t s y cs bs x) (hp : ∀ p ∈ y.posts, c < p.cycle) : At t s y cs bs (cyclePosts t c x) := by
  have hdue : y.posts.filter (fun p => decide (p.cycle ≤ c)) = [] :=
    List.filter_eq_nil_iff.2 (fun p hm => by simpa using hp p hm)
  have hleft : y.posts.filter (fun p => decide (p.cycle > c)) = y.posts :=
    List.filter_eq_self.2 (fun p hm => by simpa using hp p hm)
  unfold cyclePosts
  dsimp only
  rw [h.state.tile, hdue]
  exact h.mod_same (by rw [hleft])

/-- The one post of a tile applies where its token is not on the board (R132, R133). -/
theorem cyclePosts_one {p : Post} (h : At t s y cs bs x) (hp : y.posts = [p]) (hc : p.cycle ≤ c) (hpost : p.token ≠ 0)
    (hboard : bit y.board p.token = false) :
    At t s { y with posts := [], board := y.board + 2 ^ p.token } cs bs (cyclePosts t c x) := by
  have hdue : y.posts.filter (fun p => decide (p.cycle ≤ c)) = [p] := by rw [hp]; simp [hc]
  have hleft : y.posts.filter (fun p => decide (p.cycle > c)) = [] := by rw [hp]; simp [hc]
  have hmod := h.mod (fun y => { y with posts := y.posts.filter (fun p => decide (p.cycle > c)) })
  rw [hleft] at hmod
  unfold cyclePosts
  dsimp only
  rw [h.state.tile, hdue]
  dsimp only [List.foldl_cons, List.foldl_nil]
  rw [hmod.state.tile]
  have hnow : Tile.postNow { y with posts := [] } p.token p.pc = ({ y with posts := [], board := y.board + 2 ^ p.token }, []) := by
    unfold Tile.postNow
    rw [if_neg hpost, if_neg (by simpa using hboard)]
  rw [hnow]
  exact ⟨hmod.state.setTile _, (List.append_nil _).trans hmod.conds, hmod.banks⟩

theorem testCycle_none (h : At t s y cs bs x) (ht : y.tests = []) : At t s y cs bs (testCycle t x) := by
  unfold testCycle
  rwa [h.state.tile, ht]

/-! #### Stages of every cycle -/

theorem flagsCycle (h : At t s y cs bs x) : At t s y.settleFlags (cs ++ y.sets.flatMap y.setTwice) bs (flagsCycle t x) := by
  unfold Machine.flagsCycle
  rw [h.state.tile]
  exact (h.add _).mod _

theorem endStage (h : At t s y cs bs x) : At t s (y.ended c s.nextMeasureBeat) cs bs (endStage t c x) := by
  unfold Machine.endStage
  rw [h.state.part State.nextMeasureBeat]
  exact h.mod (fun z => z.ended c s.nextMeasureBeat)

/-! #### The units that gating stops -/

theorem coreCycle_idle (h : At t s y cs bs x) (hy : y.CoreIdle) (hp : ∀ p ∈ y.posts, p.core = false) :
    At t s y cs bs (coreCycle t c x) := by
  unfold coreCycle
  split
  · exact h.mod_same (hy.hold hp)
  · exact (((h.voiceCycle_none hy.voiceLoad).mmaCycle_none hy.mma).planeCycle_none hy.planeLoad).vrunCycle_none hy.vrun

theorem coreCycle_open (h : At t s y cs bs x) (hg : x.s.gated t = false) (hv : y.voiceLoad = none) (hm : y.mma = none)
    (hr : y.vrun = none) (hp : y.planeLoad = none) : At t s y cs bs (coreCycle t c x) := by
  unfold coreCycle
  rw [if_neg (by simp [hg])]
  exact (((h.voiceCycle_none hv).mmaCycle_none hm).planeCycle_none hp).vrunCycle_none hr

theorem gated (h : At t s y cs bs x) (hf : y.finished = false) (hb : y.block = none) : x.s.gated t = false := by
  unfold State.gated
  dsimp only
  rw [h.state.tile, hf, hb]
  exact Bool.and_false _

theorem gated_loading (h : At t s y cs bs x) (hv : y.voiceLoad ≠ none) : x.s.gated t = false := by
  unfold State.gated
  dsimp only
  rw [h.state.tile, Option.isNone_eq_false_iff.2 (Option.isSome_iff_ne_none.2 hv)]
  rfl

/-- The units show what is due, after the voice has, where no VRUN's result writes scratchpad. -/
theorem coreStart_of_voice (h : At t s y cs bs (voiceStart t c x)) (hs : y.seed = none) (hw : ∀ r ∈ y.vrunResults, r.spadW = []) :
    At t s (y.ripen c) cs bs (coreStart t c x) := by
  have hcommit : ∀ (l : List VrunResult) (s : State), (∀ r ∈ l, r.spadW = []) →
      l.foldl (fun s (r : VrunResult) => commitWrites t r.spadW s) s = s := by
    intro l s hl
    induction l with
    | nil => rfl
    | cons r l ih =>
      rw [List.foldl_cons, hl r List.mem_cons_self]
      exact ih (fun q hq => hl q (List.mem_cons_of_mem r hq))
  unfold Machine.coreStart
  dsimp only
  rw [h.state.tile, hs, hcommit _ _ (fun r hr => hw r (List.mem_of_mem_filter hr))]
  exact h.mod (fun z => { z with
    creg := (y.cpend.filter (fun w => decide (w.cycle ≤ c))).foldl (fun l w => l.set w.reg w.value) y.creg
    cpend := z.cpend.filter (fun w => decide (w.cycle > c))
    acc := (y.vrunResults.filter (fun r => decide (r.cycle ≤ c))).foldl (fun a r => Table.over AccRow.reset r.accW a) y.acc
    vrunResults := z.vrunResults.filter (fun r => decide (r.cycle > c))
    mmaResults := z.mmaResults.filter (fun r => decide (r.cycle > c)) })

theorem coreStart (h : At t s y cs bs x) (hv : y.voiceLoad = none) (hs : y.seed = none) (hw : ∀ r ∈ y.vrunResults, r.spadW = []) :
    At t s (y.ripen c) cs bs (coreStart t c x) := by
  have hvoice : voiceStart t c x = x := by
    unfold voiceStart
    rw [h.state.tile, hv]
  exact coreStart_of_voice (hvoice.symm ▸ h) hs hw

theorem startCore_idle (h : At t s y cs bs x) (hy : y.CoreIdle) : At t s y cs bs (startCore t c x) := by
  unfold startCore
  split
  · exact h
  · have := h.coreStart (c := c) hy.voiceLoad hy.seed (by rw [hy.vrunResults]; exact fun _ hr => absurd hr List.not_mem_nil)
    rwa [hy.ripen] at this

end Cycle.At

end Sys2Proof.Machine

namespace Sys2Proof.Machine

/-! ### A cycle's beginning -/

theorem expiredQueues_none {s : State} {t : Nat} {y : Tile} (hy : s.tile t = y) (hpush : y.push = []) (hpull : y.pull = [])
    (hm : y.mma = none) (hr : y.vrun = none) : s.expiredQueues t = [] := by
  unfold State.expiredQueues
  dsimp only
  rw [hy, hpush, hpull, hm, hr]
  rfl

theorem expiredFlag_none {s : State} {t : Nat} (h : (s.tile t).block = none) : s.expiredFlag t = [] := by
  unfold State.expiredFlag
  rw [h]

/-- A flag wait has outlasted its bound, or it has not (R194). -/
theorem expiredFlag_waiting {s : State} {t f n : Nat} {c : Bool} {b : Blocked} (h : (s.tile t).block = some b)
    (hw : b.wait = .flag f c n) :
    s.expiredFlag t = if s.expired b.stall n then [cond .flagWaitBound b.pc (f + 2 ^ 16 * n)] else [] := by
  unfold State.expiredFlag
  rw [h]
  dsimp only
  rw [hw]
  rfl

theorem releaseAt_none {s : State} {t : Nat} (h : (s.tile t).block = none) (c : Nat) : s.releaseAt t c = s := by
  unfold State.releaseAt
  dsimp only
  rw [h]

/-- A wait for a flag that is clear, or whose bound has expired, goes on (R220). -/
theorem releaseAt_waiting {s : State} {t f n : Nat} {c : Bool} {b : Blocked} (h : (s.tile t).block = some b)
    (hw : b.wait = .flag f c n) (hoff : (bit (s.tile t).flags f && !s.expired b.stall n) = false) (e : Nat) : s.releaseAt t e = s := by
  unfold State.releaseAt
  dsimp only
  rw [h]
  dsimp only
  rw [hw]
  dsimp only
  rw [hoff]
  rfl

/-- A sequencer that finds its flag set is released, and the flag is cleared where the wait says so (R136, R220). -/
theorem releaseAt_set {s : State} {t f n : Nat} {c : Bool} {b : Blocked} (h : (s.tile t).block = some b) (hw : b.wait = .flag f c n)
    (hon : bit (s.tile t).flags f = true) (hin : s.expired b.stall n = false) (e : Nat) :
    s.releaseAt t e = (s.waitEnded t b.stall).setTile t
      (({ s.tile t with clears := if c then f :: (s.tile t).clears else (s.tile t).clears }).release b e) := by
  unfold State.releaseAt
  dsimp only
  rw [h]
  dsimp only
  rw [hw]
  dsimp only
  rw [hon, hin]
  rfl

theorem settleFlags_none {y : Tile} (hs : y.sets = []) (hc : y.clears = []) : y.settleFlags = y := by
  unfold Tile.settleFlags
  cases y
  cases hs
  cases hc
  rfl

namespace Cycle.At
variable {t c : Nat} {s s' : State} {y z : Tile} {cs fs : List Cond} {bs : List Nat} {x : Cycle} {u : State}

/-- The bounds have been looked at, and the waiting sequencer. -/
theorem released (h : At t s y cs bs x) (hf : x.s.expiredQueues t ++ x.s.expiredFlag t = fs)
    (hr : TileIs t s' z (x.s.releaseAt t c)) :
    At t s' z (cs ++ fs) bs ((x.add (x.s.expiredQueues t ++ x.s.expiredFlag t)).released t c) := by
  rw [hf]
  exact ⟨hr, (h.add fs).conds, h.banks⟩

/-- No bound can expire, and no sequencer waits. -/
theorem released_none (h : At t s y cs bs x) (hpush : y.push = []) (hpull : y.pull = []) (hm : y.mma = none) (hr : y.vrun = none)
    (hb : y.block = none) : At t s y cs bs ((x.add (x.s.expiredQueues t ++ x.s.expiredFlag t)).released t c) := by
  have hblock : (x.s.tile t).block = none := by rw [h.state.tile, hb]
  have hrel : TileIs t s y (x.s.releaseAt t c) := by
    rw [releaseAt_none hblock]
    exact h.state
  have := h.released (c := c) (by rw [expiredQueues_none h.state.tile hpush hpull hm hr, expiredFlag_none hblock]) hrel
  rwa [List.append_nil, List.append_nil] at this

/-- The beginning of a cycle of a tile whose program runs: no bound, no wait, and results that are due. -/
theorem cycleStart_running (h : At t s y cs bs x) (hpush : y.push = []) (hpull : y.pull = []) (hm : y.mma = none) (hr : y.vrun = none)
    (hb : y.block = none) (hf : y.finished = false) (hv : y.voiceLoad = none) (hs : y.seed = none)
    (hw : ∀ r ∈ y.vrunResults, r.spadW = []) : At t s (y.ripen c) cs bs (cycleStart t c x) := by
  have hreleased := h.released_none (c := c) hpush hpull hm hr hb
  rw [cycleStart_eq, startCore, if_neg (by rw [hreleased.gated hf hb]; decide)]
  exact hreleased.coreStart hv hs hw

/-- The beginning of a cycle in which no unit has anything to do. -/
theorem cycleStart_idle (h : At t s y cs bs x) (hy : y.Idle) (hf : x.s.expiredFlag t = fs)
    (hr : TileIs t s' z (x.s.releaseAt t c)) (hz : z.Idle) : At t s' z (cs ++ fs) bs (cycleStart t c x) := by
  rw [cycleStart_eq]
  refine (h.released ?_ hr).startCore_idle hz.toCoreIdle
  rw [expiredQueues_none h.state.tile hy.push hy.pull hy.mma hy.vrun, hf]
  rfl

/-- The same where no sequencer waits. -/
theorem cycleStart_still (h : At t s y cs bs x) (hy : y.Idle) (hb : y.block = none) : At t s y cs bs (cycleStart t c x) := by
  rw [cycleStart_eq]
  exact (h.released_none hy.push hy.pull hy.mma hy.vrun hb).startCore_idle hy.toCoreIdle

/-! ### The rest of a cycle -/

/-- The queues and accesses do nothing after the clocked units. -/
theorem queueStages_none (h : At t s y cs bs x) (hw : y.bwrites = []) (ha : ∀ a ∈ y.accesses, a.landing = none) (hp : y.pull = []) :
    At t s y cs bs (pullStage t c (landStage t c (bwriteCycle t c x))) :=
  ((h.bwriteCycle_none hw).landStage_none ha).pullStage_none hp

/-- After the posts the flags settle, and the cycle ends. -/
theorem lastStages (h : At t s y cs bs x) (ht : y.tests = []) :
    At t s (y.settleFlags.ended c s.nextMeasureBeat) (cs ++ y.sets.flatMap y.setTwice) bs
      (Machine.endStage t c (testCycle t (Machine.flagsCycle t x))) :=
  (h.flagsCycle.testCycle_none ht).endStage

/-- The cycle of a tile whose queues, accesses and tests are idle, after its clocked units; no post is due. -/
theorem unitsCycle_of_core (h : At t s y cs bs (coreCycle t c (pushStage t c x))) (hw : y.bwrites = [])
    (ha : ∀ a ∈ y.accesses, a.landing = none) (hl : y.pull = []) (ht : y.tests = []) (hp : ∀ p ∈ y.posts, c < p.cycle) :
    At t s (y.settleFlags.ended c s.nextMeasureBeat) (cs ++ y.sets.flatMap y.setTwice) bs (unitsCycle t c x) := by
  rw [unitsCycle_eq]
  exact ((h.queueStages_none hw ha hl).cyclePosts_none hp).lastStages ht

/-- The same where no flag is set or cleared. -/
theorem unitsCycle_settled (h : At t s y cs bs (coreCycle t c (pushStage t c x))) (hw : y.bwrites = [])
    (ha : ∀ a ∈ y.accesses, a.landing = none) (hl : y.pull = []) (ht : y.tests = []) (hp : ∀ p ∈ y.posts, c < p.cycle)
    (hs : y.sets = []) (hc : y.clears = []) : At t s (y.ended c s.nextMeasureBeat) cs bs (unitsCycle t c x) := by
  have hno (g : FlagSet → List Cond) : y.sets.flatMap g = [] := by rw [hs]; rfl
  have hend := h.unitsCycle_of_core hw ha hl ht hp
  rwa [hno, List.append_nil, settleFlags_none hs hc] at hend

theorem unitsCycle_idle (h : At t s y cs bs x) (hy : y.Idle) (hp : y.posts = []) :
    At t s (y.settleFlags.ended c s.nextMeasureBeat) (cs ++ y.sets.flatMap y.setTwice) bs (unitsCycle t c x) := by
  have hnone : ∀ p, p ∉ y.posts := fun p => by rw [hp]; exact List.not_mem_nil
  have hcore := (h.pushStage_none (c := c) hy.push).coreCycle_idle (c := c) hy.toCoreIdle (fun p hm => absurd hm (hnone p))
  exact hcore.unitsCycle_of_core hy.bwrites hy.landing hy.pull hy.tests (fun p hm => absurd hm (hnone p))

/-- Idle units, and one post that applies. -/
theorem unitsCycle_post {p : Post} (h : At t s y cs bs x) (hy : y.Idle) (hp : y.posts = [p]) (hcore : p.core = false ∨ x.s.gated t = false)
    (hc : p.cycle ≤ c) (hpost : p.token ≠ 0) (hboard : bit y.board p.token = false) (hs : y.sets = []) :
    At t s (Tile.ended (Tile.settleFlags { y with posts := [], board := y.board + 2 ^ p.token }) c s.nextMeasureBeat) cs bs
      (unitsCycle t c x) := by
  have hpush := h.pushStage_none (c := c) hy.push
  have hcore : At t s y cs bs (coreCycle t c (pushStage t c x)) := by
    rcases hcore with hcore | hopen
    · exact hpush.coreCycle_idle hy.toCoreIdle (fun q hq => by rw [hp, List.mem_singleton] at hq; rw [hq, hcore])
    · refine hpush.coreCycle_open ?_ hy.voiceLoad hy.mma hy.vrun hy.planeLoad
      rw [← hopen]
      unfold State.gated
      dsimp only
      rw [hpush.state.tile, h.state.tile, hpush.state.part State.nextMeasureBeat, h.state.part State.nextMeasureBeat]
  have hq := hcore.queueStages_none (c := c) hy.bwrites hy.landing hy.pull
  have hend := (hq.cyclePosts_one (c := c) hp hc hpost hboard).lastStages (c := c) hy.tests
  have hno (g : FlagSet → List Cond) : y.sets.flatMap g = [] := by rw [hs]; rfl
  have hconds : cs ++ y.sets.flatMap (Tile.setTwice { y with posts := [], board := y.board + 2 ^ p.token }) = cs := by
    rw [hno, List.append_nil]
  rw [unitsCycle_eq]
  exact hconds ▸ hend

end Cycle.At

/-! ### A cycle from its beginning to its end -/

/-- A cycle that meets no condition. -/
theorem tileCycle_none {t : Nat} {s u : State} {y : Tile} {cs : List Cond} {bs : List Nat} {c : Nat} (hc : (u.tile t).now = c)
    (h : Cycle.At t s y [] bs (unitsCycle t c (cycleStart t c (Cycle.begin u t cs)))) : TileIs t s y (tileCycle u t cs) := by
  unfold tileCycle haltLowest
  dsimp only
  rw [hc, h.conds]
  exact h.state

/-- A cycle that meets conditions ends in a halt with the lowest of them (R203). -/
theorem tileCycle_some {t : Nat} {s u : State} {y : Tile} {cs ds : List Cond} {k : Cond} {bs : List Nat} {c : Nat}
    (hc : (u.tile t).now = c) (h : Cycle.At t s y ds bs (unitsCycle t c (cycleStart t c (Cycle.begin u t cs))))
    (hk : lowest ds = some k) : ∃ w, TileIs t s y w ∧ tileCycle u t cs = w.haltTile t k := by
  refine ⟨_, h.state, ?_⟩
  unfold tileCycle haltLowest
  dsimp only
  rw [hc, h.conds, hk]

theorem runCycles_busy {u : State} {t : Nat} (h : (u.tile t).quiet = false) (n : Nat) :
    runCycles t (n + 1) u = runCycles t n (tileCycle u t []) := by
  rw [runCycles, if_neg (by simp [h])]

/-- A tile in which nothing moves lets the cycles pass. -/
theorem runCycles_quiet {t : Nat} {s u : State} {y : Tile} (h : TileIs t s y u) (hq : y.quiet = true) (n : Nat) :
    TileIs t s { y with now := y.now + n } (runCycles t n u) := by
  cases n with
  | zero => exact h
  | succ n =>
    rw [runCycles, if_pos (by rw [h.tile, hq])]
    exact h.modTile (fun x => { x with now := x.now + (n + 1) })

/-- A cycle of a tile with idle units, whose sequencer does not wait and whose flags settle without a halt: nothing but the flags and
the time move. -/
theorem tileCycle_still {t : Nat} {s u : State} {y : Tile} (h : TileIs t s y u) (hy : y.Idle) (hp : y.posts = []) (hb : y.block = none)
    (hs : y.sets.flatMap y.setTwice = []) : TileIs t s (y.settleFlags.ended y.now s.nextMeasureBeat) (tileCycle u t []) := by
  have hstart := (Cycle.At.begin h hy.claim []).cycleStart_still (c := y.now) hy hb
  have hunits := hstart.unitsCycle_idle (c := y.now) hy hp
  rw [hs] at hunits
  exact tileCycle_none (by rw [h.tile]) hunits

/-- The same for the passing of one cycle. -/
theorem runCycles_one {t : Nat} {s u : State} {y : Tile} (h : TileIs t s y u) (hy : y.Idle) (hp : y.posts = []) (hb : y.block = none)
    (hs : y.sets.flatMap y.setTwice = []) :
    ∃ z, TileIs t s z (runCycles t 1 u) ∧ z.Idle ∧ z.block = none ∧ z.flags = y.settleFlags.flags := by
  by_cases hq : y.quiet = true
  · obtain ⟨-, -, hsets, hclears, -⟩ := (quiet_iff y).1 hq
    refine ⟨_, runCycles_quiet h hq 1, { hy with }, hb, ?_⟩
    unfold Tile.settleFlags
    rw [hsets, hclears]
    rfl
  · rw [Bool.not_eq_true] at hq
    rw [runCycles_busy (by rw [h.tile, hq])]
    exact ⟨_, tileCycle_still h hy hp hb hs, { hy with claim := rfl }, hb, rfl⟩

/-! ### Entering a cycle -/

theorem entered_add {u : State} {t e : Nat} (h : u.nowOf t = e) (n : Nat) : u.entered t (e + n)
    = (cycleStart t (e + n) (Cycle.begin (runCycles t n (u.begin.modTile t (fun x => { x with now := e }))) t [])).s := by
  unfold State.entered State.enterCycle State.runTo
  dsimp only
  rw [show u.begin.nowOf t = e from h, Nat.add_sub_cancel_left]

theorem tileEvent_clock {s : State} {t e : Nat} (h : s.tileEvent t e = true) : s.clockOf t ≤ e := by
  unfold State.tileEvent at h
  rw [Bool.and_eq_true, decide_eq_true_eq] at h
  exact le_trans (Nat.le_max_right ..) h.2

theorem tileEvent_now {s : State} {t e : Nat} (h : s.tileEvent t e = true) : s.nowOf t ≤ e := by
  unfold State.tileEvent at h
  rw [Bool.and_eq_true, decide_eq_true_eq] at h
  exact h.2

theorem tileEvent_clocked {s : State} {t e : Nat} (h : s.tileEvent t e = true) : s.tileClocked t = true := by
  unfold State.tileEvent at h
  rw [Bool.and_eq_true] at h
  exact h.1

/-- A tile that stands at cycle `e`, which its clock has not passed, enters a later cycle when those between have run. -/
theorem TileIs.entered_add {t e : Nat} {s u : State} {y : Tile} (h : TileIs t s y u) (hn : y.now = e)
    (hclock : s.clockOf t ≤ e) : ∃ w, TileIs t s y w
      ∧ ∀ n, u.entered t (e + n) = (cycleStart t (e + n) (Cycle.begin (runCycles t n w) t [])).s := by
  have hnow : u.nowOf t = e := by
    unfold State.nowOf
    rw [h.tile, h.part (fun x => x.clockOf t), hn, max_eq_left hclock]
  have hsame := h.begin.modTile (fun x => { x with now := e })
  rw [show ({ y with now := e } : Tile) = y by rw [← hn]] at hsame
  exact ⟨_, hsame, Machine.entered_add hnow⟩

/-- A cycle of a quiet tile begins with nothing changed (R182). -/
theorem entered_quiet {s : State} {t e : Nat} (he : s.tileEvent t e = true) (hq : (s.tile t).quiet = true) :
    TileIs t s { s.tile t with now := e } (s.entered t e) := by
  obtain ⟨n, hn⟩ := Nat.exists_eq_add_of_le (tileEvent_now he)
  obtain ⟨hidle, -, -, -, hblock, -⟩ := (quiet_iff _).1 hq
  have hstart := (TileIs.refl t s).begin.modTile (fun x => { x with now := s.nowOf t })
  have hrun := runCycles_quiet hstart hq n
  rw [hn, Machine.entered_add rfl n]
  exact ((Cycle.At.begin hrun hidle.claim []).cycleStart_still { hidle with } hblock).state

end Sys2Proof.Machine

namespace Sys2Proof.Machine

/-! ### The units of a halted tile (R138) -/

/-- What a VRUN's writes leave alone: every other tile, and of its own tile all but the shadows of a background test. -/
theorem putUnit_tile (s : State) (t u : Nat) (b : List Byte) : ∃ ts, (s.putUnit t u b).tile t = { s.tile t with tests := ts } := by
  unfold State.putUnit
  split
  · rename_i st _
    exact ⟨_, tile_modTile_same s t (fun x => { x with tests := x.tests.put (u / 4096) { st with shadow := b } })⟩
  · exact ⟨(s.tile t).tests, rfl⟩

theorem putUnit_others (s : State) (t u : Nat) (b : List Byte) {k : Nat} (hk : k ≠ t) : (s.putUnit t u b).tile k = s.tile k := by
  unfold State.putUnit
  split
  · rename_i st _
    exact tile_modTile_other s (fun x => { x with tests := x.tests.put (u / 4096) { st with shadow := b } }) hk
  · rfl

theorem putUnit_regs (s : State) (t u : Nat) (b : List Byte) : (s.putUnit t u b).regs = s.regs := by
  unfold State.putUnit
  split <;> rfl

/-- The writes of several VRUNs. -/
def State.commitAll (s : State) (t : Nat) (ws : List (Table (List Byte))) : State := ws.foldl (fun s w => commitWrites t w s) s

theorem commitWrites_tile (t : Nat) (w : Table (List Byte)) (s : State) :
    ∃ ts, (commitWrites t w s).tile t = { s.tile t with tests := ts } := by
  unfold commitWrites
  induction w generalizing s with
  | nil => exact ⟨_, rfl⟩
  | cons e w ih =>
    obtain ⟨ts, h⟩ := putUnit_tile s t e.1 e.2
    obtain ⟨ts', h'⟩ := ih (s.putUnit t e.1 e.2)
    exact ⟨ts', by rw [List.foldl_cons, h', h]⟩

theorem commitAll_tile (s : State) (t : Nat) (ws : List (Table (List Byte))) :
    ∃ ts, (s.commitAll t ws).tile t = { s.tile t with tests := ts } := by
  unfold State.commitAll
  induction ws generalizing s with
  | nil => exact ⟨_, rfl⟩
  | cons w ws ih =>
    obtain ⟨ts, h⟩ := commitWrites_tile t w s
    obtain ⟨ts', h'⟩ := ih (commitWrites t w s)
    exact ⟨ts', by rw [List.foldl_cons, h', h]⟩

theorem commitAll_others (s : State) (t : Nat) (ws : List (Table (List Byte))) {k : Nat} (hk : k ≠ t) :
    (s.commitAll t ws).tile k = s.tile k :=
  foldl_keeps (fun x => State.tile x k)
    (fun s w => foldl_keeps (fun x => State.tile x k) (fun s (e : Nat × List Byte) => putUnit_others s t e.1 e.2 hk) w s) ws s

theorem commitAll_regs (s : State) (t : Nat) (ws : List (Table (List Byte))) : (s.commitAll t ws).regs = s.regs :=
  foldl_keeps State.regs (fun s w => foldl_keeps State.regs (fun s (e : Nat × List Byte) => putUnit_regs s t e.1 e.2) w s) ws s

/-- The writes that a tile's VRUNs have made so far. -/
def Tile.vrunWrites (x : Tile) : List (Table (List Byte)) :=
  x.vrunResults.map (fun r => r.spadW) ++ (x.vrun.map (fun v => v.spadW)).toList

theorem stopTile_eq (s : State) (t : Nat) :
    s.stopTile t = (s.commitAll t (s.tile t).vrunWrites).modTile t Tile.stopUnits := rfl

theorem stopTile_tile (s : State) (t : Nat) : ∃ ts, (s.stopTile t).tile t = Tile.stopUnits { s.tile t with tests := ts } := by
  obtain ⟨ts, h⟩ := commitAll_tile s t (s.tile t).vrunWrites
  exact ⟨ts, by rw [stopTile_eq, tile_modTile_same, h]⟩

theorem stopTile_others (s : State) (t : Nat) {k : Nat} (hk : k ≠ t) : (s.stopTile t).tile k = s.tile k := by
  rw [stopTile_eq, tile_modTile_other _ _ hk, commitAll_others _ _ _ hk]

theorem stopTile_regs (s : State) (t : Nat) : (s.stopTile t).regs = s.regs := commitAll_regs _ _ _

/-- Where no VRUN has written, nothing but the tile's units stops. -/
theorem TileIs.stopTile {t : Nat} {s u : State} {y : Tile} (h : TileIs t s y u) (hv : y.vrun = none) (hr : y.vrunResults = []) :
    TileIs t s y.stopUnits (u.stopTile t) := by
  have hw : (u.tile t).vrunWrites = [] := by
    rw [h.tile, Tile.vrunWrites, hv, hr]
    rfl
  rw [stopTile_eq, hw]
  exact h.modTile Tile.stopUnits

/-! ### A halt (R138 to R140, R203, R204) -/

/-- The tile stands halted, its units stopped. -/
def State.halting (s : State) (t : Nat) : State := (s.stopTile t).modTile t (fun x => { x with halted := true })

/-- A hardware halt is counted. -/
def State.countHalt (s : State) (t : Nat) (c : Cond) : State :=
  if c.code ≥ 0xF0 then (s.bump .TEL_HW_HALTS_count 0 1).set .TEL_HW_HALTS_last_die 0 (tileDie t) else s

/-- The fatal path or firmware learns of a halt. -/
def State.tellHalt (s : State) (t : Nat) (c : Cond) : State :=
  if s.planExecutes then s.raiseFatal .tileHalt (tileDie t + 2 ^ 3 * tileCol t + 2 ^ 8 * tileRow t + 2 ^ 16 * c.code)
  else if s.get .TIL_CTRL_halt_event_en t = 1 then s.warn .tileHaltIdle
  else s

/-- The registers that record a halt. -/
def recordRegs : List RegField :=
  [.TIL_HALT_REASON_reason, .TIL_HALT_REASON_unit, .TIL_HALT_REASON_valid, .TIL_HALT_PC_pc, .TIL_HALT_DETAIL_detail,
    .TIL_HALT_BEAT_LO_beat_lo, .TIL_HALT_BEAT_HI_beat_hi]

theorem haltTile_running {s : State} {t : Nat} (h : (s.tile t).halted = false) (c : Cond) :
    s.haltTile t c = (((s.halting t).recordHalt t c).countHalt t c).tellHalt t c := by
  unfold State.haltTile
  rw [if_neg (by simp [h])]
  rfl

theorem recordHalt_sameRegs (s : State) (t : Nat) (c : Cond) : SameRegs recordRegs s (s.recordHalt t c) := by
  unfold State.recordHalt
  exact (((((((SameRegs.refl _ s).set (by decide) t _).set (by decide) t _).set (by decide) t _).set (by decide) t _).set (by decide) t _).set
    (by decide) t _).set (by decide) t _

theorem countHalt_sameRegs (s : State) (t : Nat) (c : Cond) :
    SameRegs [.TEL_HW_HALTS_count, .TEL_HW_HALTS_last_die] s (s.countHalt t c) := by
  unfold State.countHalt
  split
  · exact ((SameRegs.refl _ s).bump (by decide) 0 1).set (by decide) 0 _
  · exact SameRegs.refl _ s

theorem tellHalt_sameRegs (s : State) (t : Nat) (c : Cond) : SameRegs warnRegs s (s.tellHalt t c) := by
  unfold State.tellHalt
  split
  · exact SameRegs.refl _ s
  · split
    · exact warn_sameRegs s .tileHaltIdle
    · exact SameRegs.refl _ s

/-- A halt's record and its report touch no memory and no tile. -/
theorem tellHalt_field (s : State) (t : Nat) (c : Cond) : (s.tellHalt t c).field = s.field := by
  unfold State.tellHalt
  split
  · rfl
  · split
    · exact core_field (core_of_quiet (quiet_warn s .tileHaltIdle))
    · rfl

theorem countHalt_field (s : State) (t : Nat) (c : Cond) : (s.countHalt t c).field = s.field := by
  unfold State.countHalt
  split <;> rfl

theorem recordHalt_field (s : State) (t : Nat) (c : Cond) : (s.recordHalt t c).field = s.field := by
  unfold State.recordHalt
  simp only [State_set_field]

theorem haltTile_field {s : State} {t : Nat} (h : (s.tile t).halted = false) (c : Cond) :
    (s.haltTile t c).field = (s.halting t).field := by
  rw [haltTile_running h, tellHalt_field, countHalt_field, recordHalt_field]

theorem tile_of_field {s u : State} (h : u.field = s.field) (k : Nat) : u.tile k = s.tile k :=
  congrArg (Table.get Tile.reset · k) (SameTiles.of_field h).1

theorem haltTile_tile (s : State) (t : Nat) (c : Cond) :
    ((s.haltTile t c).tile t).halted = true ∧ ((s.haltTile t c).tile t).now = (s.tile t).now := by
  cases hh : (s.tile t).halted with
  | true =>
    have hsame : s.haltTile t c = s := if_pos hh
    rw [hsame]
    exact ⟨hh, rfl⟩
  | false =>
    obtain ⟨ts, hts⟩ := stopTile_tile s t
    rw [tile_of_field (haltTile_field hh c), State.halting, tile_modTile_same, hts]
    exact ⟨rfl, rfl⟩

/-- What a halt with condition `c` makes of a state `s` whose tile `t` is `y`. -/
structure Halts (t : Nat) (s : State) (y : Tile) (c : Cond) (u : State) : Prop where
  tile : u.tile t = { y.stopUnits with halted := true }
  others : ∀ k, k ≠ t → u.tile k = s.tile k
  bytes : SameBytes s u
  record : HaltedWith u t c
  unit : u.get .TIL_HALT_REASON_unit t = c.unit' % 2 ^ 3
  beat : u.get .TIL_HALT_BEAT_LO_beat_lo t = s.time.beat % 2 ^ 32
  executing : s.planExecutes = true → u.raised = s.raised ++
    [⟨.tileHalt, (tileDie t + 2 ^ 3 * tileCol t + 2 ^ 8 * tileRow t + 2 ^ 16 * c.code) % 2 ^ 32⟩]
  resting : s.planExecutes = false → u.raised = s.raised
  hard : 0xF0 ≤ c.code → u.get .TEL_HW_HALTS_count 0 = min (s.get .TEL_HW_HALTS_count 0 + 1) (2 ^ 16 - 1)

theorem recordHalt_get (s : State) (t : Nat) (c : Cond) :
    (s.recordHalt t c).get .TIL_HALT_REASON_valid t = 1 ∧ (s.recordHalt t c).get .TIL_HALT_REASON_reason t = c.code % 2 ^ 8
    ∧ (s.recordHalt t c).get .TIL_HALT_REASON_unit t = c.unit' % 2 ^ 3
    ∧ (s.recordHalt t c).get .TIL_HALT_PC_pc t = c.pc % 2 ^ RegField.width .TIL_HALT_PC_pc
    ∧ (s.recordHalt t c).get .TIL_HALT_DETAIL_detail t = c.detail % 2 ^ 32
    ∧ (s.recordHalt t c).get .TIL_HALT_BEAT_LO_beat_lo t = s.time.beat % 2 ^ 32 := by
  unfold State.recordHalt
  simp only [State.get_set, reduceCtorEq, false_and, if_false, and_self, if_true]
  exact ⟨rfl, rfl, rfl, trivial, rfl, rfl⟩

theorem countHalt_planExecutes (s : State) (t : Nat) (c : Cond) :
    ((s.recordHalt t c).countHalt t c).planExecutes = s.planExecutes := by
  have hget : ((s.recordHalt t c).countHalt t c).get .PLN_STATUS_state 0 = s.get .PLN_STATUS_state 0 :=
    (countHalt_sameRegs _ t c _ _ (by decide)).trans (recordHalt_sameRegs s t c _ _ (by decide))
  unfold State.planExecutes State.planState
  rw [hget]

theorem countHalt_raised (s : State) (t : Nat) (c : Cond) : (s.countHalt t c).raised = s.raised := by
  unfold State.countHalt
  split <;> rfl

theorem recordHalt_raised (s : State) (t : Nat) (c : Cond) : (s.recordHalt t c).raised = s.raised := by
  unfold State.recordHalt
  simp only [State.set_raised]

theorem countHalt_count {s : State} {c : Cond} (t : Nat) (h : 0xF0 ≤ c.code) :
    (s.countHalt t c).get .TEL_HW_HALTS_count 0 = min (s.get .TEL_HW_HALTS_count 0 + 1) (2 ^ 16 - 1) := by
  unfold State.countHalt
  rw [if_pos h, State.get_set_other _ _ (.inl (by decide)), State.get_bump_same]
  rfl

/-- A halted tile's record, which is not one of the registers of its report. -/
theorem haltTile_get {s : State} {t : Nat} (h : (s.tile t).halted = false) (c : Cond) {f : RegField} (hf : f ∉ warnRegs)
    (hf' : f ∉ [RegField.TEL_HW_HALTS_count, RegField.TEL_HW_HALTS_last_die]) :
    (s.haltTile t c).get f t = ((s.halting t).recordHalt t c).get f t := by
  rw [haltTile_running h]
  exact (tellHalt_sameRegs _ t c f t hf).trans (countHalt_sameRegs _ t c f t hf')

theorem haltTile_haltedWith {s : State} {t : Nat} (h : (s.tile t).halted = false) (c : Cond) :
    HaltedWith (s.haltTile t c) t c ∧ (s.haltTile t c).get .TIL_HALT_REASON_unit t = c.unit' % 2 ^ 3
      ∧ (s.haltTile t c).get .TIL_HALT_BEAT_LO_beat_lo t = (s.halting t).time.beat % 2 ^ 32 := by
  obtain ⟨hvalid, hreason, hunit, hpc, hdetail, hbeat⟩ := recordHalt_get (s.halting t) t c
  exact ⟨⟨(haltTile_tile s t c).1, (haltTile_get h c (by decide) (by decide)).trans hvalid,
    (haltTile_get h c (by decide) (by decide)).trans hreason, (haltTile_get h c (by decide) (by decide)).trans hpc,
    (haltTile_get h c (by decide) (by decide)).trans hdetail⟩, (haltTile_get h c (by decide) (by decide)).trans hunit,
    (haltTile_get h c (by decide) (by decide)).trans hbeat⟩

/-- What a halt raises: the fatal reason while a plan executes, and nothing else (R138). -/
theorem tellHalt_raised (s : State) (t : Nat) (c : Cond) : (s.tellHalt t c).raised = s.raised ++ if s.planExecutes then
    [⟨.tileHalt, (tileDie t + 2 ^ 3 * tileCol t + 2 ^ 8 * tileRow t + 2 ^ 16 * c.code) % 2 ^ 32⟩] else [] := by
  unfold State.tellHalt
  split
  · rfl
  · split
    · exact (quiet_raised (quiet_warn s .tileHaltIdle)).trans (List.append_nil _).symm
    · exact (List.append_nil _).symm

theorem TileIs.planState {t : Nat} {s u : State} {y : Tile} (h : TileIs t s y u) : u.planState = s.planState := by
  unfold State.planState
  rw [h.get]

theorem TileIs.planExecutes {t : Nat} {s u : State} {y : Tile} (h : TileIs t s y u) : u.planExecutes = s.planExecutes := by
  unfold State.planExecutes
  rw [h.planState]

theorem TileIs.halting {t : Nat} {s w : State} {y : Tile} (h : TileIs t s y w) (hv : y.vrun = none) (hr : y.vrunResults = []) :
    TileIs t s { y.stopUnits with halted := true } (w.halting t) :=
  (h.stopTile hv hr).modTile (fun x => { x with halted := true })

/-- The halt of a tile none of whose VRUNs has written. -/
theorem TileIs.halts {t : Nat} {s w : State} {y : Tile} (h : TileIs t s y w) (hh : y.halted = false) (hv : y.vrun = none)
    (hr : y.vrunResults = []) (c : Cond) : Halts t s y c (w.haltTile t c) := by
  have hrun : (w.tile t).halted = false := by rw [h.tile, hh]
  have hstop := h.halting hv hr
  have hfield := haltTile_field hrun c
  obtain ⟨hrecord, hunit, hbeat⟩ := haltTile_haltedWith hrun c
  have hexec := (countHalt_planExecutes (w.halting t) t c).trans hstop.planExecutes
  have hraised := ((countHalt_raised _ t c).trans (recordHalt_raised (w.halting t) t c)).trans (hstop.part State.raised)
  exact {
    tile := (tile_of_field hfield t).trans hstop.tile
    others := fun k hk => (tile_of_field hfield k).trans (hstop.others k hk)
    bytes := hstop.sameBytes.trans (SameBytes.of_field hfield)
    record := hrecord
    unit := hunit
    beat := by rw [hbeat, hstop.part State.time]
    executing := fun hx => by rw [haltTile_running hrun, tellHalt_raised, hexec, if_pos hx, hraised]
    resting := fun hx => by rw [haltTile_running hrun, tellHalt_raised, hexec, if_neg (by simp [hx]), hraised, List.append_nil]
    hard := fun hcode => by
      rw [haltTile_running hrun, tellHalt_sameRegs _ t c _ _ (by decide), countHalt_count t hcode,
        recordHalt_sameRegs _ t c _ _ (by decide), hstop.get] }

/-- A cycle in which an idle tile that is not halted meets a condition, and nothing else does (R203). -/
theorem tileCycle_halts {t : Nat} {s u : State} {y : Tile} (h : TileIs t s y u) (hq : y.quiet = true) (hh : y.halted = false)
    {cs : List Cond} {k : Cond} (hk : lowest cs = some k) :
    Halts t s (y.settleFlags.ended y.now s.nextMeasureBeat) k (tileCycle u t cs) := by
  obtain ⟨hy, hposts, hsets, -, hblock, -⟩ := (quiet_iff y).1 hq
  have hunits := ((Cycle.At.begin h hy.claim cs).cycleStart_still (c := y.now) hy hblock).unitsCycle_idle (c := y.now) hy hposts
  rw [hsets, List.flatMap_nil, List.append_nil] at hunits
  obtain ⟨w, hw, heq⟩ := tileCycle_some (by rw [h.tile]) hunits hk
  rw [heq]
  exact hw.halts hh hy.vrun hy.vrunResults k

end Sys2Proof.Machine

namespace Sys2Proof.Machine

/-! ### An MMA with the plane of a format that its mode never loads -/

/-- A plane of a TERN weight matrix in mode 8, which asks for the activations in the same format. -/
def ternPlane : Plane := ⟨10, 8, 64, 64, [List.replicate 8 (.fin false 1 0)], [127]⟩

def ternTile : Tile := { macTile with planes := [some ternPlane, none] }

/-- An MMA of one row in TERN, from scratchpad, and its two descriptors: elements from unit 64 on, and one unit of scales. -/
def ternCode : List Nat := [word 0x20 2 0 0 [(34, 1), (36, 10), (40, 10)], 64 + 2 ^ 16 * 3 + 2 ^ 32, 4096 + 2 ^ 16 + 2 ^ 32]

def ternWord : Nat := ternCode.getD 0 0

/-- The tile in a module whose scratchpad holds elements in the unit before those that the row reads: elements of TERN are packed
five to a byte, and the row's units are counted in bytes of one. -/
def ternState : State :=
  { withCode ternTile ternCode with
    spad := (Memory.empty.writeBytes 0 (ternCode.flatMap (toLE 8))).writeBytes 2060 [242, 242, 242] }

def ternMma : MmaOp := mmaOf (ternState.issue 0 3 ternWord ternTile)

theorem ternMma_issues : ternState.Issues (0 : TileIx) 3 0x20 ternWord ternTile := issues_of (by decide +kernel)

theorem ternMma_unitsGood (k : Nat) (h : k < ternMma.rows) : (ternState.entered 0 3).unitsGood 0 (ternMma.rowUnits ternPlane k)
    ∧ ((ternMma.rowUnits ternPlane k).map (fun u => u / 4096)).Nodup := by
  revert k
  exact rowsGood_of (by decide +kernel)

/-- What a command makes of a state. -/
def State.after (s : State) (c : Instr) : State :=
  match exec c s with
  | .next u => u
  | _ => s

theorem State.Runs.after {s : State} {c : Instr} {P : State → Prop} (h : s.Runs c P) : P (s.after c) := by
  obtain ⟨u, hu, hP⟩ := h
  unfold State.after
  rwa [hu]

/-- The row that the MMA leaves is not the one that the scratchpad's elements give. -/
theorem ternMma_row : Table.get AccRow.reset (((ternState.after (.mma 0 3)).after (.mmaComplete 0 14)).tile 0).acc ternMma.accBase
    ≠ ternMma.rowAfter (ternState.entered 0 3) 0 ternPlane 0 (Table.get AccRow.reset ternTile.acc ternMma.accBase) := by
  decide +kernel

/-- Refutes O40: an MMA whose plane and activations are in TERN, in mode 8, reads the units that its elements would fill at a byte
each, and finds 0 where the stream of its descriptor has other bytes (its mode's planes come in no such format, but the statement
takes every state in which the instruction's checks pass). -/
theorem not_unitsWork : ¬ Obligations.UnitsWork := by
  unfold Obligations.UnitsWork
  intro h
  obtain ⟨-, -, -, hmma, -⟩ := h 0 3 ternWord ternTile ternState _ _ _ rfl rfl rfl (by decide +kernel) (canPost_of (by decide +kernel))
    (by decide +kernel)
  have hrows := (hmma ternMma ternPlane ternMma_issues (by decide +kernel) rfl (by decide +kernel) (by decide +kernel)).1
    (by decide +kernel) ternMma_unitsGood
  have hcycle : 3 + ternMma.rows + 10 = 14 := by decide +kernel
  obtain ⟨hrow, -⟩ := hrows.after.after
  refine ternMma_row ?_
  have := hrow 0 (by decide +kernel)
  rwa [hcycle] at this

end Sys2Proof.Machine

namespace Sys2Proof.Machine

/-! ### A condition met stays met through the cycle (R203)

Each stage of a cycle adds conditions and takes none away. -/

section
variable {x x' : Cycle}

@[simp] theorem Cycle.mod_conds (x : Cycle) (t : Nat) (f : Tile → Tile) : (x.mod t f).conds = x.conds := rfl

@[simp] theorem Cycle.add_conds (x : Cycle) (cs : List Cond) : (x.add cs).conds = x.conds ++ cs := rfl

@[simp] theorem claim_met (pc u : Nat) (h : x.conds ≠ []) : (x.claim pc u).conds ≠ [] := by
  unfold Cycle.claim
  dsimp only
  split <;> simp [h]

@[simp] theorem ecc_met (t port pc u : Nat) (h : x.conds ≠ []) : (x.ecc t port pc u).conds ≠ [] := by simp [Cycle.ecc, h]

@[simp] theorem readA_met (t pc u : Nat) (h : x.conds ≠ []) : (x.readA t pc u).2.conds ≠ [] := by simp [Cycle.readA, h]

@[simp] theorem readB_met (t pc u : Nat) (h : x.conds ≠ []) : (x.readB t pc u).2.conds ≠ [] := by
  simp [Cycle.readB, Cycle.claimB, h]

@[simp] theorem readAs_met (t pc : Nat) (us : List Nat) (h : x.conds ≠ []) : (x.readAs t pc us).2.conds ≠ [] := by
  induction us generalizing x with
  | nil => exact h
  | cons u us ih => exact ih (readA_met t pc u h)

/-! #### Queue engines, the access engine, voices and planes -/

theorem runOps_met {α : Type} {f : Cycle → α → Cycle × Option α} (hf : ∀ x a, x.conds ≠ [] → (f x a).1.conds ≠ []) (l : List α)
    (h : x.conds ≠ []) : (runOps f l x).2.conds ≠ [] := by
  induction l generalizing x with
  | nil => exact h
  | cons o os ih => exact ih (hf x o h)

@[simp] theorem pushCycle_met (t c : Nat) (x : Cycle) (p : PushOp) (h : x.conds ≠ []) : (pushCycle t c x p).1.conds ≠ [] := by
  unfold pushCycle
  dsimp only
  (repeat' split) <;> simp [h]

theorem take_conds {t q : Nat} {w : RxWord} (h : x.take t q = some (w, x')) : x'.conds = x.conds := by
  unfold Cycle.take at h
  split at h
  · cases h
  · cases h
    split <;> rfl

@[simp] theorem pullCycle_met (t c : Nat) (x : Cycle) (p : PullOp) (h : x.conds ≠ []) : (pullCycle t c x p).1.conds ≠ [] := by
  unfold pullCycle
  split
  · exact h
  · split
    · exact h
    · split
      · exact h
      · next ht =>
        rw [← take_conds ht] at h
        dsimp only
        (repeat' split) <;> simp [h]

@[simp] theorem writeB_met (t pc u : Nat) (bytes : List Byte) (h : x.conds ≠ []) : (x.writeB t pc u bytes).conds ≠ [] := by
  unfold Cycle.writeB
  dsimp only
  split <;> simp [Cycle.claimB, h]

theorem foldl_met {α : Type} {f : Cycle → α → Cycle} (hf : ∀ x a, x.conds ≠ [] → (f x a).conds ≠ []) (l : List α) (h : x.conds ≠ []) :
    (l.foldl f x).conds ≠ [] := by
  induction l generalizing x with
  | nil => exact h
  | cons a l ih => exact ih (hf x a h)

@[simp] theorem bwriteCycle_met (t c : Nat) (h : x.conds ≠ []) : (bwriteCycle t c x).conds ≠ [] :=
  foldl_met (fun _ w hx => writeB_met t w.pc w.unit' w.bytes hx) _ h

@[simp] theorem landUnits_met (t pc : Nat) (ws : List (Nat × List Byte)) (h : x.conds ≠ []) : (landUnits t pc ws x).2.conds ≠ [] := by
  induction ws generalizing x with
  | nil => exact h
  | cons w ws ih =>
    unfold landUnits
    split
    · exact ih h
    · exact ih (writeB_met t pc w.1 w.2 h)

@[simp] theorem landAccess_met (t : Nat) (x : Cycle) (a : TierAccess) (h : x.conds ≠ []) : (landAccess t x a).1.conds ≠ [] := by
  unfold landAccess
  split <;> simp [h]

theorem pushStage_met (t c : Nat) (h : x.conds ≠ []) : (pushStage t c x).conds ≠ [] := runOps_met (pushCycle_met t c) _ h

theorem landStage_met (t c : Nat) (h : x.conds ≠ []) : (landStage t c x).conds ≠ [] := by
  unfold landStage
  simp [runOps_met (landAccess_met t) _ h]

theorem pullStage_met (t c : Nat) (h : x.conds ≠ []) : (pullStage t c x).conds ≠ [] := runOps_met (pullCycle_met t c) _ h

@[simp] theorem voiceCycle_met (t c : Nat) (h : x.conds ≠ []) : (voiceCycle t c x).conds ≠ [] := by
  unfold voiceCycle
  dsimp only
  (repeat' split) <;> simp [h]

@[simp] theorem voiceStart_met (t c : Nat) (h : x.conds ≠ []) : (voiceStart t c x).conds ≠ [] := by
  unfold voiceStart
  dsimp only
  (repeat' split) <;> simp [h]

@[simp] theorem planeCycle_met (t c : Nat) (h : x.conds ≠ []) : (planeCycle t c x).conds ≠ [] := by
  unfold planeCycle
  dsimp only
  (repeat' split) <;> simp [h]

/-! #### The MAC array -/

@[simp] theorem enterRow_conds (t : Nat) (m : MmaOp) (pl : Plane) (acts : List (Val × Nat)) (x : Cycle) :
    (enterRow t m pl acts x).conds = x.conds := rfl

@[simp] theorem mmaDone_conds (t c : Nat) (m : MmaOp) (x : Cycle) : (mmaDone t c m x).conds = x.conds := rfl

@[simp] theorem mmaRow_met (t c : Nat) (m : MmaOp) (pl : Plane) (h : x.conds ≠ []) : (mmaRow t c m pl x).conds ≠ [] := by
  unfold mmaRow
  split <;> simp [h]

@[simp] theorem mmaFeed_met (t q n total : Nat) (m : MmaOp) (h : x.conds ≠ []) : (mmaFeed t q n total m x).2.2.conds ≠ [] := by
  unfold mmaFeed
  split
  · split
    · exact h
    · next ht =>
      rw [← take_conds ht] at h
      dsimp only
      split <;> simp [h]
  · exact h

@[simp] theorem mmaEnter_conds (t : Nat) (m : MmaOp) (pl : Plane) (x : Cycle) : (mmaEnter t m pl x).2.2.conds = x.conds := by
  unfold mmaEnter
  dsimp only
  split <;> simp

@[simp] theorem mmaStream_met (t c q n : Nat) (m : MmaOp) (pl : Plane) (h : x.conds ≠ []) : (mmaStream t c q n m pl x).conds ≠ [] := by
  unfold mmaStream
  dsimp only
  split <;> simp [h]

@[simp] theorem mmaCycle_met (t c : Nat) (h : x.conds ≠ []) : (mmaCycle t c x).conds ≠ [] := by
  unfold mmaCycle
  (repeat' split) <;> simp [h]

/-! #### The vector unit -/

@[simp] theorem sourceLanes_met (t : Nat) (v : VrunOp) (m : Micro) (sel : Nat) (h : x.conds ≠ []) :
    (sourceLanes t v m sel x).2.conds ≠ [] := by
  unfold sourceLanes
  dsimp only
  (repeat' split) <;> simp [h]

@[simp] theorem writePass_met (t : Nat) (v : VrunOp) (m : Micro) (bytes : List Byte) (h : x.conds ≠ []) :
    (writePass t v m bytes x).2.conds ≠ [] :=
  foldl_met (f := fun x w => { x.claim v.pc w with aWrites := w :: x.aWrites }) (fun _ w hx => claim_met v.pc w hx) _ h

@[simp] theorem writeLanes_conds (t : Nat) (v : VrunOp) (m : Micro) (ws : List Nat) (x : Cycle) :
    (writeLanes t v m ws x).2.conds = x.conds := by
  unfold writeLanes
  split <;> rfl

@[simp] theorem finishMicro_met (t c : Nat) (img : List Byte) (v : VrunOp) (m : Micro) (as bs cs : List Lane) (h : x.conds ≠ []) :
    (finishMicro t c img v m as bs cs x).2.conds ≠ [] := by
  unfold finishMicro
  dsimp only
  (repeat' split) <;> simp [h]

@[simp] theorem nextMicro_conds (t c : Nat) (img : List Byte) (v : VrunOp) (x : Cycle) : (nextMicro t c img v x).conds = x.conds := by
  unfold nextMicro
  dsimp only
  (repeat' split) <;> rfl

@[simp] theorem sendWords_conds (t q : Nat) (dest : Dest) (n : Nat) (ws : List RxWord) (x : Cycle) :
    (sendWords t q dest n ws x).2.conds = x.conds := by
  induction n generalizing ws x with
  | zero => rfl
  | succ n ih =>
    unfold sendWords
    split
    · rfl
    · rfl
    · split
      · rfl
      · next e _ => cases e; rw [ih]

@[simp] theorem sendCycle_met (t c : Nat) (img : List Byte) (v : VrunOp) (m : Micro) (ws : List RxWord) (allow : Nat)
    (h : x.conds ≠ []) : (sendCycle t c img v m ws allow x).conds ≠ [] := by
  unfold sendCycle
  dsimp only
  (repeat' split) <;> simp [h]

theorem streamCycle_met {t q : Nat} {img : List Byte} {v v' : VrunOp} {m : Micro} (hs : streamCycle t img v m q x = some (v', x'))
    (h : x.conds ≠ []) : x'.conds ≠ [] := by
  unfold streamCycle at hs
  dsimp only at hs
  split at hs
  · cases hs
    exact h
  · split at hs
    · cases hs
    · next ht =>
      rw [← take_conds ht] at h
      cases hs
      split <;> simp [h]

@[simp] theorem microSource_met (t : Nat) (v : VrunOp) (m : Micro) (queued : List Lane) (sel : Nat) (used : Bool) (h : x.conds ≠ []) :
    (microSource t v m queued sel used x).2.conds ≠ [] := by
  unfold microSource
  (repeat' split) <;> simp [h]

@[simp] theorem microLanes_met (t : Nat) (v : VrunOp) (m : Micro) (queued : List Lane) (h : x.conds ≠ []) :
    (microLanes t v m queued x).2.conds ≠ [] :=
  microSource_met t v m queued _ _ (microSource_met t v m queued _ _ (microSource_met t v m queued _ _ h))

@[simp] theorem runMicro_met (t c : Nat) (img : List Byte) (v : VrunOp) (m : Micro) (h : x.conds ≠ []) :
    (runMicro t c img v m x).conds ≠ [] := by
  unfold runMicro
  exact sendCycle_met _ _ _ _ _ _ _ (finishMicro_met _ _ _ _ _ _ _ _ (microLanes_met _ _ _ _ h))

@[simp] theorem readyMicro_met (t c : Nat) (img : List Byte) (v : VrunOp) (m : Micro) (h : x.conds ≠ []) :
    (readyMicro t c img v m x).conds ≠ [] := by
  unfold readyMicro
  dsimp only
  (repeat' split) <;> simp [h]

@[simp] theorem feedMicro_met (t c : Nat) (img : List Byte) (v : VrunOp) (m : Micro) (h : x.conds ≠ []) :
    (feedMicro t c img v m x).conds ≠ [] := by
  unfold feedMicro
  split
  · exact readyMicro_met t c img v m h
  · split
    · exact h
    · next hs => exact readyMicro_met t c img _ m (streamCycle_met hs h)

@[simp] theorem vrunCycle_met (t c : Nat) (h : x.conds ≠ []) : (vrunCycle t c x).conds ≠ [] := by
  unfold vrunCycle
  (repeat' split) <;> simp [h]

/-! #### Cycles -/

theorem coreCycle_met (t c : Nat) (h : x.conds ≠ []) : (coreCycle t c x).conds ≠ [] := by
  unfold coreCycle
  split
  · exact h
  · exact vrunCycle_met t c (planeCycle_met t c (mmaCycle_met t c (voiceCycle_met t c h)))

theorem coreStart_met (t c : Nat) (h : x.conds ≠ []) : (coreStart t c x).conds ≠ [] := by
  unfold coreStart
  dsimp only
  (repeat' split) <;> exact voiceStart_met t c h

theorem startCore_met (t c : Nat) (h : x.conds ≠ []) : (startCore t c x).conds ≠ [] := by
  unfold startCore
  split
  · exact h
  · exact coreStart_met t c h

theorem cyclePosts_met (t c : Nat) (h : x.conds ≠ []) : (cyclePosts t c x).conds ≠ [] :=
  foldl_met (fun _ _ hx => by simp [hx]) _ h

theorem flagsCycle_met (t : Nat) (h : x.conds ≠ []) : (flagsCycle t x).conds ≠ [] := by simp [flagsCycle, h]

theorem testCycle_met (t : Nat) (h : x.conds ≠ []) : (testCycle t x).conds ≠ [] :=
  foldl_met (fun _ _ hx => by dsimp only; (repeat' split) <;> simp [hx]) _ h

theorem endStage_conds (t c : Nat) (x : Cycle) : (endStage t c x).conds = x.conds := rfl

theorem unitsCycle_met (t c : Nat) (h : x.conds ≠ []) : (unitsCycle t c x).conds ≠ [] := by
  have hcore := coreCycle_met t c (pushStage_met t c h)
  have hqueues := pullStage_met t c (landStage_met t c (bwriteCycle_met t c hcore))
  have hlast := testCycle_met t (flagsCycle_met t (cyclePosts_met t c hqueues))
  rwa [unitsCycle_eq, endStage_conds]

/-- A cycle's beginning keeps what has been met, and adds the bounds that have expired. -/
theorem cycleStart_met (t c : Nat) (h : x.conds ++ (x.s.expiredQueues t ++ x.s.expiredFlag t) ≠ []) : (cycleStart t c x).conds ≠ [] := by
  rw [cycleStart_eq]
  exact startCore_met t c h

end

/-! ### A cycle that meets a condition ends halted -/

theorem lowest_some {cs : List Cond} (h : cs ≠ []) : ∃ k, lowest cs = some k := by
  cases cs with
  | nil => exact absurd rfl h
  | cons c cs => exact ⟨_, rfl⟩

theorem haltLowest_halted {t : Nat} {x : Cycle} (h : x.conds ≠ []) : ((haltLowest t x).tile t).halted = true := by
  obtain ⟨k, hk⟩ := lowest_some h
  unfold haltLowest
  rw [hk]
  exact (haltTile_tile x.s t k).1

/-- Whatever else the tile does in the cycle, it halts. -/
theorem tileCycle_halted {s : State} {t : Nat} {cs : List Cond} (h : cs ++ (s.expiredQueues t ++ s.expiredFlag t) ≠ []) :
    ((tileCycle s t cs).tile t).halted = true := by
  have hstart : (cycleStart t (s.tile t).now (Cycle.begin s t cs)).conds ≠ [] := cycleStart_met t _ h
  have hunits := unitsCycle_met t (s.tile t).now hstart
  unfold tileCycle
  exact haltLowest_halted hunits

/-! ### The cycle a tile stands at -/

theorem haltLowest_now (t : Nat) (x : Cycle) : ((haltLowest t x).tile t).now = (x.s.tile t).now := by
  unfold haltLowest
  split
  · rfl
  · next k _ => exact (haltTile_tile x.s t k).2

theorem tileCycle_now (s : State) (t : Nat) (cs : List Cond) : ((tileCycle s t cs).tile t).now = (s.tile t).now + 1 := by
  unfold tileCycle
  dsimp only
  rw [haltLowest_now, unitsCycle_eq, endStage, Cycle.mod, tile_modTile_same]
  rfl

theorem runCycles_now (t n : Nat) (s : State) : ((runCycles t n s).tile t).now = (s.tile t).now + n := by
  induction n generalizing s with
  | zero => rfl
  | succ n ih =>
    unfold runCycles
    split
    · rw [tile_modTile_same]
    · rw [ih, tileCycle_now, Nat.add_assoc, Nat.add_comm 1 n]

theorem runTo_now (s : State) {t e : Nat} (h : s.nowOf t ≤ e) : ((s.runTo t e).tile t).now = e := by
  unfold State.runTo
  dsimp only
  rw [runCycles_now, tile_modTile_same]
  exact Nat.add_sub_cancel' h

theorem set_tile (s : State) (f : RegField) (i v k : Nat) : (s.set f i v).tile k = s.tile k := rfl

theorem goOn_now (x : Tile) (pc c n : Nat) : (x.goOn pc c n).now = x.now := by
  obtain ⟨a, m, ls, p, b, f, h⟩ := goOn_eq x pc c n
  rw [h]

theorem waitEnded_tile (s : State) (t : Nat) (st : Stall) (k : Nat) : (s.waitEnded t st).tile k = s.tile k := by
  unfold State.waitEnded
  dsimp only
  split <;> rfl

theorem releaseAt_now (s : State) (t c : Nat) : ((s.releaseAt t c).tile t).now = (s.tile t).now := by
  unfold State.releaseAt
  dsimp only
  (repeat' split) <;> simp [Tile.release, goOn_now]

theorem modTile_now {s : State} {t : Nat} {f : Tile → Tile} (hf : ∀ y, (f y).now = y.now) :
    ((s.modTile t f).tile t).now = (s.tile t).now := by rw [tile_modTile_same, hf]

theorem voiceStart_now (t c : Nat) (x : Cycle) : ((voiceStart t c x).s.tile t).now = (x.s.tile t).now := by
  unfold voiceStart
  dsimp only
  split
  · rfl
  · split
    · rfl
    · split
      · rfl
      · split
        · rw [set_tile]
          exact modTile_now (fun _ => rfl)
        · exact modTile_now (fun _ => rfl)

theorem commitAll_now (s : State) (t : Nat) (ws : List (Table (List Byte))) : ((s.commitAll t ws).tile t).now = (s.tile t).now := by
  obtain ⟨ts, h⟩ := commitAll_tile s t ws
  rw [h]

theorem coreStart_now (t c : Nat) (x : Cycle) : ((coreStart t c x).s.tile t).now = (x.s.tile t).now := by
  have hfold (l : List VrunResult) (s : State) :
      l.foldl (fun s (r : VrunResult) => commitWrites t r.spadW s) s = s.commitAll t (l.map (fun r => r.spadW)) := by
    rw [State.commitAll, List.foldl_map]
  rw [← voiceStart_now t c x]
  unfold coreStart
  dsimp only
  rw [hfold]
  split
  · rw [tile_modTile_same]
    exact commitAll_now ..
  · split
    · rw [set_tile, tile_modTile_same, tile_modTile_same]
      exact commitAll_now ..
    · rw [tile_modTile_same]
      exact commitAll_now ..

theorem cycleStart_now (t c : Nat) (x : Cycle) : ((cycleStart t c x).s.tile t).now = (x.s.tile t).now := by
  rw [cycleStart_eq, ← releaseAt_now x.s t c]
  unfold startCore
  split
  · rfl
  · exact coreStart_now ..

/-- A tile whose cycle `e` has begun stands at it. -/
theorem entered_now {s : State} {t e : Nat} (h : s.nowOf t ≤ e) : ((s.entered t e).tile t).now = e := by
  unfold State.entered State.enterCycle
  dsimp only
  rw [cycleStart_now]
  exact runTo_now s.begin h

end Sys2Proof.Machine

namespace Sys2Proof.Machine

/-! ### Issue (R132, R181, R182, R206) -/

section
variable {s v : State} {t : TileIx} {e op w pc : Nat} {body : Issue → List Cond × State}

/-- Issue of a tile that may issue, from what its cycle's beginning leaves. -/
theorem issueAt_begun (he : s.tileEvent t e = true) (hv : v = s.entered t e) (hc : v.canIssue t e = true) (hpc : pc = (v.tile t).pc)
    (hw : w = v.spadWord t pc) (hop : opcodeOf w ∈ opcodes → opcodeOf w = op) : issueAt t e op body s
      = match decodeConds (v.tile t) pc w with
        | c :: cs => .next (tileCycle v t (c :: cs))
        | [] =>
          match tokenWait (v.tile t) pc w with
          | .halt c => .next (tileCycle v t [c])
          | .stall => .next (v.modTile t (fun x => { x with tokenStall := true }))
          | .go y =>
            match body ⟨v.setTile t { y with tokenStall := false }, t, e, pc, w,
                (List.range (extOf w)).map (fun k => v.spadWord t (pc + 1 + k))⟩ with
            | ([], s') => .next s'
            | (c :: cs, _) => .next (tileCycle v t (c :: cs)) := by
  subst hv hpc hw
  have hbegin : s.begin.tileEvent t e = true := he
  have hgo : (!(s.entered t e).canIssue t e || (opcodes.contains (opcodeOf ((s.entered t e).spadWord t ((s.entered t e).tile t).pc))
      && opcodeOf ((s.entered t e).spadWord t ((s.entered t e).tile t).pc) != op)) = false := by
    rw [hc, Bool.not_true, Bool.false_or, Bool.and_eq_false_imp, List.contains_iff_mem]
    intro hm
    rw [hop hm, bne_self_eq_false]
  unfold issueAt
  dsimp only
  rw [hbegin, Bool.not_true, if_neg (by decide)]
  exact if_neg (Bool.eq_false_iff.1 hgo)

/-- A listed word waits for the command of its own opcode. -/
theorem issueAt_other (he : s.tileEvent t e = true) (hv : v = s.entered t e) (hw : w = v.spadWord t (v.tile t).pc)
    (hop : opcodeOf w ∈ opcodes) (hne : opcodeOf w ≠ op) : issueAt t e op body s = .next v := by
  subst hv hw
  have hbegin : s.begin.tileEvent t e = true := he
  unfold issueAt
  dsimp only
  rw [hbegin, Bool.not_true, if_neg (by decide)]
  refine if_pos ?_
  rw [Bool.or_eq_true, Bool.and_eq_true, List.contains_iff_mem, bne_iff_ne]
  exact .inr ⟨hop, hne⟩

end

/-! ### What the decode of a word and its token wait answer -/

theorem decodeConds_undefined {x : Tile} {pc w : Nat} (h : opcodeOf w ∉ opcodes) :
    decodeConds x pc w = [cond .opcodeUndefined pc (opcodeOf w)] := by
  unfold decodeConds
  exact if_pos (by rw [Bool.not_eq_true', ← Bool.not_eq_true, List.contains_iff_mem]; exact h)

theorem decodeConds_extCount {x : Tile} {pc w : Nat} (h : opcodeOf w ∈ opcodes) (hext : extOf w ≠ extNeeded w) :
    decodeConds x pc w = [cond .extCount pc (extOf w + 2 ^ 8 * extNeeded w)] := by
  unfold decodeConds
  rw [if_neg (by rw [Bool.not_eq_true', Bool.not_eq_false, List.contains_iff_mem]; exact h), if_pos hext]

theorem tokenWait_absent {x : Tile} {pc w : Nat} (hw : waitOf w ≠ 0) (hop : opcodeOf w ≠ 1) (hb : bit x.board (waitOf w) = false) :
    tokenWait x pc w = if x.willPost (waitOf w) x.vrunLocal then .stall else .halt (cond .tokenAbsent pc (waitOf w)) := by
  unfold tokenWait
  dsimp only
  rw [if_neg (by tauto), if_neg (by simp [hb])]

/-- What goes on has its board, and nothing else, changed. -/
theorem tokenWait_go {x y : Tile} {pc w : Nat} (h : tokenWait x pc w = .go y) : ∃ b, y = { x with board := b } := by
  unfold tokenWait at h
  dsimp only at h
  split at h
  · cases h
    exact ⟨_, rfl⟩
  · split at h
    · cases h
      exact ⟨_, rfl⟩
    · split at h <;> cases h

/-! ### An instruction that issues -/

section
variable {s v : State} {t : TileIx} {e op w : Nat} {y : Tile} {body : Issue → List Cond × State}

/-- The tile at an issue is the tile in its cycle but for its board and the stall on its token. -/
theorem issues_tile (h : s.Issues t e op w y) (hv : v = s.entered t e) :
    ∃ b, y = { v.tile t with board := b, tokenStall := false } := by
  obtain ⟨-, u, x, rfl, rfl, -, -, -, -, z, hz, rfl⟩ := h
  obtain ⟨b, rfl⟩ := tokenWait_go hz
  exact ⟨b, by rw [hv]⟩

theorem issues_canIssue (h : s.Issues t e op w y) (hv : v = s.entered t e) : v.canIssue t e = true := by
  obtain ⟨-, u, x, rfl, rfl, hc, -⟩ := h
  rw [hv]
  exact hc

theorem issues_event (h : s.Issues t e op w y) : s.tileEvent t e = true := h.1

theorem canIssue_halted {t e : Nat} (h : v.canIssue t e = true) : (v.tile t).halted = false := by
  unfold State.canIssue at h
  simp only [Bool.and_eq_true, Bool.not_eq_true'] at h
  exact h.1.1.2

/-- An instruction past its decode and its token: what its checks and its effect make of it. -/
theorem issueAt_issues (h : s.Issues t e op w y) (hv : v = s.entered t e) : issueAt t e op body s
    = match body (s.issue t e w y) with
      | ([], s') => .next s'
      | (c :: cs, _) => .next (tileCycle v t (c :: cs)) := by
  obtain ⟨b, hy⟩ := issues_tile h rfl
  obtain ⟨he, u, x, hu, hx, hc, hw, hop, hdec, z, hz, hyz⟩ := h
  subst hv hu hx hw
  have hpc : y.pc = ((s.entered t e).tile t).pc := by rw [hy]
  rw [issueAt_begun he rfl hc rfl rfl (fun _ => hop), hdec]
  dsimp only
  rw [hz]
  unfold State.issue
  rw [hpc, hyz]

theorem issueAt_passes (h : s.Issues t e op w y) {u : State} (hbody : body (s.issue t e w y) = ([], u)) : issueAt t e op body s = .next u := by
  rw [issueAt_issues h rfl, hbody]

theorem issueAt_fails (h : s.Issues t e op w y) (hv : v = s.entered t e) (hbody : (body (s.issue t e w y)).1 ≠ []) :
    issueAt t e op body s = .next (tileCycle v t (body (s.issue t e w y)).1) := by
  rw [issueAt_issues h hv]
  rcases hb : body (s.issue t e w y) with ⟨cs, u⟩
  rw [hb] at hbody
  cases cs with
  | nil => exact absurd rfl hbody
  | cons c cs => rfl

end

/-! ### The instructions as issues -/

/-- The conditions `cs` that the issue of an instruction meets: those of its own checks, and then its post's, which meets none where
its token is not on the board. -/
structure Issue.Checks (op : Nat) (i : Issue) (cs : List Cond) : Prop where
  own : ∃ ds, cs = checksOf op i ++ ds
  only : checksOf op i ≠ [] → bit i.x.board (postOf i.w) = false → cs = checksOf op i

namespace Issue.Checks
variable {op : Nat} {i : Issue} {cs : List Cond}

theorem exact (h : cs = checksOf op i) : i.Checks op cs := ⟨⟨[], by rw [h, List.append_nil]⟩, fun _ _ => h⟩

/-- Nothing is asked of an instruction without checks of its own. -/
theorem free (h : checksOf op i = []) : i.Checks op cs := ⟨⟨cs, by rw [h, List.nil_append]⟩, fun hne => absurd h hne⟩

theorem append {ds : List Cond} (h : cs = checksOf op i ++ ds) (hds : bit i.x.board (postOf i.w) = false → ds = []) : i.Checks op cs :=
  ⟨⟨ds, h⟩, fun _ hb => by rw [h, hds hb, List.append_nil]⟩

end Issue.Checks

theorem postNow_absent {x : Tile} {token : Nat} (pc : Nat) (h : bit x.board token = false) : (x.postNow token pc).2 = [] := by
  unfold Tile.postNow
  split
  · rfl
  · rw [if_neg (by simp [h])]

theorem complete_conds {i : Issue} {s : State} (extra : Nat) (h : bit (s.tile i.t).board (postOf i.w) = false) :
    (i.complete s extra).1 = [] := postNow_absent i.pc h

/-- An instruction's command is the issue of its opcode, with the checks that the rules name. -/
def IssueOf (op : Nat) : Prop := ∃ body : Issue → List Cond × State,
  (∀ (t : TileIx) e s, exec (tileInstr op t e) s = issueAt t e op body s) ∧ ∀ i : Issue, i.Checks op (body i).1

theorem tileInstr_issue {op : Nat} (f : TileIx → Nat → State → Host.Outcome State Fault Refusal) {body : Issue → List Cond × State}
    (hf : ∀ t e s, exec (tileInstr op t e) s = f t e s) (hbody : ∀ t e s, f t e s = issueAt t e op body s)
    (hchecks : ∀ i : Issue, i.Checks op (body i).1) : IssueOf op := ⟨body, fun t e s => (hf t e s).trans (hbody t e s), hchecks⟩

/-- The instructions of the sequencer itself. -/
theorem issueOf_sequencer : ∀ op ∈ [0x00, 0x01, 0x02, 0x03, 0x04, 0x05, 0x06, 0x08, 0x09], IssueOf op := by
  simp only [List.forall_mem_cons]
  refine ⟨tileInstr_issue execNop (fun _ _ _ => rfl) (fun _ _ _ => rfl) (fun _ => .free rfl),
    tileInstr_issue execHalt (fun _ _ _ => rfl) (fun _ _ _ => rfl) (fun _ => .exact rfl),
    tileInstr_issue execVoice (fun _ _ _ => rfl) (fun _ _ _ => rfl) (fun _ => .exact rfl),
    tileInstr_issue execSeed (fun _ _ _ => rfl) (fun _ _ _ => rfl) (fun _ => .free rfl),
    tileInstr_issue execCanary (fun _ _ _ => rfl) (fun _ _ _ => rfl) (fun _ => .free rfl),
    tileInstr_issue execSetc (fun _ _ _ => rfl) (fun _ _ _ => rfl) (fun _ => .free rfl),
    tileInstr_issue execSetcS (fun _ _ _ => rfl) (fun _ _ _ => rfl) (fun _ => .free rfl),
    tileInstr_issue execRoll (fun _ _ _ => rfl) (fun _ _ _ => rfl) (fun _ => ?roll),
    tileInstr_issue execWaitBeat (fun _ _ _ => rfl) (fun _ _ _ => rfl) (fun _ => .free rfl),
    fun _ h => absurd h List.not_mem_nil⟩
  have hpost (i : Issue) : bit i.x.board (postOf i.w) = false → (i.x.postNow (postOf i.w) i.pc).2 = [] := postNow_absent i.pc
  dsimp only
  exact .append rfl (hpost _)

/-- Those of the queues, the flags and the clocked units. -/
theorem issueOf_units : ∀ op ∈ [0x10, 0x11, 0x18, 0x19, 0x1A, 0x20, 0x21, 0x28], IssueOf op := by
  simp only [List.forall_mem_cons]
  refine ⟨tileInstr_issue execPush (fun _ _ _ => rfl) (fun _ _ _ => rfl) (fun _ => .exact (by dsimp only; split <;> rfl)),
    tileInstr_issue execPull (fun _ _ _ => rfl) (fun _ _ _ => rfl) (fun _ => .exact (by dsimp only; split <;> rfl)),
    tileInstr_issue execSetFlag (fun _ _ _ => rfl) (fun _ _ _ => rfl) (fun _ => .free rfl),
    tileInstr_issue execWaitFlag (fun _ _ _ => rfl) (fun _ _ _ => rfl) (fun _ => ?waitFlag),
    tileInstr_issue execClrFlag (fun _ _ _ => rfl) (fun _ _ _ => rfl) (fun _ => .free rfl),
    tileInstr_issue execMma (fun _ _ _ => rfl) (fun _ _ _ => rfl) (fun _ => .exact rfl),
    tileInstr_issue execMmaPlane (fun _ _ _ => rfl) (fun _ _ _ => rfl) (fun _ => .exact rfl),
    tileInstr_issue execVrun (fun _ _ _ => rfl) (fun _ _ _ => rfl) (fun _ => .exact (by split <;> rfl)),
    fun _ h => absurd h List.not_mem_nil⟩
  dsimp only
  split
  · refine .append rfl (fun hb => complete_conds 0 ?_)
    rw [tile_setTile_same]
    split <;> exact hb
  · exact .exact rfl

theorem issueOf_loadStore {op tier : Nat} {store : Bool}
    (hf : ∀ (t : TileIx) e s, exec (tileInstr op t e) s = loadStore t e op tier store s) (hchecks : checksOf op = loadConds tier) :
    IssueOf op := by
  unfold loadStore at hf
  refine ⟨_, hf, fun i => .exact ?_⟩
  rw [hchecks]
  dsimp only
  split <;> rfl

theorem issueOf_gatherScatter {op tier : Nat} {store : Bool}
    (hf : ∀ (t : TileIx) e s, exec (tileInstr op t e) s = gatherScatter t e op tier store s) (hchecks : checksOf op = gatherConds tier) :
    IssueOf op := by
  unfold gatherScatter at hf
  refine ⟨_, hf, fun i => .exact ?_⟩
  rw [hchecks]
  dsimp only
  split <;> rfl

theorem issueOf_fence {op tier : Nat} (hf : ∀ (t : TileIx) e s, exec (tileInstr op t e) s = fence t e op tier s)
    (hchecks : ∀ i, checksOf op i = []) : IssueOf op := by
  unfold fence at hf
  exact ⟨_, hf, fun i => .free (hchecks i)⟩

/-- Those of the tiers. -/
theorem issueOf_tiers : ∀ op ∈ [0x30, 0x31, 0x32, 0x33, 0x34, 0x35, 0x36, 0x37, 0x38], IssueOf op := by
  simp only [List.forall_mem_cons]
  exact ⟨issueOf_loadStore (fun _ _ _ => rfl) rfl, issueOf_loadStore (fun _ _ _ => rfl) rfl,
    issueOf_gatherScatter (fun _ _ _ => rfl) rfl, issueOf_fence (fun _ _ _ => rfl) (fun _ => rfl),
    issueOf_loadStore (fun _ _ _ => rfl) rfl, issueOf_loadStore (fun _ _ _ => rfl) rfl,
    issueOf_gatherScatter (fun _ _ _ => rfl) rfl, issueOf_gatherScatter (fun _ _ _ => rfl) rfl,
    issueOf_fence (fun _ _ _ => rfl) (fun _ => rfl), fun _ h => absurd h List.not_mem_nil⟩

theorem issueOf_opcode (op : Nat) (h : op ∈ opcodes) : IssueOf op := by
  have hsplit : opcodes = [0x00, 0x01, 0x02, 0x03, 0x04, 0x05, 0x06, 0x08, 0x09] ++ ([0x10, 0x11, 0x18, 0x19, 0x1A, 0x20, 0x21, 0x28]
      ++ [0x30, 0x31, 0x32, 0x33, 0x34, 0x35, 0x36, 0x37, 0x38]) := rfl
  rw [hsplit, List.mem_append, List.mem_append] at h
  rcases h with h | h | h
  · exact issueOf_sequencer op h
  · exact issueOf_units op h
  · exact issueOf_tiers op h

theorem haltedWith_cond {u : State} {t pc d : Nat} {k : Halt} (h : HaltedWith u t (cond k pc d)) (n : Nat) :
    HaltedWith u t ⟨k.code, n, pc, d⟩ := by
  obtain ⟨hhalted, hvalid, hreason, hpc, hdetail⟩ := h
  exact ⟨hhalted, hvalid, hreason, hpc, hdetail.trans (Nat.mod_mod ..)⟩

/-- Settles O34: the decode and the token wait answer as the rules say; a quiet tile that meets a condition halts with it. -/
theorem issueDecodesAndWaits : Obligations.IssueDecodesAndWaits := by
  unfold Obligations.IssueDecodesAndWaits
  intro op t e w pc s v hop he hv
  obtain ⟨body, hexec, -⟩ := issueOf_opcode op hop
  refine ⟨fun hq => ?_, fun hc hpc hw => ⟨fun hlist hne => ?_, fun hlist hq => ?_, fun hsame hext hq => ?_,
    fun hsame hhalt hdec hwait hboard => ⟨fun hcome => ?_, fun hnone hq => ?_⟩⟩⟩
  · have henter := hv ▸ entered_quiet he hq
    exact ⟨henter.onlyTile, henter.tile⟩
  · rw [hexec, issueAt_other he hv (hpc ▸ hw) hlist hne]
  · have hhalts := tileCycle_halts (TileIs.refl t v) hq (canIssue_halted hc) (cs := [cond .opcodeUndefined pc (opcodeOf w)]) rfl
    refine ⟨_, ?_, haltedWith_cond hhalts.record _, hhalts.bytes⟩
    rw [hexec, issueAt_begun he hv hc hpc hw (fun hm => absurd hm hlist), decodeConds_undefined hlist]
  · have hhalts := tileCycle_halts (TileIs.refl t v) hq (canIssue_halted hc) (cs := [cond .extCount pc (extOf w + 2 ^ 8 * extNeeded w)]) rfl
    refine ⟨_, ?_, haltedWith_cond hhalts.record _, hhalts.bytes⟩
    rw [hexec, issueAt_begun he hv hc hpc hw (fun _ => hsame), decodeConds_extCount (hsame ▸ hop) hext]
  · have hstall := (TileIs.refl t v).modTile (fun x => { x with tokenStall := true })
    refine ⟨_, ?_, hstall.onlyTile, hstall.tile⟩
    rw [hexec, issueAt_begun he hv hc hpc hw (fun _ => hsame), hdec]
    dsimp only
    rw [tokenWait_absent hwait (hsame ▸ hhalt) hboard, hcome]
    rfl
  · have hhalts := tileCycle_halts (TileIs.refl t v) hq (canIssue_halted hc) (cs := [cond .tokenAbsent pc (waitOf w)]) rfl
    refine ⟨_, ?_, haltedWith_cond hhalts.record _, hhalts.bytes⟩
    rw [hexec, issueAt_begun he hv hc hpc hw (fun _ => hsame), hdec]
    dsimp only
    rw [tokenWait_absent hwait (hsame ▸ hhalt) hboard, hnone]
    rfl

end Sys2Proof.Machine

namespace Sys2Proof.Machine

/-! ### Bounds of 0 among an instruction's checks (R193) -/

theorem mem_check {b : Bool} (c : Cond) (h : b = true) : c ∈ check b c := by
  rw [h]
  exact List.mem_singleton_self c

theorem pushConds_boundZero {i : Issue} (h : bits i.w 42 29 = 0) : cond .boundZero i.pc 0x10 ∈ pushConds i :=
  List.mem_append_left _ (List.mem_append_right _ (mem_check _ (by rw [h]; rfl)))

theorem pullConds_boundZero {i : Issue} (h : bits i.w 42 29 = 0) : cond .boundZero i.pc 0x11 ∈ pullConds i :=
  List.mem_append_left _ (List.mem_append_right _ (mem_check _ (by rw [h]; rfl)))

theorem mmaConds_boundZero {i : Issue} (hsrc : bit i.w 54 = true) (h : (qctlOf (i.ext 0)).bound = 0) :
    cond .boundZero i.pc 0x20 ∈ mmaConds i := by
  have hmem : cond .boundZero i.pc 0x20 ∈ check ((qctlOf (i.ext 0)).bound == 0) (cond .boundZero i.pc 0x20) :=
    mem_check _ (by rw [h]; rfl)
  unfold mmaConds
  dsimp only
  rw [hsrc]
  exact List.mem_append_right _ (List.mem_append_left _ (List.mem_append_left _ (List.mem_append_left _ hmem)))

/-- The conditions of a list all have other codes than BOUND_ZERO. -/
def NoBoundZero (cs : List Cond) : Prop := ∀ c ∈ cs, c.code ≠ 0x35

namespace NoBoundZero
variable {cs ds : List Cond} {c : Cond}

theorem nil : NoBoundZero [] := fun _ h => absurd h List.not_mem_nil

theorem cond {k : Halt} {pc d : Nat} (h : k.code ≠ 0x35) : NoBoundZero [cond k pc d] :=
  fun _ hm => by rw [List.mem_singleton.1 hm]; exact h

theorem append (h : NoBoundZero cs) (h' : NoBoundZero ds) : NoBoundZero (cs ++ ds) := List.forall_mem_append.2 ⟨h, h'⟩

theorem check {b : Bool} {k : Halt} {pc d : Nat} (h : k.code ≠ 0x35) : NoBoundZero (check b (Machine.cond k pc d)) := by
  unfold Machine.check
  split
  · exact cond h
  · exact nil

/-- The vector unit's conditions at issue: it is busy. -/
theorem vector {b : Bool} {pc : Nat} : NoBoundZero (Machine.check b (cond2 .unitBusy pc 0x28)) := by
  unfold Machine.check
  split
  · exact fun _ hm => by rw [List.mem_singleton.1 hm]; exact (by decide : Halt.code .unitBusy ≠ 0x35)
  · exact nil

theorem of_false {b : Bool} {c : Cond} (h : b = false) : NoBoundZero (Machine.check b c) := by
  rw [h]
  exact nil

theorem flatMap {α : Type} {l : List α} {f : α → List Cond} (h : ∀ a ∈ l, NoBoundZero (f a)) : NoBoundZero (l.flatMap f) :=
  fun c hc => by
    obtain ⟨a, ha, hm⟩ := List.mem_flatMap.1 hc
    exact h a ha c hm

theorem rangeConds (pc k : Nat) (f : Option Nat) : NoBoundZero (rangeConds pc k f) := by
  cases f
  · exact nil
  · exact cond (by decide)

theorem secureConds (s : State) (t pc : Nat) (us : List Nat) : NoBoundZero (s.secureConds t pc us) := by
  unfold State.secureConds
  split
  · exact nil
  · exact cond (by decide)

theorem microSpad (s : State) (t pc passes : Nat) (m : Micro) : NoBoundZero (microSpad s t pc passes m) := by
  unfold Machine.microSpad
  split
  · dsimp only
    split
    · exact rangeConds _ _ _
    · exact (check (by decide)).append (secureConds _ _ _ _)
  · exact nil

theorem microQueue (s : State) (t pc : Nat) (m : Micro) : NoBoundZero (microQueue s t pc m) := by
  unfold Machine.microQueue
  dsimp only
  refine append ?_ ?_ <;> split
  · exact nil
  · split
    · exact cond (by decide)
    · exact (check (by decide)).append (check (by decide))
  · exact nil
  · split
    · exact cond (by decide)
    · exact (check (by decide)).append (check (by decide))

end NoBoundZero

/-- Does one of a VRUN's micro-ops touch a queue? -/
def vrunTouches (i : Issue) : Bool := (vrunMicros i).any (fun m => m.inQueue.isSome || m.outQueue.isSome)

theorem vrunChecks_boundZero {i : Issue} (h : vrunTouches i = true) (hb : bits i.w 61 48 = 0) :
    cond .boundZero i.pc 0x28 ∈ vrunChecks i := by
  have hmem : cond .boundZero i.pc 0x28 ∈ check (vrunTouches i && bits i.w 61 48 == 0) (cond .boundZero i.pc 0x28) :=
    mem_check _ (by rw [h, hb]; rfl)
  exact List.mem_append_left _ (List.mem_append_left _ (List.mem_append_left _ (List.mem_append_right _ hmem)))

theorem vrunChecks_noBoundZero {i : Issue} (h : vrunTouches i = false) : NoBoundZero (vrunChecks i) := by
  unfold vrunChecks
  dsimp only
  refine (((((((((((NoBoundZero.check (by decide)).append .vector).append ?_).append ?_).append ?_).append
    (.flatMap fun m _ => .microSpad _ _ _ _ _)).append (.flatMap fun m _ => .microQueue _ _ _ _)).append (.check (by decide))).append
    (NoBoundZero.of_false ?_)).append (.check (by decide))).append ?_).append ?_
  · split
    · exact .nil
    · exact .cond (by decide)
  · refine .flatMap fun m _ => ?_
    split
    · exact .cond (by decide)
    · exact .cond (by decide)
    · exact .nil
  · exact .flatMap fun m _ => .check (by decide)
  · exact (congrArg (· && bits i.w 61 48 == 0) h).trans (Bool.false_and _)
  · split
    · exact .nil
    · exact .cond (by decide)
  · split
    · exact .nil
    · exact .cond (by decide)

theorem vrunConds_checks {i : Issue} (he : vrunEmpty i = false) (hl : i.x.voiceLoad = none) : vrunConds i = vrunChecks i := by
  unfold vrunConds
  rw [he, hl]
  rfl

/-! ### A failed check halts the tile -/

theorem enterCycle_time (s : State) (t e : Nat) : (s.entered t e).time = s.time := by
  have h : (s.entered t e).offTiles = s.begin.offTiles := by simp [State.entered, State.enterCycle]
  exact offTiles_time h

/-- The detail of TILE_HALT keeps the halt's code in its upper half (R140). -/
theorem haltDetail_code (t : TileIx) (n : Nat) :
    (tileDie t + 2 ^ 3 * tileCol t + 2 ^ 8 * tileRow t + 2 ^ 16 * n) % 2 ^ 32 / 2 ^ 16 = n % 2 ^ 16 := by
  have hlow : tileDie t + 2 ^ 3 * tileCol t + 2 ^ 8 * tileRow t < 2 ^ 16 := by
    have ht := t.isLt
    unfold tileDie tileCol tileRow
    omega
  rw [show 2 ^ 32 = 2 ^ 16 * 2 ^ 16 from rfl, Nat.mod_mul_right_div_self, Nat.add_mul_div_left _ _ (by decide), Nat.div_eq_of_lt hlow,
    Nat.zero_add]

/-- Settles O35: the failing checks of an issue are the conditions of its cycle, which halts with the lowest of them. -/
theorem failedChecksHaltTheTile : Obligations.FailedChecksHaltTheTile := by
  unfold Obligations.FailedChecksHaltTheTile
  refine ⟨fun i => ⟨fun h => ⟨_, pushConds_boundZero h, rfl⟩, fun h => ⟨_, pullConds_boundZero h, rfl⟩,
    fun h => ⟨_, mem_check (b := bits i.w 51 38 == 0) (cond .boundZero i.pc 0x19) (by rw [h]; rfl), rfl⟩,
    fun hsrc h => ⟨_, mmaConds_boundZero hsrc h, rfl⟩, fun he hl hb => ⟨fun ⟨m, hm, hq⟩ => ?_, fun hnone => ?_⟩⟩, ?_⟩
  · have htouch : vrunTouches i = true := by
      refine List.any_eq_true.2 ⟨m, hm, ?_⟩
      rw [Bool.or_eq_true, Option.isSome_iff_ne_none, Option.isSome_iff_ne_none]
      exact hq
    exact ⟨_, (vrunConds_checks he hl).symm ▸ vrunChecks_boundZero htouch hb, rfl⟩
  · have htouch : vrunTouches i = false := by
      refine List.any_eq_false.2 fun m hm => ?_
      rw [(hnone m hm).1, (hnone m hm).2]
      decide
    have hnot := vrunChecks_noBoundZero htouch
    rw [← vrunConds_checks he hl] at hnot
    exact hnot
  · intro op t e w y c s v hop hiss hv hlow
    obtain ⟨body, hexec, hchecks⟩ := issueOf_opcode op hop
    obtain ⟨⟨ds, hown⟩, honly⟩ := hchecks (s.issue t e w y)
    have hsome : checksOf op (s.issue t e w y) ≠ [] := fun hnil => by rw [hnil] at hlow; cases hlow
    have hbody : (body (s.issue t e w y)).1 ≠ [] := by rw [hown]; exact List.append_ne_nil_of_left_ne_nil hsome ds
    have hrun := (hexec t e s).trans (issueAt_fails hiss hv hbody)
    refine ⟨⟨_, hrun, tileCycle_halted (List.append_ne_nil_of_left_ne_nil hbody _)⟩, fun hq hboard => ⟨_, hrun, ?_⟩⟩
    have hb : bit (s.issue t e w y).x.board (postOf w) = false := by
      unfold State.issue Issue.x
      dsimp only
      rw [tile_setTile_same]
      exact hboard
    rw [honly hsome hb]
    have hhalts := tileCycle_halts (TileIs.refl t v) hq (canIssue_halted (issues_canIssue hiss hv)) hlow
    refine ⟨hhalts.record, hhalts.bytes, ?_, hhalts.others, ?_, ?_, ?_, fun hx => ⟨_, hhalts.executing hx, rfl, haltDetail_code t _⟩,
      hhalts.resting⟩
    · rw [hhalts.beat, hv, enterCycle_time]
    · rw [hhalts.tile]; rfl
    · rw [hhalts.tile]; rfl
    · rw [hhalts.tile]; rfl

end Sys2Proof.Machine

namespace Sys2Proof.Machine

/-! ### Events that come with the passing of a cycle -/

section
variable {s u : State} {t e : Nat} {due : State → Bool}

/-- An event that is due: the cycle passes. -/
theorem cycleEvent_due (he : s.tileEvent t e = true) (hd : due (s.begin.runTo t e) = true) :
    cycleEvent t e due s = .next (tileCycle (s.begin.runTo t e) t []) := by
  have hb : s.begin.tileEvent t e = true := he
  unfold cycleEvent
  dsimp only
  rw [hb, Bool.not_true, if_neg (by decide), if_pos hd]

theorem cycleEvent_idle (he : s.tileEvent t e = true) (hd : due (s.begin.runTo t e) = false) :
    cycleEvent t e due s = .next (s.begin.runTo t e) := by
  have hb : s.begin.tileEvent t e = true := he
  unfold cycleEvent
  dsimp only
  rw [hb, Bool.not_true, if_neg (by decide), if_neg (by simp [hd])]

/-- The tile stands at the cycle. -/
theorem runTo_here (h : s.nowOf t = e) : TileIs t s { s.tile t with now := e } (s.begin.runTo t e) := by
  have hstart := (TileIs.refl t s).begin.modTile (fun x => { x with now := s.nowOf t })
  have heq : s.begin.runTo t e = s.begin.modTile t (fun x => { x with now := s.nowOf t }) := by
    unfold State.runTo
    dsimp only
    rw [show s.begin.nowOf t = e from h, Nat.sub_self, h]
    rfl
  rw [heq, ← h]
  exact hstart

/-- The tile stands at the cycle before, in which something moves. -/
theorem runTo_next (h : s.nowOf t + 1 = e) (hq : (s.tile t).quiet = false) :
    ∃ w, TileIs t s { s.tile t with now := s.nowOf t } w ∧ s.begin.runTo t e = tileCycle w t [] := by
  refine ⟨_, (TileIs.refl t s).begin.modTile (fun x => { x with now := s.nowOf t }), ?_⟩
  have hbusy : ((s.begin.modTile t (fun x => { x with now := s.nowOf t })).tile t).quiet = false := by
    rw [tile_modTile_same]
    exact hq
  unfold State.runTo
  dsimp only
  rw [show s.begin.nowOf t = s.nowOf t from rfl, ← h, Nat.add_sub_cancel_left, runCycles_busy hbusy]
  rfl

end

/-! ### A cycle that ends a unit's work -/

/-- A tile whose program runs, whose results ripen in this cycle and leave it idle, and whose one post is due. -/
theorem tileCycle_ripens {t : Nat} {s u : State} {y : Tile} {p : Post} (h : TileIs t s y u) (hy : (y.ripen y.now).Idle)
    (hw : ∀ r ∈ y.vrunResults, r.spadW = []) (hb : y.block = none) (hf : y.finished = false) (hs : y.sets = []) (hc : y.clears = [])
    (hp : y.posts = [p]) (hdue : p.cycle ≤ y.now) (hpost : p.token ≠ 0) (hboard : bit y.board p.token = false) :
    TileIs t s (Tile.ended { y.ripen y.now with posts := [], board := y.board + 2 ^ p.token } y.now s.nextMeasureBeat)
      (tileCycle u t []) := by
  have hbegin := Cycle.At.begin h hy.claim []
  have hstart := hbegin.cycleStart_running (c := y.now) hy.push hy.pull hy.mma hy.vrun hb hf hy.voiceLoad hy.seed hw
  have hunits := hstart.unitsCycle_post (c := y.now) hy hp (.inr (hstart.gated hf hb)) hdue hpost hboard hs
  rw [settleFlags_none (y := { y.ripen y.now with posts := [], board := (y.ripen y.now).board + 2 ^ p.token }) hs hc] at hunits
  exact tileCycle_none (by rw [h.tile]) hunits

/-- Results that are due leave idle a tile that they alone kept busy. -/
theorem Tile.Idle.ripens {y : Tile} {c : Nat} (h : { y with mmaResults := [], vrunResults := [] }.Idle)
    (hm : ∀ r ∈ y.mmaResults, r.cycle ≤ c) (hv : ∀ r ∈ y.vrunResults, r.cycle ≤ c) : (y.ripen c).Idle where
  cpend := by
    have hc : y.cpend = [] := h.cpend
    unfold Tile.ripen
    rw [hc]
    rfl
  voiceLoad := h.voiceLoad
  planeLoad := h.planeLoad
  mma := h.mma
  mmaResults := List.filter_eq_nil_iff.2 (fun r hr => by simpa using hm r hr)
  vrun := h.vrun
  vrunResults := List.filter_eq_nil_iff.2 (fun r hr => by simpa using hv r hr)
  push := h.push
  pull := h.pull
  bwrites := h.bwrites
  seed := h.seed
  claim := h.claim
  tests := h.tests
  landing := h.landing

/-- The units of a plane load that has read them all, and which is to be complete in the next cycle. -/
theorem planeCycle_ends {t c : Nat} {s : State} {y : Tile} {cs : List Cond} {bs : List Nat} {x : Cycle} {p : PlaneLoad}
    (h : Cycle.At t s y cs bs x) (hp : y.planeLoad = some p) (hgot : p.got.length = p.units.length) (hnext : p.next = c + 1) :
    Cycle.At t s { y with planeLoad := none } cs bs (planeCycle t c x) := by
  unfold planeCycle
  rw [h.state.tile, hp]
  dsimp only
  rw [List.getElem?_eq_none (by rw [hgot])]
  dsimp only
  rw [if_pos (by rw [hnext])]
  exact h.mod (fun y => { y with planeLoad := none })

/-- The last cycle of a plane load on a tile that does nothing else and whose program runs. -/
theorem tileCycle_planeEnds {t : Nat} {s u : State} {y : Tile} {p : PlaneLoad} (h : TileIs t s y u)
    (hy : { y with planeLoad := none }.Idle) (hb : y.block = none) (hf : y.finished = false) (hs : y.sets = []) (hc : y.clears = [])
    (hposts : ∀ q ∈ y.posts, y.now < q.cycle) (hp : y.planeLoad = some p) (hgot : p.got.length = p.units.length)
    (hnext : p.next = y.now + 1) :
    TileIs t s (Tile.ended { y with planeLoad := none } y.now s.nextMeasureBeat) (tileCycle u t []) := by
  have hbegin := Cycle.At.begin h hy.claim []
  have hripe : y.ripen y.now = y := Tile.ripen_none (y := y) hy.cpend hy.mmaResults hy.vrunResults y.now
  have hresults : ∀ r ∈ y.vrunResults, r.spadW = [] := fun r hr => by
    rw [show y.vrunResults = [] from hy.vrunResults] at hr
    exact absurd hr List.not_mem_nil
  have hstart := hbegin.cycleStart_running (c := y.now) hy.push hy.pull hy.mma hy.vrun hb hf hy.voiceLoad hy.seed hresults
  rw [hripe] at hstart
  have hpush := hstart.pushStage_none (c := y.now) hy.push
  have hcore : Cycle.At t s { y with planeLoad := none } [] []
      (coreCycle t y.now (pushStage t y.now (cycleStart t y.now (Cycle.begin u t [])))) := by
    have hplane := planeCycle_ends ((hpush.voiceCycle_none (c := y.now) hy.voiceLoad).mmaCycle_none (c := y.now) hy.mma) hp hgot hnext
    unfold coreCycle
    rw [if_neg (by rw [hpush.gated hf hb]; decide)]
    exact hplane.vrunCycle_none hy.vrun
  exact tileCycle_none (by rw [h.tile]) (hcore.unitsCycle_settled hy.bwrites hy.landing hy.pull hy.tests hposts hs hc)

/-! ### A voice load (R116, R118, R216) -/

section
variable {t c : Nat} {s u : State} {y : Tile} {cs : List Cond} {bs : List Nat} {x : Cycle} {v : VoiceLoad}

/-- A unit without a stored error, read where nothing has claimed port A. -/
theorem readA_good (h : Cycle.At t s y cs [] x) (ht : y.tests = (s.tile t).tests) {n : Nat}
    (herr : s.spadErr.find? (2 ^ 15 * t + n) = none) (pc : Nat) :
    (x.readA t pc n).1 = s.spadUnit t n ∧ Cycle.At t s y cs [n / 4096] (x.readA t pc n).2 := by
  have hclaim : x.claim pc n = { x with banks := [n / 4096] } := by
    unfold Cycle.claim
    dsimp only
    rw [h.banks]
    rfl
  have hread : x.s.eccRead t n = (false, x.s) := by
    unfold State.eccRead
    dsimp only
    rw [h.state.part State.spadErr, herr]
  refine ⟨h.state.spadUnit ht n, ?_⟩
  unfold Cycle.readA Cycle.ecc
  dsimp only
  rw [hclaim, hread]
  exact (show Cycle.At t s y cs [n / 4096] { x with banks := [n / 4096] } from ⟨h.state, h.conds, rfl⟩).add_none

/-- The last unit of a voice is read 255 cycles after its issue. -/
theorem voiceCycle_reads (h : Cycle.At t s y cs [] x) (hv : y.voiceLoad = some v) (hgot : v.got.length = 32 * 255)
    (hc : v.issue + 255 = c) (ht : y.tests = (s.tile t).tests) (herr : s.spadErr.find? (2 ^ 15 * t + (v.image + 255)) = none) :
    Cycle.At t s { y with voiceLoad := some { v with got := v.got ++ s.spadUnit t (v.image + 255) } } cs [(v.image + 255) / 4096]
      (voiceCycle t c x) := by
  obtain ⟨hbytes, hread⟩ := readA_good h ht herr v.pc
  have hlen : v.got.length / 32 = 255 := by omega
  unfold voiceCycle
  rw [h.state.tile, hv]
  dsimp only
  rw [hlen, if_neg (by omega), hbytes]
  exact hread.mod (fun y => { y with voiceLoad := some { v with got := v.got ++ s.spadUnit t (v.image + 255) } })

/-- A load that has read all of its voice. -/
theorem voiceCycle_read (h : Cycle.At t s y cs bs x) (hv : y.voiceLoad = some v) (hgot : v.got.length = 32 * 256) :
    Cycle.At t s y cs bs (voiceCycle t c x) := by
  have hlen : v.got.length / 32 = 256 := by omega
  unfold voiceCycle
  rw [h.state.tile, hv]
  dsimp only
  rw [hlen, if_pos (.inr (Nat.le_refl 256))]
  exact h

theorem voiceStart_early (h : Cycle.At t s y cs bs x) (hv : y.voiceLoad = some v) (hc : c < v.issue + 256) :
    Cycle.At t s y cs bs (voiceStart t c x) := by
  unfold voiceStart
  rw [h.state.tile, hv]
  dsimp only
  rwa [if_pos hc]

/-- A bad descriptor is met 256 cycles after the issue. -/
theorem voiceStart_bad (h : Cycle.At t s y cs bs x) (hv : y.voiceLoad = some v) (hc : v.issue + 256 ≤ c) {b : Nat}
    (hb : voiceBad v.got = some b) : Cycle.At t s y (cs ++ [cond .voiceInvalid v.pc b]) bs (voiceStart t c x) := by
  unfold voiceStart
  rw [h.state.tile, hv]
  dsimp only
  rw [if_neg (by omega), hb]
  exact h.add _

/-- The tile with the voice that it has loaded, and the load's post to come. -/
def Tile.voiced (y : Tile) (v : VoiceLoad) : Tile :=
  { y with
    voice := some v.got, voiceLoad := none, canaryN := 0, canaryFrom := none
    posts := if v.post ≠ 0 then y.posts ++ [⟨v.post, v.issue + 256, v.pc, false⟩] else y.posts }

/-- A voice whose canary asks for a rate that there is not leaves a note of it in a register (R171). -/
def State.noteCanary (s : State) (t : Nat) (v : VoiceLoad) : State :=
  if voiceCanary v.got > 9 then s.set .TIL_NARROW_STATUS_canary_rate_bad t 1 else s

theorem noteCanary_sameBytes (s : State) (t : Nat) (v : VoiceLoad) : SameBytes s (s.noteCanary t v) := by
  unfold State.noteCanary
  split <;> exact (TileIs.refl t s).sameBytes

/-- A good voice is in force. -/
theorem voiceStart_good (h : Cycle.At t s y cs bs x) (hv : y.voiceLoad = some v) (hc : v.issue + 256 ≤ c)
    (hg : voiceBad v.got = none) : Cycle.At t (s.noteCanary t v) (y.voiced v) cs bs (voiceStart t c x) := by
  have hmod := h.mod (fun y => y.voiced v)
  have hstart : voiceStart t c x = if voiceCanary v.got > 9 then
      { x.mod t (fun y => y.voiced v) with s := (x.mod t (fun y => y.voiced v)).s.set .TIL_NARROW_STATUS_canary_rate_bad t 1 }
      else x.mod t (fun y => y.voiced v) := by
    unfold voiceStart
    rw [h.state.tile, hv]
    dsimp only
    rw [if_neg (by omega), hg]
    rfl
  rw [hstart]
  unfold State.noteCanary
  split
  · exact ⟨hmod.state.set _ _ _, hmod.conds, hmod.banks⟩
  · exact hmod

/-- The beginning of a cycle of a tile that does nothing but load a voice: what `voiceStart` makes of it. -/
theorem Cycle.At.cycleStart_loading (h : Cycle.At t s y cs bs x) (hy : { y with voiceLoad := none }.Idle) (hb : y.block = none)
    (hv : y.voiceLoad ≠ none) {s' : State} {z : Tile} {ds : List Cond}
    (hz : z.seed = none ∧ z.cpend = [] ∧ z.mmaResults = [] ∧ z.vrunResults = [])
    (hstart : ∀ x, Cycle.At t s y cs bs x → Cycle.At t s' z ds bs (voiceStart t c x)) :
    Cycle.At t s' z ds bs (cycleStart t c x) := by
  obtain ⟨hseed, hcpend, hmma, hvrun⟩ := hz
  have hreleased := h.released_none (c := c) hy.push hy.pull hy.mma hy.vrun hb
  have hcore := (hstart _ hreleased).coreStart_of_voice hseed (by rw [hvrun]; exact fun _ hr => absurd hr List.not_mem_nil)
  rw [Tile.ripen_none hcpend hmma hvrun] at hcore
  rwa [cycleStart_eq, startCore, if_neg (by rw [hreleased.gated_loading hv]; decide)]

/-- The clocked units of a tile that does nothing but load a voice. -/
theorem coreCycle_loading {z : Tile} (h : Cycle.At t s y cs bs x) (hy : { y with voiceLoad := none }.Idle) (hv : y.voiceLoad ≠ none)
    {ds : List Nat} (hz : z.mma = none ∧ z.planeLoad = none ∧ z.vrun = none)
    (hvoice : ∀ x, Cycle.At t s y cs bs x → Cycle.At t s z cs ds (voiceCycle t c x)) :
    Cycle.At t s z cs ds (coreCycle t c (pushStage t c x)) := by
  obtain ⟨hm, hp, hr⟩ := hz
  have hpush := h.pushStage_none (c := c) hy.push
  unfold coreCycle
  rw [if_neg (by rw [hpush.gated_loading hv]; decide)]
  exact (((hvoice _ hpush).mmaCycle_none hm).planeCycle_none hp).vrunCycle_none hr

end

section
variable {t : Nat} {s u : State} {y : Tile} {v : VoiceLoad}

/-- The cycle in which the last unit of a voice is read. -/
theorem tileCycle_voiceReads (h : TileIs t s y u) (hy : { y with voiceLoad := none }.Idle) (hb : y.block = none) (hs : y.sets = [])
    (hc : y.clears = []) (hp : y.posts = []) (hv : y.voiceLoad = some v) (hgot : v.got.length = 32 * 255) (hn : v.issue + 255 = y.now)
    (ht : y.tests = (s.tile t).tests) (herr : s.spadErr.find? (2 ^ 15 * t + (v.image + 255)) = none) :
    TileIs t s (Tile.ended { y with voiceLoad := some { v with got := v.got ++ s.spadUnit t (v.image + 255) } } y.now s.nextMeasureBeat)
      (tileCycle u t []) := by
  have hsome : y.voiceLoad ≠ none := by rw [hv]; exact Option.some_ne_none v
  have hno : ∀ p ∈ y.posts, y.now < p.cycle := by rw [hp]; exact fun _ hm => absurd hm List.not_mem_nil
  have hstart := (Cycle.At.begin h hy.claim []).cycleStart_loading (c := y.now) (z := y) hy hb hsome
    ⟨hy.seed, hy.cpend, hy.mmaResults, hy.vrunResults⟩ (fun _ hx => voiceStart_early hx hv (by omega))
  have hcore := coreCycle_loading
    (z := { y with voiceLoad := some { v with got := v.got ++ s.spadUnit t (v.image + 255) } }) hstart hy hsome
    ⟨hy.mma, hy.planeLoad, hy.vrun⟩ (fun _ hx => voiceCycle_reads hx hv hgot hn ht herr)
  exact tileCycle_none (by rw [h.tile]) (hcore.unitsCycle_settled hy.bwrites hy.landing hy.pull hy.tests hno hs hc)

/-- The cycle in which a good voice is in force. -/
theorem tileCycle_voiceGood (h : TileIs t s y u) (hy : { y with voiceLoad := none }.Idle) (hb : y.block = none) (hs : y.sets = [])
    (hc : y.clears = []) (hp : y.posts = []) (hv : y.voiceLoad = some v) (hn : v.issue + 256 = y.now) (hpost : v.post ≠ 0)
    (hboard : bit y.board v.post = false) (hg : voiceBad v.got = none) :
    TileIs t (s.noteCanary t v) (Tile.ended { y.voiced v with posts := [], board := y.board + 2 ^ v.post } y.now
      (s.noteCanary t v).nextMeasureBeat) (tileCycle u t []) := by
  have hsome : y.voiceLoad ≠ none := by rw [hv]; exact Option.some_ne_none v
  have hposts : (y.voiced v).posts = [⟨v.post, v.issue + 256, v.pc, false⟩] := by
    unfold Tile.voiced
    rw [if_pos hpost, hp]
    rfl
  have hidle : (y.voiced v).Idle := { hy with }
  have hstart := (Cycle.At.begin h hy.claim []).cycleStart_loading (c := y.now) (z := y.voiced v) hy hb hsome
    ⟨hidle.seed, hidle.cpend, hidle.mmaResults, hidle.vrunResults⟩ (fun _ hx => voiceStart_good hx hv (by omega) hg)
  have hunits := hstart.unitsCycle_post (c := y.now) hidle hposts (.inl rfl) hn.le hpost hboard hs
  rw [settleFlags_none (y := { y.voiced v with posts := [], board := (y.voiced v).board + 2 ^ v.post }) hs hc] at hunits
  exact tileCycle_none (by rw [h.tile]) hunits

/-- The cycle in which a bad descriptor halts the tile. -/
theorem tileCycle_voiceBad (h : TileIs t s y u) (hy : { y with voiceLoad := none }.Idle) (hb : y.block = none) (hs : y.sets = [])
    (hc : y.clears = []) (hp : y.posts = []) (hv : y.voiceLoad = some v) (hgot : v.got.length = 32 * 256) (hn : v.issue + 256 = y.now)
    (hh : y.halted = false) {b : Nat} (hbad : voiceBad v.got = some b) :
    Halts t s (y.ended y.now s.nextMeasureBeat) (cond .voiceInvalid v.pc b) (tileCycle u t []) := by
  have hsome : y.voiceLoad ≠ none := by rw [hv]; exact Option.some_ne_none v
  have hno : ∀ p ∈ y.posts, y.now < p.cycle := by rw [hp]; exact fun _ hm => absurd hm List.not_mem_nil
  have hstart := (Cycle.At.begin h hy.claim []).cycleStart_loading (c := y.now) (z := y) hy hb hsome
    ⟨hy.seed, hy.cpend, hy.mmaResults, hy.vrunResults⟩ (fun _ hx => voiceStart_bad hx hv (by omega) hbad)
  have hcore := coreCycle_loading (c := y.now) (z := y) hstart hy hsome ⟨hy.mma, hy.planeLoad, hy.vrun⟩ (fun _ hx => voiceCycle_read hx hv hgot)
  obtain ⟨w, hw, heq⟩ := tileCycle_some (by rw [h.tile]) (hcore.unitsCycle_settled hy.bwrites hy.landing hy.pull hy.tests hno hs hc) rfl
  rw [heq]
  exact hw.halts hh hy.vrun hy.vrunResults _

end

theorem spadUnit_length {s : State} {t n : Nat} (ht : (s.tile t).tests = []) : (s.spadUnit t n).length = 32 := by
  unfold State.spadUnit State.testOn
  rw [ht]
  exact Memory.readBytes_length ..

/-- What is left of a tile that a clocked unit alone keeps busy (`UnitsComplete`'s premise). -/
theorem idle_of_unit {x : Tile}
    (h : { x with voiceLoad := none, planeLoad := none, mmaResults := [], vrunResults := [], posts := [] }.quiet = true) :
    { x with voiceLoad := none, planeLoad := none, mmaResults := [], vrunResults := [] }.Idle ∧ x.sets = [] ∧ x.clears = []
      ∧ x.block = none := by
  obtain ⟨hidle, -, hsets, hclears, hblock, -⟩ := (quiet_iff _).1 h
  exact ⟨{ hidle with }, hsets, hclears, hblock⟩

theorem quiet_busy {x : Tile} (h : ¬ x.Idle) : x.quiet = false := by
  rw [← Bool.not_eq_true]
  exact fun hq => h ((quiet_iff x).1 hq).1

/-- An idle tile whose one post is due: the post is on the board. -/
theorem tileCycle_posts {t : Nat} {s u : State} {y : Tile} {p : Post} (h : TileIs t s y u) (hy : y.Idle) (hb : y.block = none)
    (hcore : p.core = false ∨ y.finished = false) (hs : y.sets = []) (hp : y.posts = [p]) (hdue : p.cycle ≤ y.now) (hpost : p.token ≠ 0)
    (hboard : bit y.board p.token = false) :
    TileIs t s (Tile.ended (Tile.settleFlags { y with posts := [], board := y.board + 2 ^ p.token }) y.now s.nextMeasureBeat)
      (tileCycle u t []) := by
  have hstart := (Cycle.At.begin h hy.claim []).cycleStart_still (c := y.now) hy hb
  exact tileCycle_none (by rw [h.tile]) (hstart.unitsCycle_post (c := y.now) hy hp (hcore.imp_right (hstart.gated · hb)) hdue hpost hboard hs)

/-- What the statement asks of a tile at the end of its unit's work: the post is on the board, and the next cycle is to come. -/
structure Tile.Posted (x : Tile) (post e : Nat) (y : Tile) : Prop where
  board : y.board = x.board + 2 ^ post
  posts : y.posts = []
  now : y.now = e + 1
  halted : y.halted = false

section
variable {t : TileIx} {e post : Nat} {s : State}

/-- The cycle of a tile whose results are all due, with one post. -/
theorem results_complete {p : Post} (hn : s.nowOf t = e)
    (hy : { s.tile t with mmaResults := [], vrunResults := [] }.Idle) (hm : ∀ r ∈ (s.tile t).mmaResults, r.cycle ≤ e)
    (hv : ∀ r ∈ (s.tile t).vrunResults, r.cycle ≤ e ∧ r.spadW = []) (hb : (s.tile t).block = none) (hf : (s.tile t).finished = false)
    (hs : (s.tile t).sets = []) (hc : (s.tile t).clears = []) (hh : (s.tile t).halted = false) (hp : (s.tile t).posts = [p])
    (hdue : p.cycle = e) (hpost : p.token ≠ 0) (hboard : bit (s.tile t).board p.token = false) :
    ∃ z, TileIs t s z (tileCycle (s.begin.runTo t e) t []) ∧ (s.tile t).Posted p.token e z ∧ z.mmaResults = [] ∧ z.vrunResults = []
      ∧ z.acc = ((s.tile t).ripen e).acc := by
  have hidle : ({ s.tile t with now := e }.ripen e).Idle := Tile.Idle.ripens { hy with } hm (fun r hr => (hv r hr).1)
  have hend := tileCycle_ripens (runTo_here hn) hidle (fun r hr => (hv r hr).2) hb hf hs hc hp hdue.le hpost hboard
  exact ⟨_, hend, ⟨rfl, rfl, rfl, hh⟩, hidle.mmaResults, hidle.vrunResults, rfl⟩

/-- The two cycles in which a plane ends and its post applies. -/
theorem plane_complete {p : PlaneLoad} {q : Post} (hn : s.nowOf t + 1 = e) (hy : { s.tile t with planeLoad := none }.Idle)
    (hp : (s.tile t).planeLoad = some p) (hgot : p.got.length = p.units.length) (hnext : p.next = e) (hb : (s.tile t).block = none)
    (hf : (s.tile t).finished = false) (hs : (s.tile t).sets = []) (hc : (s.tile t).clears = []) (hh : (s.tile t).halted = false)
    (hq : (s.tile t).posts = [q]) (hdue : q.cycle = e) (hpost : q.token ≠ 0) (hboard : bit (s.tile t).board q.token = false) :
    ∃ y z, TileIs t s y (s.begin.runTo t e) ∧ y.planeLoad = none ∧ y.halted = false
      ∧ TileIs t s z (tileCycle (s.begin.runTo t e) t []) ∧ (s.tile t).Posted q.token e z ∧ z.planeLoad = none
      ∧ z.planes = (s.tile t).planes := by
  have hbusy : (s.tile t).quiet = false := quiet_busy (fun hi => by rw [hi.planeLoad] at hp; cases hp)
  obtain ⟨w, hw, hrun⟩ := runTo_next hn hbusy
  have hlater : ∀ r ∈ (s.tile t).posts, s.nowOf t < r.cycle := by
    rw [hq]
    intro r hm
    rw [List.mem_singleton.1 hm]
    omega
  have hended := tileCycle_planeEnds hw { hy with } hb hf hs hc hlater hp hgot (by dsimp only; omega)
  rw [← hrun] at hended
  have hidle : (Tile.ended { s.tile t with planeLoad := none, now := s.nowOf t } (s.nowOf t) s.nextMeasureBeat).Idle :=
    { hy with claim := rfl }
  have hend := tileCycle_posts hended hidle hb (.inr hf) hs hq (hdue.trans hn.symm).le hpost hboard
  exact ⟨_, _, hended, rfl, hh, hend, ⟨rfl, rfl, congrArg (· + 1) hn, hh⟩, rfl, rfl⟩

/-- The cycle in which the last unit of a voice is read. -/
theorem voice_read {v : VoiceLoad} (hn : s.nowOf t + 1 = e) (hy : { s.tile t with voiceLoad := none }.Idle)
    (hv : (s.tile t).voiceLoad = some v) (hissue : v.issue + 256 = e) (hgot : v.got.length = 32 * 255) (hb : (s.tile t).block = none)
    (hs : (s.tile t).sets = []) (hc : (s.tile t).clears = []) (hp : (s.tile t).posts = [])
    (herr : s.spadErr.find? (2 ^ 15 * t + (v.image + 255)) = none) :
    ∃ y, TileIs t s y (s.begin.runTo t e) ∧ { y with voiceLoad := none }.Idle ∧ y.block = none ∧ y.sets = [] ∧ y.clears = []
      ∧ y.posts = [] ∧ y.voiceLoad = some { v with got := v.got ++ s.spadUnit t (v.image + 255) } ∧ y.now = e
      ∧ y.board = (s.tile t).board ∧ y.halted = (s.tile t).halted ∧ y.voice = (s.tile t).voice := by
  have hbusy : (s.tile t).quiet = false := quiet_busy (fun hi => by rw [hi.voiceLoad] at hv; cases hv)
  obtain ⟨w, hw, hrun⟩ := runTo_next hn hbusy
  have hread := tileCycle_voiceReads hw { hy with } hb hs hc hp hv hgot (by dsimp only; omega) rfl herr
  rw [← hrun] at hread
  exact ⟨_, hread, { hy with claim := rfl }, hb, hs, hc, hp, rfl, hn, rfl, rfl, rfl⟩

end

/-! ### The completions' commands -/

section
variable {t : TileIx} {e : Nat} {s : State}

theorem exec_voiceLoadComplete {v : VoiceLoad} (he : s.tileEvent t e = true) (hv : ((s.begin.runTo t e).tile t).voiceLoad = some v)
    (hc : v.issue + 256 ≤ e) : exec (.voiceLoadComplete t e) s = .next (tileCycle (s.begin.runTo t e) t []) := by
  show execVoiceLoadComplete t e s = _
  unfold execVoiceLoadComplete
  refine cycleEvent_due he ?_
  rw [hv]
  exact decide_eq_true hc

theorem exec_mmaPlaneComplete (he : s.tileEvent t e = true) (hload : (s.tile t).planeLoad ≠ none)
    (hp : ((s.begin.runTo t e).tile t).planeLoad = none) (hh : ((s.begin.runTo t e).tile t).halted = false) :
    exec (.mmaPlaneComplete t e) s = .next (tileCycle (s.begin.runTo t e) t []) := by
  show execMmaPlaneComplete t e s = _
  unfold execMmaPlaneComplete
  refine cycleEvent_due he ?_
  rw [hp, hh, Option.isSome_iff_ne_none.2 hload]
  rfl

theorem exec_mmaComplete {r : MmaResult} (he : s.tileEvent t e = true) (hr : ((s.begin.runTo t e).tile t).mmaResults = [r])
    (hc : r.cycle = e) : exec (.mmaComplete t e) s = .next (tileCycle (s.begin.runTo t e) t []) := by
  show execMmaComplete t e s = _
  unfold execMmaComplete
  refine cycleEvent_due he ?_
  rw [hr, List.any_cons, hc, beq_self_eq_true, Bool.true_or]

theorem exec_vrunComplete {r : VrunResult} (he : s.tileEvent t e = true) (hr : ((s.begin.runTo t e).tile t).vrunResults = [r])
    (hc : r.cycle = e) : exec (.vrunComplete t e) s = .next (tileCycle (s.begin.runTo t e) t []) := by
  show execVrunComplete t e s = _
  unfold execVrunComplete
  refine cycleEvent_due he ?_
  rw [hr, List.any_cons, hc, beq_self_eq_true, Bool.true_or]

end

/-- Settles O43: each unit's last cycle, and for a voice and a plane the one before, on a tile whose other units are idle. -/
theorem unitsComplete : Obligations.UnitsComplete := by
  unfold Obligations.UnitsComplete
  intro t e post s x hx he hh hq hpost hboard done hdone
  subst hx
  obtain ⟨hy, hsets, hclears, hblock⟩ := idle_of_unit hq
  have hnone {α : Type} {P : α → Prop} {l : List α} (hl : l = []) : ∀ a ∈ l, P a := by rw [hl]; exact fun _ hm => absurd hm List.not_mem_nil
  have hdone_of {s' u : State} {z : Tile} (hu : TileIs t s' z u) (hbytes : SameBytes s s') (hz : (s.tile t).Posted post e z) : done u :=
    (hdone u).2 ⟨by rw [hu.tile, hz.board], by rw [hu.tile, hz.posts], by rw [hu.tile, hz.now], by rw [hu.tile, hz.halted],
      hbytes.trans hu.sameBytes⟩
  refine ⟨fun v hv hplane hmma hvrun hposts hn hissue hgot hvpost herr => ?_,
    fun p hp hv hmma hvrun hposts hfin hn hnext hgot => ?_, fun r hr hv hplane hvrun hposts hfin hn hcycle => ?_,
    fun r hr hv hplane hmma hposts hfin hn hcycle hw => ?_⟩
  · obtain ⟨y, hread, hyidle, hyblock, hysets, hyclears, hyposts, hyload, hynow, hyboard, hyhalted, hyvoice⟩ := voice_read hn
      { hy with planeLoad := hplane, mmaResults := hmma, vrunResults := hvrun } hv hissue hgot hblock hsets hclears hposts herr
    have htests : (s.tile t).tests = [] := hy.tests
    have hlen : (v.got ++ s.spadUnit t (v.image + 255)).length = 32 * 256 := by
      rw [List.length_append, hgot, spadUnit_length htests]
    have hrun := exec_voiceLoadComplete he ((congrArg Tile.voiceLoad hread.tile).trans hyload) hissue.le
    refine ⟨fun hgood => ?_, fun b hbad => ?_⟩
    · have hend := tileCycle_voiceGood hread hyidle hyblock hysets hyclears hyposts hyload (hissue.trans hynow.symm) (hvpost ▸ hpost)
        (by rw [hyboard, hvpost]; exact hboard) hgood
      refine ⟨_, hrun, hdone_of hend (noteCanary_sameBytes _ _ _) ⟨?_, rfl, congrArg (· + 1) hynow, hyhalted.trans hh⟩, ?_, ?_⟩
      · exact congrArg₂ (fun b p => b + 2 ^ p) hyboard hvpost
      · rw [hend.tile]; rfl
      · rw [hend.tile]; rfl
    · have hend := tileCycle_voiceBad hread hyidle hyblock hysets hyclears hyposts hyload hlen (hissue.trans hynow.symm)
        (hyhalted.trans hh) hbad
      refine ⟨_, hrun, haltedWith_cond hend.record 0, ?_⟩
      rw [hend.tile]
      exact hyvoice
  · obtain ⟨y, z, hrun, hload, hhalted, hend, hz, hzload, hzplanes⟩ := plane_complete hn
      { hy with voiceLoad := hv, mmaResults := hmma, vrunResults := hvrun } hp hgot hnext hblock hfin hsets hclears hh hposts rfl hpost hboard
    exact ⟨_, exec_mmaPlaneComplete he (by rw [hp]; exact Option.some_ne_none p) (by rw [hrun.tile, hload]) (by rw [hrun.tile, hhalted]),
      hdone_of hend (TileIs.refl t s).sameBytes hz, by rw [hend.tile, hzload], by rw [hend.tile, hzplanes]⟩
  · obtain ⟨z, hend, hz, hzmma, -, hzacc⟩ := results_complete hn { hy with voiceLoad := hv, planeLoad := hplane }
      (by rw [hr]; exact fun q hm => by rw [List.mem_singleton.1 hm, hcycle]) (hnone hvrun) hblock hfin hsets hclears hh hposts rfl hpost
      hboard
    refine ⟨_, exec_mmaComplete he (by rw [(runTo_here hn).tile, hr]) hcycle, hdone_of hend (TileIs.refl t s).sameBytes hz,
      by rw [hend.tile, hzmma], ?_⟩
    · rw [hend.tile, hzacc, Tile.ripen, hvrun]
      rfl
  · obtain ⟨z, hend, hz, -, hzvrun, hzacc⟩ := results_complete hn { hy with voiceLoad := hv, planeLoad := hplane } (hnone hmma)
      (by rw [hr]; exact fun q hm => by rw [List.mem_singleton.1 hm, hcycle]; exact ⟨le_rfl, hw⟩) hblock hfin hsets hclears hh hposts rfl
      hpost hboard
    refine ⟨_, exec_vrunComplete he (by rw [(runTo_here hn).tile, hr]) hcycle, hdone_of hend (TileIs.refl t s).sameBytes hz,
      by rw [hend.tile, hzvrun], ?_⟩
    · rw [hend.tile, hzacc, Tile.ripen, hr]
      dsimp only
      rw [List.filter_cons_of_pos (by rw [hcycle]; exact decide_eq_true le_rfl)]
      rfl

end Sys2Proof.Machine

namespace Sys2Proof.Machine

/-! ### Out queues moving on (R126, R129) -/

/-- The state without its tiles and without the die network's paths. -/
def State.pathless (s : State) : State := { s with tiles := [], dn := [], dnSeq := 0, dnWait := [] }

/-- `u` is `s` but for out queues and the paths of the die network. -/
structure OutMoves (s u : State) : Prop where
  rest : u.pathless = s.pathless
  rx : ∀ k, (u.tile k).rx = (s.tile k).rx

namespace OutMoves
variable {s u w : State}

theorem refl (s : State) : OutMoves s s := ⟨rfl, fun _ => rfl⟩

theorem trans (h : OutMoves s u) (h' : OutMoves u w) : OutMoves s w := ⟨h'.rest.trans h.rest, fun k => (h'.rx k).trans (h.rx k)⟩

theorem part {α : Type} (h : OutMoves s u) (f : State → α) (hf : ∀ x, f x.pathless = f x := by exact fun _ => rfl) : f u = f s := by
  rw [← hf u, h.rest, hf s]

theorem sameBytes (h : OutMoves s u) : SameBytes s u := by
  intro a
  rw [h.part State.spad, h.part State.tier1, h.part State.tier2, h.part State.mgmt]
  exact ⟨rfl, rfl, rfl, rfl, rfl⟩

theorem setOut (s : State) (t q : Nat) (o : Tile → OutQueue) : OutMoves s (s.modTile t (fun x => x.setOut q (o x))) where
  rest := rfl
  rx k := by
    by_cases hk : k = t
    · rw [hk, tile_modTile_same]
      rfl
    · rw [tile_modTile_other s _ hk]

theorem setDn (s : State) (dn : Table (List DnItem)) (n : Nat) (w : Table (List Nat)) :
    OutMoves s { s with dn := dn, dnSeq := n, dnWait := w } := ⟨rfl, fun _ => rfl⟩

theorem dnAdvance (s : State) (src : Nat) (l : List Item) : OutMoves s (s.dnAdvance src l).2 := by
  induction l generalizing s with
  | nil => exact refl s
  | cons i rest ih =>
    unfold State.dnAdvance
    split
    · exact refl s
    · split
      · dsimp only
        split
        · exact refl s
        · exact setDn s _ _ _
      · exact (setDn s _ _ _).trans (ih _)

theorem moveOut (s : State) (t q : Nat) : OutMoves s (s.moveOut t q) := by
  unfold State.moveOut
  dsimp only
  split
  · exact setOut s t q _
  · split
    · exact ((setOut s t q _).trans (dnAdvance _ _ _)).trans (setOut _ t q _)
    · exact (((((setOut s t q _).trans (dnAdvance _ _ _)).trans (setOut _ t q _)).trans (setOut _ t q _)).trans (dnAdvance _ _ _)).trans
        (setOut _ t q _)

theorem dnWake (s : State) (k : Nat) : OutMoves s (s.dnWake k) := by
  unfold State.dnWake
  split
  · exact refl s
  · split
    · exact (setDn s _ _ _).trans (moveOut _ _ _)
    · exact refl s

end OutMoves

/-- Nothing waits for room on the path: nothing moves. -/
theorem dnWake_none {s : State} {k : Nat} (h : Table.get [] s.dnWait k = []) : s.dnWake k = s := by
  unfold State.dnWake
  rw [h]

/-- An out queue towards a neighbour moves on. -/
theorem moveOut_near (s : State) (t : Nat) {q : Nat} (h : q < 4) : s.moveOut t q = s.modTile t (fun x => x.setOut q
    (if (s.tile t).halted then (s.tile t).outQ q else settle (s.midRoom t q) ((s.tile t).outQ q).stage ((s.tile t).outQ q).mid)) := by
  unfold State.moveOut
  exact if_pos h

theorem moveOut_near_dn (s : State) (t : Nat) {q : Nat} (h : q < 4) : (s.moveOut t q).dn = s.dn := by
  rw [moveOut_near s t h]
  rfl

theorem outQ_setOut (x : Tile) (q : Nat) (o : OutQueue) : (x.setOut q o).outQ q = o := Table.get_set_same ..

/-- Where no word is staged, the path stays as it is. -/
theorem moveOut_near_unstaged {s : State} {t q : Nat} (h : q < 4) (hs : ((s.tile t).outQ q).stage = []) :
    (((s.moveOut t q).tile t).outQ q) = (s.tile t).outQ q := by
  rw [moveOut_near s t h, tile_modTile_same, outQ_setOut, hs]
  split
  · rfl
  · rcases ho : (s.tile t).outQ q with ⟨st, m⟩
    rw [ho] at hs
    cases hs
    rfl

theorem opposite_lt (q : Nat) : opposite q < 4 := by
  unfold opposite
  split <;> decide

/-! ### A word that arrives -/

section
variable {s : State} {t q n : Nat} {b : List Byte} {g : Nat} {d : Dest}

/-- The next word of a neighbour's path. -/
theorem arriving_near (hq : q < 4) {l : List Item} (hn : s.neighbour t q = some n)
    (ht : takeItem Item.isWord ((s.tile n).outQ (opposite q)).mid = some (.word b g d, l)) : s.arriving t q
      = some (⟨b, g⟩, (s.modTile n (fun x => x.setOut (opposite q) ⟨((s.tile n).outQ (opposite q)).stage, l⟩)).moveOut n (opposite q)) := by
  unfold State.arriving
  rw [if_pos hq, hn]
  dsimp only
  rw [ht]

/-- The next word of a path of the die network. -/
theorem arriving_far (hq : 4 ≤ q) {src k : Nat} {l : List DnItem}
    (ht : takeItem (fun (i : DnItem) => i.item.isWord) (Table.get [] s.dn (2 * t + (q - 4))) = some (⟨src, k, .word b g d⟩, l)) :
    s.arriving t q = some (⟨b, g⟩, ({ s with dn := Table.set [] s.dn (2 * t + (q - 4)) l }).dnWake (2 * t + (q - 4))) := by
  unfold State.arriving
  rw [if_neg (by omega)]
  dsimp only
  rw [ht]

/-- A word enters the receive buffer of a state that differs in out queues alone. -/
theorem receive {v u : State} (h : OutMoves v u) (w : RxWord) :
    ((u.modTile t (fun x => x.setRx q (x.rxQ q ++ [w]))).tile t).rxQ q = (v.tile t).rxQ q ++ [w]
      ∧ SameBytes v (u.modTile t (fun x => x.setRx q (x.rxQ q ++ [w])))
      ∧ (u.modTile t (fun x => x.setRx q (x.rxQ q ++ [w]))).regs = v.regs := by
  have hsame := (TileIs.refl t u).modTile (fun x => x.setRx q (x.rxQ q ++ [w]))
  refine ⟨?_, h.sameBytes.trans hsame.sameBytes, (hsame.part State.regs).trans (h.part State.regs)⟩
  rw [hsame.tile]
  unfold Tile.rxQ Tile.setRx
  rw [h.rx t]
  exact Table.get_set_same ..

theorem outQ_setRx (u : State) (w : List RxWord) (k p : Nat) :
    (((u.modTile t (fun x => x.setRx q (x.rxQ q ++ w))).tile k).outQ p) = (u.tile k).outQ p := by
  by_cases hk : k = t
  · rw [hk, tile_modTile_same]
    rfl
  · rw [tile_modTile_other u _ hk]

end

section
variable {s v : State} {t : TileIx} {q : Fin 6} {e : Nat}

theorem exec_queueWordArrival_full (he : s.tileEvent t e = true) (hp : s.pathClocked t q = true) (hv : v = s.entered t e)
    (hfull : 16 ≤ ((v.tile t).rxQ q).length) : exec (.queueWordArrival t q e) s = .next v := by
  subst hv
  have hb : (!s.begin.tileEvent t e || !s.begin.pathClocked t q) = false := by
    rw [show s.begin.tileEvent t e = true from he, show s.begin.pathClocked t q = true from hp]
    rfl
  show execQueueWordArrival t q e s = _
  unfold execQueueWordArrival
  dsimp only
  rw [hb, if_neg (by decide)]
  exact if_pos hfull

theorem exec_queueWordArrival (he : s.tileEvent t e = true) (hp : s.pathClocked t q = true) (hv : v = s.entered t e)
    (hroom : ((v.tile t).rxQ q).length < 16) {w : RxWord} {u : State} (hw : v.arriving t q = some (w, u)) :
    exec (.queueWordArrival t q e) s = .next (u.modTile t (fun x => x.setRx q (x.rxQ q ++ [w]))) := by
  subst hv
  have hb : (!s.begin.tileEvent t e || !s.begin.pathClocked t q) = false := by
    rw [show s.begin.tileEvent t e = true from he, show s.begin.pathClocked t q = true from hp]
    rfl
  show execQueueWordArrival t q e s = _
  unfold execQueueWordArrival
  dsimp only
  rw [hb, if_neg (by decide)]
  refine (if_neg (Nat.not_le.2 hroom)).trans ?_
  rw [show (s.begin.enterCycle t e).arriving t q = some (w, u) from hw]

end

end Sys2Proof.Machine

namespace Sys2Proof.Machine

/-! ### Stalls past their bounds (R127, R194) -/

section
variable {t : Nat} {s u : State} {y : Tile}

theorem TileIs.rxQ (h : TileIs t s y u) (hr : y.rx = (s.tile t).rx) (k q : Nat) : (u.tile k).rxQ q = (s.tile k).rxQ q := by
  unfold Tile.rxQ
  by_cases hk : k = t
  · rw [hk, h.tile, hr]
  · rw [h.others k hk]

theorem TileIs.outQ (h : TileIs t s y u) (ho : y.out = (s.tile t).out) (k q : Nat) : (u.tile k).outQ q = (s.tile k).outQ q := by
  unfold Tile.outQ
  by_cases hk : k = t
  · rw [hk, h.tile, ho]
  · rw [h.others k hk]

/-- Is a path full? That depends on out queues, receive buffers and the place of the tile alone. -/
theorem TileIs.pathFull (h : TileIs t s y u) (ho : y.out = (s.tile t).out) (hr : y.rx = (s.tile t).rx) (q : Nat) :
    u.pathFull t q = s.pathFull t q := by
  unfold State.pathFull
  dsimp only
  rw [h.outQ ho, h.part (fun x => x.neighbour t q), h.part (fun x => x.midRoom t q)]
  split
  · rfl
  · split
    · rfl
    · rw [h.rxQ hr]

/-- Bounds expire by the units' stalls and the beats counted alone. -/
theorem TileIs.expiredQueues (h : TileIs t s y u) (hpush : y.push = (s.tile t).push) (hpull : y.pull = (s.tile t).pull)
    (hm : y.mma = (s.tile t).mma) (hr : y.vrun = (s.tile t).vrun) (hv : y.voice = (s.tile t).voice) :
    u.expiredQueues t = s.expiredQueues t := by
  unfold State.expiredQueues State.expired
  dsimp only
  rw [h.tile, h.part State.time, hpush, hpull, hm, hr, hv]

/-- The one PUSH of a tile has outlasted its bound. -/
theorem expiredQueues_push {p : PushOp} {b : Stall} (hy : s.tile t = y) (hpush : y.push = [p]) (hpull : y.pull = []) (hm : y.mma = none)
    (hr : y.vrun = none) (hs : p.stall = some b) (hb : b.counted + p.bound ≤ s.time.counted) :
    s.expiredQueues t = [cond .queueWaitBound p.pc (p.q + 2 ^ 16 * p.bound)] := by
  unfold State.expiredQueues State.expired
  dsimp only
  rw [hy, hpush, hpull, hm, hr, List.flatMap_cons, hs]
  dsimp only
  rw [decide_eq_true hb]
  rfl

/-- The one PULL of a tile has outlasted its bound. -/
theorem expiredQueues_pull {p : PullOp} {b : Stall} (hy : s.tile t = y) (hpush : y.push = []) (hpull : y.pull = [p]) (hm : y.mma = none)
    (hr : y.vrun = none) (hs : p.stall = some b) (hb : b.counted + p.bound ≤ s.time.counted) :
    s.expiredQueues t = [cond .queueWaitBound p.pc (p.q + 8 + 2 ^ 16 * p.bound)] := by
  unfold State.expiredQueues State.expired
  dsimp only
  rw [hy, hpush, hpull, hm, hr, List.flatMap_cons, hs]
  dsimp only
  rw [decide_eq_true hb]
  rfl

end

namespace Cycle.At
variable {t c : Nat} {s : State} {y : Tile} {cs : List Cond} {bs : List Nat} {x : Cycle}

/-- A PUSH whose path is full stays as it is. -/
theorem pushStage_full {p : PushOp} {b : Stall} (h : At t s y cs bs x) (hp : y.push = [p]) (hb : p.stall = some b) (hu : p.units ≠ [])
    (hn : p.next ≤ c) (hfull : x.s.pathFull t p.q = true) : At t s y cs bs (pushStage t c x) := by
  have hstay : pushCycle t c x p = (x, some p) := by
    unfold pushCycle
    obtain ⟨u, us, hus⟩ := List.exists_cons_of_ne_nil hu
    rw [hus]
    dsimp only
    rw [if_neg (Nat.not_lt.2 hn), if_pos hfull, hb]
    obtain ⟨q, units, next, dest, bound, post, pc, stall⟩ := p
    cases hb
    cases hus
    rfl
  unfold pushStage
  rw [h.state.tile, hp]
  unfold runOps
  dsimp only
  rw [hstay]
  exact h.mod_same (congrArg (fun l => { y with push := l }) hp.symm)

/-- A PULL whose receive buffer is empty takes nothing. -/
theorem pullStage_empty {p : PullOp} (h : At t s y cs bs x) (hp : y.pull = [p]) (he : y.rxQ p.q = []) :
    ∃ l, At t s { y with pull := l } cs bs (pullStage t c x) := by
  have hstay : ∃ o, pullCycle t c x p = (x, o) := by
    unfold pullCycle
    split
    · exact ⟨_, rfl⟩
    · split
      · exact ⟨_, rfl⟩
      · have htake : x.take t p.q = none := by
          unfold Cycle.take
          rw [h.state.tile, he]
        rw [htake]
        exact ⟨_, rfl⟩
  obtain ⟨o, ho⟩ := hstay
  refine ⟨o.toList ++ [], ?_⟩
  unfold pullStage
  rw [h.state.tile, hp]
  unfold runOps
  dsimp only
  rw [ho]
  exact h.mod (fun y => { y with pull := o.toList ++ [] })

/-- The beginning of a cycle in which a bound has expired, of a tile whose clocked units are idle. -/
theorem cycleStart_expired (h : At t s y cs bs x) (hy : y.CoreIdle) (hb : y.block = none) {fs : List Cond}
    (hf : x.s.expiredQueues t = fs) : At t s y (cs ++ fs) bs (cycleStart t c x) := by
  have hblock : (x.s.tile t).block = none := by rw [h.state.tile, hb]
  have hrel : TileIs t s y (x.s.releaseAt t c) := by
    rw [releaseAt_none hblock]
    exact h.state
  rw [cycleStart_eq]
  refine (h.released ?_ hrel).startCore_idle hy
  rw [expiredFlag_none hblock, List.append_nil, hf]

end Cycle.At

section
variable {t : Nat} {s u : State} {y : Tile}

/-- The cycle in which a stalled PUSH, alone on its tile, has outlasted its bound. -/
theorem tileCycle_pushBound {p : PushOp} {b : Stall} (h : TileIs t s y u) (hq : { y with push := [] }.quiet = true) (hp : y.push = [p])
    (hb : p.stall = some b) (hbound : b.counted + p.bound ≤ s.time.counted) (hh : y.halted = false) (hu : p.units ≠ [])
    (hn : p.next ≤ y.now) (hfull : ∀ w, TileIs t s y w → w.pathFull t p.q = true) :
    ∃ z, Halts t s z (cond .queueWaitBound p.pc (p.q + 2 ^ 16 * p.bound)) (tileCycle u t []) := by
  obtain ⟨hy, hposts, hsets, hclears, hblock, -⟩ := (quiet_iff _).1 hq
  have hcore : y.CoreIdle := { hy.toCoreIdle with }
  have hnone : ∀ q, q ∉ y.posts := fun q => by rw [show y.posts = [] from hposts]; exact List.not_mem_nil
  have hbegin := Cycle.At.begin h hy.claim []
  have hexp := expiredQueues_push hbegin.state.tile hp hy.pull hy.mma hy.vrun hb (by rw [hbegin.state.part State.time]; exact hbound)
  have hstart := hbegin.cycleStart_expired (c := y.now) hcore hblock hexp
  have hpush := hstart.pushStage_full (c := y.now) hp hb hu hn (hfull _ hstart.state)
  have hclocked := hpush.coreCycle_idle (c := y.now) hcore (fun q hm => absurd hm (hnone q))
  have hunits := hclocked.unitsCycle_settled hy.bwrites hy.landing hy.pull hy.tests (fun q hm => absurd hm (hnone q)) hsets hclears
  obtain ⟨w, hw, heq⟩ := tileCycle_some (by rw [h.tile]) hunits rfl
  rw [heq]
  exact ⟨_, hw.halts hh hy.vrun hy.vrunResults _⟩

/-- The cycle in which a stalled PULL, alone on its tile, has outlasted its bound. -/
theorem tileCycle_pullBound {p : PullOp} {b : Stall} (h : TileIs t s y u) (hq : { y with pull := [] }.quiet = true) (hp : y.pull = [p])
    (hb : p.stall = some b) (hbound : b.counted + p.bound ≤ s.time.counted) (hh : y.halted = false) (he : y.rxQ p.q = []) :
    ∃ z, Halts t s z (cond .queueWaitBound p.pc (p.q + 8 + 2 ^ 16 * p.bound)) (tileCycle u t []) := by
  obtain ⟨hy, hposts, hsets, hclears, hblock, -⟩ := (quiet_iff _).1 hq
  have hcore : y.CoreIdle := { hy.toCoreIdle with }
  have hnone : ∀ q, q ∉ y.posts := fun q => by rw [show y.posts = [] from hposts]; exact List.not_mem_nil
  have hbegin := Cycle.At.begin h hy.claim []
  have hexp := expiredQueues_pull hbegin.state.tile hy.push hp hy.mma hy.vrun hb (by rw [hbegin.state.part State.time]; exact hbound)
  have hstart := hbegin.cycleStart_expired (c := y.now) hcore hblock hexp
  have hclocked := (hstart.pushStage_none (c := y.now) hy.push).coreCycle_idle (c := y.now) hcore (fun q hm => absurd hm (hnone q))
  obtain ⟨l, hpulled⟩ := ((hclocked.bwriteCycle_none (c := y.now) hy.bwrites).landStage_none (c := y.now) hy.landing).pullStage_empty
    (c := y.now) hp he
  have hend := (hpulled.cyclePosts_none (c := y.now) (fun q hm => absurd hm (hnone q))).lastStages (c := y.now) hy.tests
  rw [show y.sets = [] from hsets, ← unitsCycle_eq] at hend
  obtain ⟨w, hw, heq⟩ := tileCycle_some (by rw [h.tile]) hend rfl
  rw [heq]
  exact ⟨_, hw.halts hh hy.vrun hy.vrunResults _⟩

end

/-- QUEUE_WAIT_BOUND where a bound has expired. -/
theorem exec_queueWaitBound {s : State} {t : TileIx} {e : Nat} (he : s.tileEvent t e = true)
    (hd : (s.begin.runTo t e).expiredQueues t ≠ []) : exec (.queueWaitBound t e) s = .next (tileCycle (s.begin.runTo t e) t []) := by
  show execQueueWaitBound t e s = _
  unfold execQueueWaitBound
  refine cycleEvent_due he ?_
  rw [Bool.not_eq_true', List.isEmpty_eq_false_iff]
  exact hd

theorem exec_queueWaitBound_none {s : State} {t : TileIx} {e : Nat} (he : s.tileEvent t e = true)
    (hd : (s.begin.runTo t e).expiredQueues t = []) : exec (.queueWaitBound t e) s = .next (s.begin.runTo t e) := by
  show execQueueWaitBound t e s = _
  unfold execQueueWaitBound
  refine cycleEvent_idle he ?_
  rw [hd]
  rfl

end Sys2Proof.Machine

namespace Sys2Proof.Machine

theorem regionOn_now (x : Tile) (n : Nat) : { x with now := n }.regionOn = { x.regionOn with now := n } := by
  obtain ⟨prog⟩ := x
  unfold Tile.regionOn Tile.progEnd
  cases prog with
  | none => rfl
  | some p =>
    dsimp only
    (repeat' split) <;> rfl

theorem goOn_withNow (x : Tile) (n pc c m : Nat) : { x with now := n }.goOn pc c m = { x.goOn pc c m with now := n } :=
  regionOn_now { x with pc := (rollOn x.loops pc c m).1, nextIssue := (rollOn x.loops pc c m).2.1, loops := (rollOn x.loops pc c m).2.2 } n

/-- The address that follows an instruction does not depend on the cycle. -/
theorem nextPc_now (x : Tile) (n : Nat) : { x with now := n }.nextPc = x.nextPc := by
  unfold Tile.nextPc
  simp only [goOn_withNow]

/-! ### Halts that no instruction raises (R145, R203, R204) -/

/-- Nothing of the tile moves, or its sequencer alone waits, for a flag that is clear, within its bound. -/
def State.Waits (s : State) (t : Nat) (x : Tile) : Prop := x.quiet = true ∨ ∃ b f c n, x.block = some b ∧ b.wait = .flag f c n
  ∧ bit x.flags f = false ∧ { x with block := none }.quiet = true ∧ s.expiredFlag t = []

section
variable {t : Nat} {s u : State} {y : Tile}

theorem TileIs.expiredFlag (h : TileIs t s y u) (hb : y.block = (s.tile t).block) : u.expiredFlag t = s.expiredFlag t := by
  unfold State.expiredFlag State.expired
  rw [h.tile, h.part State.time, hb]

/-- What waits has idle units, no posts, and no flags on their way. -/
theorem waits_idle (h : s.Waits t y) : y.Idle ∧ y.posts = [] ∧ y.sets = [] ∧ y.clears = [] := by
  rcases h with hq | ⟨-, -, -, -, -, -, -, hq, -⟩
  · obtain ⟨hy, hposts, hsets, hclears, -⟩ := (quiet_iff y).1 hq
    exact ⟨hy, hposts, hsets, hclears⟩
  · obtain ⟨hy, hposts, hsets, hclears, -⟩ := (quiet_iff _).1 hq
    exact ⟨{ hy with }, hposts, hsets, hclears⟩

/-- A sequencer that waits goes on waiting. -/
theorem Cycle.At.cycleStart_waits {c : Nat} {cs : List Cond} {bs : List Nat} {x : Cycle} (h : Cycle.At t s y cs bs x)
    (hw : s.Waits t y) (hb : y.block = (s.tile t).block) : Cycle.At t s y cs bs (cycleStart t c x) := by
  obtain ⟨hy, -⟩ := waits_idle hw
  rcases hw with hq | ⟨b, f, cl, n, hblock, hwait, hclear, -, hexp⟩
  · obtain ⟨-, -, -, -, hblock, -⟩ := (quiet_iff y).1 hq
    exact h.cycleStart_still hy hblock
  · have hoff : (bit (x.s.tile t).flags f && !x.s.expired b.stall n) = false := by rw [h.state.tile, hclear, Bool.false_and]
    have hrel : TileIs t s y (x.s.releaseAt t c) := by
      rw [releaseAt_waiting (by rw [h.state.tile, hblock]) hwait hoff]
      exact h.state
    have := h.cycleStart_idle hy ((h.state.expiredFlag hb).trans hexp) hrel hy
    rwa [List.append_nil] at this

/-- The present cycle of a tile that waits begins with nothing changed. -/
theorem entered_waits (hw : s.Waits t (s.tile t)) : TileIs t s { s.tile t with now := s.nowOf t } (s.begin.enterCycle t (s.nowOf t)) := by
  have hhere := runTo_here (rfl : s.nowOf t = s.nowOf t)
  obtain ⟨hy, -⟩ := waits_idle hw
  exact ((Cycle.At.begin hhere hy.claim []).cycleStart_waits hw rfl).state

/-- A tile that waits and meets a condition halts with it, whether its clock runs or not. -/
theorem haltCycle_waits (hw : s.Waits t (s.tile t)) (hh : (s.tile t).halted = false) (k : Nat → Cond) :
    ∃ z, Halts t s z (k (s.tile t).nextPc) (s.begin.haltCycle t k) := by
  obtain ⟨hy, hposts, hsets, hclears⟩ := waits_idle hw
  have henter := entered_waits hw
  have hpc : ((s.begin.enterCycle t (s.nowOf t)).tile t).nextPc = (s.tile t).nextPc := by
    rw [henter.tile, nextPc_now]
  unfold State.haltCycle
  dsimp only
  rw [show s.begin.nowOf t = s.nowOf t from rfl, hpc]
  split
  · have hstart := (Cycle.At.begin henter hy.claim [k (s.tile t).nextPc]).cycleStart_waits (c := s.nowOf t) hw rfl
    have hunits := hstart.unitsCycle_idle (c := s.nowOf t) { hy with } hposts
    rw [show ({ s.tile t with now := s.nowOf t } : Tile).sets = [] from hsets] at hunits
    obtain ⟨w, hw', heq⟩ := tileCycle_some (by rw [henter.tile]) hunits rfl
    rw [heq]
    exact ⟨_, hw'.halts hh hy.vrun hy.vrunResults _⟩
  · exact ⟨_, henter.halts hh hy.vrun hy.vrunResults _⟩

end

/-! ### A halt-clear (R141, R142) -/

/-- What holds of every entry of a table, and of its default, holds of what is read. -/
theorem Table.get_of_all {α : Type} {P : α → Prop} {d : α} {l : Table α} (hd : P d) (h : ∀ e ∈ l, P e.2) (i : Nat) :
    P (Table.get d l i) := by
  unfold Table.get
  cases hf : l.find? i with
  | none => exact hd
  | some v => exact h _ (Table.mem_of_find? hf)

theorem cleared_stage (x : Tile) (q : Nat) : (x.cleared.outQ q).stage = [] := by
  refine Table.get_of_all (P := fun (o : OutQueue) => o.stage = []) rfl (fun e he => ?_) q
  obtain ⟨a, -, rfl⟩ := List.mem_map.1 (List.mem_of_mem_filter he)
  rfl

theorem bump_tile (s : State) (f : RegField) (i n k : Nat) : (s.bump f i n).tile k = s.tile k := rfl

section
variable (s : State) (t : Nat)

theorem haltClear_tile : ∃ ts, (s.haltClear t).tile t = Tile.cleared (Tile.stopUnits { s.tile t with tests := ts }) := by
  obtain ⟨ts, h⟩ := stopTile_tile s t
  refine ⟨ts, ?_⟩
  unfold State.haltClear
  dsimp only
  rw [set_tile, bump_tile, tile_modTile_same, h]

theorem haltClear_others {k : Nat} (hk : k ≠ t) : (s.haltClear t).tile k = s.tile k := by
  unfold State.haltClear
  dsimp only
  rw [set_tile, bump_tile, tile_modTile_other _ _ hk, stopTile_others s t hk]

theorem haltClear_valid : (s.haltClear t).get .TIL_HALT_REASON_valid t = 0 := State.get_set_same ..

theorem haltClear_dropped : (s.haltClear t).get .TIL_QUEUE_DROP_dropped t
    = min (s.get .TIL_QUEUE_DROP_dropped t + (s.tile t).heldWords) (2 ^ 32 - 1) := by
  have hfused := congrArg State.fused (State_stopTile_offTiles s t)
  have hkeep : ((s.stopTile t).modTile t Tile.cleared).get .TIL_QUEUE_DROP_dropped t = s.get .TIL_QUEUE_DROP_dropped t :=
    State.get_congr (stopTile_regs s t) hfused _ t
  unfold State.haltClear
  dsimp only
  rw [State.get_set_other _ _ (.inl (by decide)), State.get_bump_same, hkeep]
  rfl

theorem haltClear_tiers : (s.haltClear t).tier1 = s.tier1 ∧ (s.haltClear t).tier2 = s.tier2 := by
  have h1 := congrArg State.tier1 (State_stopTile_offTiles s t)
  have h2 := congrArg State.tier2 (State_stopTile_offTiles s t)
  exact ⟨h1, h2⟩

end

theorem tileHaltClear_rests {s : State} (t : Nat)
    (h : s.planState = .idle ∨ s.planState = .loaded ∨ s.planState = .stopped ∨ s.planState = .faulted) :
    tileHaltClear t s = s.haltClear t := by
  unfold tileHaltClear
  rcases h with h | h | h | h <;> rw [h] <;> rfl

theorem tileHaltClear_refused {s : State} (t : Nat)
    (h : s.planState = .armed ∨ s.planState = .running ∨ s.planState = .resting ∨ s.planState = .stopping) :
    tileHaltClear t s = s.set .TIL_STATUS_clear_reject t 1 := by
  unfold tileHaltClear
  rcases h with h | h | h | h <;> rw [h] <;> rfl

theorem forceHalt_rests {s : State} (t : Nat) (h : s.planState = .idle ∨ s.planState = .loaded ∨ s.planState = .stopped) :
    forceHalt t s = s.haltCycle t (fun pc => cond .forcedHalt pc 0) := by
  unfold forceHalt
  rcases h with h | h | h <;> rw [h] <;> rfl

theorem forceHalt_refused {s : State} (t : Nat)
    (h : s.planState = .armed ∨ s.planState = .running ∨ s.planState = .resting ∨ s.planState = .stopping) :
    forceHalt t s = s.set .TIL_STATUS_clear_reject t 1 := by
  unfold forceHalt
  rcases h with h | h | h | h <;> rw [h] <;> rfl

theorem planExecutes_rests {s : State} (h : s.planState = .idle ∨ s.planState = .loaded ∨ s.planState = .stopped) :
    s.planExecutes = false := by
  unfold State.planExecutes
  rcases h with h | h | h <;> rw [h] <;> rfl

/-! ### The parts of the statement -/

section
variable {t : TileIx} {s : State}

/-- A bound that a queue's stall has outlasted (R127, R194). -/
theorem queueWaitBound_halts {e : Nat} (he : s.tileEvent t e = true) (hn : s.nowOf t = e) (hexp : s.expiredQueues t ≠ []) :
    s.Runs (.queueWaitBound t e) (fun u => (u.tile t).halted = true) := by
  have hhere := runTo_here hn
  have hsame : (s.begin.runTo t e).expiredQueues t ≠ [] := by rwa [hhere.expiredQueues rfl rfl rfl rfl rfl]
  exact ⟨_, exec_queueWaitBound he hsame, tileCycle_halted (cs := []) (List.append_ne_nil_of_left_ne_nil hsame _)⟩

theorem queueWaitBound_idle {e : Nat} (he : s.tileEvent t e = true) (hn : s.nowOf t = e) (hexp : s.expiredQueues t = []) :
    s.Runs (.queueWaitBound t e) (fun u => OnlyTile t s u ∧ u.tile t = { s.tile t with now := e }) := by
  have hhere := runTo_here hn
  exact ⟨_, exec_queueWaitBound_none he ((hhere.expiredQueues rfl rfl rfl rfl rfl).trans hexp), hhere.onlyTile, hhere.tile⟩

theorem pushBound_halts {e : Nat} {p : PushOp} {b : Stall} (he : s.tileEvent t e = true) (hn : s.nowOf t = e)
    (hp : (s.tile t).push = [p]) (hq : { s.tile t with push := [] }.quiet = true) (hb : p.stall = some b)
    (hbound : b.counted + p.bound ≤ s.time.counted) (hh : (s.tile t).halted = false) (hu : p.units ≠ []) (hnext : p.next ≤ e)
    (hfull : s.pathFull t p.q = true) : s.Runs (.queueWaitBound t e) (fun u =>
      HaltedWith u t ⟨0x40, 3, p.pc, p.q + 2 ^ 16 * p.bound⟩ ∧ ∀ k, k ≠ t.val → u.tile k = s.tile k) := by
  have hhere := runTo_here hn
  obtain ⟨hy, -⟩ := (quiet_iff _).1 hq
  have hexp : (s.begin.runTo t e).expiredQueues t ≠ [] := by
    rw [hhere.expiredQueues rfl rfl rfl rfl rfl, expiredQueues_push rfl hp hy.pull hy.mma hy.vrun hb hbound]
    exact List.cons_ne_nil _ _
  obtain ⟨z, hz⟩ := tileCycle_pushBound hhere hq hp hb hbound hh hu hnext (fun w hw => (hw.pathFull rfl rfl p.q).trans hfull)
  exact ⟨_, exec_queueWaitBound he hexp, haltedWith_cond hz.record 3, hz.others⟩

theorem pullBound_halts {e : Nat} {p : PullOp} {b : Stall} (he : s.tileEvent t e = true) (hn : s.nowOf t = e)
    (hp : (s.tile t).pull = [p]) (hq : { s.tile t with pull := [] }.quiet = true) (hb : p.stall = some b)
    (hbound : b.counted + p.bound ≤ s.time.counted) (hh : (s.tile t).halted = false) (hempty : (s.tile t).rxQ p.q = []) :
    s.Runs (.queueWaitBound t e) (fun u =>
      HaltedWith u t ⟨0x40, 3, p.pc, p.q + 8 + 2 ^ 16 * p.bound⟩ ∧ ∀ k, k ≠ t.val → u.tile k = s.tile k) := by
  have hhere := runTo_here hn
  obtain ⟨hy, -⟩ := (quiet_iff _).1 hq
  have hexp : (s.begin.runTo t e).expiredQueues t ≠ [] := by
    rw [hhere.expiredQueues rfl rfl rfl rfl rfl, expiredQueues_pull rfl hy.push hp hy.mma hy.vrun hb hbound]
    exact List.cons_ne_nil _ _
  obtain ⟨z, hz⟩ := tileCycle_pullBound hhere hq hp hb hbound hh hempty
  exact ⟨_, exec_queueWaitBound he hexp, haltedWith_cond hz.record 3, hz.others⟩

/-- A word that comes to the end of its path (R126, R128, R129). -/
theorem wordArrival {q : Fin 6} {e : Nat} {v : State} (he : s.tileEvent t e = true) (hp : s.pathClocked t q = true)
    (hv : v = s.entered t e) :
    (16 ≤ ((v.tile t).rxQ q).length → exec (.queueWordArrival t q e) s = .next v) ∧
    (∀ src n b g d l, ((v.tile t).rxQ q).length < 16 → 4 ≤ q.val →
        takeItem (fun (i : DnItem) => i.item.isWord) (Table.get [] v.dn (2 * t + (q - 4))) = some (⟨src, n, .word b g d⟩, l) →
      s.Runs (.queueWordArrival t q e) (fun u => (u.tile t).rxQ q = (v.tile t).rxQ q ++ [⟨b, g⟩] ∧ SameBytes v u ∧ u.regs = v.regs
        ∧ (Table.get [] v.dnWait (2 * t + (q - 4)) = [] → u.dn = Table.set [] v.dn (2 * t + (q - 4)) l))) ∧
    (∀ n b g d l, ((v.tile t).rxQ q).length < 16 → q.val < 4 → v.neighbour t q = some n →
        takeItem Item.isWord ((v.tile n).outQ (opposite q)).mid = some (.word b g d, l) →
      s.Runs (.queueWordArrival t q e) (fun u => (u.tile t).rxQ q = (v.tile t).rxQ q ++ [⟨b, g⟩] ∧ SameBytes v u ∧ u.regs = v.regs
        ∧ u.dn = v.dn ∧ (((v.tile n).outQ (opposite q)).stage = [] → ((u.tile n).outQ (opposite q)).mid = l))) := by
  refine ⟨exec_queueWordArrival_full he hp hv, fun src n b g d l hroom hfar htake => ?_, fun n b g d l hroom hnear hn htake => ?_⟩
  · have hmoves := (OutMoves.setDn v (Table.set [] v.dn (2 * t + (q.val - 4)) l) v.dnSeq v.dnWait).trans
      (OutMoves.dnWake _ (2 * t + (q.val - 4)))
    obtain ⟨hrx, hbytes, hregs⟩ := receive (t := t) (q := q) hmoves ⟨b, g⟩
    refine ⟨_, exec_queueWordArrival he hp hv hroom (arriving_far hfar htake), hrx, hbytes, hregs, fun hnone => ?_⟩
    exact congrArg State.dn (dnWake_none (s := { v with dn := Table.set [] v.dn (2 * t + (q.val - 4)) l }) hnone)
  · have hmoves := (OutMoves.setOut v n (opposite q) (fun _ => ⟨((v.tile n).outQ (opposite q)).stage, l⟩)).trans
      (OutMoves.moveOut _ n (opposite q))
    obtain ⟨hrx, hbytes, hregs⟩ := receive (t := t) (q := q) hmoves ⟨b, g⟩
    refine ⟨_, exec_queueWordArrival he hp hv hroom (arriving_near hnear hn htake), hrx, hbytes, hregs,
      moveOut_near_dn _ n (opposite_lt q), fun hstage => ?_⟩
    have hout := outQ_setOut (v.tile n) (opposite q) ⟨((v.tile n).outQ (opposite q)).stage, l⟩
    rw [outQ_setRx, moveOut_near_unstaged (opposite_lt q) (by rw [tile_modTile_same, hout, hstage]), tile_modTile_same, hout]

/-- Halts that come from outside (R145, R203, R204). -/
theorem outsideHalts (hw : s.Waits t (s.tile t)) (hh : (s.tile t).halted = false) :
    (∀ w : Word, s.tilesUp = true → s.Runs (.sequencerParity t w) (fun u => HaltedWith u t ⟨0xF1, 0, (s.tile t).nextPc, w.toNat⟩
      ∧ u.get .TEL_HW_HALTS_count 0 = min (s.get .TEL_HW_HALTS_count 0 + 1) (2 ^ 16 - 1) ∧ ∀ k, k ≠ t.val → u.tile k = s.tile k)) ∧
    (∀ (v : Bool) (w : Word), s.tilesUp = true → s.Runs (.datapathParity t v w) (fun u =>
      HaltedWith u t ⟨0xF2, 1, (s.tile t).nextPc, w.toNat⟩ ∧ u.get .TIL_HALT_REASON_unit t = (if v then 2 else 1)
      ∧ u.get .TEL_HW_HALTS_count 0 = min (s.get .TEL_HW_HALTS_count 0 + 1) (2 ^ 16 - 1) ∧ ∀ k, k ≠ t.val → u.tile k = s.tile k)) ∧
    (s.fieldUp = true → s.planState = .idle ∨ s.planState = .loaded ∨ s.planState = .stopped →
      s.Runs (.forceHalt t) (fun u => HaltedWith u t ⟨0xF0, 7, (s.tile t).nextPc, 0⟩ ∧ u.raised = s.raised)) := by
  refine ⟨fun w hup => ?_, fun v w hup => ?_, fun hup hplan => ?_⟩
  · obtain ⟨z, hz⟩ := haltCycle_waits hw hh (fun pc => cond .sequencerParity pc w.toNat)
    refine State.runs_of_occurs (g := s.tilesUp) (f := fun s => s.haltCycle t (fun pc => cond .sequencerParity pc w.toNat)) rfl hup ?_
    exact ⟨haltedWith_cond hz.record 0, hz.hard (show 0xF0 ≤ Halt.code .sequencerParity by decide), hz.others⟩
  · obtain ⟨z, hz⟩ := haltCycle_waits hw hh (fun pc => { cond .datapathParity pc w.toNat with unit' := if v then 2 else 1 })
    refine State.runs_of_occurs (g := s.tilesUp) (f := fun s => s.haltCycle t (fun pc =>
      { cond .datapathParity pc w.toNat with unit' := if v then 2 else 1 })) rfl hup ?_
    refine ⟨haltedWith_cond (k := .datapathParity) hz.record 1, hz.unit.trans ?_,
      hz.hard (show 0xF0 ≤ Halt.code .datapathParity by decide), hz.others⟩
    cases v <;> rfl
  · obtain ⟨z, hz⟩ := haltCycle_waits hw hh (fun pc => cond .forcedHalt pc 0)
    have heq : Machine.forceHalt t s.begin = _ := forceHalt_rests (s := s.begin) t hplan
    refine State.runs_of_occurs (f := Machine.forceHalt t) rfl hup ?_
    rw [heq]
    exact ⟨haltedWith_cond hz.record 7, hz.resting (planExecutes_rests hplan)⟩

end

/-- Settles O44: arrivals by the path's next word, halts by the cycle that meets their condition, and a halt-clear by its parts. -/
theorem queueWordsAndHalts : Obligations.QueueWordsAndHalts := by
  unfold Obligations.QueueWordsAndHalts
  intro t s x hx
  subst hx
  refine ⟨fun q e v he hp hv => wordArrival he hp hv, fun e he hn => ⟨queueWaitBound_halts he hn, ?_, ?_, queueWaitBound_idle he hn⟩,
    fun pc hpc hh hw => hpc ▸ outsideHalts hw hh, fun hup hplan => ?_, fun hup hplan => ⟨?_, ?_⟩⟩
  · exact fun p b hp hq hb hbound hh hu hnext hfull => pushBound_halts he hn hp hq hb hbound hh hu hnext hfull
  · exact fun p b hp hq hb hbound hh hempty => pullBound_halts he hn hp hq hb hbound hh hempty
  · have heq := tileHaltClear_rests (s := s.begin) t hplan
    obtain ⟨ts, htile⟩ := haltClear_tile s.begin t
    obtain ⟨htier1, htier2⟩ := haltClear_tiers s.begin t
    refine State.runs_of_occurs rfl hup ?_
    rw [heq, htile]
    exact ⟨rfl, rfl, rfl, rfl, rfl, rfl, rfl, rfl, rfl, cleared_stage _, haltClear_valid s.begin t, haltClear_dropped s.begin t, htier1,
      htier2, fun k hk => haltClear_others s.begin t hk⟩
  · show occurs s.fieldUp (tileHaltClear t) s = _
    rw [occurs, if_pos hup, tileHaltClear_refused (s := s.begin) t hplan]
  · show occurs s.fieldUp (Machine.forceHalt t) s = _
    rw [occurs, if_pos hup, forceHalt_refused (s := s.begin) t hplan]

end Sys2Proof.Machine

namespace Sys2Proof.Machine

/-! ### Flags in the next cycle (R136, R199) -/

theorem bit_add_two_pow {v f : Nat} (h : bit v f = false) : bit (v + 2 ^ f) f = true := by
  rw [bit_eq_testBit] at h
  rw [bit_eq_testBit, Nat.add_comm, Nat.testBit_two_pow_add_eq, h]
  rfl

theorem bit_sub_two_pow {v f : Nat} (h : bit v f = true) : bit (v - 2 ^ f) f = false := by
  rw [bit_eq_testBit] at h
  obtain ⟨n, rfl⟩ := Nat.exists_eq_add_of_le (Nat.ge_two_pow_of_testBit h)
  rw [Nat.testBit_two_pow_add_eq, Bool.not_eq_true'] at h
  rw [Nat.add_sub_cancel_left, bit_eq_testBit, h]

section
variable {y : Tile} {f : Nat}

/-- A flag's set, the only one of the cycle. -/
theorem settleFlags_set {k : FlagSet} (hs : y.sets = [k]) (hc : y.clears = []) (hf : bit y.flags k.f = false) :
    bit y.settleFlags.flags k.f = true := by
  unfold Tile.settleFlags
  rw [hs, hc]
  dsimp only [List.foldl_cons, List.foldl_nil]
  rw [if_neg (by simp [hf])]
  exact bit_add_two_pow hf

/-- A flag at 1 that the cycle clears, or does not. -/
theorem settleFlags_clear {c : Bool} (hs : y.sets = []) (hc : y.clears = if c then [f] else []) (hf : bit y.flags f = true) :
    bit y.settleFlags.flags f = !c := by
  unfold Tile.settleFlags
  rw [hs, hc]
  cases c with
  | false => exact hf
  | true =>
    rw [if_pos rfl, List.foldl_cons, List.foldl_nil, if_pos hf]
    exact bit_sub_two_pow hf

/-- The only set of a cycle, of a flag at 0. -/
theorem setTwice_none {k : FlagSet} (hs : y.sets = [k]) (hf : bit y.flags k.f = false) : y.sets.flatMap y.setTwice = [] := by
  rw [hs, List.flatMap_singleton]
  unfold Tile.setTwice
  rw [hs, hf]
  simp [check]

/-- A set of a flag at 1 that the cycle does not clear. -/
theorem setTwice_ne {k : FlagSet} (hf : bit y.flags k.f = true) (hc : k.f ∉ y.clears) : y.setTwice k ≠ [] := by
  have hclear : y.clears.contains k.f = false := by simpa using hc
  unfold Tile.setTwice
  dsimp only
  rw [hf, hclear]
  exact List.cons_ne_nil _ _

/-- Whether the sets of a cycle halt the tile rests on its flags, its sets and its clears. -/
theorem setTwice_congr {z : Tile} (hf : z.flags = y.flags) (hs : z.sets = y.sets) (hc : z.clears = y.clears)
    (h : y.sets.flatMap y.setTwice = []) : z.sets.flatMap z.setTwice = [] := by
  rw [List.flatMap_eq_nil_iff] at h ⊢
  intro k hk
  have hone := h k (hs ▸ hk)
  unfold Tile.setTwice check at hone ⊢
  dsimp only at hone ⊢
  rw [hf, hs, hc]
  split at hone
  · cases hone
  · next hno => exact if_neg hno

/-- The flags of the next cycle, on a tile that settles them without a halt. -/
theorem entered_flags {s u : State} {t e : Nat} (h : TileIs t s y u) (hn : y.now = e) (hclock : s.clockOf t ≤ e) (hy : y.Idle)
    (hp : y.posts = []) (hb : y.block = none) (hs : y.sets.flatMap y.setTwice = []) :
    ((u.entered t (e + 1)).tile t).flags = y.settleFlags.flags := by
  obtain ⟨w, hw, heq⟩ := h.entered_add hn hclock
  obtain ⟨z, hz, hidle, hblock, hflags⟩ := runCycles_one hw hy hp hb hs
  rw [heq 1, ((Cycle.At.begin hz hidle.claim []).cycleStart_still hidle hblock).state.tile, hflags]

end

/-! ### An instruction that completes at issue (R181, R199) -/

theorem canPost_postNow {z : Tile} {w : Nat} (pc : Nat) (h : z.canPost w) : z.postNow (postOf w) pc = (z.posted w, []) := by
  unfold Tile.postNow Tile.posted
  by_cases hp : postOf w = 0
  · rw [if_pos hp, if_pos hp]
  · rw [if_neg hp, if_neg hp, if_neg (by simp [h.resolve_left hp])]

/-- A post made at issue, and going on, touch no unit. -/
theorem posted_goOn_eq (z : Tile) (w pc c n : Nat) : ∃ bd a m ls p ib fi, (z.posted w).goOn pc c n
    = { z with board := bd, pc := a, nextIssue := m, loops := ls, passes := p, inBody := ib, finished := fi } := by
  obtain ⟨a, m, ls, p, ib, fi, h⟩ := goOn_eq (z.posted w) pc c n
  rw [h]
  unfold Tile.posted
  split
  · exact ⟨z.board, a, m, ls, p, ib, fi, rfl⟩
  · exact ⟨_, a, m, ls, p, ib, fi, rfl⟩

section
variable {t : TileIx} {s u v : State} {e op w : Nat} {y z : Tile}

@[simp] theorem issue_x (s : State) (t : TileIx) (e w : Nat) (y : Tile) : (s.issue t e w y).x = y := tile_setTile_same ..

@[simp] theorem issue_s (s : State) (t : TileIx) (e w : Nat) (y : Tile) : (s.issue t e w y).s = (s.entered t e).setTile t y := rfl

@[simp] theorem issue_t (s : State) (t : TileIx) (e w : Nat) (y : Tile) : (s.issue t e w y).t = t := rfl

@[simp] theorem issue_w (s : State) (t : TileIx) (e w : Nat) (y : Tile) : (s.issue t e w y).w = w := rfl

@[simp] theorem issue_pc (s : State) (t : TileIx) (e w : Nat) (y : Tile) : (s.issue t e w y).pc = y.pc := rfl

theorem issues_opcode (h : s.Issues t e op w y) : opcodeOf w = op := by
  obtain ⟨-, -, -, -, -, -, -, hop, -⟩ := h
  exact hop

theorem issues_len (h : s.Issues t e op w y) (hn : extNeeded w = 0) : (s.issue t e w y).len = 1 := by
  obtain ⟨-, u, x, rfl, rfl, -, -, -, hdec, -⟩ := h
  have hext : extOf w = 0 := by
    unfold decodeConds at hdec
    split at hdec
    · cases hdec
    · split at hdec
      · cases hdec
      · next hsame => rw [not_not.1 hsame, hn]
  unfold Issue.len State.issue
  rw [hext]
  rfl

theorem issues_now (h : s.Issues t e op w y) : y.now = e := by
  obtain ⟨b, hy⟩ := issues_tile h rfl
  rw [hy]
  exact entered_now (tileEvent_now (issues_event h))

theorem issues_running (h : s.Issues t e op w y) : y.halted = false := by
  obtain ⟨b, hy⟩ := issues_tile h rfl
  rw [hy]
  exact canIssue_halted (issues_canIssue h rfl)

theorem entered_clock (he : s.tileEvent t e = true) (hv : v = s.entered t e) : v.clockOf t ≤ e := by
  unfold State.clockOf
  rw [hv, enterCycle_time]
  exact tileEvent_clock he

/-- The instruction completes on the tile `z` that it leaves. -/
theorem issue_completes (h : s.Issues t e op w y) (hn : extNeeded w = 0) (hu : u.tile t = z) (hz : z.canPost w) :
    (s.issue t e w y).complete u 0 = ([], u.setTile t ((z.posted w).goOn (y.pc + 1) (e + 1) (e + 1))) := by
  unfold Issue.complete
  rw [issues_len h hn, issue_t, hu, issue_w, canPost_postNow _ hz]
  rfl

/-- An instruction one of whose conditions is met halts its tile (R138). -/
theorem issueAt_halted {body : Issue → List Cond × State} (h : s.Issues t e op w y) (hbody : (body (s.issue t e w y)).1 ≠ []) :
    ∃ u, issueAt t e op body s = .next u ∧ (u.tile t).halted = true :=
  ⟨_, issueAt_fails h rfl hbody, tileCycle_halted (List.append_ne_nil_of_left_ne_nil hbody _)⟩

/-- What an instruction leaves to the next cycle where it completes on a tile of which nothing else moves. -/
theorem completed_flags (h : s.Issues t e op w y) (hv : v = s.entered t e) (hu : TileIs t v ((z.posted w).goOn (y.pc + 1) (e + 1) (e + 1)) u)
    (hq : y.quiet = true) (hz : z = { y with sets := z.sets, clears := z.clears }) (hs : z.sets.flatMap z.setTwice = []) :
    ((u.entered t (e + 1)).tile t).flags = z.settleFlags.flags := by
  obtain ⟨hy, hposts, -, -, hblock, -⟩ := (quiet_iff y).1 hq
  obtain ⟨bd, a, m, ls, p, ib, fi, heq⟩ := posted_goOn_eq z w (y.pc + 1) (e + 1) (e + 1)
  have hidle : z.Idle := by
    rw [hz]
    exact { hy with }
  rw [heq] at hu
  have hnow : z.now = e := by
    rw [hz]
    exact issues_now (y := y) h
  have hp : z.posts = [] := by rw [hz]; exact hposts
  have hb : z.block = none := by rw [hz]; exact hblock
  have hnext := entered_flags hu hnow (entered_clock (issues_event h) hv) { hidle with } hp hb (setTwice_congr (y := z) rfl rfl rfl hs)
  exact hnext

end

end Sys2Proof.Machine

namespace Sys2Proof.Machine

/-! ### SET.FLAG and WAIT.FLAG (R134 to R136, R219, R220) -/

section
variable {t : TileIx} {s v : State} {e w f : Nat} {y : Tile}

theorem extNeeded_flag (hop : opcodeOf w = 0x18 ∨ opcodeOf w = 0x19) : extNeeded w = 0 := by
  unfold extNeeded
  rcases hop with h | h <;> rw [h] <;> rfl

/-- A set of one of the tile's own flags, at 0 (R134, R199). -/
theorem setFlag_own (h : s.Issues t e 0x18 w y) (hv : v = s.entered t e) (htarget : bits w 32 30 = 6) (hpost : y.canPost w)
    (hf : bit y.flags (bits w 29 22) = false) (hsets : ∀ k ∈ y.sets, k.f ≠ bits w 29 22) :
    s.Runs (.setFlag t e) (fun u => OnlyTile t v u
      ∧ u.tile t = ((y.setFlag (bits w 29 22) 6 y.pc).posted w).goOn (y.pc + 1) (e + 1) (e + 1)
      ∧ (y.quiet = true → bit ((u.entered t (e + 1)).tile t).flags (bits w 29 22) = true)) := by
  subst hv
  have hmine : ((y.setFlag (bits w 29 22) 6 y.pc).sets.filter (fun r => r.f == bits w 29 22)).length = 1 := by
    have hold : y.sets.filter (fun r => r.f == bits w 29 22) = [] :=
      List.filter_eq_nil_iff.2 (fun k hk => by simpa using hsets k hk)
    unfold Tile.setFlag
    rw [List.filter_append, hold]
    simp
  have hconds : (y.setFlag (bits w 29 22) 6 y.pc).setTwice ⟨bits w 29 22, 6, y.pc⟩ = [] := by
    unfold Tile.setTwice
    dsimp only
    rw [hmine, show bit (y.setFlag (bits w 29 22) 6 y.pc).flags (bits w 29 22) = false from hf]
    rfl
  have hset := ((TileIs.refl t (s.entered t e)).setTile y).setTile (y.setFlag (bits w 29 22) 6 y.pc)
  have hdone := hset.setTile (((y.setFlag (bits w 29 22) 6 y.pc).posted w).goOn (y.pc + 1) (e + 1) (e + 1))
  refine ⟨_, ?_, hdone.onlyTile, hdone.tile, fun hq => ?_⟩
  · show execSetFlag t e s = _
    unfold execSetFlag
    refine issueAt_passes h ?_
    have hcomplete := issue_completes h (extNeeded_flag (.inl (issues_opcode h))) hset.tile hpost
    simp only [issue_s, issue_t, issue_w, issue_pc, issue_x, htarget, hcomplete, hconds]
    rfl
  · obtain ⟨-, -, hnone, hclears, -⟩ := (quiet_iff y).1 hq
    have hone : (y.setFlag (bits w 29 22) 6 y.pc).sets = [⟨bits w 29 22, 6, y.pc⟩] := by
      unfold Tile.setFlag
      rw [hnone]
      rfl
    rw [completed_flags h rfl hdone hq rfl (setTwice_none hone hf)]
    exact settleFlags_set (k := ⟨bits w 29 22, 6, y.pc⟩) hone hclears hf

/-- A set of one of the tile's own flags, at 1 (R134, R219). -/
theorem setFlag_twice (h : s.Issues t e 0x18 w y) (htarget : bits w 32 30 = 6) (hf : bit y.flags (bits w 29 22) = true)
    (hclear : bits w 29 22 ∉ y.clears) : s.Runs (.setFlag t e) (fun u => (u.tile t).halted = true) := by
  have hconds : (y.setFlag (bits w 29 22) 6 y.pc).setTwice ⟨bits w 29 22, 6, y.pc⟩ ≠ [] := setTwice_ne hf hclear
  show ∃ u, execSetFlag t e s = _ ∧ _
  unfold execSetFlag
  refine issueAt_halted h ?_
  simp only [issue_t, issue_w, issue_pc, issue_x, htarget, if_true]
  exact List.append_ne_nil_of_left_ne_nil hconds _

/-- A set for a neighbour's flags goes through the out stage, and takes no room on the path (R126, R135). -/
theorem send_flag_near {u : State} {q : Nat} {d : Dest} (hq : q < 4) (hu : TileIs t v y u) (hh : y.halted = false)
    (hstage : (y.outQ q).stage = []) : ∃ z, TileIs t v z (u.send t q (.flag f d)) ∧ z = { y with out := z.out }
      ∧ z.outQ q = ⟨[], (y.outQ q).mid ++ [.flag f d]⟩ := by
  have hstaged := hu.modTile (fun x => x.setOut q ⟨(x.outQ q).stage ++ [.flag f d], (x.outQ q).mid⟩)
  have hmoved := hstaged.modTile (fun x => x.setOut q ⟨[], (y.outQ q).mid ++ [.flag f d]⟩)
  have hsend : u.send t q (.flag f d) = (u.modTile t (fun x => x.setOut q ⟨(x.outQ q).stage ++ [.flag f d], (x.outQ q).mid⟩)).modTile t
      (fun x => x.setOut q ⟨[], (y.outQ q).mid ++ [.flag f d]⟩) := by
    unfold State.send
    rw [moveOut_near _ _ hq, hstaged.tile, outQ_setOut, hstage, show (y.setOut q _).halted = false from hh]
    rfl
  rw [hsend]
  exact ⟨_, hmoved, rfl, outQ_setOut _ q _⟩

/-- A set of a flag on a queue towards a neighbour (R135, R219). -/
theorem setFlag_near {n : Nat} (h : s.Issues t e 0x18 w y) (hv : v = s.entered t e) (hq : bits w 32 30 < 4) (hpost : y.canPost w)
    (hthere : v.queueAbsent t (bits w 32 30) = false) (hstage : (y.outQ (bits w 32 30)).stage = [])
    (hn : v.neighbour t (bits w 32 30) = some n) :
    s.Runs (.setFlag t e) (fun u => OnlyTile t v u ∧ ((u.tile t).outQ (bits w 32 30)).stage = []
      ∧ ((u.tile t).outQ (bits w 32 30)).mid = (y.outQ (bits w 32 30)).mid
          ++ [.flag (bits w 29 22) (.tile n (opposite (bits w 32 30)))]) := by
  have hissue : TileIs t v y (v.setTile t y) := (TileIs.refl t v).setTile y
  have habsent : (v.setTile t y).queueAbsent t (bits w 32 30) = false := (hissue.part (fun x => x.queueAbsent t (bits w 32 30))).trans hthere
  have hdest : (v.setTile t y).destOf t (bits w 32 30) (bits w 36 33) = .tile n (opposite (bits w 32 30)) := by
    unfold State.destOf
    rw [if_pos hq, show (v.setTile t y).neighbour t (bits w 32 30) = some n from hn]
    rfl
  have hroute : (v.setTile t y).routeConds t (bits w 32 30) (bits w 36 33) y.pc true = [] := by
    unfold State.routeConds
    rw [decide_eq_false (by omega)]
    rfl
  obtain ⟨z, hsent, hz, hout⟩ := send_flag_near (f := bits w 29 22) (d := .tile n (opposite (bits w 32 30))) hq hissue (issues_running h) hstage
  have hzpost : z.canPost w := by
    rw [hz]
    exact hpost
  have hcomplete := issue_completes h (extNeeded_flag (.inl (issues_opcode h))) hsent.tile hzpost
  have hdone := hsent.setTile ((z.posted w).goOn (y.pc + 1) (e + 1) (e + 1))
  have hlast : ((z.posted w).goOn (y.pc + 1) (e + 1) (e + 1)).outQ (bits w 32 30) = z.outQ (bits w 32 30) := by
    obtain ⟨bd, a, m, ls, p, ib, fi, heq⟩ := posted_goOn_eq z w (y.pc + 1) (e + 1) (e + 1)
    rw [heq]
    rfl
  refine ⟨_, ?_, hdone.onlyTile, by rw [hdone.tile, hlast, hout], by rw [hdone.tile, hlast, hout]⟩
  show execSetFlag t e s = _
  unfold execSetFlag
  refine issueAt_passes h ?_
  subst hv
  have hsix : ¬ bits w 32 30 = 6 := by omega
  have hseven : (bits w 32 30 == 7) = false := by
    rw [beq_eq_false_iff_ne]
    omega
  simp only [issue_s, issue_t, issue_w, issue_pc, issue_x, hsix, if_false, hseven, habsent, hroute, hstage, hdest, hcomplete]
  rfl

/-- A flag at 1 lets the sequencer go on, and is cleared where the wait says so (R134, R136, R220). -/
theorem waitFlag_set (h : s.Issues t e 0x19 w y) (hv : v = s.entered t e) (hbound : bits w 51 38 ≠ 0) (hf : f = bits w 29 22)
    (hflag : bit y.flags f = true) (hpost : y.canPost w) : s.Runs (.waitFlag t e) (fun u => OnlyTile t v u
        ∧ u.tile t = ((if bit w 37 then y.clearFlag f else y).posted w).goOn (y.pc + 1) (e + 1) (e + 1)
        ∧ (y.quiet = true → bit ((u.entered t (e + 1)).tile t).flags f = !bit w 37)) := by
  subst hv hf
  have hz : (if bit w 37 then y.clearFlag (bits w 29 22) else y)
      = { y with clears := if bit w 37 then bits w 29 22 :: y.clears else y.clears } := by
    split <;> rfl
  rw [hz]
  have hset := ((TileIs.refl t (s.entered t e)).setTile y).setTile
    { y with clears := if bit w 37 then bits w 29 22 :: y.clears else y.clears }
  have hdone := hset.setTile ((Tile.posted { y with clears := if bit w 37 then bits w 29 22 :: y.clears else y.clears } w).goOn
    (y.pc + 1) (e + 1) (e + 1))
  refine ⟨_, ?_, hdone.onlyTile, hdone.tile, fun hq => ?_⟩
  · show execWaitFlag t e s = _
    unfold execWaitFlag
    refine issueAt_passes h ?_
    have hcomplete := issue_completes h (extNeeded_flag (.inr (issues_opcode h))) hset.tile hpost
    simp only [issue_s, issue_t, issue_w, issue_pc, issue_x, hflag, if_true, hz, hcomplete]
    rw [beq_eq_false_iff_ne.2 hbound]
    rfl
  · obtain ⟨-, -, hnone, hclears, -⟩ := (quiet_iff y).1 hq
    have hsets (g : FlagSet → List Cond) : y.sets.flatMap g = [] := by rw [hnone]; rfl
    rw [completed_flags h rfl hdone hq rfl (hsets _)]
    exact settleFlags_clear hnone (by rw [hclears]) hflag

/-- A flag at 0 blocks the sequencer (R134, R220). -/
theorem waitFlag_blocks (h : s.Issues t e 0x19 w y) (hv : v = s.entered t e) (hbound : bits w 51 38 ≠ 0) (hf : f = bits w 29 22)
    (hflag : bit y.flags f = false) : s.Runs (.waitFlag t e) (fun u => OnlyTile t v u
        ∧ u.tile t = { y with block := some ⟨.flag f (bit w 37) (bits w 51 38), postOf w, y.pc, v.nowStall⟩ }) := by
  subst hv hf
  have hblock := ((TileIs.refl t (s.entered t e)).setTile y).modTile (fun x =>
    { x with block := some ⟨.flag (bits w 29 22) (bit w 37) (bits w 51 38), postOf w, y.pc, (s.entered t e).nowStall⟩ })
  refine ⟨_, ?_, hblock.onlyTile, hblock.tile⟩
  show execWaitFlag t e s = _
  unfold execWaitFlag
  refine issueAt_passes h ?_
  simp only [issue_s, issue_t, issue_w, issue_pc, issue_x, hflag]
  rw [beq_eq_false_iff_ne.2 hbound]
  rfl

end

end Sys2Proof.Machine

namespace Sys2Proof.Machine

/-! ### A sequencer that waits for a flag (R134, R136, R220) -/

theorem TileIs.waitEnded {t : Nat} {s u : State} {y : Tile} (h : TileIs t s y u) (st : Stall) :
    TileIs t (s.waitEnded t st) y (u.waitEnded t st) := by
  have hcomm (x : State) : (x.waitEnded t st).tileless = x.tileless.waitEnded t st := by
    unfold State.waitEnded
    dsimp only
    split
    · next hn => exact (if_pos hn).symm
    · next hn => exact (if_neg hn).symm
  exact ⟨by rw [hcomm, hcomm, h.rest], fun k hk => by rw [waitEnded_tile, waitEnded_tile, h.others k hk], by rw [waitEnded_tile, h.tile]⟩

/-- The tile whose sequencer a flag at 1 releases in cycle `e`. -/
def Tile.freed (y : Tile) (b : Blocked) (f : Nat) (c : Bool) (e : Nat) : Tile :=
  ({ y with clears := if c then f :: y.clears else y.clears }).release b e

/-- The post of a wait released in cycle `e`. -/
def Blocked.posts (b : Blocked) (e : Nat) : List Post := if b.post = 0 then [] else [Post.mk b.post e b.pc false]

/-- A release makes the wait's post and the clear that it asks for, and goes on. -/
theorem freed_eq {y : Tile} {b : Blocked} {f e : Nat} {c : Bool} (hp : y.posts = []) (hc : y.clears = []) :
    ∃ a m ls p ib fi, y.freed b f c e = { y with
      block := none, posts := b.posts e, clears := if c then [f] else []
      pc := a, nextIssue := m, loops := ls, passes := p, inBody := ib, finished := fi } := by
  obtain ⟨a, m, ls, p, ib, fi, h⟩ := goOn_eq ({ y with
      block := none, posts := b.posts e, clears := if c then [f] else [] }) (b.pc + 1) (e + 1) (e + 1)
  refine ⟨a, m, ls, p, ib, fi, ?_⟩
  rw [← h]
  unfold Tile.freed Tile.release Blocked.posts
  dsimp only
  rw [hp, hc]
  rfl

/-- The tile waits for flag `f` and does nothing else but settle its flags. -/
structure Tile.WaitsFlag (y : Tile) (b : Blocked) (f n : Nat) (c : Bool) : Prop where
  idle : y.Idle
  posts : y.posts = []
  clears : y.clears = []
  block : y.block = some b
  wait : b.wait = .flag f c n

section
variable {t e f n : Nat} {c : Bool} {b : Blocked} {s u : State} {y : Tile} {x : Cycle} {cs : List Cond} {bs : List Nat}

theorem Tile.WaitsFlag.busy (h : y.WaitsFlag b f n c) : y.quiet = false := by
  rw [← Bool.not_eq_true, quiet_iff]
  rintro ⟨-, -, -, -, hblock, -⟩
  rw [h.block] at hblock
  cases hblock

/-- A cycle that begins with the flag at 0 and the bound not past releases nothing. -/
theorem Cycle.At.cycleStart_waitsFlag (h : Cycle.At t s y cs bs x) (hw : y.WaitsFlag b f n c) (hf : bit y.flags f = false)
    (hin : s.expired b.stall n = false) (e : Nat) : Cycle.At t s y cs bs (cycleStart t e x) := by
  have hblock : (x.s.tile t).block = some b := by rw [h.state.tile, hw.block]
  have hexp : x.s.expired b.stall n = false := (h.state.part (fun s => s.expired b.stall n)).trans hin
  have hbound : x.s.expiredFlag t = [] := by
    rw [expiredFlag_waiting hblock hw.wait, if_neg (by simp [hexp])]
  have hrel : TileIs t s y (x.s.releaseAt t e) := by
    rw [releaseAt_waiting hblock hw.wait (by rw [h.state.tile, hf, Bool.false_and])]
    exact h.state
  have hstart := h.cycleStart_idle hw.idle hbound hrel hw.idle
  rwa [List.append_nil] at hstart

/-- A cycle that begins with the bound past releases nothing, and meets FLAG_WAIT_BOUND (R194). -/
theorem Cycle.At.cycleStart_overdue (h : Cycle.At t s y cs bs x) (hw : y.WaitsFlag b f n c) (hout : s.expired b.stall n = true) (e : Nat) :
    Cycle.At t s y (cs ++ [cond .flagWaitBound b.pc (f + 2 ^ 16 * n)]) bs (cycleStart t e x) := by
  have hblock : (x.s.tile t).block = some b := by rw [h.state.tile, hw.block]
  have hexp : x.s.expired b.stall n = true := (h.state.part (fun s => s.expired b.stall n)).trans hout
  have hbound : x.s.expiredFlag t = [cond .flagWaitBound b.pc (f + 2 ^ 16 * n)] := by
    rw [expiredFlag_waiting hblock hw.wait, if_pos hexp]
  have hrel : TileIs t s y (x.s.releaseAt t e) := by
    rw [releaseAt_waiting hblock hw.wait (by rw [hexp, Bool.not_true, Bool.and_false])]
    exact h.state
  exact h.cycleStart_idle hw.idle hbound hrel hw.idle

/-- A cycle that begins with the flag at 1 releases the sequencer. -/
theorem Cycle.At.cycleStart_freed (h : Cycle.At t s y cs bs x) (hw : y.WaitsFlag b f n c) (hf : bit y.flags f = true)
    (hin : s.expired b.stall n = false) (e : Nat) :
    Cycle.At t (s.waitEnded t b.stall) (y.freed b f c e) cs bs (cycleStart t e x) := by
  have hblock : (x.s.tile t).block = some b := by rw [h.state.tile, hw.block]
  have hexp : x.s.expired b.stall n = false := (h.state.part (fun s => s.expired b.stall n)).trans hin
  have hbound : x.s.expiredFlag t = [] := by
    rw [expiredFlag_waiting hblock hw.wait, if_neg (by simp [hexp])]
  have hrel : TileIs t (s.waitEnded t b.stall) (y.freed b f c e) (x.s.releaseAt t e) := by
    rw [releaseAt_set hblock hw.wait (by rw [h.state.tile, hf]) hexp, h.state.tile]
    exact (h.state.waitEnded b.stall).setTile _
  obtain ⟨a, m, ls, p, ib, fi, heq⟩ := freed_eq (b := b) (f := f) (c := c) (e := e) hw.posts hw.clears
  have hidle : (y.freed b f c e).Idle := by
    rw [heq]
    exact { hw.idle with }
  have hstart := h.cycleStart_idle hw.idle hbound hrel hidle
  rwa [List.append_nil] at hstart

/-- The cycle in which the flag of a wait is set: the wait stays. -/
theorem tileCycle_setsFlag {k : FlagSet} (h : TileIs t s y u) (hw : y.WaitsFlag b k.f n c) (hs : y.sets = [k])
    (hf : bit y.flags k.f = false) (hin : s.expired b.stall n = false) :
    TileIs t s (y.settleFlags.ended y.now s.nextMeasureBeat) (tileCycle u t []) := by
  have hstart := (Cycle.At.begin h hw.idle.claim []).cycleStart_waitsFlag hw hf hin y.now
  have hunits := hstart.unitsCycle_idle (c := y.now) hw.idle hw.posts
  rw [setTwice_none hs hf] at hunits
  exact tileCycle_none (by rw [h.tile]) hunits

/-- The cycle in which the sequencer is released: its post applies, and the clear that it asks for. -/
theorem tileCycle_freed (h : TileIs t s y u) (hw : y.WaitsFlag b f n c) (hs : y.sets = []) (hf : bit y.flags f = true)
    (hin : s.expired b.stall n = false) (hpost : b.post = 0 ∨ bit y.board b.post = false) :
    ∃ z, TileIs t (s.waitEnded t b.stall) z (tileCycle u t []) ∧ z.Idle ∧ z.block = none ∧ bit z.flags f = !c := by
  have hstart := (Cycle.At.begin h hw.idle.claim []).cycleStart_freed hw hf hin y.now
  obtain ⟨a, m, ls, p, ib, fi, heq⟩ := freed_eq (b := b) (f := f) (c := c) (e := y.now) hw.posts hw.clears
  rw [heq] at hstart
  have hidle : Tile.Idle { y with
      block := none, posts := b.posts y.now, clears := if c then [f] else []
      pc := a, nextIssue := m, loops := ls, passes := p, inBody := ib, finished := fi } := { hw.idle with }
  by_cases hp : b.post = 0
  · have hunits := hstart.unitsCycle_idle (c := y.now) hidle (if_pos hp)
    have hno (g : FlagSet → List Cond) : y.sets.flatMap g = [] := by rw [hs]; rfl
    rw [hno] at hunits
    exact ⟨_, tileCycle_none (by rw [h.tile]) hunits, { hidle with claim := rfl }, rfl, settleFlags_clear hs rfl hf⟩
  · have hunits := hstart.unitsCycle_post (c := y.now) hidle (if_neg hp) (.inl rfl) le_rfl hp (hpost.resolve_left hp) hs
    exact ⟨_, tileCycle_none (by rw [h.tile]) hunits, { hidle with claim := rfl }, rfl, settleFlags_clear hs rfl hf⟩

end

end Sys2Proof.Machine

namespace Sys2Proof.Machine

/-! ### A flag set that arrives (R135, R136, R219) -/

section
variable {t q e f : Nat} {s u : State} {x y : Tile}

/-- A set that arrives at a quiet tile, of a flag at 0: it is seen in the next cycle. -/
theorem arrived_set (h : TileIs t s (x.setFlag f q x.pc) u) (hn : x.now = e) (hclock : s.clockOf t ≤ e) (hq : x.quiet = true)
    (hf : bit x.flags f = false) : bit ((u.entered t (e + 1)).tile t).flags f = true := by
  obtain ⟨hy, hposts, hsets, hclears, hblock, -⟩ := (quiet_iff x).1 hq
  have hone : (x.setFlag f q x.pc).sets = [⟨f, q, x.pc⟩] := by
    unfold Tile.setFlag
    rw [hsets]
    rfl
  rw [entered_flags h hn hclock { hy with } hposts hblock (setTwice_none hone hf)]
  exact settleFlags_set (k := ⟨f, q, x.pc⟩) hone hclears hf

/-- A tile that waits, in the cycle in which its flag's set arrives and in the next, which releases it. -/
theorem arrived_waits {b : Blocked} {n : Nat} {c : Bool} (h : TileIs t s (x.setFlag f q x.pc) u) (hn : x.now = e)
    (hclock : s.clockOf t ≤ e) (hblock : x.block = some b) (hwait : b.wait = .flag f c n) (hq : { x with block := none }.quiet = true)
    (hf : bit x.flags f = false) (hin : s.expired b.stall n = false) :
    ∃ w z, TileIs t s z w ∧ z.WaitsFlag b f n c ∧ z.sets = [] ∧ bit z.flags f = true ∧ z.now = e + 1 ∧ z.board = x.board
      ∧ ∀ k, u.entered t (e + (k + 1)) = (cycleStart t (e + (k + 1)) (Cycle.begin (runCycles t k w) t [])).s := by
  obtain ⟨hy, hposts, hsets, hclears, -, -⟩ := (quiet_iff _).1 hq
  have hone : (x.setFlag f q x.pc).sets = [⟨f, q, x.pc⟩] := by
    unfold Tile.setFlag
    rw [show x.sets = [] from hsets]
    rfl
  have hw : (x.setFlag f q x.pc).WaitsFlag b f n c := ⟨{ hy with }, hposts, hclears, hblock, hwait⟩
  obtain ⟨v, hv, hrun⟩ := h.entered_add hn hclock
  refine ⟨_, _, tileCycle_setsFlag hv hw hone hf hin, ⟨{ hy with claim := rfl }, hposts, rfl, hblock, hwait⟩, rfl,
    settleFlags_set (k := ⟨f, q, x.pc⟩) hone hclears hf, congrArg (· + 1) hn, rfl, fun k => ?_⟩
  rw [hrun (k + 1), runCycles_busy (by rw [hv.tile, hw.busy])]

/-- The cycle after an arrival begins with the release. -/
theorem arrived_released {b : Blocked} {n : Nat} {c : Bool} (h : TileIs t s (x.setFlag f q x.pc) u) (hn : x.now = e)
    (hclock : s.clockOf t ≤ e) (hblock : x.block = some b) (hwait : b.wait = .flag f c n) (hq : { x with block := none }.quiet = true)
    (hf : bit x.flags f = false) (hin : s.expired b.stall n = false) :
    ((u.entered t (e + 1)).tile t).block = none
      ∧ (b.post ≠ 0 → Post.mk b.post (e + 1) b.pc false ∈ ((u.entered t (e + 1)).tile t).posts)
      ∧ (b.post = 0 ∨ bit x.board b.post = false → bit ((u.entered t (e + 2)).tile t).flags f = !c) := by
  obtain ⟨w, z, hw, hz, hsets, hon, hnow, hboard, hrun⟩ := arrived_waits h hn hclock hblock hwait hq hf hin
  have hfreed := ((Cycle.At.begin hw hz.idle.claim []).cycleStart_freed hz hon hin (e + 1)).state
  obtain ⟨a, m, ls, p, ib, fi, heq⟩ := freed_eq (b := b) (f := f) (c := c) (e := e + 1) hz.posts hz.clears
  have hentered : (u.entered t (e + 1)).tile t = z.freed b f c (e + 1) := by
    rw [hrun 0]
    exact hfreed.tile
  rw [hentered, heq]
  refine ⟨rfl, fun hpost => ?_, fun hpost => ?_⟩
  · unfold Blocked.posts
    rw [if_neg hpost]
    exact List.mem_singleton.2 rfl
  · obtain ⟨z', hz', hidle, hnone, hflag⟩ := tileCycle_freed hw hz hsets hon hin (hboard.symm ▸ hpost)
    rw [hrun 1, runCycles_busy (by rw [hw.tile, hz.busy])]
    have hnext := (Cycle.At.begin hz' hidle.claim []).cycleStart_still (c := e + 2) hidle hnone
    exact (congrArg (fun x : Tile => bit x.flags f) hnext.state.tile).trans hflag

theorem Tile.Idle.stopped (h : y.Idle) : { y.stopUnits with halted := true }.Idle where
  cpend := rfl
  voiceLoad := rfl
  planeLoad := rfl
  mma := rfl
  mmaResults := rfl
  vrun := rfl
  vrunResults := rfl
  seed := h.seed
  push := rfl
  pull := rfl
  bwrites := rfl
  claim := rfl
  tests := h.tests
  landing := by
    intro a ha
    obtain ⟨a', ha', rfl⟩ := List.mem_map.1 ha
    exact h.landing a' ha'

theorem HaltedWith.of_tileIs {k : Cond} (h : HaltedWith s t k) (hu : TileIs t s (s.tile t) u) : HaltedWith u t k := by
  unfold HaltedWith
  rw [hu.tile, hu.get, hu.get, hu.get, hu.get]
  exact h

/-- A set that arrives at a quiet tile, of a flag at 1: the tile halts, and stays so when its next cycle begins. -/
theorem arrived_twice (h : TileIs t s (x.setFlag f q x.pc) u) (hn : x.now = e) (hclock : s.clockOf t ≤ e) (hq : x.quiet = true)
    (hh : x.halted = false) (hf : bit x.flags f = true) (hsource : q ≠ 6) :
    HaltedWith (u.entered t (e + 1)) t (cond .flagSetTwice x.pc (f + 2 ^ 8 * q)) := by
  obtain ⟨hy, hposts, hsets, hclears, hblock, -⟩ := (quiet_iff x).1 hq
  have hone : (x.setFlag f q x.pc).sets = [⟨f, q, x.pc⟩] := by
    unfold Tile.setFlag
    rw [hsets]
    rfl
  have hconds : (x.setFlag f q x.pc).sets.flatMap (x.setFlag f q x.pc).setTwice = [cond .flagSetTwice x.pc (f + 2 ^ 8 * q)] := by
    rw [hone, List.flatMap_singleton]
    unfold Tile.setTwice
    rw [hone, show (x.setFlag f q x.pc).clears = [] from hclears, show (x.setFlag f q x.pc).flags = x.flags from rfl, hf]
    unfold Tile.nextPc
    rw [show (x.setFlag f q x.pc).block = none from hblock]
    simp [check, hsource, Tile.setFlag]
  have hidle : (x.setFlag f q x.pc).Idle := { hy with }
  have hbusy : (x.setFlag f q x.pc).quiet = false := by
    rw [← Bool.not_eq_true, quiet_iff]
    rintro ⟨-, -, hnone, -⟩
    rw [hone] at hnone
    cases hnone
  obtain ⟨v, hv, hrun⟩ := h.entered_add hn hclock
  have hunits := ((Cycle.At.begin hv hidle.claim []).cycleStart_still (c := e) hidle hblock).unitsCycle_idle (c := e) hidle hposts
  rw [hconds] at hunits
  obtain ⟨w, hw, heq⟩ := tileCycle_some (by rw [hv.tile]; exact hn) hunits rfl
  have hhalts := hw.halts hh hy.vrun hy.vrunResults (cond .flagSetTwice x.pc (f + 2 ^ 8 * q))
  rw [hrun 1, runCycles_busy (by rw [hv.tile, hbusy]), heq]
  have hstopped : ((w.haltTile t (cond .flagSetTwice x.pc (f + 2 ^ 8 * q))).tile t).Idle := by
    rw [hhalts.tile]
    exact Tile.Idle.stopped (y := (x.setFlag f q x.pc).settleFlags.ended e s.nextMeasureBeat) { hy with claim := rfl }
  have hsame := (Cycle.At.begin (TileIs.refl t _) hstopped.claim []).cycleStart_still (c := e + 1) hstopped (by rw [hhalts.tile]; rfl)
  exact hhalts.record.of_tileIs hsame.state

end

end Sys2Proof.Machine

namespace Sys2Proof.Machine

/-! ### The parts of the statement -/

section
variable {t : TileIx} {s v : State} {e f : Nat}

/-- The first flag set of a path of the die network comes to its end. -/
theorem exec_flagSetArrival_far {q : Fin 6} {l : List DnItem} (he : s.tileEvent t e = true) (hv : v = s.entered t e) (hfar : 4 ≤ q.val)
    (hfirst : firstDnFlag (Table.get [] v.dn (2 * t + (1 - (q.val - 4)))) [] (Table.get [] v.dn (2 * t + (q.val - 4))) = some (f, l)) :
    exec (.flagSetArrival t q e) s
      = .next (({ v with dn := Table.set [] v.dn (2 * t + (q.val - 4)) l }).modTile t (fun x => x.setFlag f q x.pc)) := by
  subst hv
  have hpath : s.begin.pathClocked t q = true := by
    unfold State.pathClocked
    rw [show s.begin.tileClocked t = true from tileEvent_clocked he, if_neg (by omega)]
    rfl
  have harrive : (s.entered t e).arrivingFlag t q
      = some (f, { s.entered t e with dn := Table.set [] (s.entered t e).dn (2 * t + (q.val - 4)) l }) := by
    unfold State.arrivingFlag
    rw [if_neg (by omega)]
    dsimp only
    rw [hfirst]
    rfl
  show execFlagSetArrival t q e s = _
  unfold execFlagSetArrival
  dsimp only
  rw [show s.begin.tileEvent t e = true from he, hpath, if_neg (by decide)]
  rw [show s.begin.enterCycle t e = s.entered t e from rfl, harrive]

/-- A set that arrives from the die network (R135, R136, R219). -/
theorem flagSetArrival_far {q : Fin 6} {l : List DnItem} (hv : v = s.entered t e) (he : s.tileEvent t e = true) (hfar : 4 ≤ q.val)
    (hfirst : firstDnFlag (Table.get [] v.dn (2 * t + (1 - (q.val - 4)))) [] (Table.get [] v.dn (2 * t + (q.val - 4))) = some (f, l)) :
    s.Runs (.flagSetArrival t q e) (fun u =>
      u.tile t = (v.tile t).setFlag f q (v.tile t).pc ∧ u.dn = Table.set [] v.dn (2 * t + (q - 4)) l
      ∧ u.regs = v.regs ∧ (∀ k, k ≠ t.val → u.tile k = v.tile k) ∧ SameBytes v u
      ∧ ((v.tile t).quiet = true → bit (v.tile t).flags f = false → bit ((u.entered t (e + 1)).tile t).flags f = true)
      ∧ (∀ b c n, (v.tile t).block = some b → b.wait = .flag f c n → { v.tile t with block := none }.quiet = true →
          bit (v.tile t).flags f = false → v.expired b.stall n = false → ((u.entered t (e + 1)).tile t).block = none
            ∧ (b.post ≠ 0 → Post.mk b.post (e + 1) b.pc false ∈ ((u.entered t (e + 1)).tile t).posts)
            ∧ (b.post = 0 ∨ bit (v.tile t).board b.post = false → bit ((u.entered t (e + 2)).tile t).flags f = !c))
      ∧ ((v.tile t).quiet = true → (v.tile t).halted = false → bit (v.tile t).flags f = true →
          HaltedWith (u.entered t (e + 1)) t ⟨0x34, 4, (v.tile t).pc, f + 2 ^ 8 * q.val⟩)) := by
  have hnow : (v.tile t).now = e := by
    rw [hv]
    exact entered_now (tileEvent_now he)
  have hclock := entered_clock he hv
  have hset := (TileIs.refl t { v with dn := Table.set [] v.dn (2 * t + (q.val - 4)) l }).modTile (fun x => x.setFlag f q x.pc)
  have hq : q.val ≠ 6 := by omega
  exact ⟨_, exec_flagSetArrival_far he hv hfar hfirst, hset.tile, hset.part State.dn, hset.part State.regs, hset.others,
    hset.sameBytes, fun hquiet hf => arrived_set hset hnow hclock hquiet hf,
    fun b c n hblock hwait hquiet hf hin => arrived_released hset hnow hclock hblock hwait hquiet hf hin,
    fun hquiet hh hf => haltedWith_cond (arrived_twice hset hnow hclock hquiet hh hf hq) 4⟩

/-- A flag wait that has outlasted its bound halts (R134, R194). -/
theorem flagWaitBound_halts {b : Blocked} {c : Bool} {n : Nat} (he : s.tileEvent t e = true) (hn : s.nowOf t = e)
    (hblock : (s.tile t).block = some b) (hwait : b.wait = .flag f c n) (hh : (s.tile t).halted = false)
    (hq : { s.tile t with block := none }.quiet = true) (hpast : b.stall.counted + n ≤ s.time.counted) :
    s.Runs (.flagWaitBound t e) (fun u => HaltedWith u t ⟨0x33, 4, b.pc, f + 2 ^ 16 * n⟩) := by
  obtain ⟨hy, hposts, hsets, hclears, -, -⟩ := (quiet_iff _).1 hq
  have hhere := runTo_here hn
  have hwaits : Tile.WaitsFlag { s.tile t with now := e } b f n c := ⟨{ hy with }, hposts, hclears, hblock, hwait⟩
  have hexp : s.expired b.stall n = true := decide_eq_true hpast
  have hstart := (Cycle.At.begin hhere hwaits.idle.claim []).cycleStart_overdue hwaits hexp e
  have hunits := hstart.unitsCycle_idle (c := e) hwaits.idle hposts
  rw [show ({ s.tile t with now := e } : Tile).sets = [] from hsets] at hunits
  obtain ⟨w, hw, heq⟩ := tileCycle_some (by rw [hhere.tile]) hunits rfl
  have hdue : (!((s.begin.runTo t e).expiredFlag t).isEmpty) = true := by
    rw [hhere.expiredFlag rfl, expiredFlag_waiting hblock hwait, if_pos hexp]
    rfl
  have hexec : exec (.flagWaitBound t e) s = .next (tileCycle (s.begin.runTo t e) t []) :=
    cycleEvent_due (due := fun s => !(s.expiredFlag t).isEmpty) he hdue
  rw [heq] at hexec
  exact ⟨_, hexec, haltedWith_cond (hw.halts hh hy.vrun hy.vrunResults _).record 4⟩

end

/-- Settles O38: an own set and a wait complete at issue; a set that arrives settles at its cycle's end, and the next cycle begins with
the release of the wait or finds the tile halted. -/
theorem flagsSetAndWait : Obligations.FlagsSetAndWait := by
  unfold Obligations.FlagsSetAndWait
  intro t e w y s v hv
  exact ⟨fun h htarget hpost hf hsets => setFlag_own h hv htarget hpost hf hsets,
    fun h htarget hf hclear => setFlag_twice h htarget hf hclear,
    fun h hq hpost hthere hstage n hn => setFlag_near h hv hq hpost hthere hstage hn,
    fun h hbound f hf => ⟨fun hflag hpost => waitFlag_set h hv hbound hf hflag hpost, fun hflag => waitFlag_blocks h hv hbound hf hflag⟩,
    fun q f l he hfar hfirst => flagSetArrival_far hv he hfar hfirst,
    fun b f c n he hn hblock hwait hh hq hpast => flagWaitBound_halts he hn hblock hwait hh hq hpast⟩

end Sys2Proof.Machine

namespace Sys2Proof.Machine

/-! ### An instruction that issues and goes on (R181, R199) -/

section
variable {t : TileIx} {s u v : State} {e op w : Nat} {y z : Tile}

theorem issue_tileIs (hv : v = s.entered t e) (w : Nat) (y : Tile) : TileIs t v y (s.issue t e w y).s := by
  rw [hv]
  exact (TileIs.refl t _).setTile y

/-- The next instruction stands behind an instruction's own word and its extension words. -/
theorem issue_next (s : State) (t : TileIx) (e w : Nat) (y : Tile) :
    (s.issue t e w y).pc + (s.issue t e w y).len = y.pc + (1 + extOf w) := by
  unfold Issue.len State.issue
  rw [List.length_map, List.length_range]

theorem issues_extOf (h : s.Issues t e op w y) : extOf w = extNeeded w := by
  obtain ⟨-, u, x, rfl, rfl, -, -, -, hdec, -⟩ := h
  unfold decodeConds at hdec
  split at hdec
  · cases hdec
  · split at hdec
    · cases hdec
    · next hsame => exact not_not.1 hsame

/-- A command that issues an instruction whose checks pass runs to what the instruction's effect makes of the state; `r` is the
instruction's own definition. -/
theorem State.Issues.runs {c : Instr} {body : Issue → List Cond × State} {P : State → Prop} (h : s.Issues t e op w y)
    (r : Host.Outcome State Fault Refusal) (hc : exec c s = r) (hr : r = issueAt t e op body s)
    (hbody : body (s.issue t e w y) = ([], u)) (hP : P u) : s.Runs c P :=
  ⟨u, (hc.trans hr).trans (issueAt_passes h hbody), hP⟩

end

/-! ### The address after an instruction (R177, R180, R196, R215) -/

section
variable {x : Tile} {p : Prog} {l : Loop} {ls : List Loop} {pc c n : Nat}

theorem rollOn_again (hpc : pc = l.be) (hleft : 1 < l.left) : rollOn (l :: ls) pc c n
    = (l.bs, max (max (l.start + l.iter) c) n, { l with left := l.left - 1, start := max (l.start + l.iter) c } :: ls) := by
  unfold rollOn
  rw [if_pos hpc]
  exact if_pos hleft

theorem rollOn_leaves (hpc : pc = l.be) (hleft : l.left ≤ 1) : rollOn (l :: ls) pc c n
    = rollOn ls l.be (max (l.start + l.iter) c + l.pad) (max (max (l.start + l.iter) c + l.pad) n) := by
  rw [rollOn, if_pos hpc]
  exact if_neg (Nat.not_lt.2 hleft)

theorem regionOn_within (hp : x.prog = some p) (h : x.pc ≠ x.progEnd ∨ x.loops ≠ []) : x.regionOn = x := by
  unfold Tile.regionOn
  rw [hp]
  exact if_pos h

theorem progEnd_body (hp : x.prog = some p) (hb : x.inBody = true) : x.progEnd = p.body + p.bodyWords := by
  unfold Tile.progEnd
  rw [hp, hb]
  rfl

theorem progEnd_prologue (hp : x.prog = some p) (hb : x.inBody = false) : x.progEnd = p.prologue + p.prologueWords := by
  unfold Tile.progEnd
  rw [hp, hb]
  rfl

/-- The end of the prologue leads to the body. -/
theorem regionOn_prologue (hp : x.prog = some p) (hl : x.loops = []) (hpc : x.pc = x.progEnd) (hb : x.inBody = false) :
    x.regionOn = { x with pc := p.body, inBody := true } := by
  have hno : ¬ (x.pc ≠ x.progEnd ∨ x.loops ≠ []) := by tauto
  unfold Tile.regionOn
  rw [hp]
  dsimp only
  rw [if_neg hno, hb]
  rfl

/-- The end of the body leads to the body again, until its repeats are done. -/
theorem regionOn_body (hp : x.prog = some p) (hl : x.loops = []) (hpc : x.pc = x.progEnd) (hb : x.inBody = true) :
    x.regionOn = if p.repeats = 0 ∨ x.passes + 1 < p.repeats then { x with pc := p.body, passes := x.passes + 1 }
      else { x with passes := x.passes + 1, finished := true } := by
  have hno : ¬ (x.pc ≠ x.progEnd ∨ x.loops ≠ []) := by tauto
  unfold Tile.regionOn
  rw [hp]
  dsimp only
  rw [if_neg hno, if_pos hb]

/-- The times and the loops are the sequencer's, whatever the region asks for. -/
theorem regionOn_keeps (x : Tile) : x.regionOn.nextIssue = x.nextIssue ∧ x.regionOn.loops = x.loops := by
  unfold Tile.regionOn
  split
  · exact ⟨rfl, rfl⟩
  · dsimp only
    (repeat' split) <;> exact ⟨rfl, rfl⟩

/-- Outside a loop the address is the one given, and the region may ask for another. -/
theorem goOn_outside (hl : x.loops = []) : x.goOn pc c n = { x with pc := pc, nextIssue := n }.regionOn := by
  unfold Tile.goOn
  rw [hl]
  show Tile.regionOn { x with pc := pc, nextIssue := n, loops := [] } = _
  rw [← hl]

theorem goOn_within (hp : x.prog = some p) (hl : x.loops = []) (hb : x.inBody = true) (hpc : pc ≠ p.body + p.bodyWords) :
    x.goOn pc c n = { x with pc := pc, nextIssue := n } := by
  rw [goOn_outside hl]
  exact regionOn_within hp (.inl (fun hend => hpc (hend.trans (progEnd_body hp hb))))

theorem goOn_prologueEnd (hp : x.prog = some p) (hl : x.loops = []) (hb : x.inBody = false)
    (hpc : pc = p.prologue + p.prologueWords) : x.goOn pc c n = { x with pc := p.body, nextIssue := n, inBody := true } := by
  rw [goOn_outside hl]
  exact regionOn_prologue hp hl (hpc.trans (progEnd_prologue hp hb).symm) hb

theorem goOn_bodyEnd (hp : x.prog = some p) (hl : x.loops = []) (hb : x.inBody = true) (hpc : pc = p.body + p.bodyWords) :
    x.goOn pc c n = if p.repeats = 0 ∨ x.passes + 1 < p.repeats then { x with pc := p.body, nextIssue := n, passes := x.passes + 1 }
      else { x with pc := pc, nextIssue := n, passes := x.passes + 1, finished := true } := by
  rw [goOn_outside hl]
  exact regionOn_body hp hl (hpc.trans (progEnd_body hp hb).symm) hb

/-- At a loop's end with iterations left the body begins again, at the time the iteration takes. -/
theorem goOn_loopAgain (hp : x.prog = some p) (hl : x.loops = l :: ls) (hpc : pc = l.be) (hleft : 1 < l.left) :
    x.goOn pc c n = { x with
      pc := l.bs, nextIssue := max (max (l.start + l.iter) c) n
      loops := { l with left := l.left - 1, start := max (l.start + l.iter) c } :: ls } := by
  unfold Tile.goOn
  rw [hl, rollOn_again hpc hleft]
  exact regionOn_within hp (.inr (List.cons_ne_nil _ _))

/-- The last iteration of the only loop ends it after its padding. -/
theorem goOn_loopDone (hl : x.loops = [l]) (hpc : pc = l.be) (hleft : l.left ≤ 1) :
    (x.goOn pc c n).loops = [] ∧ (x.goOn pc c n).nextIssue = max (max (l.start + l.iter) c + l.pad) n := by
  unfold Tile.goOn
  rw [hl, rollOn_leaves hpc hleft]
  exact (regionOn_keeps _).symm

end

/-! ### ROLL (R195 to R197, R215) -/

section
variable {t : TileIx} {s v : State} {e w : Nat} {y : Tile} {i : Issue}

/-- The loop that a ROLL begins. -/
def Issue.roll (i : Issue) : Loop :=
  ⟨i.pc + 2, rollEnd i, rollCount i, i.e + 1, i.ext 0 % 2 ^ 16, (bits i.w 37 22 - rollCount i) * (i.ext 0 % 2 ^ 16)⟩

/-- The tile as a ROLL leaves it: at the body's first word, or past the body where it has no iteration. -/
def Issue.rolled (i : Issue) (y : Tile) : Tile :=
  if rollCount i = 0 then y.goOn (rollEnd i) (i.e + 1 + bits i.w 37 22 * (i.ext 0 % 2 ^ 16)) (i.e + 1 + bits i.w 37 22 * (i.ext 0 % 2 ^ 16))
  else { y with pc := i.pc + 2, nextIssue := i.e + 1, loops := i.roll :: y.loops }

theorem roll_runs (h : s.Issues t e 0x08 w y) (hv : v = s.entered t e) (hpost : y.canPost w)
    (hconds : rollConds (s.issue t e w y) = []) : s.Runs (.roll t e) (TileIs t v ((s.issue t e w y).rolled (y.posted w))) := by
  refine h.runs (execRoll t e s) rfl rfl ?_ ((issue_tileIs hv w y).setTile _)
  dsimp only
  rw [issue_x, issue_w, canPost_postNow _ hpost, hconds]
  unfold Issue.rolled
  split <;> rfl

theorem roll_begins (h : s.Issues t e 0x08 w y) (hv : v = s.entered t e) (hpost : y.canPost w) (hi : i = s.issue t e w y)
    (hconds : rollConds i = []) (hn : 0 < rollCount i) :
    s.Runs (.roll t e) (fun u => OnlyTile t v u ∧ ∃ l, u.tile t = { y.posted w with
        pc := y.pc + 2, nextIssue := e + 1, loops := l :: y.loops } ∧ l.bs = y.pc + 2 ∧ l.be = y.pc + 2 + bits w 54 43
      ∧ l.left = rollCount i ∧ l.start = e + 1 ∧ l.iter = i.ext 0 % 2 ^ 16
      ∧ l.pad = (bits w 37 22 - rollCount i) * (i.ext 0 % 2 ^ 16)) := by
  subst hi
  obtain ⟨u, hrun, hu⟩ := roll_runs h hv hpost hconds
  have hloops : (y.posted w).loops = y.loops := by
    unfold Tile.posted
    split <;> rfl
  refine ⟨u, hrun, hu.onlyTile, (s.issue t e w y).roll, ?_, rfl, rfl, rfl, rfl, rfl, rfl⟩
  rw [hu.tile, ← hloops]
  exact if_neg hn.ne'

theorem roll_skips (h : s.Issues t e 0x08 w y) (hv : v = s.entered t e) (hpost : y.canPost w) (hi : i = s.issue t e w y)
    (hconds : rollConds i = []) (hn : rollCount i = 0) :
    s.Runs (.roll t e) (fun u => OnlyTile t v u ∧ ∀ n, n = e + 1 + bits w 37 22 * (i.ext 0 % 2 ^ 16) →
      u.tile t = (y.posted w).goOn (y.pc + 2 + bits w 54 43) n n) := by
  subst hi
  obtain ⟨u, hrun, hu⟩ := roll_runs h hv hpost hconds
  refine ⟨u, hrun, hu.onlyTile, ?_⟩
  rintro n rfl
  rw [hu.tile]
  exact if_pos hn

end

/-! ### WAIT.BEAT (R194, R214) -/

section
variable {t : TileIx} {s v : State} {e w b tm : Nat} {y : Tile}

/-- The tile at the issue of a WAIT.BEAT, its target noted. -/
def Tile.towards (y : Tile) (tm b : Nat) : Tile := { y with tm := tm, reached := max y.reached b }

theorem waitBeat_towards (hv : v = s.entered t e) : TileIs t v (y.towards tm b) ((s.issue t e w y).s.modTile t (fun x => x.towards tm b)) :=
  (issue_tileIs hv w y).modTile (fun x => x.towards tm b)

theorem towards_beatBegun (hv : v = s.entered t e) :
    ((s.issue t e w y).s.modTile t (fun x => x.towards tm b)).beatBegun b = v.beatBegun b :=
  (waitBeat_towards hv).part (fun x => x.beatBegun b)

/-- A plan beat that has begun lets the sequencer go on. -/
theorem waitBeat_reached (h : s.Issues t e 0x09 w y) (hv : v = s.entered t e) (htm : tm = if bit w 26 then (y.tm + 1) % 2 ^ 60 else y.tm)
    (hb : b = 16 * tm + bits w 25 22) (hbegun : v.beatBegun b = true) (hpost : y.canPost w) :
    s.Runs (.waitBeat t e) (fun u => OnlyTile t v u
      ∧ u.tile t = ({ y with tm := tm, reached := max y.reached b }.posted w).goOn (y.pc + 1) (e + 1) (e + 1)) := by
  have hnoted := waitBeat_towards (w := w) (y := y) (tm := tm) (b := b) hv
  have hext : extNeeded w = 0 := by
    unfold extNeeded
    rw [issues_opcode h]
    rfl
  have hdone := hnoted.setTile (((y.towards tm b).posted w).goOn (y.pc + 1) (e + 1) (e + 1))
  refine h.runs (execWaitBeat t e s) rfl rfl ?_ ⟨hdone.onlyTile, hdone.tile⟩
  have hcomplete := issue_completes h hext hnoted.tile hpost
  have hgo := (towards_beatBegun (w := w) (y := y) (tm := tm) (b := b) hv).trans hbegun
  dsimp only
  rw [issue_x, issue_w, issue_t, ← htm, ← hb]
  exact (if_pos hgo).trans hcomplete

/-- A plan beat that has not begun blocks the sequencer. -/
theorem waitBeat_blocks (h : s.Issues t e 0x09 w y) (hv : v = s.entered t e) (htm : tm = if bit w 26 then (y.tm + 1) % 2 ^ 60 else y.tm)
    (hb : b = 16 * tm + bits w 25 22) (hbegun : v.beatBegun b = false) :
    s.Runs (.waitBeat t e) (fun u => OnlyTile t v u ∧ u.tile t = { y with
      tm := tm, reached := max y.reached b, block := some ⟨.beat b, postOf w, y.pc, v.nowStall⟩ }) := by
  have hnoted := waitBeat_towards (w := w) (y := y) (tm := tm) (b := b) hv
  have hblocked := hnoted.modTile (fun x => { x with block := some ⟨.beat b, postOf w, y.pc, v.nowStall⟩ })
  refine h.runs (execWaitBeat t e s) rfl rfl ?_ ⟨hblocked.onlyTile, hblocked.tile⟩
  have hwait : ¬ ((s.issue t e w y).s.modTile t (fun x => x.towards tm b)).beatBegun b = true := by
    rw [towards_beatBegun hv, hbegun]
    decide
  dsimp only
  rw [issue_x, issue_w, issue_t, ← htm, ← hb]
  exact (if_neg hwait).trans (congrArg (fun st => ([], State.modTile _ t (fun x =>
    { x with block := some ⟨.beat b, postOf w, y.pc, st⟩ }))) (hnoted.part State.nowStall))

/-! ### A sequencer that waits for a plan beat -/

/-- A wait for a plan beat is released once the beat has begun. -/
theorem releaseAt_beat {t target : Nat} {b : Blocked} (h : (s.tile t).block = some b) (hw : b.wait = .beat target) (c : Nat) :
    s.releaseAt t c = if s.beatBegun target then s.setTile t ((s.tile t).release b c) else s := by
  unfold State.releaseAt
  dsimp only
  rw [h]
  dsimp only
  rw [hw]

/-- No bound stands on a wait for a plan beat. -/
theorem expiredFlag_beat {t target : Nat} {b : Blocked} (h : (s.tile t).block = some b) (hw : b.wait = .beat target) :
    s.expiredFlag t = [] := by
  unfold State.expiredFlag
  rw [h]
  dsimp only
  rw [hw]

/-- A release touches no unit, and makes the wait's post. -/
theorem release_eq (y : Tile) (b : Blocked) (c : Nat) : ∃ a m ls p ib fi, y.release b c = { y with
    block := none, posts := if b.post = 0 then y.posts else y.posts ++ [Post.mk b.post c b.pc false]
    pc := a, nextIssue := m, loops := ls, passes := p, inBody := ib, finished := fi } := by
  obtain ⟨a, m, ls, p, ib, fi, h⟩ := goOn_eq ({ y with
    block := none, posts := if b.post = 0 then y.posts else y.posts ++ [Post.mk b.post c b.pc false] }) (b.pc + 1) (c + 1) (c + 1)
  exact ⟨a, m, ls, p, ib, fi, h⟩

/-- The cycle that begins with its sequencer released, or not. -/
theorem entered_beat {target : Nat} {b : Blocked} (hn : s.nowOf t = e) (hb : (s.tile t).block = some b) (hw : b.wait = .beat target)
    (hq : { s.tile t with block := none }.quiet = true) :
    TileIs t s (if s.beatBegun target then Tile.release { s.tile t with now := e } b e else { s.tile t with now := e }) (s.entered t e) := by
  obtain ⟨hy, -⟩ := (quiet_iff _).1 hq
  have hidle : Tile.Idle { s.tile t with now := e } := { hy with }
  have hbegin := Cycle.At.begin (runTo_here hn) hidle.claim []
  have hblock : ((Cycle.begin (s.begin.runTo t e) t []).s.tile t).block = some b := by
    rw [hbegin.state.tile]
    exact hb
  have hbegun : (Cycle.begin (s.begin.runTo t e) t []).s.beatBegun target = s.beatBegun target :=
    hbegin.state.part (fun x => x.beatBegun target)
  have hrelease := releaseAt_beat hblock hw e
  rw [hbegun, hbegin.state.tile] at hrelease
  obtain ⟨a, m, ls, p, ib, fi, heq⟩ := release_eq { s.tile t with now := e } b e
  split
  · next hgo =>
    rw [if_pos hgo] at hrelease
    refine (hbegin.cycleStart_idle hidle (expiredFlag_beat hblock hw) (by rw [hrelease]; exact hbegin.state.setTile _) ?_).state
    rw [heq]
    exact { hidle with }
  · next hstay =>
    rw [if_neg hstay] at hrelease
    exact (hbegin.cycleStart_idle hidle (expiredFlag_beat hblock hw) (by rw [hrelease]; exact hbegin.state) hidle).state

theorem exec_waitBeatRelease (he : s.tileEvent t e = true) : exec (.waitBeatRelease t e) s = .next (s.entered t e) := by
  show execWaitBeatRelease t e s = _
  unfold execWaitBeatRelease
  exact if_pos he

/-- WAIT_BEAT_RELEASE of a plan beat that has begun. -/
theorem waitBeatRelease_begun {target : Nat} {b : Blocked} (he : s.tileEvent t e = true) (hn : s.nowOf t = e)
    (hb : (s.tile t).block = some b) (hw : b.wait = .beat target) (hq : { s.tile t with block := none }.quiet = true)
    (hbegun : s.beatBegun target = true) :
    s.Runs (.waitBeatRelease t e) (fun u => OnlyTile t s u ∧ (u.tile t).block = none
      ∧ u.tile t = { s.tile t with now := e, block := none
                                   posts := if b.post = 0 then [] else [Post.mk b.post e b.pc false] }.goOn
            (b.pc + 1) (e + 1) (e + 1)) := by
  obtain ⟨-, hposts, -⟩ := (quiet_iff _).1 hq
  have hentered := entered_beat hn hb hw hq
  rw [if_pos hbegun] at hentered
  obtain ⟨a, m, ls, p, ib, fi, heq⟩ := release_eq { s.tile t with now := e } b e
  refine ⟨_, exec_waitBeatRelease he, hentered.onlyTile, by rw [hentered.tile, heq], ?_⟩
  rw [hentered.tile, Tile.release, show ({ s.tile t with now := e } : Tile).posts = [] from hposts]
  rfl

/-- WAIT_BEAT_RELEASE of a plan beat that has not begun. -/
theorem waitBeatRelease_early {target : Nat} {b : Blocked} (he : s.tileEvent t e = true) (hn : s.nowOf t = e)
    (hb : (s.tile t).block = some b) (hw : b.wait = .beat target) (hq : { s.tile t with block := none }.quiet = true)
    (hbegun : s.beatBegun target = false) :
    s.Runs (.waitBeatRelease t e) (fun u => OnlyTile t s u ∧ u.tile t = { s.tile t with now := e }) := by
  have hentered := entered_beat hn hb hw hq
  rw [if_neg (by rw [hbegun]; decide)] at hentered
  exact ⟨_, exec_waitBeatRelease he, hentered.onlyTile, hentered.tile⟩

end

/-- Settles O37: the address goes on by the innermost loop's end, and outside the loops by the region's; a ROLL and a WAIT.BEAT are
their issues, and a release is the beginning of its cycle. -/
theorem programOrder : Obligations.ProgramOrder := by
  unfold Obligations.ProgramOrder
  refine ⟨fun x p pc c n hp => ⟨fun hl hb hpc => ?within, fun hl hb hpc => ?prologue, fun hl hb hpc => ?body,
      fun l ls hl hpc hleft => ?again, fun l hl hpc hleft => goOn_loopDone hl hpc hleft⟩,
    fun t e w y s v hv => ⟨fun h hpost hconds i hi => ⟨fun hn => ?_, fun hn => ?_⟩,
      fun h tm htm b hb => ⟨fun hbegun hpost => waitBeat_reached h hv htm hb hbegun hpost,
        fun hbegun => waitBeat_blocks h hv htm hb hbegun⟩,
      fun b target he hn hb hw hq => ⟨fun hbegun => waitBeatRelease_begun he hn hb hw hq hbegun,
        fun hbegun => waitBeatRelease_early he hn hb hw hq hbegun⟩⟩⟩
  case within =>
    rw [goOn_within hp hl hb hpc]
    exact ⟨rfl, rfl, rfl, rfl⟩
  case prologue =>
    rw [goOn_prologueEnd hp hl hb hpc]
    exact ⟨rfl, rfl⟩
  case body =>
    rw [goOn_bodyEnd hp hl hb hpc]
    refine ⟨?_, fun hmore => ?_, fun hsome hdone => ?_⟩
    · split <;> rfl
    · rw [if_pos hmore]
      exact ⟨rfl, rfl⟩
    · rw [if_neg (by omega)]
  case again =>
    rw [goOn_loopAgain hp hl hpc hleft]
    exact ⟨rfl, rfl, _, rfl, Nat.sub_add_cancel hleft.le, rfl, rfl, rfl⟩
  · exact roll_begins h hv hpost hi (hi ▸ hconds) hn
  · exact roll_skips h hv hpost hi (hi ▸ hconds) hn

end Sys2Proof.Machine

namespace Sys2Proof.Machine

/-! ### Instructions given to a unit (R181, R199)

A background instruction changes its unit, and the sequencer goes on past its words in the next cycle. -/

/-- The words of the instructions of the queues, the clocked units and the tiers, by opcode; an MMA's depend on its word (R182, R189). -/
def wordCounts : List (Nat × Nat) :=
  [(0x10, 2), (0x11, 2), (0x21, 2), (0x28, 1), (0x30, 3), (0x31, 3), (0x32, 4), (0x33, 1), (0x34, 3), (0x35, 3), (0x36, 4), (0x37, 4),
   (0x38, 1)]

theorem extNeeded_words {op n w : Nat} (hm : (op, n) ∈ wordCounts) (h : opcodeOf w = op) : 1 + extNeeded w = n := by
  have hall : ∀ p ∈ wordCounts, opcodeOf w = p.1 → 1 + extNeeded w = p.2 := by
    simp only [wordCounts, List.forall_mem_cons]
    refine ⟨?_, ?_, ?_, ?_, ?_, ?_, ?_, ?_, ?_, ?_, ?_, ?_, ?_, fun _ hp => absurd hp List.not_mem_nil⟩ <;>
    · intro hop
      unfold extNeeded
      rw [hop]
      rfl
  exact hall _ hm h

/-- The tile with an instruction's post to come in a later cycle. -/
def Tile.postLater (z : Tile) (w c pc : Nat) : Tile :=
  { z with posts := if postOf w = 0 then z.posts else z.posts ++ [Post.mk (postOf w) c pc false] }

section
variable {t : TileIx} {s u v : State} {e op w n : Nat} {y z : Tile}

theorem background_tileIs (hu : TileIs t v z u) :
    TileIs t v (z.goOn (y.pc + (1 + extOf w)) (e + 1) (e + 1)) ((s.issue t e w y).background u) := by
  unfold Issue.background
  rw [issue_next]
  exact hu.modTile (fun x => x.goOn (y.pc + (1 + extOf w)) (e + 1) (e + 1))

/-- A background instruction whose checks pass: `u` is the state in which its unit has it. -/
theorem State.Issues.runsBackground {c : Instr} {body : Issue → List Cond × State} (h : s.Issues t e op w y)
    (r : Host.Outcome State Fault Refusal) (hc : exec c s = r) (hr : r = issueAt t e op body s)
    (hbody : body (s.issue t e w y) = ([], (s.issue t e w y).background u)) (hn : 1 + extOf w = n) (hu : TileIs t v z u) :
    s.Runs c (TileIs t v (z.goOn (y.pc + n) (e + 1) (e + 1))) :=
  h.runs r hc hr hbody (hn ▸ background_tileIs hu)

theorem issues_words (h : s.Issues t e op w y) (hm : (op, n) ∈ wordCounts) : 1 + extOf w = n := by
  rw [issues_extOf h, extNeeded_words hm (issues_opcode h)]

/-- A background instruction of nothing, whose checks pass: it posts in the next cycle. -/
theorem State.Issues.runsNothing {c : Instr} {body : Issue → List Cond × State} (h : s.Issues t e op w y) (hv : v = s.entered t e)
    (r : Host.Outcome State Fault Refusal) (hc : exec c s = r) (hr : r = issueAt t e op body s)
    (hbody : body (s.issue t e w y) = ([], (s.issue t e w y).background ((s.issue t e w y).postAt (s.issue t e w y).s (e + 1))))
    (hn : 1 + extOf w = n) : s.Runs c (TileIs t v ((y.postLater w (e + 1) y.pc).goOn (y.pc + n) (e + 1) (e + 1))) := by
  refine h.runsBackground r hc hr hbody hn ?_
  have hissue := issue_tileIs hv w y
  unfold Issue.postAt Tile.postLater
  rw [issue_w]
  split
  · exact hissue
  · exact hissue.modTile (fun x => { x with posts := x.posts ++ [Post.mk (postOf w) (e + 1) y.pc false] })

theorem issue_nowStall (hv : v = s.entered t e) : (s.issue t e w y).s.nowStall = v.nowStall := (issue_tileIs hv w y).part State.nowStall

end

/-! ### PUSH and PULL (R217, R218) -/

/-- The PUSH that starts. -/
def pushOf (i : Issue) : PushOp :=
  ⟨bits i.w 24 22, (descOf (i.ext 0)).units, i.e, i.s.destOf i.t (bits i.w 24 22) (bits i.w 28 25), bits i.w 42 29, postOf i.w, i.pc,
    if i.s.pathFull i.t (bits i.w 24 22) then some i.s.nowStall else none⟩

/-- The PULL that starts. -/
def pullOf (i : Issue) : PullOp :=
  ⟨bits i.w 24 22, (descOf (i.ext 0)).units, 0, i.e, bits i.w 42 29, expectOf i.w, postOf i.w, i.pc,
    if (i.x.rxQ (bits i.w 24 22)).isEmpty then some i.s.nowStall else none⟩

section
variable {t : TileIx} {s v : State} {e w : Nat} {y : Tile}

theorem push_nothing (h : s.Issues t e 0x10 w y) (hv : v = s.entered t e) (hconds : pushConds (s.issue t e w y) = [])
    (hcount : (descOf ((s.issue t e w y).ext 0)).count = 0) :
    s.Runs (.push t e) (TileIs t v ((y.postLater w (e + 1) y.pc).goOn (y.pc + 2) (e + 1) (e + 1))) := by
  refine h.runsNothing hv (execPush t e s) rfl rfl ?_ (issues_words h (by decide))
  dsimp only
  rw [if_pos hcount, hconds]
  rfl

theorem push_starts (h : s.Issues t e 0x10 w y) (hv : v = s.entered t e) (hconds : pushConds (s.issue t e w y) = [])
    (hcount : (descOf ((s.issue t e w y).ext 0)).count ≠ 0) : s.Runs (.push t e) (TileIs t v
      ({ y with push := y.push ++ [pushOf (s.issue t e w y)] }.goOn (y.pc + 2) (e + 1) (e + 1))) := by
  refine h.runsBackground (execPush t e s) rfl rfl ?_ (issues_words h (by decide))
    ((issue_tileIs hv w y).modTile (fun x => { x with push := x.push ++ [pushOf (s.issue t e w y)] }))
  dsimp only
  rw [if_neg hcount, hconds]
  rfl

theorem pull_nothing (h : s.Issues t e 0x11 w y) (hv : v = s.entered t e) (hconds : pullConds (s.issue t e w y) = [])
    (hcount : (descOf ((s.issue t e w y).ext 0)).count = 0) :
    s.Runs (.pull t e) (TileIs t v ((y.postLater w (e + 1) y.pc).goOn (y.pc + 2) (e + 1) (e + 1))) := by
  refine h.runsNothing hv (execPull t e s) rfl rfl ?_ (issues_words h (by decide))
  dsimp only
  rw [if_pos hcount, hconds]
  rfl

theorem pull_starts (h : s.Issues t e 0x11 w y) (hv : v = s.entered t e) (hconds : pullConds (s.issue t e w y) = [])
    (hcount : (descOf ((s.issue t e w y).ext 0)).count ≠ 0) : s.Runs (.pull t e) (TileIs t v
      ({ y with pull := y.pull ++ [pullOf (s.issue t e w y)] }.goOn (y.pc + 2) (e + 1) (e + 1))) := by
  refine h.runsBackground (execPull t e s) rfl rfl ?_ (issues_words h (by decide))
    ((issue_tileIs hv w y).modTile (fun x => { x with pull := x.pull ++ [pullOf (s.issue t e w y)] }))
  dsimp only
  rw [if_neg hcount, hconds]
  rfl

end

/-! ### MMA.PLANE and MMA (R222 to R227) -/

section
variable {t : TileIx} {s v : State} {e w : Nat} {y : Tile}

theorem mmaPlane_starts (h : s.Issues t e 0x21 w y) (hv : v = s.entered t e) (hconds : planeConds (s.issue t e w y) = []) :
    s.Runs (.mmaPlane t e) (TileIs t v ({ y with
      planes := y.planes.set (bits w 22 22) none, planeLoad := some (planeLoadOf (s.issue t e w y)) }.goOn (y.pc + 2) (e + 1) (e + 1))) := by
  refine h.runsBackground (execMmaPlane t e s) rfl rfl ?_ (issues_words h (by decide)) ((issue_tileIs hv w y).modTile (fun x =>
    { x with planes := x.planes.set (bits w 22 22) none, planeLoad := some (planeLoadOf (s.issue t e w y)) }))
  rw [hconds]
  rfl

/-- What an MMA.PLANE's word says of its load; its units come from the bases and the format. -/
theorem planeLoadOf_word (i : Issue) : (planeLoadOf i).plane = bits i.w 22 22 ∧ (planeLoadOf i).fmt = bits i.w 26 23
    ∧ (planeLoadOf i).mode = i.x.mode ∧ (planeLoadOf i).depth = bits i.w 42 27 ∧ (planeLoadOf i).k0 = bits i.w 58 43
    ∧ (planeLoadOf i).got = [] ∧ (planeLoadOf i).next = i.e ∧ (planeLoadOf i).post = postOf i.w ∧ (planeLoadOf i).pc = i.pc :=
  ⟨rfl, rfl, rfl, rfl, rfl, rfl, rfl, rfl, rfl⟩

theorem mma_starts (h : s.Issues t e 0x20 w y) (hv : v = s.entered t e) (hconds : mmaConds (s.issue t e w y) = []) :
    s.Runs (.mma t e) (TileIs t v ({ y with mma := some (mmaOf (s.issue t e w y)) }.goOn (y.pc + (1 + extOf w)) (e + 1) (e + 1))) := by
  refine h.runsBackground (execMma t e s) rfl rfl ?_ rfl
    ((issue_tileIs hv w y).modTile (fun x => { x with mma := some (mmaOf (s.issue t e w y)) }))
  rw [hconds]
  rfl

/-- An MMA whose activations come from scratchpad. -/
theorem mmaOf_spad {i : Issue} (h : bit i.w 54 = false) : (mmaOf i).queue = none ∧ (mmaOf i).elems = (descOf (i.ext 0)).units := by
  unfold mmaOf
  rw [h]
  exact ⟨rfl, rfl⟩

/-- An MMA whose activations come from a queue. -/
theorem mmaOf_queue {i : Issue} (h : bit i.w 54 = true) :
    (mmaOf i).queue = some (bits i.w 57 55, (qctlOf (i.ext 0)).frameN, (qctlOf (i.ext 0)).bound) := by
  unfold mmaOf
  rw [h]
  rfl

end

/-! ### VRUN (R228, R229) -/

section
variable {t : TileIx} {s v : State} {e w : Nat} {y : Tile}

theorem vrun_starts (h : s.Issues t e 0x28 w y) (hv : v = s.entered t e) (hconds : vrunConds (s.issue t e w y) = [])
    (hcount : bits w 35 29 ≠ 0) (hpasses : bits w 47 36 ≠ 0) :
    s.Runs (.vrun t e) (TileIs t v ({ y with vrun := some (vrunOf (s.issue t e w y)) }.goOn (y.pc + 1) (e + 1) (e + 1))) := by
  have hsome : vrunEmpty (s.issue t e w y) = false := by
    unfold vrunEmpty
    rw [issue_w, beq_eq_false_iff_ne.2 hcount, beq_eq_false_iff_ne.2 hpasses]
    rfl
  refine h.runsBackground (execVrun t e s) rfl rfl ?_ (issues_words h (by decide))
    ((issue_tileIs hv w y).modTile (fun x => { x with vrun := some (vrunOf (s.issue t e w y)) }))
  rw [if_neg (by rw [hsome]; decide), hconds]
  rfl

theorem vrun_nothing (h : s.Issues t e 0x28 w y) (hv : v = s.entered t e) (hconds : vrunConds (s.issue t e w y) = [])
    (hnone : bits w 35 29 = 0 ∨ bits w 47 36 = 0) :
    s.Runs (.vrun t e) (TileIs t v ((y.postLater w (e + 1) y.pc).goOn (y.pc + 1) (e + 1) (e + 1))) := by
  have hempty : vrunEmpty (s.issue t e w y) = true := by
    unfold vrunEmpty
    rw [issue_w, Bool.or_eq_true, beq_iff_eq, beq_iff_eq]
    exact hnone
  refine h.runsNothing hv (execVrun t e s) rfl rfl ?_ (issues_words h (by decide))
  rw [if_pos hempty, hconds]
  rfl

end

/-- Settles O39: each instruction's effect is its unit's start, and the sequencer goes on behind its words. -/
theorem unitsStart : Obligations.UnitsStart := by
  unfold Obligations.UnitsStart
  intro t e w y s v i d hv hi hd onlyPosts hposts
  have hstall := issue_nowStall (w := w) (y := y) hv
  subst hi hd hposts
  refine ⟨fun h hconds => ?push, fun h hconds => ?pull, fun h hconds => ?plane, fun h hconds => ?mma,
    fun h hconds hcount hpasses => ?vrun, fun h hconds hnone => ?nothing⟩
  case push =>
    rw [← hstall]
    by_cases hcount : (descOf ((s.issue t e w y).ext 0)).count = 0
    · obtain ⟨u, hrun, hu⟩ := push_nothing h hv hconds hcount
      exact ⟨u, hrun, hu.onlyTile, fun _ => hu.tile, fun hsome => absurd hcount hsome⟩
    · obtain ⟨u, hrun, hu⟩ := push_starts h hv hconds hcount
      exact ⟨u, hrun, hu.onlyTile, fun hnone => absurd hnone hcount, fun _ => hu.tile⟩
  case pull =>
    rw [← hstall]
    by_cases hcount : (descOf ((s.issue t e w y).ext 0)).count = 0
    · obtain ⟨u, hrun, hu⟩ := pull_nothing h hv hconds hcount
      exact ⟨u, hrun, hu.onlyTile, fun _ => hu.tile, fun hsome => absurd hcount hsome⟩
    · obtain ⟨u, hrun, hu⟩ := pull_starts h hv hconds hcount
      refine ⟨u, hrun, hu.onlyTile, fun hnone => absurd hnone hcount, fun _ => ?_⟩
      rw [hu.tile, pullOf, issue_x]
      rfl
  case plane =>
    obtain ⟨u, hrun, hu⟩ := mmaPlane_starts h hv hconds
    have hword := planeLoadOf_word (s.issue t e w y)
    rw [issue_x] at hword
    exact ⟨u, hrun, hu.onlyTile, _, hu.tile, hword⟩
  case mma =>
    obtain ⟨u, hrun, hu⟩ := mma_starts h hv hconds
    have hmode : (mmaOf (s.issue t e w y)).mode = y.mode := congrArg Tile.mode (issue_x s t e w y)
    exact ⟨u, hrun, hu.onlyTile, _, hu.tile, rfl, rfl, rfl, rfl, rfl, rfl, hmode, rfl, rfl, rfl, rfl,
      fun hspad => mmaOf_spad hspad, fun hqueue => mmaOf_queue hqueue⟩
  case vrun =>
    obtain ⟨u, hrun, hu⟩ := vrun_starts h hv hconds hcount hpasses
    exact ⟨u, hrun, hu.onlyTile, _, hu.tile, rfl, rfl, rfl, rfl, rfl, rfl, rfl, rfl, rfl, rfl⟩
  case nothing =>
    obtain ⟨u, hrun, hu⟩ := vrun_nothing h hv hconds hnone
    exact ⟨u, hrun, hu.onlyTile, hu.tile⟩

end Sys2Proof.Machine

namespace Sys2Proof.Machine

/-! ### An access begins (R190, R236) -/

/-- The access that a tier instruction begins, with what its source holds now. -/
def accessOf (i : Issue) (tier : Nat) (store : Bool) (taddrs units : List Nat) (dueDelta : Nat) (stop : Option Cond) (s : State) :
    TierAccess :=
  { tier := tier, store := store, taddrs := taddrs, units := units
    early := if store then units.map (s.spadUnit i.t) else taddrs.map (s.tierUnit tier)
    due := if tier = 2 then s.plan.beat + dueDelta else 0, late := false, retired := false, tick := s.time.tick
    post := postOf i.w, pc := i.pc, stop := stop, landing := none }

section
variable {t : TileIx} {s v : State} {e op w tier : Nat} {store : Bool} {y : Tile}

theorem startAccess_tileIs {z : Tile} {u : State} (i : Issue) (hu : TileIs i.t v z u) (taddrs units : List Nat) (d : Nat)
    (stop : Option Cond) : TileIs i.t v { z with accesses := z.accesses ++ [accessOf i tier store taddrs units d stop u] }
      (startAccess i tier store taddrs units d stop u) :=
  hu.modTile (fun x => { x with accesses := x.accesses ++ [accessOf i tier store taddrs units d stop u] })

/-- The due beat of a tier-2 access counts from the present plan beat, and its timeout from the present beat. -/
theorem accessOf_times (i : Issue) (taddrs units : List Nat) (d : Nat) (stop : Option Cond) {u : State} (hplan : u.plan = v.plan)
    (htime : u.time = v.time) : (tier = 2 → (accessOf i tier store taddrs units d stop u).due = v.plan.beat + d)
      ∧ (accessOf i tier store taddrs units d stop u).tick = v.time.tick := by
  unfold accessOf
  rw [hplan, htime]
  exact ⟨fun h => if_pos h, rfl⟩

/-! ### LOAD and STORE (R190, R235, R237, R238) -/

/-- The opcodes of LOAD and STORE, with their tier and whether they store. -/
def loadStores : List (Nat × Nat × Bool) := [(0x30, 1, false), (0x31, 1, true), (0x34, 2, false), (0x35, 2, true)]

theorem exec_loadStore (hm : (op, tier, store) ∈ loadStores) (t : TileIx) (e : Nat) (s : State) :
    exec (tileInstr op t e) s = loadStore t e op tier store s := by
  have hall : ∀ p ∈ loadStores, exec (tileInstr p.1 t e) s = loadStore t e p.1 p.2.1 p.2.2 s := by
    simp only [loadStores, List.forall_mem_cons]
    exact ⟨rfl, rfl, rfl, rfl, fun _ h => absurd h List.not_mem_nil⟩
  exact hall _ hm

theorem loadStore_words (hm : (op, tier, store) ∈ loadStores) : (op, 3) ∈ wordCounts := by
  have hall : ∀ p ∈ loadStores, (p.1, 3) ∈ wordCounts := by decide
  exact hall _ hm

theorem check_eq_nil {b : Bool} {c : Cond} (h : check b c = []) : b = false := by
  cases b with
  | false => rfl
  | true => cases h

/-- A LOAD or STORE whose checks pass names as many units in scratchpad as in its tier. -/
theorem loadConds_sizes {i : Issue} (h : loadConds tier i = []) : (descOf (i.ext 1)).count = (tierOf (i.ext 0)).tcount := by
  unfold loadConds at h
  obtain ⟨h, -⟩ := List.append_eq_nil_iff.1 h
  obtain ⟨-, hsize⟩ := List.append_eq_nil_iff.1 h
  exact not_not.1 (of_decide_eq_false (check_eq_nil hsize))

theorem loadStore_nothing (h : s.Issues t e op w y) (hv : v = s.entered t e) (hm : (op, tier, store) ∈ loadStores)
    (hconds : loadConds tier (s.issue t e w y) = []) (hcount : (tierOf ((s.issue t e w y).ext 0)).tcount = 0) :
    s.Runs (tileInstr op t e) (TileIs t v ((y.postLater w (e + 1) y.pc).goOn (y.pc + 3) (e + 1) (e + 1))) := by
  have hempty : loadEmpty (s.issue t e w y) = true := by
    unfold loadEmpty
    rw [loadConds_sizes hconds, hcount]
    rfl
  refine h.runsNothing hv (loadStore t e op tier store s) (exec_loadStore hm t e s) rfl ?_ (issues_words h (loadStore_words hm))
  dsimp only
  rw [if_pos hempty, hconds]
  rfl

/-- The access that a LOAD or STORE begins. -/
def loadOf (i : Issue) (tier : Nat) (store : Bool) : TierAccess :=
  accessOf i tier store ((List.range (tierOf (i.ext 0)).tcount).map (· + (tierOf (i.ext 0)).taddr)) (descOf (i.ext 1)).units
    (bits i.w 33 22) none i.s

theorem loadStore_starts (h : s.Issues t e op w y) (hv : v = s.entered t e) (hm : (op, tier, store) ∈ loadStores)
    (hconds : loadConds tier (s.issue t e w y) = []) (hcount : (tierOf ((s.issue t e w y).ext 0)).tcount ≠ 0) :
    s.Runs (tileInstr op t e) (TileIs t v
      ({ y with accesses := y.accesses ++ [loadOf (s.issue t e w y) tier store] }.goOn (y.pc + 3) (e + 1) (e + 1))) := by
  have hsome : loadEmpty (s.issue t e w y) = false := by
    unfold loadEmpty
    rw [beq_eq_false_iff_ne.2 hcount, Bool.and_false]
  refine h.runsBackground (loadStore t e op tier store s) (exec_loadStore hm t e s) rfl ?_ (issues_words h (loadStore_words hm))
    (startAccess_tileIs (s.issue t e w y) (issue_tileIs hv w y) _ _ _ _)
  dsimp only
  rw [if_neg (by rw [hsome]; decide), hconds]

/-- What the source of a LOAD or STORE holds at its issue. -/
theorem loadOf_early (h : s.Issues t e op w y) (hv : v = s.entered t e) : (loadOf (s.issue t e w y) tier store).early
    = if store then (loadOf (s.issue t e w y) tier store).units.map (v.spadUnit t)
      else (loadOf (s.issue t e w y) tier store).taddrs.map (v.tierUnit tier) := by
  have hissue := issue_tileIs hv w y
  have htests : y.tests = (v.tile t).tests := by
    obtain ⟨b, hy⟩ := issues_tile h hv
    rw [hy]
  have hspad : (s.issue t e w y).s.spadUnit t = v.spadUnit t := funext (hissue.spadUnit htests)
  have htier : (s.issue t e w y).s.tierUnit tier = v.tierUnit tier := hissue.part (fun x => x.tierUnit tier)
  rw [← hspad, ← htier]
  rfl

theorem loadOf_times (hv : v = s.entered t e) :
    (tier = 2 → (loadOf (s.issue t e w y) tier store).due = v.plan.beat + bits w 33 22)
      ∧ (loadOf (s.issue t e w y) tier store).tick = v.time.tick :=
  have hissue := issue_tileIs hv w y
  accessOf_times _ _ _ _ _ (hissue.part State.plan) (hissue.part State.time)

/-! ### GATHER and SCATTER (R190, R235, R237, R238) -/

theorem eccRead_apart (s : State) (t u : Nat) : (s.eccRead t u).2.apart = s.apart := by
  unfold State.eccRead
  split
  · rfl
  · exact apart_bump ..
  · simp only [apart_set, apart_bump]

/-- A read of a module without stored errors changes nothing. -/
theorem eccRead_errorless {s : State} (h : s.spadErr = []) (t u : Nat) : s.eccRead t u = (false, s) := by
  unfold State.eccRead
  rw [h]
  rfl

/-- The reads of an index list count their errors, and change nothing else. -/
theorem gatherRows_apart (t tier pc taddr tcount : Nat) (bytes : List Nat) (s : State) :
    (gatherRows s t tier pc taddr tcount bytes).2.2.apart = s.apart := by
  induction bytes generalizing s with
  | nil => rfl
  | cons byte rest ih =>
    have hread : (if byte % 32 = 0 then s.eccRead t (byte / 32) else (false, s)).2.apart = s.apart := by
      split
      · exact eccRead_apart s t _
      · rfl
    unfold gatherRows
    dsimp only
    generalize (if byte % 32 = 0 then s.eccRead t (byte / 32) else (false, s)) = read at hread ⊢
    obtain ⟨bad, u⟩ := read
    dsimp only at hread ⊢
    split
    · exact hread
    · split
      · exact hread
      · exact (ih u).trans hread

theorem gatherRows_errorless (t tier pc taddr tcount : Nat) (bytes : List Nat) {s : State} (h : s.spadErr = []) :
    (gatherRows s t tier pc taddr tcount bytes).2.2 = s := by
  induction bytes with
  | nil => rfl
  | cons byte rest ih =>
    have hread : (if byte % 32 = 0 then s.eccRead t (byte / 32) else (false, s)) = (false, s) := by
      rw [eccRead_errorless h, ite_self]
    unfold gatherRows
    dsimp only
    rw [hread]
    dsimp only
    rw [if_neg (by decide)]
    split
    · rfl
    · exact ih

/-- The opcodes of GATHER and SCATTER, with their tier and whether they store. -/
def gatherScatters : List (Nat × Nat × Bool) := [(0x32, 1, false), (0x36, 2, false), (0x37, 2, true)]

theorem exec_gatherScatter (hm : (op, tier, store) ∈ gatherScatters) (t : TileIx) (e : Nat) (s : State) :
    exec (tileInstr op t e) s = gatherScatter t e op tier store s := by
  have hall : ∀ p ∈ gatherScatters, exec (tileInstr p.1 t e) s = gatherScatter t e p.1 p.2.1 p.2.2 s := by
    simp only [gatherScatters, List.forall_mem_cons]
    exact ⟨rfl, rfl, rfl, fun _ h => absurd h List.not_mem_nil⟩
  exact hall _ hm

theorem gatherScatter_words (hm : (op, tier, store) ∈ gatherScatters) : (op, 4) ∈ wordCounts := by
  have hall : ∀ p ∈ gatherScatters, (p.1, 4) ∈ wordCounts := by decide
  exact hall _ hm

/-- The units of a tier that the rows of an index list name. -/
def gatherAddrs (i : Issue) (rows : List Nat) : List Nat := rows.flatMap (fun r => (List.range (tierOf (i.ext 0)).tcount).map (· + r))

/-- The access that a GATHER or SCATTER begins: `rows`, `cs` and `z` are what its index list gives. -/
def gatherOf (i : Issue) (tier : Nat) (store : Bool) (rows : List Nat) (cs : List Cond) (z : State) : TierAccess :=
  accessOf i tier store (gatherAddrs i rows) ((descOf (i.ext 2)).units.take (gatherAddrs i rows).length) (bits i.w 33 22) cs.head? z

theorem gatherList_apart {i : Issue} {rows : List Nat} {cs : List Cond} {z : State} (hlist : gatherList tier i = (rows, cs, z)) :
    z.apart = i.s.apart := by
  have hrows := gatherRows_apart i.t tier i.pc (tierOf (i.ext 0)).taddr (tierOf (i.ext 0)).tcount
    ((List.range (indexOf (i.ext 1)).rows).map (fun k => 32 * (indexOf (i.ext 1)).ibase + 4 * k)) i.s
  exact (congrArg (fun r : List Nat × List Cond × State => r.2.2.apart) hlist).symm.trans hrows

theorem gatherList_errorless {i : Issue} {rows : List Nat} {cs : List Cond} {z : State} (hlist : gatherList tier i = (rows, cs, z))
    (herr : i.s.spadErr = []) : z = i.s := by
  have hrows := gatherRows_errorless i.t tier i.pc (tierOf (i.ext 0)).taddr (tierOf (i.ext 0)).tcount
    ((List.range (indexOf (i.ext 1)).rows).map (fun k => 32 * (indexOf (i.ext 1)).ibase + 4 * k)) herr
  exact (congrArg (fun r : List Nat × List Cond × State => r.2.2) hlist).symm.trans hrows

theorem tile_of_apart {s u : State} (h : u.apart = s.apart) (k : Nat) : u.tile k = s.tile k :=
  (congrArg (fun x => State.tile x k) h : u.apart.tile k = s.apart.tile k)

theorem gatherScatter_starts (h : s.Issues t e op w y) (hm : (op, tier, store) ∈ gatherScatters)
    (hconds : gatherConds tier (s.issue t e w y) = []) (hsome : gatherEmpty (s.issue t e w y) = false) {rows : List Nat}
    {cs : List Cond} {z : State} (hlist : gatherList tier (s.issue t e w y) = (rows, cs, z)) :
    s.Runs (tileInstr op t e) (TileIs t z
      ({ y with accesses := y.accesses ++ [gatherOf (s.issue t e w y) tier store rows cs z] }.goOn (y.pc + 4) (e + 1) (e + 1))) := by
  have htile : z.tile t = y := (tile_of_apart (gatherList_apart hlist) t).trans (issue_x s t e w y)
  have hz : TileIs t z y z := htile ▸ TileIs.refl t z
  refine h.runsBackground (gatherScatter t e op tier store s) (exec_gatherScatter hm t e s) rfl ?_
    (issues_words h (gatherScatter_words hm)) (startAccess_tileIs (s.issue t e w y) hz _ _ _ _)
  dsimp only
  rw [if_neg (by rw [hsome]; decide), hlist, hconds]
  rfl

/-- What an index list's reads leave of the state in which the instruction issues. -/
theorem gatherList_keeps (hv : v = s.entered t e) {rows : List Nat} {cs : List Cond} {z : State}
    (hlist : gatherList tier (s.issue t e w y) = (rows, cs, z)) : SameBytes v z ∧ (∀ k, k ≠ t.val → z.tile k = v.tile k)
      ∧ z.raised = v.raised ∧ (v.spadErr = [] → z.regs = v.regs) ∧ z.plan = v.plan ∧ z.time = v.time := by
  have hissue := issue_tileIs hv w y
  have hapart := gatherList_apart hlist
  obtain ⟨htime, hplan, -⟩ := SameEngines.of_apart hapart
  refine ⟨hissue.sameBytes.trans (SameBytes.of_field (field_of_apart hapart)),
    fun k hk => (tile_of_apart hapart k).trans (hissue.others k hk), (raised_of_apart hapart).trans (hissue.part State.raised),
    fun herr => ?_, hplan.trans (hissue.part State.plan), htime.trans (hissue.part State.time)⟩
  rw [gatherList_errorless hlist ((hissue.part State.spadErr).trans herr)]
  exact hissue.part State.regs

theorem gatherOf_times (hv : v = s.entered t e) {rows : List Nat} {cs : List Cond} {z : State}
    (hlist : gatherList tier (s.issue t e w y) = (rows, cs, z)) :
    (tier = 2 → (gatherOf (s.issue t e w y) tier store rows cs z).due = v.plan.beat + bits w 33 22)
      ∧ (gatherOf (s.issue t e w y) tier store rows cs z).tick = v.time.tick := by
  obtain ⟨-, -, -, -, hplan, htime⟩ := gatherList_keeps hv hlist
  exact accessOf_times _ _ _ _ _ hplan htime

/-! ### FENCE (R239) -/

/-- The opcodes of FENCE, with their tier. -/
def fences : List (Nat × Nat) := [(0x33, 1), (0x38, 2)]

theorem exec_fence (hm : (op, tier) ∈ fences) (t : TileIx) (e : Nat) (s : State) :
    exec (tileInstr op t e) s = fence t e op tier s := by
  have hall : ∀ p ∈ fences, exec (tileInstr p.1 t e) s = fence t e p.1 p.2 s := by
    simp only [fences, List.forall_mem_cons]
    exact ⟨rfl, rfl, fun _ h => absurd h List.not_mem_nil⟩
  exact hall _ hm

theorem fence_words (hm : (op, tier) ∈ fences) : (op, 1) ∈ wordCounts := by
  have hall : ∀ p ∈ fences, (p.1, 1) ∈ wordCounts := by decide
  exact hall _ hm

theorem fence_blocks (h : s.Issues t e op w y) (hv : v = s.entered t e) (hm : (op, tier) ∈ fences) (hout : y.storesOut tier = true) :
    s.Runs (tileInstr op t e) (TileIs t v { y with block := some ⟨.fence tier, postOf w, y.pc, v.nowStall⟩ }) := by
  rw [← issue_nowStall (w := w) (y := y) hv]
  refine h.runs (fence t e op tier s) (exec_fence hm t e s) rfl ?_ ((issue_tileIs hv w y).modTile (fun x =>
    { x with block := some ⟨.fence tier, postOf w, y.pc, (s.issue t e w y).s.nowStall⟩ }))
  rw [issue_x, if_pos hout]
  rfl

theorem fence_goesOn (h : s.Issues t e op w y) (hv : v = s.entered t e) (hm : (op, tier) ∈ fences) (hnone : y.storesOut tier = false)
    (hpost : y.canPost w) : s.Runs (tileInstr op t e) (TileIs t v ((y.posted w).goOn (y.pc + 1) (e + 1) (e + 1))) := by
  have hissue := issue_tileIs hv w y
  have hext : extNeeded w = 0 := by
    have := extNeeded_words (fence_words hm) (issues_opcode h)
    omega
  refine h.runs (fence t e op tier s) (exec_fence hm t e s) rfl ?_ (hissue.setTile ((y.posted w).goOn (y.pc + 1) (e + 1) (e + 1)))
  rw [issue_x, if_neg (by rw [hnone]; decide)]
  exact issue_completes h hext hissue.tile hpost

end

/-- Settles O41: a tier instruction's effect is its access's start, in a state in which a GATHER's index list has been read. -/
theorem tierInstructionsStart : Obligations.TierInstructionsStart := by
  unfold Obligations.TierInstructionsStart
  intro t e w y s v i hv hi
  subst hi
  refine ⟨fun op tier store hm h hconds hcount => ?load, fun op tier store hm h hconds hcount => ?nothing,
    fun op tier store hm h hconds hsome rows cs z hlist => ?gather, fun op tier hm h => ⟨fun hout => ?blocks, fun hnone hpost => ?goesOn⟩⟩
  case load =>
    obtain ⟨u, hrun, hu⟩ := loadStore_starts h hv hm hconds hcount
    obtain ⟨hdue, htick⟩ := loadOf_times (w := w) (y := y) (tier := tier) (store := store) hv
    exact ⟨u, hrun, hu.onlyTile, _, hu.tile, rfl, rfl, rfl, rfl, hdue, htick, loadOf_early h hv, rfl, rfl, rfl, rfl, rfl, rfl⟩
  case nothing =>
    obtain ⟨u, hrun, hu⟩ := loadStore_nothing h hv hm hconds hcount
    exact ⟨u, hrun, hu.onlyTile, hu.tile⟩
  case gather =>
    obtain ⟨u, hrun, hu⟩ := gatherScatter_starts h hm hconds hsome hlist
    obtain ⟨hbytes, hothers, hraised, hregs, -, -⟩ := gatherList_keeps hv hlist
    obtain ⟨hdue, htick⟩ := gatherOf_times (w := w) (y := y) (store := store) hv hlist
    exact ⟨u, hrun, hbytes.trans hu.sameBytes, fun k hk => (hu.others k hk).trans (hothers k hk), (hu.part State.raised).trans hraised,
      fun herr => (hu.part State.regs).trans (hregs herr), _, hu.tile, rfl, rfl, rfl, rfl, hdue, htick, rfl, rfl, rfl, rfl⟩
  case blocks =>
    obtain ⟨u, hrun, hu⟩ := fence_blocks h hv hm hout
    exact ⟨u, hrun, hu.onlyTile, hu.tile⟩
  case goesOn =>
    obtain ⟨u, hrun, hu⟩ := fence_goesOn h hv hm hnone hpost
    exact ⟨u, hrun, hu.onlyTile, hu.tile⟩

end Sys2Proof.Machine

namespace Sys2Proof.Machine

/-! ### What is staged waits for its cycle (R199, R211, R212) -/

section
variable {t c k : Nat} {s u : State} {y : Tile} {cs : List Cond} {bs : List Nat} {x : Cycle}

/-- A write to a count register does not show before its cycle. -/
theorem Tile.ripen_early (hm : y.mmaResults = []) (hv : y.vrunResults = []) (hc : ∀ w ∈ y.cpend, c < w.cycle) : y.ripen c = y := by
  have hdue : y.cpend.filter (fun w => decide (w.cycle ≤ c)) = [] :=
    List.filter_eq_nil_iff.2 (fun w hw => by simpa using hc w hw)
  have hleft : y.cpend.filter (fun w => decide (w.cycle > c)) = y.cpend :=
    List.filter_eq_self.2 (fun w hw => by simpa using hc w hw)
  unfold Tile.ripen
  rw [hdue, hleft, hm, hv]
  cases y
  cases hm
  cases hv
  rfl

/-- The one write to a count register that is to come shows from its cycle on. -/
theorem Tile.ripen_count {w : CountWrite} (h : y.cpend = [w]) (hc : w.cycle ≤ c) : (y.ripen c).creg = y.creg.set w.reg w.value := by
  unfold Tile.ripen
  rw [h]
  simp [hc]

/-- The tile with a seed in its lanes. -/
def Tile.seeded (y : Tile) (sd : Nat) : Tile := { y with lanes := seedLanes sd, phase := sd % 4096, seed := none }

namespace Cycle.At

/-- A staged seed, where no VRUN is in flight: before its cycle it waits, and from then on it is in the lanes and in its register. -/
theorem coreStart_seed (h : At t s y cs bs x) (hv : y.voiceLoad = none) (hw : y.vrunResults = []) (hr : y.vrun = none) {sd : Nat}
    (hs : y.seed = some (sd, k)) : (c < k → At t s (y.ripen c) cs bs (Machine.coreStart t c x))
      ∧ (k ≤ c → At t (s.set .TIL_SEED_seed t sd) ((y.ripen c).seeded sd) cs bs (Machine.coreStart t c x)) := by
  have hripe := h.mod (fun z => { z with
    creg := (y.cpend.filter (fun w => decide (w.cycle ≤ c))).foldl (fun l w => l.set w.reg w.value) y.creg
    cpend := z.cpend.filter (fun w => decide (w.cycle > c))
    acc := (y.vrunResults.filter (fun r => decide (r.cycle ≤ c))).foldl (fun a r => Table.over AccRow.reset r.accW a) y.acc
    vrunResults := z.vrunResults.filter (fun r => decide (r.cycle > c))
    mmaResults := z.mmaResults.filter (fun r => decide (r.cycle > c)) })
  have hvoice : voiceStart t c x = x := by
    unfold voiceStart
    rw [h.state.tile, hv]
  rw [hw] at hripe
  unfold Machine.coreStart
  dsimp only
  rw [hvoice, h.state.tile, hs, hw, hr]
  refine ⟨fun hc => ?_, fun hc => ?_⟩
  · dsimp only
    rw [if_neg (by omega), Tile.ripen, hw]
    exact hripe
  · dsimp only
    rw [if_pos ⟨hc, rfl⟩, Tile.ripen, hw]
    exact ⟨(hripe.mod (fun z => z.seeded sd)).state.set _ _ _, hripe.conds, hripe.banks⟩

end Cycle.At

/-- A tile whose program runs and which does nothing but wait for cycle `k`: what is staged, writes to count registers and a seed, is
not due before. -/
structure Tile.Staged (y : Tile) (k : Nat) : Prop where
  idle : { y with cpend := [], seed := none, claim := none }.Idle
  posts : y.posts = []
  sets : y.sets = []
  clears : y.clears = []
  block : y.block = none
  finished : y.finished = false
  counts : ∀ w ∈ y.cpend, k ≤ w.cycle
  seeds : ∀ p, y.seed = some p → k ≤ p.2

/-- The tile after the cycles up to `k`. -/
def Tile.waited (y : Tile) (k : Nat) (claim : Option (Nat × Nat)) (ended : Option Nat) : Tile :=
  { y with now := k, claim := claim, endedBy := ended }

theorem ended_running (hf : y.finished = false) (c n : Nat) : y.ended c n = y.waited (c + 1) none none :=
  congrArg (fun e => y.waited (c + 1) none e) (if_neg (by simp [hf]))

namespace Tile.Staged

theorem waited {claim : Option (Nat × Nat)} {ended : Option Nat} {n : Nat} (h : y.Staged k) : (y.waited n claim ended).Staged k :=
  { h with idle := { h.idle with } }

/-- A cycle's beginning, up to what its clocked units show. -/
theorem cycleStart (h : y.Staged k) (hx : Cycle.At t s y cs bs x) :
    ∃ x', Cycle.At t s y cs bs x' ∧ cycleStart t c x = coreStart t c x' := by
  have hreleased := hx.released_none (c := c) h.idle.push h.idle.pull h.idle.mma h.idle.vrun h.block
  refine ⟨_, hreleased, ?_⟩
  rw [cycleStart_eq, startCore, if_neg (by rw [hreleased.gated h.finished h.block]; decide)]

/-- Before the cycle nothing shows. -/
theorem coreStart (h : y.Staged k) (hc : c < k) (hx : Cycle.At t s y cs bs x) : Cycle.At t s y cs bs (coreStart t c x) := by
  have hripe : y.ripen c = y := Tile.ripen_early h.idle.mmaResults h.idle.vrunResults (fun w hw => hc.trans_le (h.counts w hw))
  have hno : ∀ r ∈ y.vrunResults, r.spadW = [] := by
    rw [show y.vrunResults = [] from h.idle.vrunResults]
    exact fun _ hr => absurd hr List.not_mem_nil
  rcases hs : y.seed with _ | ⟨sd, n⟩
  · exact hripe ▸ hx.coreStart (c := c) h.idle.voiceLoad hs hno
  · exact hripe ▸ (hx.coreStart_seed h.idle.voiceLoad h.idle.vrunResults h.idle.vrun hs).1 (hc.trans_le (h.seeds _ hs))

/-- A cycle before it passes. -/
theorem tileCycle (h : y.Staged k) (hc : y.now < k) (hu : TileIs t s y u) :
    TileIs t s (y.waited (y.now + 1) none none) (tileCycle u t []) := by
  have hbegin : Cycle.At t s y [] _ (Cycle.begin u t []) := ⟨hu, rfl, rfl⟩
  obtain ⟨x, hx, hstart⟩ := h.cycleStart (c := y.now) hbegin
  have hpush := (h.coreStart hc hx).pushStage_none (c := y.now) h.idle.push
  have hcore := hpush.coreCycle_open (c := y.now) (hpush.gated h.finished h.block) h.idle.voiceLoad h.idle.mma h.idle.vrun h.idle.planeLoad
  have hno : ∀ p ∈ y.posts, y.now < p.cycle := by rw [h.posts]; exact fun _ hm => absurd hm List.not_mem_nil
  rw [← hstart] at hcore
  have hend := hcore.unitsCycle_settled h.idle.bwrites h.idle.landing h.idle.pull h.idle.tests hno h.sets h.clears
  rw [ended_running h.finished] at hend
  exact tileCycle_none (by rw [hu.tile]) hend

/-- Cycles up to it pass. -/
theorem runCycles {n : Nat} (h : y.Staged k) (hn : y.now + n ≤ k) (hu : TileIs t s y u) :
    ∃ claim ended, TileIs t s (y.waited (y.now + n) claim ended) (runCycles t n u) := by
  induction n generalizing y u with
  | zero => exact ⟨y.claim, y.endedBy, hu⟩
  | succ n ih =>
    by_cases hq : y.quiet = true
    · exact ⟨y.claim, y.endedBy, runCycles_quiet hu hq (n + 1)⟩
    · rw [Bool.not_eq_true] at hq
      obtain ⟨claim, ended, hrun⟩ := ih (h.waited (claim := none) (ended := none) (n := y.now + 1))
        (show y.now + 1 + n ≤ k by omega) (h.tileCycle (by omega) hu)
      refine ⟨claim, ended, ?_⟩
      rw [runCycles_busy (by rw [hu.tile, hq]), show y.now + (n + 1) = y.now + 1 + n by omega]
      exact hrun

/-- The cycle itself begins, up to what its clocked units show. -/
theorem entered (h : y.Staged k) (hn : y.now ≤ k) (hclock : s.clockOf t ≤ y.now) (hu : TileIs t s y u) :
    ∃ claim ended bs x, Cycle.At t s (y.waited k claim ended) [] bs x ∧ u.entered t k = (Machine.coreStart t k x).s := by
  obtain ⟨n, rfl⟩ := Nat.exists_eq_add_of_le hn
  obtain ⟨v, hv, heq⟩ := hu.entered_add rfl hclock
  obtain ⟨claim, ended, hrun⟩ := h.runCycles le_rfl hv
  have hbegin : Cycle.At t s _ [] _ (Cycle.begin (Machine.runCycles t n v) t []) := ⟨hrun, rfl, rfl⟩
  obtain ⟨x, hx, hstart⟩ := h.waited.cycleStart (c := y.now + n) hbegin
  exact ⟨claim, ended, _, x, hx, by rw [heq n, hstart]⟩

/-- A write to a count register that is due in this cycle. -/
theorem entered_count {w : CountWrite} (h : y.Staged k) (hn : y.now ≤ k) (hclock : s.clockOf t ≤ y.now) (hu : TileIs t s y u)
    (hw : y.cpend = [w]) (hk : w.cycle = k) (hs : y.seed = none) : ((u.entered t k).tile t).creg = y.creg.set w.reg w.value := by
  obtain ⟨claim, ended, bs, x, hx, heq⟩ := h.entered hn hclock hu
  have hno : ∀ r ∈ y.vrunResults, r.spadW = [] := by
    rw [show y.vrunResults = [] from h.idle.vrunResults]
    exact fun _ hr => absurd hr List.not_mem_nil
  rw [heq, (hx.coreStart h.idle.voiceLoad hs hno).state.tile]
  exact Tile.ripen_count (y := y.waited k claim ended) hw hk.le

/-- A seed that is due in this cycle. -/
theorem entered_seed {sd : Nat} (h : y.Staged k) (hn : y.now ≤ k) (hclock : s.clockOf t ≤ y.now) (hu : TileIs t s y u)
    (hs : y.seed = some (sd, k)) : ∃ z : Tile, (u.entered t k).tile t = z.seeded sd := by
  obtain ⟨claim, ended, bs, x, hx, heq⟩ := h.entered hn hclock hu
  have hseed := (hx.coreStart_seed (c := k) h.idle.voiceLoad h.idle.vrunResults h.idle.vrun hs).2 le_rfl
  exact ⟨_, by rw [heq, hseed.state.tile]⟩

end Tile.Staged

end

end Sys2Proof.Machine

namespace Sys2Proof.Machine

/-! ### Instructions that stage something and complete at issue (R209, R211 to R213, R216, R221) -/

section
variable {t : TileIx} {s u v : State} {e op w k : Nat} {y z : Tile}

/-- The sequencer's own instructions without extension words (R182, R189). -/
def oneWord : List Nat := [0x00, 0x02, 0x03, 0x04, 0x05, 0x06, 0x1A]

theorem extNeeded_oneWord (hm : op ∈ oneWord) (h : opcodeOf w = op) : extNeeded w = 0 := by
  have hall : ∀ p ∈ oneWord, opcodeOf w = p → extNeeded w = 0 := by
    simp only [oneWord, List.forall_mem_cons]
    refine ⟨?_, ?_, ?_, ?_, ?_, ?_, ?_, fun _ hp => absurd hp List.not_mem_nil⟩ <;>
    · intro hop
      unfold extNeeded
      rw [hop]
      rfl
  exact hall op hm h

theorem issue_completesAfter (h : s.Issues t e op w y) (hn : extNeeded w = 0) (hu : u.tile t = z) (hz : z.canPost w) (extra : Nat) :
    (s.issue t e w y).complete u extra = ([], u.setTile t ((z.posted w).goOn (y.pc + 1) (e + 1) (e + 1 + extra))) := by
  unfold Issue.complete
  rw [issues_len h hn, issue_t, hu, issue_w, canPost_postNow _ hz]
  rfl

/-- An instruction of one word that completes at issue: `u` is the state with its effect, `z` the tile in it. -/
theorem State.Issues.runsAtOnce {c : Instr} {body : Issue → List Cond × State} {extra : Nat} (h : s.Issues t e op w y)
    (r : Host.Outcome State Fault Refusal) (hc : exec c s = r) (hr : r = issueAt t e op body s)
    (hbody : body (s.issue t e w y) = (s.issue t e w y).complete u extra) (hm : op ∈ oneWord) (hu : TileIs t v z u)
    (hz : z.canPost w) : s.Runs c (TileIs t v ((z.posted w).goOn (y.pc + 1) (e + 1) (e + 1 + extra))) :=
  h.runs r hc hr (hbody.trans (issue_completesAfter h (extNeeded_oneWord hm (issues_opcode h)) hu.tile hz extra)) (hu.setTile _)

/-- Whether the program ends with an instruction does not rest on what the instruction posts and stages. -/
theorem goOn_finished (hz : z = { y with cpend := z.cpend, seed := z.seed, claim := z.claim }) (pc c n : Nat) :
    ((z.posted w).goOn pc c n).finished = (y.goOn pc c n).finished := by
  have hposted : ∃ b, z.posted w = { y with board := b, cpend := z.cpend, seed := z.seed, claim := z.claim } := by
    unfold Tile.posted
    split
    · exact ⟨y.board, hz⟩
    · exact ⟨z.board + 2 ^ postOf w, congrArg (fun x : Tile => { x with board := z.board + 2 ^ postOf w }) hz⟩
  obtain ⟨b, hb⟩ := hposted
  rw [hb]
  unfold Tile.goOn Tile.regionOn Tile.progEnd
  dsimp only
  cases y.prog with
  | none => rfl
  | some p =>
    dsimp only
    (repeat' split) <;> rfl

/-- What an instruction stages on a tile that does nothing else, and whose program goes on, waits for its cycle. -/
theorem staged_goOn (hq : y.quiet = true) (hgo : (y.goOn (y.pc + 1) (e + 1) (e + 1)).finished = false)
    (hz : z = { y with cpend := z.cpend, seed := z.seed, claim := z.claim }) (hc : ∀ x ∈ z.cpend, k ≤ x.cycle)
    (hs : ∀ p, z.seed = some p → k ≤ p.2) : ((z.posted w).goOn (y.pc + 1) (e + 1) (e + 1)).Staged k := by
  obtain ⟨hidle, hposts, hsets, hclears, hblock, -⟩ := (quiet_iff y).1 hq
  have hfinished := (goOn_finished (w := w) hz (y.pc + 1) (e + 1) (e + 1)).trans hgo
  obtain ⟨bd, a, m, ls, p, ib, fi, heq⟩ := posted_goOn_eq z w (y.pc + 1) (e + 1) (e + 1)
  rw [heq] at hfinished ⊢
  rw [hz]
  exact { idle := { hidle with cpend := rfl, seed := rfl, claim := rfl }, posts := hposts, sets := hsets, clears := hclears,
          block := hblock, finished := hfinished, counts := hc, seeds := hs }

theorem eccRead_clean {n i : Nat} (h : s.spadErr.find? (2 ^ 15 * i + n) = none) : s.eccRead i n = (false, s) := by
  unfold State.eccRead
  rw [h]

/-- A clear is in the flags from the next cycle on. -/
theorem settleFlags_cleared {f : Nat} (hs : y.sets = []) (hc : y.clears = [f]) : bit y.settleFlags.flags f = false := by
  cases hf : bit y.flags f with
  | true => exact settleFlags_clear (c := true) hs hc hf
  | false =>
    unfold Tile.settleFlags
    rw [hs, hc, List.foldl_cons, List.foldl_nil, if_neg (by simp [hf])]
    exact hf

/-- Where the program goes on, of a tile that does nothing else. -/
def Tile.goesOn (y : Tile) (e : Nat) : Bool := y.quiet && !(y.goOn (y.pc + 1) (e + 1) (e + 1)).finished

theorem goesOn_iff : y.goesOn e = true ↔ y.quiet = true ∧ (y.goOn (y.pc + 1) (e + 1) (e + 1)).finished = false := by
  unfold Tile.goesOn
  rw [Bool.and_eq_true, Bool.not_eq_true']

theorem posted_goOn_keeps (z : Tile) (w pc c n : Nat) : ((z.posted w).goOn pc c n).now = z.now
    ∧ ((z.posted w).goOn pc c n).cpend = z.cpend ∧ ((z.posted w).goOn pc c n).seed = z.seed
    ∧ ((z.posted w).goOn pc c n).creg = z.creg := by
  obtain ⟨bd, a, m, ls, p, ib, fi, heq⟩ := posted_goOn_eq z w pc c n
  rw [heq]
  exact ⟨rfl, rfl, rfl, rfl⟩

/-- A staged seed is in the lanes in the next cycle. -/
theorem seed_applies {sd : Nat} (h : s.Issues t e op w y) (hv : v = s.entered t e) (hgoes : y.goesOn e = true)
    (hu : TileIs t v (({ y with seed := some (sd, e + 1) }.posted w).goOn (y.pc + 1) (e + 1) (e + 1)) u) :
    ∃ z : Tile, (u.entered t (e + 1)).tile t = z.seeded sd := by
  obtain ⟨hq, hgo⟩ := goesOn_iff.1 hgoes
  have hcpend : ∀ x, x ∉ y.cpend := by
    rw [((quiet_iff y).1 hq).1.cpend]
    exact fun _ => List.not_mem_nil
  obtain ⟨hkeep, -, hseed, -⟩ := posted_goOn_keeps { y with seed := some (sd, e + 1) } w (y.pc + 1) (e + 1) (e + 1)
  have hnow := hkeep.trans (issues_now (y := y) h)
  have hdue : ∀ p, some (sd, e + 1) = some p → e + 1 ≤ p.2 := fun p hp => by cases hp; rfl
  have hstaged := staged_goOn (w := w) (z := { y with seed := some (sd, e + 1) }) hq hgo rfl (fun x hx => absurd hx (hcpend x)) hdue
  exact hstaged.entered_seed (hnow.trans_le (Nat.le_succ e)) ((entered_clock (issues_event h) hv).trans hnow.ge) hu hseed

/-- The tile with a write to a count register staged, and perhaps a bank of port A claimed for it. -/
def Tile.stageCount (y : Tile) (x : CountWrite) (claim : Option (Nat × Nat)) : Tile := { y with cpend := y.cpend ++ [x], claim := claim }

/-- A staged write to a count register shows from its cycle on. -/
theorem count_applies {x : CountWrite} {claim : Option (Nat × Nat)} (h : s.Issues t e op w y) (hv : v = s.entered t e)
    (hgoes : y.goesOn e = true) (hke : e ≤ x.cycle)
    (hu : TileIs t v (((y.stageCount x claim).posted w).goOn (y.pc + 1) (e + 1) (e + 1)) u) :
    ((u.entered t x.cycle).tile t).creg = y.creg.set x.reg x.value := by
  obtain ⟨hq, hgo⟩ := goesOn_iff.1 hgoes
  obtain ⟨hidle, -⟩ := (quiet_iff y).1 hq
  have hone : (y.stageCount x claim).cpend = [x] := congrArg (· ++ [x]) hidle.cpend
  obtain ⟨hkeep, hcpend, hseed, hcreg⟩ := posted_goOn_keeps (y.stageCount x claim) w (y.pc + 1) (e + 1) (e + 1)
  have hnow := hkeep.trans (issues_now (y := y) h)
  have hdue : ∀ c ∈ (y.stageCount x claim).cpend, x.cycle ≤ c.cycle := by
    rw [hone]
    exact fun c hc => (congrArg CountWrite.cycle (List.mem_singleton.1 hc)).ge
  have hnone : ∀ p, (y.stageCount x claim).seed = some p → x.cycle ≤ p.2 := fun p hp => by
    rw [show (y.stageCount x claim).seed = none from hidle.seed] at hp
    cases hp
  have hstaged := staged_goOn (w := w) hq hgo (z := y.stageCount x claim) rfl hdue hnone
  rw [hstaged.entered_count (hnow.trans_le hke) ((entered_clock (issues_event h) hv).trans hnow.ge) hu (hcpend.trans hone) rfl
    (hseed.trans hidle.seed), hcreg]
  rfl

theorem nop_waits (h : s.Issues t e 0x00 w y) (hv : v = s.entered t e) (hpost : y.canPost w) :
    s.Runs (.nop t e) (fun u => OnlyTile t v u ∧ u.tile t = (y.posted w).goOn (y.pc + 1) (e + 1) (e + 1 + bits w 37 22)) := by
  obtain ⟨u, hrun, hu⟩ := h.runsAtOnce (c := .nop t e) (execNop t e s) rfl rfl rfl (by decide) (issue_tileIs hv w y) hpost
  exact ⟨u, hrun, hu.onlyTile, hu.tile⟩

theorem seed_stages (h : s.Issues t e 0x03 w y) (hv : v = s.entered t e) (hpost : y.canPost w) :
    s.Runs (.seed t e) (fun u => OnlyTile t v u
      ∧ u.tile t = ({ y with seed := some (bits w 53 22, e + 1) }.posted w).goOn (y.pc + 1) (e + 1) (e + 1)
      ∧ (y.goesOn e = true → ∀ x, x = (u.entered t (e + 1)).tile t → x.lanes = seedLanes (bits w 53 22)
          ∧ x.phase = bits w 53 22 % 4096 ∧ x.seed = none)) := by
  have hstage := (issue_tileIs hv w y).modTile (fun x => { x with seed := some (bits w 53 22, e + 1) })
  obtain ⟨u, hrun, hu⟩ := h.runsAtOnce (c := .seed t e) (execSeed t e s) rfl rfl rfl (by decide) hstage hpost
  refine ⟨u, hrun, hu.onlyTile, hu.tile, fun hgoes x hx => ?_⟩
  obtain ⟨z, hz⟩ := seed_applies h hv hgoes hu
  rw [hx, hz]
  exact ⟨rfl, rfl, rfl⟩

theorem canary_stages (h : s.Issues t e 0x04 w y) (hv : v = s.entered t e) (hpost : y.canPost w) :
    s.Runs (.canary t e) (fun u => OnlyTile t v u
      ∧ u.tile t = ({ y with canaryFrom := some (y.canaryFrom.getD (e + 1)) }.posted w).goOn (y.pc + 1) (e + 1) (e + 1)) := by
  have hstage := (issue_tileIs hv w y).modTile (fun x => { x with canaryFrom := some (x.canaryFrom.getD (e + 1)) })
  obtain ⟨u, hrun, hu⟩ := h.runsAtOnce (c := .canary t e) (execCanary t e s) rfl rfl rfl (by decide) hstage hpost
  exact ⟨u, hrun, hu.onlyTile, hu.tile⟩

theorem setc_stages (h : s.Issues t e 0x05 w y) (hv : v = s.entered t e) (hpost : y.canPost w) :
    s.Runs (.setc t e) (fun u => OnlyTile t v u
      ∧ u.tile t = ({ y with cpend := y.cpend ++ [CountWrite.mk (bits w 25 22) (bits w 41 26) (e + 1)] }.posted w).goOn
          (y.pc + 1) (e + 1) (e + 1)
      ∧ (y.goesOn e = true → ((u.entered t (e + 1)).tile t).creg = y.creg.set (bits w 25 22) (bits w 41 26))) := by
  have hstage := (issue_tileIs hv w y).modTile (fun x => x.stageCount ⟨bits w 25 22, bits w 41 26, e + 1⟩ x.claim)
  obtain ⟨u, hrun, hu⟩ := h.runsAtOnce (c := .setc t e) (execSetc t e s) rfl rfl rfl (by decide) hstage hpost
  exact ⟨u, hrun, hu.onlyTile, hu.tile, fun hgoes =>
    count_applies (x := ⟨bits w 25 22, bits w 41 26, e + 1⟩) h hv hgoes (Nat.le_succ e) hu⟩

/-- The unit that a SETC.S reads is open, and good. -/
theorem setcS_stages (h : s.Issues t e 0x06 w y) (hv : v = s.entered t e) (hpost : y.canPost w)
    (hopen : v.secureHit t [bits w 40 26] = none) (hgood : v.spadErr.find? (2 ^ 15 * t + bits w 40 26) = none) :
    s.Runs (.setcS t e) (fun u => OnlyTile t v u
      ∧ u.tile t = ({ y with cpend := y.cpend ++ [CountWrite.mk (bits w 25 22) (leAt (v.spadUnit t (bits w 40 26)) 0 2) (e + 3)]
                             claim := some (e, bits w 40 26 / 4096) }.posted w).goOn (y.pc + 1) (e + 1) (e + 1)
      ∧ (y.goesOn e = true →
          ((u.entered t (e + 3)).tile t).creg = y.creg.set (bits w 25 22) (leAt (v.spadUnit t (bits w 40 26)) 0 2))) := by
  have hissue := issue_tileIs hv w y
  obtain ⟨b, hy⟩ := issues_tile h hv
  have hunit : (s.issue t e w y).s.spadUnit t (bits w 40 26) = v.spadUnit t (bits w 40 26) := hissue.spadUnit (by rw [hy]) _
  have hsecure : (s.issue t e w y).s.secureConds t y.pc [bits w 40 26] = [] := by
    unfold State.secureConds
    rw [hissue.part (fun x => x.secureHit t [bits w 40 26]), hopen]
  have hread : (s.issue t e w y).s.eccRead t (bits w 40 26) = (false, (s.issue t e w y).s) :=
    eccRead_clean (by rw [hissue.part State.spadErr, hgood])
  have hstage := hissue.modTile (fun x =>
    x.stageCount ⟨bits w 25 22, leAt (v.spadUnit t (bits w 40 26)) 0 2, e + 3⟩ (some (e, bits w 40 26 / 4096)))
  obtain ⟨u, hrun, hu⟩ := h.runsAtOnce (c := .setcS t e) (execSetcS t e s) rfl rfl (by
    dsimp only
    rw [issue_w, issue_t, issue_pc, hread]
    dsimp only
    rw [hsecure, hunit]
    exact Prod.ext ((List.append_nil _).trans (List.append_nil _)) rfl) (by decide) hstage hpost
  exact ⟨u, hrun, hu.onlyTile, hu.tile, fun hgoes =>
    count_applies (x := ⟨bits w 25 22, leAt (v.spadUnit t (bits w 40 26)) 0 2, e + 3⟩) h hv hgoes (Nat.le_add_right e 3) hu⟩

theorem clrFlag_clears (h : s.Issues t e 0x1A w y) (hv : v = s.entered t e) (hpost : y.canPost w) :
    s.Runs (.clrFlag t e) (fun u => OnlyTile t v u
      ∧ u.tile t = ((y.clearFlag (bits w 29 22)).posted w).goOn (y.pc + 1) (e + 1) (e + 1)
      ∧ (y.quiet = true → bit ((u.entered t (e + 1)).tile t).flags (bits w 29 22) = false)) := by
  have hclear := (issue_tileIs hv w y).modTile (fun x => x.clearFlag (bits w 29 22))
  obtain ⟨u, hrun, hu⟩ := h.runsAtOnce (c := .clrFlag t e) (execClrFlag t e s) rfl rfl rfl (by decide) hclear hpost
  refine ⟨u, hrun, hu.onlyTile, hu.tile, fun hq => ?_⟩
  obtain ⟨-, -, hsets, hclears, -⟩ := (quiet_iff y).1 hq
  have hno (g : FlagSet → List Cond) : y.sets.flatMap g = [] := by rw [hsets]; rfl
  rw [completed_flags h hv hu hq rfl (hno _)]
  exact settleFlags_cleared (y := y.clearFlag (bits w 29 22)) hsets (congrArg (bits w 29 22 :: ·) hclears)

theorem voice_starts (h : s.Issues t e 0x02 w y) (hv : v = s.entered t e) (hconds : voiceConds (s.issue t e w y) = []) :
    s.Runs (.voice t e) (fun u => OnlyTile t v u ∧ u.tile t
      = { y with voice := none, voiceLoad := some ⟨bits w 36 22, e, [], postOf w, y.pc⟩ }.goOn (y.pc + 1) (e + 1) (e + 1)) := by
  have hext : 1 + extOf w = 1 := by rw [issues_extOf h, extNeeded_oneWord (by decide) (issues_opcode h)]
  have hload := (issue_tileIs hv w y).modTile (fun x =>
    { x with voice := none, voiceLoad := some ⟨bits w 36 22, e, [], postOf w, y.pc⟩ })
  obtain ⟨u, hrun, hu⟩ := h.runsBackground (c := .voice t e) (execVoice t e s) rfl rfl (by rw [hconds]; rfl) hext hload
  exact ⟨u, hrun, hu.onlyTile, hu.tile⟩

/-- Settles O36: each instruction completes at issue on the tile that its effect leaves; what it stages waits for its cycle. -/
theorem sequencerInstructions : Obligations.SequencerInstructions := by
  unfold Obligations.SequencerInstructions
  rintro t e w y s v hv goes rfl
  exact ⟨fun h hpost => nop_waits h hv hpost, fun h hpost => seed_stages h hv hpost, fun h hpost => canary_stages h hv hpost,
    fun h hpost => setc_stages h hv hpost, fun h hpost hopen hgood => setcS_stages h hv hpost hopen hgood,
    fun h hpost => clrFlag_clears h hv hpost, fun h hconds => voice_starts h hv hconds⟩

end

end Sys2Proof.Machine
namespace Sys2Proof.Machine

/-! ### The cycle in which an access lands (R235, R236, R239, R241)

Port B is free in it, and port A writes nothing: the units on their way into scratchpad, in different banks, are all written. -/

/-- What a cycle's units have written through port A, and the banks claimed on port B. -/
def Cycle.ports (x : Cycle) : List Nat × List Nat := (x.aWrites, x.banksB)

section
variable {t c : Nat} {s u : State} {y : Tile} {cs : List Cond} {bs : List Nat} {x : Cycle} {a : TierAccess}
  {ws : List (Nat × List Byte)}

/-! #### Stages that leave the ports alone -/

theorem voiceStart_ports (t c : Nat) (x : Cycle) : (voiceStart t c x).ports = x.ports := by
  unfold voiceStart
  split
  · rfl
  · split
    · rfl
    · split
      · rfl
      · dsimp only
        split <;> rfl

theorem coreStart_ports (t c : Nat) (x : Cycle) : (coreStart t c x).ports = x.ports := by
  rw [← voiceStart_ports t c x]
  unfold coreStart
  dsimp only
  split
  · rfl
  · split <;> rfl

theorem cycleStart_ports (t c : Nat) (x : Cycle) : (cycleStart t c x).ports = x.ports := by
  rw [cycleStart_eq]
  unfold startCore
  split
  · rfl
  · exact coreStart_ports t c _

namespace Cycle.At

theorem pushStage_ports (h : At t s y cs bs x) (hp : y.push = []) : (pushStage t c x).ports = x.ports := by
  unfold pushStage
  rw [h.state.tile, hp]
  rfl

theorem coreCycle_ports (h : At t s y cs bs x) (hy : y.CoreIdle) : (coreCycle t c x).ports = x.ports := by
  have hvoice : voiceCycle t c x = x := by
    unfold voiceCycle
    rw [h.state.tile, hy.voiceLoad]
  have hmma : mmaCycle t c x = x := by
    unfold mmaCycle
    rw [h.state.tile, hy.mma]
  have hplane : planeCycle t c x = x := by
    unfold planeCycle
    rw [h.state.tile, hy.planeLoad]
  have hvrun : vrunCycle t c x = x := by
    unfold vrunCycle
    rw [h.state.tile, hy.vrun]
  unfold coreCycle
  split
  · rfl
  · rw [hvoice, hmma, hplane, hvrun]

theorem bwriteCycle_ports (h : At t s y cs bs x) (hw : y.bwrites = []) : (bwriteCycle t c x).ports = x.ports := by
  unfold bwriteCycle
  dsimp only
  rw [h.state.tile, hw]
  rfl

end Cycle.At

/-! #### The units are written -/

/-- One unit of scratchpad written whole. -/
def State.landUnit (s : State) (t : Nat) (w : Nat × List Byte) : State :=
  { s with spad := s.spad.writeBytes (2 ^ 20 * t + 32 * w.1) w.2, spadErr := s.spadErr.erase (2 ^ 15 * t + w.1) }

/-- Units of scratchpad written. -/
def State.land (s : State) (t : Nat) (ws : List (Nat × List Byte)) : State := ws.foldl (fun s w => s.landUnit t w) s

theorem putUnit_untested {t n : Nat} {s : State} (h : (s.tile t).tests = []) (b : List Byte) : s.putUnit t n b = s.landUnit t (n, b) := by
  unfold State.putUnit State.testOn
  rw [h]
  rfl

theorem TileIs.landUnit (h : TileIs t s y u) (w : Nat × List Byte) : TileIs t (s.landUnit t w) y (u.landUnit t w) :=
  ⟨congrArg (fun x => State.landUnit x t w) h.rest, h.others, h.tile⟩

/-- A unit whose bank is free on port B, and which port A does not write, is written. -/
theorem Cycle.At.writeB (h : Cycle.At t s y cs bs x) (ht : y.tests = []) {w : Nat × List Byte} (hw : w.1 ∉ x.aWrites) (pc : Nat) :
    Cycle.At t (s.landUnit t w) y cs bs (x.writeB t pc w.1 w.2)
      ∧ (x.writeB t pc w.1 w.2).ports = (x.aWrites, w.1 / 4096 :: x.banksB) := by
  have hput : x.writeB t pc w.1 w.2 = { x.claimB w.1 with s := x.s.landUnit t w } := by
    unfold Cycle.writeB
    dsimp only
    rw [if_neg (by simpa [Cycle.claimB] using hw), show (x.claimB w.1).s = x.s from rfl,
      putUnit_untested (by rw [h.state.tile, ht]) w.2]
  rw [hput]
  exact ⟨⟨h.state.landUnit w, h.conds, h.banks⟩, rfl⟩

/-- Units in different banks, all free, are all written. -/
theorem landUnits_free (hx : Cycle.At t s y cs bs x) (ht : y.tests = []) (ha : x.aWrites = []) (pc : Nat)
    (hfree : ∀ w ∈ ws, w.1 / 4096 ∉ x.banksB) (hbanks : (ws.map (fun w => w.1 / 4096)).Nodup) :
    ∃ x', landUnits t pc ws x = ([], x') ∧ Cycle.At t (s.land t ws) y cs bs x' := by
  induction ws generalizing s x with
  | nil => exact ⟨x, rfl, hx⟩
  | cons w ws ih =>
    rw [List.map_cons, List.nodup_cons] at hbanks
    obtain ⟨hbank, hrest⟩ := hbanks
    obtain ⟨hwrite, hports⟩ := hx.writeB ht (w := w) (by rw [ha]; exact List.not_mem_nil) pc
    obtain ⟨hwrites, hclaimed⟩ := Prod.mk.inj hports
    have hnext : ∀ v ∈ ws, v.1 / 4096 ∉ (x.writeB t pc w.1 w.2).banksB := fun v hv hm => by
      rw [hclaimed] at hm
      rcases List.mem_cons.1 hm with heq | hold
      · exact hbank (List.mem_map.2 ⟨v, hv, heq⟩)
      · exact hfree v (List.mem_cons_of_mem w hv) hold
    obtain ⟨x', hland, hx'⟩ := ih hwrite (hwrites.trans ha) hnext hrest
    refine ⟨x', ?_, hx'⟩
    unfold landUnits
    rw [if_neg (by simpa using hfree w List.mem_cons_self)]
    exact hland

/-! #### The access is complete -/

/-- The tile without its one access, whose token is to be posted in cycle `c`. -/
def Tile.accessDone (y : Tile) (a : TierAccess) (c : Nat) : Tile :=
  { y with accesses := [], posts := if a.post = 0 then [] else [⟨a.post, c, a.pc, false⟩] }

theorem fenceRelease_none (h : y.block = none) (e : Nat) : y.fenceRelease e = y := by
  unfold Tile.fenceRelease
  rw [h]

/-- The one access of a tile, with nothing left to write, is complete. -/
theorem completeAccesses_one (ha : y.accesses = [a]) (hl : a.landing = some []) (hp : y.posts = []) (hb : y.block = none) :
    y.completeAccesses c = y.accessDone a c := by
  have hended : y.accesses.filter (fun a => a.landing == some []) = [a] := by rw [ha]; simp [hl]
  have hleft : y.accesses.filter (fun a => a.landing != some []) = [] := by rw [ha]; simp [hl]
  have hposts : y.posts ++ ([a].filter (fun (a : TierAccess) => a.post ≠ 0)).map (fun (a : TierAccess) => Post.mk a.post c a.pc false)
      = if a.post = 0 then [] else [⟨a.post, c, a.pc, false⟩] := by
    rw [hp]
    by_cases hzero : a.post = 0 <;> simp [hzero]
  unfold Tile.completeAccesses
  dsimp only
  rw [hended, hleft, hposts, if_neg (by simp)]
  exact fenceRelease_none (y := y.accessDone a c) hb c

/-- The access engine writes what is left of the one access, and completes it. -/
theorem Cycle.At.landStage_one (h : Cycle.At t s y cs bs x) (hports : x.ports = ([], [])) (ht : y.tests = []) (ha : y.accesses = [a])
    (hl : a.landing = some ws) (hstop : a.stop = none) (hbanks : (ws.map (fun w => w.1 / 4096)).Nodup) (hp : y.posts = [])
    (hb : y.block = none) : Cycle.At t (s.land t ws) (y.accessDone a c) cs bs (landStage t c x) := by
  obtain ⟨hwrites, hclaims⟩ := Prod.mk.inj hports
  obtain ⟨x', hland, hx'⟩ := landUnits_free h ht hwrites a.pc (by rw [hclaims]; exact fun _ _ => List.not_mem_nil) hbanks
  have hrun : runOps (landAccess t) [a] x = ([{ a with landing := some [] }], x') := by
    unfold runOps
    rw [show landAccess t x a = (x', some { a with landing := some [] }) by
      unfold landAccess
      rw [hl]
      dsimp only
      rw [hland]]
    rfl
  have hconds : [{ a with landing := some [] }].flatMap
      (fun (a : TierAccess) => if a.landing == some [] then a.stop.toList else []) = [] := by
    rw [List.flatMap_singleton, hstop]
    rfl
  have hmod := hx'.mod (fun z => { z with accesses := [{ a with landing := some [] }] })
  unfold landStage
  rw [h.state.tile, ha, hrun]
  dsimp only
  rw [hmod.state.tile]
  dsimp only
  rw [hconds]
  have hdone := hmod.add_none.mod (fun z => z.completeAccesses c)
  have hsame : Tile.completeAccesses { y with accesses := [{ a with landing := some [] }] } c = y.accessDone a c :=
    completeAccesses_one (a := { a with landing := some [] }) rfl rfl hp hb
  rwa [hsame] at hdone

/-- The tile after that cycle: no access, and the token on the board. -/
def Tile.accessPosted (y : Tile) (a : TierAccess) : Tile :=
  { y with accesses := [], posts := [], board := if a.post = 0 then y.board else y.board + 2 ^ a.post }

theorem Cycle.At.cyclePosts_access (h : Cycle.At t s (y.accessDone a c) cs bs x)
    (hboard : a.post = 0 ∨ bit y.board a.post = false) : Cycle.At t s (y.accessPosted a) cs bs (cyclePosts t c x) := by
  by_cases hzero : a.post = 0
  · have hsame : y.accessDone a c = y.accessPosted a := by
      unfold Tile.accessDone Tile.accessPosted
      rw [if_pos hzero, if_pos hzero]
    rw [hsame] at h
    exact h.cyclePosts_none (fun _ hm => absurd hm List.not_mem_nil)
  · have hposts : (y.accessDone a c).posts = [⟨a.post, c, a.pc, false⟩] := if_neg hzero
    have hdone := h.cyclePosts_one (c := c) hposts le_rfl hzero (hboard.resolve_left hzero)
    have hsame : { y.accessDone a c with posts := [], board := (y.accessDone a c).board + 2 ^ a.post } = y.accessPosted a := by
      unfold Tile.accessPosted
      rw [if_neg hzero]
      rfl
    exact hsame ▸ hdone

/-- A tile that does nothing but wait for its one access, whose units are on their way into scratchpad. -/
structure Tile.Lands (y : Tile) (a : TierAccess) (ws : List (Nat × List Byte)) : Prop where
  idle : { y with accesses := [] }.Idle
  posts : y.posts = []
  sets : y.sets = []
  clears : y.clears = []
  block : y.block = none
  access : y.accesses = [a]
  landing : a.landing = some ws
  stop : a.stop = none
  banks : (ws.map (fun w => w.1 / 4096)).Nodup
  board : a.post = 0 ∨ bit y.board a.post = false

namespace Tile.Lands

theorem core (h : y.Lands a ws) : y.CoreIdle := { h.idle with }

theorem busy (h : y.Lands a ws) : y.quiet = false :=
  quiet_busy (fun hy => by
    have hnone := hy.landing a (by rw [h.access]; exact List.mem_singleton_self a)
    rw [h.landing] at hnone
    cases hnone)

/-- The cycle passes, and the access is complete. -/
theorem tileCycle (h : y.Lands a ws) (hu : TileIs t s y u) :
    TileIs t (s.land t ws) ((y.accessPosted a).ended y.now (s.land t ws).nextMeasureBeat) (tileCycle u t []) := by
  have hno : ∀ p ∈ y.posts, p.core = false := by rw [h.posts]; exact fun _ hm => absurd hm List.not_mem_nil
  have hbegin := Cycle.At.begin hu h.idle.claim []
  have hstart : Cycle.At t s y [] [] (cycleStart t y.now (Cycle.begin u t [])) := by
    rw [cycleStart_eq]
    exact (hbegin.released_none h.idle.push h.idle.pull h.idle.mma h.idle.vrun h.block).startCore_idle h.core
  have hpush := hstart.pushStage_none (c := y.now) h.idle.push
  have hcore := hpush.coreCycle_idle (c := y.now) h.core hno
  have hbwrite := hcore.bwriteCycle_none (c := y.now) h.idle.bwrites
  have hports := (hcore.bwriteCycle_ports (c := y.now) h.idle.bwrites).trans ((hpush.coreCycle_ports h.core).trans
    ((hstart.pushStage_ports h.idle.push).trans (cycleStart_ports t y.now (Cycle.begin u t []))))
  have hland := hbwrite.landStage_one (c := y.now) hports h.idle.tests h.access h.landing h.stop h.banks h.posts h.block
  have hpost := (hland.pullStage_none (c := y.now) h.idle.pull).cyclePosts_access h.board
  have hlast := hpost.lastStages (c := y.now) h.idle.tests
  have hsets (g : FlagSet → List Cond) : y.sets.flatMap g = [] := by rw [h.sets]; rfl
  rw [settleFlags_none (y := y.accessPosted a) h.sets h.clears, show (y.accessPosted a).sets = y.sets from rfl, hsets] at hlast
  rw [← unitsCycle_eq] at hlast
  exact tileCycle_none (by rw [hu.tile]) hlast

/-- The next cycle begins with the access complete. -/
theorem entered (h : y.Lands a ws) (hclock : s.clockOf t ≤ y.now) (hu : TileIs t s y u) :
    TileIs t (s.land t ws) ((y.accessPosted a).ended y.now (s.land t ws).nextMeasureBeat) (u.entered t (y.now + 1)) := by
  obtain ⟨w, hw, heq⟩ := hu.entered_add rfl hclock
  have hnone : ∀ b ∈ (y.accessPosted a).accesses, b.landing = none := fun _ hm => absurd hm List.not_mem_nil
  have hrun : runCycles t 1 w = Machine.tileCycle w t [] := by
    rw [runCycles_busy (by rw [hw.tile, h.busy])]
    rfl
  have hidle : ((y.accessPosted a).ended y.now (s.land t ws).nextMeasureBeat).Idle := { h.idle with claim := rfl }
  rw [heq 1, hrun]
  exact ((Cycle.At.begin (h.tileCycle hw) rfl []).cycleStart_still hidle h.block).state

end Tile.Lands

end

end Sys2Proof.Machine

namespace Sys2Proof.Machine

/-! ### What the tier does of an access (R235, R236, R262) -/

/-! #### Units of the tiers -/

/-- A run of bytes written leaves a run of bytes outside it alone. -/
theorem Memory.readBytes_writeBytes_out (bs : List Byte) (m : Memory) {a b n : Nat} (h : b + n ≤ a ∨ a + bs.length ≤ b) :
    (m.writeBytes a bs).readBytes b n = m.readBytes b n := by
  induction n generalizing b with
  | zero => rfl
  | succ n ih => rw [Memory.readBytes, Memory.readBytes, Memory.read_writeBytes_out bs m (by omega), ih (by omega)]

/-- A unit written whole reads back. -/
theorem Memory.readBytes_writeWhole {b : List Byte} (h : b.length = 32) (m : Memory) (a : Nat) : (m.writeBytes a b).readBytes a 32 = b := by
  have := Memory.readBytes_writeBytes b m a
  rwa [h] at this

section
variable {s w : State} {tier i j : Nat} {b : List Byte}

theorem tierUnit_length (s : State) (tier i : Nat) : (s.tierUnit tier i).length = 32 := by
  unfold State.tierUnit
  split <;> exact Memory.readBytes_length ..

theorem tierUnit_putTier_same (h : b.length = 32) : (s.putTier tier i b).tierUnit tier i = b := by
  unfold State.putTier State.tierUnit
  split <;> exact Memory.readBytes_writeWhole h _ _

theorem tierUnit_putTier_other (h : b.length = 32) (hij : j ≠ i) : (s.putTier tier i b).tierUnit tier j = s.tierUnit tier j := by
  unfold State.putTier State.tierUnit
  split <;> exact Memory.readBytes_writeBytes_out b _ (by omega)

/-- A write to one tier leaves the other alone. -/
theorem putTier_otherTier (s : State) (tier i : Nat) (b : List Byte) :
    (tier = 1 → (s.putTier tier i b).tier2 = s.tier2) ∧ (tier = 2 → (s.putTier tier i b).tier1 = s.tier1) := by
  unfold State.putTier
  refine ⟨fun h => ?_, fun h => ?_⟩
  · rw [if_pos h]
  · rw [if_neg (by omega)]

/-- The state without the tiers, and without the counts of units moved. -/
def State.tierless (s : State) : State := { s with tier1 := Memory.empty, tier2 := Memory.empty, poison := [], moved := [] }

theorem part_of_tierless {α : Type} (h : w.tierless = s.tierless) (f : State → α)
    (hf : ∀ x, f x.tierless = f x := by exact fun _ => rfl) : f w = f s := by rw [← hf w, h, hf s]

theorem countMoved_tierless (s : State) (tier kind i : Nat) : (s.countMoved tier kind i).tierless = s.tierless := rfl

theorem putTier_tierless (s : State) (tier i : Nat) (b : List Byte) : (s.putTier tier i b).tierless = s.tierless := by
  unfold State.putTier
  split <;> rfl

end

/-! #### A store -/

section
variable {t late : Nat} {a : TierAccess} {s v : State}

/-- The bytes of unit `k` of a store's source: those at issue, or those at the end. -/
def TierAccess.source (a : TierAccess) (s : State) (t late k : Nat) : List Byte :=
  if bit late k then s.spadUnit t (a.units.getD k 0) else a.early.getD k []

/-- Unit `k` of a store has moved. -/
def TierAccess.stored (a : TierAccess) (t late : Nat) (s : State) (k : Nat) : State :=
  (s.countMoved a.tier 0 (a.taddrs.getD k 0)).putTier a.tier (a.taddrs.getD k 0) (a.source s t late k)

theorem stored_tierless (s : State) (k : Nat) : (a.stored t late s k).tierless = s.tierless :=
  (putTier_tierless _ _ _ _).trans (countMoved_tierless _ _ _ _)

theorem moveUnit_store (hstore : a.store = true) (herr : s.spadErr = []) (ws : List (Nat × List Byte)) (cs : List Cond) (k : Nat) :
    moveUnit t a late [] [] (ws, cs, s) k = (ws, cs, a.stored t late s k) := by
  have hread := eccRead_errorless (s := s.countMoved a.tier 0 (a.taddrs.getD k 0)) herr t
  unfold moveUnit
  dsimp only
  rw [if_pos hstore, hread]
  rfl

/-- The units of a store move one by one. -/
theorem moveUnits_store (hstore : a.store = true) (herr : v.spadErr = []) (n : Nat) :
    (List.range n).foldl (moveUnit t a late [] []) ([], [], v) = ([], [], (List.range n).foldl (a.stored t late) v)
      ∧ ((List.range n).foldl (a.stored t late) v).tierless = v.tierless := by
  refine ⟨?_, foldl_keeps State.tierless stored_tierless _ _⟩
  generalize List.range n = l
  induction l generalizing v with
  | nil => rfl
  | cons k l ih =>
    rw [List.foldl_cons, moveUnit_store hstore herr, ih ((part_of_tierless (stored_tierless v k) State.spadErr).trans herr)]
    rfl

/-- What the first `n` units of a store have made of the tiers. -/
structure TierAccess.StoredUnits (a : TierAccess) (t late n : Nat) (v w : State) : Prop where
  units : ∀ k < n, ∀ ta, a.taddrs[k]? = some ta → w.tierUnit a.tier ta = a.source v t late k
  others : ∀ ta, ta ∉ a.taddrs.take n → w.tierUnit a.tier ta = v.tierUnit a.tier ta
  tier2 : a.tier = 1 → w.tier2 = v.tier2
  tier1 : a.tier = 2 → w.tier1 = v.tier1

theorem storedUnits (hnodup : a.taddrs.Nodup) (hlen : ∀ k < a.taddrs.length, (a.source v t late k).length = 32) {n : Nat}
    (hn : n ≤ a.taddrs.length) : a.StoredUnits t late n v ((List.range n).foldl (a.stored t late) v) := by
  induction n with
  | zero => exact ⟨fun k hk => absurd hk (Nat.not_lt_zero k), fun _ _ => rfl, fun _ => rfl, fun _ => rfl⟩
  | succ n ih =>
    have hprev := ih (by omega)
    have hkeep := foldl_keeps State.tierless (stored_tierless (a := a) (t := t) (late := late)) (List.range n) v
    rw [List.range_succ, List.foldl_append, List.foldl_cons, List.foldl_nil]
    generalize (List.range n).foldl (a.stored t late) v = u at hprev hkeep
    have hget : a.taddrs[n]? = some (a.taddrs.getD n 0) := by
      rw [List.getElem?_eq_getElem hn, List.getD_eq_getElem _ _ hn]
    have hsource : a.source u t late n = a.source v t late n := part_of_tierless hkeep (fun x => a.source x t late n)
    have hlength : (a.source u t late n).length = 32 := hsource ▸ hlen n hn
    have hother {ta : Nat} (h : ta ≠ a.taddrs.getD n 0) : (a.stored t late u n).tierUnit a.tier ta = u.tierUnit a.tier ta :=
      tierUnit_putTier_other hlength h
    refine ⟨fun k hk ta hta => ?_, fun ta hta => ?_, fun h => ?_, fun h => ?_⟩
    · rcases Nat.lt_succ_iff_lt_or_eq.1 hk with hlt | rfl
      · have hne : ta ≠ a.taddrs.getD n 0 := fun heq => by
          have := (List.getElem?_inj (by omega) hnodup).1 (hta.trans (heq ▸ hget.symm))
          omega
        rw [hother hne, hprev.units k hlt ta hta]
      · rw [Option.some.inj (hta.symm.trans hget), ← hsource]
        exact tierUnit_putTier_same hlength
    · rw [List.take_add_one, hget, List.mem_append, not_or] at hta
      rw [hother (fun heq => hta.2 (by simp [heq])), hprev.others ta hta.1]
    · exact ((putTier_otherTier _ _ _ _).1 h).trans (hprev.tier2 h)
    · exact ((putTier_otherTier _ _ _ _).2 h).trans (hprev.tier1 h)

/-! #### A load -/

/-- The bytes of unit `k` of a load: those of its tier at issue, or those at the end. -/
def TierAccess.answer (a : TierAccess) (s : State) (late k : Nat) : List Byte :=
  if bit late k then s.tierUnit a.tier (a.taddrs.getD k 0) else a.early.getD k []

/-- What a load puts on its way into scratchpad. -/
def TierAccess.answers (a : TierAccess) (s : State) (late : Nat) : List (Nat × List Byte) :=
  (List.range a.taddrs.length).map (fun k => (a.units.getD k 0, a.answer s late k))

/-- Unit `k` of a load has moved. -/
def TierAccess.loaded (a : TierAccess) (s : State) (k : Nat) : State := s.countMoved a.tier 0 (a.taddrs.getD k 0)

/-- A read of a unit that is neither poisoned nor struck by an error. -/
theorem tierRead_good (h : s.poison = []) (tier n k : Nat) : s.tierRead tier n (([] : List Nat).contains k) (([] : List Nat).contains k)
    = (false, s) := by
  have hclean : s.poisoned n = false := by
    unfold State.poisoned
    rw [h]
    rfl
  unfold State.tierRead
  rw [hclean]
  split <;> rfl

theorem moveUnit_load (hload : a.store = false) (hpoison : s.poison = []) (ws : List (Nat × List Byte)) (cs : List Cond) (k : Nat) :
    moveUnit t a late [] [] (ws, cs, s) k = (ws ++ [(a.units.getD k 0, a.answer s late k)], cs, a.loaded s k) := by
  have hread := tierRead_good (s := s.countMoved a.tier 0 (a.taddrs.getD k 0)) hpoison a.tier
  unfold moveUnit
  dsimp only
  rw [if_neg (by simp [hload]), hread]
  rfl

/-- The state without the counts of units moved. -/
def State.uncounted (s : State) : State := { s with moved := [] }

theorem part_of_uncounted {α : Type} {w : State} (h : w.uncounted = v.uncounted) (f : State → α)
    (hf : ∀ x, f x.uncounted = f x := by exact fun _ => rfl) : f w = f v := by rw [← hf w, h, hf v]

/-- The units of a load are answered one by one; nothing but the count of units moved changes. -/
theorem moveUnits_load (hload : a.store = false) (hpoison : v.poison = []) (n : Nat) : ∃ w, w.uncounted = v.uncounted
    ∧ (List.range n).foldl (moveUnit t a late [] []) ([], [], v)
      = ((List.range n).map (fun k => (a.units.getD k 0, a.answer v late k)), [], w) := by
  induction n with
  | zero => exact ⟨v, rfl, rfl⟩
  | succ n ih =>
    obtain ⟨w, hw, heq⟩ := ih
    have hclean : w.poison = [] := (part_of_uncounted hw State.poison).trans hpoison
    have hanswer : a.answer w late n = a.answer v late n := part_of_uncounted hw (fun x => a.answer x late n)
    refine ⟨a.loaded w n, hw, ?_⟩
    rw [List.range_succ, List.foldl_append, heq, List.foldl_cons, List.foldl_nil, moveUnit_load hload hclean, hanswer, List.map_append]
    rfl

theorem answers_units (hlen : a.taddrs.length = a.units.length) : (a.answers v late).map Prod.fst = a.units := by
  unfold TierAccess.answers
  rw [List.map_map, hlen]
  refine List.ext_getElem (by simp) (fun k hk hk' => ?_)
  simp [List.getElem?_eq_getElem hk']

theorem answers_bytes {k : Nat} {x : Nat × List Byte} (h : (a.answers v late)[k]? = some x) : x.2 = a.answer v late k := by
  unfold TierAccess.answers at h
  rw [List.getElem?_map] at h
  obtain ⟨n, hn, rfl⟩ := Option.map_eq_some_iff.1 h
  obtain ⟨hlt, heq⟩ := List.getElem?_eq_some_iff.1 hn
  rw [List.getElem_range] at heq
  rw [heq]

end

end Sys2Proof.Machine

namespace Sys2Proof.Machine

/-! ### TIER_ACCESS_COMPLETE (R235, R236, R239, R241, R244) -/

section
variable {t : TileIx} {e late : Nat} {a : TierAccess} {s u v w : State} {ws : List (Nat × List Byte)}

/-- A tile that does nothing but wait for its one outstanding access. -/
structure Tile.Awaits (y : Tile) (a : TierAccess) : Prop where
  quiet : y.quiet = true
  running : y.halted = false
  access : y.accesses = [a]
  waiting : a.landing = none
  stop : a.stop = none
  board : a.post = 0 ∨ bit y.board a.post = false

/-- The tile when its tier has done its part: `ws` is on its way into scratchpad. -/
def Tile.answered (y : Tile) (a : TierAccess) (ws : List (Nat × List Byte)) : Tile :=
  { y with accesses := [{ a with landing := some ws }] }

theorem Tile.Awaits.lands {y : Tile} (h : y.Awaits a) (hbanks : (ws.map (fun x => x.1 / 4096)).Nodup) :
    (y.answered a ws).Lands { a with landing := some ws } ws := by
  obtain ⟨hidle, hposts, hsets, hclears, hblock, -⟩ := (quiet_iff y).1 h.quiet
  exact { idle := { hidle with landing := fun _ hm => absurd hm List.not_mem_nil }, posts := hposts, sets := hsets, clears := hclears,
          block := hblock, access := rfl, landing := rfl, stop := h.stop, banks := hbanks, board := h.board }

/-- The tier has moved the units of the one access without a fault: the state `w` and the units on their way. -/
theorem tierAccess_answers (he : s.tileEvent t e = true) (hv : v = s.entered t e) (hy : (v.tile t).Awaits a)
    (hmoves : (List.range a.taddrs.length).foldl (moveUnit t a late [] []) ([], [], v) = (ws, [], w)) (htile : w.tile t = v.tile t) :
    s.Runs (.tierAccessComplete t 0 e late [] []) (TileIs t w ((v.tile t).answered a ws)) := by
  subst hv
  have hbegin : s.begin.tileEvent t e = true := he
  have hset : ((s.entered t e).tile t).accesses.set 0 { a with landing := some ws, stop := none }
      = [{ a with landing := some ws }] := by
    rw [hy.access, ← hy.stop]
    rfl
  have hone : ((s.entered t e).tile t).accesses[0]? = some a := by rw [hy.access]; rfl
  have hnone : (if ((s.entered t e).tile t).halted = true then [] else ([] : List Cond) ++ a.stop.toList) = [] := by
    rw [hy.running, hy.stop]
    rfl
  refine ⟨_, ?_, (TileIs.refl t w).setTile _⟩
  show execTierAccessComplete t 0 e late [] [] s = _
  unfold execTierAccessComplete
  dsimp only
  rw [hbegin, Bool.not_true, if_neg Bool.false_ne_true]
  unfold State.entered at *
  rw [hone]
  dsimp only
  rw [hy.waiting, Option.isSome_none, if_neg Bool.false_ne_true, hmoves]
  dsimp only
  rw [hnone]
  unfold State.modTile
  rw [htile]
  dsimp only
  rw [show lowest [] = none from rfl, if_pos List.isEmpty_nil, hset]
  rfl

/-- The next cycle of the tile begins with the access complete and its units in scratchpad. -/
theorem answered_entered (he : s.tileEvent t e = true) (hv : v = s.entered t e) (hy : (v.tile t).Awaits a)
    (hbanks : (ws.map (fun x => x.1 / 4096)).Nodup) (htime : w.time = v.time) (hu : TileIs t w ((v.tile t).answered a ws) u) :
    TileIs t (w.land t ws) ((((v.tile t).answered a ws).accessPosted { a with landing := some ws }).ended e
      (w.land t ws).nextMeasureBeat) (u.entered t (e + 1)) := by
  have hnow : (v.tile t).now = e := by
    rw [hv]
    exact entered_now (tileEvent_now he)
  have hclock : w.clockOf t ≤ ((v.tile t).answered a ws).now := by
    unfold State.clockOf
    rw [htime]
    exact (entered_clock he hv).trans hnow.ge
  have hnext := (hy.lands hbanks).entered hclock hu
  rwa [show ((v.tile t).answered a ws).now = e from hnow] at hnext

/-- The one access of a tile is complete. -/
def TierAccess.Complete (a : TierAccess) (y : Tile) (u : State) (t : Nat) : Prop :=
  (u.tile t).accesses = [] ∧ (u.tile t).halted = false ∧ (u.tile t).board = (if a.post = 0 then y.board else y.board + 2 ^ a.post)

theorem answered_complete (he : s.tileEvent t e = true) (hv : v = s.entered t e) (hy : (v.tile t).Awaits a)
    (hbanks : (ws.map (fun x => x.1 / 4096)).Nodup) (htime : w.time = v.time) (hu : TileIs t w ((v.tile t).answered a ws) u) :
    a.Complete (v.tile t) (u.entered t (e + 1)) t := by
  unfold TierAccess.Complete
  rw [(answered_entered he hv hy hbanks htime hu).tile]
  exact ⟨rfl, hy.running, rfl⟩

/-- One unit on its way is in scratchpad in the next cycle, and no other is changed. -/
theorem answered_unit {n : Nat} {bytes : List Byte} (he : s.tileEvent t e = true) (hv : v = s.entered t e) (hy : (v.tile t).Awaits a)
    (hbytes : bytes.length = 32) (htime : w.time = v.time) (hu : TileIs t w ((v.tile t).answered a [(n, bytes)]) u) :
    (u.entered t (e + 1)).spadUnit t n = bytes
      ∧ ∀ x, x < 2 ^ 20 * t + 32 * n ∨ 2 ^ 20 * t + 32 * n + 32 ≤ x → (u.entered t (e + 1)).spad.read x = w.spad.read x := by
  have hnext := answered_entered (ws := [(n, bytes)]) he hv hy (List.nodup_singleton _) htime hu
  have hwritten : (u.entered t (e + 1)).spad = w.spad.writeBytes (2 ^ 20 * t + 32 * n) bytes := hnext.part State.spad
  have htests : ((u.entered t (e + 1)).tile t).tests = [] := by
    rw [hnext.tile]
    exact ((quiet_iff (v.tile t)).1 hy.quiet).1.tests
  refine ⟨?_, fun x hx => ?_⟩
  · unfold State.spadUnit State.testOn
    rw [htests, hwritten]
    exact Memory.readBytes_writeWhole hbytes _ _
  · rw [hwritten]
    exact Memory.read_writeBytes_out bytes _ (by rwa [hbytes])

/-- The units of a store are in their tier, as their source was. -/
theorem tierAccess_stores (he : s.tileEvent t e = true) (hv : v = s.entered t e) (hy : (v.tile t).Awaits a)
    (hlen : a.early.length = a.taddrs.length) (hearly : ∀ b ∈ a.early, b.length = 32) (herr : v.spadErr = []) (hstore : a.store = true)
    (hnodup : a.taddrs.Nodup) : s.Runs (.tierAccessComplete t 0 e late [] []) (fun u =>
      (∀ k ta, a.taddrs[k]? = some ta → u.tierUnit a.tier ta = a.source v t late k) ∧ u.spad = v.spad
      ∧ (∀ ta, ta ∉ a.taddrs → u.tierUnit a.tier ta = v.tierUnit a.tier ta)
      ∧ (a.tier = 1 → u.tier2 = v.tier2) ∧ (a.tier = 2 → u.tier1 = v.tier1) ∧ a.Complete (v.tile t) (u.entered t (e + 1)) t) := by
  have hsource : ∀ k < a.taddrs.length, (a.source v t late k).length = 32 := fun k hk => by
    unfold TierAccess.source
    split
    · exact spadUnit_length ((quiet_iff _).1 hy.quiet).1.tests
    · rw [List.getD_eq_getElem _ _ (hlen ▸ hk)]
      exact hearly _ (List.getElem_mem _)
  obtain ⟨hmoves, hkeep⟩ := moveUnits_store (t := t) (late := late) hstore herr a.taddrs.length
  have hstored := storedUnits hnodup hsource le_rfl
  obtain ⟨u, hrun, hu⟩ := tierAccess_answers he hv hy hmoves (part_of_tierless hkeep (fun x => x.tile t))
  refine ⟨u, hrun, fun k ta hta => ?_, ?_, fun ta hta => ?_, fun h => ?_, fun h => ?_, ?_⟩
  · exact (hu.part (fun x => x.tierUnit a.tier ta)).trans (hstored.units k (List.getElem?_eq_some_iff.1 hta).1 ta hta)
  · exact (hu.part State.spad).trans (part_of_tierless hkeep State.spad)
  · exact (hu.part (fun x => x.tierUnit a.tier ta)).trans (hstored.others ta (by rwa [List.take_length]))
  · exact (hu.part State.tier2).trans (hstored.tier2 h)
  · exact (hu.part State.tier1).trans (hstored.tier1 h)
  · exact answered_complete (ws := []) he hv hy List.nodup_nil (part_of_tierless hkeep State.time) hu

/-- The units that a load brings, and, where it brings one, the scratchpad in the next cycle. -/
theorem tierAccess_loads (he : s.tileEvent t e = true) (hv : v = s.entered t e) (hy : (v.tile t).Awaits a)
    (hlen : a.taddrs.length = a.units.length) (hearly : ∀ b ∈ a.early, b.length = 32) (hpoison : v.poison = [])
    (hload : a.store = false) :
    s.Runs (.tierAccessComplete t 0 e late [] []) (fun u => u.tier1 = v.tier1 ∧ u.tier2 = v.tier2 ∧ u.spad = v.spad
      ∧ (∃ b ws, (u.tile t).accesses = [b] ∧ b.landing = some ws ∧ ws.map Prod.fst = a.units
          ∧ ∀ k x, ws[k]? = some x → x.2 = a.answer v late k)
      ∧ (∀ n ta b, a.units = [n] → a.taddrs = [ta] → a.early = [b] → a.Complete (v.tile t) (u.entered t (e + 1)) t
          ∧ (u.entered t (e + 1)).spadUnit t n = (if bit late 0 then v.tierUnit a.tier ta else b)
          ∧ ∀ x, x < 2 ^ 20 * t + 32 * n ∨ 2 ^ 20 * t + 32 * n + 32 ≤ x →
              (u.entered t (e + 1)).spad.read x = v.spad.read x)) := by
  obtain ⟨w, hw, hmoves⟩ := moveUnits_load (late := late) hload hpoison a.taddrs.length
  have hspad := part_of_uncounted hw State.spad
  obtain ⟨u, hrun, hu⟩ := tierAccess_answers (ws := a.answers v late) he hv hy hmoves (part_of_uncounted hw (fun x => x.tile t))
  refine ⟨u, hrun, (hu.part State.tier1).trans (part_of_uncounted hw State.tier1), (hu.part State.tier2).trans
    (part_of_uncounted hw State.tier2), (hu.part State.spad).trans hspad, ?_, fun n ta b hn hta hb => ?_⟩
  · rw [hu.tile]
    exact ⟨_, _, rfl, rfl, answers_units hlen, fun k x hx => answers_bytes hx⟩
  · have hone : a.answers v late = [(n, if bit late 0 then v.tierUnit a.tier ta else b)] := by
      unfold TierAccess.answers TierAccess.answer
      rw [hn, hta, hb]
      rfl
    have hbytes : (if bit late 0 then v.tierUnit a.tier ta else b).length = 32 := by
      split
      · exact tierUnit_length v a.tier ta
      · exact hearly b (by rw [hb]; exact List.mem_singleton_self b)
    rw [hone] at hu
    obtain ⟨hunit, hrest⟩ := answered_unit he hv hy hbytes (part_of_uncounted hw State.time) hu
    exact ⟨answered_complete (ws := [(n, _)]) he hv hy (List.nodup_singleton _) (part_of_uncounted hw State.time) hu, hunit,
      fun x hx => (hrest x hx).trans (by rw [hspad])⟩

end

/-! ### T1_ACCESS_TIMEOUT (R260) -/

section
variable {t : TileIx} {k : Nat} {a : TierAccess} {s : State}

theorem exec_t1AccessTimeout (h : (s.tile t).accesses[k]? = some a) : exec (.t1AccessTimeout t k) s
    = occurs (a.tier == 1 && decide (a.tick + 4096 ≤ s.time.tick)) (fun s => s.raiseFatal .t1AccessTimeout (tileDie t + 2 ^ 3 * tileCol t
        + 2 ^ 8 * tileRow t + 2 ^ 16 * t1Stack ((((s.tile t).accesses[k]?).bind (fun a => a.taddrs.head?)).getD 0))) s := by
  show execT1AccessTimeout t k s = _
  unfold execT1AccessTimeout
  rw [h]

theorem t1AccessTimeout_fatal (h : (s.tile t).accesses[k]? = some a) (htier : a.tier = 1) (hlate : a.tick + 4096 ≤ s.time.tick) :
    s.Runs (.t1AccessTimeout t k) (fun u =>
      (∃ x, u.raised = s.raised ++ [x] ∧ x.reason = .t1AccessTimeout) ∧ u.regs = s.regs ∧ SameBytes s u ∧ SameTiles s u) :=
  State.runs_of_occurs (exec_t1AccessTimeout h) (by simp [htier, hlate])
    ⟨⟨_, rfl, rfl⟩, rfl, fun _ => ⟨rfl, rfl, rfl, rfl, rfl⟩, ⟨rfl, rfl, rfl, rfl, rfl⟩⟩

theorem t1AccessTimeout_early (h : (s.tile t).accesses[k]? = some a) (hno : a.tier ≠ 1 ∨ s.time.tick < a.tick + 4096) :
    exec (.t1AccessTimeout t k) s = .next s.begin := by
  have hdue : (a.tier == 1 && decide (a.tick + 4096 ≤ s.time.tick)) = false := by
    rw [Bool.and_eq_false_iff, beq_eq_false_iff_ne, decide_eq_false_iff_not, not_le]
    exact hno
  rw [exec_t1AccessTimeout h, hdue, occurs_false]

end

/-- Settles O42: the tier moves an access's units one by one; those of a load are written in the cycle that completes it. -/
theorem tierAccessesComplete : Obligations.TierAccessesComplete := by
  unfold Obligations.TierAccessesComplete
  refine ⟨fun t e late a s v he hv hq hh ha hl hstop hunits hearly hbytes _ herr hpoison hboard done hdone => ?_,
    fun t k a s ha => ⟨t1AccessTimeout_fatal ha, t1AccessTimeout_early ha⟩⟩
  have hy : (v.tile t).Awaits a := ⟨hq, hh, ha, hl, hstop, hboard⟩
  refine ⟨fun hstore hnodup => ?_, fun hload => ?_⟩
  · obtain ⟨u, hrun, hunit, hspad, hothers, htier2, htier1, hcomplete⟩ :=
      tierAccess_stores (late := late) he hv hy (hearly.trans hunits.symm) hbytes herr hstore hnodup
    exact ⟨u, hrun, hunit, hspad, hothers, htier2, htier1, (hdone _).2 hcomplete⟩
  · obtain ⟨u, hrun, htier1, htier2, hspad, hlanding, hone⟩ := tierAccess_loads (late := late) he hv hy hunits hbytes hpoison hload
    refine ⟨u, hrun, htier1, htier2, hspad, hlanding, fun n ta b hn hta hb => ?_⟩
    obtain ⟨hcomplete, hunit, hrest⟩ := hone n ta b hn hta hb
    exact ⟨(hdone _).2 hcomplete, hunit, hrest⟩

end Sys2Proof.Machine

namespace Sys2Proof.Machine

/-! ### A step of a bank's background test starts (R244, R245) -/

/-- The read of a unit for its test: a single-bit error is corrected. -/
def State.testRead (s : State) (t u : Nat) : State :=
  let w := (s.eccRead t u).2
  if s.spadErr.find? (2 ^ 15 * t + u) = some 1 then { w with spadErr := w.spadErr.erase (2 ^ 15 * t + u) } else w

/-- A tile with a step of a bank's test under way. -/
def Tile.testing (y : Tile) (b : Nat) (st : TestStep) : Tile := { y with tests := y.tests.put b st }

/-- The unit of the next step of a bank's test. -/
def State.testUnit (s : State) (t b : Nat) : Nat := 4096 * b + Table.get 0 s.testPos (8 * t + b) % 4096

/-- The next step of a bank's test, whose march will find `f`. -/
def State.testStep (s : State) (t b f : Nat) : TestStep := ⟨s.testUnit t b, s.spadUnit t (s.testUnit t b), 12, f⟩

section
variable {s v : State} {t b f u k : Nat}

theorem testRead_clean (h : s.spadErr.find? (2 ^ 15 * t + u) = none) : s.testRead t u = s := by
  unfold State.testRead
  rw [eccRead_clean h, h]
  rfl

/-- Beside registers, the read for a test changes the unit's stored error alone. -/
theorem testRead_apart (s : State) (t u : Nat) : ∃ e, (s.testRead t u).apart = { s with spadErr := e }.apart := by
  have hread := eccRead_apart s t u
  unfold State.testRead
  dsimp only
  split
  · exact ⟨_, congrArg (fun x => { x with spadErr := ((s.eccRead t u).2.spadErr).erase (2 ^ 15 * t + u) }) hread⟩
  · exact ⟨_, hread⟩

theorem testRead_corrects (h : s.spadErr.find? (2 ^ 15 * t + u) = some 1) : (s.testRead t u).spadErr.find? (2 ^ 15 * t + u) = none := by
  unfold State.testRead
  rw [if_pos h]
  exact Table.find?_erase_same _ _

/-- Every part that is neither a register nor a stored error is as it was. -/
theorem testRead_part {α : Type} (g : State → α) (hg : ∀ x e, g { x with spadErr := e }.apart = g x := by exact fun _ _ => rfl) :
    g (s.testRead t u) = g s := by
  obtain ⟨e, he⟩ := testRead_apart s t u
  rw [← hg (s.testRead t u) (s.testRead t u).spadErr, ← hg s e]
  exact congrArg g he

theorem spadUnit_testRead (n : Nat) : (s.testRead t u).spadUnit k n = s.spadUnit k n := testRead_part (fun x => x.spadUnit k n)

theorem startTest_eq (s : State) (t b f : Nat) : s.startTest t b f
    = (s.testRead t (s.testUnit t b)).modTile t (fun y => y.testing b (s.testStep t b f)) := by
  unfold State.testStep
  rw [← spadUnit_testRead (t := t) (u := s.testUnit t b)]
  rfl

theorem startTest_tile (s : State) (t b f : Nat) : (s.startTest t b f).tile t = (s.tile t).testing b (s.testStep t b f) := by
  rw [startTest_eq, tile_modTile_same, testRead_part (fun x => x.tile t)]

theorem startTest_others (s : State) (b f : Nat) (h : k ≠ t) : (s.startTest t b f).tile k = s.tile k := by
  rw [startTest_eq, tile_modTile_other _ _ h, testRead_part (fun x => x.tile k)]

theorem startTest_parts (s : State) (t b f : Nat) : SameBytes s (s.startTest t b f) ∧ (s.startTest t b f).testPos = s.testPos
    ∧ (s.startTest t b f).spad = s.spad ∧ (s.startTest t b f).spadErr = (s.testRead t (s.testUnit t b)).spadErr := by
  have hparts : (s.startTest t b f).spad = s.spad ∧ (s.startTest t b f).tier1 = s.tier1 ∧ (s.startTest t b f).tier2 = s.tier2
      ∧ (s.startTest t b f).mgmt = s.mgmt := by
    rw [startTest_eq]
    exact ⟨testRead_part State.spad, testRead_part State.tier1, testRead_part State.tier2, testRead_part State.mgmt⟩
  obtain ⟨hspad, htier1, htier2, hmgmt⟩ := hparts
  refine ⟨fun a => ?_, ?_, hspad, rfl⟩
  · rw [hspad, htier1, htier2, hmgmt]
    exact ⟨rfl, rfl, rfl, rfl, rfl⟩
  · rw [startTest_eq]
    exact testRead_part State.testPos

/-- The shadow register serves every access to the unit as its stored copy did. -/
theorem startTest_spadUnit (h : (s.tile t).tests.find? b = none) (n : Nat) : (s.startTest t b f).spadUnit t n = s.spadUnit t n := by
  obtain ⟨-, -, hspad, -⟩ := startTest_parts s t b f
  unfold State.spadUnit State.testOn
  rw [startTest_tile, hspad, State.testStep]
  by_cases hb : n / 4096 = b
  · rw [hb, Tile.testing, Table.find?_put_same, h]
    by_cases hn : s.testUnit t b = n
    · dsimp only
      rw [if_pos hn, hn]
      unfold State.spadUnit State.testOn
      rw [hb, h]
    · dsimp only
      rw [if_neg hn]
  · rw [Tile.testing, Table.find?_put_ne _ _ hb]

theorem startTest_clean (h : s.spadErr.find? (2 ^ 15 * t + s.testUnit t b) = none) : s.startTest t b f
    = s.modTile t (fun y => y.testing b (s.testStep t b f)) := by
  rw [startTest_eq, testRead_clean h]

end

end Sys2Proof.Machine

namespace Sys2Proof.Machine

/-! ### The cycles of a test step (R245 to R247) -/

section
variable {t c b : Nat} {s u : State} {y : Tile} {st : TestStep} {cs : List Cond} {bs : List Nat} {x : Cycle}

/-! #### The stages before the tests leave port B alone -/

theorem runOps_landAccess_none {l : List TierAccess} (h : ∀ a ∈ l, a.landing = none) : runOps (landAccess t) l x = (l, x) := by
  induction l with
  | nil => rfl
  | cons a l ih =>
    have hone : landAccess t x a = (x, some a) := by
      unfold landAccess
      rw [h a List.mem_cons_self]
    unfold runOps
    dsimp only
    rw [hone, ih (fun k hk => h k (List.mem_cons_of_mem a hk))]
    rfl

theorem flagsCycle_ports (t : Nat) (x : Cycle) : (flagsCycle t x).ports = x.ports := rfl

namespace Cycle.At

theorem landStage_ports (h : At t s y cs bs x) (ha : ∀ a ∈ y.accesses, a.landing = none) : (landStage t c x).ports = x.ports := by
  unfold landStage
  rw [h.state.tile, runOps_landAccess_none ha]
  rfl

theorem pullStage_ports (h : At t s y cs bs x) (hp : y.pull = []) : (pullStage t c x).ports = x.ports := by
  unfold pullStage
  rw [h.state.tile, hp]
  rfl

theorem cyclePosts_ports (h : At t s y cs bs x) (hp : y.posts = []) : (cyclePosts t c x).ports = x.ports := by
  unfold cyclePosts
  dsimp only
  rw [h.state.tile, hp]
  rfl

end Cycle.At

/-! #### The step in a cycle whose ports are free -/

/-- The step with its idle cycles counted down to `n`. -/
def TestStep.withLeft (st : TestStep) (n : Nat) : TestStep := { st with left := n }

namespace Cycle.At

/-- An idle cycle brings the step on. -/
theorem testCycle_on (h : At t s y cs [] x) (hB : x.banksB = []) (ht : y.tests = [(b, st)]) (hl : 1 < st.left) :
    At t s { y with tests := [(b, st.withLeft (st.left - 1))] } cs [] (testCycle t x) := by
  have hmod := h.mod (fun y => { y with tests := y.tests.put b (st.withLeft (st.left - 1)) })
  have hput : y.tests.put b (st.withLeft (st.left - 1)) = [(b, st.withLeft (st.left - 1))] := by rw [ht]; simp [Table.put]
  rw [hput] at hmod
  unfold testCycle
  rw [h.state.tile, ht, List.foldl_cons, List.foldl_nil, h.banks, hB, if_neg (by simp), if_neg (Nat.not_le.2 hl)]
  exact hmod

/-- The last idle cycle ends it. -/
theorem testCycle_ends (h : At t s y cs [] x) (hB : x.banksB = []) (ht : y.tests = [(b, st)]) (hl : st.left = 1) :
    At t (x.s.endTest t b st) ((x.s.endTest t b st).tile t) cs [] (testCycle t x) := by
  unfold testCycle
  rw [h.state.tile, ht, List.foldl_cons, List.foldl_nil, h.banks, hB, if_neg (by simp), if_pos (Nat.le_of_eq hl)]
  exact ⟨TileIs.refl t _, h.conds, rfl⟩

end Cycle.At

/-! #### A tile in which nothing but one test step moves -/

/-- Step `st` of bank `b`'s test is all that moves in the tile. -/
structure Tile.Tests (y : Tile) (b : Nat) (st : TestStep) : Prop where
  idle : { y with tests := [] }.Idle
  posts : y.posts = []
  sets : y.sets = []
  clears : y.clears = []
  block : y.block = none
  tests : y.tests = [(b, st)]

namespace Tile.Tests

theorem core (h : y.Tests b st) : y.CoreIdle := { h.idle with }

theorem busy (h : y.Tests b st) : y.quiet = false :=
  quiet_busy (fun hy => by
    have hnone := hy.tests
    rw [h.tests] at hnone
    cases hnone)

/-- A quiet tile in which a step begins. -/
theorem of_quiet (h : y.quiet = true) (b : Nat) (st : TestStep) : (y.testing b st).Tests b st := by
  obtain ⟨hidle, hposts, hsets, hclears, hblock, -⟩ := (quiet_iff y).1 h
  exact ⟨{ hidle with tests := rfl }, hposts, hsets, hclears, hblock, by rw [Tile.testing, hidle.tests]; rfl⟩

/-- Until the tests' part of a cycle nothing has happened, and no port has claimed a bank. -/
theorem beforeTests (h : y.Tests b st) (hu : TileIs t s y u) : ∃ x, Cycle.At t s y [] [] x ∧ x.banksB = []
    ∧ unitsCycle t c (cycleStart t c (Cycle.begin u t [])) = Machine.endStage t c (testCycle t x) := by
  have hnone : ∀ p, p ∉ y.posts := fun p => by rw [h.posts]; exact List.not_mem_nil
  have hstart : Cycle.At t s y [] [] (cycleStart t c (Cycle.begin u t [])) := by
    rw [cycleStart_eq]
    exact ((Cycle.At.begin hu h.idle.claim []).released_none h.idle.push h.idle.pull h.idle.mma h.idle.vrun h.block).startCore_idle h.core
  have hpush := hstart.pushStage_none (c := c) h.idle.push
  have hcore := hpush.coreCycle_idle (c := c) h.core (fun p hm => absurd hm (hnone p))
  have hbwrite := hcore.bwriteCycle_none (c := c) h.idle.bwrites
  have hland := hbwrite.landStage_none (c := c) h.idle.landing
  have hpull := hland.pullStage_none (c := c) h.idle.pull
  have hpost := hpull.cyclePosts_none (c := c) (fun p hm => absurd hm (hnone p))
  have hflags := hpost.flagsCycle
  have hno (g : FlagSet → List Cond) : y.sets.flatMap g = [] := by rw [h.sets]; rfl
  rw [hno, settleFlags_none h.sets h.clears] at hflags
  have hports := (flagsCycle_ports t _).trans <| (hpull.cyclePosts_ports (c := c) h.posts).trans <|
    (hland.pullStage_ports (c := c) h.idle.pull).trans <| (hbwrite.landStage_ports (c := c) h.idle.landing).trans <|
    (hcore.bwriteCycle_ports (c := c) h.idle.bwrites).trans <| (hpush.coreCycle_ports (c := c) h.core).trans <|
    (hstart.pushStage_ports (c := c) h.idle.push).trans (cycleStart_ports t c (Cycle.begin u t []))
  exact ⟨_, hflags, (Prod.mk.inj hports).2, unitsCycle_eq t c _⟩


/-- A cycle that is not the step's last. -/
theorem tileCycle_on (h : y.Tests b st) (hu : TileIs t s y u) (hl : 1 < st.left) :
    TileIs t s (Tile.ended { y with tests := [(b, st.withLeft (st.left - 1))] } y.now s.nextMeasureBeat) (tileCycle u t []) := by
  obtain ⟨x, hx, hB, heq⟩ := h.beforeTests (c := y.now) hu
  have hend := (hx.testCycle_on hB h.tests hl).endStage (c := y.now)
  rw [← heq] at hend
  exact tileCycle_none (by rw [hu.tile]) hend

/-- The last cycle ends the step. -/
theorem tileCycle_ends (h : y.Tests b st) (hu : TileIs t s y u) (hl : st.left = 1) : ∃ w n, TileIs t s y w
    ∧ TileIs t (w.endTest t b st) (((w.endTest t b st).tile t).ended y.now n) (tileCycle u t []) := by
  obtain ⟨x, hx, hB, heq⟩ := h.beforeTests (c := y.now) hu
  have hend := (hx.testCycle_ends hB h.tests hl).endStage (c := y.now)
  rw [← heq] at hend
  exact ⟨x.s, _, hx.state, tileCycle_none (by rw [hu.tile]) hend⟩

theorem next (h : y.Tests b st) (n c k : Nat) : (Tile.ended { y with tests := [(b, st.withLeft n)] } c k).Tests b (st.withLeft n) :=
  ⟨{ h.idle with claim := rfl }, h.posts, h.sets, h.clears, h.block, rfl⟩

/-- The cycles up to the step's end: before its last part nothing but the tile has changed. -/
theorem runCycles (h : y.Tests b st) (hu : TileIs t s y u) {n : Nat} (hl : st.left = n + 1) : ∃ w z c k, TileIs t s z w
    ∧ z.Tests b (st.withLeft 1)
    ∧ TileIs t (w.endTest t b (st.withLeft 1)) (((w.endTest t b (st.withLeft 1)).tile t).ended c k) (Machine.runCycles t (n + 1) u) := by
  induction n generalizing y u st with
  | zero =>
    obtain ⟨w, k, hw, hend⟩ := h.tileCycle_ends hu hl
    rw [runCycles_busy (by rw [hu.tile, h.busy])]
    have hsame : st.withLeft 1 = st := congrArg st.withLeft hl.symm
    rw [hsame]
    exact ⟨w, y, y.now, k, hw, h, hend⟩
  | succ n ih =>
    rw [runCycles_busy (by rw [hu.tile, h.busy])]
    exact ih (st := st.withLeft (st.left - 1)) (h.next (st.left - 1) _ _) (h.tileCycle_on hu (by omega)) (Nat.sub_eq_of_eq_add hl)

end Tile.Tests

end

end Sys2Proof.Machine

namespace Sys2Proof.Machine

/-! #### The end of a step (R245 to R247) -/

/-- The shadow register is written back, what the march found stays in the unit, and the bank goes on. -/
def State.testWritten (s : State) (t b : Nat) (st : TestStep) : State :=
  { s.modTile t (fun x => { x with tests := x.tests.erase b }) with
    spad := s.spad.writeBytes (2 ^ 20 * t + 32 * st.unit') st.shadow
    spadErr := if st.found = 0 then s.spadErr else s.spadErr.put (2 ^ 15 * t + st.unit') st.found
    testPos := Table.set 0 s.testPos (8 * t + b) (Table.get 0 s.testPos (8 * t + b) + 1) }

/-- A walk that every bank has finished is counted (R246). -/
def State.countPass (s : State) (t before : Nat) : State :=
  if s.testPasses t > before then s.bump .FLD_SPAD_TEST_passes (tileDie t) 1 else s

/-- A failed cell is recorded and warns (R247). -/
def State.recordFail (s : State) (t u : Nat) : State :=
  ((((((s.set .FLD_SPAD_FAIL_column (tileDie t) (tileCol t)).set .FLD_SPAD_FAIL_row (tileDie t) (tileRow t)).set .FLD_SPAD_FAIL_unit
    (tileDie t) u).set .FLD_SPAD_FAIL_kind (tileDie t) 0).set .FLD_SPAD_FAIL_valid (tileDie t) 1).bump .FLD_SPAD_ERR_test_fail
    (tileDie t) 1).warn .spadTestFail

theorem endTest_eq (s : State) (t b : Nat) (st : TestStep) : s.endTest t b st =
    if st.found = 0 then (s.testWritten t b st).countPass t (s.testPasses t)
    else ((s.testWritten t b st).countPass t (s.testPasses t)).recordFail t st.unit' := rfl

theorem countPass_quiet (s : State) (t n : Nat) : (s.countPass t n).quiet = s.quiet := by
  unfold State.countPass
  split <;> rfl

theorem recordFail_quiet (s : State) (t u : Nat) : (s.recordFail t u).quiet = s.quiet := by simp [State.recordFail]

theorem endTest_quiet (s : State) (t b : Nat) (st : TestStep) : (s.endTest t b st).quiet = (s.testWritten t b st).quiet := by
  rw [endTest_eq]
  split
  · exact countPass_quiet ..
  · exact (recordFail_quiet ..).trans (countPass_quiet ..)

section
variable {s u w : State} {t b : Nat} {y z : Tile} {st : TestStep}

/-- A part of the state that events and warnings leave alone. -/
theorem part_of_quiet {α : Type} (h : u.quiet = s.quiet) (f : State → α) (hf : ∀ x, f x.quiet = f x := by exact fun _ => rfl) :
    f u = f s := by rw [← hf u, h, hf s]

theorem endTest_tile (s : State) (t b : Nat) (st : TestStep) :
    (s.endTest t b st).tile t = { s.tile t with tests := (s.tile t).tests.erase b } :=
  (part_of_quiet (endTest_quiet s t b st) (fun x => x.tile t)).trans
    (tile_modTile_same s t (fun x => { x with tests := x.tests.erase b }))

theorem endTest_testPos (s : State) (t b : Nat) (st : TestStep) :
    (s.endTest t b st).testPos = Table.set 0 s.testPos (8 * t + b) (Table.get 0 s.testPos (8 * t + b) + 1) :=
  part_of_quiet (endTest_quiet s t b st) State.testPos

theorem endTest_spadErr (s : State) (t b : Nat) (st : TestStep) : (s.endTest t b st).spadErr
    = if st.found = 0 then s.spadErr else s.spadErr.put (2 ^ 15 * t + st.unit') st.found :=
  part_of_quiet (endTest_quiet s t b st) State.spadErr

theorem Memory.getElem_readBytes (m : Memory) {a n i : Nat} (h : i < (m.readBytes a n).length) : (m.readBytes a n)[i] = m.read (a + i) := by
  induction n generalizing a i with
  | zero => exact absurd h (Nat.not_lt_zero i)
  | succ n ih =>
    cases i with
    | zero => rfl
    | succ i =>
      show (m.readBytes (a + 1) n)[i]'_ = _
      rw [ih, Nat.add_right_comm, Nat.add_assoc]

/-- Bytes written where they stand already change nothing. -/
theorem Memory.read_writeBytes_readBytes (m : Memory) (a n x : Nat) : (m.writeBytes a (m.readBytes a n)).read x = m.read x := by
  by_cases h : a ≤ x ∧ x < a + n
  · obtain ⟨i, rfl⟩ := Nat.exists_eq_add_of_le h.1
    have hi : i < (m.readBytes a n).length := by
      rw [Memory.readBytes_length]
      omega
    rw [Memory.read_writeBytes_in _ m a i hi, Memory.getElem_readBytes]
  · refine Memory.read_writeBytes_out _ m ?_
    rw [Memory.readBytes_length]
    omega

/-- A shadow register that holds what its unit does leaves every byte as it was. -/
theorem endTest_sameBytes (h : st.shadow = s.spad.readBytes (2 ^ 20 * t + 32 * st.unit') 32) : SameBytes s (s.endTest t b st) := by
  have hquiet := endTest_quiet s t b st
  intro a
  rw [part_of_quiet hquiet State.spad, part_of_quiet hquiet State.tier1, part_of_quiet hquiet State.tier2, part_of_quiet hquiet State.mgmt]
  refine ⟨?_, rfl, rfl, rfl, rfl⟩
  show (s.spad.writeBytes _ st.shadow).read a = _
  rw [h]
  exact Memory.read_writeBytes_readBytes ..

/-- A step that finds nothing, and ends no walk, changes no register. -/
theorem endTest_regs (hf : st.found = 0) (hp : (s.endTest t b st).testPasses t ≤ s.testPasses t) : (s.endTest t b st).regs = s.regs := by
  have hpasses : (s.endTest t b st).testPasses t = (s.testWritten t b st).testPasses t :=
    part_of_quiet (endTest_quiet s t b st) (fun x => x.testPasses t)
  rw [endTest_eq, if_pos hf, State.countPass, if_neg (by omega)]
  rfl

/-- What a failed cell leaves in the die's record (R247, R274). -/
theorem endTest_record (hf : st.found ≠ 0) : (s.endTest t b st).get .FLD_SPAD_FAIL_unit (tileDie t) = st.unit' % 2 ^ 15
    ∧ (s.endTest t b st).get .FLD_SPAD_FAIL_kind (tileDie t) = 0
    ∧ (s.endTest t b st).get .FLD_SPAD_FAIL_row (tileDie t) = tileRow t ∧ (s.endTest t b st).get .FLD_SPAD_FAIL_column (tileDie t) = tileCol t
    ∧ (s.endTest t b st).get .FLD_SPAD_FAIL_valid (tileDie t) = 1
    ∧ bit ((s.endTest t b st).get .FLT_WARN_pending 0) Warn.spadTestFail.bit = true := by
  rw [endTest_eq, if_neg hf]
  generalize (s.testWritten t b st).countPass t (s.testPasses t) = w
  unfold State.recordFail
  have hwarn (v : State) {f : RegField} (i : Nat) (hno : f ∉ warnRegs) : (v.warn .spadTestFail).get f i = v.get f i :=
    warn_sameRegs v .spadTestFail f i hno
  have hcol : tileCol t < 2 ^ 5 := by unfold tileCol; omega
  have hrow : tileRow t < 2 ^ 6 := by unfold tileRow; omega
  refine ⟨?_, ?_, ?_, ?_, ?_, State.warn_pending _ _⟩ <;> rw [hwarn _ _ (by decide)] <;>
    simp only [State.get_bump, State.get_set, reduceCtorEq, false_and, if_false, and_self, if_true]
  · rfl
  · rfl
  · exact Nat.mod_eq_of_lt hrow
  · exact Nat.mod_eq_of_lt hcol
  · rfl

/-- From the start of a step on a tile in which nothing else moves, until its idle cycles have passed: what the step's end makes of a
state that differs from the one before in the tile alone. -/
theorem entered_test (h : y.Tests b st) (hu : TileIs t s y u) {n : Nat} (hl : st.left = n + 1) : ∃ w x z, TileIs t s x w
    ∧ x.tests = [(b, st.withLeft 1)] ∧ TileIs t (w.endTest t b (st.withLeft 1)) z (u.entered t (u.nowOf t + (n + 1))) ∧ z.tests = [] := by
  have hstart : Tile.Tests { y with now := u.nowOf t } b st := ⟨{ h.idle with }, h.posts, h.sets, h.clears, h.block, h.tests⟩
  obtain ⟨w, x, c, k, hw, hx, hend⟩ := hstart.runCycles (hu.begin.modTile (fun x => { x with now := u.nowOf t })) hl
  have htile : (w.endTest t b (st.withLeft 1)).tile t = { x with tests := [] } := by
    rw [endTest_tile, hw.tile, hx.tests]
    simp [Table.erase]
  rw [htile] at hend
  have hidle : (Tile.ended { x with tests := [] } c k).Idle := { hx.idle with claim := rfl }
  rw [Machine.entered_add rfl]
  exact ⟨w, x, _, hw, hx.tests, ((Cycle.At.begin hend hidle.claim []).cycleStart_still hidle hx.block).state, rfl⟩

end

end Sys2Proof.Machine

namespace Sys2Proof.Machine

/-! ### BACKGROUND_TEST_STEP (R245 to R247) -/

section
variable {s v w : State} {t b n u f : Nat}

/-- Twelve idle cycles after a step has begun on a quiet tile it is done (R245 to R247). -/
theorem startTest_done (hu : u = s.testUnit t b) (hb : b < 8) (hq : (s.tile t).quiet = true)
    (herr : s.spadErr.find? (2 ^ 15 * t + u) = none) (hv : v = s.startTest t b f) (hw : w = v.entered t (v.nowOf t + 12)) :
    (w.tile t).tests.find? b = none ∧ Table.get 0 w.testPos (8 * t + b) = Table.get 0 s.testPos (8 * t + b) + 1 ∧ SameBytes s w
      ∧ (f = 0 → w.spadErr = s.spadErr ∧ (w.testPasses t ≤ s.testPasses t → w.regs = s.regs))
      ∧ (f ≠ 0 → w.spadErr.find? (2 ^ 15 * t + u) = some f
          ∧ w.get .FLD_SPAD_FAIL_unit (tileDie t) = u ∧ w.get .FLD_SPAD_FAIL_kind (tileDie t) = 0
          ∧ w.get .FLD_SPAD_FAIL_row (tileDie t) = tileRow t ∧ w.get .FLD_SPAD_FAIL_column (tileDie t) = tileCol t
          ∧ w.get .FLD_SPAD_FAIL_valid (tileDie t) = 1 ∧ bit (w.get .FLT_WARN_pending 0) Warn.spadTestFail.bit = true) := by
  subst hu
  have hunit : s.testUnit t b < 2 ^ 15 := by unfold State.testUnit; omega
  have htests : (s.tile t).tests = [] := ((quiet_iff _).1 hq).1.tests
  have hshadow : s.spadUnit t (s.testUnit t b) = s.spad.readBytes (2 ^ 20 * t + 32 * s.testUnit t b) 32 := by
    unfold State.spadUnit State.testOn
    rw [htests]
    rfl
  have hstart : TileIs t s ((s.tile t).testing b (s.testStep t b f)) v := by
    rw [hv, startTest_clean herr]
    exact (TileIs.refl t s).modTile (fun y => y.testing b (s.testStep t b f))
  obtain ⟨m, x, z, hm, -, hz, hnone⟩ := entered_test (Tile.Tests.of_quiet hq b (s.testStep t b f)) hstart (n := 11) rfl
  rw [← hw] at hz
  have hfound : ((s.testStep t b f).withLeft 1).found = f := rfl
  refine ⟨?_, ?_, ?_, fun hf => ⟨?_, fun hp => ?_⟩, fun hf => ⟨?_, ?_⟩⟩
  · rw [hz.tile, hnone]
    rfl
  · rw [hz.part State.testPos, endTest_testPos, Table.get_set_same, hm.part State.testPos]
  · refine (hm.sameBytes.trans (endTest_sameBytes ?_)).trans hz.sameBytes
    rw [hm.part State.spad]
    exact hshadow
  · rw [hz.part State.spadErr, endTest_spadErr, hfound, if_pos hf, hm.part State.spadErr]
  · rw [hz.part (fun x => x.testPasses t), ← hm.part (fun x => x.testPasses t)] at hp
    rw [hz.part State.regs, endTest_regs hf hp, hm.part State.regs]
  · rw [hz.part State.spadErr, endTest_spadErr, hfound, if_neg hf]
    exact Table.find?_put_same ..
  · have hrecord := endTest_record (s := m) (t := t) (b := b) (st := (s.testStep t b f).withLeft 1) hf
    simp only [← hz.get] at hrecord
    obtain ⟨hu, hrest⟩ := hrecord
    exact ⟨hu.trans (Nat.mod_eq_of_lt hunit), hrest⟩

theorem exec_backgroundTestStep (t : TileIx) (b : Fin 8) (f : Fin 3) (s : State) : exec (.backgroundTestStep t b f) s
    = occurs (s.tileClocked t && s.get .FLD_SPAD_TEST_test_en (tileDie t) == 1
        && (s.tileStatus t == 0 || s.tileStatus t == 4 || s.tileStatus t == 6) && s.power != .hush
        && s.get .FLD_SPAD_SECURE_wipe_busy (tileDie t) == 0 && ((s.tile t).tests.find? b).isNone) (fun s => s.startTest t b f) s := rfl

end

/-! ### PATROL_SCRUB (R261, R263) -/

section
variable {k u : Nat}

theorem exec_patrolScrub (k : StackIx) (u : Nat) (f : Fin 3) (s : State) : exec (.patrolScrub k u f) s
    = occurs (s.tilesUp && s.get .HBM_CTRL_scrub_hours k != 0 && decide (u < 0xA0000000)) (fun s =>
      if f = 0 then s else if f = 1 then s.tierCe 1 ((7 - k.val) * 0xA0000000 + u) else s.t1Error ((7 - k.val) * 0xA0000000 + u)) s := rfl

/-- The units of a stack lie in its range of addresses (R253). -/
theorem t1Stack_unit (hk : k < 8) (hu : u < 0xA0000000) : t1Stack ((7 - k) * 0xA0000000 + u) = k := by
  unfold t1Stack
  omega

theorem State.runs_patrolScrub {k : StackIx} {f : Fin 3} {s : State} {P : State → Prop} (hup : s.tilesUp = true)
    (hon : s.get .HBM_CTRL_scrub_hours k ≠ 0) (hu : u < 0xA0000000)
    (h : P (if f = 0 then s.begin else if f = 1 then s.begin.tierCe 1 ((7 - k.val) * 0xA0000000 + u)
      else s.begin.t1Error ((7 - k.val) * 0xA0000000 + u))) : s.Runs (.patrolScrub k u f) P :=
  State.runs_of_occurs (exec_patrolScrub k u f s) (by simp [hup, hon, hu]) h

/-- An uncorrectable unit is poisoned, its address recorded, and firmware warned (R261, R262). -/
theorem t1Error_records (s : State) (hk : t1Stack u = k) (hu : u < 2 ^ 35) :
    (s.t1Error u).poisoned u = true ∧ (s.t1Error u).get .HBM_UE_ADDR_HI_valid k = 1
      ∧ (s.t1Error u).get .HBM_UE_ADDR_LO_addr_lo k = u % 2 ^ 32 ∧ (s.t1Error u).get .HBM_UE_ADDR_HI_addr_hi k = u / 2 ^ 32
      ∧ bit ((s.t1Error u).get .FLT_WARN_pending 0) Warn.t1Ue.bit = true := by
  unfold State.t1Error
  rw [hk]
  have hwarn (v : State) {f : RegField} (i : Nat) (hno : f ∉ warnRegs) : (v.warn .t1Ue).get f i = v.get f i :=
    warn_sameRegs v .t1Ue f i hno
  have hhi : u / 2 ^ 32 < 2 ^ 3 := by omega
  refine ⟨?_, ?_, ?_, ?_, State.warn_pending _ _⟩
  · unfold State.poisoned
    rw [part_of_quiet (quiet_warn _ .t1Ue) State.poison]
    show Option.isSome (Table.find? (if s.poisoned u = true then s else _).poison u) = true
    split
    · next h => exact h
    · rw [show (Table.set 0 s.poison u 1).find? u = some 1 from Table.find?_put_same ..]
      rfl
  · rw [hwarn _ _ (by decide), State.get_set_same]
    rfl
  · rw [hwarn _ _ (by decide)]
    simp only [State.get_set, reduceCtorEq, false_and, if_false, and_self, if_true]
    rfl
  · rw [hwarn _ _ (by decide)]
    simp only [State.get_set, reduceCtorEq, false_and, if_false, and_self, if_true]
    exact Nat.mod_eq_of_lt hhi

end

/-! ### Failures of the tiers (R273) -/

theorem exec_t1StackFail (k : StackIx) (s : State) :
    exec (.t1StackFail k) s = occurs s.tilesUp (fun s => s.raiseFatal .t1StackFail k) s := rfl

theorem exec_t2ChannelFail (c : ChannelIx) (s : State) :
    exec (.t2ChannelFail c) s = occurs s.tilesUp (fun s => s.raiseFatal .t2ChannelFail c) s := rfl

/-! ### The secure window (R248, R249) -/

theorem exec_fldSpadSecureWrite (a : Agent) (d : DieIx) (v : Word) (s : State) :
    exec (.fldSpadSecureWrite a d v) s = occurs s.fieldUp (fldSpadSecureWrite a d v.toNat) s := rfl

section
variable {a : Agent} {d n : Nat} {s : State}

theorem fldSpadSecureWrite_denied (h : isSecure a = false) :
    (fldSpadSecureWrite a d n s).get .FLD_SPAD_SECURE_nonsec_denied d = 1
      ∧ SameRegs [.FLD_SPAD_SECURE_nonsec_denied, .MGT_STATUS_host_denied, .MGT_ERR_access_denied] s (fldSpadSecureWrite a d n s) := by
  have hdenied : SameRegs [.FLD_SPAD_SECURE_nonsec_denied, .MGT_STATUS_host_denied, .MGT_ERR_access_denied] s
      (if a = .host then s.hostDenied else s) := by
    split
    · exact ((SameRegs.refl _ s).set (by simp) 0 1).bump (by simp) 0 1
    · exact SameRegs.refl _ s
  unfold fldSpadSecureWrite
  dsimp only
  rw [if_pos (by simp [h])]
  exact ⟨State.get_set_same .., hdenied.set (by simp) d 1⟩

theorem fldSpadSecureWrite_refused (h : isSecure a = true) (hw : windowOk (bits n 6 0) (bits n 11 7) = false) :
    fldSpadSecureWrite a d n s = s.set .FLD_SPAD_SECURE_cfg_reject d 1 := by
  unfold fldSpadSecureWrite
  dsimp only
  rw [if_neg (by simp [h]), if_pos (.inl (by simp [hw]))]

/-- The window is set, and what the write acknowledges is cleared. -/
def State.setWindow (s : State) (d n : Nat) : State :=
  ((s.set .FLD_SPAD_SECURE_base_blk d (bits n 6 0)).set .FLD_SPAD_SECURE_size_blk d (bits n 11 7)).set .FLD_SPAD_SECURE_open d (bits n 12 12)

/-- A bit of a write clears a flag. -/
def State.ackBit (s : State) (f : RegField) (d n i : Nat) : State := if bit n i then s.set f d 0 else s

theorem ackBit_sameRegs (s : State) (f : RegField) (d n i : Nat) : SameRegs [f] s (s.ackBit f d n i) := by
  unfold State.ackBit
  split
  · exact (SameRegs.refl _ s).set List.mem_cons_self d 0
  · exact SameRegs.refl _ s

theorem fldSpadSecureWrite_sets (h : isSecure a = true) (hw : windowOk (bits n 6 0) (bits n 11 7) = true) (hidle : s.planState = .idle)
    (hopen : bit n 12 = false ∨ s.secretsRefused = false) : fldSpadSecureWrite a d n s
    = ((s.setWindow d n).ackBit .FLD_SPAD_SECURE_cfg_reject d n 14).ackBit .FLD_SPAD_SECURE_nonsec_denied d n 15 := by
  unfold fldSpadSecureWrite
  dsimp only
  rw [if_neg (by simp [h]), if_neg (by rcases hopen with h12 | h12 <;> simp [hw, hidle, h12])]
  rfl

theorem bits_lt (n hi lo : Nat) : bits n hi lo < 2 ^ (hi + 1 - lo) := Nat.mod_lt _ (Nat.two_pow_pos _)

theorem setWindow_fields (s : State) (d n : Nat) : (s.setWindow d n).get .FLD_SPAD_SECURE_base_blk d = bits n 6 0
    ∧ (s.setWindow d n).get .FLD_SPAD_SECURE_size_blk d = bits n 11 7 ∧ (s.setWindow d n).get .FLD_SPAD_SECURE_open d = bits n 12 12 := by
  unfold State.setWindow
  simp only [State.get_set, reduceCtorEq, false_and, if_false, and_self, if_true]
  exact ⟨Nat.mod_eq_of_lt (bits_lt n 6 0), Nat.mod_eq_of_lt (bits_lt n 11 7), Nat.mod_eq_of_lt (bits_lt n 12 12)⟩

theorem setWindow_sameRegs (s : State) (d n : Nat) :
    SameRegs [.FLD_SPAD_SECURE_base_blk, .FLD_SPAD_SECURE_size_blk, .FLD_SPAD_SECURE_open] s (s.setWindow d n) :=
  (((SameRegs.refl _ s).set (by simp) d _).set (by simp) d _).set (by simp) d _

end

/-! ### Plan limits (R255, R264, R277) -/

theorem exec_planLimitLoWrite (tier2 : Bool) (v : Word) (s : State) : exec (.planLimitLoWrite tier2 v) s
    = occurs s.hubUp (fun s => if tier2 then { s with t2Lo := some v.toNat } else { s with t1Lo := some v.toNat }) s := rfl

/-- The number of a write's tier. -/
def limitTier (tier2 : Bool) : Nat := if tier2 then 2 else 1
/-- The largest value of its limit (R255, R264). -/
def limitTop (tier2 : Bool) : Nat := if tier2 then 0x800000000 else 0x4E6000000
/-- The fields of its limit, the flag of a refusal, and the HI register. -/
def limitLo (tier2 : Bool) : RegField := if tier2 then .TTM_PLAN_LIMIT_LO_limit_lo else .HBM_PLAN_LIMIT_LO_limit_lo
def limitHi (tier2 : Bool) : RegField := if tier2 then .TTM_PLAN_LIMIT_HI_limit_hi else .HBM_PLAN_LIMIT_HI_limit_hi
def limitReject (tier2 : Bool) : RegField := if tier2 then .TTM_STATUS_limit_reject else .HBM_STATUS_limit_reject
def limitReg (tier2 : Bool) : Reg := if tier2 then .TTM_PLAN_LIMIT_HI else .HBM_PLAN_LIMIT_HI

/-- The HI half of a write, as wide as its field. -/
def limitBits (tier2 : Bool) (v : Word) : Nat := bits v.toNat (if tier2 then 3 else 2) 0

/-- The LO half that waits for its HI half. -/
def State.stagedLo (s : State) (tier2 : Bool) : Option Nat := if tier2 then s.t2Lo else s.t1Lo

/-- No LO half waits. -/
def State.unstage (s : State) (tier2 : Bool) : State := if tier2 then { s with t2Lo := none } else { s with t1Lo := none }

/-- A limit set. -/
def State.setLimit (s : State) (tier2 : Bool) (lo hi : Nat) : State :=
  ((s.set (limitLo tier2) 0 lo).set (limitHi tier2) 0 hi).unlatch (limitReg tier2) 0

section
variable {tier2 : Bool} {v : Word} {lo hi : Nat} {s : State}

theorem exec_planLimitHiWrite (hup : s.hubUp = true) (hlo : s.stagedLo tier2 = some lo) : exec (.planLimitHiWrite tier2 v) s
    = .next (if s.planState = .idle ∧ lo + 2 ^ 32 * limitBits tier2 v ≤ limitTop tier2
        then (s.begin.unstage tier2).setLimit tier2 lo (limitBits tier2 v)
        else (s.begin.unstage tier2).set (limitReject tier2) 0 1) := by
  show execPlanLimitHiWrite tier2 v s = _
  unfold execPlanLimitHiWrite
  rw [hup, occurs_true]
  cases tier2 with
  | true =>
    replace hlo : s.begin.t2Lo = some lo := hlo
    dsimp only
    rw [if_pos rfl, hlo]
    rfl
  | false =>
    replace hlo : s.begin.t1Lo = some lo := hlo
    dsimp only
    rw [if_neg (by decide), hlo]
    rfl

theorem unstage_get (s : State) (tier2 : Bool) (f : RegField) (i : Nat) : (s.unstage tier2).get f i = s.get f i := by
  cases tier2 <;> rfl

theorem planLimit_eq (s : State) (tier2 : Bool) :
    s.planLimit (limitTier tier2) = s.get (limitLo tier2) 0 + 2 ^ 32 * s.get (limitHi tier2) 0 := by cases tier2 <;> rfl

theorem setLimit_get_other (s : State) {f : RegField} (h : f ≠ limitLo tier2 ∧ f ≠ limitHi tier2) :
    (s.setLimit tier2 lo hi).get f 0 = s.get f 0 :=
  (State.get_set_other (s.set (limitLo tier2) 0 lo) hi (.inl h.2)).trans (State.get_set_other s lo (.inl h.1))

/-- The limit reads as it was set. -/
theorem setLimit_planLimit (hlo : lo < 2 ^ 32) (hhi : hi < 2 ^ (limitHi tier2).width) (s : State) :
    (s.setLimit tier2 lo hi).planLimit (limitTier tier2) = lo + 2 ^ 32 * hi := by
  have hlow : (s.setLimit tier2 lo hi).get (limitLo tier2) 0 = lo := by
    refine (State.get_set_other _ _ (.inl (by cases tier2 <;> decide))).trans ((State.get_set_same ..).trans (Nat.mod_eq_of_lt ?_))
    cases tier2 <;> exact hlo
  have hhigh : (s.setLimit tier2 lo hi).get (limitHi tier2) 0 = hi := (State.get_set_same ..).trans (Nat.mod_eq_of_lt hhi)
  rw [planLimit_eq, hlow, hhigh]

/-- The other tier's limit and the refusal's flag stay. -/
theorem setLimit_keeps (s : State) : (s.setLimit tier2 lo hi).planLimit (limitTier (!tier2)) = s.planLimit (limitTier (!tier2))
    ∧ (s.setLimit tier2 lo hi).get (limitReject tier2) 0 = s.get (limitReject tier2) 0 := by
  rw [planLimit_eq, planLimit_eq, setLimit_get_other s (by cases tier2 <;> decide), setLimit_get_other s (by cases tier2 <;> decide),
    setLimit_get_other s (by cases tier2 <;> decide)]
  exact ⟨rfl, rfl⟩

theorem limitBits_lt (tier2 : Bool) (v : Word) : limitBits tier2 v < 2 ^ (limitHi tier2).width := by
  cases tier2 <;> exact bits_lt ..

theorem planLimitHiWrite_sets (hup : s.hubUp = true) (hlt : lo < 2 ^ 32) (hlo : s.stagedLo tier2 = some lo) (hidle : s.planState = .idle)
    (htop : lo + 2 ^ 32 * limitBits tier2 v ≤ limitTop tier2) : s.Runs (.planLimitHiWrite tier2 v) (fun u =>
      u.planLimit (limitTier tier2) = lo + 2 ^ 32 * limitBits tier2 v ∧ u.stagedLo tier2 = none
      ∧ u.planLimit (limitTier (!tier2)) = s.planLimit (limitTier (!tier2)) ∧ u.get (limitReject tier2) 0 = s.get (limitReject tier2) 0) := by
  refine ⟨_, (exec_planLimitHiWrite hup hlo).trans (by rw [if_pos ⟨hidle, htop⟩]), setLimit_planLimit hlt (limitBits_lt tier2 v) _, ?_, ?_⟩
  · cases tier2 <;> rfl
  · obtain ⟨hother, hreject⟩ := setLimit_keeps (tier2 := tier2) (lo := lo) (hi := limitBits tier2 v) (s.begin.unstage tier2)
    rw [hother, hreject, planLimit_eq, planLimit_eq, unstage_get, unstage_get, unstage_get]
    exact ⟨rfl, rfl⟩

theorem planLimitHiWrite_refuses (hup : s.hubUp = true) (hlo : s.stagedLo tier2 = some lo)
    (hno : s.planState ≠ .idle ∨ limitTop tier2 < lo + 2 ^ 32 * limitBits tier2 v) : s.Runs (.planLimitHiWrite tier2 v) (fun u =>
      u.planLimit (limitTier tier2) = s.planLimit (limitTier tier2) ∧ u.get (limitReject tier2) 0 = 1) := by
  have hrefused : ¬(s.planState = .idle ∧ lo + 2 ^ 32 * limitBits tier2 v ≤ limitTop tier2) := by
    rintro ⟨hidle, htop⟩
    exact hno.elim (absurd hidle) (Nat.not_lt.2 htop)
  refine ⟨_, (exec_planLimitHiWrite hup hlo).trans (by rw [if_neg hrefused]), ?_, ?_⟩
  · rw [planLimit_eq, planLimit_eq, State.get_set_other _ _ (.inl (by cases tier2 <;> decide)),
      State.get_set_other _ _ (.inl (by cases tier2 <;> decide)), unstage_get, unstage_get]
    rfl
  · rw [State.get_set_same]
    cases tier2 <;> rfl

end

/-! ### The parts of the statement -/

theorem backgroundTestStep_runs (t : TileIx) (b : Fin 8) (f : Fin 3) (s : State) (n u : Nat) (hclock : s.tileClocked t = true)
    (hen : s.get .FLD_SPAD_TEST_test_en (tileDie t) = 1) (hwipe : s.get .FLD_SPAD_SECURE_wipe_busy (tileDie t) = 0)
    (hstatus : s.tileStatus t = 0 ∨ s.tileStatus t = 4 ∨ s.tileStatus t = 6) (hpower : s.power ≠ .hush)
    (hnone : (s.tile t).tests.find? b = none) (hn : n = Table.get 0 s.testPos (8 * t + b)) (hu : u = 4096 * b.val + n % 4096) :
    s.Runs (.backgroundTestStep t b f) (fun v => (v.tile t).tests.find? b = some ⟨u, s.spadUnit t u, 12, f⟩ ∧ SameBytes s v
      ∧ (∀ k, v.spadUnit t k = s.spadUnit t k) ∧ (∀ k, k ≠ t.val → v.tile k = s.tile k) ∧ v.testPos = s.testPos
      ∧ (s.spadErr.find? (2 ^ 15 * t + u) = some 1 → v.spadErr.find? (2 ^ 15 * t + u) = none)
      ∧ (s.spadErr.find? (2 ^ 15 * t + u) = none → v.regs = s.regs ∧ v.spadErr = s.spadErr)
      ∧ ((s.tile t).quiet = true → s.spadErr.find? (2 ^ 15 * t + u) = none → ∀ w, w = v.entered t (v.nowOf t + 12) →
          (w.tile t).tests.find? b = none ∧ Table.get 0 w.testPos (8 * t + b) = n + 1 ∧ SameBytes s w
          ∧ (f = 0 → w.spadErr = s.spadErr ∧ (w.testPasses t ≤ s.testPasses t → w.regs = s.regs))
          ∧ (f ≠ 0 → w.spadErr.find? (2 ^ 15 * t + u) = some f.val
              ∧ w.get .FLD_SPAD_FAIL_unit (tileDie t) = u ∧ w.get .FLD_SPAD_FAIL_kind (tileDie t) = 0
              ∧ w.get .FLD_SPAD_FAIL_row (tileDie t) = tileRow t ∧ w.get .FLD_SPAD_FAIL_column (tileDie t) = tileCol t
              ∧ w.get .FLD_SPAD_FAIL_valid (tileDie t) = 1 ∧ bit (w.get .FLT_WARN_pending 0) Warn.spadTestFail.bit = true))) := by
  subst hn
  have hunit : u = s.begin.testUnit t b := hu
  clear hu
  subst hunit
  obtain ⟨hbytes, hpos, -, herr⟩ := startTest_parts s.begin t b f
  refine State.runs_of_occurs (exec_backgroundTestStep t b f s) (by simp [hclock, hen, hwipe, or_assoc.2 hstatus, hpower, hnone]) ⟨?_, hbytes,
    startTest_spadUnit (s := s.begin) hnone, fun k hk => startTest_others s.begin b f hk, hpos, fun h => ?_, fun h => ?_,
    fun hq h w hw => ?_⟩
  · rw [startTest_tile]
    exact Table.find?_put_same ..
  · rw [herr]
    exact testRead_corrects (s := s.begin) h
  · rw [herr, testRead_clean (s := s.begin) h, startTest_clean (s := s.begin) h]
    exact ⟨rfl, rfl⟩
  · obtain ⟨hdone, hnext, hsame, hgood, hbad⟩ := startTest_done (s := s.begin) rfl b.isLt hq h rfl hw
    exact ⟨hdone, hnext, hsame, fun hf => hgood (by rw [hf]; rfl), fun hf => hbad (fun h0 => hf (Fin.ext h0))⟩

/-- Settles O45: a step's idle cycles are cycles of a tile in which nothing else moves; the other rows are updates of registers. -/
theorem memoryCommandsAct : Obligations.MemoryCommandsAct := by
  unfold Obligations.MemoryCommandsAct
  refine ⟨backgroundTestStep_runs, fun k u f s a hup hon hu ha => ?_, fun k s hup => ?_, fun c s hup => ?_,
    fun a d v s hup => ⟨fun h => ?_, fun h hw => ?_, fun h hw hidle hopen => ?_⟩, fun v s hup => ⟨?_, ?_⟩,
    fun v lo s hup hlt => ⟨planLimitHiWrite_sets (tier2 := false) hup hlt, planLimitHiWrite_refuses (tier2 := false) hup,
      planLimitHiWrite_sets (tier2 := true) hup hlt, planLimitHiWrite_refuses (tier2 := true) hup⟩⟩
  · have hstack : t1Stack a = k := by rw [ha]; exact t1Stack_unit k.isLt hu
    refine State.runs_patrolScrub hup hon hu ⟨fun hf => ?_, fun hf => ?_, fun hf => ?_⟩
    · rw [if_pos hf]
    · rw [← ha, if_neg (by rw [hf]; decide), if_pos hf, State.tierCe, if_pos rfl, hstack]
      exact ⟨State.get_bump_same .., rfl, (SameRegs.refl _ s).bump List.mem_cons_self k 1⟩
    · rw [← ha, if_neg (by rw [hf]; decide), if_neg (by rw [hf]; decide)]
      exact t1Error_records s.begin hstack (by omega)
  · rw [exec_t1StackFail, hup, occurs_true, State.raiseFatal, Nat.mod_eq_of_lt (by omega)]
    rfl
  · rw [exec_t2ChannelFail, hup, occurs_true, State.raiseFatal, Nat.mod_eq_of_lt (by omega)]
    rfl
  · exact State.runs_of_occurs (exec_fldSpadSecureWrite a d v s) hup (fldSpadSecureWrite_denied (s := s.begin) h)
  · rw [exec_fldSpadSecureWrite, hup, occurs_true, fldSpadSecureWrite_refused h hw]
  · refine State.runs_of_occurs (exec_fldSpadSecureWrite a d v s) hup ?_
    rw [fldSpadSecureWrite_sets (s := s.begin) h hw hidle hopen]
    obtain ⟨hbase, hsize, hopened⟩ := setWindow_fields s.begin d v.toNat
    have hack (u : State) : SameRegs [.FLD_SPAD_SECURE_cfg_reject, .FLD_SPAD_SECURE_nonsec_denied] u
        ((u.ackBit .FLD_SPAD_SECURE_cfg_reject d v.toNat 14).ackBit .FLD_SPAD_SECURE_nonsec_denied d v.toNat 15) :=
      ((ackBit_sameRegs u _ d v.toNat 14).mono (by decide)).trans ((ackBit_sameRegs _ _ d v.toNat 15).mono (by decide))
    refine ⟨(hack _ _ d (by decide)).trans hbase, (hack _ _ d (by decide)).trans hsize, (hack _ _ d (by decide)).trans hopened, ?_⟩
    exact ((setWindow_sameRegs s.begin d v.toNat).mono (by decide)).trans ((hack _).mono (by decide))
  · rw [exec_planLimitLoWrite, hup]
    rfl
  · rw [exec_planLimitLoWrite, hup]
    rfl

end Sys2Proof.Machine

namespace Sys2Proof.Machine

/-! ### Runs of units written to a space (R256, R366, R369) -/

section
variable {s u w : State} {space dev n t : Nat} {data b : List Byte}

theorem slice_unit_length (h : 32 * n ≤ data.length) {k : Nat} (hk : k < n) : (slice data (32 * k) 32).length = 32 := by
  unfold slice
  rw [List.length_take, List.length_drop]
  omega

theorem padTo_length (n : Nat) (b : List Byte) : (padTo n b).length = n := by
  unfold padTo zeros
  rw [List.length_take, List.length_append, List.length_replicate]
  omega

/-! #### The tiers -/

/-- Unit `n` of a run written to a tier, and counted. -/
def State.putCounted (s : State) (tier a : Nat) (b : List Byte) : State := (s.putTier tier a b).countMoved tier 1 a

theorem putCounted_tierless (s : State) (tier a : Nat) (b : List Byte) : (s.putCounted tier a b).tierless = s.tierless :=
  putTier_tierless s tier a b

/-- The first `n` units of `data` stand in a tier from unit `dev` on; nothing else of `s` but the counts of units moved is changed. -/
structure PutUnits (s : State) (tier dev n : Nat) (data : List Byte) (w : State) : Prop where
  units : ∀ k < n, w.tierUnit tier (dev + k) = slice data (32 * k) 32
  outside : ∀ a, a < 32 * dev ∨ 32 * (dev + n) ≤ a → w.tier1.read a = s.tier1.read a ∧ w.tier2.read a = s.tier2.read a
  tier2 : tier = 1 → w.tier2 = s.tier2
  tier1 : tier = 2 → w.tier1 = s.tier1
  rest : w.tierless = s.tierless

theorem putTier_outside (s : State) (tier : Nat) {a x : Nat} (hb : b.length = 32) (hx : x < 32 * a ∨ 32 * a + 32 ≤ x) :
    (s.putTier tier a b).tier1.read x = s.tier1.read x ∧ (s.putTier tier a b).tier2.read x = s.tier2.read x := by
  unfold State.putTier
  split
  · exact ⟨Memory.read_writeBytes_out b s.tier1 (by omega), rfl⟩
  · exact ⟨rfl, Memory.read_writeBytes_out b s.tier2 (by omega)⟩

theorem PutUnits.next {tier : Nat} (h : PutUnits s tier dev n data w) (hb : (slice data (32 * n) 32).length = 32) :
    PutUnits s tier dev (n + 1) data (w.putCounted tier (dev + n) (slice data (32 * n) 32)) := by
  refine ⟨fun k hk => ?_, fun a ha => ?_, fun ht => ?_, fun ht => ?_, (putCounted_tierless ..).trans h.rest⟩
  · rcases Nat.lt_succ_iff_lt_or_eq.1 hk with hlt | rfl
    · exact (tierUnit_putTier_other hb (by omega)).trans (h.units k hlt)
    · exact tierUnit_putTier_same hb
  · obtain ⟨h1, h2⟩ := putTier_outside w tier hb (show a < 32 * (dev + n) ∨ 32 * (dev + n) + 32 ≤ a by omega)
    obtain ⟨h1', h2'⟩ := h.outside a (by omega)
    exact ⟨h1.trans h1', h2.trans h2'⟩
  · exact ((putTier_otherTier _ _ _ _).1 ht).trans (h.tier2 ht)
  · exact ((putTier_otherTier _ _ _ _).2 ht).trans (h.tier1 ht)

/-- Units that the host may write, or units of tier 2, are all written (R256). -/
theorem dmaPut_units (hspace : space < 2) (hrights : space = 0 → ∀ k < n, s.hostWrites (dev + k) = true)
    (hlen : 32 * n ≤ data.length) : PutUnits s (space + 1) dev n data (s.dmaPut space dev data n) := by
  induction n with
  | zero => exact ⟨fun k hk => absurd hk (Nat.not_lt_zero k), fun _ _ => ⟨rfl, rfl⟩, fun _ => rfl, fun _ => rfl, rfl⟩
  | succ n ih =>
    have hprev := ih (fun h0 k hk => hrights h0 k (by omega)) (by omega)
    have hstep : s.dmaPut space dev data (n + 1)
        = (s.dmaPut space dev data n).putCounted (space + 1) (dev + n) (slice data (32 * n) 32) := by
      rcases Nat.lt_succ_iff_lt_or_eq.1 hspace with h0 | rfl
      · obtain rfl : space = 0 := by omega
        have hwrites : (s.dmaPut 0 dev data n).hostWrites (dev + n) = true :=
          (part_of_tierless hprev.rest (fun x => x.hostWrites (dev + n))).trans (hrights rfl n (Nat.lt_succ_self n))
        rw [State.dmaPut, if_pos rfl, if_pos hwrites]
        rfl
      · rfl
    rw [hstep]
    exact hprev.next (slice_unit_length hlen (Nat.lt_succ_self n))

/-! #### The scratchpads -/

/-- The state without its scratchpads, and without its tiles, whose tests hold units. -/
def State.spadless (s : State) : State := { s with tiles := [], spad := Memory.empty, spadErr := [] }

theorem part_of_spadless {α : Type} (h : w.spadless = s.spadless) (f : State → α)
    (hf : ∀ x, f x.spadless = f x := by exact fun _ => rfl) : f w = f s := by rw [← hf w, h, hf s]

theorem putUnit_spadless (s : State) (t a : Nat) (b : List Byte) : (s.putUnit t a b).spadless = s.spadless := by
  unfold State.putUnit
  split <;> rfl

theorem testOn_unit {st : TestStep} {a : Nat} (h : s.testOn t a = some st) : (s.tile t).tests.find? (a / 4096) = some st ∧ st.unit' = a := by
  unfold State.testOn at h
  split at h
  · next st' hst =>
    split at h
    · next ha =>
      cases h
      exact ⟨hst, ha⟩
    · cases h
  · cases h

/-- What a write of a unit under test leaves (R245): its shadow register has the bytes. -/
theorem putUnit_tested {st : TestStep} {a : Nat} (h : s.testOn t a = some st) : (s.putUnit t a b).spad = s.spad
    ∧ (s.putUnit t a b).tile t = (s.tile t).testing (a / 4096) { st with shadow := b } := by
  unfold State.putUnit
  rw [h]
  exact ⟨rfl, tile_modTile_same s t (fun y => y.testing (a / 4096) { st with shadow := b })⟩

/-- A unit written whole reads back, in scratchpad or in the shadow register. -/
theorem spadUnit_putUnit_same (hb : b.length = 32) (s : State) (t a : Nat) : (s.putUnit t a b).spadUnit t a = b := by
  cases h : s.testOn t a with
  | none =>
    have hon : (s.putUnit t a b).testOn t a = none := by
      unfold State.putUnit
      rw [h]
      exact h
    unfold State.spadUnit
    rw [hon]
    unfold State.putUnit
    rw [h]
    exact Memory.readBytes_writeWhole hb _ _
  | some st =>
    obtain ⟨-, hunit⟩ := testOn_unit h
    obtain ⟨-, htile⟩ := putUnit_tested (b := b) h
    unfold State.spadUnit State.testOn
    rw [htile, Tile.testing, Table.find?_put_same]
    dsimp only
    rw [if_pos hunit]

/-- The other units of the tile read as they did. -/
theorem spadUnit_putUnit_other (hb : b.length = 32) (s : State) (t : Nat) {a x : Nat} (hx : x ≠ a) :
    (s.putUnit t a b).spadUnit t x = s.spadUnit t x := by
  cases h : s.testOn t a with
  | none =>
    have hbytes : (s.putUnit t a b).spad.readBytes (2 ^ 20 * t + 32 * x) 32 = s.spad.readBytes (2 ^ 20 * t + 32 * x) 32 := by
      unfold State.putUnit
      rw [h]
      exact Memory.readBytes_writeBytes_out b _ (by omega)
    have hon : (s.putUnit t a b).testOn t x = s.testOn t x := by
      unfold State.putUnit
      rw [h]
      rfl
    unfold State.spadUnit
    rw [hon, hbytes]
  | some st =>
    obtain ⟨hfind, hunit⟩ := testOn_unit h
    obtain ⟨hspad, htile⟩ := putUnit_tested (b := b) h
    have hon : (s.putUnit t a b).testOn t x = s.testOn t x := by
      unfold State.testOn
      rw [htile, Tile.testing]
      by_cases hbank : x / 4096 = a / 4096
      · rw [hbank, Table.find?_put_same, hfind]
        dsimp only
        rw [hunit, if_neg (Ne.symm hx), if_neg (Ne.symm hx)]
      · rw [Table.find?_put_ne _ _ hbank]
    unfold State.spadUnit
    rw [hon, hspad]

theorem putUnit_outside (hb : b.length = 32) (s : State) (t : Nat) {a x : Nat}
    (hx : x < 2 ^ 20 * t + 32 * a ∨ 2 ^ 20 * t + 32 * a + 32 ≤ x) : (s.putUnit t a b).spad.read x = s.spad.read x := by
  unfold State.putUnit
  split
  · rfl
  · exact Memory.read_writeBytes_out b s.spad (by omega)

/-- The first `n` units of `data` stand in a tile's scratchpad from unit `a` on; other bytes are as they were. -/
structure PutSpad (s : State) (t a n : Nat) (data : List Byte) (w : State) : Prop where
  units : ∀ k < n, w.spadUnit t (a + k) = slice data (32 * k) 32
  outside : ∀ x, x < 2 ^ 20 * t + 32 * a ∨ 2 ^ 20 * t + 32 * (a + n) ≤ x → w.spad.read x = s.spad.read x
  rest : w.spadless = s.spadless

theorem dmaPut_spad (hlen : 32 * n ≤ data.length) : PutSpad s (devTile dev) (bits dev 14 0) n data (s.dmaPut 2 dev data n) := by
  induction n with
  | zero => exact ⟨fun k hk => absurd hk (Nat.not_lt_zero k), fun _ _ => rfl, rfl⟩
  | succ n ih =>
    have hprev := ih (by omega)
    have hb := slice_unit_length hlen (Nat.lt_succ_self n)
    have hstep : s.dmaPut 2 dev data (n + 1)
        = (s.dmaPut 2 dev data n).putUnit (devTile dev) (bits dev 14 0 + n) (slice data (32 * n) 32) := rfl
    rw [hstep]
    refine ⟨fun k hk => ?_, fun x hx => ?_, (putUnit_spadless ..).trans hprev.rest⟩
    · rcases Nat.lt_succ_iff_lt_or_eq.1 hk with hlt | rfl
      · exact (spadUnit_putUnit_other hb _ _ (by omega)).trans (hprev.units k hlt)
      · exact spadUnit_putUnit_same hb ..
    · exact (putUnit_outside hb _ _ (by omega)).trans (hprev.outside x (by omega))

end

end Sys2Proof.Machine

namespace Sys2Proof.Machine

/-! ### A DMA command starts (R357, R369) -/

/-- The first element that a test finds is the one that a narrower test, which it passes, changes. -/
theorem mem_changeFirst {α : Type} {p p' : α → Bool} {g : α → α} {l : List α} {x : α} (hx : l.find? p = some x) (hp : p' x = true)
    (hsub : ∀ y, p' y = true → p y = true) : g x ∈ changeFirst p' g l := by
  induction l with
  | nil => cases hx
  | cons a l ih =>
    rw [List.find?_cons] at hx
    unfold changeFirst
    by_cases ha : p a = true
    · rw [ha] at hx
      cases hx
      rw [if_pos hp]
      exact List.mem_cons_self
    · rw [Bool.not_eq_true] at ha
      rw [ha] at hx
      rw [if_neg (fun h => by simp [hsub a h] at ha)]
      exact List.mem_cons_of_mem a (ih hx)

/-- The command is among those fetched, started, and completes with `d`. -/
def State.Started (s : State) (f : Fetched) (d : Nat × Nat) : Prop :=
  ∃ g ∈ s.host.fetched, g.packet = f.packet ∧ g.started = true ∧ g.done = some d

section
variable {s u : State} {q : QueueIx} {cid : Cid} {f : Fetched} {op n dev space : Nat} {c : Cc} {r : Nat}

/-- A part of the state that is neither an output nor a register. -/
theorem part_of_apart {α : Type} (h : u.apart = s.apart) (g : State → α) (hg : ∀ x, g x.apart = g x := by exact fun _ => rfl) :
    g u = g s := by rw [← hg u, h, hg s]

theorem start_started (h : s.Ready q cid op f) (hu : u.host.fetched = s.host.fetched) (d : Nat × Nat) : (u.start f (some d)).Started f d := by
  obtain ⟨-, hcmd, -, -⟩ := h
  have hfound : f.q = q.val ∧ f.cid = cid.toNat ∧ f.started = false := by
    simpa [and_assoc] using List.find?_some hcmd
  obtain ⟨hq, hcid, hstarted⟩ := hfound
  refine ⟨{ f with started := true, done := some d }, ?_, rfl, rfl, rfl⟩
  show _ ∈ changeFirst _ _ u.host.fetched
  rw [hu]
  refine mem_changeFirst (p' := fun g => g.same f) (g := fun g => { g with started := true, done := some d }) hcmd
    (by simp [Fetched.same]) (fun y hy => ?_)
  unfold Fetched.same at hy
  simp only [Bool.and_eq_true, beq_iff_eq] at hy
  obtain ⟨⟨⟨⟨hyq, hycid⟩, -⟩, hys⟩, -⟩ := hy
  simp [hyq, hq, hycid, hcid, hys, hstarted]

/-- A refused command completes, and no byte changes. -/
theorem refused_completes (f : Fetched) (c : Cc) (r : Nat) (s : State) :
    Completed f c r s (s.begin.complete f c r) ∧ SameBytes s (s.begin.complete f c r) :=
  ⟨begin_completed s f c r, (field_of_core (core_complete s.begin f c r)).1⟩

/-! ### DMA_WRITE (R256, R366, R367, R369) -/

/-- The units of a DMA command. -/
def Fetched.units (f : Fetched) : Nat := ((dmaParts f).map Prod.snd).sum

theorem dmaWrite_refused {e : DmaIn} (h : s.dmaRefusal f = some (c, r)) : dmaWrite e f s = s.complete f c r := by
  unfold dmaWrite
  rw [h]

theorem dmaWrite_taken {e : DmaIn} (h : s.dmaRefusal f = none) (hrun : s.dmaWriteRun f e = (u, .success, 0)) :
    dmaWrite e f s = u.start f (some (0, 0)) := by
  unfold dmaWrite
  rw [h]
  dsimp only
  rw [hrun]
  rfl

/-- A run that the rights of R256 withhold nothing of is written whole. -/
theorem hostWrites_of_firstDenied (h : s.firstDenied dev n = none) {k : Nat} (hk : k < n) : s.hostWrites (dev + k) = true := by
  unfold State.firstDenied at h
  unfold State.hostWrites
  rw [Bool.or_eq_true, Bool.and_eq_true, decide_eq_true_eq, decide_eq_true_eq, decide_eq_true_eq]
  split at h
  · left
    omega
  · dsimp only at h
    split at h
    · next hidle =>
      split at h
      · exact .inr ⟨by omega, hidle⟩
      · cases h
    · cases h

theorem dmaWriteRun_tier {e : DmaIn} (hspace : f.par 28 1 < 2) (hfail : e.fail = none)
    (hrights : f.par 28 1 = 0 → s.firstDenied f.dev f.units = none) :
    s.dmaWriteRun f e = (s.dmaPut (f.par 28 1) f.dev (padTo (32 * f.units) e.data) f.units, .success, 0) := by
  have hdenied : (if f.par 28 1 = 0 then s.firstDenied f.dev f.units else none) = none := by
    split
    · next h0 => exact hrights h0
    · rfl
  unfold State.dmaWriteRun
  dsimp only
  rw [hfail]
  dsimp only
  rw [if_neg (by omega)]
  change (if f.par 28 1 = 0 then s.firstDenied f.dev f.units else none) = none at hdenied
  unfold Fetched.units at hdenied ⊢
  rw [hdenied]
  rfl

theorem dmaWriteRun_spad {e : DmaIn} (hspace : f.par 28 1 = 2) (hfail : e.fail = none) (hmeets : e.meets = [])
    (hwindow : s.windowHit (bits f.dev 28 26) (bits f.dev 14 0) f.units = none) : ∃ w : State, w.apart = s.apart ∧ w.out = s.out
      ∧ s.dmaWriteRun f e = (w.dmaPut 2 f.dev (padTo (32 * f.units) e.data) f.units, .success, 0) := by
  refine ⟨s.bump .FLD_DMA_STAT_conflict_retries (bits f.dev 28 26) 0, rfl, rfl, ?_⟩
  have hmet : s.dmaMeets (devTile f.dev) (bits f.dev 14 0) f.units [] = [] := rfl
  unfold State.dmaWriteRun
  dsimp only
  rw [hfail]
  dsimp only
  rw [if_pos hspace]
  unfold State.dmaSpad
  dsimp only
  unfold Fetched.units at hwindow hmet ⊢
  rw [hwindow]
  dsimp only
  rw [hmeets, hmet, hfail, if_neg (by simp)]
  rfl

theorem exec_dmaWrite (q : QueueIx) (cid : Cid) (e : DmaIn) (s : State) :
    exec (.dmaWrite q cid e) s = hostCommand 0x20 q cid (dmaWrite e) s := rfl

/-- The units of a DMA_WRITE stand at its device address before it completes. -/
theorem dmaWrite_tier {e : DmaIn} (hready : s.Ready q cid 0x20 f) (href : s.dmaRefusal f = none) (hspace : f.par 28 1 < 2)
    (hfail : e.fail = none) (hrights : f.par 28 1 = 0 → s.firstDenied f.dev f.units = none) : s.Runs (.dmaWrite q cid e) (fun t =>
      t.Started f (0, 0) ∧ t.out = [] ∧ t.spad = s.spad
      ∧ (∀ k, k < f.units → t.tierUnit (f.par 28 1 + 1) (f.dev + k) = slice (padTo (32 * f.units) e.data) (32 * k) 32)
      ∧ (∀ a, a < 32 * f.dev ∨ 32 * (f.dev + f.units) ≤ a → t.tier1.read a = s.tier1.read a ∧ t.tier2.read a = s.tier2.read a)
      ∧ (f.par 28 1 = 0 → t.tier2 = s.tier2) ∧ (f.par 28 1 = 1 → t.tier1 = s.tier1)) := by
  have hput := dmaPut_units (s := s.begin) (data := padTo (32 * f.units) e.data) hspace
    (fun h0 k hk => hostWrites_of_firstDenied (s := s.begin) (hrights h0) hk) (padTo_length _ _).ge
  refine State.runs_hostCommand (exec_dmaWrite q cid e s) hready ?_
  rw [dmaWrite_taken (s := s.begin) href (dmaWriteRun_tier (s := s.begin) hspace hfail hrights)]
  exact ⟨start_started hready (part_of_tierless hput.rest (fun x => x.host.fetched)) _, part_of_tierless hput.rest State.out,
    part_of_tierless hput.rest State.spad, hput.units, hput.outside, fun h => hput.tier2 (by rw [h]), fun h => hput.tier1 (by rw [h])⟩

/-- The same for a scratchpad. -/
theorem dmaWrite_spad {e : DmaIn} (hready : s.Ready q cid 0x20 f) (href : s.dmaRefusal f = none) (hspace : f.par 28 1 = 2)
    (hfail : e.fail = none) (hwindow : s.windowHit (bits f.dev 28 26) (bits f.dev 14 0) f.units = none) (hmeets : e.meets = []) :
    s.Runs (.dmaWrite q cid e) (fun t => t.Started f (0, 0) ∧ t.out = [] ∧ t.tier1 = s.tier1 ∧ t.tier2 = s.tier2
      ∧ (∀ k, k < f.units → t.spadUnit (devTile f.dev) (bits f.dev 14 0 + k) = slice (padTo (32 * f.units) e.data) (32 * k) 32)
      ∧ (∀ a, a < 2 ^ 20 * devTile f.dev + 32 * bits f.dev 14 0 ∨ 2 ^ 20 * devTile f.dev + 32 * (bits f.dev 14 0 + f.units) ≤ a →
        t.spad.read a = s.spad.read a)) := by
  obtain ⟨w, hw, hout, hrun⟩ := dmaWriteRun_spad (s := s.begin) hspace hfail hmeets hwindow
  have hput := dmaPut_spad (s := w) (dev := f.dev) (padTo_length (32 * f.units) e.data).ge
  have hpart : w.apart = s.apart := hw
  refine State.runs_hostCommand (exec_dmaWrite q cid e s) hready ?_
  rw [dmaWrite_taken (s := s.begin) href hrun]
  exact ⟨start_started hready ((part_of_spadless hput.rest (fun x => x.host.fetched)).trans (part_of_apart hpart (fun x => x.host.fetched))) _,
    (part_of_spadless hput.rest State.out).trans hout, (part_of_spadless hput.rest State.tier1).trans (part_of_apart hpart State.tier1),
    (part_of_spadless hput.rest State.tier2).trans (part_of_apart hpart State.tier2), hput.units,
    fun a ha => (hput.outside a ha).trans (congrArg (fun m => m.read a) (part_of_apart hpart State.spad))⟩

end

end Sys2Proof.Machine

namespace Sys2Proof.Machine

/-! ### DMA_READ (R262, R366, R367, R369) -/

section
variable {s u w : State} {q : QueueIx} {cid : Cid} {f : Fetched} {dev space k m : Nat} {c : Cc} {r : Nat} {e : TierIn}

/-- Unit `n` of a read on its way to the host. -/
def State.dmaOut (s : State) (f : Fetched) (read : Nat → List Byte) (n : Nat) : Output :=
  .hostWrite (hostOf n (dmaParts f)) (read n) (s.feature 5 && Config.relaxedOrdering)

/-- The state without its outputs and the counts of units moved. -/
def State.unsent (s : State) : State := { s with out := [], moved := [] }

theorem part_of_unsent {α : Type} (h : w.unsent = s.unsent) (g : State → α)
    (hg : ∀ x, g x.unsent = g x := by exact fun _ => rfl) : g w = g s := by rw [← hg w, h, hg s]

/-- What a read of `k` units from number `m` on has done where all are good: they are on their way, and nothing else is changed. -/
def State.Sends (s : State) (f : Fetched) (read : Nat → List Byte) (m k : Nat) (x : State × (Cc × Nat)) : Prop :=
  ∃ w, x = (w, .success, 0) ∧ w.unsent = s.unsent ∧ w.out = s.out ++ (List.range' m k).map (s.dmaOut f read)

theorem Sends.cons {read : Nat → List Byte} {x : State × (Cc × Nat)} (hu : u.unsent = s.unsent) (hout : u.out = s.out ++ [s.dmaOut f read m])
    (h : u.Sends f read (m + 1) k x) : s.Sends f read m (k + 1) x := by
  obtain ⟨w, hx, hw, hwout⟩ := h
  have hsame : u.dmaOut f read = s.dmaOut f read := part_of_unsent hu (fun x => x.dmaOut f read)
  refine ⟨w, hx, hw.trans hu, ?_⟩
  rw [hwout, hout, hsame, List.append_assoc, List.range'_succ]
  rfl

/-- A tier's unit counted, and on its way to the host as number `n` of a read. -/
def State.sendUnit (s : State) (f : Fetched) (tier a n : Nat) : State :=
  (s.countMoved tier 1 a).dmaToHost (hostOf n (dmaParts f)) (s.tierUnit tier a)

theorem dmaGet_tier (hspace : space < 2) (hp : s.poison = []) (m k : Nat) :
    s.Sends f (fun n => s.tierUnit (space + 1) (dev + n)) m k (State.dmaGet f space dev ⟨[], []⟩ k m s) := by
  induction k generalizing m s with
  | zero => exact ⟨s, rfl, rfl, (List.append_nil _).symm⟩
  | succ k ih =>
    have hstep : State.dmaGet f space dev ⟨[], []⟩ (k + 1) m s
        = State.dmaGet f space dev ⟨[], []⟩ k (m + 1) (s.sendUnit f (space + 1) (dev + m) m) := by
      rw [State.dmaGet]
      dsimp only
      rw [if_neg (by omega), tierRead_good hp]
      rfl
    rw [hstep]
    exact Sends.cons (u := s.sendUnit f (space + 1) (dev + m) m) rfl rfl (ih (s := s.sendUnit f (space + 1) (dev + m) m) hp (m + 1))

theorem dmaGet_spad (m k : Nat) (hgood : s.unitsGood (devTile dev) (List.range' (bits dev 14 0 + m) k)) :
    s.Sends f (fun n => s.spadUnit (devTile dev) (bits dev 14 0 + n)) m k (State.dmaGet f 2 dev ⟨[], []⟩ k m s) := by
  induction k generalizing m s with
  | zero => exact ⟨s, rfl, rfl, (List.append_nil _).symm⟩
  | succ k ih =>
    rw [List.range'_succ] at hgood
    have hstep : State.dmaGet f 2 dev ⟨[], []⟩ (k + 1) m s = State.dmaGet f 2 dev ⟨[], []⟩ k (m + 1)
        (s.dmaToHost (hostOf m (dmaParts f)) (s.spadUnit (devTile dev) (bits dev 14 0 + m))) := by
      rw [State.dmaGet]
      dsimp only
      rw [if_pos rfl, eccRead_clean (hgood _ List.mem_cons_self)]
      rfl
    rw [hstep]
    exact Sends.cons (u := s.dmaToHost (hostOf m (dmaParts f)) (s.spadUnit (devTile dev) (bits dev 14 0 + m))) rfl rfl
      (ih (m + 1) (fun x hx => hgood x (List.mem_cons_of_mem _ hx)))

theorem exec_dmaRead (q : QueueIx) (cid : Cid) (e : TierIn) (s : State) :
    exec (.dmaRead q cid e) s = hostCommand 0x21 q cid (dmaRead e) s := rfl

theorem dmaRead_refused (h : s.dmaRefusal f = some (c, r)) : dmaRead e f s = s.complete f c r := by
  unfold dmaRead
  rw [h]

theorem dmaRead_taken (h : s.dmaRefusal f = none)
    (hwindow : f.par 28 1 = 2 → s.windowHit (bits f.dev 28 26) (bits f.dev 14 0) f.units = none)
    (hrun : State.dmaGet f (f.par 28 1) f.dev e f.units 0 s = (u, .success, 0)) : dmaRead e f s = u.start f (some (0, 0)) := by
  have hopen : (if f.par 28 1 = 2 then s.windowHit (bits f.dev 28 26) (bits f.dev 14 0) f.units else none) = none := by
    split
    · next h2 => exact hwindow h2
    · rfl
  unfold dmaRead
  rw [h]
  dsimp only
  unfold Fetched.units at hopen hrun
  rw [hopen, hrun]
  rfl

/-- The units of a DMA_READ are on their way to the host before it completes. -/
theorem dmaRead_sends {read : Nat → List Byte} (hready : s.Ready q cid 0x21 f) (href : s.dmaRefusal f = none)
    (hwindow : f.par 28 1 = 2 → s.windowHit (bits f.dev 28 26) (bits f.dev 14 0) f.units = none)
    (hrun : s.begin.Sends f read 0 f.units (State.dmaGet f (f.par 28 1) f.dev e f.units 0 s.begin)) :
    s.Runs (.dmaRead q cid e) (fun t => SameBytes s t ∧ t.Started f (0, 0)
      ∧ t.out = (List.range f.units).map (fun k =>
        .hostWrite (hostOf k (dmaParts f)) (read k) (s.feature 5 && Config.relaxedOrdering))) := by
  obtain ⟨w, hrun, hw, hout⟩ := hrun
  have hbytes : SameBytes s w := fun a => by
    rw [part_of_unsent hw State.spad, part_of_unsent hw State.tier1, part_of_unsent hw State.tier2, part_of_unsent hw State.mgmt]
    exact ⟨rfl, rfl, rfl, rfl, rfl⟩
  refine State.runs_hostCommand (exec_dmaRead q cid e s) hready ?_
  rw [dmaRead_taken (s := s.begin) href hwindow hrun]
  refine ⟨hbytes, start_started hready (part_of_unsent hw (fun x => x.host.fetched)) _, hout.trans ?_⟩
  rw [List.range_eq_range']
  rfl

end

/-! ### DMA_COMPLETE (R369) -/

theorem exec_dmaComplete {q : QueueIx} {cid : Cid} {f : Fetched} {c r : Nat} {s : State} (h : s.runningDma q cid.toNat = some (f, c, r)) :
    exec (.dmaComplete q cid) s = occurs s.hubUp (fun s => s.completeNum f c r) s := by
  show execDmaComplete q cid s = _
  unfold execDmaComplete
  rw [h]

/-- A completion of a command whose pair is not being deleted is no more than the command's own. -/
theorem completeNum_eq {s : State} {f : Fetched} (hdel : ∀ x, s.queue? f.q = some x → x.deleting = none) (c r : Nat) :
    s.completeNum f c r = s.completeRaw f c r := by
  obtain ⟨-, hnone, -⟩ := completeRaw_completed s f c r hdel
  unfold State.completeNum State.reap
  rw [hnone]

theorem dmaComplete_runs (q : QueueIx) (cid : Cid) (f : Fetched) (c r : Nat) (x : Queue) (s : State) (hup : s.hubUp = true)
    (h : s.runningDma q cid.toNat = some (f, c, r)) (hx : s.queue? f.q = some x) (hdel : x.deleting = none) (hmute : f.mute = false) :
    s.Runs (.dmaComplete q cid) (fun t =>
      t.host.fetched = removeFirst (fun g => g.same f) s.host.fetched ∧ .msix x.vector ∈ t.out
      ∧ .hostWrite (x.cqBase + 16 * x.cqTail) (cqe f.q f.cid f.sqHead c x.phase r) false ∈ t.out ∧ SameBytes s t) := by
  have hone : ∀ y, s.begin.queue? f.q = some y → y.deleting = none := fun y hy => by
    cases hx.symm.trans hy
    exact hdel
  obtain ⟨hfetched, -, hout⟩ := completeRaw_completed s.begin f c r hone
  obtain ⟨hwrite, hmsix⟩ := hout x hx hmute
  refine State.runs_of_occurs (exec_dmaComplete h) hup ?_
  rw [completeNum_eq hone]
  exact ⟨hfetched, hmsix, hwrite, (field_of_core (core_completeRaw s.begin f c r)).1⟩

end Sys2Proof.Machine

namespace Sys2Proof.Machine

/-! ### The BAR2 window (R256, R371) -/

section
variable {s w : State} {a n z i : Nat} {data bs : List Byte} {write : Bool} {e : TierIn}

theorem uncounted_foldl {l : List Nat} {g : State → Nat → State} (hg : ∀ s x, (g s x).uncounted = s.uncounted) (s : State) :
    (l.foldl g s).uncounted = s.uncounted := foldl_keeps State.uncounted hg l s

/-- Bytes below the plan area, of units that hold no poison, are all written (R256, R262). -/
theorem bar2Put_writes (hp : s.poison = []) (hroom : a + i + bs.length ≤ 32 * planAreaBase) :
    s.bar2Put a z i bs = { s with tier1 := s.tier1.writeBytes (a + i) bs } := by
  induction bs generalizing s i with
  | nil => rfl
  | cons b bs ih =>
    rw [List.length_cons] at hroom
    have harea : (a + i) / 32 < planAreaBase := by omega
    have hunits : planAreaBase ≤ t1Units := by decide
    have hwrites : s.hostWrites ((a + i) / 32) = true := by
      unfold State.hostWrites
      simp [harea]
    have hbyte (whole : Bool) : s.bar2Byte (a + i) b whole = { s with tier1 := s.tier1.write (a + i) b } := by
      unfold State.bar2Byte State.poisoned
      rw [hwrites, hp, decide_eq_true (Nat.lt_of_lt_of_le harea hunits)]
      cases whole <;> rfl
    rw [State.bar2Put]
    rw [hbyte, ih (s := { s with tier1 := s.tier1.write (a + i) b }) hp (by omega)]
    rfl

theorem clearPoison_clean (hp : s.poison = []) : s.clearPoison a z = s := by
  unfold State.clearPoison
  rw [hp]
  cases s
  cases hp
  rfl

/-- A write below the plan area puts its bytes, and counts the units it touches. -/
theorem bar2Write_puts (hp : s.poison = []) (hroom : a + data.length ≤ 32 * planAreaBase) :
    ∃ w : State, w.uncounted = s.uncounted ∧ bar2Write a data s = { w with tier1 := s.tier1.writeBytes a data } := by
  have hcount : ∀ (s : State) (u : Nat), (s.countMoved 1 1 u).uncounted = s.uncounted := fun _ _ => rfl
  have hw := uncounted_foldl (l := (windowUnits a data.length).filter (fun u => decide (u < t1Units) && s.hostWrites u)) hcount s
  refine ⟨_, hw, ?_⟩
  unfold bar2Write
  dsimp only
  generalize List.foldl _ s _ = w at hw ⊢
  have hpoison : w.poison = [] := (part_of_uncounted hw State.poison).trans hp
  have hput := bar2Put_writes (z := a + data.length) (i := 0) (bs := data) hpoison hroom
  rw [hput, clearPoison_clean (s := { w with tier1 := w.tier1.writeBytes (a + 0) data }) hpoison, part_of_uncounted hw State.tier1, Nat.add_zero]
  refine if_neg (Bool.not_eq_true _ ▸ List.any_eq_false.2 (fun k hk => ?_))
  have harea : (a + k) / 32 < planAreaBase := by
    have := List.mem_range.1 hk
    omega
  simp [State.hostWrites, harea]

theorem bar2Units_good (hp : s.poison = []) (us : List Nat) : (s.bar2Units ⟨[], []⟩ us).uncounted = s.uncounted := by
  unfold State.bar2Units
  induction us generalizing s with
  | nil => rfl
  | cons u us ih =>
    rw [List.foldl_cons, tierRead_good (s := s.countMoved 1 1 u) hp]
    exact ih (s := s.countMoved 1 1 u) hp

theorem bar2Read_answers (hp : s.poison = []) (hroom : a + n ≤ 32 * planAreaBase) :
    ∃ w : State, w.uncounted = s.uncounted ∧ bar2Read a n ⟨[], []⟩ s = w.emit (.readData (ofLE (s.tier1.readBytes a n))) := by
  have hunits : 32 * planAreaBase ≤ 32 * t1Units := by decide
  have hw := bar2Units_good hp (windowUnits a n)
  refine ⟨_, hw, ?_⟩
  unfold bar2Read
  rw [if_neg (by omega)]
  dsimp only
  rw [part_of_uncounted hw State.tier1]

theorem bar2Access_off (h : s.feature 9 = false) (off n : Nat) : bar2Access off n write data e s = if write then s else s.emit .unsupported := by
  unfold bar2Access
  rw [if_pos (by simp [h])]

theorem bar2Access_on {off : Nat} (h : s.feature 9 = true) (hserve : s.tiersServe = true) (ha : a = 2 ^ 30 * s.get .HST_BAR2_BASE_base_gib 0 + off)
    (n : Nat) : bar2Access off n write data e s = if write then bar2Write a data s else bar2Read a n e s := by
  subst ha
  unfold bar2Access
  rw [if_neg (by simp [h]), if_neg (by simp [hserve])]

theorem exec_bar2Access (off : BitVec 36) (last : Fin 4096) (write : Bool) (data : Vector Byte 4096) (e : TierIn) (s : State) :
    exec (.bar2Access off last write data e) s = occurs s.hostUp (bar2Access off.toNat (min (last.val + 1) (4096 - off.toNat % 4096)) write
      (data.toList.take (min (last.val + 1) (4096 - off.toNat % 4096))) e) s := rfl

end

section
variable {off : BitVec 36} {last : Fin 4096} {data : Vector Byte 4096} {n a : Nat} {s : State}

theorem bar2Access_writes (hn : n = min (last.val + 1) (4096 - off.toNat % 4096)) (hup : s.hostUp = true)
    (ha : a = 2 ^ 30 * s.get .HST_BAR2_BASE_base_gib 0 + off.toNat) (hp : s.poison = []) (hfeat : s.feature 9 = true)
    (hserve : s.tiersServe = true) (hroom : a + n ≤ 32 * planAreaBase) :
    s.Runs (.bar2Access off last true data ⟨[], []⟩) (fun t => t.tier1.readBytes a n = data.toList.take n ∧ t.regs = s.regs ∧ t.spad = s.spad
      ∧ t.tier2 = s.tier2 ∧ (∀ x, x < a ∨ a + n ≤ x → t.tier1.read x = s.tier1.read x) ∧ t.out = []) := by
  have hlen : (data.toList.take n).length = n := by
    rw [List.length_take, Vector.length_toList]
    omega
  refine State.runs_of_occurs (exec_bar2Access off last true data _ s) hup ?_
  rw [← hn, bar2Access_on (s := s.begin) hfeat hserve ha, if_pos rfl]
  obtain ⟨w, hw, heq⟩ := bar2Write_puts (s := s.begin) (a := a) (data := data.toList.take n) hp (by rw [hlen]; exact hroom)
  rw [heq]
  refine ⟨?_, part_of_uncounted hw State.regs, part_of_uncounted hw State.spad, part_of_uncounted hw State.tier2, fun x hx => ?_,
    part_of_uncounted hw State.out⟩
  · have := Memory.readBytes_writeBytes (data.toList.take n) s.tier1 a
    rwa [hlen] at this
  · exact Memory.read_writeBytes_out _ s.tier1 (by rw [hlen]; exact hx)

theorem bar2Access_reads (hn : n = min (last.val + 1) (4096 - off.toNat % 4096)) (hup : s.hostUp = true)
    (ha : a = 2 ^ 30 * s.get .HST_BAR2_BASE_base_gib 0 + off.toNat) (hp : s.poison = []) (hfeat : s.feature 9 = true)
    (hserve : s.tiersServe = true) (hroom : a + n ≤ 32 * planAreaBase) :
    s.Runs (.bar2Access off last false data ⟨[], []⟩) (fun t => t.out = [.readData (ofLE (s.tier1.readBytes a n))] ∧ SameBytes s t) := by
  refine State.runs_of_occurs (exec_bar2Access off last false data _ s) hup ?_
  rw [← hn, bar2Access_on (s := s.begin) hfeat hserve ha, if_neg (by decide)]
  obtain ⟨w, hw, heq⟩ := bar2Read_answers (s := s.begin) (a := a) hp hroom
  rw [heq]
  refine ⟨?_, fun x => ?_⟩
  · rw [State.emit_out, part_of_uncounted hw State.out]
    rfl
  · show w.spad.read x = _ ∧ w.tier1.read x = _ ∧ w.tier2.read x = _ ∧ w.mgmt.secure.read x = _ ∧ w.mgmt.images.read x = _
    rw [part_of_uncounted hw State.spad, part_of_uncounted hw State.tier1, part_of_uncounted hw State.tier2, part_of_uncounted hw State.mgmt]
    exact ⟨rfl, rfl, rfl, rfl, rfl⟩

end

end Sys2Proof.Machine

namespace Sys2Proof.Machine

/-! ### Ingest pushes (R373 to R375) -/

section
variable {s u : State} {q : QueueIx} {cid : Cid} {f : Fetched} {e : StreamEntry} {x : Ingest} {data : List Byte} {i n : Nat}

/-- A part of the state that no completion changes. -/
theorem part_of_core {α : Type} (h : u.core = s.core) (g : State → α) (hg : ∀ x, g x.core = g x := by exact fun _ => rfl) :
    g u = g s := by rw [← hg u, h, hg s]

/-- The entry written for a stream is the one found. -/
theorem ingest?_setIngest (h : s.ingest? i = some x) {y : Ingest} (hy : y.stream = i) : (s.setIngest y).ingest? i = some y := by
  have hx : x.stream = i := by simpa using List.find?_some h
  have hpred : (fun z : Ingest => z.stream == i) ∘ (fun z => if z.stream = y.stream then y else z) = fun z => z.stream == i := by
    funext z
    by_cases hz : z.stream = y.stream
    · simp [hz, hy]
    · simp [hz]
  unfold State.ingest? State.setIngest at *
  rw [List.find?_map, hpred, h]
  exact congrArg some (if_pos (hx.trans hy.symm))

theorem complete_ingest? (s : State) (f : Fetched) (c : Cc) (result i : Nat) : (s.complete f c result).ingest? i = s.ingest? i := by
  unfold State.ingest?
  rw [complete_ingest]

theorem dropCounter_ne (reason : Nat) : dropCounter reason ≠ .HST_ERR_events_lost := by
  unfold dropCounter
  split <;> decide

theorem ingestDrop_host (s : State) (stream reason : Nat) : (s.ingestDrop stream reason).host.queues = s.host.queues
    ∧ (s.ingestDrop stream reason).host.fetched = s.host.fetched := by
  unfold State.ingestDrop
  dsimp only
  split
  · exact ⟨rfl, rfl⟩
  · split
    · exact ⟨rfl, rfl⟩
    · have hquiet := quiet_event ((s.bump (dropCounter reason) stream 1).setIngest { ‹Ingest› with dropped := true }) 7
        (toLE 1 stream ++ toLE 1 reason ++ zeros 6 ++ toLE 8 (‹Ingest› : Ingest).window)
      exact ⟨congrArg (fun v => v.host.queues) hquiet, congrArg (fun v => v.host.fetched) hquiet⟩

/-- A dropped push is counted by its reason; its event, where it is its window's first, writes no other register but the count of
lost events. -/
theorem ingestDrop_get (s : State) (stream reason : Nat) {g : RegField} (j : Nat) (hg : g ≠ .HST_ERR_events_lost) :
    (s.ingestDrop stream reason).get g j = (s.bump (dropCounter reason) stream 1).get g j := by
  unfold State.ingestDrop
  dsimp only
  split
  · rfl
  · split
    · rfl
    · exact State.get_event _ _ _ j hg

theorem ingestPush_closed (hi : f.par 20 1 ≤ 15) (he : s.stream? (f.par 20 1) = some e) (hx : s.ingest? (f.par 20 1) = some x)
    (hopen : s.ingestOpen = false) : ingestPush data none f s = (s.ingestDrop (f.par 20 1) 3).complete f .ingestDropped 3 := by
  unfold ingestPush
  dsimp only
  rw [if_neg (Nat.not_lt.2 hi), he, hx]
  exact if_pos (by simp [hopen])

/-- A push while the stream's windows are closed is dropped and counted. -/
theorem ingestDrop_completes (s : State) (f : Fetched) (i r : Nat) :
    Completed f .ingestDropped r s ((s.ingestDrop i r).complete f .ingestDropped r)
      ∧ SameBytes s ((s.ingestDrop i r).complete f .ingestDropped r)
      ∧ ((s.ingestDrop i r).complete f .ingestDropped r).get (dropCounter r) i
        = min (s.get (dropCounter r) i + 1) (2 ^ (dropCounter r).width - 1) := by
  obtain ⟨hqueues, hfetched⟩ := ingestDrop_host s i r
  have herr : dropCounter r ≠ .HST_ERR_cmd_errors := by
    unfold dropCounter
    split <;> decide
  refine ⟨complete_completed hqueues hfetched f _ _, (SameBytes.of_field (State_ingestDrop_field s i r)).trans
    (field_of_core (core_complete _ f _ _)).1, ?_⟩
  rw [complete_get _ f _ _ i herr, ingestDrop_get s i r i (dropCounter_ne r), State.get_bump_same]

/-- What a push that fits leaves beside its units: its window holds them, and it is counted. -/
def State.accept (s : State) (f : Fetched) (x : Ingest) : State :=
  (s.setIngest { x with used := x.used + f.par 16 4 }).bump .HST_INGEST_ACC_accepted (f.par 20 1) 1

/-- A push that fits goes behind the units its window holds. -/
theorem ingestPush_open (hi : f.par 20 1 ≤ 15) (he : s.stream? (f.par 20 1) = some e) (hx : s.ingest? (f.par 20 1) = some x)
    (hopen : s.ingestOpen = true) (hunits : 1 ≤ f.par 16 4) (hfits : x.used + f.par 16 4 ≤ e.slotUnits - 1)
    (hroom : e.slot x.window + 1 + x.used + f.par 16 4 ≤ planAreaBase) :
    ∃ w, PutUnits s 1 (e.slot x.window + 1 + x.used) (f.par 16 4) (padTo (32 * f.par 16 4) data) w
      ∧ ingestPush data none f s = (w.accept f x).complete f .success x.window := by
  refine ⟨_, dmaPut_units (space := 0) (by decide) (fun _ k hk => ?_) (padTo_length _ _).ge, ?_⟩
  · have harea : e.slot x.window + 1 + x.used + k < planAreaBase := by omega
    simp [State.hostWrites, harea]
  · unfold ingestPush
    dsimp only
    rw [if_neg (Nat.not_lt.2 hi), he, hx]
    dsimp only
    rw [if_neg (by simp [hopen]), if_neg (by omega), if_neg (by omega)]
    rfl

theorem accept_ingest (hx : s.ingest? i = some x) : (s.accept f x).ingest? i = some { x with used := x.used + f.par 16 4 } := by
  have hstream : x.stream = i := by simpa using List.find?_some hx
  exact ingest?_setIngest hx hstream

theorem exec_ingestPush (q : QueueIx) (cid : Cid) (data : List Byte) (s : State) :
    exec (.ingestPush q cid data none) s = hostCommand 0x23 q cid (ingestPush data none) s := rfl

theorem ingestPush_drops (hready : s.Ready q cid 0x23 f) (hi : f.par 20 1 ≤ 15) (he : s.stream? (f.par 20 1) = some e)
    (hx : s.ingest? (f.par 20 1) = some x) (hopen : s.ingestOpen = false) :
    s.Runs (.ingestPush q cid data none) (fun t => Completed f .ingestDropped 3 s t ∧ SameBytes s t
      ∧ t.get .HST_INGEST_DROP_drop_state (f.par 20 1)
        = min (s.get .HST_INGEST_DROP_drop_state (f.par 20 1) + 1) (2 ^ RegField.width .HST_INGEST_DROP_drop_state - 1)) := by
  refine State.runs_hostCommand (exec_ingestPush q cid data s) hready ?_
  rw [ingestPush_closed (s := s.begin) hi he hx hopen]
  exact ingestDrop_completes s.begin f (f.par 20 1) 3

theorem ingestPush_lands (hready : s.Ready q cid 0x23 f) (hi : f.par 20 1 ≤ 15)
    (he : s.stream? (f.par 20 1) = some e) (hx : s.ingest? (f.par 20 1) = some x) (hopen : s.ingestOpen = true) (hunits : 1 ≤ f.par 16 4)
    (hfits : x.used + f.par 16 4 ≤ e.slotUnits - 1) {a : Nat} (ha : a = e.slot x.window + 1 + x.used)
    (hroom : a + f.par 16 4 ≤ planAreaBase) :
    s.Runs (.ingestPush q cid data none) (fun t => Completed f .success x.window s t
      ∧ t.ingest? (f.par 20 1) = some { x with used := x.used + f.par 16 4 }
      ∧ (∀ k, k < f.par 16 4 → t.tierUnit 1 (a + k) = slice (padTo (32 * f.par 16 4) data) (32 * k) 32)
      ∧ (∀ b, b < 32 * a ∨ 32 * (a + f.par 16 4) ≤ b → t.tier1.read b = s.tier1.read b) ∧ t.tier2 = s.tier2 ∧ t.spad = s.spad) := by
  subst ha
  obtain ⟨w, hput, hpush⟩ := ingestPush_open (s := s.begin) (data := data) hi he hx hopen hunits hfits hroom
  have hcore := core_complete (w.accept f x) f .success x.window
  have hingest : w.ingest? (f.par 20 1) = some x := (part_of_tierless hput.rest (fun v => v.ingest? (f.par 20 1))).trans hx
  refine State.runs_hostCommand (exec_ingestPush q cid data s) hready ?_
  rw [hpush]
  refine ⟨?_, ?_, fun k hk => ?_, fun b hb => ?_, ?_, ?_⟩
  · exact complete_completed (u := w.accept f x) (part_of_tierless hput.rest (fun v => v.host.queues))
      (part_of_tierless hput.rest (fun v => v.host.fetched)) f _ _
  · exact (complete_ingest? _ f _ _ _).trans (accept_ingest hingest)
  · exact (part_of_core hcore (fun v => v.tierUnit 1 (e.slot x.window + 1 + x.used + k))).trans (hput.units k hk)
  · exact (part_of_core hcore (fun v => v.tier1.read b)).trans (hput.outside b hb).1
  · exact (part_of_core hcore State.tier2).trans (hput.tier2 rfl)
  · exact (part_of_core hcore State.spad).trans (part_of_tierless hput.rest State.spad)

/-! ### Windows that close (R374) -/

/-- The header unit of a window without a push cut off at its end (R374). -/
def windowHeader (x : Ingest) (beat : Nat) : List Byte :=
  toLE 8 x.window ++ toLE 4 x.used ++ toLE 1 (ofBool (decide (x.used > 0)) + 4 * ofBool x.dropped) ++ zeros 3 ++ toLE 8 beat ++ zeros 8

theorem windowHeader_length (x : Ingest) (beat : Nat) : (windowHeader x beat).length = 32 := rfl

/-- A window that no open push waits for gets its header, and the next one begins empty. -/
theorem ingestWindowClose_quiet (hx : s.ingest? e.stream = some x) (hopen : s.openPushes e.stream = []) :
    ∃ v : State, v.apart = (s.putTier 1 (e.slot x.window) (windowHeader x s.time.beat)).apart
      ∧ ingestWindowClose e x [] s = v.setIngest ⟨e.stream, x.window + 1, 0, false⟩ := by
  unfold ingestWindowClose
  rw [hopen]
  dsimp only [List.filter_nil, State.dmaPut, List.foldl_nil]
  rw [hx]
  have hnone (n m : Nat) : n + 2 * ofBool (!([] : List Fetched).isEmpty) + m = n + m := rfl
  rw [hnone]
  refine ⟨_, ?_, rfl⟩
  unfold windowHeader
  generalize s.putTier 1 (e.slot x.window) _ = w
  simp only [apply_ite State.apart, apart_bump, ite_self]

theorem exec_ingestWindowClose {i : Fin 16} (he : s.stream? i = some e) (hx : s.ingest? i = some x) :
    exec (.ingestWindowClose i []) s
      = occurs (s.planState = .running && s.beatBegun (e.close x.window)) (ingestWindowClose e x []) s := by
  show execIngestWindowClose i [] s = _
  unfold execIngestWindowClose
  rw [he, hx]

theorem ingestWindowClose_runs {i : Fin 16} (he : s.stream? i = some e) (hx : s.ingest? i = some x) (hrun : s.planState = .running)
    (hbegun : s.beatBegun (e.close x.window) = true) (hopen : s.openPushes i = []) : s.Runs (.ingestWindowClose i []) (fun t =>
      t.tierUnit 1 (e.slot x.window) = windowHeader x s.time.beat
      ∧ (∀ a, a < 32 * e.slot x.window ∨ 32 * (e.slot x.window + 1) ≤ a → t.tier1.read a = s.tier1.read a)
      ∧ t.ingest? i = some ⟨i, x.window + 1, 0, false⟩ ∧ t.tier2 = s.tier2 ∧ t.spad = s.spad) := by
  have hstream : e.stream = i := by
    unfold State.stream? at he
    split at he
    · cases he
    · simpa using List.find?_some he
  have hlen := windowHeader_length x s.time.beat
  refine State.runs_of_occurs (exec_ingestWindowClose he hx) (by simp [hrun, hbegun]) ?_
  obtain ⟨v, hv, hclose⟩ := ingestWindowClose_quiet (s := s.begin) (e := e) (x := x) (by rw [hstream]; exact hx) (by rw [hstream]; exact hopen)
  rw [hclose, hstream]
  refine ⟨?_, fun a ha => ?_, ?_, ?_, ?_⟩
  · exact (part_of_apart hv (fun w => w.tierUnit 1 (e.slot x.window))).trans (tierUnit_putTier_same hlen)
  · exact (part_of_apart hv (fun w => w.tier1.read a)).trans (putTier_outside s.begin 1 hlen (by omega)).1
  · exact ingest?_setIngest (x := x) ((part_of_apart hv (fun w => w.ingest? i)).trans
      ((part_of_tierless (putTier_tierless ..) (fun w => w.ingest? i)).trans hx)) rfl
  · exact (part_of_apart hv State.tier2).trans ((putTier_otherTier s.begin 1 _ _).1 rfl)
  · exact (part_of_apart hv State.spad).trans (part_of_tierless (putTier_tierless ..) State.spad)

end

end Sys2Proof.Machine

namespace Sys2Proof.Machine

/-! ### A PCIe link that goes down (R378) -/

section
variable {s : State} {g : RegField} {j : Nat}

/-- The fields of the features, with what the host asked for. -/
def featureRegs : List RegField := [.HST_FEAT_REQ_req, .HST_FEAT_EN_en]

/-- The registers of the link and of the features have their reset values. -/
def State.linkCleared (s : State) : State :=
  (s.clearAll linkClears 0).each (List.range 4) (fun s i => s.clearAll featureRegs i)

/-- The link gives up one mailbox: its interrupt, and the host's lock. -/
def State.leaveMailbox (s : State) (m : Nat) : State :=
  let s := s.clearAll [.MGT_MBX_CFG_vector, .MGT_MBX_CFG_irq_en] m
  if s.get .MGT_MBX_STATUS_owner m = agentNumber .host then s.releaseLock m else s

/-- The event ring begins anew. -/
def State.forgetEvents (s : State) : State :=
  { s with host := { s.host with evtRead := 0, evtWritten := 0, evtSeq := 0, evtLost := 0 } }

theorem pcieLinkDown_eq (s : State) : pcieLinkDown s
    = ((((((s.linkCleared.each (List.range 32) State.leaveMailbox).closeQueues).forgetEvents).latePushes
        ((List.range 16).flatMap s.openPushes)).set .HST_STATUS_pcie_down_seen 0 1).warn .pcieDown) := by
  have hbox : State.leaveMailbox = fun s m =>
      if (s.clearAll [.MGT_MBX_CFG_vector, .MGT_MBX_CFG_irq_en] m).get .MGT_MBX_STATUS_owner m = agentNumber .host then
        (s.clearAll [.MGT_MBX_CFG_vector, .MGT_MBX_CFG_irq_en] m).releaseLock m
      else s.clearAll [.MGT_MBX_CFG_vector, .MGT_MBX_CFG_irq_en] m := rfl
  unfold pcieLinkDown State.linkCleared State.forgetEvents featureRegs
  rw [hbox]

/-- What the mailboxes, the late pushes and the warning may write. -/
def leaveRegs : List RegField :=
  [.MGT_MBX_CFG_vector, .MGT_MBX_CFG_irq_en, .MGT_MBX_STATUS_owner, .MGT_MBX_STATUS_done, .HST_INGEST_DROP_drop_full,
   .HST_INGEST_DROP_drop_size, .HST_INGEST_DROP_drop_state, .HST_INGEST_DROP_drop_late] ++ warnRegs

theorem releaseLock_sameRegs (s : State) (m : Nat) : SameRegs leaveRegs s (s.releaseLock m) := by
  unfold State.releaseLock
  split
  · exact SameRegs.refl _ s
  · exact ((SameRegs.refl _ s).set (by decide) m 0).set (by decide) m 0

theorem leaveMailbox_sameRegs (s : State) (m : Nat) : SameRegs leaveRegs s (s.leaveMailbox m) := by
  have hclear : SameRegs leaveRegs s (s.clearAll [.MGT_MBX_CFG_vector, .MGT_MBX_CFG_irq_en] m) :=
    (SameRegs.refl _ s).clearAll (by decide) m
  unfold State.leaveMailbox
  dsimp only
  split
  · exact hclear.trans (releaseLock_sameRegs _ m)
  · exact hclear

theorem dropCounter_leaves (reason : Nat) : dropCounter reason ∈ leaveRegs := by
  unfold dropCounter
  split <;> decide

theorem ingestDrop_sameRegs (s : State) (stream reason : Nat) : SameRegs leaveRegs s (s.ingestDrop stream reason) := by
  intro f i hf
  rw [ingestDrop_get s stream reason i (ne_of_mem_of_not_mem (by decide : RegField.HST_ERR_events_lost ∈ leaveRegs) hf).symm]
  exact (SameRegs.refl _ s).bump (dropCounter_leaves reason) stream 1 f i hf

theorem latePushes_sameRegs (s : State) (fs : List Fetched) : SameRegs leaveRegs s (s.latePushes fs) := by
  refine SameRegs.foldl (fun s i => ?_) _ s
  split
  · exact ingestDrop_sameRegs _ _ _
  · exact SameRegs.refl _ s

theorem latePushes_queues (s : State) (fs : List Fetched) : (s.latePushes fs).host.queues = s.host.queues := by
  refine foldl_keeps (fun v : State => v.host.queues) (fun v i => ?_) _ s
  split
  · exact (ingestDrop_host ..).1
  · rfl

theorem closed_get (s : State) (g : RegField) (j : Nat) : s.closeQueues.forgetEvents.get g j = s.get g j := rfl

/-- Behind the clearing of the link's registers come the mailboxes, the late pushes and the warning alone. -/
theorem pcieLinkDown_get (hg : g ∉ leaveRegs) (hseen : g ≠ .HST_STATUS_pcie_down_seen) (s : State) (j : Nat) :
    (pcieLinkDown s).get g j = s.linkCleared.get g j := by
  have hboxes : SameRegs leaveRegs s.linkCleared (s.linkCleared.each (List.range 32) State.leaveMailbox) :=
    SameRegs.foldl leaveMailbox_sameRegs _ _
  rw [pcieLinkDown_eq, warn_sameRegs _ _ g j (fun h => hg (List.mem_append_right _ h)), State.get_set_other _ _ (.inl hseen),
    latePushes_sameRegs _ _ g j hg, closed_get, hboxes g j hg]

theorem pcieLinkDown_queues (s : State) : (pcieLinkDown s).host.queues = [] := by
  rw [pcieLinkDown_eq]
  refine (congrArg (fun v => v.host.queues) (quiet_warn _ .pcieDown)).trans ?_
  exact latePushes_queues ..

theorem pcieLinkDown_clears (hmem : g ∈ linkClears) (hfeat : g ∉ featureRegs) (hg : g ∉ leaveRegs)
    (hseen : g ≠ .HST_STATUS_pcie_down_seen) : (pcieLinkDown s).get g 0 = defaultOf s.fused g 0 % 2 ^ g.width := by
  rw [pcieLinkDown_get hg hseen]
  exact (State.get_clearEach_other _ _ _ (.inl hfeat)).trans (State.get_clearAll_mem s 0 hmem)

theorem pcieLinkDown_features (hj : j < 4) : (pcieLinkDown s).get .HST_FEAT_EN_en j = 0 := by
  rw [pcieLinkDown_get (by decide) (by decide)]
  exact State.get_clearEach_mem _ (by decide) (List.mem_range.2 hj)

theorem pcieLinkDown_planState (s : State) : (pcieLinkDown s).planState = s.planState := by
  refine congrArg PlanState.ofCode ?_
  rw [pcieLinkDown_get (by decide) (by decide)]
  exact (State.get_clearEach_other _ _ _ (.inl (by decide))).trans (State.get_clearAll_other s (.inl (by decide)))

theorem pcieLinkDown_seen (s : State) : (pcieLinkDown s).get .HST_STATUS_pcie_down_seen 0 = 1 := by
  rw [pcieLinkDown_eq, warn_sameRegs _ _ _ 0 (by decide), State.get_set_same]
  rfl

theorem pcieLinkDown_runs (s : State) (hup : s.hostUp = true) : s.Runs .pcieLinkDown (fun t => t.host.queues = []
    ∧ t.get .HST_STATUS_running 0 = 0 ∧ t.get .HST_CTRL_enable 0 = 0 ∧ t.get .HST_STATUS_pcie_down_seen 0 = 1
    ∧ (∀ i, i < 4 → t.get .HST_FEAT_EN_en i = 0) ∧ bit (t.get .FLT_WARN_pending 0) Warn.pcieDown.bit = true
    ∧ t.planState = s.planState ∧ SameBytes s t ∧ SameTiles s t) :=
  State.runs_of_occurs (f := pcieLinkDown) rfl hup ⟨pcieLinkDown_queues _, pcieLinkDown_clears (by decide) (by decide) (by decide) (by decide),
    pcieLinkDown_clears (by decide) (by decide) (by decide) (by decide), pcieLinkDown_seen _, fun _ hi => pcieLinkDown_features hi,
    State.warn_pending _ _, pcieLinkDown_planState _, .of_field (pcieLinkDown_field s.begin), .of_field (pcieLinkDown_field s.begin)⟩

end

/-- Settles O53: the family's words on data between host and memory, clause by clause. -/
theorem hostDataMoves : Obligations.HostDataMoves := by
  refine ⟨?_, dmaComplete_runs, ?_, ?_, ?_, pcieLinkDown_runs⟩
  · rintro q cid f s _ _ _ _ _ rfl rfl rfl rfl rfl
    refine ⟨fun e hready => ⟨fun c r href => ?_, fun href hspace hfail hrights => dmaWrite_tier hready href hspace hfail hrights,
      fun href hspace hfail hwindow hmeets => dmaWrite_spad hready href hspace hfail hwindow hmeets⟩, fun hready => ⟨fun e c r href => ?_,
      fun href hspace hp => ?_, fun href hspace hwindow hgood => ?_⟩⟩
    · refine State.runs_hostCommand (exec_dmaWrite q cid e s) hready ?_
      rw [dmaWrite_refused (s := s.begin) href]
      exact refused_completes f c r s
    · refine State.runs_hostCommand (exec_dmaRead q cid e s) hready ?_
      rw [dmaRead_refused (s := s.begin) href]
      exact refused_completes f c r s
    · exact dmaRead_sends hready href (fun h => absurd h (Nat.ne_of_lt hspace)) (dmaGet_tier (s := s.begin) hspace hp 0 f.units)
    · refine dmaRead_sends hready href (fun _ => hwindow) ?_
      rw [hspace]
      exact dmaGet_spad (s := s.begin) 0 f.units hgood
  · rintro off last data n a s hn hup ha hp
    refine ⟨fun hfeat hserve hroom => ⟨bar2Access_writes hn hup ha hp hfeat hserve hroom, bar2Access_reads hn hup ha hp hfeat hserve hroom⟩,
      fun hfeat => ⟨?_, ?_⟩⟩
    · refine State.runs_of_occurs (exec_bar2Access off last true data _ s) hup ?_
      rw [bar2Access_off (s := s.begin) hfeat, if_pos rfl]
    · refine State.runs_of_occurs (exec_bar2Access off last false data _ s) hup ?_
      rw [bar2Access_off (s := s.begin) hfeat, if_neg (by decide)]
      exact ⟨rfl, fun _ => ⟨rfl, rfl, rfl, rfl, rfl⟩⟩
  · rintro q cid f data e x _ _ s hready rfl hi rfl he hx
    exact ⟨ingestPush_drops hready hi he hx, fun u hopen hunits hfits ha hroom => ingestPush_lands hready hi he hx hopen hunits hfits ha hroom⟩
  · intro i e x s he hx hrun hbegun hopen
    exact ingestWindowClose_runs he hx hrun hbegun hopen

end Sys2Proof.Machine

namespace Sys2Proof.Machine

/-! ### One port changed -/

@[simp] theorem modPort_get (s : State) (p : Nat) (h : LinkPort → LinkPort) (f : RegField) (i : Nat) :
    (s.modPort p h).get f i = s.get f i := rfl
@[simp] theorem modPort_out (s : State) (p : Nat) (h : LinkPort → LinkPort) : (s.modPort p h).out = s.out := rfl
@[simp] theorem modPort_train (s : State) (p q : Nat) (h : LinkPort → LinkPort) : (s.modPort p h).train q = s.train q := rfl

@[simp] theorem set_port (s : State) (f : RegField) (i v q : Nat) : (s.set f i v).port q = s.port q := rfl
@[simp] theorem bump_port (s : State) (f : RegField) (i n q : Nat) : (s.bump f i n).port q = s.port q := rfl

/-- The training state is one register field; the others say nothing of it. -/
theorem set_train_other (s : State) {f : RegField} (i v q : Nat) (h : f ≠ .LNK_STATUS_state) : (s.set f i v).train q = s.train q :=
  congrArg Train.ofCode (State.get_set_other s v (.inl h.symm))

theorem bump_train_other (s : State) {f : RegField} (i n q : Nat) (h : f ≠ .LNK_STATUS_state) : (s.bump f i n).train q = s.train q :=
  set_train_other s i _ q h

@[simp] theorem set_train_same (s : State) (p : Nat) (t : Train) : (s.set .LNK_STATUS_state p t.code).train p = t := by
  unfold State.train
  rw [State.get_set_same]
  cases t <;> rfl

/-! ### Entering a training state (R289) -/

@[simp] theorem enter_train (s : State) (p : Nat) (t : Train) : (s.enter p t).train p = t := set_train_same s p t

@[simp] theorem enter_port (s : State) (p : Nat) (t : Train) : (s.enter p t).port p = { s.port p with entered := s.time.tick } :=
  port_modPort_same ..

@[simp] theorem enter_get (s : State) (p : Nat) (t : Train) {f : RegField} (i : Nat) (h : f ≠ .LNK_STATUS_state) :
    (s.enter p t).get f i = s.get f i := State.get_set_other s _ (.inl h)

@[simp] theorem enter_out (s : State) (p : Nat) (t : Train) : (s.enter p t).out = s.out := rfl

@[simp] theorem detect_train_same (s : State) (p : Nat) : (s.detect p).train p = .detect := (detect_train s p p).trans (if_pos rfl)

@[simp] theorem detect_failed (s : State) (p : Nat) : ((s.detect p).port p).failed = false := by simp [State.detect]

/-! ### Training that fails (R293) -/

@[simp] theorem trainFail_train (s : State) (p code : Nat) : (s.trainFail p code).train p = .down := by
  rw [State.trainFail, modPort_train, enter_train]

theorem trainFail_code (s : State) (p : Nat) {code : Nat} (h : code < 256) :
    (s.trainFail p code).get .LNK_TRAIN_fail_code p = code := by
  rw [State.trainFail, modPort_get, enter_get _ _ _ _ (by decide), State.get_set_same]
  exact Nat.mod_eq_of_lt h

theorem trainFail_fails (s : State) (p : Nat) {code : Nat} (h : code < 256) :
    (s.trainFail p code).train p = .down ∧ (s.trainFail p code).get .LNK_TRAIN_fail_code p = code :=
  ⟨trainFail_train s p code, trainFail_code s p h⟩

/-! ### LINK_DETECT (R290, R316) -/

section
variable (s : State) (p : Nat)

@[simp] theorem sendIdent_train (mask q : Nat) : (s.sendIdent p mask).train q = s.train q := rfl
@[simp] theorem sendIdent_port (mask q : Nat) : (s.sendIdent p mask).port q = s.port q := rfl
@[simp] theorem sendIdent_get (mask : Nat) (f : RegField) (i : Nat) : (s.sendIdent p mask).get f i = s.get f i := rfl

/-- A block goes out on each of the eight lanes. -/
theorem sendIdent_out (mask : Nat) : (s.sendIdent p mask).out.length = s.out.length + 8 := by
  simp [State.sendIdent]

theorem linkDetect_train : (linkDetect p s).train p = .identify := by simp [linkDetect]

theorem linkDetect_out : (linkDetect p s).out.length = s.out.length + 8 := by
  rw [linkDetect, sendIdent_out, enter_out, State.set_out, State.bump_out, modPort_out]

/-- LNK_CFG as the port takes it on (R316). -/
theorem linkDetect_cfg : ((linkDetect p s).port p).cfgGen = s.get .LNK_CFG_gen_max p
    ∧ ((linkDetect p s).port p).cfgMode = s.get .LNK_CFG_mode p ∧ ((linkDetect p s).port p).cfgVcs = s.get .LNK_CFG_vc_count p
    ∧ ((linkDetect p s).port p).cfgRetx = s.get .LNK_CFG_retx_mode p := by
  simp [linkDetect]

theorem linkDetect_fallback : (linkDetect p s).get .LNK_TRAIN_tlk2_fallback p = 0 := by simp [linkDetect]

theorem linkDetect_attempts : (linkDetect p s).get .LNK_TRAIN_attempts p
    = min (s.get .LNK_TRAIN_attempts p + 1) (2 ^ RegField.width .LNK_TRAIN_attempts - 1) := by
  simp [linkDetect, State.get_set]

end

/-! ### IDENTIFY_BLOCK (R291, R292) -/

/-- What an identify block says of the neighbour stands in LNK_PEER. -/
def State.notePeer (s : State) (p : Nat) (i : Ident) : State :=
  (((s.set .LNK_PEER_LO_peer_serial_lo p (i.serial % 2 ^ 32)).set .LNK_PEER_HI_peer_serial_hi p
    (i.serial / 2 ^ 32)).set .LNK_PEER_INFO_peer_id p i.device).set .LNK_PEER_INFO_peer_port p i.port

/-- Generation, mode, VC count and leader as the two ends agree on them. -/
def State.agree (s : State) (p : Nat) (x : LinkPort) (i : Ident) : State :=
  (((s.set .LNK_STATUS_gen p (ofBool (bit (gensOf x.cfgGen &&& i.gens) 1))).set .LNK_STATUS_mode p
    (if i.mode = 1 ∨ x.cfgMode = 1 then 1 else 0)).set .LNK_STATUS_vc_count p (min i.vcs x.cfgVcs)).set .LNK_STATUS_leader p
    (ofBool (decide (s.fused.serial > i.serial)))

section
variable {s : State} {p : Nat} {b : List Byte}

/-- A block with the port's own serial. -/
theorem identify_ownSerial (h : (parseIdent b).serial = s.fused.serial) :
    s.identify p b = ((s.notePeer p (parseIdent b)).trainFail p 2).modPort p (fun x => { x with stuck := true }) := if_pos h

/-- A block with no generation in common. -/
theorem identify_noGen (h : (parseIdent b).serial ≠ s.fused.serial)
    (hg : (gensOf (s.port p).cfgGen &&& (parseIdent b).gens) &&& 3 = 0) :
    s.identify p b = (s.notePeer p (parseIdent b)).trainFail p 3 := (if_neg h).trans (if_pos hg)

/-- A block of a neighbour that the port can train with. -/
theorem identify_agrees (h : (parseIdent b).serial ≠ s.fused.serial)
    (hg : (gensOf (s.port p).cfgGen &&& (parseIdent b).gens) &&& 3 ≠ 0) :
    s.identify p b = (((s.notePeer p (parseIdent b)).agree p (s.port p) (parseIdent b)).modPort p
      (fun x => { x with peer := some (parseIdent b) })).enter p .equalize := (if_neg h).trans (if_neg hg)

theorem notePeer_peerPort (s : State) (p : Nat) (i : Ident) : (s.notePeer p i).get .LNK_PEER_INFO_peer_port p
    = i.port % 2 ^ RegField.width .LNK_PEER_INFO_peer_port := State.get_set_same ..

theorem agree_get (s : State) (p : Nat) (x : LinkPort) (i : Ident) {f : RegField} (j : Nat)
    (h : f ∉ [RegField.LNK_STATUS_gen, .LNK_STATUS_mode, .LNK_STATUS_vc_count, .LNK_STATUS_leader]) :
    (s.agree p x i).get f j = s.get f j :=
  ((((SameRegs.refl _ s).set (by decide) p _).set (by decide) p _).set (by decide) p _).set (by decide) p _ f j h

theorem agree_leader (s : State) (p : Nat) (x : LinkPort) (i : Ident) :
    (s.agree p x i).get .LNK_STATUS_leader p = ofBool (decide (s.fused.serial > i.serial)) := by
  rw [State.agree, State.get_set_same]
  cases decide (s.fused.serial > i.serial) <;> rfl

theorem identifyBlock_identify (hcrc : crcOk b = true) (ht : s.train p = .identify) : identifyBlock p b s = s.identify p b := by
  simp [identifyBlock, hcrc, ht]

theorem identifyBlock_laneCheck (hcrc : crcOk b = true) (ht : s.train p = .laneCheck) :
    identifyBlock p b s = (s.modPort p (fun x => { x with peerMask := some (leAt b 17 1) })).laneDecision p := by
  simp [identifyBlock, hcrc, ht]

/-- A block that is bad, or comes in another state, changes nothing. -/
theorem identifyBlock_ignored (h : crcOk b = false ∨ (s.train p ≠ .identify ∧ s.train p ≠ .laneCheck)) : identifyBlock p b s = s := by
  unfold identifyBlock
  split
  · rfl
  · next hcrc =>
    have hstate := h.resolve_left (by simpa using hcrc)
    split
    · next ht => exact absurd ht hstate.1
    · next ht => exact absurd ht hstate.2
    · rfl

/-! ### The width (R292) -/

theorem laneDecision_of_own_none (h : (s.port p).ownMask = none) : s.laneDecision p = s := by
  unfold State.laneDecision
  dsimp only
  rw [h]
  cases (s.port p).peer <;> rfl

theorem laneDecision_of_peer_none (h : (s.port p).peerMask = none) : s.laneDecision p = s := by
  unfold State.laneDecision
  dsimp only
  rw [h]
  cases (s.port p).peer <;> cases (s.port p).ownMask <;> rfl

/-- With both reports known and a width in common, FEC_ALIGN starts. -/
theorem laneDecision_width {i : Ident} {a b w lanes : Nat} (hi : (s.port p).peer = some i) (ha : (s.port p).ownMask = some a)
    (hb : (s.port p).peerMask = some b)
    (hw : chooseWidth (widthsOf (s.port p).cfgMin (s.port p).cfgMax &&& i.widths) (a &&& b) = some (w, lanes)) :
    s.laneDecision p = ((s.set .LNK_STATUS_width p w).set .LNK_STATUS_lanes p lanes).enter p .fecAlign := by
  simp [State.laneDecision, hi, ha, hb, hw]

/-- A width is x2, x4 or x8, and its lanes are lanes of the port. -/
theorem chooseWidth_bounds {widths mask w lanes : Nat} (h : chooseWidth widths mask = some (w, lanes)) : w < 4 ∧ lanes < 256 := by
  unfold chooseWidth at h
  dsimp only at h
  split_ifs at h <;> obtain ⟨rfl, rfl⟩ := Prod.mk.inj (Option.some.inj h) <;> decide

end

/-- Settles O19: the start of training and each outcome of an identify block is one equation of `linkDetect` or `identifyBlock`. -/
theorem trainingIdentifiesNeighbour : Obligations.TrainingIdentifiesNeighbour := by
  unfold Obligations.TrainingIdentifiesNeighbour
  refine ⟨fun p s hpow ht => ?_, ?_⟩
  · obtain ⟨hgen, hmode, hvcs, hretx⟩ := linkDetect_cfg s.begin p
    refine State.runs_of_occurs (f := linkDetect p) rfl (by simp [hpow, ht]) ?_
    exact ⟨linkDetect_train _ _, linkDetect_out _ _, hgen, hmode, hvcs, hretx, linkDetect_fallback _ _, linkDetect_attempts _ _⟩
  · rintro p v b s hpow rfl
    have hrun {P : State → Prop} (h : P (identifyBlock p v.toList s.begin)) : s.Runs (.identifyBlock p v) P :=
      State.runs_of_occurs rfl hpow h
    refine ⟨fun hcrc ht hown => hrun ?_, fun hcrc ht hother hgen => hrun ?_, fun hcrc ht hother hgen => hrun ?_,
      fun hcrc ht hmask => hrun ?_, fun hignored => ?_⟩
    · rw [identifyBlock_identify (s := s.begin) hcrc ht, identify_ownSerial (s := s.begin) hown]
      exact ⟨by rw [modPort_train, trainFail_train], by rw [modPort_get, trainFail_code _ _ (by decide)], by rw [port_modPort_same]⟩
    · rw [identifyBlock_identify (s := s.begin) hcrc ht, identify_noGen (s := s.begin) hother hgen]
      exact trainFail_fails _ _ (by decide)
    · rw [identifyBlock_identify (s := s.begin) hcrc ht, identify_agrees (s := s.begin) hother hgen]
      refine ⟨enter_train .., by rw [enter_port, port_modPort_same], ?_, ?_⟩
      · rw [enter_get _ _ _ _ (by decide), modPort_get, agree_get _ _ _ _ _ (by decide), notePeer_peerPort]
      · rw [enter_get _ _ _ _ (by decide), modPort_get, agree_leader]
        rfl
    · rw [identifyBlock_laneCheck (s := s.begin) hcrc ht, laneDecision_of_own_none (by rw [port_modPort_same]; exact hmask)]
      exact ⟨ht, by rw [port_modPort_same]⟩
    · show occurs s.powered (identifyBlock p v.toList) s = _
      rw [hpow, occurs_true, identifyBlock_ignored (s := s.begin) hignored]

end Sys2Proof.Machine

namespace Sys2Proof.Machine

/-! ### EQUALIZE again at TLK-2 (R292) -/

section
variable {s : State} {p : Nat}

/-- EQUALIZE is repeated at TLK-2 where both ends allow it and it has not been tried. -/
theorem tlk2OrFail_repeats (code : Nat)
    (h : s.get .LNK_STATUS_gen p = 1 ∧ bothTlk2 (s.port p) = true ∧ (s.port p).fellBack = false) :
    s.tlk2OrFail p code = (((s.set .LNK_STATUS_gen p 0).set .LNK_TRAIN_tlk2_fallback p 1).modPort p
      (fun x => { x with fellBack := true, ownMask := none, peerMask := none })).enter p .equalize := by
  obtain ⟨hgen, hboth, hback⟩ := h
  exact if_pos (by simp [hgen, hboth, hback])

theorem tlk2OrFail_fails (code : Nat)
    (h : ¬ (s.get .LNK_STATUS_gen p = 1 ∧ bothTlk2 (s.port p) = true ∧ (s.port p).fellBack = false)) :
    s.tlk2OrFail p code = s.trainFail p code := if_neg (by simpa [and_assoc] using h)

/-! ### LANE_CHECK (R292) -/

theorem laneCheckDone_waits {mask : Nat} (h : (s.port p).peerMask = none) :
    laneCheckDone p mask s = (s.modPort p (fun x => { x with ownMask := some mask })).sendIdent p mask :=
  laneDecision_of_peer_none (by rw [sendIdent_port, port_modPort_same]; exact h)

theorem laneCheckDone_width {mask b w lanes : Nat} {i : Ident} (hi : (s.port p).peer = some i) (hb : (s.port p).peerMask = some b)
    (hw : chooseWidth (widthsOf (s.port p).cfgMin (s.port p).cfgMax &&& i.widths) (mask &&& b) = some (w, lanes)) :
    laneCheckDone p mask s = ((((s.modPort p (fun x => { x with ownMask := some mask })).sendIdent p mask).set .LNK_STATUS_width p
      w).set .LNK_STATUS_lanes p lanes).enter p .fecAlign := by
  refine laneDecision_width (i := i) (a := mask) (b := b) ?_ ?_ ?_ ?_ <;> rw [sendIdent_port, port_modPort_same]
  · exact hi
  · exact hb
  · exact hw

/-! ### ACTIVE (R290, R304) -/

/-- The choice of the receiver's mode changes nothing of the port but the delay it was made at, and what a selective receiver held. -/
theorem chooseMode_port (s : State) (p : Nat) : ∃ d, (s.chooseMode p).port p = { s.port p with modeDelay := d }
    ∨ (s.chooseMode p).port p = { s.port p with modeDelay := d, reorder := [], gaps := [] } := by
  refine ⟨s.get .BEAT_PORT_DELAY_delay_ps p, ?_⟩
  rw [State.chooseMode, port_modPort_same, set_port]
  split_ifs
  · exact .inr rfl
  · exact .inl rfl

theorem chooseMode_train (s : State) (p q : Nat) : (s.chooseMode p).train q = s.train q :=
  set_train_other s p _ q (by decide)

theorem flitSyncDone_train (s : State) (p : Nat) : (flitSyncDone p s).train p = .active := by
  rw [flitSyncDone, chooseMode_train, enter_train]

/-- The counters of R290, and nothing kept, sent, freed or held. -/
theorem flitSyncDone_port (s : State) (p : Nat) : ((flitSyncDone p s).port p).nxt = 0 ∧ ((flitSyncDone p s).port p).una = 0
    ∧ ((flitSyncDone p s).port p).exp = 0 ∧ ((flitSyncDone p s).port p).kept = [] ∧ ((flitSyncDone p s).port p).sent = []
    ∧ ((flitSyncDone p s).port p).freed = [] ∧ ((flitSyncDone p s).port p).reorder = [] := by
  unfold flitSyncDone
  dsimp only
  obtain ⟨d, hport | hport⟩ := chooseMode_port (((s.setPort p _).bump .LNK_TRAIN_ups p 1).enter p .active) p <;>
    rw [hport, enter_port, bump_port, State.setPort, State.port, Table.get_set_same] <;>
    exact ⟨rfl, rfl, rfl, rfl, rfl, rfl, rfl⟩

/-! ### Timers (R293) -/

theorem exec_trainingTimeout {s : State} {p : PortIx} {n code : Nat} (h : trainTimer (s.train p) = some (n, code)) :
    exec (.trainingTimeout p) s
      = occurs (s.powered && decide ((s.port p).entered + n ≤ s.time.tick)) (trainingTimeout p code) s := by
  show execTrainingTimeout p s = _
  unfold execTrainingTimeout
  rw [h]

theorem trainTimer_code {t : Train} {n code : Nat} (h : trainTimer t = some (n, code)) : code < 256 := by
  cases t <;> simp [trainTimer] at h <;> omega

/-- But for EQUALIZE, which may be repeated at TLK-2, a timer that expires fails the training. -/
theorem trainingTimeout_fails {code : Nat} (h : s.train p ≠ .equalize) : trainingTimeout p code s = s.trainFail p code := if_neg h

end

/-- Settles O20: each command of training after EQUALIZE starts is one equation, and a failure is `trainFail`. -/
theorem trainingReachesActive : Obligations.TrainingReachesActive := by
  unfold Obligations.TrainingReachesActive
  refine ⟨fun p s hpow ht => ?_, fun p m s hpow ht => ?_, fun p s hpow ht => ?_, fun p s hpow ht => ?_,
    fun p s n code hpow htimer hne hdue => ?_, fun p s hpow ht hstuck hauto hheld => ?_⟩
  · have hrun {ok : Bool} {P : State → Prop} (h : P (equalizeDone p ok s.begin)) : s.Runs (.equalizeDone p ok) P :=
      State.runs_of_occurs (f := equalizeDone p ok) rfl (by simp [hpow, ht]) h
    refine ⟨hrun (enter_train ..), fun h => hrun ?_, fun h => hrun ?_⟩
    · rw [show equalizeDone p false s.begin = _ from tlk2OrFail_repeats (s := s.begin) 4 h]
      refine ⟨enter_train .., ?_, ?_, by rw [enter_port, port_modPort_same]⟩
      · rw [enter_get _ _ _ _ (by decide), modPort_get, State.get_set_other _ _ (.inl (by decide)), State.get_set_same]
        rfl
      · rw [enter_get _ _ _ _ (by decide), modPort_get, State.get_set_same]
        rfl
    · rw [show equalizeDone p false s.begin = _ from tlk2OrFail_fails (s := s.begin) 4 h]
      exact trainFail_fails _ _ (by decide)
  · have hrun {P : State → Prop} (h : P (laneCheckDone p m.toNat s.begin)) : s.Runs (.laneCheckDone p m) P :=
      State.runs_of_occurs (f := laneCheckDone p m.toNat) rfl (by simp [hpow, ht]) h
    refine ⟨fun hpeer => hrun ?_, fun i b w lanes hi hb hw => hrun ?_⟩
    · rw [laneCheckDone_waits (s := s.begin) hpeer]
      refine ⟨ht, by rw [sendIdent_port, port_modPort_same], ?_⟩
      rw [sendIdent_out, modPort_out, State.begin_out, List.length_nil]
    · obtain ⟨hwidth, hlanes⟩ := chooseWidth_bounds hw
      rw [laneCheckDone_width (s := s.begin) hi hb hw]
      refine ⟨enter_train .., ?_, ?_⟩
      · rw [enter_get _ _ _ _ (by decide), State.get_set_other _ _ (.inl (by decide)), State.get_set_same]
        exact Nat.mod_eq_of_lt hwidth
      · rw [enter_get _ _ _ _ (by decide), State.get_set_same]
        exact Nat.mod_eq_of_lt hlanes
  · refine State.runs_of_occurs (f := fecAlignDone p) rfl (by simp [hpow, ht]) ⟨enter_train .., ?_⟩
    rw [fecAlignDone, enter_port, port_modPort_same]
  · have hexec : exec (.flitSyncDone p) s = occurs (decide (16 ≤ (s.port p).rxGood)) (flitSyncDone p) s := by
      show occurs (s.powered && s.train p = .flitSync && decide ((s.port p).rxGood ≥ 16)) (flitSyncDone p) s = _
      simp [hpow, ht]
    refine ⟨fun hfew => ?_, fun hrun => State.runs_of_occurs hexec (by simpa using hrun) ⟨flitSyncDone_train .., flitSyncDone_port ..⟩⟩
    rw [hexec, decide_eq_false (by omega), occurs_false]
  · refine State.runs_of_occurs (exec_trainingTimeout htimer) (by simp [hpow, hdue]) ?_
    rw [trainingTimeout_fails (s := s.begin) hne]
    exact trainFail_fails _ _ (trainTimer_code htimer)
  · exact State.runs_of_occurs (f := fun s => s.detect p) rfl (by simp [hpow, ht, hstuck, hauto, hheld])
      ⟨detect_train_same .., detect_failed ..⟩

end Sys2Proof.Machine

namespace Sys2Proof.Machine

/-! ### Control words taken -/

/-- A control word leaves the port's list before it acts. -/
def State.takeWord (s : State) (p : Nat) (rest : List Ctrl) : State := s.modPort p (fun x => { x with rxCtrl := rest })

section
variable {s : State} {p : Nat}

@[simp] theorem takeWord_port (s : State) (p : Nat) (rest : List Ctrl) :
    (s.takeWord p rest).port p = { s.port p with rxCtrl := rest } := port_modPort_same ..

theorem onCtrl_runs {typ : Nat} {f : Ctrl → State → State} {c : Ctrl} {rest : List Ctrl} {i : Instr} {P : State → Prop}
    (hexec : exec i s = onCtrl p typ f s) (hpow : s.powered = true) (ht : s.train p = .active)
    (hc : takeCtrl typ (s.port p).rxCtrl = some (c, rest)) (h : P (f c (s.begin.takeWord p rest))) : s.Runs i P := by
  refine State.runs_of_occurs (g := true) (f := fun s => f c (s.takeWord p rest)) ?_ rfl h
  rw [hexec, onCtrl, hc]
  simp [hpow, ht, State.takeWord]

/-! ### Words sent on an ACTIVE port (R288) -/

/-- A control word as it is queued. -/
def plainWord (typ : Nat) (short body : List Byte) : Ctrl := ⟨typ, false, padTo 6 short, padTo 32 body⟩

theorem sendCtrl_urgent {typ : Nat} (ht : s.train p = .active) (hu : ctrlUrgent typ = true) (short body : List Byte) :
    s.sendCtrl p typ short body = s.modPort p (fun x => { x with urgent := x.urgent ++ [plainWord typ short body] }) := by
  simp [State.sendCtrl, ht, hu, plainWord]

theorem sendCtrl_normal {typ : Nat} (ht : s.train p = .active) (hu : ctrlUrgent typ = false) (short body : List Byte) :
    s.sendCtrl p typ short body = s.modPort p (fun x => { x with normal := x.normal ++ [plainWord typ short body] }) := by
  simp [State.sendCtrl, ht, hu, plainWord]

@[simp] theorem sendCtrl_regs (s : State) (p typ : Nat) (short body : List Byte) : (s.sendCtrl p typ short body).regs = s.regs :=
  offPorts_regs (offPorts_sendCtrl ..)

@[simp] theorem sendCtrl_get (s : State) (p typ : Nat) (short body : List Byte) (f : RegField) (i : Nat) :
    (s.sendCtrl p typ short body).get f i = s.get f i := offPorts_get (offPorts_sendCtrl ..) f i

@[simp] theorem sendCredit_regs (s : State) (p : Nat) : (s.sendCredit p).regs = s.regs := sendCtrl_regs ..

/-- A CREDIT word is queued, and with it every freed count is told (R308). -/
theorem sendCredit_port (ht : s.train p = .active) : ∃ c, (s.sendCredit p).port p =
    { s.port p with normal := (s.port p).normal ++ [c], freedSent := (s.port p).freed, freedAt := none } := by
  refine ⟨plainWord 6 [] ((List.range 7).flatMap (fun v => toLE 2 (Table.get 0 (s.port p).freed (v + 1)))), ?_⟩
  rw [State.sendCredit, port_modPort_same, sendCtrl_normal ht rfl, port_modPort_same]

/-! ### Flits released (R298) -/

theorem noteWindow_get (s : State) (p : Nat) {f : RegField} (i : Nat)
    (h : f ∉ [RegField.LNK_WINDOW_outstanding, .LNK_WINDOW_outstanding_max]) : (s.noteWindow p).get f i = s.get f i :=
  ((SameRegs.refl _ s).set (by decide) p _).set (by decide) p _ f i h

theorem noteWindow_port (s : State) (p : Nat) : ∃ t, (s.noteWindow p).port p = { s.port p with capAt := t } :=
  ⟨_, port_modPort_same ..⟩

theorem releaseFlits_get (s : State) (p n : Nat) {f : RegField} (i : Nat)
    (h : f ∉ [RegField.LNK_WINDOW_outstanding, .LNK_WINDOW_outstanding_max]) : (s.releaseFlits p n).get f i = s.get f i := by
  unfold State.releaseFlits
  split
  · rfl
  · rw [noteWindow_get _ _ _ h, modPort_get]

theorem releaseFlits_train (s : State) (p n q : Nat) : (s.releaseFlits p n).train q = s.train q :=
  congrArg Train.ofCode (releaseFlits_get s p n q (by decide))

/-- What is left of the window when flits have been released, and that the control words stay. -/
theorem releaseFlits_port (s : State) (p n : Nat) : ((s.releaseFlits p n).port p).kept = (s.port p).kept.drop n
    ∧ ((s.releaseFlits p n).port p).rxCtrl = (s.port p).rxCtrl
    ∧ (n ≠ 0 → ((s.releaseFlits p n).port p).una = ((s.port p).una + n) % 4096 ∧ ((s.releaseFlits p n).port p).passUna = none) := by
  unfold State.releaseFlits
  split
  · next hn => subst hn; simp
  · next hn =>
    obtain ⟨t, hport⟩ := noteWindow_port (s.modPort p _) p
    rw [hport, port_modPort_same]
    exact ⟨rfl, rfl, fun _ => ⟨rfl, rfl⟩⟩

/-! ### Go-back passes (R300) -/

/-- The port with a go-back pass from its oldest kept flit. -/
def LinkPort.passing (x : LinkPort) (n tick : Nat) : LinkPort :=
  { x with pass := some x.una, passes := n, passUna := some x.una, unaAt := tick, resend := [] }

/-- The first pass at a number starts where the limit allows one at all. -/
theorem startPass_first (hu : (s.port p).passUna ≠ some (s.port p).una) (hl : 0 < s.get .LNK_TIMER_replay_limit p) :
    s.startPass p = (s.bump .LNK_REPLAY_goback_passes p 1).modPort p (fun x => x.passing 1 s.time.tick) := by
  unfold State.startPass
  dsimp only
  rw [if_neg hu, if_neg (by omega)]
  rfl

/-- At the limit the port goes down. -/
theorem startPass_limit (hu : (s.port p).passUna = some (s.port p).una) (hl : s.get .LNK_TIMER_replay_limit p ≤ (s.port p).passes) :
    s.startPass p = s.linkDown p .replayLimit := by
  unfold State.startPass
  dsimp only
  rw [if_pos hu, if_pos hl]

/-! ### NAK (R300) -/

variable {c : Ctrl} {d : Nat}

/-- A number outside the window is stale. -/
theorem nak_stale (hd : d = (leAt c.short 0 2 % 4096 + 4096 - (s.port p).una) % 4096) (h : (s.port p).kept.length < d) :
    nak p c s = s := by
  subst hd
  exact if_pos h

/-- The next number to send releases everything. -/
theorem nak_all (hd : d = (leAt c.short 0 2 % 4096 + 4096 - (s.port p).una) % 4096) (h : d = (s.port p).kept.length) :
    nak p c s = s.releaseFlits p d := by
  subst hd
  exact (if_neg (by omega)).trans (if_pos h)

/-- With no pass under way one starts at the number named. -/
theorem nak_pass (hd : d = (leAt c.short 0 2 % 4096 + 4096 - (s.port p).una) % 4096) (h : d < (s.port p).kept.length)
    (hpass : (s.port p).pass = none) : nak p c s = (s.releaseFlits p d).startPass p := by
  subst hd
  unfold nak
  dsimp only
  rw [if_neg (by omega), if_neg (by omega), hpass, if_pos rfl]

/-! ### SNAK and CREDIT (R302, R308) -/

/-- The kept flits among those that a SNAK names, in its order. -/
def LinkPort.named (x : LinkPort) (c : Ctrl) : List Nat :=
  ((List.range (min (leAt c.short 2 1) 16)).map (fun i => (leAt c.short 0 2 % 4096 + i) % 4096)).filter
    (fun q => x.kept.any (fun f => f.seq = q))

theorem snak_eq (p : Nat) (c : Ctrl) (s : State) : snak p c s = s.modPort p (fun x =>
    { x with resend := x.resend ++ (x.named c).filter (fun q => !x.resend.contains q) }) := rfl

theorem mem_named {x : LinkPort} {q : Nat} : q ∈ x.named c ↔
    (∃ i < min (leAt c.short 2 1) 16, q = (leAt c.short 0 2 % 4096 + i) % 4096) ∧ ∃ f ∈ x.kept, f.seq = q := by
  simp only [LinkPort.named, List.mem_filter, List.mem_map, List.mem_range, List.any_eq_true, decide_eq_true_eq, @eq_comm _ q]

/-- Joined to a list are those of another that it does not hold. -/
theorem mem_append_missing {l m : List Nat} {q : Nat} : q ∈ l ++ m.filter (fun q => !l.contains q) ↔ q ∈ l ∨ q ∈ m := by
  simp only [List.mem_append, List.mem_filter, Bool.not_eq_true', List.contains_eq_mem, decide_eq_false_iff_not]
  tauto

/-- Of the counts written one after another each key holds its own. -/
theorem get_foldl_set {g : Nat → Nat} {vs : List Nat} (hvs : vs.Nodup) (t : Table Nat) (v : Nat) :
    Table.get 0 (vs.foldl (fun t v => Table.set 0 t (v + 1) (g v)) t) (v + 1)
      = if v ∈ vs then g v else Table.get 0 t (v + 1) := by
  induction vs generalizing t with
  | nil => rfl
  | cons w vs ih =>
    obtain ⟨hw, hvs⟩ := List.nodup_cons.1 hvs
    rw [List.foldl_cons, ih hvs]
    by_cases hv : v = w
    · subst hv
      simp [hw]
    · rw [Table.get_set_ne _ _ _ _ (by omega)]
      simp [hv]

theorem creditWord_port (p : Nat) (c : Ctrl) (s : State) : ∃ z, (creditWord p c s).port p = { s.port p with
    peerFreed := (List.range 7).foldl (fun t v => Table.set 0 t (v + 1) (leAt c.body (2 * v) 2)) (s.port p).peerFreed
    zeroAt := z } := ⟨_, by rw [creditWord, port_modPort_same, port_modPort_same]⟩

theorem creditWord_peerFreed (p : Nat) (c : Ctrl) (s : State) {v : Nat} (hv : v < 7) :
    Table.get 0 ((creditWord p c s).port p).peerFreed (v + 1) = leAt c.body (2 * v) 2 := by
  obtain ⟨z, hport⟩ := creditWord_port p c s
  rw [hport]
  exact (get_foldl_set List.nodup_range _ v).trans (if_pos (List.mem_range.2 hv))

end

/-- A NAK inside the window releases the flits before the number it names and starts a pass there. -/
theorem nak_goesBack {s : State} {p d : Nat} {c : Ctrl} (ht : s.train p = .active)
    (hd : d = (leAt c.short 0 2 % 4096 + 4096 - (s.port p).una) % 4096) (h0 : 0 < d) (h : d < (s.port p).kept.length)
    (hpass : (s.port p).pass = none) (hl : 0 < s.get .LNK_TIMER_replay_limit p) :
    ((nak p c s).port p).kept = (s.port p).kept.drop d ∧ ((nak p c s).port p).una = ((s.port p).una + d) % 4096
      ∧ ((nak p c s).port p).pass = some (((s.port p).una + d) % 4096) ∧ ((nak p c s).port p).rxCtrl = (s.port p).rxCtrl
      ∧ (nak p c s).train p = .active := by
  obtain ⟨hkept, hctrl, hrest⟩ := releaseFlits_port s p d
  obtain ⟨huna, hpassUna⟩ := hrest (by omega)
  have hlimit : 0 < (s.releaseFlits p d).get .LNK_TIMER_replay_limit p := by rw [releaseFlits_get _ _ _ _ (by decide)]; exact hl
  rw [nak_pass hd h hpass, startPass_first (by rw [hpassUna]; exact (Option.some_ne_none _).symm) hlimit, port_modPort_same, bump_port,
    modPort_train, bump_train_other _ _ _ _ (by decide), releaseFlits_train]
  exact ⟨hkept, huna, congrArg some huna, hctrl, ht⟩

/-- Settles O21: each word's meaning is one equation on the port, once the word is taken. -/
theorem controlWordsActOnPort : Obligations.ControlWordsActOnPort := by
  unfold Obligations.ControlWordsActOnPort
  intro p s c rest hpow ht
  refine ⟨fun hc d hd => ?_, fun hc => ?_, fun hc => ?_, fun hc => ?_⟩
  · have hport : (s.begin.takeWord p rest).port p = { s.port p with rxCtrl := rest } := takeWord_port ..
    have hd' : d = (leAt c.short 0 2 % 4096 + 4096 - ((s.begin.takeWord p rest).port p).una) % 4096 := by rw [hport]; exact hd
    refine ⟨fun h => ?_, fun h => ?_, fun h0 h hpass hl => ?_⟩ <;> refine onCtrl_runs rfl hpow ht hc ?_
    · rw [nak_stale hd' (by rw [hport]; exact h)]
      exact ⟨hport, rfl⟩
    · obtain ⟨hkept, hctrl, hrest⟩ := releaseFlits_port (s.begin.takeWord p rest) p d
      rw [nak_all hd' (by rw [hport]; exact h), hkept, hctrl, hport]
      refine ⟨List.drop_of_length_le h.ge, rfl, fun hne => ?_⟩
      rw [(hrest hne).1, hport]
    · have hback := nak_goesBack (s := s.begin.takeWord p rest) (c := c) ht hd' h0 (by rw [hport]; exact h) (by rw [hport]; exact hpass) hl
      rwa [hport] at hback
  · refine onCtrl_runs rfl hpow ht hc ?_
    rw [snak_eq, port_modPort_same, takeWord_port]
    exact ⟨rfl, rfl, rfl, fun q => mem_append_missing.trans (or_congr_right mem_named)⟩
  · refine onCtrl_runs rfl hpow ht hc ⟨?_, rfl, fun v hv => creditWord_peerFreed _ _ _ hv⟩
    obtain ⟨z, hport⟩ := creditWord_port p c (s.begin.takeWord p rest)
    rw [hport, takeWord_port]
  · refine onCtrl_runs (f := fun _ s => s.sendCredit p) rfl hpow ht hc ?_
    obtain ⟨w, hport⟩ := sendCredit_port (s := s.begin.takeWord p rest) (p := p) ht
    rw [hport, takeWord_port, sendCredit_regs]
    exact ⟨rfl, rfl, List.length_append, rfl⟩

end Sys2Proof.Machine

namespace Sys2Proof.Machine

/-! ### Link-down (R289, R295) -/

/-- What a link reset does not return to its Reset value reads as it did. -/
theorem untrain_get (s : State) (p : Nat) {f : RegField} {i : Nat} (h : linkField p f i = false) :
    (s.untrain p).get f i = s.get f i := by
  have hkeep := s.get_keep (p := fun k => (RegField.ofNat (k % 512)).survives .link || !linkField p (RegField.ofNat (k % 512)) (k / 512))
    (f := f) (i := i)
  have hdiv : regKey f i / 512 = i := by
    have := f.ctorIdx_lt
    unfold regKey
    omega
  exact hkeep (by simp only [regKey_mod, hdiv, RegField.ofNat_ctorIdx, h, Bool.not_false, Bool.or_true])

@[simp] theorem modRouter_get (s : State) (h : Router → Router) (f : RegField) (i : Nat) : (s.modRouter h).get f i = s.get f i := rfl
@[simp] theorem modRouter_port (s : State) (h : Router → Router) (q : Nat) : (s.modRouter h).port q = s.port q := rfl

theorem each_modPort_get (h : State → Nat → LinkPort → LinkPort) (qs : List Nat) (s : State) (f : RegField) (i : Nat) :
    (s.each qs (fun s q => s.modPort q (h s q))).get f i = s.get f i :=
  foldl_keeps (fun v : State => v.get f i) (g := fun s q => s.modPort q (h s q)) (fun _ _ => rfl) qs s

/-- What every port's change leaves alone at a port stays there. -/
theorem each_modPort_port {α : Type} {h : State → Nat → LinkPort → LinkPort} {m : LinkPort → α} (hm : ∀ s q x, m (h s q x) = m x)
    (qs : List Nat) (s : State) (p : Nat) : m ((s.each qs (fun s q => s.modPort q (h s q))).port p) = m (s.port p) := by
  refine foldl_keeps (fun v : State => m (v.port p)) (g := fun s q => s.modPort q (h s q)) (fun v q => ?_) qs s
  by_cases hq : p = q
  · rw [← hq, port_modPort_same, hm]
  · rw [port_modPort_other _ _ hq]

theorem abortInputs_get (s : State) (p : Nat) (f : RegField) (i : Nat) : (s.abortInputs p).get f i = s.get f i := by
  unfold State.abortInputs
  dsimp only
  rw [modRouter_get]
  exact each_modPort_get (fun s' q => LinkPort.cutInput p (p / 6) s'.time.tick (s.port p).rxPackets q) (List.range 36) s f i

theorem cutInput_rxCtrl (p rim tick : Nat) (ks : List Packet) (q : Nat) (x : LinkPort) : (x.cutInput p rim tick ks q).rxCtrl = x.rxCtrl :=
  rfl

/-- Flits of other inputs are cut; the control words received stay. -/
theorem abortInputs_rxCtrl (s : State) (p : Nat) : ((s.abortInputs p).port p).rxCtrl = (s.port p).rxCtrl := by
  unfold State.abortInputs
  dsimp only
  rw [modRouter_port]
  exact each_modPort_port (h := fun s' q => LinkPort.cutInput p (p / 6) s'.time.tick (s.port p).rxPackets q) (m := LinkPort.rxCtrl)
    (fun _ _ _ => cutInput_rxCtrl ..) (List.range 36) s p

/-- Everything that waits from an input that goes down, and what the port itself holds. -/
def State.lostAt (s : State) (p : Nat) : Nat := (s.port p).buffered + s.waitingFrom p + s.parkedFrom p

/-- A port that stops, before its cause is recorded. -/
def State.stopped (s : State) (p : Nat) : State :=
  let u := ((s.abortInputs p).bump .LNK_DOWN_flits_lost p (s.lostAt p)).untrain p
  (u.modPort p (fun y => y.downed u.time.tick)).set .LNK_STATUS_state p
    (if u.get .LNK_CTRL_enable p = 0 then Train.disabled.code else Train.down.code)

/-- Its cause is recorded and counted, and the LINK_DOWN event goes out. -/
def State.noteDown (s : State) (p : Nat) (c : Down) : State :=
  ((s.set .LNK_DOWN_last_cause p c.code).bump .LNK_DOWN_down_count p 1).event 6 (toLE 1 p ++ toLE 1 c.code)

/-- Behind the event a port of a running plan starts on the fatal path; the registers and the ports stand. -/
theorem linkDown_cases (s : State) (p : Nat) (c : Down) : s.linkDown p c = (s.stopped p).noteDown p c
    ∨ s.linkDown p c = ((s.stopped p).noteDown p c).raiseFatal .linkDown (p + 256 * c.code) := by
  have hfatal : s.linkDown p c = if (((s.stopped p).noteDown p c).inPlan p && (((s.stopped p).noteDown p c).planRuns
      || ((s.stopped p).noteDown p c).planState = .armed)) = true then
        ((s.stopped p).noteDown p c).raiseFatal .linkDown (p + 256 * c.code) else (s.stopped p).noteDown p c := rfl
  rw [hfatal]
  exact (ite_eq_or_eq ..).symm

theorem linkDown_get (s : State) (p : Nat) (c : Down) (f : RegField) (i : Nat) :
    (s.linkDown p c).get f i = ((s.stopped p).noteDown p c).get f i := by
  obtain h | h := linkDown_cases s p c <;> rw [h]
  rw [State.raiseFatal_get]

theorem noteDown_get (s : State) (p : Nat) (c : Down) {f : RegField} (i : Nat)
    (h : f ∉ [RegField.LNK_DOWN_last_cause, .LNK_DOWN_down_count, .HST_ERR_events_lost]) : (s.noteDown p c).get f i = s.get f i := by
  simp only [List.mem_cons, List.not_mem_nil, or_false, not_or] at h
  obtain ⟨hcause, hcount, hlost⟩ := h
  rw [State.noteDown, State.get_event _ _ _ _ hlost, State.get_bump_other _ _ (.inl hcount), State.get_set_other _ _ (.inl hcause)]

/-- The port that stops is DISABLED where it is not enabled, and DOWN otherwise (R289). -/
theorem linkDown_train (s : State) (p : Nat) (c : Down) : (s.linkDown p c).train p = s.downTrain p := by
  have henable : (((s.abortInputs p).bump .LNK_DOWN_flits_lost p (s.lostAt p)).untrain p).get .LNK_CTRL_enable p
      = s.get .LNK_CTRL_enable p := by
    rw [untrain_get _ _ rfl, State.get_bump_other _ _ (.inl (by decide)), abortInputs_get]
  have hstate : (s.linkDown p c).get .LNK_STATUS_state p = (s.stopped p).get .LNK_STATUS_state p := by
    rw [linkDown_get, noteDown_get _ _ _ _ (by decide)]
  refine (congrArg Train.ofCode hstate).trans ?_
  show ((s.stopped p).train p) = _
  rw [State.stopped, henable, ← apply_ite Train.code, set_train_same, State.downTrain]

theorem linkDown_cause (s : State) (p : Nat) (c : Down) : (s.linkDown p c).get .LNK_DOWN_last_cause p = c.code := by
  rw [linkDown_get, State.noteDown, State.get_event _ _ _ _ (by decide), State.get_bump_other _ _ (.inl (by decide)),
    State.get_set_same]
  cases c <;> rfl

theorem noteDown_port (s : State) (p : Nat) (c : Down) (q : Nat) : (s.noteDown p c).port q = s.port q := by
  unfold State.port
  rw [State.noteDown, State.event_ports, State.bump_ports, State.set_ports]

theorem untrain_port (s : State) (p q : Nat) : (s.untrain p).port q = s.port q := rfl

theorem stopped_port (s : State) (p : Nat) : ∃ tick, (s.stopped p).port p = ((s.abortInputs p).port p).downed tick := by
  refine ⟨(((s.abortInputs p).bump .LNK_DOWN_flits_lost p (s.lostAt p)).untrain p).time.tick, ?_⟩
  rw [State.stopped, set_port, port_modPort_same, untrain_port, bump_port]

theorem linkDown_downed (s : State) (p : Nat) (c : Down) :
    ∃ x tick, (s.linkDown p c).port p = LinkPort.downed x tick ∧ x.rxCtrl = (s.port p).rxCtrl := by
  have hports : (s.linkDown p c).port p = (s.stopped p).port p := by
    obtain h | h := linkDown_cases s p c <;> rw [h] <;> exact noteDown_port ..
  obtain ⟨tick, hport⟩ := stopped_port s p
  exact ⟨_, tick, hports.trans hport, abortInputs_rxCtrl s p⟩

/-- Of the last training only FINISH words are left (R295). -/
theorem linkDown_port (s : State) (p : Nat) (c : Down) : ((s.linkDown p c).port p).kept = []
    ∧ ((s.linkDown p c).port p).rxPackets = [] ∧ ((s.linkDown p c).port p).rxCtrl = (s.port p).rxCtrl.filter (fun w => w.typ = 3) := by
  obtain ⟨x, tick, hport, hctrl⟩ := linkDown_downed s p c
  rw [hport, ← hctrl]
  exact ⟨rfl, rfl, rfl⟩

theorem linkDown_stops (s : State) (p : Nat) (c : Down) : (s.linkDown p c).train p = s.downTrain p
    ∧ (s.linkDown p c).get .LNK_DOWN_last_cause p = c.code := ⟨linkDown_train s p c, linkDown_cause s p c⟩

section
variable {s : State} {p : Nat}

/-! ### CREDIT_TIMEOUT (R308) -/

/-- The VC's stay at zero credit is counted, and its timer starts again. -/
def State.countStall (s : State) (p v : Nat) : State :=
  (s.bump .LNK_CREDIT_credit_stalls p 1).modPort p (fun x => { x with zeroAt := x.zeroAt.put v s.time.tick })

theorem creditTimeout_eq (ht : s.train p = .active) (v : Nat) : creditTimeout p v s =
    (s.countStall p v).modPort p (fun x => { x with normal := x.normal ++ [plainWord 7 (toLE 1 (2 ^ v)) []] }) := by
  have htrain : (s.countStall p v).train p = .active := by
    rw [State.countStall, modPort_train, bump_train_other _ _ _ _ (by decide), ht]
  exact sendCtrl_normal htrain (typ := 7) rfl (toLE 1 (2 ^ v)) []

/-! ### GAP_TIMEOUT (R303) -/

/-- A selective receiver as a fallback leaves it. -/
def LinkPort.fellToGoBack (x : LinkPort) : LinkPort :=
  { x with fallback := x.topHeld, reorder := [], gaps := [], nakOpen := true }

theorem fallBack_port (ht : s.train p = .active) :
    ∃ c, (s.fallBack p).port p = { (s.port p).fellToGoBack with urgent := (s.port p).urgent ++ [c] } := by
  have hfell : s.fallBack p = ((s.bump .LNK_REPLAY_sel_fallbacks p 1).modPort p LinkPort.fellToGoBack).sendNak p := rfl
  have htrain : ((s.bump .LNK_REPLAY_sel_fallbacks p 1).modPort p LinkPort.fellToGoBack).train p = .active := by
    rw [modPort_train, bump_train_other _ _ _ _ (by decide), ht]
  rw [hfell, State.sendNak, sendCtrl_urgent htrain (by decide), port_modPort_same, port_modPort_same, bump_port]
  exact ⟨_, rfl⟩

/-! ### REPEAT_SEND (R288, R295) -/

/-- The port whose urgent words have gone. -/
def LinkPort.sentUrgent (x : LinkPort) (tick : Nat) : LinkPort :=
  { x with repeats := (x.due tick).drop 6 ++ x.repeats.filter (fun r => !decide (r.at' + 2 ≤ tick))
           urgent := x.urgent.drop (6 - (x.due tick).length) }

/-- The state with the urgent CTRL flit of the port gone. -/
def State.urgentSent (s : State) (p : Nat) : State :=
  (s.modPort p (fun x => x.sentUrgent s.time.tick)).sendWords p ((s.port p).urgentWords s.time.tick)

theorem sendUrgent_eq (s : State) (p : Nat) : s.sendUrgent p = (s.urgentSent p).closeIf p ((s.port p).urgentWords s.time.tick) := by
  have hport : s.modPort p (fun x => { x with
      repeats := ((s.port p).due s.time.tick).drop 6 ++ (s.port p).repeats.filter (fun r => !decide (r.at' + 2 ≤ s.time.tick))
      urgent := x.urgent.drop (6 - ((s.port p).due s.time.tick).length) }) = s.modPort p (fun x => x.sentUrgent s.time.tick) := rfl
  unfold State.sendUrgent
  dsimp only
  rw [hport]
  rfl

theorem urgentSent_port (s : State) (p : Nat) : ((s.urgentSent p).port p).closing = (s.port p).closing
    ∧ ((s.urgentSent p).port p).urgent = (s.port p).urgent.drop (6 - ((s.port p).due s.time.tick).length) := by
  rw [State.urgentSent, State.sendWords, port_modPort_same]
  have hport (o : Output) (t : State) : (t.emit o).port p = t.port p := rfl
  rw [hport, port_modPort_same]
  exact ⟨rfl, rfl⟩

theorem closeIf_open {cs : List Ctrl} (h : (s.port p).closing = none) : s.closeIf p cs = s := by
  unfold State.closeIf
  rw [h]

theorem closeIf_closes {cs : List Ctrl} {c : Down} (h : (s.port p).closing = some c) (hcs : ∃ w ∈ cs, w.copy = true ∧ w.typ = 8) :
    s.closeIf p cs = s.linkDown p c := by
  unfold State.closeIf
  rw [h]
  exact if_pos (by simpa using hcs)

/-- The second copy of a RESET_REQ that is among the first six words due goes in the flit. -/
theorem urgentWords_resetReq {x : LinkPort} {tick : Nat} (h : ∃ r ∈ (x.due tick).take 6, r.word.typ = 8) :
    ∃ w ∈ x.urgentWords tick, w.copy = true ∧ w.typ = 8 := by
  obtain ⟨r, hr, htyp⟩ := h
  refine ⟨{ r.word with copy := true }, ?_, rfl, htyp⟩
  rw [LinkPort.urgentWords, List.take_append, List.mem_append, ← List.map_take]
  exact .inl (List.mem_map.2 ⟨r, hr, rfl⟩)

/-! ### EYE_MARGIN_UPDATE (R316) -/

theorem eyeMargin_get (s : State) (p : Nat) {m l : Nat} (hm : m < 256) (hl : l < 8) : (eyeMargin p m l s).get .LNK_EYE_margin p = m
    ∧ (eyeMargin p m l s).get .LNK_EYE_worst_lane p = l
    ∧ (eyeMargin p m l s).get .LNK_EYE_margin_min p = min m (s.get .LNK_EYE_margin_min p) := by
  have hmin : min m (s.get .LNK_EYE_margin_min p) < 256 := lt_of_le_of_lt (Nat.min_le_left ..) hm
  unfold eyeMargin
  refine ⟨?_, ?_, ?_⟩
  · rw [State.get_set_other _ _ (.inl (by decide)), State.get_set_other _ _ (.inl (by decide)), State.get_set_same]
    exact Nat.mod_eq_of_lt hm
  · rw [State.get_set_other _ _ (.inl (by decide)), State.get_set_same]
    exact Nat.mod_eq_of_lt hl
  · rw [State.get_set_same]
    exact Nat.mod_eq_of_lt hmin

theorem eyeMargin_sameRegs (s : State) (p m l : Nat) :
    SameRegs [.LNK_EYE_margin, .LNK_EYE_worst_lane, .LNK_EYE_margin_min] s (eyeMargin p m l s) :=
  (((SameRegs.refl _ s).set (by decide) p _).set (by decide) p _).set (by decide) p _

end

/-! ### Lane lock (R294) -/

theorem laneLockLost_runs {s : State} {p : PortIx} {l : Fin 8} (hpow : s.powered = true) (hused : s.laneUsed p l = true)
    (hlock : (s.port p).lockLost.find? l.val = none) : s.Runs (.laneLockLost p l)
      (fun t => (t.port p).lockLost.find? l.val = some s.time.tick ∧ t.regs = s.regs) := by
  refine State.runs_of_occurs (f := fun s => s.modPort p (fun x => { x with lockLost := x.lockLost.put l.val s.time.tick })) rfl
    (by simp [hpow, hused, hlock]) ⟨?_, rfl⟩
  rw [port_modPort_same]
  exact Table.find?_put_same ..

theorem laneLockRegained_runs {s : State} {p : PortIx} {l : Fin 8} (hpow : s.powered = true) (hused : s.laneUsed p l = true) :
    s.Runs (.laneLockRegained p l) (fun t => (t.port p).lockLost.find? l.val = none ∧ t.regs = s.regs) := by
  refine State.runs_of_occurs (f := fun s => s.modPort p (fun x => { x with lockLost := x.lockLost.erase l.val })) rfl
    (by simp [hpow, hused]) ⟨?_, rfl⟩
  rw [port_modPort_same]
  exact Table.find?_erase_same ..

/-! ### RESET_REQ (R294, R296) -/

/-- A RESET_REQ taken by a port. -/
def resetWord (p : Nat) (rest : List Ctrl) (s : State) : State :=
  if s.train p = .active then (s.takeWord p rest).linkDown p .peerReset else s.takeWord p rest

theorem exec_resetReq {s : State} {p : PortIx} {c : Ctrl} {rest : List Ctrl} (h : takeCtrl 8 (s.port p).rxCtrl = some (c, rest)) :
    exec (.resetReq p) s = occurs s.powered (resetWord p rest) s := by
  show execResetReq p s = _
  unfold execResetReq
  rw [h]
  rfl

theorem resetReq_runs {s : State} {p : PortIx} {c : Ctrl} {rest : List Ctrl} (hpow : s.powered = true)
    (hc : takeCtrl 8 (s.port p).rxCtrl = some (c, rest)) :
    (s.train p = .active → s.Runs (.resetReq p) (fun t => t.train p = s.downTrain p
      ∧ t.get .LNK_DOWN_last_cause p = Down.peerReset.code ∧ (t.port p).rxCtrl = rest.filter (fun c => c.typ = 3))) ∧
    (s.train p ≠ .active → s.Runs (.resetReq p) (fun t => t.port p = { s.port p with rxCtrl := rest } ∧ t.regs = s.regs)) := by
  refine ⟨fun ht => ?_, fun ht => ?_⟩ <;> refine State.runs_of_occurs (exec_resetReq hc) hpow ?_
  · rw [show resetWord p rest s.begin = _ from if_pos ht]
    obtain ⟨_, _, hctrl⟩ := linkDown_port (s.begin.takeWord p rest) p .peerReset
    exact ⟨linkDown_train .., linkDown_cause .., by rw [hctrl, takeWord_port]⟩
  · rw [show resetWord p rest s.begin = _ from if_neg ht]
    exact ⟨takeWord_port .., rfl⟩

/-! ### The timers' commands on an ACTIVE port -/

section
variable {s : State} {p : PortIx} (hpow : s.powered = true) (ht : s.train p = .active)
include hpow ht

theorem creditSend_runs (hdue : s.creditDue p = true) : s.Runs (.creditSend p) (fun t => (t.port p).freedSent = (s.port p).freed
    ∧ (t.port p).normal.length = (s.port p).normal.length + 1 ∧ (t.port p).freedAt = none) := by
  refine State.runs_of_occurs (f := fun s => s.sendCredit p) rfl (by simp [hpow, ht, hdue]) ?_
  obtain ⟨c, hport⟩ := sendCredit_port (s := s.begin) (p := p) ht
  rw [hport]
  exact ⟨rfl, List.length_append, rfl⟩

theorem creditTimeout_runs {v : Fin 8} (hstall : s.creditStalled p v = true) : s.Runs (.creditTimeout p v) (fun t =>
    (t.port p).normal.length = (s.port p).normal.length + 1 ∧ (t.port p).zeroAt.find? v.val = some s.time.tick
    ∧ t.get .LNK_CREDIT_credit_stalls p
        = min (s.get .LNK_CREDIT_credit_stalls p + 1) (2 ^ RegField.width .LNK_CREDIT_credit_stalls - 1)) := by
  refine State.runs_of_occurs (f := creditTimeout p v) rfl (by simp [hpow, ht, hstall]) ?_
  rw [creditTimeout_eq (s := s.begin) ht, port_modPort_same, State.countStall, port_modPort_same, modPort_get, modPort_get,
    State.get_bump_same]
  exact ⟨List.length_append, Table.find?_put_same .., rfl⟩

theorem replayTimeout_starts (hdue : s.replayDue p = true) (hu : (s.port p).passUna ≠ some (s.port p).una)
    (hl : 0 < s.get .LNK_TIMER_replay_limit p) : s.Runs (.replayTimeout p) (fun t => (t.port p).pass = some (s.port p).una
      ∧ (t.port p).passes = 1 ∧ (t.port p).kept = (s.port p).kept ∧ t.train p = .active) := by
  refine State.runs_of_occurs (f := fun s => s.startPass p) rfl (by simp [hpow, ht, hdue]) ?_
  rw [startPass_first (s := s.begin) hu hl, port_modPort_same, modPort_train, bump_train_other _ _ _ _ (by decide)]
  exact ⟨rfl, rfl, rfl, ht⟩

theorem replayTimeout_stops (hdue : s.replayDue p = true) (hu : (s.port p).passUna = some (s.port p).una)
    (hl : s.get .LNK_TIMER_replay_limit p ≤ (s.port p).passes) : s.Runs (.replayTimeout p) (fun t =>
      t.train p = s.downTrain p ∧ t.get .LNK_DOWN_last_cause p = Down.replayLimit.code) := by
  refine State.runs_of_occurs (f := fun s => s.startPass p) rfl (by simp [hpow, ht, hdue]) ?_
  rw [startPass_limit (s := s.begin) hu hl]
  exact linkDown_stops ..

theorem gapTimeout_runs (hdue : s.gapDue p = true) : s.Runs (.gapTimeout p) (fun t => (t.port p).fallback = (s.port p).topHeld
    ∧ (t.port p).gaps = [] ∧ (t.port p).nakOpen = true) := by
  refine State.runs_of_occurs (f := fun s => s.fallBack p) rfl (by simp [hpow, ht, hdue]) ?_
  obtain ⟨c, hport⟩ := fallBack_port (s := s.begin) (p := p) ht
  rw [hport]
  exact ⟨rfl, rfl, rfl⟩

theorem lockLoss_runs (hexp : s.lockExpired p = true) : s.Runs (.lockLoss p) (fun t => t.train p = s.downTrain p
    ∧ t.get .LNK_DOWN_last_cause p = Down.lockLoss.code ∧ (t.port p).kept = [] ∧ (t.port p).rxPackets = []) := by
  refine State.runs_of_occurs (f := fun s => s.linkDown p .lockLoss) rfl (by simp [hpow, ht, hexp]) ?_
  obtain ⟨hkept, hpackets, _⟩ := linkDown_port s.begin p .lockLoss
  exact ⟨linkDown_train .., linkDown_cause .., hkept, hpackets⟩

theorem repeatSend_runs {P : State → Prop} (hdue : (s.port p).due s.time.tick ≠ [])
    (h : P ((s.begin.urgentSent p).closeIf p ((s.port p).urgentWords s.time.tick))) : s.Runs (.repeatSend p) P := by
  refine State.runs_of_occurs (f := fun s => s.sendUrgent p) rfl (by simp [hpow, ht, hdue]) ?_
  rw [sendUrgent_eq]
  exact h

theorem repeatSend_sends (hdue : (s.port p).due s.time.tick ≠ []) (hc : (s.port p).closing = none) :
    s.Runs (.repeatSend p) (fun t => (∃ b, t.out = [.flit p b]) ∧ t.regs = s.regs ∧ t.time = s.time
      ∧ (t.port p).urgent = (s.port p).urgent.drop (6 - ((s.port p).due s.time.tick).length)) := by
  obtain ⟨hclosing, hurgent⟩ := urgentSent_port s.begin p
  refine repeatSend_runs hpow ht hdue ?_
  rw [closeIf_open (hclosing.trans hc)]
  exact ⟨⟨_, rfl⟩, rfl, rfl, hurgent⟩

theorem repeatSend_closes (hdue : (s.port p).due s.time.tick ≠ []) {c : Down} (hc : (s.port p).closing = some c)
    (hreset : ∃ r ∈ ((s.port p).due s.time.tick).take 6, r.word.typ = 8) :
    s.Runs (.repeatSend p) (fun t => t.train p = s.downTrain p ∧ t.get .LNK_DOWN_last_cause p = c.code) := by
  obtain ⟨hclosing, _⟩ := urgentSent_port s.begin p
  refine repeatSend_runs hpow ht hdue ?_
  rw [closeIf_closes (hclosing.trans hc) (urgentWords_resetReq hreset)]
  exact linkDown_stops ..

theorem eyeMarginUpdate_runs (m : BitVec 8) (l : Fin 8) : s.Runs (.eyeMarginUpdate p m l) (fun t =>
    t.get .LNK_EYE_margin p = m.toNat ∧ t.get .LNK_EYE_worst_lane p = l.val
      ∧ t.get .LNK_EYE_margin_min p = min m.toNat (s.get .LNK_EYE_margin_min p)
      ∧ t.ports = s.ports ∧ SameRegs [.LNK_EYE_margin, .LNK_EYE_worst_lane, .LNK_EYE_margin_min] s t) := by
  obtain ⟨hmargin, hlane, hmin⟩ := eyeMargin_get s.begin p m.isLt l.isLt
  exact State.runs_of_occurs (f := eyeMargin p m.toNat l.val) rfl (by simp [hpow, ht])
    ⟨hmargin, hlane, hmin, rfl, eyeMargin_sameRegs s.begin p _ _⟩

end

/-- Settles O22: each timer's command on an ACTIVE port, then the lanes' locks and RESET_REQ. -/
theorem linkTimersAct : Obligations.LinkTimersAct := by
  unfold Obligations.LinkTimersAct
  refine ⟨fun p s hpow ht => ?_, fun p l s hpow hused => ?_, fun p s c rest hpow hc => resetReq_runs hpow hc⟩
  · exact ⟨creditSend_runs hpow ht, fun v => creditTimeout_runs hpow ht, replayTimeout_starts hpow ht, replayTimeout_stops hpow ht,
      gapTimeout_runs hpow ht, lockLoss_runs hpow ht,
      fun hdue => ⟨repeatSend_sends hpow ht hdue, fun c hc => repeatSend_closes hpow ht hdue hc⟩, eyeMarginUpdate_runs hpow ht⟩
  · exact ⟨laneLockLost_runs hpow hused, laneLockRegained_runs hpow hused⟩

end Sys2Proof.Machine

namespace Sys2Proof.Machine

/-! ### A link closed for a local cause (R295) -/

theorem closeLink_get (s : State) (p : Nat) (c : Down) (f : RegField) (i : Nat) : (s.closeLink p c).get f i = s.get f i := by
  unfold State.closeLink
  split
  · rfl
  · rw [modPort_get, sendCtrl_get]

theorem closeLink_train (s : State) (p : Nat) (c : Down) (q : Nat) : (s.closeLink p c).train q = s.train q :=
  congrArg Train.ofCode (closeLink_get ..)

/-- RESET_REQ is queued, and the port is to go down. -/
theorem closeLink_port {s : State} {p : Nat} (ht : s.train p = .active) (hc : (s.port p).closing = none) (c : Down) :
    (s.closeLink p c).port p
      = { s.port p with urgent := (s.port p).urgent ++ [plainWord 8 (toLE 1 1) []], closing := some c } := by
  rw [State.closeLink, hc, if_neg (by decide), port_modPort_same, sendCtrl_urgent ht rfl, port_modPort_same]

/-! ### Reset, disable, enable (R289, R295 to R297) -/

section
variable {s : State} {p : Nat}

theorem portReset_active (ht : s.train p = .active) : s.portReset p = s.closeLink p .localReset := by
  unfold State.portReset
  rw [ht]

theorem portReset_failed (ht : s.train p = .down) (hf : (s.port p).failed = true) : s.portReset p = s.detect p := by
  unfold State.portReset
  rw [ht]
  exact if_pos (by simp [hf])

theorem portDisable_active (ht : s.train p = .active) : s.portDisable p = (s.set .LNK_CTRL_enable p 0).closeLink p .disabled := by
  unfold State.portDisable
  dsimp only
  rw [set_train_other _ _ _ _ (by decide), ht]

theorem portDisable_other (ht : s.train p ≠ .active) : s.portDisable p = (s.set .LNK_CTRL_enable p 0).enter p .disabled := by
  unfold State.portDisable
  dsimp only
  rw [set_train_other _ _ _ _ (by decide)]
  split
  · next h => exact absurd h ht
  · rfl

theorem portEnable_disabled (ht : s.train p = .disabled) : s.portEnable p = (s.set .LNK_CTRL_enable p 1).detect p :=
  if_pos ((set_train_other _ _ _ _ (by decide)).trans ht)

/-! ### Writes of LNK_CTRL (R297, R315) -/

/-- LNK_CTRL's fields stand in the low four bits of the value written. -/
theorem ctrlBits {v n : Nat} (h : bits v 3 0 = n) :
    bit v 0 = bit n 0 ∧ bit v 1 = bit n 1 ∧ bits v 2 2 = bits n 2 2 ∧ bit v 3 = bit n 3 := by
  unfold bits at h
  unfold bit bits
  refine ⟨congrArg (· == 1) ?_, congrArg (· == 1) ?_, ?_, congrArg (· == 1) ?_⟩ <;> omega

theorem lnkCtrlWrite_low {v n : Nat} (h : bits v 3 0 = n) : s.lnkCtrlWrite p v = s.lnkCtrlWrite p n := by
  obtain ⟨henable, hreset, hretrain, hlock⟩ := ctrlBits h
  unfold State.lnkCtrlWrite
  rw [henable, hreset, hretrain, hlock]

/-- The port with LNK_CTRL.auto_retrain written 0. -/
def State.noRetrain (s : State) (p : Nat) : State := s.set .LNK_CTRL_auto_retrain p 0

theorem set_retrain_zero (s : State) (p : Nat) : s.set .LNK_CTRL_auto_retrain p 0 = s.noRetrain p := rfl

theorem noRetrain_get (s : State) (p : Nat) {f : RegField} (i : Nat) (h : f ≠ .LNK_CTRL_auto_retrain) :
    (s.noRetrain p).get f i = s.get f i := State.get_set_other s _ (.inl h)

theorem noRetrain_train (s : State) (p q : Nat) : (s.noRetrain p).train q = s.train q := set_train_other s p _ q (by decide)

theorem noRetrain_refused (s : State) (p q : Nat) : (s.noRetrain p).portRefused q = s.portRefused q := by
  have hin : (s.noRetrain p).inPlan q = s.inPlan q := by
    unfold State.inPlan
    rw [noRetrain_get _ _ _ (by decide)]
  have hplan : (s.noRetrain p).planState = s.planState := congrArg PlanState.ofCode (noRetrain_get s p 0 (by decide))
  unfold State.portRefused State.planRuns
  rw [hin, hplan]

/-- A request that R297 refuses is recorded, and nothing else happens. -/
def State.rejectReset (s : State) (p : Nat) : State := s.set .LNK_STATUS_reset_reject p 1

theorem rejectReset_rejects (s : State) (p : Nat) : ((s.noRetrain p).rejectReset p).get .LNK_STATUS_reset_reject p = 1
    ∧ SameRegs [.LNK_STATUS_reset_reject, .LNK_CTRL_auto_retrain] s ((s.noRetrain p).rejectReset p) :=
  ⟨State.get_set_same .., ((SameRegs.refl _ s).set (by decide) p _).set (by decide) p _⟩

variable {v : Nat}

/-- Of an enabled port, enable and reset written. -/
theorem lnkCtrlWrite_reset (hv : bits v 3 0 = 3) (hen : s.get .LNK_CTRL_enable p = 1) : s.lnkCtrlWrite p v =
    if s.portRefused p = true then (s.noRetrain p).rejectReset p else (s.noRetrain p).portReset p := by
  have hen' : (s.noRetrain p).get .LNK_CTRL_enable p = 1 := (noRetrain_get _ _ _ (by decide)).trans hen
  rw [← noRetrain_refused s p p, lnkCtrlWrite_low hv]
  simp [State.lnkCtrlWrite, bit, bits, set_retrain_zero, hen', State.rejectReset]

/-- Of an enabled port, enable written 0. -/
theorem lnkCtrlWrite_disable (hv : bits v 3 0 = 0) (hen : s.get .LNK_CTRL_enable p = 1) : s.lnkCtrlWrite p v =
    if s.portRefused p = true then (s.noRetrain p).rejectReset p else (s.noRetrain p).portDisable p := by
  have hen' : (s.noRetrain p).get .LNK_CTRL_enable p = 1 := (noRetrain_get _ _ _ (by decide)).trans hen
  rw [← noRetrain_refused s p p, lnkCtrlWrite_low hv]
  simp [State.lnkCtrlWrite, bit, bits, set_retrain_zero, hen', State.rejectReset]

/-- Of a port that is not enabled, enable written 1. -/
theorem lnkCtrlWrite_enable (hv : bits v 3 0 = 1) (hen : s.get .LNK_CTRL_enable p = 0) :
    s.lnkCtrlWrite p v = (s.noRetrain p).portEnable p := by
  have hen' : (s.noRetrain p).get .LNK_CTRL_enable p = 0 := (noRetrain_get _ _ _ (by decide)).trans hen
  rw [lnkCtrlWrite_low hv]
  simp [State.lnkCtrlWrite, bit, bits, set_retrain_zero, hen']

/-- Of an enabled port, enable and cfg_lock written. -/
theorem lnkCtrlWrite_lock (hv : bits v 3 0 = 9) (hen : s.get .LNK_CTRL_enable p = 1) :
    s.lnkCtrlWrite p v = (s.noRetrain p).set .LNK_CTRL_cfg_lock p 1 := by
  have hen' : ((s.noRetrain p).set .LNK_CTRL_cfg_lock p 1).get .LNK_CTRL_enable p = 1 := by
    rw [State.get_set_other _ _ (.inl (by decide)), noRetrain_get _ _ _ (by decide), hen]
  rw [lnkCtrlWrite_low hv]
  simp [State.lnkCtrlWrite, bit, bits, set_retrain_zero, hen']

/-! ### Writes of LNK_CFG and LNK_TIMER (R316) -/

theorem lnkCfgWrite_locked (h : s.get .LNK_CTRL_cfg_lock p = 1) : lnkCfgWrite p v s = s := if_pos h
theorem lnkTimerWrite_locked (h : s.get .LNK_CTRL_cfg_lock p = 1) : lnkTimerWrite p v s = s := if_pos h

/-- LNK_CFG's fields, each brought into its range. -/
theorem lnkCfgWrite_get (h : s.get .LNK_CTRL_cfg_lock p = 0) : (lnkCfgWrite p v s).get .LNK_CFG_gen_max p = bits v 0 0
    ∧ (lnkCfgWrite p v s).get .LNK_CFG_max_width p = min (bits v 2 1) 2
    ∧ (lnkCfgWrite p v s).get .LNK_CFG_min_width p = min (bits v 4 3) (min (bits v 2 1) 2)
    ∧ (lnkCfgWrite p v s).get .LNK_CFG_mode p = bits v 5 5
    ∧ (lnkCfgWrite p v s).get .LNK_CFG_vc_count p = max 2 (min 8 (bits v 9 6))
    ∧ (lnkCfgWrite p v s).get .LNK_CFG_retx_mode p = min (bits v 11 10) 2 := by
  have hgen : bits v 0 0 < 2 := bits_lt v 0 0
  have hmode : bits v 5 5 < 2 := bits_lt v 5 5
  unfold lnkCfgWrite
  rw [if_neg (by omega)]
  simp only [State.get_set, reduceCtorEq, false_and, if_false, true_and, if_true]
  refine ⟨Nat.mod_eq_of_lt hgen, Nat.mod_eq_of_lt ?_, Nat.mod_eq_of_lt ?_, Nat.mod_eq_of_lt hmode, Nat.mod_eq_of_lt ?_,
    Nat.mod_eq_of_lt ?_⟩
  · exact show min (bits v 2 1) 2 < 4 by omega
  · exact show min (bits v 4 3) (min (bits v 2 1) 2) < 4 by omega
  · exact show max 2 (min 8 (bits v 9 6)) < 16 by omega
  · exact show min (bits v 11 10) 2 < 4 by omega

/-- LNK_TIMER's fields, 0 taken as 1. -/
theorem lnkTimerWrite_get (h : s.get .LNK_CTRL_cfg_lock p = 0) :
    (lnkTimerWrite p v s).get .LNK_TIMER_replay_to p = max 1 (bits v 7 0)
    ∧ (lnkTimerWrite p v s).get .LNK_TIMER_replay_limit p = max 1 (bits v 15 8)
    ∧ (lnkTimerWrite p v s).get .LNK_TIMER_lock_loss p = max 1 (bits v 23 16)
    ∧ (lnkTimerWrite p v s).get .LNK_TIMER_credit_to p = max 1 (bits v 31 24) := by
  have hbyte {n : Nat} (hn : n < 256) : max 1 n % 256 = max 1 n := Nat.mod_eq_of_lt (by omega)
  unfold lnkTimerWrite
  rw [if_neg (by omega)]
  simp only [State.get_set, reduceCtorEq, false_and, if_false, true_and, if_true]
  exact ⟨hbyte (bits_lt v 7 0), hbyte (bits_lt v 15 8), hbyte (bits_lt v 23 16), hbyte (bits_lt v 31 24)⟩

theorem lnkCfgWrite_ports (s : State) : (lnkCfgWrite p v s).ports = s.ports := by
  unfold lnkCfgWrite
  split
  · rfl
  · simp only [State.set_ports]

theorem lnkTimerWrite_ports (s : State) : (lnkTimerWrite p v s).ports = s.ports := by
  unfold lnkTimerWrite
  split
  · rfl
  · simp only [State.set_ports]

theorem lnkCfgWrite_sets (h : s.get .LNK_CTRL_cfg_lock p = 0) : SameRegs [.LNK_CFG_gen_max, .LNK_CFG_max_width, .LNK_CFG_min_width,
    .LNK_CFG_mode, .LNK_CFG_vc_count, .LNK_CFG_retx_mode] s (lnkCfgWrite p v s) := by
  unfold lnkCfgWrite
  rw [if_neg (by omega)]
  exact ((((((SameRegs.refl _ s).set (by decide) p _).set (by decide) p _).set (by decide) p _).set (by decide) p _).set
    (by decide) p _).set (by decide) p _

theorem lnkTimerWrite_sets (h : s.get .LNK_CTRL_cfg_lock p = 0) : SameRegs [.LNK_TIMER_replay_to, .LNK_TIMER_replay_limit,
    .LNK_TIMER_lock_loss, .LNK_TIMER_credit_to] s (lnkTimerWrite p v s) := by
  unfold lnkTimerWrite
  rw [if_neg (by omega)]
  exact ((((SameRegs.refl _ s).set (by decide) p _).set (by decide) p _).set (by decide) p _).set (by decide) p _

end

/-! ### The parts of the statement -/

section
variable {s : State} {p : PortIx} {v : Word}

theorem lnkCtrlReset_runs {P : State → Prop} (hup : s.hubUp = true) (hv : bits v.toNat 3 0 = 3)
    (hen : s.get .LNK_CTRL_enable p = 1)
    (h : P (if s.portRefused p = true then (s.begin.noRetrain p).rejectReset p else (s.begin.noRetrain p).portReset p)) :
    s.Runs (.lnkCtrlReset p v) P := by
  obtain ⟨_, hreset, _, _⟩ := ctrlBits hv
  refine State.runs_of_occurs (f := fun s => s.lnkCtrlWrite p v.toNat) rfl (by rw [hup, hreset]; rfl) ?_
  rw [lnkCtrlWrite_reset (s := s.begin) hv hen]
  exact h

theorem lnkCtrlEnable_runs {P : State → Prop} (hup : s.hubUp = true) (hchanges : bits v.toNat 0 0 ≠ s.get .LNK_CTRL_enable p)
    (h : P (s.begin.lnkCtrlWrite p v.toNat)) : s.Runs (.lnkCtrlEnable p v) P :=
  State.runs_of_occurs (f := fun s => s.lnkCtrlWrite p v.toNat) rfl (by simp [hup, hchanges]) h

theorem lnkCtrlEnable_disables {P : State → Prop} (hup : s.hubUp = true) (hv : bits v.toNat 3 0 = 0)
    (hen : s.get .LNK_CTRL_enable p = 1)
    (h : P (if s.portRefused p = true then (s.begin.noRetrain p).rejectReset p else (s.begin.noRetrain p).portDisable p)) :
    s.Runs (.lnkCtrlEnable p v) P := by
  have hchanges : bits v.toNat 0 0 ≠ s.get .LNK_CTRL_enable p := by
    rw [hen]
    unfold bits at hv ⊢
    omega
  refine lnkCtrlEnable_runs hup hchanges ?_
  rw [lnkCtrlWrite_disable (s := s.begin) hv hen]
  exact h

/-- A write of reset: refused, or the port's reset. -/
theorem lnkCtrlReset_outcomes (hup : s.hubUp = true) (hv : bits v.toNat 3 0 = 3) (hen : s.get .LNK_CTRL_enable p = 1) :
    (s.portRefused p = true → s.Runs (.lnkCtrlReset p v) (fun t => t.get .LNK_STATUS_reset_reject p = 1 ∧ t.ports = s.ports
      ∧ SameRegs [.LNK_STATUS_reset_reject, .LNK_CTRL_auto_retrain] s t)) ∧
    (s.portRefused p = false → s.train p = .active → (s.port p).closing = none → s.Runs (.lnkCtrlReset p v) (fun t =>
      t.train p = .active ∧ (t.port p).closing = some .localReset ∧ t.get .LNK_CTRL_enable p = 1
      ∧ ∃ c, (t.port p).urgent = (s.port p).urgent ++ [c] ∧ c.typ = 8)) ∧
    (s.portRefused p = false → s.train p = .down → (s.port p).failed = true → s.Runs (.lnkCtrlReset p v) (fun t =>
      t.train p = .detect ∧ (t.port p).failed = false)) := by
  have htrain : (s.begin.noRetrain p).train p = s.train p := noRetrain_train s.begin p p
  refine ⟨fun hr => ?_, fun hr ht hc => ?_, fun hr ht hf => ?_⟩ <;> refine lnkCtrlReset_runs hup hv hen ?_ <;> rw [hr]
  · obtain ⟨hreject, hsame⟩ := rejectReset_rejects s.begin p
    exact ⟨hreject, rfl, hsame⟩
  · have hport := closeLink_port (s := s.begin.noRetrain p) (htrain.trans ht) hc .localReset
    rw [if_neg (by decide), portReset_active (htrain.trans ht), hport, closeLink_train, closeLink_get,
      noRetrain_get _ _ _ (by decide)]
    exact ⟨htrain.trans ht, rfl, hen, _, rfl, rfl⟩
  · rw [if_neg (by decide), portReset_failed (htrain.trans ht) hf]
    exact ⟨detect_train_same .., detect_failed ..⟩

/-- A write of enable 0: refused, or the port's disable. -/
theorem lnkCtrlDisable_outcomes (hup : s.hubUp = true) (hv : bits v.toNat 3 0 = 0) (hen : s.get .LNK_CTRL_enable p = 1) :
    (s.portRefused p = true → s.Runs (.lnkCtrlEnable p v) (fun t => t.get .LNK_STATUS_reset_reject p = 1 ∧ t.ports = s.ports
      ∧ t.get .LNK_CTRL_enable p = 1)) ∧
    (s.portRefused p = false → s.train p ≠ .active → s.Runs (.lnkCtrlEnable p v) (fun t => t.train p = .disabled
      ∧ t.get .LNK_CTRL_enable p = 0)) ∧
    (s.portRefused p = false → s.train p = .active → (s.port p).closing = none → s.Runs (.lnkCtrlEnable p v) (fun t =>
      t.get .LNK_CTRL_enable p = 0 ∧ (t.port p).closing = some .disabled
      ∧ ∃ c, (t.port p).urgent = (s.port p).urgent ++ [c] ∧ c.typ = 8)) := by
  have htrain : (s.begin.noRetrain p).train p = s.train p := noRetrain_train s.begin p p
  refine ⟨fun hr => ?_, fun hr ht => ?_, fun hr ht hc => ?_⟩ <;> refine lnkCtrlEnable_disables hup hv hen ?_ <;> rw [hr]
  · obtain ⟨hreject, hsame⟩ := rejectReset_rejects s.begin p
    exact ⟨hreject, rfl, (hsame _ _ (by decide)).trans hen⟩
  · rw [if_neg (by decide), portDisable_other (by rw [htrain]; exact ht), enter_train, enter_get _ _ _ _ (by decide),
      State.get_set_same]
    exact ⟨rfl, rfl⟩
  · have htrain' : ((s.begin.noRetrain p).set .LNK_CTRL_enable p 0).train p = .active := by
      rw [set_train_other _ _ _ _ (by decide), htrain, ht]
    rw [if_neg (by decide), portDisable_active (htrain.trans ht), closeLink_port htrain' hc, closeLink_get, State.get_set_same]
    exact ⟨rfl, rfl, _, rfl, rfl⟩

/-- A write of enable 1 to a disabled port. -/
theorem lnkCtrlEnable_outcome (hup : s.hubUp = true) (hv : bits v.toNat 3 0 = 1) (hen : s.get .LNK_CTRL_enable p = 0)
    (ht : s.train p = .disabled) :
    s.Runs (.lnkCtrlEnable p v) (fun t => t.train p = .detect ∧ t.get .LNK_CTRL_enable p = 1) := by
  have hchanges : bits v.toNat 0 0 ≠ s.get .LNK_CTRL_enable p := by
    rw [hen]
    unfold bits at hv ⊢
    omega
  refine lnkCtrlEnable_runs hup hchanges ?_
  rw [lnkCtrlWrite_enable (s := s.begin) hv hen, portEnable_disabled ((noRetrain_train s.begin p p).trans ht), detect_train_same,
    detect_get, State.get_set_other _ _ (.inl (by decide)), State.get_set_same]
  exact ⟨rfl, rfl⟩

theorem cfgLock_outcome (hup : s.hubUp = true) (hv : bits v.toNat 3 0 = 9) (hen : s.get .LNK_CTRL_enable p = 1) :
    s.Runs (.cfgLock p v) (fun t => t.get .LNK_CTRL_cfg_lock p = 1 ∧ t.ports = s.ports
      ∧ SameRegs [.LNK_CTRL_cfg_lock, .LNK_CTRL_auto_retrain] s t) := by
  obtain ⟨_, _, _, hlock⟩ := ctrlBits hv
  refine State.runs_of_occurs (f := fun s => s.lnkCtrlWrite p v.toNat) rfl (by rw [hup, hlock]; rfl) ?_
  rw [lnkCtrlWrite_lock (s := s.begin) hv hen, State.get_set_same]
  exact ⟨rfl, rfl, ((SameRegs.refl _ s.begin).set (by decide) p _).set (by decide) p _⟩

end

/-- Settles O23: each value written to LNK_CTRL is one equation of `lnkCtrlWrite`; LNK_CFG and LNK_TIMER are read field by field. -/
theorem portRegisterWrites : Obligations.PortRegisterWrites := by
  unfold Obligations.PortRegisterWrites
  refine ⟨fun p v s => lnkCtrlReset_outcomes, fun p v s => lnkCtrlDisable_outcomes, fun p v s => lnkCtrlEnable_outcome,
    fun p v s => cfgLock_outcome, fun p v s hup => ⟨fun hlock => ⟨?_, ?_⟩, fun hopen => ⟨?_, ?_⟩⟩⟩
  · show occurs s.hubUp (lnkCfgWrite p v.toNat) s = _
    rw [hup, occurs_true, lnkCfgWrite_locked (s := s.begin) hlock]
  · show occurs s.hubUp (lnkTimerWrite p v.toNat) s = _
    rw [hup, occurs_true, lnkTimerWrite_locked (s := s.begin) hlock]
  · obtain ⟨hgen, hmax, hmin, hmode, hvcs, hretx⟩ := lnkCfgWrite_get (s := s.begin) (p := p) (v := v.toNat) hopen
    exact State.runs_of_occurs (f := lnkCfgWrite p v.toNat) rfl hup
      ⟨hgen, hmax, hmin, hmode, hvcs, hretx, lnkCfgWrite_ports _, lnkCfgWrite_sets (s := s.begin) hopen⟩
  · obtain ⟨hto, hlimit, hloss, hcredit⟩ := lnkTimerWrite_get (s := s.begin) (p := p) (v := v.toNat) hopen
    exact State.runs_of_occurs (f := lnkTimerWrite p v.toNat) rfl hup
      ⟨hto, hlimit, hloss, hcredit, lnkTimerWrite_ports _, lnkTimerWrite_sets (s := s.begin) hopen⟩

end Sys2Proof.Machine
